-- ==== Sys2Proof/Word.lean ====
section
/-!
DEFINITION. The word types of the machine and their plainest arithmetic.
-/

namespace Sys2Proof

/-- An instruction word (R31), and one thread's value of a vector register (R25). -/
abbrev Word := BitVec 32

/-- A scalar register, a mask, an address being computed (R25). -/
abbrev Dword := BitVec 64

/-- A byte of memory (R2). -/
abbrev Byte := BitVec 8

/-- A register field: 0 to 127 (R33). -/
abbrev Reg := BitVec 7

/-- The values of one vector register, thread by thread (R14). -/
abbrev Lanes := List Word

/-- One bit for each thread: a mask or a flag set (R76, R94). -/
abbrev Mask := BitVec 64

/-- The access width of R35: the size codes 0 to 4. Codes 5 to 7 are reserved and name no instruction. -/
inductive Size where
  | b1 | b2 | b4 | b8 | b16
  deriving DecidableEq, Repr

/-- The number of bytes of one access (R35). -/
def Size.bytes : Size → Nat
  | .b1 => 1 | .b2 => 2 | .b4 => 4 | .b8 => 8 | .b16 => 16

/-- The size code of R35. -/
def Size.code : Size → BitVec 3
  | .b1 => 0 | .b2 => 1 | .b4 => 2 | .b8 => 3 | .b16 => 4

/-- The access width a size code names; codes 5 to 7 are reserved (R35). -/
def Size.ofCode (c : BitVec 3) : Option Size :=
  match c.toNat with
  | 0 => some .b1 | 1 => some .b2 | 2 => some .b4 | 3 => some .b8 | 4 => some .b16
  | _ => none

end Sys2Proof
end

