-- ==== Sys2Proof/Config.lean ====
section
/-!
DEFINITION. What the spec leaves open: free values, which have no body, so that nothing can be proved of what they are.
-/

namespace Sys2Proof.Config

/-- The nth free byte (log 4): a byte the spec calls undefined, such as the tile of a failed prefetch (R257). -/
opaque freeByte : Nat → BitVec 8

/-- What a byte of a 16-byte sector reads as where it was written under another key (R362; log 4): the sector, the tags its
bytes were written under, the tag of the reading key, the sector's bytes, and which of them is read. -/
opaque scramble : Nat → List Nat → Nat → List (BitVec 8) → Nat → BitVec 8

/-- Whether the home slice of a line of a stack that retrains holds it in a cycle, so that an access hits (R384; log 4): cycle,
line. -/
opaque holdsLine : Nat → Nat → Bool

/-- The signature of SLH-DSA-SHAKE-256s by the identity key (R364; log 4). -/
opaque sign : List (BitVec 8) → List (BitVec 8)

/-- Whether a signature verifies under a public key (R373; log 4): key, message, signature. -/
opaque verify : List (BitVec 8) → List (BitVec 8) → List (BitVec 8) → Bool

/-- The identity public key that a device secret gives (R364, R374; log 4). -/
opaque identityKey : List (BitVec 8) → List (BitVec 8)

/-- The nth byte of the on-die entropy source (R374; log 4). -/
opaque entropy : Nat → BitVec 8

end Sys2Proof.Config
end

