-- ==== Sys2Proof/Syntax.lean ====
section
/-!
DEFINITION. The instruction set as syntax (R31 to R51) and the steps the units of the machine take on their own
(the rows of the opcode table that have no word). One constructor for each row of the opcode table, in its order.
-/

namespace Sys2Proof

/-- One constructor for each row of the opcode table. A field `m` is the switch marker (R31); `d`, `a`, `b` and `c`
are register fields (R33); the other fields are named as the table names them. The rows after `pvq` are steps of
units: their arguments say which unit acts on what. -/
inductive Instr where
  | vadd (m : Bool) (d a b : Reg)
  | vsub (m : Bool) (d a b : Reg)
  | vaddsI32 (m : Bool) (d a b : Reg)
  | vaddsN32 (m : Bool) (d a b : Reg)
  | vsubsI32 (m : Bool) (d a b : Reg)
  | vsubsN32 (m : Bool) (d a b : Reg)
  | vaddS (m : Bool) (d a b : Reg)
  | vsubS (m : Bool) (d a b : Reg)
  | vaddsI32S (m : Bool) (d a b : Reg)
  | vaddsN32S (m : Bool) (d a b : Reg)
  | vsubsI32S (m : Bool) (d a b : Reg)
  | vsubsN32S (m : Bool) (d a b : Reg)
  | vmul (m : Bool) (d a b : Reg)
  | vmulhI32 (m : Bool) (d a b : Reg)
  | vmulhN32 (m : Bool) (d a b : Reg)
  | vmad (m : Bool) (d a b : Reg)
  | vdivI32 (m : Bool) (d a b : Reg)
  | vdivN32 (m : Bool) (d a b : Reg)
  | vremI32 (m : Bool) (d a b : Reg)
  | vremN32 (m : Bool) (d a b : Reg)
  | vmulS (m : Bool) (d a b : Reg)
  | vmulhI32S (m : Bool) (d a b : Reg)
  | vmulhN32S (m : Bool) (d a b : Reg)
  | vmadS (m : Bool) (d a b : Reg)
  | vdivI32S (m : Bool) (d a b : Reg)
  | vdivN32S (m : Bool) (d a b : Reg)
  | vremI32S (m : Bool) (d a b : Reg)
  | vremN32S (m : Bool) (d a b : Reg)
  | vand (m : Bool) (d a b : Reg)
  | vor (m : Bool) (d a b : Reg)
  | vxor (m : Bool) (d a b : Reg)
  | vandn (m : Bool) (d a b : Reg)
  | vshl (m : Bool) (d a b : Reg)
  | vshr (m : Bool) (d a b : Reg)
  | vsra (m : Bool) (d a b : Reg)
  | vrol (m : Bool) (d a b : Reg)
  | vandS (m : Bool) (d a b : Reg)
  | vorS (m : Bool) (d a b : Reg)
  | vxorS (m : Bool) (d a b : Reg)
  | vandnS (m : Bool) (d a b : Reg)
  | vshlS (m : Bool) (d a b : Reg)
  | vshrS (m : Bool) (d a b : Reg)
  | vsraS (m : Bool) (d a b : Reg)
  | vrolS (m : Bool) (d a b : Reg)
  | vminI32 (m : Bool) (d a b : Reg)
  | vmaxI32 (m : Bool) (d a b : Reg)
  | vminN32 (m : Bool) (d a b : Reg)
  | vmaxN32 (m : Bool) (d a b : Reg)
  | vabsI32 (m : Bool) (d a : Reg)
  | vclz (m : Bool) (d a : Reg)
  | vpopc (m : Bool) (d a : Reg)
  | vbrev (m : Bool) (d a : Reg)
  | vminI32S (m : Bool) (d a b : Reg)
  | vmaxI32S (m : Bool) (d a b : Reg)
  | vminN32S (m : Bool) (d a b : Reg)
  | vmaxN32S (m : Bool) (d a b : Reg)
  | vcmpEq (m : Bool) (d a b : Reg)
  | vcmpNe (m : Bool) (d a b : Reg)
  | vcmpLt (m : Bool) (d a b : Reg)
  | vcmpLe (m : Bool) (d a b : Reg)
  | vcmpGt (m : Bool) (d a b : Reg)
  | vcmpGe (m : Bool) (d a b : Reg)
  | vcmpLo (m : Bool) (d a b : Reg)
  | vcmpLs (m : Bool) (d a b : Reg)
  | vcmpHi (m : Bool) (d a b : Reg)
  | vcmpHs (m : Bool) (d a b : Reg)
  | vcmpEqS (m : Bool) (d a b : Reg)
  | vcmpNeS (m : Bool) (d a b : Reg)
  | vcmpLtS (m : Bool) (d a b : Reg)
  | vcmpLeS (m : Bool) (d a b : Reg)
  | vcmpGtS (m : Bool) (d a b : Reg)
  | vcmpGeS (m : Bool) (d a b : Reg)
  | vcmpLoS (m : Bool) (d a b : Reg)
  | vcmpLsS (m : Bool) (d a b : Reg)
  | vcmpHiS (m : Bool) (d a b : Reg)
  | vcmpHsS (m : Bool) (d a b : Reg)
  | vsel (m : Bool) (d a b : Reg)
  | vmov (m : Bool) (d a : Reg)
  | vmovS (m : Bool) (d b : Reg)
  | vtid (m : Bool) (d : Reg)
  | vaddi (m : Bool) (d a : Reg) (i : BitVec 10)
  | vmovi (m : Bool) (d : Reg) (i : BitVec 10)
  | vandi (m : Bool) (d a : Reg) (i : BitVec 10)
  | vori (m : Bool) (d a : Reg) (i : BitVec 10)
  | vxori (m : Bool) (d a : Reg) (i : BitVec 10)
  | vshli (m : Bool) (d a : Reg) (c : BitVec 5)
  | vshri (m : Bool) (d a : Reg) (c : BitVec 5)
  | vsrai (m : Bool) (d a : Reg) (c : BitVec 5)
  | vmuli (m : Bool) (d a : Reg) (i : BitVec 10)
  | vfaddF32 (m : Bool) (d a b : Reg)
  | vfsubF32 (m : Bool) (d a b : Reg)
  | vfmulF32 (m : Bool) (d a b : Reg)
  | vfminF32 (m : Bool) (d a b : Reg)
  | vfmaxF32 (m : Bool) (d a b : Reg)
  | vfmaF32 (m : Bool) (d a b : Reg)
  | vfmsF32 (m : Bool) (d a b : Reg)
  | vfnmaF32 (m : Bool) (d a b : Reg)
  | vfaddF16x2 (m : Bool) (d a b : Reg)
  | vfsubF16x2 (m : Bool) (d a b : Reg)
  | vfmulF16x2 (m : Bool) (d a b : Reg)
  | vfminF16x2 (m : Bool) (d a b : Reg)
  | vfmaxF16x2 (m : Bool) (d a b : Reg)
  | vfmaF16x2 (m : Bool) (d a b : Reg)
  | vfmsF16x2 (m : Bool) (d a b : Reg)
  | vfnmaF16x2 (m : Bool) (d a b : Reg)
  | vfaddBf16x2 (m : Bool) (d a b : Reg)
  | vfsubBf16x2 (m : Bool) (d a b : Reg)
  | vfmulBf16x2 (m : Bool) (d a b : Reg)
  | vfminBf16x2 (m : Bool) (d a b : Reg)
  | vfmaxBf16x2 (m : Bool) (d a b : Reg)
  | vfmaBf16x2 (m : Bool) (d a b : Reg)
  | vfmsBf16x2 (m : Bool) (d a b : Reg)
  | vfnmaBf16x2 (m : Bool) (d a b : Reg)
  | vfaddF32S (m : Bool) (d a b : Reg)
  | vfsubF32S (m : Bool) (d a b : Reg)
  | vfmulF32S (m : Bool) (d a b : Reg)
  | vfminF32S (m : Bool) (d a b : Reg)
  | vfmaxF32S (m : Bool) (d a b : Reg)
  | vfmaF32S (m : Bool) (d a b : Reg)
  | vfmsF32S (m : Bool) (d a b : Reg)
  | vfnmaF32S (m : Bool) (d a b : Reg)
  | vfcmpEqF32 (m : Bool) (d a b : Reg)
  | vfcmpNeF32 (m : Bool) (d a b : Reg)
  | vfcmpLtF32 (m : Bool) (d a b : Reg)
  | vfcmpLeF32 (m : Bool) (d a b : Reg)
  | vfcmpGtF32 (m : Bool) (d a b : Reg)
  | vfcmpGeF32 (m : Bool) (d a b : Reg)
  | vfcmpUnF32 (m : Bool) (d a b : Reg)
  | vfcmpEqF16x2 (m : Bool) (d a b : Reg)
  | vfcmpNeF16x2 (m : Bool) (d a b : Reg)
  | vfcmpLtF16x2 (m : Bool) (d a b : Reg)
  | vfcmpLeF16x2 (m : Bool) (d a b : Reg)
  | vfcmpGtF16x2 (m : Bool) (d a b : Reg)
  | vfcmpGeF16x2 (m : Bool) (d a b : Reg)
  | vfcmpUnF16x2 (m : Bool) (d a b : Reg)
  | vfcmpEqBf16x2 (m : Bool) (d a b : Reg)
  | vfcmpNeBf16x2 (m : Bool) (d a b : Reg)
  | vfcmpLtBf16x2 (m : Bool) (d a b : Reg)
  | vfcmpLeBf16x2 (m : Bool) (d a b : Reg)
  | vfcmpGtBf16x2 (m : Bool) (d a b : Reg)
  | vfcmpGeBf16x2 (m : Bool) (d a b : Reg)
  | vfcmpUnBf16x2 (m : Bool) (d a b : Reg)
  | vfclassF32 (m : Bool) (d a : Reg)
  | vfclassF16x2 (m : Bool) (d a : Reg)
  | vfclassBf16x2 (m : Bool) (d a : Reg)
  | vrcp (m : Bool) (d a : Reg)
  | vrsq (m : Bool) (d a : Reg)
  | vsqrt (m : Bool) (d a : Reg)
  | vexp2 (m : Bool) (d a : Reg)
  | vlog2 (m : Bool) (d a : Reg)
  | vsin (m : Bool) (d a : Reg)
  | vcos (m : Bool) (d a : Reg)
  | vtanh (m : Bool) (d a : Reg)
  | vfdivF32 (m : Bool) (d a b : Reg)
  | vfdivF32S (m : Bool) (d a b : Reg)
  | vcvt (m : Bool) (d a c : Reg)
  | vcvtSr (m : Bool) (d a c : Reg)
  | vcvtSat (m : Bool) (d a c : Reg)
  | vcvtSatSr (m : Bool) (d a c : Reg)
  | vqblkE2m1x (m : Bool) (d a : Reg)
  | vqblkE4m3 (m : Bool) (d a : Reg)
  | vqblkE5m2 (m : Bool) (d a : Reg)
  | vpopa (m : Bool) (d : Reg)
  | vshflIdx (m : Bool) (d a b : Reg)
  | vshflUp (m : Bool) (d a b : Reg)
  | vshflDown (m : Bool) (d a b : Reg)
  | vshflXor (m : Bool) (d a b : Reg)
  | vperm8Lo (m : Bool) (d a b : Reg)
  | vperm8Hi (m : Bool) (d a b : Reg)
  | vbcast (m : Bool) (d a b : Reg)
  | vext (m : Bool) (d a b : Reg)
  | vlredAddI32 (m : Bool) (d a : Reg)
  | vlredMinI32 (m : Bool) (d a : Reg)
  | vlredMaxI32 (m : Bool) (d a : Reg)
  | vlredMinN32 (m : Bool) (d a : Reg)
  | vlredMaxN32 (m : Bool) (d a : Reg)
  | vlredFaddF32 (m : Bool) (d a : Reg)
  | vlredFminF32 (m : Bool) (d a : Reg)
  | vlredFmaxF32 (m : Bool) (d a : Reg)
  | vscanAddI32 (m : Bool) (d a : Reg)
  | vscanMinI32 (m : Bool) (d a : Reg)
  | vscanMaxI32 (m : Bool) (d a : Reg)
  | vscanMinN32 (m : Bool) (d a : Reg)
  | vscanMaxN32 (m : Bool) (d a : Reg)
  | vscanFaddF32 (m : Bool) (d a : Reg)
  | vscanFminF32 (m : Bool) (d a : Reg)
  | vscanFmaxF32 (m : Bool) (d a : Reg)
  | voteAny (m : Bool) (d a p : Reg)
  | voteAll (m : Bool) (d a p : Reg)
  | voteBallot (m : Bool) (d a p : Reg)
  | vfirst (m : Bool) (d a p : Reg)
  | vld (m : Bool) (d a : Reg) (g : BitVec 3) (s : Size) (i : BitVec 4)
  | vlds (m : Bool) (d a : Reg) (g : BitVec 3) (s : Size) (i : BitVec 4)
  | vst (m : Bool) (d a : Reg) (g : BitVec 3) (s : Size) (i : BitVec 4)
  | vatomAdd (m : Bool) (d a : Reg) (g : BitVec 3) (s : Size)
  | vatomSub (m : Bool) (d a : Reg) (g : BitVec 3) (s : Size)
  | vatomMinI (m : Bool) (d a : Reg) (g : BitVec 3) (s : Size)
  | vatomMaxI (m : Bool) (d a : Reg) (g : BitVec 3) (s : Size)
  | vatomMinN (m : Bool) (d a : Reg) (g : BitVec 3) (s : Size)
  | vatomMaxN (m : Bool) (d a : Reg) (g : BitVec 3) (s : Size)
  | vatomAnd (m : Bool) (d a : Reg) (g : BitVec 3) (s : Size)
  | vatomOr (m : Bool) (d a : Reg) (g : BitVec 3) (s : Size)
  | vatomXor (m : Bool) (d a : Reg) (g : BitVec 3) (s : Size)
  | vatomXchg (m : Bool) (d a : Reg) (g : BitVec 3) (s : Size)
  | vatomCas (m : Bool) (d a : Reg) (g : BitVec 3) (s : Size)
  | vatomFadd (m : Bool) (d a : Reg) (g : BitVec 3) (s : Size)
  | vatomFmin (m : Bool) (d a : Reg) (g : BitVec 3) (s : Size)
  | vatomFmax (m : Bool) (d a : Reg) (g : BitVec 3) (s : Size)
  | vatomAddBf16x2 (m : Bool) (d a : Reg) (g : BitVec 3) (s : Size)
  | vredAdd (m : Bool) (d a : Reg) (g : BitVec 3) (s : Size)
  | vredSub (m : Bool) (d a : Reg) (g : BitVec 3) (s : Size)
  | vredMinI (m : Bool) (d a : Reg) (g : BitVec 3) (s : Size)
  | vredMaxI (m : Bool) (d a : Reg) (g : BitVec 3) (s : Size)
  | vredMinN (m : Bool) (d a : Reg) (g : BitVec 3) (s : Size)
  | vredMaxN (m : Bool) (d a : Reg) (g : BitVec 3) (s : Size)
  | vredAnd (m : Bool) (d a : Reg) (g : BitVec 3) (s : Size)
  | vredOr (m : Bool) (d a : Reg) (g : BitVec 3) (s : Size)
  | vredXor (m : Bool) (d a : Reg) (g : BitVec 3) (s : Size)
  | vredFadd (m : Bool) (d a : Reg) (g : BitVec 3) (s : Size)
  | vredFmin (m : Bool) (d a : Reg) (g : BitVec 3) (s : Size)
  | vredFmax (m : Bool) (d a : Reg) (g : BitVec 3) (s : Size)
  | vredAddBf16x2 (m : Bool) (d a : Reg) (g : BitVec 3) (s : Size)
  | nop (m : Bool)
  | yield (m : Bool)
  | exit (m : Bool)
  | sadd (m : Bool) (d a b : Reg)
  | ssub (m : Bool) (d a b : Reg)
  | saddsI64 (m : Bool) (d a b : Reg)
  | saddsN64 (m : Bool) (d a b : Reg)
  | ssubsI64 (m : Bool) (d a b : Reg)
  | ssubsN64 (m : Bool) (d a b : Reg)
  | smul (m : Bool) (d a b : Reg)
  | smulhI64 (m : Bool) (d a b : Reg)
  | smulhN64 (m : Bool) (d a b : Reg)
  | sdivI64 (m : Bool) (d a b : Reg)
  | sdivN64 (m : Bool) (d a b : Reg)
  | sremI64 (m : Bool) (d a b : Reg)
  | sremN64 (m : Bool) (d a b : Reg)
  | sand (m : Bool) (d a b : Reg)
  | sor (m : Bool) (d a b : Reg)
  | sxor (m : Bool) (d a b : Reg)
  | sandn (m : Bool) (d a b : Reg)
  | sshl (m : Bool) (d a b : Reg)
  | sshr (m : Bool) (d a b : Reg)
  | ssra (m : Bool) (d a b : Reg)
  | srol (m : Bool) (d a b : Reg)
  | sminI64 (m : Bool) (d a b : Reg)
  | smaxI64 (m : Bool) (d a b : Reg)
  | sminN64 (m : Bool) (d a b : Reg)
  | smaxN64 (m : Bool) (d a b : Reg)
  | sabsI64 (m : Bool) (d a : Reg)
  | sclz (m : Bool) (d a : Reg)
  | spopc (m : Bool) (d a : Reg)
  | sbrev (m : Bool) (d a : Reg)
  | scmpEq (m : Bool) (d a b : Reg)
  | scmpNe (m : Bool) (d a b : Reg)
  | scmpLt (m : Bool) (d a b : Reg)
  | scmpLe (m : Bool) (d a b : Reg)
  | scmpGt (m : Bool) (d a b : Reg)
  | scmpGe (m : Bool) (d a b : Reg)
  | scmpLo (m : Bool) (d a b : Reg)
  | scmpLs (m : Bool) (d a b : Reg)
  | scmpHi (m : Bool) (d a b : Reg)
  | scmpHs (m : Bool) (d a b : Reg)
  | smov (m : Bool) (d a : Reg)
  | scsel (m : Bool) (d a b : Reg)
  | saddi (m : Bool) (d a : Reg) (i : BitVec 10)
  | sandi (m : Bool) (d a : Reg) (i : BitVec 10)
  | sori (m : Bool) (d a : Reg) (i : BitVec 10)
  | sxori (m : Bool) (d a : Reg) (i : BitVec 10)
  | sshli (m : Bool) (d a : Reg) (c : BitVec 6)
  | sshri (m : Bool) (d a : Reg) (c : BitVec 6)
  | ssrai (m : Bool) (d a : Reg) (c : BitVec 6)
  | smovi (m : Bool) (d : Reg) (i : BitVec 10)
  | mand (m : Bool) (d a b : Reg)
  | mor (m : Bool) (d a b : Reg)
  | mxor (m : Bool) (d a b : Reg)
  | mandn (m : Bool) (d a b : Reg)
  | mnot (m : Bool) (d a : Reg)
  | mpopc (m : Bool) (d a : Reg)
  | mffs (m : Bool) (d a : Reg)
  | mfls (m : Bool) (d a : Reg)
  | mffNv (m : Bool) (d : Reg) (n : Bool)
  | mffDz (m : Bool) (d : Reg) (n : Bool)
  | mffOf (m : Bool) (d : Reg) (n : Bool)
  | mffUf (m : Bool) (d : Reg) (n : Bool)
  | mffNx (m : Bool) (d : Reg) (n : Bool)
  | mffclr (m : Bool) (a : Reg) (n : Bool)
  | rep (n : BitVec 6) (d a b : BitVec 2)
  | limm (p : BitVec 24)
  | br (m : Bool) (o : BitVec 24)
  | call (m : Bool) (o : BitVec 24)
  | bz (m : Bool) (a : Reg) (o : BitVec 17)
  | bnz (m : Bool) (a : Reg) (o : BitVec 17)
  | bmz (m : Bool) (a : Reg) (o : BitVec 17)
  | bmnz (m : Bool) (a : Reg) (o : BitVec 17)
  | jr (m : Bool) (a : Reg)
  | jalr (m : Bool) (d a : Reg)
  | sld (m : Bool) (d a : Reg) (g : BitVec 3) (s : Size) (i : BitVec 4)
  | slds (m : Bool) (d a : Reg) (g : BitVec 3) (s : Size) (i : BitVec 4)
  | sst (m : Bool) (d a : Reg) (g : BitVec 3) (s : Size) (i : BitVec 4)
  | satomAdd (m : Bool) (d a : Reg) (g : BitVec 3) (s : Size)
  | satomSub (m : Bool) (d a : Reg) (g : BitVec 3) (s : Size)
  | satomMinI (m : Bool) (d a : Reg) (g : BitVec 3) (s : Size)
  | satomMaxI (m : Bool) (d a : Reg) (g : BitVec 3) (s : Size)
  | satomMinN (m : Bool) (d a : Reg) (g : BitVec 3) (s : Size)
  | satomMaxN (m : Bool) (d a : Reg) (g : BitVec 3) (s : Size)
  | satomAnd (m : Bool) (d a : Reg) (g : BitVec 3) (s : Size)
  | satomOr (m : Bool) (d a : Reg) (g : BitVec 3) (s : Size)
  | satomXor (m : Bool) (d a : Reg) (g : BitVec 3) (s : Size)
  | satomXchg (m : Bool) (d a : Reg) (g : BitVec 3) (s : Size)
  | satomCas (m : Bool) (d a : Reg) (g : BitVec 3) (s : Size)
  | satomFadd (m : Bool) (d a : Reg) (g : BitVec 3) (s : Size)
  | satomFmin (m : Bool) (d a : Reg) (g : BitVec 3) (s : Size)
  | satomFmax (m : Bool) (d a : Reg) (g : BitVec 3) (s : Size)
  | satomAddBf16x2 (m : Bool) (d a : Reg) (g : BitVec 3) (s : Size)
  | hflush (m : Bool) (g : BitVec 3) (a b : Reg)
  | hinval (m : Bool) (g : BitVec 3) (a b : Reg)
  | sysr (m : Bool) (r : BitVec 12) (s : Reg)
  | sysw (m : Bool) (r : BitVec 12) (s : Reg)
  | trap (m : Bool) (a : Reg)
  | tretResume (m : Bool) (a : Reg)
  | tretEndReturn (m : Bool) (a : Reg)
  | tretEndDiscard (m : Bool) (a : Reg)
  | brk (m : Bool)
  | segld (m : Bool) (n : BitVec 3) (a : Reg) (g : BitVec 3)
  | tlbinv (m : Bool) (a b : Reg)
  | tlbsync (m : Bool)
  | ctxsave (m : Bool) (d a b : Reg)
  | ctxrest (m : Bool) (d a b : Reg)
  | cpy (m : Bool) (q : BitVec 2) (k : BitVec 3) (a b c : Reg)
  | cpyMc (m : Bool) (q : BitVec 2) (k : BitVec 3) (a b c : Reg)
  | cpyRow (m : Bool) (k : BitVec 3) (a b : Reg) (q : BitVec 2)
  | cpyClose (m : Bool) (k : BitVec 3) (q : BitVec 2)
  | kwait (m : Bool) (k : BitVec 8)
  | kwaitObj (m : Bool) (d a : Reg) (g : BitVec 3)
  | qfence (m : Bool) (k : BitVec 3) (q : BitVec 4)
  | mcready (m : Bool) (d a b : Reg)
  | preserve (m : Bool) (d a b : Reg)
  | pcommit (m : Bool) (b : Reg)
  | pclaim (m : Bool) (d a b : Reg)
  | prelease (m : Bool) (b : Reg)
  | pquery (m : Bool) (d a : Reg)
  | send (m : Bool) (a b : Reg)
  | sendw (m : Bool) (d a b : Reg)
  | pportq (m : Bool) (d a : Reg)
  | jen (m : Bool) (a : Reg)
  | jdis (m : Bool) (a : Reg)
  | barArr (m : Bool) (g : BitVec 3) (a b : Reg)
  | barWait (m : Bool) (g : BitVec 3) (a b : Reg)
  | barArw (m : Bool) (g : BitVec 3) (a : Reg)
  | abarArr (m : Bool) (d : Reg) (n : BitVec 5)
  | abarWait (m : Bool) (n : BitVec 5) (b : Reg)
  | abarTest (m : Bool) (d : Reg) (n : BitVec 5) (b : Reg)
  | mma (m : Bool) (t : BitVec 3) (a b c : Reg)
  | mmaSp (m : Bool) (t : BitVec 3) (a b c : Reg)
  | mzero (m : Bool) (t : BitVec 3)
  | mrows (m : Bool) (t : BitVec 3)
  | mldacc (m : Bool) (t : BitVec 3) (a : Reg)
  | mstacc (m : Bool) (t : BitVec 3) (a b : Reg)
  | mvm (m : Bool) (k : BitVec 3) (a b c : Reg)
  | planLd (m : Bool) (d a : Reg) (g : BitVec 3)
  | planGoStart (m : Bool) (d a b : Reg)
  | planGoDrainFinish (m : Bool) (d a b : Reg)
  | planGoDrainDiscard (m : Bool) (d a b : Reg)
  | planGoRemove (m : Bool) (d a b : Reg)
  | spawn (m : Bool) (a b : Reg)
  | pvalloc (m : Bool) (d a b : Reg)
  | pvfree (m : Bool) (d a : Reg)
  | pvq (m : Bool) (d a : Reg)
  | loadResultReturn (gid n k : Nat)
  | storePerformed (gid : Nat)
  | retryHintExpiry (gid : Nat)
  | sliceRedirect (gid : Nat)
  | sliceRetire (d slices heirs : Nat)
  | sliceStubRemove (d : Nat)
  | orangeryRefreshAdvance
  | tlbsyncComplete (gid : Nat)
  | hostSyncPerformed (gid : Nat)
  | hostBelvedereWrite (off len value : Nat)
  | hostBelvedereRead (off len : Nat)
  | atomicRequestAtHome (gid : Nat)
  | atomicReply (gid n k : Nat)
  | barrierWake (gid : Nat)
  | arborRelease (h n : Nat)
  | copyEntryStart (core q : Nat)
  | copyPiece (core q off : Nat)
  | copyEntryComplete (core q : Nat)
  | kwaitObjWake (gid : Nat)
  | fenceEntryHead (core q : Nat)
  | multicastSort (core q : Nat)
  | multicastResort (core q : Nat)
  | multicastAck (core q i : Nat)
  | holdingBufferDrain (cl n off : Nat)
  | bulkStreamClose (core q : Nat)
  | bulkStreamTimeout (core q : Nat)
  | pipeRefillStart (h n : Nat)
  | pipeRefillComplete (h n : Nat)
  | preserveUnblock (gid : Nat)
  | pipeHeadRise (d : Nat)
  | messageAdmission (gid : Nat)
  | waiterAdmission (d : Nat)
  | messageReturn (task : Nat)
  | runQueueEntryFree (d : Nat)
  | taskRecordEntry (d : Nat)
  | sendwComplete (gid : Nat)
  | hostDoorbellWrite (off len value : Nat)
  | hostDoorbellRead (off : Nat)
  | faultEventAdmit (h : Nat)
  | taskDispatch (core : Nat)
  | taskStart (task : Nat)
  | groupExitDrained (gid : Nat)
  | queueOverflow (core : Nat)
  | queueUnderflow (core : Nat)
  | priorityRecompute (d : Nat)
  | preemptTick (d : Nat)
  | rebalanceTick (h d : Nat)
  | coreMoveLoad (core n : Nat)
  | deadlockDetect (h : Nat)
  | drainQuiescence (h : Nat)
  | gangStateObserve (gid : Nat)
  | gangTimeout (gid : Nat)
  | flitReceive (p seq vc ack : Nat) (nak : Bool) (cvc credit rest fwd : Nat)
  | idleFlit (p : Nat)
  | retrainComplete (p : Nat)
  | retrainLimitExpiry (p : Nat)
  | retrainBucketDecay (p : Nat)
  | forwardStallRelease (p vc : Nat)
  | linkSilenceTimeout (p : Nat)
  | fatalErrorNotice (sw : Nat)
  | portDownNotice (dev sw : Nat)
  | matrixCommandStart (task : Nat)
  | operandFetchComplete (core : Nat)
  | multiplyStart (task : Nat)
  | multiplyComplete (task : Nat)
  | mrowsRowEnter (task : Nat)
  | mvmComplete (op : Nat)
  | trapEntry (gid : Nat)
  | stepBlockTimeout (gid : Nat)
  | srseedWrite (m : Bool) (s : Reg)
  | keyLoad (m : Bool) (s : Reg)
  | keyClear (m : Bool) (s : Reg)
  | keyOpDone
  | measExtend (m : Bool) (s : Reg)
  | measExtendDone
  | attestStart (m : Bool) (s : Reg)
  | attestDone (ok : Nat)
  | pavQuotaWrite (m : Bool) (s : Reg)
  | pavQuotaDone
  | fabLostClear (m : Bool) (s : Reg)
  | devLostClear (m h : Bool) (s : Reg)
  | controlRegWrite (gid : Nat)
  | railEnable (gid : Nat)
  | railGood (d r : Nat)
  | railLimitExpiry (d r : Nat)
  | cpRun (gid : Nat)
  | cpHaltqRead (gid : Nat)
  | hbmInit (gid : Nat)
  | hbmInitDone (d : Nat)
  | hbmTrain (gid : Nat)
  | hbmTrainDone (d lanes : Nat)
  | hbmTrainLimitExpiry (d : Nat)
  | hbmServe (gid : Nat)
  | hbmMrGo (gid : Nat)
  | hbmMrDone (d : Nat)
  | ucieTrain (gid : Nat)
  | ucieTrainDone (d e : Nat)
  | ucieTrainLimitExpiry (d e : Nat)
  | pcieTrain (gid : Nat)
  | pcieTrainDone
  | pcieTrainLimitExpiry
  | cxlEnable (gid : Nat)
  | ualTrain (gid : Nat)
  | ualTrainDone (p peer : Nat)
  | ualTrainLimitExpiry (p : Nat)
  | ualServe (gid : Nat)
  | arbTestGo (gid : Nat)
  | arbTestDone (bad : Nat)
  | coreTestGo (gid : Nat)
  | coreTestDone (d c mask : Nat)
  | orgTestGo (gid : Nat)
  | orgTestDone (d banks : Nat)
  | flashProgram (gid : Nat)
  | flashWordStored
  | powerOn (rails failed : Nat)
  | powerCapCheck (target : Nat)
  | dieOvertemp (d temp : Nat)
  | powerLoss
  | granuleZeroed (sw n : Nat)
  | hostWriteCombineDrain (n : Nat)
  | memberLostNotice (h dev : Nat)
  | sliceAdd (d slice entries : Nat)
  deriving DecidableEq, Repr

end Sys2Proof
end

