-- ==== Sys2Proof/Decode.lean ====
section
/-!
DEFINITION. Decoding: from the bits of a word to an instruction or a named reason why the word is none (R31 to R52,
condition 2). After it the encoder, written from the same tables.
-/

namespace Sys2Proof

/-- Why a word is no instruction (R52, condition 2). Every one of them raises the illegal-instruction fault. -/
inductive DecodeError where
  /-- the major opcode is assigned to no family (R47, R48) -/
  | unassignedMajor
  /-- the function code is reserved in this major (R49, R50, R40, R41) -/
  | reservedFunction
  /-- a reserved field, an unused register field or the upper bits of a shift count are not zero (R33, R34, R37) -/
  | reservedField
  /-- size code 5 to 7 (R35) -/
  | reservedSize
  /-- operation code 15, or an operation and size that R36 does not list together -/
  | reservedOp
  /-- a register or code field that the form's own table calls illegal (R112, R119, R121, R132) -/
  | reservedOperand
  /-- the switch marker of a prefix is set (R42) -/
  | prefixMarker
  deriving DecidableEq, Repr

/-- The formats of the lane and group sets (R34, R37, R38). `gb17` and `gb24` are the two strips of GB. -/
inductive Format where
  | lr | li | lm | gr | gi | gim | gb17 | gb24 | gx | gs | rep | limm
  deriving DecidableEq, Repr

/-- The format of a lane-set major (R47). -/
def laneFormat (maj : Nat) : Option Format :=
  if maj = 0 ∨ maj = 23 then none
  else if maj ≤ 13 then some .lr
  else if maj ≤ 22 then some .li
  else if maj ≤ 36 then some .lr
  else if maj ≤ 39 then none
  else if maj ≤ 47 then some .lr
  else if maj ≤ 52 then some .lm
  else none

/-- The format of a group-set major (R48). -/
def groupFormat (maj : Nat) : Option Format :=
  if maj ≤ 7 then some .gr
  else if maj ≤ 15 then some .gi
  else if maj ≤ 17 then some .gr
  else if maj ≤ 21 then none
  else if maj = 22 then some .rep
  else if maj = 23 then some .limm
  else if maj ≤ 25 then some .gb24
  else if maj ≤ 29 then some .gb17
  else if maj = 30 then some .gr
  else if maj = 31 then none
  else if maj ≤ 35 then some .gim
  else if maj = 36 then some .gr
  else if maj = 37 then some .gs
  else if maj ≤ 39 then some .gr
  else if maj ≤ 49 then some .gx
  else if maj ≤ 51 then some .gi
  else if maj ≤ 55 then some .gr
  else if maj ≤ 59 then some .gx
  else if maj ≤ 61 then some .gr
  else none

/-- What a decoder answers: an instruction or what stands for it, or the reason why the word is none. -/
abbrev Decoded (α : Type) := Except DecodeError α

/-- The bits of `x` from bit `k` up are the number `v`. -/
def hiIs {w : Nat} (k v : Nat) (x : BitVec w) : Bool := x.toNat / 2 ^ k == v

/-- A ten-bit immediate with `v` above a field of `k` bits. -/
def hiLo {k : Nat} (v kk : Nat) (f : BitVec k) : BitVec 10 := BitVec.ofNat 10 (v * 2 ^ kk + f.toNat)

/-- A one-bit field at the foot of a register field. -/
def bitField (n : Bool) : Reg := if n then 1 else 0

/-- The instruction, where the reserved fields are zero (R33). -/
def fields {α : Type} (c : Bool) (i : α) : Decoded α := if c then .ok i else .error .reservedField

/-- The instruction, where its form allows the operand field. -/
def operand {α : Type} (c : Bool) (i : α) : Decoded α := if c then .ok i else .error .reservedOperand

/-- The conversion codes of R127 with the variants R132 allows: `sat` and `sr` say which of the suffixes stand. -/
def cvtOk (sat sr : Bool) (code : Reg) : Bool :=
  let d := code.getLsbD 6
  let f := (code.toNat / 8) % 8
  let p := code.toNat % 8
  let pOk := match f with
    | 0 | 1 => p < 2
    | 2 | 3 | 5 => p < 4
    | 6 => if d then p < 2 else p < 4
    | _ => true
  pOk && (!sr || (!d && f < 5)) && (!sat || (!d && f != 5))

/-- The predicate sources of R121. -/
def voteOk (a p : Reg) : Bool := p == 0 || (p.toNat < 6 && a == 0)

/-- A register pair starts at an even register (R119). -/
def evenReg (b : Reg) : Bool := b.toNat % 2 == 0

/-- A pair compare writes two scalar registers, which must both exist (R112). -/
def pairReg (d : Reg) : Bool := d.toNat < 127

/-- Which operations R36 lists with which sizes. -/
def opSizeOk (op : Nat) (s : Size) : Bool :=
  if op ≤ 10 then s == .b4 || s == .b8 else if op ≤ 14 then s == .b4 else false

/-- The instruction, where R36 lists the operation with the size. -/
def opSize {α : Type} (op : Nat) (s : Size) (i : α) : Decoded α := if opSizeOk op s then .ok i else .error .reservedOp

/-- The loads of sign-extended data take sizes 0 and 1 on the lane set and 0 to 2 on the group set; no other form
restricts the size code (R35, R85, R145). -/
def sizeUpTo {α : Type} (n : Nat) (s : Size) (i : α) : Decoded α := if s.bytes ≤ n then .ok i else .error .reservedSize

noncomputable section

/-- `sysw` to a register whose write the opcode table lists as a row of its own decodes to that row (R131, R340,
R342, R362, R363, R364); to any other register, to `sysw`. -/
def syswInstr (m : Bool) (r : BitVec 12) (s : Reg) : Instr :=
  match r.toNat with
  | 0x001 => .srseedWrite m s
  | 0x0C0 => .pavQuotaWrite m s
  | 0x0C1 => .keyLoad m s
  | 0x0C2 => .attestStart m s
  | 0x0C3 => .measExtend m s
  | 0x084 => .fabLostClear m s
  | 0x085 => .devLostClear m false s
  | 0x086 => .devLostClear m true s
  | _ => .sysw m r s

/-- The function codes of the LR majors (R49). -/
def decodeLR (maj : Nat) (fn : Nat) (m : Bool) (d a b : Reg) : Decoded Instr :=
  match maj with
  | 1 => match fn with
    | 0 => .ok (.vadd m d a b)
    | 1 => .ok (.vsub m d a b)
    | 2 => .ok (.vaddsI32 m d a b)
    | 3 => .ok (.vaddsN32 m d a b)
    | 4 => .ok (.vsubsI32 m d a b)
    | 5 => .ok (.vsubsN32 m d a b)
    | _ => .error .reservedFunction
  | 2 => match fn with
    | 0 => .ok (.vmul m d a b)
    | 1 => .ok (.vmulhI32 m d a b)
    | 2 => .ok (.vmulhN32 m d a b)
    | 3 => .ok (.vmad m d a b)
    | 4 => .ok (.vdivI32 m d a b)
    | 5 => .ok (.vdivN32 m d a b)
    | 6 => .ok (.vremI32 m d a b)
    | 7 => .ok (.vremN32 m d a b)
    | _ => .error .reservedFunction
  | 3 => match fn with
    | 0 => .ok (.vand m d a b)
    | 1 => .ok (.vor m d a b)
    | 2 => .ok (.vxor m d a b)
    | 3 => .ok (.vandn m d a b)
    | 4 => .ok (.vshl m d a b)
    | 5 => .ok (.vshr m d a b)
    | 6 => .ok (.vsra m d a b)
    | 7 => .ok (.vrol m d a b)
    | _ => .error .reservedFunction
  | 4 => match fn with
    | 0 => .ok (.vminI32 m d a b)
    | 1 => .ok (.vmaxI32 m d a b)
    | 2 => .ok (.vminN32 m d a b)
    | 3 => .ok (.vmaxN32 m d a b)
    | 4 => fields (b == 0) (.vabsI32 m d a)
    | 5 => fields (b == 0) (.vclz m d a)
    | 6 => fields (b == 0) (.vpopc m d a)
    | 7 => fields (b == 0) (.vbrev m d a)
    | _ => .error .reservedFunction
  | 5 => match fn with
    | 0 => .ok (.vcmpEq m d a b)
    | 1 => .ok (.vcmpNe m d a b)
    | 2 => .ok (.vcmpLt m d a b)
    | 3 => .ok (.vcmpLe m d a b)
    | 4 => .ok (.vcmpGt m d a b)
    | 5 => .ok (.vcmpGe m d a b)
    | _ => .error .reservedFunction
  | 6 => match fn with
    | 0 => .ok (.vcmpLo m d a b)
    | 1 => .ok (.vcmpLs m d a b)
    | 2 => .ok (.vcmpHi m d a b)
    | 3 => .ok (.vcmpHs m d a b)
    | _ => .error .reservedFunction
  | 7 => match fn with
    | 0 => .ok (.vsel m d a b)
    | 1 => fields (b == 0) (.vmov m d a)
    | 2 => fields (a == 0) (.vmovS m d b)
    | 3 => fields (a == 0 && b == 0) (.vtid m d)
    | _ => .error .reservedFunction
  | 8 => match fn with
    | 0 => .ok (.vaddS m d a b)
    | 1 => .ok (.vsubS m d a b)
    | 2 => .ok (.vaddsI32S m d a b)
    | 3 => .ok (.vaddsN32S m d a b)
    | 4 => .ok (.vsubsI32S m d a b)
    | 5 => .ok (.vsubsN32S m d a b)
    | _ => .error .reservedFunction
  | 9 => match fn with
    | 0 => .ok (.vmulS m d a b)
    | 1 => .ok (.vmulhI32S m d a b)
    | 2 => .ok (.vmulhN32S m d a b)
    | 3 => .ok (.vmadS m d a b)
    | 4 => .ok (.vdivI32S m d a b)
    | 5 => .ok (.vdivN32S m d a b)
    | 6 => .ok (.vremI32S m d a b)
    | 7 => .ok (.vremN32S m d a b)
    | _ => .error .reservedFunction
  | 10 => match fn with
    | 0 => .ok (.vandS m d a b)
    | 1 => .ok (.vorS m d a b)
    | 2 => .ok (.vxorS m d a b)
    | 3 => .ok (.vandnS m d a b)
    | 4 => .ok (.vshlS m d a b)
    | 5 => .ok (.vshrS m d a b)
    | 6 => .ok (.vsraS m d a b)
    | 7 => .ok (.vrolS m d a b)
    | _ => .error .reservedFunction
  | 11 => match fn with
    | 0 => .ok (.vminI32S m d a b)
    | 1 => .ok (.vmaxI32S m d a b)
    | 2 => .ok (.vminN32S m d a b)
    | 3 => .ok (.vmaxN32S m d a b)
    | _ => .error .reservedFunction
  | 12 => match fn with
    | 0 => .ok (.vcmpEqS m d a b)
    | 1 => .ok (.vcmpNeS m d a b)
    | 2 => .ok (.vcmpLtS m d a b)
    | 3 => .ok (.vcmpLeS m d a b)
    | 4 => .ok (.vcmpGtS m d a b)
    | 5 => .ok (.vcmpGeS m d a b)
    | _ => .error .reservedFunction
  | 13 => match fn with
    | 0 => .ok (.vcmpLoS m d a b)
    | 1 => .ok (.vcmpLsS m d a b)
    | 2 => .ok (.vcmpHiS m d a b)
    | 3 => .ok (.vcmpHsS m d a b)
    | _ => .error .reservedFunction
  | 24 => match fn with
    | 0 => .ok (.vfaddF32 m d a b)
    | 1 => .ok (.vfsubF32 m d a b)
    | 2 => .ok (.vfmulF32 m d a b)
    | 3 => .ok (.vfminF32 m d a b)
    | 4 => .ok (.vfmaxF32 m d a b)
    | 5 => .ok (.vfmaF32 m d a b)
    | 6 => .ok (.vfmsF32 m d a b)
    | 7 => .ok (.vfnmaF32 m d a b)
    | _ => .error .reservedFunction
  | 25 => match fn with
    | 0 => .ok (.vfaddF16x2 m d a b)
    | 1 => .ok (.vfsubF16x2 m d a b)
    | 2 => .ok (.vfmulF16x2 m d a b)
    | 3 => .ok (.vfminF16x2 m d a b)
    | 4 => .ok (.vfmaxF16x2 m d a b)
    | 5 => .ok (.vfmaF16x2 m d a b)
    | 6 => .ok (.vfmsF16x2 m d a b)
    | 7 => .ok (.vfnmaF16x2 m d a b)
    | _ => .error .reservedFunction
  | 26 => match fn with
    | 0 => .ok (.vfaddBf16x2 m d a b)
    | 1 => .ok (.vfsubBf16x2 m d a b)
    | 2 => .ok (.vfmulBf16x2 m d a b)
    | 3 => .ok (.vfminBf16x2 m d a b)
    | 4 => .ok (.vfmaxBf16x2 m d a b)
    | 5 => .ok (.vfmaBf16x2 m d a b)
    | 6 => .ok (.vfmsBf16x2 m d a b)
    | 7 => .ok (.vfnmaBf16x2 m d a b)
    | _ => .error .reservedFunction
  | 27 => match fn with
    | 0 => .ok (.vfaddF32S m d a b)
    | 1 => .ok (.vfsubF32S m d a b)
    | 2 => .ok (.vfmulF32S m d a b)
    | 3 => .ok (.vfminF32S m d a b)
    | 4 => .ok (.vfmaxF32S m d a b)
    | 5 => .ok (.vfmaF32S m d a b)
    | 6 => .ok (.vfmsF32S m d a b)
    | 7 => .ok (.vfnmaF32S m d a b)
    | _ => .error .reservedFunction
  | 28 => match fn with
    | 0 => .ok (.vfcmpEqF32 m d a b)
    | 1 => .ok (.vfcmpNeF32 m d a b)
    | 2 => .ok (.vfcmpLtF32 m d a b)
    | 3 => .ok (.vfcmpLeF32 m d a b)
    | 4 => .ok (.vfcmpGtF32 m d a b)
    | 5 => .ok (.vfcmpGeF32 m d a b)
    | 6 => .ok (.vfcmpUnF32 m d a b)
    | _ => .error .reservedFunction
  | 29 => match fn with
    | 0 => operand (pairReg d) (.vfcmpEqF16x2 m d a b)
    | 1 => operand (pairReg d) (.vfcmpNeF16x2 m d a b)
    | 2 => operand (pairReg d) (.vfcmpLtF16x2 m d a b)
    | 3 => operand (pairReg d) (.vfcmpLeF16x2 m d a b)
    | 4 => operand (pairReg d) (.vfcmpGtF16x2 m d a b)
    | 5 => operand (pairReg d) (.vfcmpGeF16x2 m d a b)
    | 6 => operand (pairReg d) (.vfcmpUnF16x2 m d a b)
    | _ => .error .reservedFunction
  | 30 => match fn with
    | 0 => operand (pairReg d) (.vfcmpEqBf16x2 m d a b)
    | 1 => operand (pairReg d) (.vfcmpNeBf16x2 m d a b)
    | 2 => operand (pairReg d) (.vfcmpLtBf16x2 m d a b)
    | 3 => operand (pairReg d) (.vfcmpLeBf16x2 m d a b)
    | 4 => operand (pairReg d) (.vfcmpGtBf16x2 m d a b)
    | 5 => operand (pairReg d) (.vfcmpGeBf16x2 m d a b)
    | 6 => operand (pairReg d) (.vfcmpUnBf16x2 m d a b)
    | _ => .error .reservedFunction
  | 31 => match fn with
    | 0 => fields (b == 0) (.vfclassF32 m d a)
    | 1 => fields (b == 0) (.vfclassF16x2 m d a)
    | 2 => fields (b == 0) (.vfclassBf16x2 m d a)
    | _ => .error .reservedFunction
  | 32 => match fn with
    | 0 => fields (b == 0) (.vrcp m d a)
    | 1 => fields (b == 0) (.vrsq m d a)
    | 2 => fields (b == 0) (.vsqrt m d a)
    | 3 => fields (b == 0) (.vexp2 m d a)
    | 4 => fields (b == 0) (.vlog2 m d a)
    | 5 => fields (b == 0) (.vsin m d a)
    | 6 => fields (b == 0) (.vcos m d a)
    | 7 => fields (b == 0) (.vtanh m d a)
    | _ => .error .reservedFunction
  | 33 => match fn with
    | 0 => .ok (.vfdivF32 m d a b)
    | 1 => .ok (.vfdivF32S m d a b)
    | _ => .error .reservedFunction
  | 34 => match fn with
    | 0 => operand (cvtOk false false b) (.vcvt m d a b)
    | 1 => operand (cvtOk false true b) (.vcvtSr m d a b)
    | 2 => operand (cvtOk true false b) (.vcvtSat m d a b)
    | 3 => operand (cvtOk true true b) (.vcvtSatSr m d a b)
    | _ => .error .reservedFunction
  | 35 => match fn with
    | 0 => fields (b == 0) (.vqblkE2m1x m d a)
    | 1 => fields (b == 0) (.vqblkE4m3 m d a)
    | 2 => fields (b == 0) (.vqblkE5m2 m d a)
    | _ => .error .reservedFunction
  | 36 => match fn with
    | 0 => fields (a == 0 && b == 0) (.vpopa m d)
    | _ => .error .reservedFunction
  | 40 => match fn with
    | 0 => .ok (.vshflIdx m d a b)
    | 1 => .ok (.vshflUp m d a b)
    | 2 => .ok (.vshflDown m d a b)
    | 3 => .ok (.vshflXor m d a b)
    | _ => .error .reservedFunction
  | 41 => match fn with
    | 0 => operand (evenReg b) (.vperm8Lo m d a b)
    | 1 => operand (evenReg b) (.vperm8Hi m d a b)
    | _ => .error .reservedFunction
  | 42 => match fn with
    | 0 => .ok (.vbcast m d a b)
    | _ => .error .reservedFunction
  | 43 => match fn with
    | 0 => .ok (.vext m d a b)
    | _ => .error .reservedFunction
  | 44 => match fn with
    | 0 => fields (b == 0) (.vlredAddI32 m d a)
    | 1 => fields (b == 0) (.vlredMinI32 m d a)
    | 2 => fields (b == 0) (.vlredMaxI32 m d a)
    | 3 => fields (b == 0) (.vlredMinN32 m d a)
    | 4 => fields (b == 0) (.vlredMaxN32 m d a)
    | 5 => fields (b == 0) (.vlredFaddF32 m d a)
    | 6 => fields (b == 0) (.vlredFminF32 m d a)
    | 7 => fields (b == 0) (.vlredFmaxF32 m d a)
    | _ => .error .reservedFunction
  | 45 => match fn with
    | 0 => fields (b == 0) (.vscanAddI32 m d a)
    | 1 => fields (b == 0) (.vscanMinI32 m d a)
    | 2 => fields (b == 0) (.vscanMaxI32 m d a)
    | 3 => fields (b == 0) (.vscanMinN32 m d a)
    | 4 => fields (b == 0) (.vscanMaxN32 m d a)
    | 5 => fields (b == 0) (.vscanFaddF32 m d a)
    | 6 => fields (b == 0) (.vscanFminF32 m d a)
    | 7 => fields (b == 0) (.vscanFmaxF32 m d a)
    | _ => .error .reservedFunction
  | 46 => match fn with
    | 0 => operand (voteOk a b) (.voteAny m d a b)
    | 1 => operand (voteOk a b) (.voteAll m d a b)
    | 2 => operand (voteOk a b) (.voteBallot m d a b)
    | _ => .error .reservedFunction
  | 47 => match fn with
    | 0 => operand (voteOk a b) (.vfirst m d a b)
    | _ => .error .reservedFunction
  | _ => .error .unassignedMajor

/-- The LI majors (R47). -/
def decodeLI (maj : Nat) (m : Bool) (d a : Reg) (i : BitVec 10) : Decoded Instr :=
  match maj with
  | 14 => .ok (.vaddi m d a i)
  | 15 => fields (a == 0) (.vmovi m d i)
  | 16 => .ok (.vandi m d a i)
  | 17 => .ok (.vori m d a i)
  | 18 => .ok (.vxori m d a i)
  | 19 => fields (hiIs 5 0 i) (.vshli m d a (i.setWidth 5))
  | 20 => fields (hiIs 5 0 i) (.vshri m d a (i.setWidth 5))
  | 21 => fields (hiIs 5 0 i) (.vsrai m d a (i.setWidth 5))
  | 22 => .ok (.vmuli m d a i)
  | _ => .error .unassignedMajor

/-- The LM majors (R47, R36). -/
def decodeLM (maj : Nat) (m : Bool) (d a : Reg) (g : BitVec 3) (s : Size) (i : BitVec 4) : Decoded Instr :=
  match maj with
  | 48 => .ok (.vld m d a g s i)
  | 49 => sizeUpTo 2 s (.vlds m d a g s i)
  | 50 => .ok (.vst m d a g s i)
  | 51 => match i.toNat with
    | 0 => opSize 0 s (.vatomAdd m d a g s)
    | 1 => opSize 1 s (.vatomSub m d a g s)
    | 2 => opSize 2 s (.vatomMinI m d a g s)
    | 3 => opSize 3 s (.vatomMaxI m d a g s)
    | 4 => opSize 4 s (.vatomMinN m d a g s)
    | 5 => opSize 5 s (.vatomMaxN m d a g s)
    | 6 => opSize 6 s (.vatomAnd m d a g s)
    | 7 => opSize 7 s (.vatomOr m d a g s)
    | 8 => opSize 8 s (.vatomXor m d a g s)
    | 9 => opSize 9 s (.vatomXchg m d a g s)
    | 10 => opSize 10 s (.vatomCas m d a g s)
    | 11 => opSize 11 s (.vatomFadd m d a g s)
    | 12 => opSize 12 s (.vatomFmin m d a g s)
    | 13 => opSize 13 s (.vatomFmax m d a g s)
    | 14 => opSize 14 s (.vatomAddBf16x2 m d a g s)
    | _ => .error .reservedOp
  | 52 => match i.toNat with
    | 0 => opSize 0 s (.vredAdd m d a g s)
    | 1 => opSize 1 s (.vredSub m d a g s)
    | 2 => opSize 2 s (.vredMinI m d a g s)
    | 3 => opSize 3 s (.vredMaxI m d a g s)
    | 4 => opSize 4 s (.vredMinN m d a g s)
    | 5 => opSize 5 s (.vredMaxN m d a g s)
    | 6 => opSize 6 s (.vredAnd m d a g s)
    | 7 => opSize 7 s (.vredOr m d a g s)
    | 8 => opSize 8 s (.vredXor m d a g s)
    | 11 => opSize 11 s (.vredFadd m d a g s)
    | 12 => opSize 12 s (.vredFmin m d a g s)
    | 13 => opSize 13 s (.vredFmax m d a g s)
    | 14 => opSize 14 s (.vredAddBf16x2 m d a g s)
    | _ => .error .reservedOp
  | _ => .error .unassignedMajor

/-- The function codes of the GR majors (R50). -/
def decodeGR (maj : Nat) (fn : Nat) (m : Bool) (d a b : Reg) : Decoded Instr :=
  match maj with
  | 0 => match fn with
    | 0 => fields (d == 0 && a == 0 && b == 0) (.nop m)
    | 1 => fields (d == 0 && a == 0 && b == 0) (.yield m)
    | 2 => fields (d == 0 && a == 0 && b == 0) (.exit m)
    | _ => .error .reservedFunction
  | 1 => match fn with
    | 0 => .ok (.sadd m d a b)
    | 1 => .ok (.ssub m d a b)
    | 2 => .ok (.saddsI64 m d a b)
    | 3 => .ok (.saddsN64 m d a b)
    | 4 => .ok (.ssubsI64 m d a b)
    | 5 => .ok (.ssubsN64 m d a b)
    | _ => .error .reservedFunction
  | 2 => match fn with
    | 0 => .ok (.smul m d a b)
    | 1 => .ok (.smulhI64 m d a b)
    | 2 => .ok (.smulhN64 m d a b)
    | 4 => .ok (.sdivI64 m d a b)
    | 5 => .ok (.sdivN64 m d a b)
    | 6 => .ok (.sremI64 m d a b)
    | 7 => .ok (.sremN64 m d a b)
    | _ => .error .reservedFunction
  | 3 => match fn with
    | 0 => .ok (.sand m d a b)
    | 1 => .ok (.sor m d a b)
    | 2 => .ok (.sxor m d a b)
    | 3 => .ok (.sandn m d a b)
    | 4 => .ok (.sshl m d a b)
    | 5 => .ok (.sshr m d a b)
    | 6 => .ok (.ssra m d a b)
    | 7 => .ok (.srol m d a b)
    | _ => .error .reservedFunction
  | 4 => match fn with
    | 0 => .ok (.sminI64 m d a b)
    | 1 => .ok (.smaxI64 m d a b)
    | 2 => .ok (.sminN64 m d a b)
    | 3 => .ok (.smaxN64 m d a b)
    | 4 => fields (b == 0) (.sabsI64 m d a)
    | 5 => fields (b == 0) (.sclz m d a)
    | 6 => fields (b == 0) (.spopc m d a)
    | 7 => fields (b == 0) (.sbrev m d a)
    | _ => .error .reservedFunction
  | 5 => match fn with
    | 0 => .ok (.scmpEq m d a b)
    | 1 => .ok (.scmpNe m d a b)
    | 2 => .ok (.scmpLt m d a b)
    | 3 => .ok (.scmpLe m d a b)
    | 4 => .ok (.scmpGt m d a b)
    | 5 => .ok (.scmpGe m d a b)
    | _ => .error .reservedFunction
  | 6 => match fn with
    | 0 => .ok (.scmpLo m d a b)
    | 1 => .ok (.scmpLs m d a b)
    | 2 => .ok (.scmpHi m d a b)
    | 3 => .ok (.scmpHs m d a b)
    | _ => .error .reservedFunction
  | 7 => match fn with
    | 0 => fields (b == 0) (.smov m d a)
    | 1 => .ok (.scsel m d a b)
    | _ => .error .reservedFunction
  | 16 => match fn with
    | 0 => .ok (.mand m d a b)
    | 1 => .ok (.mor m d a b)
    | 2 => .ok (.mxor m d a b)
    | 3 => .ok (.mandn m d a b)
    | 4 => fields (b == 0) (.mnot m d a)
    | 5 => fields (b == 0) (.mpopc m d a)
    | 6 => fields (b == 0) (.mffs m d a)
    | 7 => fields (b == 0) (.mfls m d a)
    | _ => .error .reservedFunction
  | 17 => match fn with
    | 0 => fields (a == 0 && hiIs 1 0 b) (.mffNv m d (b.getLsbD 0))
    | 1 => fields (a == 0 && hiIs 1 0 b) (.mffDz m d (b.getLsbD 0))
    | 2 => fields (a == 0 && hiIs 1 0 b) (.mffOf m d (b.getLsbD 0))
    | 3 => fields (a == 0 && hiIs 1 0 b) (.mffUf m d (b.getLsbD 0))
    | 4 => fields (a == 0 && hiIs 1 0 b) (.mffNx m d (b.getLsbD 0))
    | 5 => fields (d == 0 && hiIs 1 0 b) (.mffclr m a (b.getLsbD 0))
    | _ => .error .reservedFunction
  | 30 => match fn with
    | 0 => fields (d == 0 && b == 0) (.jr m a)
    | 1 => fields (b == 0) (.jalr m d a)
    | _ => .error .reservedFunction
  | 36 => match fn with
    | 0 => fields (hiIs 3 0 d) (.hflush m (d.setWidth 3) a b)
    | 1 => fields (hiIs 3 0 d) (.hinval m (d.setWidth 3) a b)
    | _ => .error .reservedFunction
  | 38 => match fn with
    | 0 => fields (d == 0 && b == 0) (.trap m a)
    | 1 => fields (d == 0 && b == 0) (.tretResume m a)
    | 2 => fields (d == 0 && a == 0 && b == 0) (.brk m)
    | _ => .error .reservedFunction
  | 39 => match fn with
    | 0 => fields (hiIs 3 0 d && hiIs 3 0 b) (.segld m (d.setWidth 3) a (b.setWidth 3))
    | 1 => fields (d == 0) (.tlbinv m a b)
    | 2 => fields (d == 0 && a == 0 && b == 0) (.tlbsync m)
    | 3 => .ok (.ctxsave m d a b)
    | 4 => .ok (.ctxrest m d a b)
    | _ => .error .reservedFunction
  | 52 => match fn with
    | 0 => .ok (.mcready m d a b)
    | _ => .error .reservedFunction
  | 53 => match fn with
    | 0 => .ok (.preserve m d a b)
    | 1 => fields (d == 0 && a == 0) (.pcommit m b)
    | 2 => .ok (.pclaim m d a b)
    | 3 => fields (d == 0 && a == 0) (.prelease m b)
    | 4 => fields (b == 0) (.pquery m d a)
    | _ => .error .reservedFunction
  | 54 => match fn with
    | 0 => fields (d == 0) (.send m a b)
    | 1 => .ok (.sendw m d a b)
    | 2 => fields (b == 0) (.pportq m d a)
    | 3 => fields (d == 0 && b == 0) (.jen m a)
    | 4 => fields (d == 0 && b == 0) (.jdis m a)
    | _ => .error .reservedFunction
  | 55 => match fn with
    | 0 => fields (hiIs 3 0 d) (.barArr m (d.setWidth 3) a b)
    | 1 => fields (hiIs 3 0 d) (.barWait m (d.setWidth 3) a b)
    | 2 => fields (hiIs 3 0 d && b == 0) (.barArw m (d.setWidth 3) a)
    | 3 => fields (hiIs 5 0 a && b == 0) (.abarArr m d (a.setWidth 5))
    | 4 => fields (d == 0 && hiIs 5 0 a) (.abarWait m (a.setWidth 5) b)
    | 5 => fields (hiIs 5 0 a) (.abarTest m d (a.setWidth 5) b)
    | _ => .error .reservedFunction
  | 60 => match fn with
    | 0 => fields (hiIs 3 0 b) (.planLd m d a (b.setWidth 3))
    | 1 => .ok (.planGoStart m d a b)
    | 2 => fields (d == 0) (.spawn m a b)
    | _ => .error .reservedFunction
  | 61 => match fn with
    | 0 => .ok (.pvalloc m d a b)
    | 1 => fields (b == 0) (.pvfree m d a)
    | 2 => fields (b == 0) (.pvq m d a)
    | _ => .error .reservedFunction
  | _ => .error .unassignedMajor

/-- The GI majors (R48). -/
def decodeGI (maj : Nat) (m : Bool) (d a : Reg) (i : BitVec 10) : Decoded Instr :=
  match maj with
  | 8 => .ok (.saddi m d a i)
  | 9 => .ok (.sandi m d a i)
  | 10 => .ok (.sori m d a i)
  | 11 => .ok (.sxori m d a i)
  | 12 => fields (hiIs 6 0 i) (.sshli m d a (i.setWidth 6))
  | 13 => fields (hiIs 6 0 i) (.sshri m d a (i.setWidth 6))
  | 14 => fields (hiIs 6 0 i) (.ssrai m d a (i.setWidth 6))
  | 15 => fields (a == 0) (.smovi m d i)
  | 50 => if i.getLsbD 9 then fields (hiIs 3 64 i) (.kwaitObj m d a (i.setWidth 3))
    else fields (d == 0 && a == 0 && hiIs 8 0 i) (.kwait m (i.setWidth 8))
  | 51 => fields (hiIs 3 0 d && a == 0 && hiIs 4 0 i) (.qfence m (d.setWidth 3) (i.setWidth 4))
  | _ => .error .unassignedMajor

/-- The conditional branches (R48). -/
def decodeGB17 (maj : Nat) (m : Bool) (a : Reg) (o : BitVec 17) : Decoded Instr :=
  match maj with
  | 26 => .ok (.bz m a o)
  | 27 => .ok (.bnz m a o)
  | 28 => .ok (.bmz m a o)
  | 29 => .ok (.bmnz m a o)
  | _ => .error .unassignedMajor

/-- br and call (R48). -/
def decodeGB24 (maj : Nat) (m : Bool) (o : BitVec 24) : Decoded Instr :=
  match maj with
  | 24 => .ok (.br m o)
  | 25 => .ok (.call m o)
  | _ => .error .unassignedMajor

/-- The GI-M majors (R48, R36). -/
def decodeGIM (maj : Nat) (m : Bool) (d a : Reg) (g : BitVec 3) (s : Size) (i : BitVec 4) : Decoded Instr :=
  match maj with
  | 32 => .ok (.sld m d a g s i)
  | 33 => sizeUpTo 4 s (.slds m d a g s i)
  | 34 => .ok (.sst m d a g s i)
  | 35 => match i.toNat with
    | 0 => opSize 0 s (.satomAdd m d a g s)
    | 1 => opSize 1 s (.satomSub m d a g s)
    | 2 => opSize 2 s (.satomMinI m d a g s)
    | 3 => opSize 3 s (.satomMaxI m d a g s)
    | 4 => opSize 4 s (.satomMinN m d a g s)
    | 5 => opSize 5 s (.satomMaxN m d a g s)
    | 6 => opSize 6 s (.satomAnd m d a g s)
    | 7 => opSize 7 s (.satomOr m d a g s)
    | 8 => opSize 8 s (.satomXor m d a g s)
    | 9 => opSize 9 s (.satomXchg m d a g s)
    | 10 => opSize 10 s (.satomCas m d a g s)
    | 11 => opSize 11 s (.satomFadd m d a g s)
    | 12 => opSize 12 s (.satomFmin m d a g s)
    | 13 => opSize 13 s (.satomFmax m d a g s)
    | 14 => opSize 14 s (.satomAddBf16x2 m d a g s)
    | _ => .error .reservedOp
  | _ => .error .unassignedMajor

/-- The GX majors (R40, R48). -/
def decodeGX (maj : Nat) (m : Bool) (k : BitVec 3) (a b c : Reg) : Decoded Instr :=
  match maj with
  | 40 => .ok (.cpy m 0 k a b c)
  | 41 => .ok (.cpy m 1 k a b c)
  | 42 => .ok (.cpy m 2 k a b c)
  | 43 => .ok (.cpy m 3 k a b c)
  | 44 => .ok (.cpyMc m 0 k a b c)
  | 45 => .ok (.cpyMc m 1 k a b c)
  | 46 => .ok (.cpyMc m 2 k a b c)
  | 47 => .ok (.cpyMc m 3 k a b c)
  | 48 => fields (hiIs 2 0 c) (.cpyRow m k a b (c.setWidth 2))
  | 49 => fields (a == 0 && b == 0 && hiIs 2 0 c) (.cpyClose m k (c.setWidth 2))
  | 56 => .ok (.mma m k a b c)
  | 57 => .ok (.mmaSp m k a b c)
  | 58 => match c.toNat with
    | 0 => fields (a == 0 && b == 0) (.mzero m k)
    | 1 => fields (a == 0 && b == 0) (.mrows m k)
    | 2 => fields (b == 0) (.mldacc m k a)
    | 3 => .ok (.mstacc m k a b)
    | _ => .error .reservedFunction
  | 59 => .ok (.mvm m k a b c)
  | _ => .error .unassignedMajor

/-- The GS function codes (R41). -/
def decodeGS (maj : Nat) (fn : Nat) (m : Bool) (r : BitVec 12) (s : Reg) : Decoded Instr :=
  match maj with
  | 37 => match fn with
    | 0 => .ok (.sysr m r s)
    | 1 => .ok (syswInstr m r s)
    | _ => .error .reservedFunction
  | _ => .error .unassignedMajor

/-- The instruction a word is (R31, R32): its set bit and major opcode give the format, the format its fields. -/
def decode (w : Word) : Decoded Instr :=
  let m := w.getLsbD 30
  let maj := (w.extractLsb' 24 6).toNat
  let f := if w.getLsbD 31 then groupFormat maj else laneFormat maj
  let fn := (w.extractLsb' 21 3).toNat
  let d := w.extractLsb' 14 7
  let a := w.extractLsb' 7 7
  let b := w.extractLsb' 0 7
  let d' := w.extractLsb' 17 7
  let a' := w.extractLsb' 10 7
  match f with
  | none => .error .unassignedMajor
  | some .lr => decodeLR maj fn m d a b
  | some .gr => decodeGR maj fn m d a b
  | some .li => decodeLI maj m d' a' (w.extractLsb' 0 10)
  | some .gi => decodeGI maj m d' a' (w.extractLsb' 0 10)
  | some .lm => match Size.ofCode (w.extractLsb' 4 3) with
    | none => .error .reservedSize
    | some s => decodeLM maj m d' a' (w.extractLsb' 7 3) s (w.extractLsb' 0 4)
  | some .gim => match Size.ofCode (w.extractLsb' 4 3) with
    | none => .error .reservedSize
    | some s => decodeGIM maj m d' a' (w.extractLsb' 7 3) s (w.extractLsb' 0 4)
  | some .gb17 => decodeGB17 maj m d' (w.extractLsb' 0 17)
  | some .gb24 => decodeGB24 maj m (w.extractLsb' 0 24)
  | some .gx => decodeGX maj m (w.extractLsb' 21 3) d a b
  | some .gs => decodeGS maj (w.extractLsb' 0 5).toNat m (w.extractLsb' 12 12) (w.extractLsb' 5 7)
  | some .rep =>
    if m then .error .prefixMarker
    else fields (w.extractLsb' 0 12 == 0)
      (.rep (w.extractLsb' 18 6) (w.extractLsb' 16 2) (w.extractLsb' 14 2) (w.extractLsb' 12 2))
  | some .limm => if m then .error .prefixMarker else .ok (.limm (w.extractLsb' 0 24))

end

/-! The encoder: each format's word from its fields (R34, R37, R38), and each row's fields. -/

/-- The top byte of every word: set bit, switch marker, major opcode (R31). -/
def topByte (set m : Bool) (maj : BitVec 6) : BitVec 8 := BitVec.ofBool set ++ BitVec.ofBool m ++ maj

/-- LR and GR (R34, R37). -/
def wordR (set m : Bool) (maj : BitVec 6) (fn : BitVec 3) (d a b : Reg) : Word :=
  topByte set m maj ++ fn ++ d ++ a ++ b

/-- LI and GI (R34, R37). -/
def wordI (set m : Bool) (maj : BitVec 6) (d a : Reg) (i : BitVec 10) : Word := topByte set m maj ++ d ++ a ++ i

/-- LM and GI-M (R34, R38). -/
def wordM (set m : Bool) (maj : BitVec 6) (d a : Reg) (g : BitVec 3) (s : Size) (i : BitVec 4) : Word :=
  topByte set m maj ++ d ++ a ++ g ++ s.code ++ i

/-- GB with a register (R37). -/
def wordB17 (m : Bool) (maj : BitVec 6) (a : Reg) (o : BitVec 17) : Word := topByte true m maj ++ a ++ o

/-- GB of br and call (R37). -/
def wordB24 (m : Bool) (maj : BitVec 6) (o : BitVec 24) : Word := topByte true m maj ++ o

/-- GX (R37). -/
def wordX (m : Bool) (maj : BitVec 6) (k : BitVec 3) (a b c : Reg) : Word := topByte true m maj ++ k ++ a ++ b ++ c

/-- GS (R37). -/
def wordS (m : Bool) (r : BitVec 12) (s : Reg) (fn : BitVec 5) : Word := topByte true m 37 ++ r ++ s ++ fn

/-- GP of rep (R37). -/
def wordRep (n : BitVec 6) (d a b : BitVec 2) : Word := topByte true false 22 ++ n ++ d ++ a ++ b ++ 0#12

/-- GP of limm (R37). -/
def wordLimm (p : BitVec 24) : Word := topByte true false 23 ++ p

/-- The word of an instruction, from the encoding tables; none for the rows that have no word. -/
def encode (i : Instr) : Option Word :=
  match i with
  | .vadd m d a b => some (wordR false m 1 0 d a b)
  | .vsub m d a b => some (wordR false m 1 1 d a b)
  | .vaddsI32 m d a b => some (wordR false m 1 2 d a b)
  | .vaddsN32 m d a b => some (wordR false m 1 3 d a b)
  | .vsubsI32 m d a b => some (wordR false m 1 4 d a b)
  | .vsubsN32 m d a b => some (wordR false m 1 5 d a b)
  | .vaddS m d a b => some (wordR false m 8 0 d a b)
  | .vsubS m d a b => some (wordR false m 8 1 d a b)
  | .vaddsI32S m d a b => some (wordR false m 8 2 d a b)
  | .vaddsN32S m d a b => some (wordR false m 8 3 d a b)
  | .vsubsI32S m d a b => some (wordR false m 8 4 d a b)
  | .vsubsN32S m d a b => some (wordR false m 8 5 d a b)
  | .vmul m d a b => some (wordR false m 2 0 d a b)
  | .vmulhI32 m d a b => some (wordR false m 2 1 d a b)
  | .vmulhN32 m d a b => some (wordR false m 2 2 d a b)
  | .vmad m d a b => some (wordR false m 2 3 d a b)
  | .vdivI32 m d a b => some (wordR false m 2 4 d a b)
  | .vdivN32 m d a b => some (wordR false m 2 5 d a b)
  | .vremI32 m d a b => some (wordR false m 2 6 d a b)
  | .vremN32 m d a b => some (wordR false m 2 7 d a b)
  | .vmulS m d a b => some (wordR false m 9 0 d a b)
  | .vmulhI32S m d a b => some (wordR false m 9 1 d a b)
  | .vmulhN32S m d a b => some (wordR false m 9 2 d a b)
  | .vmadS m d a b => some (wordR false m 9 3 d a b)
  | .vdivI32S m d a b => some (wordR false m 9 4 d a b)
  | .vdivN32S m d a b => some (wordR false m 9 5 d a b)
  | .vremI32S m d a b => some (wordR false m 9 6 d a b)
  | .vremN32S m d a b => some (wordR false m 9 7 d a b)
  | .vand m d a b => some (wordR false m 3 0 d a b)
  | .vor m d a b => some (wordR false m 3 1 d a b)
  | .vxor m d a b => some (wordR false m 3 2 d a b)
  | .vandn m d a b => some (wordR false m 3 3 d a b)
  | .vshl m d a b => some (wordR false m 3 4 d a b)
  | .vshr m d a b => some (wordR false m 3 5 d a b)
  | .vsra m d a b => some (wordR false m 3 6 d a b)
  | .vrol m d a b => some (wordR false m 3 7 d a b)
  | .vandS m d a b => some (wordR false m 10 0 d a b)
  | .vorS m d a b => some (wordR false m 10 1 d a b)
  | .vxorS m d a b => some (wordR false m 10 2 d a b)
  | .vandnS m d a b => some (wordR false m 10 3 d a b)
  | .vshlS m d a b => some (wordR false m 10 4 d a b)
  | .vshrS m d a b => some (wordR false m 10 5 d a b)
  | .vsraS m d a b => some (wordR false m 10 6 d a b)
  | .vrolS m d a b => some (wordR false m 10 7 d a b)
  | .vminI32 m d a b => some (wordR false m 4 0 d a b)
  | .vmaxI32 m d a b => some (wordR false m 4 1 d a b)
  | .vminN32 m d a b => some (wordR false m 4 2 d a b)
  | .vmaxN32 m d a b => some (wordR false m 4 3 d a b)
  | .vabsI32 m d a => some (wordR false m 4 4 d a 0)
  | .vclz m d a => some (wordR false m 4 5 d a 0)
  | .vpopc m d a => some (wordR false m 4 6 d a 0)
  | .vbrev m d a => some (wordR false m 4 7 d a 0)
  | .vminI32S m d a b => some (wordR false m 11 0 d a b)
  | .vmaxI32S m d a b => some (wordR false m 11 1 d a b)
  | .vminN32S m d a b => some (wordR false m 11 2 d a b)
  | .vmaxN32S m d a b => some (wordR false m 11 3 d a b)
  | .vcmpEq m d a b => some (wordR false m 5 0 d a b)
  | .vcmpNe m d a b => some (wordR false m 5 1 d a b)
  | .vcmpLt m d a b => some (wordR false m 5 2 d a b)
  | .vcmpLe m d a b => some (wordR false m 5 3 d a b)
  | .vcmpGt m d a b => some (wordR false m 5 4 d a b)
  | .vcmpGe m d a b => some (wordR false m 5 5 d a b)
  | .vcmpLo m d a b => some (wordR false m 6 0 d a b)
  | .vcmpLs m d a b => some (wordR false m 6 1 d a b)
  | .vcmpHi m d a b => some (wordR false m 6 2 d a b)
  | .vcmpHs m d a b => some (wordR false m 6 3 d a b)
  | .vcmpEqS m d a b => some (wordR false m 12 0 d a b)
  | .vcmpNeS m d a b => some (wordR false m 12 1 d a b)
  | .vcmpLtS m d a b => some (wordR false m 12 2 d a b)
  | .vcmpLeS m d a b => some (wordR false m 12 3 d a b)
  | .vcmpGtS m d a b => some (wordR false m 12 4 d a b)
  | .vcmpGeS m d a b => some (wordR false m 12 5 d a b)
  | .vcmpLoS m d a b => some (wordR false m 13 0 d a b)
  | .vcmpLsS m d a b => some (wordR false m 13 1 d a b)
  | .vcmpHiS m d a b => some (wordR false m 13 2 d a b)
  | .vcmpHsS m d a b => some (wordR false m 13 3 d a b)
  | .vsel m d a b => some (wordR false m 7 0 d a b)
  | .vmov m d a => some (wordR false m 7 1 d a 0)
  | .vmovS m d b => some (wordR false m 7 2 d 0 b)
  | .vtid m d => some (wordR false m 7 3 d 0 0)
  | .vaddi m d a i => some (wordI false m 14 d a i)
  | .vmovi m d i => some (wordI false m 15 d 0 i)
  | .vandi m d a i => some (wordI false m 16 d a i)
  | .vori m d a i => some (wordI false m 17 d a i)
  | .vxori m d a i => some (wordI false m 18 d a i)
  | .vshli m d a c => some (wordI false m 19 d a (c.setWidth 10))
  | .vshri m d a c => some (wordI false m 20 d a (c.setWidth 10))
  | .vsrai m d a c => some (wordI false m 21 d a (c.setWidth 10))
  | .vmuli m d a i => some (wordI false m 22 d a i)
  | .vfaddF32 m d a b => some (wordR false m 24 0 d a b)
  | .vfsubF32 m d a b => some (wordR false m 24 1 d a b)
  | .vfmulF32 m d a b => some (wordR false m 24 2 d a b)
  | .vfminF32 m d a b => some (wordR false m 24 3 d a b)
  | .vfmaxF32 m d a b => some (wordR false m 24 4 d a b)
  | .vfmaF32 m d a b => some (wordR false m 24 5 d a b)
  | .vfmsF32 m d a b => some (wordR false m 24 6 d a b)
  | .vfnmaF32 m d a b => some (wordR false m 24 7 d a b)
  | .vfaddF16x2 m d a b => some (wordR false m 25 0 d a b)
  | .vfsubF16x2 m d a b => some (wordR false m 25 1 d a b)
  | .vfmulF16x2 m d a b => some (wordR false m 25 2 d a b)
  | .vfminF16x2 m d a b => some (wordR false m 25 3 d a b)
  | .vfmaxF16x2 m d a b => some (wordR false m 25 4 d a b)
  | .vfmaF16x2 m d a b => some (wordR false m 25 5 d a b)
  | .vfmsF16x2 m d a b => some (wordR false m 25 6 d a b)
  | .vfnmaF16x2 m d a b => some (wordR false m 25 7 d a b)
  | .vfaddBf16x2 m d a b => some (wordR false m 26 0 d a b)
  | .vfsubBf16x2 m d a b => some (wordR false m 26 1 d a b)
  | .vfmulBf16x2 m d a b => some (wordR false m 26 2 d a b)
  | .vfminBf16x2 m d a b => some (wordR false m 26 3 d a b)
  | .vfmaxBf16x2 m d a b => some (wordR false m 26 4 d a b)
  | .vfmaBf16x2 m d a b => some (wordR false m 26 5 d a b)
  | .vfmsBf16x2 m d a b => some (wordR false m 26 6 d a b)
  | .vfnmaBf16x2 m d a b => some (wordR false m 26 7 d a b)
  | .vfaddF32S m d a b => some (wordR false m 27 0 d a b)
  | .vfsubF32S m d a b => some (wordR false m 27 1 d a b)
  | .vfmulF32S m d a b => some (wordR false m 27 2 d a b)
  | .vfminF32S m d a b => some (wordR false m 27 3 d a b)
  | .vfmaxF32S m d a b => some (wordR false m 27 4 d a b)
  | .vfmaF32S m d a b => some (wordR false m 27 5 d a b)
  | .vfmsF32S m d a b => some (wordR false m 27 6 d a b)
  | .vfnmaF32S m d a b => some (wordR false m 27 7 d a b)
  | .vfcmpEqF32 m d a b => some (wordR false m 28 0 d a b)
  | .vfcmpNeF32 m d a b => some (wordR false m 28 1 d a b)
  | .vfcmpLtF32 m d a b => some (wordR false m 28 2 d a b)
  | .vfcmpLeF32 m d a b => some (wordR false m 28 3 d a b)
  | .vfcmpGtF32 m d a b => some (wordR false m 28 4 d a b)
  | .vfcmpGeF32 m d a b => some (wordR false m 28 5 d a b)
  | .vfcmpUnF32 m d a b => some (wordR false m 28 6 d a b)
  | .vfcmpEqF16x2 m d a b => some (wordR false m 29 0 d a b)
  | .vfcmpNeF16x2 m d a b => some (wordR false m 29 1 d a b)
  | .vfcmpLtF16x2 m d a b => some (wordR false m 29 2 d a b)
  | .vfcmpLeF16x2 m d a b => some (wordR false m 29 3 d a b)
  | .vfcmpGtF16x2 m d a b => some (wordR false m 29 4 d a b)
  | .vfcmpGeF16x2 m d a b => some (wordR false m 29 5 d a b)
  | .vfcmpUnF16x2 m d a b => some (wordR false m 29 6 d a b)
  | .vfcmpEqBf16x2 m d a b => some (wordR false m 30 0 d a b)
  | .vfcmpNeBf16x2 m d a b => some (wordR false m 30 1 d a b)
  | .vfcmpLtBf16x2 m d a b => some (wordR false m 30 2 d a b)
  | .vfcmpLeBf16x2 m d a b => some (wordR false m 30 3 d a b)
  | .vfcmpGtBf16x2 m d a b => some (wordR false m 30 4 d a b)
  | .vfcmpGeBf16x2 m d a b => some (wordR false m 30 5 d a b)
  | .vfcmpUnBf16x2 m d a b => some (wordR false m 30 6 d a b)
  | .vfclassF32 m d a => some (wordR false m 31 0 d a 0)
  | .vfclassF16x2 m d a => some (wordR false m 31 1 d a 0)
  | .vfclassBf16x2 m d a => some (wordR false m 31 2 d a 0)
  | .vrcp m d a => some (wordR false m 32 0 d a 0)
  | .vrsq m d a => some (wordR false m 32 1 d a 0)
  | .vsqrt m d a => some (wordR false m 32 2 d a 0)
  | .vexp2 m d a => some (wordR false m 32 3 d a 0)
  | .vlog2 m d a => some (wordR false m 32 4 d a 0)
  | .vsin m d a => some (wordR false m 32 5 d a 0)
  | .vcos m d a => some (wordR false m 32 6 d a 0)
  | .vtanh m d a => some (wordR false m 32 7 d a 0)
  | .vfdivF32 m d a b => some (wordR false m 33 0 d a b)
  | .vfdivF32S m d a b => some (wordR false m 33 1 d a b)
  | .vcvt m d a c => some (wordR false m 34 0 d a c)
  | .vcvtSr m d a c => some (wordR false m 34 1 d a c)
  | .vcvtSat m d a c => some (wordR false m 34 2 d a c)
  | .vcvtSatSr m d a c => some (wordR false m 34 3 d a c)
  | .vqblkE2m1x m d a => some (wordR false m 35 0 d a 0)
  | .vqblkE4m3 m d a => some (wordR false m 35 1 d a 0)
  | .vqblkE5m2 m d a => some (wordR false m 35 2 d a 0)
  | .vpopa m d => some (wordR false m 36 0 d 0 0)
  | .vshflIdx m d a b => some (wordR false m 40 0 d a b)
  | .vshflUp m d a b => some (wordR false m 40 1 d a b)
  | .vshflDown m d a b => some (wordR false m 40 2 d a b)
  | .vshflXor m d a b => some (wordR false m 40 3 d a b)
  | .vperm8Lo m d a b => some (wordR false m 41 0 d a b)
  | .vperm8Hi m d a b => some (wordR false m 41 1 d a b)
  | .vbcast m d a b => some (wordR false m 42 0 d a b)
  | .vext m d a b => some (wordR false m 43 0 d a b)
  | .vlredAddI32 m d a => some (wordR false m 44 0 d a 0)
  | .vlredMinI32 m d a => some (wordR false m 44 1 d a 0)
  | .vlredMaxI32 m d a => some (wordR false m 44 2 d a 0)
  | .vlredMinN32 m d a => some (wordR false m 44 3 d a 0)
  | .vlredMaxN32 m d a => some (wordR false m 44 4 d a 0)
  | .vlredFaddF32 m d a => some (wordR false m 44 5 d a 0)
  | .vlredFminF32 m d a => some (wordR false m 44 6 d a 0)
  | .vlredFmaxF32 m d a => some (wordR false m 44 7 d a 0)
  | .vscanAddI32 m d a => some (wordR false m 45 0 d a 0)
  | .vscanMinI32 m d a => some (wordR false m 45 1 d a 0)
  | .vscanMaxI32 m d a => some (wordR false m 45 2 d a 0)
  | .vscanMinN32 m d a => some (wordR false m 45 3 d a 0)
  | .vscanMaxN32 m d a => some (wordR false m 45 4 d a 0)
  | .vscanFaddF32 m d a => some (wordR false m 45 5 d a 0)
  | .vscanFminF32 m d a => some (wordR false m 45 6 d a 0)
  | .vscanFmaxF32 m d a => some (wordR false m 45 7 d a 0)
  | .voteAny m d a p => some (wordR false m 46 0 d a p)
  | .voteAll m d a p => some (wordR false m 46 1 d a p)
  | .voteBallot m d a p => some (wordR false m 46 2 d a p)
  | .vfirst m d a p => some (wordR false m 47 0 d a p)
  | .vld m d a g s i => some (wordM false m 48 d a g s i)
  | .vlds m d a g s i => some (wordM false m 49 d a g s i)
  | .vst m d a g s i => some (wordM false m 50 d a g s i)
  | .vatomAdd m d a g s => some (wordM false m 51 d a g s 0)
  | .vatomSub m d a g s => some (wordM false m 51 d a g s 1)
  | .vatomMinI m d a g s => some (wordM false m 51 d a g s 2)
  | .vatomMaxI m d a g s => some (wordM false m 51 d a g s 3)
  | .vatomMinN m d a g s => some (wordM false m 51 d a g s 4)
  | .vatomMaxN m d a g s => some (wordM false m 51 d a g s 5)
  | .vatomAnd m d a g s => some (wordM false m 51 d a g s 6)
  | .vatomOr m d a g s => some (wordM false m 51 d a g s 7)
  | .vatomXor m d a g s => some (wordM false m 51 d a g s 8)
  | .vatomXchg m d a g s => some (wordM false m 51 d a g s 9)
  | .vatomCas m d a g s => some (wordM false m 51 d a g s 10)
  | .vatomFadd m d a g s => some (wordM false m 51 d a g s 11)
  | .vatomFmin m d a g s => some (wordM false m 51 d a g s 12)
  | .vatomFmax m d a g s => some (wordM false m 51 d a g s 13)
  | .vatomAddBf16x2 m d a g s => some (wordM false m 51 d a g s 14)
  | .vredAdd m d a g s => some (wordM false m 52 d a g s 0)
  | .vredSub m d a g s => some (wordM false m 52 d a g s 1)
  | .vredMinI m d a g s => some (wordM false m 52 d a g s 2)
  | .vredMaxI m d a g s => some (wordM false m 52 d a g s 3)
  | .vredMinN m d a g s => some (wordM false m 52 d a g s 4)
  | .vredMaxN m d a g s => some (wordM false m 52 d a g s 5)
  | .vredAnd m d a g s => some (wordM false m 52 d a g s 6)
  | .vredOr m d a g s => some (wordM false m 52 d a g s 7)
  | .vredXor m d a g s => some (wordM false m 52 d a g s 8)
  | .vredFadd m d a g s => some (wordM false m 52 d a g s 11)
  | .vredFmin m d a g s => some (wordM false m 52 d a g s 12)
  | .vredFmax m d a g s => some (wordM false m 52 d a g s 13)
  | .vredAddBf16x2 m d a g s => some (wordM false m 52 d a g s 14)
  | .nop m => some (wordR true m 0 0 0 0 0)
  | .yield m => some (wordR true m 0 1 0 0 0)
  | .exit m => some (wordR true m 0 2 0 0 0)
  | .sadd m d a b => some (wordR true m 1 0 d a b)
  | .ssub m d a b => some (wordR true m 1 1 d a b)
  | .saddsI64 m d a b => some (wordR true m 1 2 d a b)
  | .saddsN64 m d a b => some (wordR true m 1 3 d a b)
  | .ssubsI64 m d a b => some (wordR true m 1 4 d a b)
  | .ssubsN64 m d a b => some (wordR true m 1 5 d a b)
  | .smul m d a b => some (wordR true m 2 0 d a b)
  | .smulhI64 m d a b => some (wordR true m 2 1 d a b)
  | .smulhN64 m d a b => some (wordR true m 2 2 d a b)
  | .sdivI64 m d a b => some (wordR true m 2 4 d a b)
  | .sdivN64 m d a b => some (wordR true m 2 5 d a b)
  | .sremI64 m d a b => some (wordR true m 2 6 d a b)
  | .sremN64 m d a b => some (wordR true m 2 7 d a b)
  | .sand m d a b => some (wordR true m 3 0 d a b)
  | .sor m d a b => some (wordR true m 3 1 d a b)
  | .sxor m d a b => some (wordR true m 3 2 d a b)
  | .sandn m d a b => some (wordR true m 3 3 d a b)
  | .sshl m d a b => some (wordR true m 3 4 d a b)
  | .sshr m d a b => some (wordR true m 3 5 d a b)
  | .ssra m d a b => some (wordR true m 3 6 d a b)
  | .srol m d a b => some (wordR true m 3 7 d a b)
  | .sminI64 m d a b => some (wordR true m 4 0 d a b)
  | .smaxI64 m d a b => some (wordR true m 4 1 d a b)
  | .sminN64 m d a b => some (wordR true m 4 2 d a b)
  | .smaxN64 m d a b => some (wordR true m 4 3 d a b)
  | .sabsI64 m d a => some (wordR true m 4 4 d a 0)
  | .sclz m d a => some (wordR true m 4 5 d a 0)
  | .spopc m d a => some (wordR true m 4 6 d a 0)
  | .sbrev m d a => some (wordR true m 4 7 d a 0)
  | .scmpEq m d a b => some (wordR true m 5 0 d a b)
  | .scmpNe m d a b => some (wordR true m 5 1 d a b)
  | .scmpLt m d a b => some (wordR true m 5 2 d a b)
  | .scmpLe m d a b => some (wordR true m 5 3 d a b)
  | .scmpGt m d a b => some (wordR true m 5 4 d a b)
  | .scmpGe m d a b => some (wordR true m 5 5 d a b)
  | .scmpLo m d a b => some (wordR true m 6 0 d a b)
  | .scmpLs m d a b => some (wordR true m 6 1 d a b)
  | .scmpHi m d a b => some (wordR true m 6 2 d a b)
  | .scmpHs m d a b => some (wordR true m 6 3 d a b)
  | .smov m d a => some (wordR true m 7 0 d a 0)
  | .scsel m d a b => some (wordR true m 7 1 d a b)
  | .saddi m d a i => some (wordI true m 8 d a i)
  | .sandi m d a i => some (wordI true m 9 d a i)
  | .sori m d a i => some (wordI true m 10 d a i)
  | .sxori m d a i => some (wordI true m 11 d a i)
  | .sshli m d a c => some (wordI true m 12 d a (c.setWidth 10))
  | .sshri m d a c => some (wordI true m 13 d a (c.setWidth 10))
  | .ssrai m d a c => some (wordI true m 14 d a (c.setWidth 10))
  | .smovi m d i => some (wordI true m 15 d 0 i)
  | .mand m d a b => some (wordR true m 16 0 d a b)
  | .mor m d a b => some (wordR true m 16 1 d a b)
  | .mxor m d a b => some (wordR true m 16 2 d a b)
  | .mandn m d a b => some (wordR true m 16 3 d a b)
  | .mnot m d a => some (wordR true m 16 4 d a 0)
  | .mpopc m d a => some (wordR true m 16 5 d a 0)
  | .mffs m d a => some (wordR true m 16 6 d a 0)
  | .mfls m d a => some (wordR true m 16 7 d a 0)
  | .mffNv m d n => some (wordR true m 17 0 d 0 (bitField n))
  | .mffDz m d n => some (wordR true m 17 1 d 0 (bitField n))
  | .mffOf m d n => some (wordR true m 17 2 d 0 (bitField n))
  | .mffUf m d n => some (wordR true m 17 3 d 0 (bitField n))
  | .mffNx m d n => some (wordR true m 17 4 d 0 (bitField n))
  | .mffclr m a n => some (wordR true m 17 5 0 a (bitField n))
  | .rep n d a b => some (wordRep n d a b)
  | .limm p => some (wordLimm p)
  | .br m o => some (wordB24 m 24 o)
  | .call m o => some (wordB24 m 25 o)
  | .bz m a o => some (wordB17 m 26 a o)
  | .bnz m a o => some (wordB17 m 27 a o)
  | .bmz m a o => some (wordB17 m 28 a o)
  | .bmnz m a o => some (wordB17 m 29 a o)
  | .jr m a => some (wordR true m 30 0 0 a 0)
  | .jalr m d a => some (wordR true m 30 1 d a 0)
  | .sld m d a g s i => some (wordM true m 32 d a g s i)
  | .slds m d a g s i => some (wordM true m 33 d a g s i)
  | .sst m d a g s i => some (wordM true m 34 d a g s i)
  | .satomAdd m d a g s => some (wordM true m 35 d a g s 0)
  | .satomSub m d a g s => some (wordM true m 35 d a g s 1)
  | .satomMinI m d a g s => some (wordM true m 35 d a g s 2)
  | .satomMaxI m d a g s => some (wordM true m 35 d a g s 3)
  | .satomMinN m d a g s => some (wordM true m 35 d a g s 4)
  | .satomMaxN m d a g s => some (wordM true m 35 d a g s 5)
  | .satomAnd m d a g s => some (wordM true m 35 d a g s 6)
  | .satomOr m d a g s => some (wordM true m 35 d a g s 7)
  | .satomXor m d a g s => some (wordM true m 35 d a g s 8)
  | .satomXchg m d a g s => some (wordM true m 35 d a g s 9)
  | .satomCas m d a g s => some (wordM true m 35 d a g s 10)
  | .satomFadd m d a g s => some (wordM true m 35 d a g s 11)
  | .satomFmin m d a g s => some (wordM true m 35 d a g s 12)
  | .satomFmax m d a g s => some (wordM true m 35 d a g s 13)
  | .satomAddBf16x2 m d a g s => some (wordM true m 35 d a g s 14)
  | .hflush m g a b => some (wordR true m 36 0 (g.setWidth 7) a b)
  | .hinval m g a b => some (wordR true m 36 1 (g.setWidth 7) a b)
  | .sysr m r s => some (wordS m r s 0)
  | .sysw m r s => some (wordS m r s 1)
  | .trap m a => some (wordR true m 38 0 0 a 0)
  | .tretResume m a => some (wordR true m 38 1 0 a 0)
  | .tretEndReturn m a => some (wordR true m 38 1 0 a 0)
  | .tretEndDiscard m a => some (wordR true m 38 1 0 a 0)
  | .brk m => some (wordR true m 38 2 0 0 0)
  | .segld m n a g => some (wordR true m 39 0 (n.setWidth 7) a (g.setWidth 7))
  | .tlbinv m a b => some (wordR true m 39 1 0 a b)
  | .tlbsync m => some (wordR true m 39 2 0 0 0)
  | .ctxsave m d a b => some (wordR true m 39 3 d a b)
  | .ctxrest m d a b => some (wordR true m 39 4 d a b)
  | .cpy m q k a b c => some (wordX m (40 + q.setWidth 6) k a b c)
  | .cpyMc m q k a b c => some (wordX m (44 + q.setWidth 6) k a b c)
  | .cpyRow m k a b q => some (wordX m 48 k a b (q.setWidth 7))
  | .cpyClose m k q => some (wordX m 49 k 0 0 (q.setWidth 7))
  | .kwait m k => some (wordI true m 50 0 0 (k.setWidth 10))
  | .kwaitObj m d a g => some (wordI true m 50 d a (hiLo 64 3 g))
  | .qfence m k q => some (wordI true m 51 (k.setWidth 7) 0 (q.setWidth 10))
  | .mcready m d a b => some (wordR true m 52 0 d a b)
  | .preserve m d a b => some (wordR true m 53 0 d a b)
  | .pcommit m b => some (wordR true m 53 1 0 0 b)
  | .pclaim m d a b => some (wordR true m 53 2 d a b)
  | .prelease m b => some (wordR true m 53 3 0 0 b)
  | .pquery m d a => some (wordR true m 53 4 d a 0)
  | .send m a b => some (wordR true m 54 0 0 a b)
  | .sendw m d a b => some (wordR true m 54 1 d a b)
  | .pportq m d a => some (wordR true m 54 2 d a 0)
  | .jen m a => some (wordR true m 54 3 0 a 0)
  | .jdis m a => some (wordR true m 54 4 0 a 0)
  | .barArr m g a b => some (wordR true m 55 0 (g.setWidth 7) a b)
  | .barWait m g a b => some (wordR true m 55 1 (g.setWidth 7) a b)
  | .barArw m g a => some (wordR true m 55 2 (g.setWidth 7) a 0)
  | .abarArr m d n => some (wordR true m 55 3 d (n.setWidth 7) 0)
  | .abarWait m n b => some (wordR true m 55 4 0 (n.setWidth 7) b)
  | .abarTest m d n b => some (wordR true m 55 5 d (n.setWidth 7) b)
  | .mma m t a b c => some (wordX m 56 t a b c)
  | .mmaSp m t a b c => some (wordX m 57 t a b c)
  | .mzero m t => some (wordX m 58 t 0 0 0)
  | .mrows m t => some (wordX m 58 t 0 0 1)
  | .mldacc m t a => some (wordX m 58 t a 0 2)
  | .mstacc m t a b => some (wordX m 58 t a b 3)
  | .mvm m k a b c => some (wordX m 59 k a b c)
  | .planLd m d a g => some (wordR true m 60 0 d a (g.setWidth 7))
  | .planGoStart m d a b => some (wordR true m 60 1 d a b)
  | .planGoDrainFinish m d a b => some (wordR true m 60 1 d a b)
  | .planGoDrainDiscard m d a b => some (wordR true m 60 1 d a b)
  | .planGoRemove m d a b => some (wordR true m 60 1 d a b)
  | .spawn m a b => some (wordR true m 60 2 0 a b)
  | .pvalloc m d a b => some (wordR true m 61 0 d a b)
  | .pvfree m d a => some (wordR true m 61 1 d a 0)
  | .pvq m d a => some (wordR true m 61 2 d a 0)
  | .loadResultReturn _ _ _ => none
  | .storePerformed _ => none
  | .retryHintExpiry _ => none
  | .sliceRedirect _ => none
  | .sliceRetire _ _ _ => none
  | .sliceStubRemove _ => none
  | .orangeryRefreshAdvance => none
  | .tlbsyncComplete _ => none
  | .hostSyncPerformed _ => none
  | .hostBelvedereWrite _ _ _ => none
  | .hostBelvedereRead _ _ => none
  | .atomicRequestAtHome _ => none
  | .atomicReply _ _ _ => none
  | .barrierWake _ => none
  | .arborRelease _ _ => none
  | .copyEntryStart _ _ => none
  | .copyPiece _ _ _ => none
  | .copyEntryComplete _ _ => none
  | .kwaitObjWake _ => none
  | .fenceEntryHead _ _ => none
  | .multicastSort _ _ => none
  | .multicastResort _ _ => none
  | .multicastAck _ _ _ => none
  | .holdingBufferDrain _ _ _ => none
  | .bulkStreamClose _ _ => none
  | .bulkStreamTimeout _ _ => none
  | .pipeRefillStart _ _ => none
  | .pipeRefillComplete _ _ => none
  | .preserveUnblock _ => none
  | .pipeHeadRise _ => none
  | .messageAdmission _ => none
  | .waiterAdmission _ => none
  | .messageReturn _ => none
  | .runQueueEntryFree _ => none
  | .taskRecordEntry _ => none
  | .sendwComplete _ => none
  | .hostDoorbellWrite _ _ _ => none
  | .hostDoorbellRead _ => none
  | .faultEventAdmit _ => none
  | .taskDispatch _ => none
  | .taskStart _ => none
  | .groupExitDrained _ => none
  | .queueOverflow _ => none
  | .queueUnderflow _ => none
  | .priorityRecompute _ => none
  | .preemptTick _ => none
  | .rebalanceTick _ _ => none
  | .coreMoveLoad _ _ => none
  | .deadlockDetect _ => none
  | .drainQuiescence _ => none
  | .gangStateObserve _ => none
  | .gangTimeout _ => none
  | .flitReceive _ _ _ _ _ _ _ _ _ => none
  | .idleFlit _ => none
  | .retrainComplete _ => none
  | .retrainLimitExpiry _ => none
  | .retrainBucketDecay _ => none
  | .forwardStallRelease _ _ => none
  | .linkSilenceTimeout _ => none
  | .fatalErrorNotice _ => none
  | .portDownNotice _ _ => none
  | .matrixCommandStart _ => none
  | .operandFetchComplete _ => none
  | .multiplyStart _ => none
  | .multiplyComplete _ => none
  | .mrowsRowEnter _ => none
  | .mvmComplete _ => none
  | .trapEntry _ => none
  | .stepBlockTimeout _ => none
  | .srseedWrite m s => some (wordS m 0x001 s 1)
  | .keyLoad m s => some (wordS m 0x0C1 s 1)
  | .keyClear m s => some (wordS m 0x0C1 s 1)
  | .keyOpDone => none
  | .measExtend m s => some (wordS m 0x0C3 s 1)
  | .measExtendDone => none
  | .attestStart m s => some (wordS m 0x0C2 s 1)
  | .attestDone _ => none
  | .pavQuotaWrite m s => some (wordS m 0x0C0 s 1)
  | .pavQuotaDone => none
  | .fabLostClear m s => some (wordS m 0x084 s 1)
  | .devLostClear m h s => some (wordS m (if h then 0x086 else 0x085) s 1)
  | .controlRegWrite _ => none
  | .railEnable _ => none
  | .railGood _ _ => none
  | .railLimitExpiry _ _ => none
  | .cpRun _ => none
  | .cpHaltqRead _ => none
  | .hbmInit _ => none
  | .hbmInitDone _ => none
  | .hbmTrain _ => none
  | .hbmTrainDone _ _ => none
  | .hbmTrainLimitExpiry _ => none
  | .hbmServe _ => none
  | .hbmMrGo _ => none
  | .hbmMrDone _ => none
  | .ucieTrain _ => none
  | .ucieTrainDone _ _ => none
  | .ucieTrainLimitExpiry _ _ => none
  | .pcieTrain _ => none
  | .pcieTrainDone => none
  | .pcieTrainLimitExpiry => none
  | .cxlEnable _ => none
  | .ualTrain _ => none
  | .ualTrainDone _ _ => none
  | .ualTrainLimitExpiry _ => none
  | .ualServe _ => none
  | .arbTestGo _ => none
  | .arbTestDone _ => none
  | .coreTestGo _ => none
  | .coreTestDone _ _ _ => none
  | .orgTestGo _ => none
  | .orgTestDone _ _ => none
  | .flashProgram _ => none
  | .flashWordStored => none
  | .powerOn _ _ => none
  | .powerCapCheck _ => none
  | .dieOvertemp _ _ => none
  | .powerLoss => none
  | .granuleZeroed _ _ => none
  | .hostWriteCombineDrain _ => none
  | .memberLostNotice _ _ => none
  | .sliceAdd _ _ _ => none

/-- The row whose encoding a word gives where several rows share it: the operand's value tells them apart when the
instruction issues (R354, R306, R307, R318, R319, R362). -/
noncomputable def canonical (i : Instr) : Instr :=
  match i with
  | .tretEndReturn m a => .tretResume m a
  | .tretEndDiscard m a => .tretResume m a
  | .planGoDrainFinish m d a b => .planGoStart m d a b
  | .planGoDrainDiscard m d a b => .planGoStart m d a b
  | .planGoRemove m d a b => .planGoStart m d a b
  | .keyClear m s => .keyLoad m s
  | i => i

/-- What the decoder reads from a row of the opcode table: every instruction is one 32-bit word (R31). -/
noncomputable def decodeTableWord (nbits w : Nat) : Option Instr :=
  if nbits = 0 ∨ nbits > 32 then none
  else match decode (BitVec.ofNat 32 w) with
    | .ok i => some i
    | .error _ => none

end Sys2Proof
end

