-- ==== Sys2Proof/Machine/Arith.lean ====
section
/-!
DEFINITION. Integer arithmetic of the scalar and the lane set: the result tables of R79, R81, R82, R106 and R109,
for any width.
-/

namespace Sys2Proof.Machine

/-- The interval limit of R77. -/
def clampInt (x lo hi : Int) : Int := if x < lo then lo else if hi < x then hi else x

/-- Clamped to the signed range (R79, R106). -/
def satS (w : Nat) (x : Int) : BitVec w := BitVec.ofInt w (clampInt x (-(2 ^ (w - 1) : Nat)) ((2 ^ (w - 1) : Nat) - 1))

/-- Clamped to the unsigned range (R79, R106). -/
def satN (w : Nat) (x : Int) : BitVec w := BitVec.ofInt w (clampInt x 0 ((2 ^ w : Nat) - 1))

def addsS {w : Nat} (a b : BitVec w) : BitVec w := satS w (a.toInt + b.toInt)
def addsN {w : Nat} (a b : BitVec w) : BitVec w := satN w ((a.toNat : Int) + b.toNat)
def subsS {w : Nat} (a b : BitVec w) : BitVec w := satS w (a.toInt - b.toInt)
def subsN {w : Nat} (a b : BitVec w) : BitVec w := satN w ((a.toNat : Int) - b.toNat)

/-- The upper half of the signed product: floor(Si(a) × Si(b) / 2^w). -/
def mulhS {w : Nat} (a b : BitVec w) : BitVec w := BitVec.ofInt w (a.toInt * b.toInt / (2 ^ w : Nat))

/-- The upper half of the unsigned product. -/
def mulhN {w : Nat} (a b : BitVec w) : BitVec w := BitVec.ofNat w (a.toNat * b.toNat / 2 ^ w)

/-- Signed division rounds toward zero; by zero it gives all ones. -/
def divS {w : Nat} (a b : BitVec w) : BitVec w := if b = 0 then BitVec.allOnes w else BitVec.ofInt w (a.toInt.tdiv b.toInt)
def divN {w : Nat} (a b : BitVec w) : BitVec w := if b = 0 then BitVec.allOnes w else BitVec.ofNat w (a.toNat / b.toNat)

/-- The remainder is a − b × quotient; by zero it is a. -/
def remS {w : Nat} (a b : BitVec w) : BitVec w :=
  if b = 0 then a else BitVec.ofInt w (a.toInt - b.toInt * a.toInt.tdiv b.toInt)
def remN {w : Nat} (a b : BitVec w) : BitVec w :=
  if b = 0 then a else BitVec.ofNat w (a.toNat - b.toNat * (a.toNat / b.toNat))

def andn {w : Nat} (a b : BitVec w) : BitVec w := a &&& ~~~b

/-- Shift counts are taken modulo the width: b[5:0] or b[4:0]. -/
def shl {w : Nat} (a b : BitVec w) : BitVec w := a <<< (b.toNat % w)
def shr {w : Nat} (a b : BitVec w) : BitVec w := a >>> (b.toNat % w)
def sra {w : Nat} (a b : BitVec w) : BitVec w := a.sshiftRight (b.toNat % w)
def rol {w : Nat} (a b : BitVec w) : BitVec w := a.rotateLeft (b.toNat % w)

def minS {w : Nat} (a b : BitVec w) : BitVec w := if a.toInt ≤ b.toInt then a else b
def maxS {w : Nat} (a b : BitVec w) : BitVec w := if a.toInt ≤ b.toInt then b else a
def minN {w : Nat} (a b : BitVec w) : BitVec w := if a.toNat ≤ b.toNat then a else b
def maxN {w : Nat} (a b : BitVec w) : BitVec w := if a.toNat ≤ b.toNat then b else a
def absS {w : Nat} (a : BitVec w) : BitVec w := BitVec.ofNat w a.toInt.natAbs

/-- The number of bits of `n` up to its highest one. -/
def bitLen (n : Nat) : Nat := if n = 0 then 0 else Nat.log2 n + 1

def clz {w : Nat} (a : BitVec w) : BitVec w := BitVec.ofNat w (w - bitLen a.toNat)

/-- The number of ones of a bit vector. -/
def ones {w : Nat} (a : BitVec w) : Nat := ((List.range w).filter (fun j => a.getLsbD j)).length
def popc {w : Nat} (a : BitVec w) : BitVec w := BitVec.ofNat w (ones a)

/-- Bit i moved to bit w − 1 − i. -/
def brev {w : Nat} (a : BitVec w) : BitVec w :=
  BitVec.ofNat w ((List.range w).foldl (fun acc j => if a.getLsbD j then acc + 2 ^ (w - 1 - j) else acc) 0)

/-- The index of the lowest one, or 64 (R82). -/
def ffs64 (a : BitVec 64) : BitVec 64 :=
  BitVec.ofNat 64 (((List.range 64).find? (fun j => a.getLsbD j)).getD 64)

/-- The index of the highest one, or 64 (R82). -/
def fls64 (a : BitVec 64) : BitVec 64 := if a = 0 then 64 else BitVec.ofNat 64 (bitLen a.toNat - 1)

/-- The conditions of R80, R107: six signed and four unsigned. -/
inductive Cond where
  | eq | ne | lt | le | gt | ge | lo | ls | hi | hs
  deriving DecidableEq, Repr

/-- Whether a condition holds between two values (R80, R107). -/
def Cond.holds {w : Nat} (c : Cond) (a b : BitVec w) : Bool :=
  match c with
  | .eq => a == b
  | .ne => a != b
  | .lt => a.toInt < b.toInt
  | .le => a.toInt ≤ b.toInt
  | .gt => b.toInt < a.toInt
  | .ge => b.toInt ≤ a.toInt
  | .lo => a.toNat < b.toNat
  | .ls => a.toNat ≤ b.toNat
  | .hi => b.toNat < a.toNat
  | .hs => b.toNat ≤ a.toNat

/-- All ones where the condition holds, else zero (R80, R122). -/
def boolMask (c : Bool) : BitVec 64 := if c then BitVec.allOnes 64 else 0

/-- One bit for each of the 64 threads (R107). -/
def maskOf (p : Nat → Bool) : BitVec 64 :=
  BitVec.ofNat 64 ((List.range 64).foldl (fun acc t => if p t then acc + 2 ^ t else acc) 0)

end Sys2Proof.Machine
end

