-- ==== Sys2Proof/Machine/Flags.lean ====
section
/-!
DEFINITION. The five floating-point flags: those of one operation, and the sticky sets FF of a group (R94, R102).
-/

namespace Sys2Proof.Machine

/-- The flags one operation raises in one thread (R102). -/
structure Flags where
  nv : Bool := false
  dz : Bool := false
  of : Bool := false
  uf : Bool := false
  nx : Bool := false
  deriving DecidableEq, Repr

/-- No flag. -/
def Flags.none : Flags := ⟨false, false, false, false, false⟩

/-- Only the invalid flag, where `c` holds. -/
def Flags.invalid (c : Bool) : Flags := ⟨c, false, false, false, false⟩

/-- A thread's flags are the OR of its elements' flags (R98). -/
def Flags.or (x y : Flags) : Flags := ⟨x.nv || y.nv, x.dz || y.dz, x.of || y.of, x.uf || y.uf, x.nx || y.nx⟩

/-- FF: five sticky sets with one bit for each thread (R94). -/
structure FF where
  nv : Mask := 0
  dz : Mask := 0
  of : Mask := 0
  uf : Mask := 0
  nx : Mask := 0
  deriving DecidableEq, Repr

/-- One of the five sets (R82, R121). -/
inductive Flag where
  | nv | dz | of | uf | nx
  deriving DecidableEq, Repr

/-- The set of one flag. -/
def FF.get (f : FF) : Flag → Mask
  | .nv => f.nv | .dz => f.dz | .of => f.of | .uf => f.uf | .nx => f.nx

/-- The flags that threads raise, as sets: `g t` are the flags of thread t. -/
def FF.ofThreads (g : Nat → Flags) : FF :=
  ⟨maskOf fun t => (g t).nv, maskOf fun t => (g t).dz, maskOf fun t => (g t).of, maskOf fun t => (g t).uf,
   maskOf fun t => (g t).nx⟩

/-- Flags are sticky: raising adds, nothing clears (R94). -/
def FF.join (f g : FF) : FF := ⟨f.nv ||| g.nv, f.dz ||| g.dz, f.of ||| g.of, f.uf ||| g.uf, f.nx ||| g.nx⟩

/-- The flag with number k, 0 to 4, of thread t: its set alone. -/
def FF.single (k t : Nat) : FF :=
  let m : Mask := BitVec.ofNat 64 (2 ^ t)
  match k with
  | 0 => { nv := m } | 1 => { dz := m } | 2 => { of := m } | 3 => { uf := m } | 4 => { nx := m }
  | _ => {}

/-- The flags of `f` that `g` holds too, and those that it does not. -/
def FF.meet (f g : FF) : FF := ⟨f.nv &&& g.nv, f.dz &&& g.dz, f.of &&& g.of, f.uf &&& g.uf, f.nx &&& g.nx⟩
def FF.less (f g : FF) : FF := ⟨andn f.nv g.nv, andn f.dz g.dz, andn f.of g.of, andn f.uf g.uf, andn f.nx g.nx⟩

/-- `mffclr` clears all five flags of the threads of a mask (R82). -/
def FF.clear (f : FF) (m : Mask) : FF := ⟨andn f.nv m, andn f.dz m, andn f.of m, andn f.uf m, andn f.nx m⟩

end Sys2Proof.Machine
end

