-- ==== Sys2Proof/Machine/Float.lean ====
section
/-!
DEFINITION. Floating-point values, exact results and the one rounding to a format (R95 to R104, R110 to R113).
-/

namespace Sys2Proof.Machine

/-- An element format (R95, R96): exponent and fraction widths, bias, the code of the largest finite value, and the
codes of infinity (0 where there is none) and of the canonical NaN. -/
structure FloatFmt where
  ebits : Nat
  mbits : Nat
  bias : Nat
  maxCode : Nat
  infCode : Nat
  nanCode : Nat
  deriving DecidableEq, Repr

def fmtF32 : FloatFmt := ⟨8, 23, 127, 0x7F7FFFFF, 0x7F800000, 0x7FC00000⟩
def fmtF16 : FloatFmt := ⟨5, 10, 15, 0x7BFF, 0x7C00, 0x7E00⟩
def fmtBF16 : FloatFmt := ⟨8, 7, 127, 0x7F7F, 0x7F80, 0x7FC0⟩
def fmtE5M2 : FloatFmt := ⟨5, 2, 15, 0x7B, 0x7C, 0x7E⟩
def fmtE4M3 : FloatFmt := ⟨4, 3, 7, 0x7E, 0, 0x7F⟩
def fmtE2M1 : FloatFmt := ⟨2, 1, 1, 0x7, 0, 0⟩

/-- The number of bits of a code. -/
def FloatFmt.width (f : FloatFmt) : Nat := 1 + f.ebits + f.mbits

/-- The place of the sign bit. -/
def FloatFmt.signBit (f : FloatFmt) : Nat := 2 ^ (f.ebits + f.mbits)

/-- The exponent of the smallest subnormal: 1 − bias − m. -/
def FloatFmt.qmin (f : FloatFmt) : Int := 1 - (f.bias : Int) - f.mbits

/-- What a code stands for: a NaN (signalling or quiet), an infinity, or the number ± m × 2^e. -/
inductive Fp where
  | nan (sig : Bool)
  | inf (neg : Bool)
  | fin (neg : Bool) (m : Nat) (e : Int)
  deriving DecidableEq, Repr

/-- The value of a code (R95, R96). -/
def unpack (f : FloatFmt) (code : Nat) : Fp :=
  let neg := code / f.signBit % 2 == 1
  let mag := code % f.signBit
  let ex := mag / 2 ^ f.mbits
  let fr := mag % 2 ^ f.mbits
  if mag ≤ f.maxCode then
    if ex = 0 then .fin neg fr f.qmin else .fin neg (2 ^ f.mbits + fr) (f.qmin + ex - 1)
  else if f.infCode ≠ 0 ∧ mag = f.infCode then .inf neg
  else .nan (f.infCode ≠ 0 ∧ fr / 2 ^ (f.mbits - 1) = 0)

/-- Whether a code is subnormal (R95). -/
def isSubnormal (f : FloatFmt) (code : Nat) : Bool :=
  let mag := code % f.signBit
  mag / 2 ^ f.mbits == 0 && mag != 0

/-- FTZ reads a subnormal operand as a zero of its own sign (R101). -/
def flushCode (f : FloatFmt) (ftz : Bool) (code : Nat) : Nat :=
  if ftz && isSubnormal f code then code / f.signBit % 2 * f.signBit else code

/-- The value of an operand under FTZ (R101). -/
def operandOf (f : FloatFmt) (ftz : Bool) (code : Nat) : Fp := unpack f (flushCode f ftz code)

def Fp.isNan : Fp → Bool
  | .nan _ => true
  | _ => false

def Fp.isSNan : Fp → Bool
  | .nan s => s
  | _ => false

def Fp.isZero : Fp → Bool
  | .fin _ m _ => m == 0
  | _ => false

def Fp.sign : Fp → Bool
  | .nan _ => false
  | .inf n => n
  | .fin n _ _ => n

/-- The same value with the other sign; a NaN stays. -/
def Fp.negate : Fp → Fp
  | .nan s => .nan s
  | .inf n => .inf (!n)
  | .fin n m e => .fin (!n) m e

/-- FPCTL as an instruction reads it (R92, R93). -/
structure Rounding where
  rm : Nat
  ftz : Bool
  deriving DecidableEq, Repr

/-- An exact result (R99): a NaN, with whether it is an invalid operation; an infinity, with whether a division by zero
gave it; or ± (m + δ) × 2^e, where δ is 0, or strictly between 0 and 1 when `sticky` holds. -/
inductive Exact where
  | nan (nv : Bool)
  | inf (neg dz : Bool)
  | num (neg : Bool) (m : Nat) (e : Int) (sticky : Bool)
  deriving DecidableEq, Repr

/-- `a × 2^k` for k ≥ 0, and floor for k < 0. -/
def shiftInt (a : Nat) (k : Int) : Nat := if 0 ≤ k then a * 2 ^ k.toNat else a / 2 ^ (-k).toNat

/-- A magnitude (m + δ) × 2^e in units of 2^q: the truncated count, the remainder in units of 2^(q − 64) with
everything below it ORed in as `sticky`. -/
structure Cut where
  n : Nat
  rest : Nat
  sticky : Bool
  deriving DecidableEq, Repr

/-- Cuts a magnitude at 2^q. -/
def cutAt (m : Nat) (e : Int) (sticky : Bool) (q : Int) : Cut :=
  let k := e - q + 64
  let x := shiftInt m k
  let low := if 0 ≤ k then false else m % 2 ^ (-k).toNat != 0
  ⟨x / 2 ^ 64, x % 2 ^ 64, low || sticky⟩

def Cut.inexact (c : Cut) : Bool := c.rest != 0 || c.sticky

/-- Whether the rounding mode takes a cut magnitude up (R92): to nearest with ties to even, toward zero, toward +∞,
toward −∞. -/
def Cut.roundsUp (c : Cut) (rm : Nat) (neg : Bool) : Bool :=
  match rm with
  | 0 => decide (2 ^ 63 < c.rest) || (c.rest == 2 ^ 63 && (c.sticky || c.n % 2 == 1))
  | 1 => false
  | 2 => !neg && c.inexact
  | _ => neg && c.inexact

/-- The rounded count of a cut magnitude. -/
def Cut.round (c : Cut) (rm : Nat) (neg : Bool) : Nat := if c.roundsUp rm neg then c.n + 1 else c.n

/-- The code of n × 2^q for n of at most mbits + 1 bits; q is at least qmin. A carry into bit mbits + 1 moves the
exponent, as it does in the code. -/
def codeOf (f : FloatFmt) (n : Nat) (q : Int) : Nat :=
  if n < 2 ^ f.mbits then n else (q - f.qmin).toNat * 2 ^ f.mbits + n

/-- Where the exponent of a nonzero magnitude stands: floor(log2 (m × 2^e)). -/
def topExp (m : Nat) (e : Int) : Int := e + (bitLen m : Int) - 1

/-- What overflow delivers (R100). -/
def overflowCode (f : FloatFmt) (rm : Nat) (neg : Bool) : Nat :=
  match rm with
  | 0 => f.infCode
  | 1 => f.maxCode
  | 2 => if neg then f.maxCode else f.infCode
  | _ => if neg then f.infCode else f.maxCode

/-- The sign put on a magnitude code. -/
def withSign (f : FloatFmt) (neg : Bool) (mag : Nat) : Nat := if neg then f.signBit + mag else mag

/-- How a magnitude is rounded in a format: its magnitude code in the unbounded exponent range (above `maxCode` where it
overflows), whether that is below the smallest normal, and the code and inexactness of the rounding that is delivered
(R99 to R101). -/
structure Rounded where
  overflow : Bool
  tiny : Bool
  code : Nat
  inexact : Bool
  deriving DecidableEq, Repr

/-- Rounds a nonzero magnitude. `up` says, for the cut at a spacing, whether it is rounded up. -/
def roundMag (f : FloatFmt) (m : Nat) (e : Int) (sticky : Bool) (up : Cut → Bool) : Rounded :=
  let q := topExp m e - f.mbits
  let c := cutAt m e sticky q
  let n := if up c then c.n + 1 else c.n
  if n * 2 ^ (q - f.qmin).toNat < 2 ^ f.mbits ∨ (q < f.qmin ∧ n < 2 ^ (f.mbits + (f.qmin - q).toNat)) then
    let c' := cutAt m e sticky f.qmin
    let n' := if up c' then c'.n + 1 else c'.n
    ⟨false, true, n', c'.inexact⟩
  else
    let code := if q < f.qmin then 2 ^ f.mbits else codeOf f n q
    ⟨decide (f.maxCode < code), false, code, c.inexact⟩

/-- The one rounding of R99: code and flags. -/
def roundExact (f : FloatFmt) (r : Rounding) (x : Exact) : Nat × Flags :=
  match x with
  | .nan nv => (f.nanCode, Flags.invalid nv)
  | .inf neg dz => (withSign f neg f.infCode, ⟨false, dz, false, false, false⟩)
  | .num neg m e sticky =>
    if m = 0 then (withSign f neg 0, Flags.none)
    else
      let y := roundMag f m e sticky (fun c => c.roundsUp r.rm neg)
      if y.overflow then (withSign f neg (overflowCode f r.rm neg), ⟨false, false, true, false, true⟩)
      else if y.tiny && r.ftz then (withSign f neg 0, ⟨false, false, false, true, true⟩)
      else (withSign f neg y.code, ⟨false, false, false, y.tiny && y.inexact, y.inexact⟩)

/-- The signed sum of two finite values, exact: its sign for a zero sum follows R104. -/
def sumFin (rm : Nat) (n1 : Bool) (m1 : Nat) (e1 : Int) (n2 : Bool) (m2 : Nat) (e2 : Int) : Exact :=
  let e := min e1 e2
  let x1 : Int := (m1 * 2 ^ (e1 - e).toNat : Nat)
  let x2 : Int := (m2 * 2 ^ (e2 - e).toNat : Nat)
  let t := (if n1 then -x1 else x1) + (if n2 then -x2 else x2)
  if t = 0 then .num (if m1 = 0 ∧ m2 = 0 ∧ n1 = n2 then n1 else rm == 3) 0 e false
  else .num (decide (t < 0)) t.natAbs e false

/-- a + b, exact (R102 to R104). -/
def addExact (rm : Nat) (a b : Fp) : Exact :=
  match a, b with
  | .nan s, y => .nan (s || y.isSNan)
  | x, .nan s => .nan (s || x.isSNan)
  | .inf n1, .inf n2 => if n1 = n2 then .inf n1 false else .nan true
  | .inf n1, .fin _ _ _ => .inf n1 false
  | .fin _ _ _, .inf n2 => .inf n2 false
  | .fin n1 m1 e1, .fin n2 m2 e2 => sumFin rm n1 m1 e1 n2 m2 e2

/-- The product as a term: none where it is invalid (R102). NaN operands are handled before. -/
def mulTerm (a b : Fp) : Option Fp :=
  match a, b with
  | .nan s, _ => some (.nan s)
  | _, .nan s => some (.nan s)
  | .inf n1, .inf n2 => some (.inf (n1 != n2))
  | .inf n1, .fin n2 m _ => if m = 0 then none else some (.inf (n1 != n2))
  | .fin n1 m _, .inf n2 => if m = 0 then none else some (.inf (n1 != n2))
  | .fin n1 m1 e1, .fin n2 m2 e2 => some (.fin (n1 != n2) (m1 * m2) (e1 + e2))

/-- a × b, exact. -/
def mulExact (a b : Fp) : Exact :=
  if a.isNan || b.isNan then .nan (a.isSNan || b.isSNan)
  else match mulTerm a b with
    | none => .nan true
    | some (.nan s) => .nan s
    | some (.inf n) => .inf n false
    | some (.fin n m e) => .num n m e false

/-- a × b + c, exact: one rounding follows. A zero-by-infinity product is invalid whatever the addend (R102, R110). -/
def fmaExact (rm : Nat) (a b c : Fp) : Exact :=
  let sig := a.isSNan || b.isSNan || c.isSNan
  if a.isNan || b.isNan then .nan sig
  else match mulTerm a b with
    | none => .nan true
    | some p => if c.isNan then .nan sig else addExact rm p c

/-- The order of two numbers that are no NaN: −1, 0 or 1, with −0 = +0. -/
def cmpFp (a b : Fp) : Int :=
  match a, b with
  | .inf n1, .inf n2 => if n1 = n2 then 0 else if n1 then -1 else 1
  | .inf n1, _ => if n1 then -1 else 1
  | _, .inf n2 => if n2 then 1 else -1
  | .fin n1 m1 e1, .fin n2 m2 e2 =>
    let e := min e1 e2
    let x1 : Int := (m1 * 2 ^ (e1 - e).toNat : Nat)
    let x2 : Int := (m2 * 2 ^ (e2 - e).toNat : Nat)
    let d := (if n1 then -x1 else x1) - (if n2 then -x2 else x2)
    if d < 0 then -1 else if d = 0 then 0 else 1
  | _, _ => 0

/-- MinNum and MaxNum (R111), on codes already flushed. −0 is below +0. -/
def minMaxCode (f : FloatFmt) (wantMax : Bool) (a b : Nat) : Nat × Flags :=
  let x := unpack f a
  let y := unpack f b
  let fl := Flags.invalid (x.isSNan || y.isSNan)
  if x.isNan && y.isNan then (f.nanCode, fl)
  else if x.isNan then (b, fl)
  else if y.isNan then (a, fl)
  else
    let c := cmpFp x y
    let aLess := c < 0 || (c = 0 && x.sign && !y.sign)
    (if aLess != wantMax then a else b, fl)

/-- The eight operations of the vf majors, fn 0 to 7 (R110). -/
inductive FOp where
  | add | sub | mul | min | max | fma | fms | nma
  deriving DecidableEq, Repr

/-- One element of a vf instruction: `a`, `b` the operand codes, `c` the destination's old code (R110). -/
def fopCode (f : FloatFmt) (r : Rounding) (op : FOp) (a b c : Nat) : Nat × Flags :=
  let fa := flushCode f r.ftz a
  let fb := flushCode f r.ftz b
  let x := unpack f fa
  let y := unpack f fb
  let z := operandOf f r.ftz c
  match op with
  | .add => roundExact f r (addExact r.rm x y)
  | .sub => roundExact f r (addExact r.rm x y.negate)
  | .mul => roundExact f r (mulExact x y)
  | .min => minMaxCode f false fa fb
  | .max => minMaxCode f true fa fb
  | .fma => roundExact f r (fmaExact r.rm x y z)
  | .fms => roundExact f r (fmaExact r.rm x y z.negate)
  | .nma => roundExact f r (fmaExact r.rm x.negate y z)

/-- The conditions of vfcmp, fn 0 to 6 (R112). -/
inductive FCond where
  | eq | ne | lt | le | gt | ge | un
  deriving DecidableEq, Repr

/-- Whether a condition holds between two codes, and whether it is invalid (R112). -/
def fcmpCode (f : FloatFmt) (ftz : Bool) (c : FCond) (a b : Nat) : Bool × Flags :=
  let x := operandOf f ftz a
  let y := operandOf f ftz b
  let un := x.isNan || y.isNan
  let quiet := Flags.invalid (x.isSNan || y.isSNan)
  match c with
  | .eq => (!un && cmpFp x y == 0, quiet)
  | .ne => (un || cmpFp x y != 0, quiet)
  | .lt => (!un && decide (cmpFp x y < 0), Flags.invalid un)
  | .le => (!un && decide (cmpFp x y ≤ 0), Flags.invalid un)
  | .gt => (!un && decide (0 < cmpFp x y), Flags.invalid un)
  | .ge => (!un && decide (0 ≤ cmpFp x y), Flags.invalid un)
  | .un => (un, quiet)

/-- The class code of R113: bit 9 quiet NaN down to bit 0 −∞. -/
def classCode (f : FloatFmt) (code : Nat) : Nat :=
  match unpack f code with
  | .nan sig => if sig then 2 ^ 8 else 2 ^ 9
  | .inf neg => if neg then 2 ^ 0 else 2 ^ 7
  | .fin neg m _ =>
    if m = 0 then if neg then 2 ^ 3 else 2 ^ 4
    else if isSubnormal f code then if neg then 2 ^ 2 else 2 ^ 5
    else if neg then 2 ^ 1 else 2 ^ 6

/-- The register types of lane floating point (R98). -/
inductive FType where
  | f32 | f16x2 | bf16x2
  deriving DecidableEq, Repr

def FType.fmt : FType → FloatFmt
  | .f32 => fmtF32 | .f16x2 => fmtF16 | .bf16x2 => fmtBF16

def FType.isPair : FType → Bool
  | .f32 => false
  | _ => true

/-- Element 0 and element 1 of a pair (R98). -/
def elemLo (x : Word) : Nat := x.toNat % 2 ^ 16
def elemHi (x : Word) : Nat := x.toNat / 2 ^ 16

/-- A register word from its two elements. -/
def pairWord (lo hi : Nat) : Word := BitVec.ofNat 32 (hi % 2 ^ 16 * 2 ^ 16 + lo % 2 ^ 16)

/-- A vf operation on one thread's registers: each element on its own, flags ORed (R98, R110). -/
def fopWord (ty : FType) (r : Rounding) (op : FOp) (a b c : Word) : Word × Flags :=
  if ty.isPair then
    let lo := fopCode ty.fmt r op (elemLo a) (elemLo b) (elemLo c)
    let hi := fopCode ty.fmt r op (elemHi a) (elemHi b) (elemHi c)
    (pairWord lo.1 hi.1, lo.2.or hi.2)
  else
    let y := fopCode ty.fmt r op a.toNat b.toNat c.toNat
    (BitVec.ofNat 32 y.1, y.2)

/-- vfclass on one thread's register (R113). -/
def fclassWord (ty : FType) (a : Word) : Word :=
  if ty.isPair then pairWord (classCode ty.fmt (elemLo a)) (classCode ty.fmt (elemHi a))
  else BitVec.ofNat 32 (classCode ty.fmt a.toNat)

end Sys2Proof.Machine
end

