-- ==== Sys2Proof/Machine/Conversion.lean ====
section
/-!
DEFINITION. The conversions of vcvt (R126 to R132) on one thread's values, and the generator of stochastic rounding.
-/

namespace Sys2Proof.Machine

/-- One step of a thread's generator (R131). -/
def srStep (g : Word) : Word :=
  let g := g ^^^ (g <<< 13)
  let g := g ^^^ (g >>> 17)
  g ^^^ (g <<< 5)

/-- The generator state a seed gives thread t (R131). -/
def srSeed (seed : Word) (t : Nat) : Word :=
  let g := seed ^^^ BitVec.ofNat 32 ((t + 1) * 0x9E3779B9)
  if g = 0 then 1 else g

/-- The format field F of a conversion code (R127). -/
def cvtFmt (f : Nat) : FloatFmt :=
  match f with
  | 0 => fmtF16 | 1 => fmtBF16 | 2 => fmtE4M3 | 3 => fmtE5M2 | _ => fmtE2M1

/-- The width of the element a conversion code names (R126). -/
def cvtWidth (f : Nat) : Nat :=
  match f with
  | 0 | 1 => 16
  | 4 => 4
  | _ => 8

/-- How a conversion rounds: by FPCTL, saturating or not, and with the generator's value where it is stochastic. -/
structure CvtMode where
  r : Rounding
  sat : Bool
  sr : Option Word
  deriving DecidableEq, Repr

/-- Whether a cut magnitude rounds up in this mode (R128, R130): stochastically, when D + r reaches 2^32. -/
def CvtMode.up (c : CvtMode) (neg : Bool) (k : Cut) : Bool :=
  match c.sr with
  | none => k.roundsUp c.r.rm neg
  | some r => decide (2 ^ 32 ≤ k.rest / 2 ^ 32 + r.toNat)

/-- What a magnitude above the largest finite delivers (R128): `nx` and `of` by the table. -/
def cvtOverflow (f : FloatFmt) (F : Nat) (c : CvtMode) (neg : Bool) : Nat × Flags :=
  if c.sat then (withSign f neg f.maxCode, ⟨false, false, false, false, true⟩)
  else match F with
    | 2 => (f.nanCode, ⟨false, false, true, false, true⟩)
    | 4 => (withSign f neg f.maxCode, ⟨false, false, true, false, true⟩)
    | _ => (withSign f neg (overflowCode f (if c.sr.isSome then 0 else c.r.rm) neg), ⟨false, false, true, false, true⟩)

/-- Narrowing FP32 to one of the floating formats F 0 to 4 (R128). Under `.sr` the test whether a result is tiny (R101) rounds
with the same draw r, at the spacing of an unbounded exponent range: R130 names no rounding for that test, so this is the
model's choice (log 71). -/
def narrow (F : Nat) (c : CvtMode) (x : Fp) : Nat × Flags :=
  let f := cvtFmt F
  let nxOnly : Flags := ⟨false, false, false, false, true⟩
  match x with
  | .nan sig => if F = 4 then (0, Flags.invalid true) else (f.nanCode, Flags.invalid sig)
  | .inf neg =>
    if c.sat then (withSign f neg f.maxCode, nxOnly)
    else match F with
      | 2 => (f.nanCode, Flags.invalid true)
      | 4 => (withSign f neg f.maxCode, ⟨false, false, true, false, true⟩)
      | _ => (withSign f neg f.infCode, Flags.none)
  | .fin neg m e =>
    if m = 0 then (withSign f neg 0, Flags.none)
    else
      let y := roundMag f m e false (c.up neg)
      if y.overflow then cvtOverflow f F c neg
      else if y.tiny && c.r.ftz && decide (F < 2) then (withSign f neg 0, ⟨false, false, false, true, true⟩)
      else (withSign f neg y.code, ⟨false, false, false, y.tiny && y.inexact, y.inexact⟩)

/-- FP32 to E8M0: the exponent of |x| without rounding (R128). `code` is the flushed FP32 code. -/
def toE8M0 (code : Nat) : Nat × Flags :=
  let mag := code % 2 ^ 31
  let ex := mag / 2 ^ 23
  if ex = 255 then (0xFF, Flags.invalid true)
  else if ex = 0 then (0, ⟨false, false, false, false, mag != 2 ^ 22⟩)
  else (ex, ⟨false, false, false, false, mag % 2 ^ 23 != 0⟩)

/-- FP32 to an integer range (R129): under the rounding mode `rm`. -/
def toInteger (rm : Nat) (sat : Bool) (lo hi : Int) (x : Fp) : Int × Flags :=
  let out : Flags := if sat then ⟨false, false, false, false, true⟩ else Flags.invalid true
  match x with
  | .nan _ => (0, Flags.invalid true)
  | .inf neg => (if neg then lo else hi, out)
  | .fin neg m e =>
    let c := cutAt m e false 0
    let n : Int := (c.round rm neg : Nat)
    let v := if neg then -n else n
    if v < lo then (lo, out) else if hi < v then (hi, out) else (v, ⟨false, false, false, false, c.inexact⟩)

/-- The bits [w·p + w − 1 : w·p] of a register. -/
def elemAt (w p : Nat) (x : Word) : Nat := x.toNat / 2 ^ (w * p) % 2 ^ w

/-- A register with the bits of one position replaced (R128). -/
def setElemAt (w p : Nat) (x : Word) (v : Nat) : Word :=
  BitVec.ofNat 32 (x.toNat - elemAt w p x * 2 ^ (w * p) + v % 2 ^ w * 2 ^ (w * p))

/-- An integer, exact, for RoundF32. -/
def intExact (v : Int) : Exact := .num (decide (v < 0)) v.natAbs 0 false

/-- A value of a floating format as FP32 (R128): exact but for NaNs and the flush of FP32 results. -/
def widenFp (r : Rounding) (x : Fp) : Nat × Flags :=
  match x with
  | .nan s => (fmtF32.nanCode, Flags.invalid s)
  | .inf neg => (withSign fmtF32 neg fmtF32.infCode, Flags.none)
  | .fin neg m e => roundExact fmtF32 r (.num neg m e false)

/-- vcvt with D = 0 on one thread: `a` the source, `d` the destination's old value (R128). -/
def cvtFrom (c : CvtMode) (F P : Nat) (a d : Word) : Word × Flags :=
  let code := flushCode fmtF32 c.r.ftz a.toNat
  let x := unpack fmtF32 code
  match F with
  | 5 => let y := toE8M0 code; (setElemAt 8 P d y.1, y.2)
  | 6 =>
    let rm := if P < 2 then c.r.rm else 1
    let y := if P % 2 = 0 then toInteger rm c.sat (-2147483648) 2147483647 x else toInteger rm c.sat 0 4294967295 x
    (BitVec.ofInt 32 y.1, y.2)
  | 7 =>
    let y := if P < 4 then toInteger c.r.rm c.sat (-128) 127 x else toInteger c.r.rm c.sat 0 255 x
    (setElemAt 8 (P % 4) d (BitVec.ofInt 8 y.1).toNat, y.2)
  | _ => let y := narrow F c x; (setElemAt (cvtWidth F) P d y.1, y.2)

/-- vcvt with D = 1 on one thread (R128). FTZ flushes FP16 and BF16 inputs and FP32 results. -/
def cvtTo (r : Rounding) (F P : Nat) (a : Word) : Word × Flags :=
  let y := match F with
    | 5 =>
      let e := elemAt 8 P a
      if e = 255 then (fmtF32.nanCode, Flags.none) else roundExact fmtF32 r (.num false 1 ((e : Int) - 127) false)
    | 6 => roundExact fmtF32 r (intExact (if P = 0 then a.toInt else a.toNat))
    | 7 =>
      let e := elemAt 8 (P % 4) a
      roundExact fmtF32 r (intExact (if P < 4 then (BitVec.ofNat 8 e).toInt else e))
    | _ =>
      let f := cvtFmt F
      let code := flushCode f (r.ftz && decide (F < 2)) (elemAt (cvtWidth F) P a)
      widenFp r (unpack f code)
  (BitVec.ofNat 32 y.1, y.2)

/-- vcvt on one thread: `code` is the conversion code of R127. -/
def cvtWord (c : CvtMode) (code : Reg) (a d : Word) : Word × Flags :=
  let F := code.toNat / 8 % 8
  let P := code.toNat % 8
  if code.getLsbD 6 then cvtTo c.r F P a else cvtFrom c F P a d

end Sys2Proof.Machine
end

