-- ==== Sys2Proof/Machine/Map.lean ====
section
/-!
DEFINITION. Sparse tables by number: lists of (key, value) with rising keys. A table with a default value lists no
entry equal to it, so that equal tables are equal data.
-/

namespace Sys2Proof.Machine

/-- A sparse table, its keys strictly rising. -/
abbrev Map (α : Type) := List (Nat × α)

namespace Map

variable {α : Type}

/-- The value at a key. -/
def get? (k : Nat) : Map α → Option α
  | [] => none
  | (j, v) :: t => if j = k then some v else get? k t

/-- The value at a key, or the default. -/
def getD (m : Map α) (k : Nat) (d : α) : α := (get? k m).getD d

/-- The table with a key set. -/
def put (k : Nat) (v : α) : Map α → Map α
  | [] => [(k, v)]
  | (j, w) :: t => if k < j then (k, v) :: (j, w) :: t else if j = k then (k, v) :: t else (j, w) :: put k v t

/-- The table without a key. -/
def del (k : Nat) : Map α → Map α
  | [] => []
  | (j, w) :: t => if j = k then del k t else (j, w) :: del k t

/-- The table with a key set, listing no default. -/
def putD [DecidableEq α] (d : α) (k : Nat) (v : α) (m : Map α) : Map α := if v = d then del k m else put k v m

/-- Changes the value at a key, if it is listed. -/
def modify (k : Nat) (f : α → α) : Map α → Map α
  | [] => []
  | (j, w) :: t => if j = k then (j, f w) :: t else (j, w) :: modify k f t

def has (m : Map α) (k : Nat) : Bool := (get? k m).isSome

def keys (m : Map α) : List Nat := m.map Prod.fst

def vals (m : Map α) : List α := m.map Prod.snd

/-- Changes every value. -/
def mapVals (f : α → α) (m : Map α) : Map α := m.map fun p => (p.1, f p.2)

/-- Changes every value, given its key. -/
def mapKeyed (f : Nat → α → α) (m : Map α) : Map α := m.map fun p => (p.1, f p.1 p.2)

/-- Keeps the entries that satisfy `p`. -/
def keep (p : Nat → α → Bool) (m : Map α) : Map α := m.filter fun x => p x.1 x.2

/-- Whether the keys rise strictly, all above `lo`. -/
def risesFrom : Nat → Map α → Bool
  | _, [] => true
  | lo, (j, _) :: t => decide (lo ≤ j) && risesFrom (j + 1) t

/-- Whether the keys rise strictly. -/
def rises (m : Map α) : Bool := risesFrom 0 m

end Map

/-- Changes element `n` of a list, if there is one. -/
def setAt {α : Type} (l : List α) (n : Nat) (f : α → α) : List α :=
  match l, n with
  | [], _ => []
  | x :: t, 0 => f x :: t
  | x :: t, n + 1 => x :: setAt t n f

/-- A list without element `n`. -/
def dropAt {α : Type} (l : List α) (n : Nat) : List α := l.take n ++ l.drop (n + 1)

/-- The best of a list under an order. -/
def bestOf {α : Type} (better : α → α → Bool) : List α → Option α
  | [] => none
  | x :: t => match bestOf better t with
    | none => some x
    | some y => some (if better y x then y else x)

/-- Little-endian bytes to a number (R2). -/
def leNat : List Byte → Nat
  | [] => 0
  | b :: t => b.toNat + 256 * leNat t

/-- A number as n little-endian bytes (R2). -/
def leBytes : Nat → Nat → List Byte
  | 0, _ => []
  | n + 1, x => BitVec.ofNat 8 x :: leBytes n (x / 256)

/-- Bits [hi:lo] of a number. -/
def bits (x hi lo : Nat) : Nat := x / 2 ^ lo % 2 ^ (hi + 1 - lo)

/-- Bit k of a number. -/
def bit (x k : Nat) : Bool := x / 2 ^ k % 2 == 1

def natOf (b : Bool) : Nat := if b then 1 else 0

end Sys2Proof.Machine
end

