-- ==== Sys2Proof/Machine/State.lean ====
section
/-!
DEFINITION. The state of the machine as plain data: every group, core, cluster, die and module register, memory, and
the tape that says which agent moves next. Numbers: a die is 0 to 15, and 16 and 17 for link dies 0 and 1; a core is
(die × 22 + cluster) × 8 + core; a group is core × 32 + slot; the control processor of die d is group 90112 + d.
-/

namespace Sys2Proof.Machine

/-- Why the machine stops with a fault. No fault of a program stops it: those are taken as traps (R353). -/
inductive Fault where
  /-- Raised by the meaning of an instruction word when the state names no resident group to issue it; safe: no
  machine issues an instruction without a group. -/
  | noIssuingGroup
  deriving DecidableEq, Repr

/-- Why an instruction has no meaning. -/
inductive Refusal where
  /-- Raised by an arm of `exec` that has no meaning yet; safe: nothing is claimed of it. -/
  | notModelled (mnemonic : String)
  deriving DecidableEq, Repr

/-- The three modes (R28). -/
inductive Mode where
  | user | supervisor | control
  deriving DecidableEq, Repr

/-- A segment descriptor (R133). -/
structure Segment where
  base : Nat := 0
  limit : Nat := 0
  r : Bool := false
  w : Bool := false
  x : Bool := false
  space : Nat := 0
  deriving DecidableEq, Repr

/-- Everything a trap record says of its cause (R349, R352). `resume` is given where it differs from the address of
the faulting instruction. -/
structure TrapInfo where
  kind : Nat
  thread : Option Nat := none
  seg : Option Nat := none
  fetch : Bool := false
  late : Bool := false
  offset : Nat := 0
  src : Nat := 0
  value : Nat := 0
  pos : Nat := 0
  tile : Nat := 0
  queue : Nat := 0
  token : Nat := 0
  dstRec : Nat := 0
  srcRec : Nat := 0
  wait : Nat := 0
  resume : Option Nat := none
  deriving DecidableEq, Repr

/-- One byte range of one thread's access, its target already formed (R135, R144, R167). `thread` and `pos` say which
bytes of which thread's datum it carries, `key` the key id of its leaf (R362). -/
structure Piece where
  thread : Nat
  pos : Nat
  addr : Nat
  len : Nat
  key : Nat
  /-- its offset in the segment -/
  off : Nat := 0
  deriving DecidableEq, Repr

/-- The atomic operations of R36 and R188. -/
inductive AtomOp where
  | add | sub | minS | maxS | minN | maxN | and | or | xor | xchg | cas | fadd | fmin | fmax | addBf16x2
  deriving DecidableEq, Repr

/-- A Pavilion instruction on its way to its switch, with the register of its result (R337). -/
inductive PavOp where
  /-- n granules at the first of these switches that can give them; `last` is the status of the last one tried -/
  | alloc (n : Nat) (switches : List Nat) (last d : Nat)
  | free (sw off d : Nat)
  | query (sw d : Nat)
  deriving DecidableEq, Repr

/-- One access a group has issued and not yet performed (R161). -/
inductive Access where
  | load (p : Piece)
  | store (p : Piece) (bytes : List Byte)
  /-- a request of R184 for n bytes, which lie at `ps` in ascending order: the operands x and y of its threads in ascending
  thread order -/
  | atomic (op : AtomOp) (n : Nat) (ps : List Piece) (operands : List (Nat × Nat × Nat))
  /-- every store to these host lines reaches host memory (R149) -/
  | hostFlush (lines : List Nat)
  /-- every copy of these host lines is discarded (R149) -/
  | hostInvalidate (lines : List Nat)
  /-- a control processor's store to its die's control space at a byte offset (R370) -/
  | ctlStore (addr len value : Nat)
  /-- a control processor's load from its die's control space (R370) -/
  | ctlLoad (addr len : Nat)
  /-- a Pavilion instruction (R337) -/
  | pavilion (op : PavOp)
  /-- a `pportq` of a port of this module: the port id, and the register of the status word (R261) -/
  | portQuery (id d : Nat)
  deriving DecidableEq, Repr

/-- One write of a register that a result delivers (R70: each register, and each thread, on its own). -/
inductive RegWrite where
  | v (reg t : Nat) (val : Word)
  | s (reg : Nat) (val : Dword)
  deriving DecidableEq, Repr

/-- How the data an instruction reads become register contents. -/
inductive Dest where
  | none
  /-- lane load: size in bytes, sign-extended or not (R145) -/
  | lane (reg size : Nat) (signed : Bool)
  /-- scalar load (R85) -/
  | scalar (reg size : Nat) (signed : Bool)
  deriving DecidableEq, Repr

/-- An instruction whose accesses or results are outstanding (R67, R71, R161). -/
structure Pending where
  pc : Nat
  /-- its words as they issued, a prefix in the upper half (R352) -/
  words : Nat := 0
  /-- its place in the order the group issued (R74, R353) -/
  no : Nat := 0
  rep : Nat := 0
  /-- the segment its accesses name, and whether they are its threads' (R352) -/
  seg : Option Nat := none
  lanes : Bool := false
  todo : List Access := []
  /-- data read so far: thread, first byte, bytes -/
  got : List (Nat × Nat × List Byte) := []
  dest : Dest := .none
  /-- results still to be delivered -/
  writes : List RegWrite := []
  ff : FF := {}
  /-- it is one of the 32 variable-latency instructions a marker waits for -/
  result : Bool := false
  /-- an atomic or reduction: a reply comes back from the home (R186, R192) -/
  atomic : Bool := false
  /-- a late fault met (R74): its kind, and whether the outcome is unknown (R181) -/
  failed : Option (Nat × Bool) := none
  /-- the offset and the thread of the first access that failed (R316, R352) -/
  failOff : Nat := 0
  failThread : Nat := 0
  /-- threads that a lost region served (R74, R192) -/
  lostThreads : List Nat := []
  /-- line and thread of the data that a request still on a port has brought so far (R331) -/
  served : List (Nat × Nat) := []
  /-- the device whose answer it awaits (R261, R264) -/
  remote : Option Nat := none
  deriving DecidableEq, Repr

/-- A late entry of a trap frame (R352). -/
structure LateEntry where
  pc : Nat
  kind : Nat
  unknown : Bool
  rep : Nat
  /-- the instruction's place in issue order, and the offset, segment and thread of its first failing access (log 54) -/
  no : Nat := 0
  off : Nat := 0
  seg : Option Nat := none
  thread : Option Nat := none
  words : Nat := 0
  deriving DecidableEq, Repr

/-- What a full token fault slot holds (R207, R213). -/
structure TokenFault where
  kind : Nat
  queue : Nat
  dstRec : Nat
  srcRec : Nat
  offset : Nat
  deriving DecidableEq, Repr

/-- A copy token (R207). -/
structure Token where
  pend : Nat := 0
  fault : Option TokenFault := none
  deriving DecidableEq, Repr

/-- A message: 16 bytes as two doublewords, its tag, and the ticket of a sendw that awaits it (R243, R260). -/
structure Message where
  lo : Dword
  hi : Dword
  tag : Nat
  ticket : Nat := 0
  deriving DecidableEq, Repr

/-- What a group is blocked on (R63). `d` is the register the result goes to. -/
inductive Wait where
  /-- an outstanding result must complete first (R71) -/
  | outstanding
  /-- its own earlier accesses, which must all take their places before the instruction does (R159) -/
  | places
  /-- a barrier word at an address, in a phase; `arrived` for bar.arw, whose arrival stands (R195, R197). `seg` and `off`
  name the word in a fault -/
  | barrier (addr phase : Nat) (arrived : Bool) (seg off : Nat)
  /-- nothing any more: a write has met the condition of its barrier word or object, for which it writes v to S(d), or has left
  a word that the instruction faults on (R195, R214); `arrived` is the phase of a bar.arw, whose arrival stands (R197) -/
  | woken (d : Option Nat) (v : Nat) (bad : Option TrapInfo) (arrived : Option Nat := none)
  /-- an Arbor release: the number, for abar.arr without room or abar.wait (R200) -/
  | arbor (n : Nat)
  /-- tokens of a mask (R213) -/
  | tokens (mask : Nat)
  /-- a byte-count object, which `seg` and `off` name in a fault (R214) -/
  | object (addr d seg off : Nat)
  /-- room in a queue of entries (R202, R207, R278) -/
  | room
  /-- room for a spawned record of a plan's stage on its path (R309, R312) -/
  | queue (plan stage : Nat)
  /-- a row in the accumulator queue (R292) -/
  | accRow
  /-- a free slot of a pipe: its number and the record's place (R231) -/
  | pipeFree (pipe d rec : Nat)
  /-- a message on its way to the join unit of a port id: `d` for sendw (R259) -/
  | sending (id : Nat) (msg : Message) (d : Option Nat)
  /-- an instruction on a pipe whose home is in another module or in Pavilion memory, until the home can be reached (R230) -/
  | home
  /-- a send to another module's join unit: the port id, and the register of its answer (R264) -/
  | remote (id : Nat) (d : Option Nat)
  /-- another module's join unit has admitted its sendw under a ticket (R259, R260) -/
  | remoteTicket (id n d : Nat)
  /-- another module's join unit has withdrawn its send, which it makes again (R260) -/
  | withdrawn
  /-- a message on a port's waiter list, not yet admitted: `d` for sendw (R259) -/
  | waiter (port : Nat) (d : Option Nat)
  /-- the consumption of an admitted message (R259, R260) -/
  | ticket (n d : Nat)
  /-- the drain of exit (R78) -/
  | exitDrain
  /-- completion of its tlbinv operations (R358) -/
  | tlbsync
  /-- completion of the TLB invalidation of a removal (R307) -/
  | removal (d : Nat)
  /-- the outcome of a gang plan's start (R321) -/
  | gang (plan d : Nat)
  /-- erasing or programming of flash (R370) -/
  | flash
  /-- `plan.ld` waits for service, or for step 11 on a die (R384); `ctxsave` for a boundary of every group (R360); an instruction
  that reads memory as it issues, until it can (R137, R361, R375) -/
  | service
  deriving DecidableEq, Repr

/-- How far an instruction that reads memory as it issues has come with its reads while it is blocked: the window of 128 cycles that
it first made them in (R137), and the owners at which they have a region-lost outcome (R325). -/
structure Reads where
  since : Option Nat := none
  lost : List Nat := []
  deriving DecidableEq, Repr

/-- A group: an issuing agent of a core, or a control processor (R13, R28). -/
structure Group where
  mode : Mode := .user
  pc : Nat := 0
  v : Map Lanes := []
  s : Map Dword := []
  segs : Map Segment := []
  fpctl : Dword := 0
  ff : FF := {}
  gen : Lanes := []
  srseed : Dword := 0
  tags0 : Dword := 0
  tags1 : Dword := 0
  instret : Nat := 0
  ptRoot : Dword := 0
  step : Bool := false
  repcnt : Nat := 0
  tokens : Map Token := []
  /-- matrix fault slot: kind, tile, offset (R280) -/
  matFault : Option (Nat × Nat × Nat) := none
  /-- a failed prefetch: kind, message position, offset (R257) -/
  prefFault : Option (Nat × Nat × Nat) := none
  budget : Nat := 0
  role : Nat := 0
  index : Nat := 0
  prio : Nat := 0
  /-- smaller is older (R65) -/
  age : Nat := 0
  passScalar : Nat := 0
  passVector : Nat := 0
  parked : Bool := false
  wait : Option Wait := none
  /-- the switch marker of the blocked instruction -/
  waitMark : Bool := false
  out : List Pending := []
  late : List LateEntry := []
  lateExtra : Nat := 0
  /-- instructions with accesses or results issued so far -/
  issueNo : Nat := 0
  /-- the word of the instruction that is issuing, and its target under a prefix: neither is fetched again while it blocks
  or repeats (R62, R87) -/
  word : Option Word := none
  target : Option Word := none
  reads : Reads := {}
  /-- a trap to take once its drain can be made (R353) -/
  due : Option TrapInfo := none
  /-- its tlbinv operations that no tlbsync has waited for: scope, context, page (R144, R358) -/
  invs : List (Nat × Nat × Nat) := []
  /-- it has exited: its slot and budget stay taken until the task exits (R13, R24, R311) -/
  exited : Bool := false
  /-- the cycle a retry hint expires in (R154) -/
  retryAt : Option Nat := none
  /-- a step unit is under way; its trap is due (R356) -/
  stepArmed : Bool := false
  stepDue : Bool := false
  stepSince : Nat := 0
  /-- the context its translations are tagged with (R143) -/
  ctx : Nat := 0
  /-- its plan and task -/
  plan : Nat := 0
  task : Nat := 0
  /-- halted by a double fault, or a control processor's fault state; or its task is ending (R354, R355, R369) -/
  halted : Bool := false
  deriving DecidableEq, Repr

/-- Who makes an access: the context and root it is translated under, the tenant its requests carry, and its unit: a core
by number, or 2,816 + d for a unit of die d that belongs to no core (R142, R143, R329). -/
structure Asker where
  ctx : Nat := 0
  root : Nat := 0
  tenant : Nat := 0
  unit : Nat := 2816
  deriving DecidableEq, Repr

/-! Copy engines (R202 to R222). -/

/-- One side of a copy, resolved at issue (R203, R209): a tile of a space, or a pipe slot. -/
structure Side where
  /-- team offset of the record, for the trap record (R352) -/
  recOff : Nat := 0
  isSlot : Bool := false
  space : Nat := 0
  /-- element (0, 0) in the space's own address form -/
  base : Nat := 0
  pitch : Nat := 0
  swz : Nat := 0
  /-- the record's own BASE, for the failing offset -/
  recBase : Nat := 0
  pipe : Nat := 0
  seq : Nat := 0
  dir : Bool := false
  cursor : Nat := 0
  /-- DIR = 0: the slot was Reserved by the task when the copy was entered (R211) -/
  wasReserved : Bool := false
  fmt : Nat := 0
  deriving DecidableEq, Repr

/-- What an entry of a copy queue does (R202). -/
inductive EntryKind where
  | copy
  /-- cpy.row (R220) -/
  | row
  /-- cpy.close (R221) -/
  | close
  /-- one entry of a qfence; the number is the fence's (R215) -/
  | fence (id : Nat)
  /-- cpy.mc: channel and receiver set (R217) -/
  | multicast (channel : Nat) (receivers : List Nat)
  /-- an operand fetch of a task's matrix command: the command's number and the stages it fills (R286) -/
  | fetch (cmd : Nat) (stages : List Nat)
  /-- a prefetch of a task's message position (R257) -/
  | prefetch (task position : Nat)
  /-- a tile move of mldacc or mstacc in command order (R291) -/
  | tileMove (cmd : Nat)
  deriving DecidableEq, Repr

/-- A piece of a copy that has been read and is not yet written, or written and not yet counted (R168, R173): where it goes,
0 for the destination record and 1 + i for receiver core i of a multicast; its linear byte; what is to be written; and the
bytes that its object is still to count. -/
structure Moving where
  dest : Nat
  lin : Nat
  bytes : List Byte
  count : Nat := 0
  deriving DecidableEq, Repr

/-- An entry of a copy queue. `todo` lists the linear byte ranges (row × RB + position) not yet read. -/
structure Entry where
  id : Nat := 0
  kind : EntryKind
  who : Asker := {}
  owner : Nat
  token : Option Nat
  dst : Side
  src : Side
  rows : Nat
  rb : Nat
  obj : Option Nat
  started : Bool := false
  /-- its place in the order in which entries started (R218) -/
  startNo : Nat := 0
  todo : List (Nat × Nat) := []
  moving : List Moving := []
  task : Nat := 0
  plan : Nat := 0
  /-- multicast: the receivers sorted Ready with their destinations and objects, and those Late (R217) -/
  ready : List (Nat × Side × Option Nat) := []
  late : List Nat := []
  acks : List Nat := []
  sorted : Bool := false
  /-- the first sort found no room in the holding buffer (R217) -/
  tried : Bool := false
  /-- a piece has failed: the entry has stopped (R211) -/
  stopped : Bool := false
  deriving DecidableEq, Repr

/-- An open bulk stream of a queue (R220, R221). -/
structure Stream where
  owner : Nat
  stack : Nat
  bank : Nat
  since : Nat
  timedOut : Bool := false
  deriving DecidableEq, Repr

/-- A readiness posted by mcready (R216). -/
structure Readiness where
  owner : Nat
  dst : Side
  rows : Nat
  rb : Nat
  obj : Option Nat
  deriving DecidableEq, Repr

/-- The drain of a parked tile into a receiver's record (R218): the ranges still to write, and the bytes written that the
receiver's object is still to count. -/
structure Drain where
  core : Nat
  dst : Side
  obj : Option Nat
  todo : List (Nat × Nat)
  counts : List Nat := []
  deriving DecidableEq, Repr

/-- A tile parked in a cluster's holding buffer (R218). -/
structure ParkedTile where
  /-- the number of its sender's entry, and that entry's place in the order of starts -/
  id : Nat
  startNo : Nat
  channel : Nat
  late : List Nat
  rows : Nat
  rb : Nat
  fmt : Nat
  plan : Nat
  bytes : List Byte
  /-- the copy is written whole -/
  full : Bool := false
  drain : Option Drain := none
  deriving DecidableEq, Repr

/-! Tile pipes (R223 to R236). -/

inductive SlotState where
  | reserved | committed | void
  deriving DecidableEq, Repr

/-- loc(s) (R225, R226): a Void slot has given up its L2 position. -/
inductive SlotLoc where
  | l2 | spill | refill | given
  deriving DecidableEq, Repr

/-- cs(c, s) (R224). -/
inductive ClaimState where
  | pending | claimed (task : Nat) | released
  deriving DecidableEq, Repr

/-- A live slot (R224). `pos` is its L2 position; `todo` the bytes a refill has not copied yet. -/
structure Slot where
  st : SlotState := .reserved
  loc : SlotLoc := .l2
  owner : Nat := 0
  pos : Nat := 0
  cs : List ClaimState := []
  todo : List (Nat × Nat) := []
  deriving DecidableEq, Repr

/-- A pipe: its declaration (R223) and its home's state (R224). Sequence numbers count without bound here; software
sees them modulo 2^32. -/
structure Pipe where
  fmt : Nat := 0
  rows : Nat := 1
  cols : Nat := 1
  producer : Nat := 0
  consumers : List Nat := []
  depth : Nat := 1
  resident : Nat := 1
  homeKind : Nat := 0
  home : Nat := 0
  spill : Nat := 0
  priority : Nat := 0
  l2Quota : Nat := 0
  res : Nat := 0
  tail : Nat := 0
  slots : Map Slot := []
  cl : List Nat := []
  ret : List (List Nat) := []
  deriving DecidableEq, Repr

/-! Join units (R239 to R264). -/

/-- A sender on a waiter list (R244); `blocking` for send, else sendw. -/
structure Waiter where
  gid : Nat
  msg : Message
  blocking : Bool
  deriving DecidableEq, Repr

/-- An installed port (R241, R247). The first `returned` messages are returned ones (R258). -/
structure Port where
  plan : Nat
  isHead : Bool := false
  fault : Bool := false
  depth : Nat := 0
  pipe : Nat := 0
  cursor : Nat := 0
  msgs : List Message := []
  returned : Nat := 0
  waiters : List Waiter := []
  drops : Nat := 0
  rot : Nat := 511
  opened : Bool := true
  deriving DecidableEq, Repr

/-- An installed pattern (R248, R250): `heldSince` is the place of its holding in the order holdings began, when it is
Held. -/
structure Pattern where
  plan : Nat
  ports : List Nat
  role : Nat
  stage : Nat
  pfmask : Nat
  prio : Nat
  pfbase : Nat
  recbase : Nat
  disabled : Bool
  heldSince : Option Nat := none
  deriving DecidableEq, Repr

/-- What became of a sendw's message (R259, R260). -/
inductive Ticket where
  | awaited (gid : Nat)
  | consumed (gid die index : Nat)
  | discarded (gid : Nat)
  deriving DecidableEq, Repr

/-! The matrix unit (R265 to R297). -/

/-- One operand's half of a format block (R270). -/
structure OperandFmt where
  fmt : Nat := 0
  tscale : Nat := 0
  smode : Nat := 0
  sseg : Nat := 0
  soff : Nat := 0
  pitch : Nat := 0
  deriving DecidableEq, Repr

/-- A byte range the matrix unit gathers row by row: `todo` lists the linear ranges still to read, `direct` says that
the unit reads them itself and no fetch brings them (R286). -/
structure Stage where
  side : Side := {}
  rows : Nat := 0
  rb : Nat := 0
  bytes : List Byte := []
  todo : List (Nat × Nat) := []
  direct : Bool := true
  deriving DecidableEq, Repr

/-- The matrix commands (R278). -/
inductive MatrixOp where
  | mma | mmaSp | mzero | mrows | mldacc | mstacc
  deriving DecidableEq, Repr

/-- A matrix command, queued or started (R278). `latchOf` is the command whose A it uses through the latch. `stages`
holds A, A's plane, B, B's plane and the metadata tile; `fetches` the stages of each fetch not yet entered into q3. -/
structure MatrixCmd where
  id : Nat
  op : MatrixOp
  owner : Nat
  who : Asker := {}
  tile : Nat
  fa : OperandFmt := {}
  fb : OperandFmt := {}
  k : Nat := 0
  latchOf : Option Nat := none
  stages : List Stage := []
  fetches : List (List Nat) := []
  /-- staging entries it holds (R277, R286) -/
  staged : Nat := 0
  /-- mldacc, mstacc: the scratchpad tile and the byte-count object -/
  side : Side := {}
  obj : Option Nat := none
  /-- what a failure stores, and what reading A failed with: kind and offset (R280, R285) -/
  failed : Option (Nat × Nat) := none
  failedA : Option (Nat × Nat) := none
  /-- mrows: rows entered so far; mma: the multiplier holds it -/
  row : Nat := 0
  multiplying : Bool := false
  deriving DecidableEq, Repr

/-- A staged A operand (R285) with its metadata tile and that tile's place, or the fault that kept it from being staged. -/
structure Latched where
  bytes : List Byte := []
  plane : List Byte := []
  metaTile : List Byte := []
  metaSide : Side := {}
  failed : Option (Nat × Nat) := none
  deriving DecidableEq, Repr

/-- What the latch was set by at issue (R284, R285): the command, its form, and bytes 0 to 7 of its format block. -/
structure LatchIssue where
  cmd : Nat
  sparse : Bool
  half : Nat
  deriving DecidableEq, Repr

/-- A matrix-vector product at a stack (R296): the vector, the matrix and their planes as far as they are read, and the linear
byte ranges of the result still to write. -/
structure Mvm where
  owner : Nat
  task : Nat
  plan : Nat
  who : Asker := {}
  token : Nat
  k : Nat
  n : Nat
  fa : OperandFmt
  fb : OperandFmt
  a : Stage
  ap : Stage
  b : Stage
  bp : Stage
  dst : Side
  todo : List (Nat × Nat) := []
  stopped : Bool := false
  deriving DecidableEq, Repr

/-- Where an item delivered to a task came from (R251): a message of a port, or a claimed pipe slot; or nothing, at a second
position of one cursor (log 83). -/
inductive Item where
  | message (port : Nat) (msg : Message)
  | claim (pipe cursor seq : Nat)
  | absent
  deriving DecidableEq, Repr

/-- A task: its record (R251, R310), and, once it runs, its team (R20 to R24, R277). -/
structure Task where
  plan : Nat
  stage : Nat
  die : Nat
  /-- pattern index it was fired by, or none for spawn and plan launch -/
  pattern : Option Nat := none
  items : List Item := []
  /-- the message of a spawn (R309), and the team index of a launch (R306) -/
  arg : Option Message := none
  index : Nat := 0
  role : Nat := 0
  running : Bool := false
  /-- dispatched, its prefetches under way (R176, R257) -/
  starting : Bool := false
  /-- a prefetch failed: kind, position, offset (R257) -/
  prefFailed : Option (Nat × Nat × Nat) := none
  ended : Bool := false
  returning : Bool := false
  /-- it is being ended without `exit`, its groups halted, until what they have issued has been performed: whether its claims
  and messages are to be returned (R354) -/
  ending : Option Bool := none
  core : Nat := 0
  groups : List Nat := []
  live : List Nat := []
  scratchBase : Nat := 0
  scratchSize : Nat := 0
  privIndex : Nat := 0
  tiles : Nat := 0
  startedAt : Nat := 0
  ran : Nat := 0
  acc : Map (List Word) := []
  accq : List Lanes := []
  cmds : List MatrixCmd := []
  going : List MatrixCmd := []
  issued : Nat := 0
  /-- DONE, and the finished commands above it (R279) -/
  doneCount : Nat := 0
  finished : List Nat := []
  latch : Option LatchIssue := none
  latched : Map Latched := []
  /-- saved by pre-emption or ctxsave: its groups and the bytes of its region (R315, R360) -/
  held : Map Group := []
  heldBytes : List Byte := []
  /-- offsets of its region that are uncorrectable (R360) -/
  heldBad : List Nat := []
  deriving DecidableEq, Repr

/-- What a core's engines held when its teams were saved: queues, readinesses and open streams (R315, R360). -/
structure HeldCore where
  queues : Map (List Entry) := []
  ready : Map Readiness := []
  streams : Map Stream := []
  runq : List Nat := []
  deriving DecidableEq, Repr

/-- A core (R13, R23, R202, R216, R312). -/
structure Core where
  /-- the plan and stage whose tasks it runs (R23) -/
  stage : Option (Nat × Nat) := none
  /-- q0 to q3, and the internal queue as number 4 -/
  queues : Map (List Entry) := []
  streams : Map Stream := []
  ready : Map Readiness := []
  /-- task records in its core queue (R312) -/
  runq : List Nat := []
  /-- tasks saved by pre-emption (R315) -/
  saved : List Nat := []
  resident : List Nat := []
  /-- Arbor A and P by number (R199) -/
  arborA : Map Nat := []
  arborP : Map Nat := []
  /-- last context served (R310) -/
  lastCtx : Nat := 0
  /-- its teams stop and are saved, and it is to be lent to a stage (R315) -/
  saving : Option (Nat × Nat) := none
  /-- while it is lent: the stage it returns to, whether the task it was lent for is over, and what its own teams' engines held
  (R315) -/
  lent : Option (Nat × Nat) := none
  lentDone : Bool := false
  held : HeldCore := {}
  /-- a move of the rebalancer waits for its tasks to exit: the stage it goes to (R317) -/
  moving : Option Nat := none
  /-- run time that the first task it dispatches after a move starts with (R317) -/
  moveL : Nat := 0
  /-- its copies of the dies' slice maps, each with its generation; an unlisted one is the map of reset (R151, R155) -/
  maps : Map (Nat × Map Nat) := []
  outOfService : Bool := false
  deriving DecidableEq, Repr

/-- A cluster (R12, R218, R312). -/
structure Cluster where
  parked : List ParkedTile := []
  runq : List Nat := []
  outOfService : Bool := false
  deriving DecidableEq, Repr
/-! Plans (R298 to R321). -/

/-- A role entry of a team descriptor (R301). -/
structure RoleDesc where
  entry : Nat := 0
  prio : Nat := 0
  budget : Nat := 8
  groups : Nat := 0
  deriving DecidableEq, Repr

/-- A stage descriptor (R300, R301). -/
structure StageDesc where
  segs : List Segment := []
  code : Nat := 0
  dieMask : Nat := 0
  sdev : Nat := 0
  maxS : Nat := 0
  minS : Nat := 0
  initS : Nat := 0
  prio : Nat := 0
  quantum : Nat := 0
  teams : Nat := 0
  privBase : Nat := 0
  privBlk : Nat := 0
  scratch : Nat := 0
  tiles : Nat := 0
  roles : List RoleDesc := []
  deriving DecidableEq, Repr

/-- The states of a plan (R304, R359). -/
inductive PlanState where
  | installed | committing | aborted | running | draining | quiescent | saved
  deriving DecidableEq, Repr

/-- An event of the fault port (R316); `merged` counts its occurrences. -/
structure PlanEvent where
  detail : Nat
  detail2 : Nat
  stage : Nat := 0xFF
  merged : Nat := 1
  deriving DecidableEq, Repr

/-- An Arbor entry (R303): its number, local count E and member stages. -/
structure ArborEntry where
  number : Nat
  count : Nat
  stages : Nat
  deriving DecidableEq, Repr

/-- A core of a saved plan (R359, R360): what it held. -/
structure SavedCore where
  core : Nat
  stage : Nat
  lent : Option (Nat × Nat) := none
  lentDone : Bool := false
  moving : Option Nat := none
  held : HeldCore := {}
  /-- what its engines held for its own stage, where it was lent to another stage of the plan -/
  below : HeldCore := {}
  saved : List Nat := []
  resident : List Nat := []
  arborA : Map Nat := []
  arborP : Map Nat := []
  deriving DecidableEq, Repr

/-- A saved plan (R359, R360): its save area and key, its cores, and the records of its die and cluster queues. -/
structure SavedPlan where
  area : Nat
  key : Nat
  cores : List SavedCore := []
  /-- die, stage and records of the die queues -/
  runqs : List (Nat × Nat × List Nat) := []
  /-- cluster and records of the cluster queues -/
  clusterqs : List (Nat × List Nat) := []
  /-- matrix-vector products under way -/
  mvms : Map Mvm := []
  deriving DecidableEq, Repr

/-- An installed plan. -/
structure Plan where
  state : PlanState := .installed
  tenant : Nat := 0
  context : Nat := 0
  faultPort : Nat := 0
  hyst : Nat := 0
  thresh : Nat := 0
  interval : Nat := 0
  drain : Nat := 0
  gang : Bool := false
  prio : Nat := 0
  l2quota : Nat := 0
  ptRoot : Nat := 0
  members : Nat := 0
  commitVA : Nat := 0
  coord : Nat := 0
  timeout : Nat := 0
  stages : List StageDesc := []
  npipes : Nat := 0
  ports : List Nat := []
  patterns : List Nat := []
  arbors : List ArborEntry := []
  /-- feed entries: stage and port id (R303) -/
  feeds : List (Nat × Nat) := []
  /-- Orangery regions the images filled: die mask, offset, length -/
  images : List (Nat × Nat × Nat) := []
  progress : Nat := 0
  lastRise : Nat := 0
  waitingSince : Option Nat := none
  deadlockSent : Bool := false
  /-- events waiting for room at the fault port, by CODE (R316) -/
  pending : Map PlanEvent := []
  startedAt : Nat := 0
  ticks : Map Nat := []
  /-- die, stage and tick of donations and receptions (R317) -/
  donated : List (Nat × Nat × Nat) := []
  received : List (Nat × Nat × Nat) := []
  /-- launch teams queued so far, and the teams to launch (R306, R312) -/
  launched : Nat := 0
  toLaunch : Nat := 0
  /-- its drain discards (R319) -/
  discard : Bool := false
  discarded : Nat := 0
  gangSince : Nat := 0
  /-- a member was lost or removed after commit, before this member started (R321) -/
  memberGone : Bool := false
  saved : Option SavedPlan := none
  deriving DecidableEq, Repr

/-- An allocation of Pavilion memory (R334): granules start to start + len − 1. -/
structure PavAlloc where
  start : Nat
  len : Nat
  tenant : Nat
  deriving DecidableEq, Repr

/-- A switch (R334 to R338, R341). -/
structure Switch where
  lost : Bool := false
  allocs : List PavAlloc := []
  /-- freed granules the switch has not zeroed yet -/
  dirty : List Nat := []
  limit : Map Nat := []
  viol : Map Nat := []
  deriving DecidableEq, Repr

/-- A pipe instruction of another module, for a task that it numbers (R230). -/
inductive PipeOp where
  | reserve (task : Nat)
  | commit (seq task : Nat)
  | claim (cursor task : Nat)
  | release (cursor seq task : Nat)
  | ends (task : Nat) (returns : Bool)
  deriving DecidableEq, Repr

/-- What a request on a port is of: a group's accesses to a 64-byte line for one instruction (R331), the head of a core's copy
queue, a matrix-vector product, what a group asks of another module's units, a pipe's refill, a plan's event, a member-lost
message to a device, a quota command or a key command to a switch (R327, R340, R362). -/
inductive Flight where
  | access (gid line : Nat)
  | entry (core queue : Nat)
  | mvm (op : Nat)
  | ask (gid : Nat)
  | refill (plan pipe : Nat)
  | event (plan : Nat)
  | notice (dev : Nat)
  | quota
  | key
  deriving DecidableEq, Repr

/-- A key table's entry (R362). -/
abbrev Key := List Byte

/-- Which agent moves next, or what reaches the machine from outside: one entry of the tape (see State.tape). -/
inductive Turn where
  /-- the group issues its next instruction, if it is eligible and its pipe's choice; `held` are the groups that a timing
  condition of R63 or R147 keeps from issuing in this cycle (log 5) -/
  | issue (gid : Nat) (held : List Nat)
  /-- a blocked group's instruction meets its condition and goes on -/
  | resume (gid : Nat)
  /-- the nth outstanding access of a group to host memory is made (R180) -/
  | hostAccess (gid n : Nat)
  /-- a step of a unit: one of the rows of the opcode table that have no word -/
  | event (e : Instr)
  /-- a request for memory or units of an owner, a device or 128 + a switch, goes out on a port (R327, R330) -/
  | requestSent (f : Flight) (port owner : Nat)
  /-- cycles pass -/
  | idle (n : Nat)
  /-- the L1 TLB of a group's core takes the leaf of a page, or the L2 TLB of its die the present one; a TLB drops one
  (R143) -/
  | tlbFill (gid va : Nat) (l2 : Bool)
  | tlbEvict (n : Nat)
  /-- the L1 of a core takes a 16-byte sector of host memory, or the host read cache, as core 2,816, the present one; one drops
  it (R149, R150) -/
  | hostCacheFill (core sector : Nat)
  | hostCacheDrop (core sector : Nat)
  /-- a write-combining buffer drains (R149) -/
  | hostWrite (addr : Nat) (bytes : List Byte)
  /-- bytes at an address become uncorrectable (R156) -/
  | eccStrike (addr len : Nat)
  /-- a slice refuses a group's head request with a hint (R154) -/
  | refuse (gid cycles : Nat)
  /-- a core acknowledges the slice map of the new generation (R155) -/
  | mapAck (core : Nat)
  /-- the operand bytes a matrix command, or a stack-side unit, reads next (R168, R286, R296) -/
  | matrixPiece (task cmd which offset : Nat)
  | mvmPiece (op which offset : Nat)
  /-- a spilled slot's refill moves a piece (R226) -/
  | refillPiece (pipe slot offset : Nat)
  /-- a parked tile and a readiness meet (R218) -/
  | drainPiece (cluster tile : Nat)
  /-- another module's pipe instruction, performed at the pipe's home (R230); a home of this module is reached on a port,
  `via` (R327) -/
  | remotePipe (via plan pipe : Nat) (op : PipeOp)
  /-- another module's store or atomic, at most one sector of a tenant under a key id, takes its place: in HBM4E of this
  module, which it reaches on a port, or of a peer, in Pavilion memory or in a pipe's slot (R327, R329, R331) -/
  | remoteWrite (via tenant key addr : Nat) (bytes : List Byte)
  /-- another module's send reaches a join unit of this one, on a port (R264, R327): port key, tenant, message, and whether it
  is a blocking send of a sender numbered from 2^20 -/
  | remoteSend (via port tenant sender : Nat) (msg : Message) (blocking : Bool)
  /-- the sender withdraws it again (R260) -/
  | remoteWithdraw (via port sender : Nat)
  /-- another module answers a group's request: a fault's kind, or the value (R264) -/
  | answer (gid : Nat) (kind : Option Nat) (value : Dword)
  /-- another module's join unit answers a group that its sendw is admitted under a ticket, or that its send is withdrawn
  (R260) -/
  | admitted (gid ticket : Nat)
  | withdraw (gid : Nat)
  /-- other modules have changed what a switch records (R334, R337, R340, R362) -/
  | remoteSwitch (sw : Nat) (w : Switch)
  /-- firmware has loaded or cleared a key in the table of a switch, or of device d as table 64 + d (R362) -/
  | remoteKey (table id : Nat) (key : Option Key)
  /-- a member-lost message reaches a device (R307) -/
  | lostSent (dev : Nat)
  /-- the ports of a lost device have trained again (R342) -/
  | deviceBack (dev : Nat)
  /-- firmware sets the PC of a stopped control processor (R373) -/
  | cpEntry (die pc : Nat)
  /-- firmware draws 64 bytes from the entropy source into the SRAM of link die 0 (R374) -/
  | entropy (off : Nat)
  /-- a stack corrects a word of a bank (R385): ((die × 32 + channel) × 2 + pseudo-channel) × 16 + bank -/
  | corrected (bank : Nat)
  /-- a stack serves the oldest request of its deadline queue (R361) -/
  | deadlineServed (die : Nat)
  deriving DecidableEq, Repr

/-! Dies, the fabric, the system engines and bring-up. -/

/-- An event that the join unit of a die notes: a pipe-head port whose count has risen from zero, by its key, or a die queue's
entry that has come free, by its stage's key (R239, R252). -/
inductive JoinDue where
  | rise (port : Nat)
  | free (stage : Nat)
  deriving DecidableEq, Repr

/-- A compute die (R251, R312, R314, R151, R155). Stages of a die are numbered plan × 32 + stage. -/
structure Die where
  /-- die queue of each stage -/
  runq : Map (List Nat) := []
  /-- tasks fired and not yet entered in their queue, oldest first (R251, R263) -/
  firing : List Nat := []
  /-- effective priorities at their last computation (R314) -/
  eff : Map Nat := []
  /-- a firing has been made since (R314) -/
  effDue : Bool := false
  /-- waiters to be admitted ahead of every other event: ports in order (R253) -/
  dueAdmits : List Nat := []
  /-- events of the join unit still to be evaluated, oldest first (R239, R252) -/
  joinDue : List JoinDue := []
  returnsUsed : Nat := 0
  /-- the slice map, its generation, and the redirect stubs (R151, R155) -/
  sliceMap : Map Nat := []
  mapGen : Nat := 0
  stubs : List Nat := []
  /-- halts to be read through CP_HALTQ: raw register values (R370) -/
  haltq : List Nat := []
  /-- the group whose double fault its control processor has still to act on (R355) -/
  doubleFaults : List Nat := []
  rebalancedAt : Nat := 0
  preemptedAt : Nat := 0
  effAt : Nat := 0
  orangeryOut : Bool := false
  off : Bool := false
  /-- rail 2 or 3, its stack's, is off: as after reset, or since it has been switched off (R375) -/
  stackOff : Bool := false
  overTemp : Bool := false
  /-- its stack's deadline queue: the saves to be written, each with its group, first byte and length (R361) -/
  deadline : List (Nat × Nat × Nat) := []
  deriving DecidableEq, Repr

/-- A UALink port (R322 to R328, R341): counts are modulo 4,096 and held by channel 0 to 2. -/
structure UalPort where
  trained : Bool := false
  everTrained : Bool := false
  serve : Bool := false
  retired : Bool := false
  peerIdx : Nat := 0
  /-- next SEQ to send, next expected, the flits sent and not acknowledged, SEQ and VC, and those of them to send again -/
  txSeq : Nat := 0
  rxSeq : Nat := 0
  replay : List (Nat × Nat) := []
  resend : List (Nat × Nat) := []
  /-- the header of the flit sent last, and the cycle it was sent in (R323) -/
  header : Nat := 0
  sentAt : Nat := 0
  /-- requests with a flit on the port and their answer to come, each with its SEQ and the owner that it is for (R325, R330) -/
  flights : List (Flight × Nat × Nat) := []
  sent : Map Nat := []
  last : Map Nat := []
  freed : Map Nat := []
  /-- the ACK of the NAK that caused the last replay (R324) -/
  nakAck : Option Nat := none
  /-- the next flit sent asks for a replay -/
  nakDue : Bool := false
  /-- CVC of the next flit sent (R323) -/
  cvc : Nat := 0
  failedReplays : Nat := 0
  level : Nat := 0
  decayAt : Nat := 0
  retrainSince : Option Nat := none
  lastGood : Nat := 0
  /-- requests that the request channel's stall slot holds and keeps waiting, oldest first: for each 0, or 1 + the port its
  forwarded request goes out of (R328) -/
  stalled : List Nat := []
  /-- responses to others' requests that are still to go out (R327) -/
  owed : Nat := 0
  deriving DecidableEq, Repr

/-- A TLB entry: the TLB that holds it, the L1 TLB of core c as c and the L2 TLB of die d as 2,816 + d; context, virtual
page number, and the leaf's word (R140, R143). -/
structure TlbEntry where
  unit : Nat
  ctx : Nat
  page : Nat
  leaf : Nat
  deriving DecidableEq, Repr

/-- The machine. Every field's value here is its value right after reset. -/
structure State where
  /-- what moves next; empty: the default order of Schedule.lean (log 1) -/
  tape : List Turn := []
  /-- the group that issues (log 1) -/
  cur : Nat := 0
  /-- module cycles since reset (R348) -/
  cycle : Nat := 0
  /-- bytes of every memory at its number in one address space; unlisted bytes are zero (log 2) -/
  mem : List Host.Cell := []
  /-- uncorrectable bytes (R156) -/
  bad : Map Nat := []
  /-- the key a byte was last written under (R362): its material as a number, plus 1; unlisted where it was written under none -/
  byteKey : Map Nat := []
  tlb : List TlbEntry := []
  /-- sectors of 16 bytes of host memory held in the L1 of core c, at c × 2^43 + sector, or in the host read cache, at
  2,816 × 2^43 + sector (R149, R150) -/
  hostCopies : Map (List Byte) := []
  /-- stores held in write-combining buffers, oldest first (R149) -/
  writeCombine : List (Nat × List Byte) := []
  groups : Map Group := []
  tasks : Map Task := []
  cores : Map Core := []
  clusters : Map Cluster := []
  dies : Map Die := []
  pipes : Map Pipe := []
  ports : Map Port := []
  patterns : Map Pattern := []
  tickets : Map Ticket := []
  plans : Map Plan := []
  mvms : Map Mvm := []
  uals : Map UalPort := []
  /-- forward buffers in use, of 32: the port that the forwarded request went out of, and the one that its request came in on
  (R328) -/
  forwards : List (Nat × Option Nat) := []
  switches : Map Switch := []
  /-- member-lost messages still to go out, each to a device (R307) -/
  lostOut : List Nat := []
  /-- port-down notices held: device × 48 + switch (R341) -/
  notices : Map Nat := []
  nextTask : Nat := 1
  /-- numbers of tickets, fences and copy entries -/
  nextTicket : Nat := 1
  nextAge : Nat := 1
  /-- counter of free values (log 4) -/
  freeCtr : Nat := 0
  /-- the data of the last read that the host made (R179, R246) -/
  hostReply : List Byte := []
  trapVec : Dword := 0
  trapBase : Dword := 0
  bulkLimit : Dword := 65536
  deadlockCycles : Dword := 0x1000000
  fabLost : Dword := 0
  devLost0 : Dword := 0
  devLost1 : Dword := 0
  pavQuota : Dword := 0
  keyCtl : Dword := 0
  attest : Dword := 0
  measExt : Dword := 0
  /-- measurement registers of 64 bytes (R363) -/
  meas : Map (List Byte) := []
  /-- keys: table × 8,192 + key id; table 63 is the module's own (R362) -/
  keys : Map Key := []
  /-- the bytes a running attestation signs (R364) -/
  attestData : List Byte := []
  /-- control space: die code × 2^24 + offset (R370) -/
  ctl : Map Dword := []
  /-- engines of control-space registers that run, and the cycle they started in -/
  busy : Map Nat := []
  /-- flash word being stored: flash offset, value, writer (R370) -/
  flashBusy : Option (Nat × Nat × Nat) := none
  /-- corrected-word counts of banks (R385), by ((die × 32 + channel) × 2 + pseudo-channel) × 16 + bank -/
  bankErrors : Map Nat := []
  power : Bool := false
  poweredOff : Bool := false
  bootStep : Nat := 0
  /-- step 10 has ended with every unfenced stack serving (R384) -/
  serving : Bool := false
  fullMask : Nat := 0
  /-- stacks whose training at the final rate has failed in this start (R381) -/
  rateFailed : Nat := 0
  stackOut : Nat := 0
  smbusStep : Nat := 0
  powerCheckedAt : Nat := 0
  deriving DecidableEq, Repr

/-- The machine right after reset (R365, R371, R375, R386): nothing powered, the rails of the stacks off, no core group resident,
the control processors held at their PCs, PWR_CAP.CAP 5,200 W; every other register at the value the spec gives, or else zero
(log 3). -/
def State.reset : State :=
  { groups := (List.range 18).map fun d => (90112 + d, { mode := .control, pc := if d = 16 then 0x40000 else 0, prio := 0 })
    cur := 90128
    dies := (List.range 16).map fun d => (d, { stackOff := true })
    ctl := [(16 * 2 ^ 24 + 0x900000, 5200)] }

end Sys2Proof.Machine
end

