-- ==== Sys2Proof/Machine/Ops.lean ====
section
/-!
DEFINITION. Named operations over groups, registers and memory: places of things in the one address space, translation
(R139 to R143), the access checks of R146, and the reading and writing of bytes.
-/

namespace Sys2Proof.Machine

/-! Where things are. -/

def coreOf (die cluster core : Nat) : Nat := (die * 22 + cluster) * 8 + core
def cpBase : Nat := 90112
def cpGid (die : Nat) : Nat := cpBase + die
def isCp (gid : Nat) : Bool := decide (cpBase ≤ gid)
def coreOfGid (gid : Nat) : Nat := gid / 32
def slotOfGid (gid : Nat) : Nat := gid % 32
def dieOfCore (c : Nat) : Nat := c / 176
def clusterOfCore (c : Nat) : Nat := c / 8
def dieOfGid (gid : Nat) : Nat := if isCp gid then gid - cpBase else dieOfCore (coreOfGid gid)

/-- Local HBM4E byte y is number y (R141). The other memories follow above it. -/
def hbmSize : Nat := 2 ^ 40
def scratchAddr (core off : Nat) : Nat := 2 ^ 40 + core * 2 ^ 19 + off
def orangeryAddr (die off : Nat) : Nat := 2 ^ 41 + die * 2 ^ 30 + off
def belvedereAddr (off : Nat) : Nat := 2 ^ 42 + off
def sramAddr (die off : Nat) : Nat := 2 ^ 43 + die * 2 ^ 18 + off
def romAddr (off : Nat) : Nat := 2 ^ 43 + 2 ^ 24 + off
def flashAddr (off : Nat) : Nat := 2 ^ 43 + 2 ^ 25 + off
def fuseAddr (off : Nat) : Nat := 2 ^ 43 + 2 ^ 26 + off
def holdAddr (cluster off : Nat) : Nat := 2 ^ 44 + cluster * 2 ^ 16 + off
def hostAddr (phys : Nat) : Nat := 2 ^ 46 + phys
def isHost (a : Nat) : Bool := decide (2 ^ 46 ≤ a) && decide (a < 2 ^ 47)
def pavAddr (sw off : Nat) : Nat := 2 ^ 48 + sw * 2 ^ 39 + off
def isPav (a : Nat) : Bool := decide (2 ^ 48 ≤ a) && decide (a < 2 ^ 48 + 48 * 2 ^ 39)
def pavSwitch (a : Nat) : Nat := (a - 2 ^ 48) / 2 ^ 39
def pavOff (a : Nat) : Nat := (a - 2 ^ 48) % 2 ^ 39
def peerAddr (dev phys : Nat) : Nat := 2 ^ 50 + dev * 2 ^ 40 + phys
def isPeer (a : Nat) : Bool := decide (2 ^ 50 ≤ a) && decide (a < 2 ^ 50 + 2 ^ 47)
def peerDev (a : Nat) : Nat := (a - 2 ^ 50) / 2 ^ 40
/-- Whether a place is an Orangery byte, and its offset there. -/
def isOrangery (a : Nat) : Bool := decide (2 ^ 41 ≤ a) && decide (a < 2 ^ 41 + 16 * 2 ^ 30)
def orangeryOff (a : Nat) : Nat := (a - 2 ^ 41) % 2 ^ 30
def isBelvedere (a : Nat) : Bool := decide (2 ^ 42 ≤ a) && decide (a < 2 ^ 42 + 2 ^ 22)
/-- Whether a place is a byte of a pipe's slot in L2. -/
def isSlot (a : Nat) : Bool := decide (2 ^ 52 ≤ a)
def slotAddr (plan pipe pos off : Nat) : Nat := 2 ^ 52 + ((plan * 64 + pipe) * 64 + pos) * 2 ^ 18 + off

/-! Tables of the state, with what an unlisted entry is. -/

def State.group (s : State) (gid : Nat) : Group := s.groups.getD gid {}
def State.me (s : State) : Group := s.group s.cur
def State.setGroup (s : State) (gid : Nat) (g : Group) : State := { s with groups := s.groups.put gid g }
def State.setMe (s : State) (g : Group) : State := s.setGroup s.cur g
def State.core (s : State) (c : Nat) : Core := s.cores.getD c {}
def State.setCore (s : State) (c : Nat) (x : Core) : State := { s with cores := s.cores.put c x }
def State.cluster (s : State) (c : Nat) : Cluster := s.clusters.getD c {}
def State.setCluster (s : State) (c : Nat) (x : Cluster) : State := { s with clusters := s.clusters.put c x }
def State.die (s : State) (d : Nat) : Die := s.dies.getD d {}
def State.setDie (s : State) (d : Nat) (x : Die) : State := { s with dies := s.dies.put d x }
def State.ual (s : State) (p : Nat) : UalPort := s.uals.getD p {}
def State.setUal (s : State) (p : Nat) (x : UalPort) : State := { s with uals := s.uals.put p x }
def State.switch (s : State) (w : Nat) : Switch := s.switches.getD w {}
def State.setSwitch (s : State) (w : Nat) (x : Switch) : State := { s with switches := s.switches.put w x }
def State.task? (s : State) (t : Nat) : Option Task := s.tasks.get? t
def State.setTask (s : State) (t : Nat) (x : Task) : State := { s with tasks := s.tasks.put t x }
def State.plan? (s : State) (h : Nat) : Option Plan := s.plans.get? h
def State.setPlan (s : State) (h : Nat) (x : Plan) : State := { s with plans := s.plans.put h x }
def State.modPlan (s : State) (h : Nat) (f : Plan → Plan) : State := { s with plans := Map.modify h f s.plans }
def State.modTask (s : State) (t : Nat) (f : Task → Task) : State := { s with tasks := Map.modify t f s.tasks }

/-- The tenant a group's requests carry (R329): its plan's; a control processor's and an unplanned group's is 0. -/
def State.tenantOf (s : State) (g : Group) : Nat := ((s.plan? g.plan).map Plan.tenant).getD 0

/-- A control-space register's stored bits (R370). -/
def State.ctlReg (s : State) (die off : Nat) : Nat := (s.ctl.getD (die * 2 ^ 24 + off) 0).toNat
def State.setCtl (s : State) (die off v : Nat) : State :=
  { s with ctl := s.ctl.putD 0 (die * 2 ^ 24 + off) (BitVec.ofNat 64 v) }

/-- The module's device id (R377). -/
def State.device (s : State) : Nat := s.ctlReg 16 0x300 % 128

/-! Registers of a group. -/

def Group.getS (g : Group) (r : Nat) : Dword := g.s.getD r 0
def Group.setS (g : Group) (r : Nat) (v : Dword) : Group := { g with s := g.s.putD 0 r v }
def Group.lanes (g : Group) (r : Nat) : Lanes := g.v.getD r []
def Group.getV (g : Group) (r t : Nat) : Word := (g.lanes r).getD t 0
/-- xm: the execution mask of threads 0 to 63 (R76). -/
def Group.xm (g : Group) : Mask := g.getS 126
def Group.active (g : Group) (t : Nat) : Bool := g.xm.getLsbD t
/-- All 64 threads of a register at once. -/
def lanesOf (f : Nat → Word) : Lanes := (List.range 64).map f
/-- A write of a vector register changes only active threads (R105). -/
def Group.setV (g : Group) (r : Nat) (f : Nat → Word) : Group :=
  { g with v := g.v.put r (lanesOf fun t => if g.active t then f t else g.getV r t) }
/-- A write of one thread of a register. -/
def Group.setVT (g : Group) (r t : Nat) (x : Word) : Group :=
  { g with v := g.v.put r (lanesOf fun u => if u = t then x else g.getV r u) }
def Group.rounding (g : Group) : Rounding := ⟨g.fpctl.toNat % 4, g.fpctl.getLsbD 2⟩
def Group.token (g : Group) (k : Nat) : Token := g.tokens.getD k {}
def Group.setToken (g : Group) (k : Nat) (t : Token) : Group := { g with tokens := g.tokens.putD {} k t }

/-- An offset of the group's next instruction or link: PC is 64 bits wide (R25). -/
def wrap64 (n : Nat) : Nat := n % 2 ^ 64

/-! Bytes of memory. -/

def State.byte (s : State) (a : Nat) : Byte := Map.getD s.mem a 0
def State.bytes (s : State) (a n : Nat) : List Byte := (List.range n).map fun i => s.byte (a + i)
def State.num (s : State) (a n : Nat) : Nat := leNat (s.bytes a n)

/-- The canonical form of a memory: addresses strictly rising, and no entry equal to what an unlisted byte reads as, which
is zero (log 2). -/
def Memory.wf (m : List Host.Cell) : Bool := Map.rises m && m.all fun c => c.2 != 0

/-- A memory with one byte written, in canonical form. -/
def memPut (m : List Host.Cell) (a : Nat) (b : Byte) : List Host.Cell := Map.putD 0 a b m

/-- A memory with bytes written from an address up. -/
def memWrite (m : List Host.Cell) (a : Nat) : List Byte → List Host.Cell
  | [] => m
  | b :: t => memWrite (memPut m a b) (a + 1) t

/-- A store covers the uncorrectable state of the bytes it writes (R157). -/
def clearBad (m : Map Nat) (a n : Nat) : Map Nat := m.keep fun k _ => decide (k < a) || decide (a + n ≤ k)

/-! Words that groups wait for (R194, R195, R206, R214). -/

/-- Fields of bytes 0 to 7 of a barrier word (R194). -/
def barArrived (w : Nat) : Nat := bits w 15 0
def barExpected (w : Nat) : Nat := bits w 31 16
def barPhase (w : Nat) : Nat := bits w 47 32

/-- What S(sd) gets from an object whose condition holds (R206, R214). -/
def objectAnswer (w : Nat) : Option Nat := if bit w 32 then some 1 else if w % 2 ^ 32 = 0 then some 0 else none

/-- Whether some byte of a range is uncorrectable (R156). -/
def State.isBad (s : State) (a n : Nat) : Bool := s.bad.any fun p => decide (a ≤ p.1) && decide (p.1 < a + n)

/-- What is wrong with the barrier word at a place: uncorrectable bytes, or a nonzero reserved field (R3, R196). The spec
gives no outcome for uncorrectable bytes of a barrier word: kind 8 at the instruction is the model's choice (log 58). -/
def State.barrierBad (s : State) (addr : Nat) : Option Nat :=
  if s.isBad addr 16 then some 8 else if 2 ^ 48 ≤ s.num addr 8 ∨ s.num (addr + 8) 8 ≠ 0 then some 1 else none

/-- The same of a byte-count object (R3, R206). -/
def State.objectBad (s : State) (addr : Nat) : Option Nat :=
  if s.isBad addr 8 then some 8 else if 2 ^ 33 ≤ s.num addr 8 then some 1 else none

/-- A group after a write of n bytes at a: one that waits for a word among them is examined again (R195, R214). -/
def Group.examined (s : State) (a n : Nat) (g : Group) : Group :=
  let wake (d : Option Nat) (v : Nat) (bad : Option TrapInfo) (arrived : Option Nat := none) : Group :=
    { g with wait := some (.woken d v bad arrived) }
  match g.wait with
  | some (.barrier addr p arr seg off) =>
    let stands := if arr then some p else none
    if addr < a + n ∧ a < addr + 16 then
      match s.barrierBad addr with
      | some k => wake none 0 (some { kind := k, seg := some seg, offset := off }) stands
      | none => if barPhase (s.num addr 8) = p then g else wake none 0 none stands
    else g
  | some (.object addr d seg off) =>
    if addr < a + n ∧ a < addr + 8 then
      match s.objectBad addr with
      | some k => wake none 0 (some { kind := k, seg := some seg, offset := off })
      | none => match objectAnswer (s.num addr 8) with
        | some v => wake (some d) v none
        | none => g
    else g
  | _ => g

/-- Every group that waits for a word of scratchpad is examined after a write to it, whatever its source (R195, R214). -/
def State.examine (s : State) (a n : Nat) : State :=
  if 2 ^ 40 ≤ a ∧ a < 2 ^ 41 then { s with groups := s.groups.mapVals (Group.examined s a n) } else s

/-- The tag of a byte that no key reads any more: its sector has been encrypted anew under another (R362). -/
def lostTag : Nat := 2 ^ 513

/-- Key tags after a write of n bytes at a: a sector is encrypted as one unit, so what the write leaves of it of another key is
lost (R362). -/
def retag (m : Map Nat) (a n tag : Nat) : Map Nat :=
  let lo := a / 16 * 16
  let rest := ((List.range (a - lo)).map (lo + ·)) ++ (List.range ((a + n + 15) / 16 * 16 - (a + n))).map (a + n + ·)
  let m1 := if tag = 0 ∨ n = 0 then m else rest.foldl (fun (u : Map Nat) k =>
    if u.getD k 0 = 0 ∨ u.getD k 0 = tag then u else u.put k lostTag) m
  (List.range n).foldl (fun u i => Map.putD 0 (a + i) tag u) m1

/-- Writes bytes, with the key tag they are written under (R362). -/
def State.writeTagged (s : State) (a : Nat) (bs : List Byte) (tag : Nat) : State :=
  { s with
    mem := memWrite s.mem a bs
    bad := clearBad s.bad a bs.length
    byteKey := retag s.byteKey a bs.length tag : State }.examine a bs.length

def State.write (s : State) (a : Nat) (bs : List Byte) : State := s.writeTagged a bs 0
def State.writeNum (s : State) (a n x : Nat) : State := s.write a (leBytes n x)

/-! Keys (R362). -/

def State.hasKey (s : State) (table id : Nat) : Bool := s.keys.has (table * 8192 + id)
/-- The key of an entry as a number: its material plus 1, or 0 where there is none. -/
def State.keyTag (s : State) (table id : Nat) : Nat :=
  match s.keys.get? (table * 8192 + id) with
  | some k => leNat k + 1
  | none => 0
/-- The table of the edge that guards an address: its home's, a switch's, or a device's at 64 + its number (R329, R362). -/
def keyTable (a : Nat) : Nat := if isPav a then pavSwitch a else if isPeer a then 64 + peerDev a else 63
/-- Whether an address lies behind an encrypting edge: HBM4E of a module, or Pavilion memory. -/
def keyed (a : Nat) : Bool := decide (a < hbmSize) || isPav a || isPeer a
/-- The tag of data that pass two edges with different keys: the module's own and the home's (R362). -/
def mixedTag (own home : Nat) : Nat := 2 ^ 514 + own * 2 ^ 520 + home
/-- The tag an access of this module under a key id carries at an address: the home's key, which at another owner has to be that of
the module's own edge too (R362). -/
def State.tagAt (s : State) (a id : Nat) : Nat :=
  let home := s.keyTag (keyTable a) id
  if !keyed a then 0
  else if keyTable a = 63 ∨ s.keyTag 63 id = home then home
  else mixedTag (s.keyTag 63 id) home

/-- A byte as an access under a key reads it: scrambled, with its 16-byte sector, where it was written under another, or where the
edges on its way differ (R362); else a byte never written, or zeroed by a switch, reads as it is (R334, log 2). -/
def State.readTagged (s : State) (a tag : Nat) : Byte :=
  let w := s.byteKey.getD a 0
  let lo := a / 16 * 16
  if tag < 2 ^ 514 ∧ (w = tag ∨ w = 0) then s.byte a
  else Config.scramble (a / 16) ((List.range 16).map fun i => s.byteKey.getD (lo + i) 0) tag (s.bytes lo 16) (a % 16)

/-! Units that serve nothing (R375, R379, R381, R382). -/

/-- Bit n of the fence map from byte `at'` of it. -/
def State.fenced (s : State) (at' n : Nat) : Bool := bit (s.byte (flashAddr (0x240 + at' + n / 8))).toNat (n % 8)

/-- A stack is fenced or out of service: by the map, since its step 1 or 5 failed, or as its die has no rails. -/
def State.stackFenced (s : State) (d : Nat) : Bool := s.fenced 0 d || bit s.stackOut d || (s.die d).off

/-- A compute die has no cores, L2 or Orangery: its stack is fenced or out of service (R382). -/
def State.dieOut (s : State) (d : Nat) : Bool := s.stackFenced d

/-- A stack serves nothing: its die is out, or its own rails are off. -/
def State.stackDown (s : State) (d : Nat) : Bool := s.dieOut d || (s.die d).stackOff

/-! Translation (R139 to R143). -/

/-- A leaf's fields (R140). -/
def leafV (e : Nat) : Bool := bit e 0
def leafR (e : Nat) : Bool := bit e 1
def leafW (e : Nat) : Bool := bit e 2
def leafX (e : Nat) : Bool := bit e 3
def leafRap (e : Nat) : Bool := bit e 4
def leafPsize (e : Nat) : Nat := bits e 6 5
def leafAperture (e : Nat) : Nat := bits e 9 7
def leafTarget (e : Nat) : Nat := bits e 16 10
def leafKey (e : Nat) : Nat := bits e 29 17
def leafFrame (e : Nat) : Nat := bits e 63 30
def pageBits (psize : Nat) : Nat := match psize with | 0 => 12 | 1 => 16 | 2 => 21 | _ => 30

/-- A valid entry with R = W = X = 0 is a pointer (R139). -/
def isPointer (e : Nat) : Bool := leafV e && !leafR e && !leafW e && !leafX e

/-- Whether a leaf at a level satisfies R141. -/
def leafOk (level e : Nat) : Bool :=
  let ps := leafPsize e
  let phys := leafFrame e * 4096
  (match level with | 0 => decide (ps ≤ 1) | 1 => ps == 2 | 2 => ps == 3 | _ => false)
  && phys % 2 ^ pageBits ps == 0
  && (match leafAperture e with
      | 1 => decide (phys < 2 ^ 40)
      | 2 => decide (phys < 2 ^ 40)
      | 3 => decide (phys < 2 ^ 39) && decide (leafTarget e < 48)
      | 4 => leafTarget e == 0
      | _ => false)

/-- A walk from a table at a level (R139, R141): the leaf's word, or the fault's kind: a page fault, or uncorrectable data in
an entry that it reads (R156, log 16), or that lies in a stack which serves nothing (R375; log 73). -/
def walkFrom (s : State) (va : Nat) : Nat → Nat → Except Nat Nat
  | 0, table =>
    let i := bits va 20 12
    let e := s.num (table + 8 * i) 8
    let block := table + 8 * (i / 16 * 16)
    if s.stackDown (table / 2 ^ 36) || s.isBad (table + 8 * i) 8 then .error 8
    else if !leafV e || isPointer e || !leafOk 0 e then .error 5
    else if leafPsize e ≠ 1 then .ok e
    else if s.isBad block 128 then .error 8
    else if (List.range 16).all fun j => s.num (block + 8 * j) 8 == e then .ok e
    else .error 5
  | l + 1, table =>
    let i := if l = 3 then bits va 55 48 else bits va (20 + 9 * (l + 1)) (12 + 9 * (l + 1))
    let e := s.num (table + 8 * i) 8
    if s.stackDown (table / 2 ^ 36) || s.isBad (table + 8 * i) 8 then .error 8
    else if !leafV e then .error 5
    else if isPointer e then
      if e = 1 + leafFrame e * 2 ^ 30 ∧ leafFrame e * 4096 < 2 ^ 40 then walkFrom s va l (leafFrame e * 4096) else .error 5
    else if leafOk (l + 1) e then .ok e else .error 5

/-- A walk from a root. The tables lie in local HBM4E, so a root that does not raises a page fault (R139, log 16). -/
def State.walk (s : State) (root va : Nat) : Except Nat Nat :=
  if 2 ^ 56 ≤ va ∨ hbmSize ≤ root then .error 5 else walkFrom s va 4 root

/-- The unit of a group: its core, or what its control processor's die has outside the cores (R143). -/
def unitOf (gid : Nat) : Nat := if isCp gid then 2816 + (gid - cpBase) else coreOfGid gid
/-- The L2 TLB of a unit's die (R143). -/
def l2Unit (unit : Nat) : Nat := if unit < 2816 then 2816 + dieOfCore unit else unit

/-- The leaf a TLB holds for a page of a context. -/
def State.tlbLeaf (s : State) (unit ctx page : Nat) : Option Nat :=
  (s.tlb.find? fun x => x.unit == unit && x.ctx == ctx && x.page == page).map TlbEntry.leaf

/-- The leaf that serves a virtual address: the unit's L1 TLB's, else its die's L2 TLB's, else the walk's (R143). -/
def State.leaf? (s : State) (who : Asker) (va : Nat) : Except Nat Nat :=
  match s.tlbLeaf who.unit who.ctx (va / 4096) <|> s.tlbLeaf (l2Unit who.unit) who.ctx (va / 4096) with
  | some e => if 2 ^ 56 ≤ va then .error 5 else .ok e
  | none => s.walk who.root va

/-- The root a SYS_PT_ROOT value names (R142). -/
def rootOf (v : Nat) : Nat := bits v 45 12 * 4096

/-- The place a leaf gives a virtual address. A peer page of the own device is local memory. -/
def State.place (s : State) (leaf va : Nat) : Nat :=
  let phys := leafFrame leaf * 4096 + va % 2 ^ pageBits (leafPsize leaf)
  match leafAperture leaf with
  | 1 => phys
  | 2 => if leafTarget leaf = s.device then phys else peerAddr (leafTarget leaf) phys
  | 3 => pavAddr (leafTarget leaf) phys
  | _ => hostAddr phys

/-- Whether a leaf's target has been declared lost (R343). -/
def State.leafLost (s : State) (leaf : Nat) : Bool :=
  match leafAperture leaf with
  | 2 => leafTarget leaf != s.device
      && (if leafTarget leaf < 64 then s.devLost0.getLsbD (leafTarget leaf) else s.devLost1.getLsbD (leafTarget leaf - 64))
  | 3 => s.fabLost.getLsbD (leafTarget leaf)
  | _ => false

/-- Who a group is when it issues. -/
def State.asker (s : State) (g : Group) : Asker := ⟨g.ctx, rootOf g.ptRoot.toNat, s.tenantOf g, unitOf s.cur⟩
def State.askerAt (s : State) (gid : Nat) : Asker := { s.asker (s.group gid) with unit := unitOf gid }
/-- Who a plan's own accesses are made by: a unit of a die. -/
def State.planAsker (s : State) (h : Nat) (unit : Nat := 2816) : Asker :=
  match s.plan? h with
  | some p => ⟨p.context, p.ptRoot, p.tenant, unit⟩
  | none => { unit := unit }

/-- What an access needs of its segment and leaf. -/
structure Need where
  r : Bool := false
  w : Bool := false
  x : Bool := false
  atomic : Bool := false
  deriving DecidableEq, Repr

/-- Check 4 of R146: page fault (5) or region lost (12), or what the walk meets (8); a Pavilion segment needs aperture
Pavilion (R141). -/
def State.leafFor (s : State) (a : Asker) (pavilion : Bool) (va : Nat) : Except Nat Nat :=
  match s.leaf? a va with
  | .error k => .error k
  | .ok e => if pavilion && leafAperture e != 3 then .error 5 else if s.leafLost e then .error 12 else .ok e

/-- Check 5 of R146, and checks 3 and 4 of R191 for atomics: the fault's kind, if there is one. -/
def State.leafDenies (s : State) (n : Need) (e : Nat) : Option Nat :=
  if (n.r && !leafR e) || (n.w && !leafW e) || (n.x && !leafX e) || (leafAperture e != 4 && !s.hasKey 63 (leafKey e))
  then some 6
  else if n.atomic && leafAperture e == 4 then some 6
  else if n.atomic && leafAperture e == 2 && !leafRap e then some 7
  else none

/-! Segments (R133 to R135, R351, R366). -/

/-- The physical place of a group's trap frame, in the stack of its die (R350). -/
def State.frameAddr (s : State) (gid : Nat) : Nat :=
  dieOfGid gid * 2 ^ 36
    + (bits s.trapBase.toNat 35 20 * 2 ^ 20 + (coreOfGid gid % 176 * 32 + slotOfGid gid) * 1024) % 2 ^ 36

/-- The segment a load, store or atomic names: in supervisor mode number 7 is the frame segment (R351), given the
space code 8; a control processor's are fixed (R366), with codes 9 (SRAM), 10 (control space), 11 (module control
space) and 12 (its stack). -/
def Group.seg (g : Group) (gid n : Nat) : Segment :=
  match g.mode with
  | .control =>
    match n with
    | 0 => ⟨0, 2 ^ 18, true, true, false, 9⟩
    | 1 => ⟨0, 2 ^ 24, true, true, false, 10⟩
    | 2 => ⟨0, 18 * 2 ^ 24, true, true, false, 11⟩
    | 3 => ⟨0, if dieOfGid gid < 16 then 2 ^ 36 else 0, true, true, false, 12⟩
    | _ => {}
  | .supervisor => if n = 7 then ⟨0, 1024, true, true, false, 8⟩ else g.segs.getD n {}
  | .user => g.segs.getD n {}

/-- Whether a space is translated (R135). -/
def translated (space : Nat) : Bool := space == 0 || space == 2 || space == 4

/-- The target of offset a of thread t before translation: a virtual address in a translated space, else its place
(R135). -/
def State.target (s : State) (gid : Nat) (g : Segment) (t a : Nat) : Nat :=
  match g.space with
  | 0 => g.base + a / 4 * 256 + 4 * t + a % 4
  | 1 => scratchAddr (coreOfGid gid) (g.base + a)
  | 3 => orangeryAddr (dieOfGid gid) (g.base + a)
  | 5 => belvedereAddr (g.base + a)
  | 8 => s.frameAddr gid + a
  | 9 => sramAddr (dieOfGid gid) a
  | 12 => dieOfGid gid * 2 ^ 36 + a
  | _ => g.base + a

/-- Splits n bytes from a at the multiples of q: starts and lengths. -/
def splitRange (q : Nat) : Nat → Nat → Nat → List (Nat × Nat)
  | 0, _, _ => []
  | fuel + 1, a, n =>
    if n = 0 then []
    else
      let k := min n (q - a % q)
      (a, k) :: splitRange q fuel (a + k) (n - k)

/-- The pieces of an access of n bytes at offset a: 4-byte words in private space, else cut at the 16-byte sectors of
the target (R135, R167). Offsets and lengths. -/
def State.cut (s : State) (gid : Nat) (g : Segment) (a n : Nat) : List (Nat × Nat) :=
  if g.space = 0 then splitRange 4 (n + 1) a n
  else
    let skew := s.target gid g 0 0 % 16
    (splitRange 16 (n + 1) (a + skew) n).map fun p => (p.1 - skew, p.2)

/-- The first element of a list for which `f` answers a fault. -/
def firstFault {α : Type} (f : α → Option TrapInfo) : List α → Option TrapInfo
  | [] => none
  | x :: t => match f x with
    | some e => some e
    | none => firstFault f t

/-- The checks of R146 on one thread's access at offset a, check by check over its pieces; the pieces on success. A
scalar access names no thread and is made for thread 0 (R135). -/
def State.checkAccess (s : State) (gid : Nat) (who : Asker) (segNo : Nat) (g : Segment) (need : Need) (thread : Option Nat)
    (a : Int) (n : Nat) : Except TrapInfo (List Piece) :=
  let t := thread.getD 0
  let bad (kind : Nat) (off : Int) : TrapInfo :=
    { kind := kind, thread := thread, seg := some segNo, offset := (off % (2 ^ 64 : Nat)).toNat }
  if a < 0 then .error (bad 4 a)
  else
    let ps := s.cut gid g a.toNat n
    match firstFault (fun p => if g.limit < p.1 + p.2 then some (bad 4 p.1) else none) ps with
    | some e => .error e
    | none =>
      if need.w && g.space == 3 then .error (bad 14 a)
      else if (need.r && !g.r) || (need.w && !g.w) then .error (bad 6 a)
      else if translated g.space then
        let leafAt (off : Nat) : Except Nat Nat := s.leafFor who (g.space == 4) (s.target gid g t off)
        match firstFault (fun p => match leafAt p.1 with | .error k => some (bad k p.1) | .ok _ => none) ps with
        | some e => .error e
        | none =>
          let deny (off : Nat) : Option Nat :=
            match leafAt off with | .ok e => s.leafDenies need e | .error k => some k
          match firstFault (fun p => (deny p.1).map fun k => bad k p.1) ps with
          | some e => .error e
          | none => .ok (ps.map fun p =>
              match leafAt p.1 with
              | .ok e => ⟨t, p.1 - a.toNat, s.place e (s.target gid g t p.1), p.2, leafKey e, p.1⟩
              | .error _ => ⟨t, p.1 - a.toNat, 0, p.2, 0, p.1⟩)
      else .ok (ps.map fun p => ⟨t, p.1 - a.toNat, s.target gid g t p.1, p.2, 0, p.1⟩)

/-! Performing one piece (R160, R335, R149). -/

/-- Whether a switch gives an address to a tenant: the granule is in an allocation of it (R334). -/
def State.pavOwns (s : State) (tenant a : Nat) : Bool :=
  (s.switch (pavSwitch a)).allocs.any fun x =>
    x.tenant == tenant && decide (x.start ≤ pavOff a / 2 ^ 21) && decide (pavOff a / 2 ^ 21 < x.start + x.len)

/-- Whether a remote edge refuses an access: the granule is not the tenant's (R335), or the edge holds no entry for the key
id (R362). -/
def State.edgeDenied (s : State) (who : Asker) (key a : Nat) : Bool :=
  (isPav a && !s.pavOwns who.tenant a) || ((isPav a || isPeer a) && !s.hasKey (keyTable a) key)

/-- An access that a switch refuses adds to the tenant's violation count there (R335). -/
def State.violate (s : State) (tenant a : Nat) : State :=
  if isPav a then
    let w := s.switch (pavSwitch a)
    s.setSwitch (pavSwitch a) { w with viol := w.viol.putD 0 tenant (min 15 (w.viol.getD tenant 0 + 1)) }
  else s

/-- Where the copy of a 16-byte sector of host memory is held: by the L1 of a core, or, for 2,816, by the host read cache (R149,
R150). -/
def hostSector (unit sector : Nat) : Nat := min unit 2816 * 2 ^ 43 + sector

/-- A sector of host memory as a unit finds it: its L1's copy, or the host read cache's. -/
def State.heldSector (s : State) (unit a : Nat) : Option (List Byte) :=
  s.hostCopies.get? (hostSector unit (a / 16)) <|> s.hostCopies.get? (hostSector 2816 (a / 16))

/-- A byte of host memory as a unit's load sees it: a held copy, else a store still in a write-combining buffer, else host
memory (R149, R180; log 8). -/
def State.hostByte (s : State) (unit a : Nat) : Byte :=
  match s.heldSector unit a with
  | some bs => bs.getD (a % 16) 0
  | none =>
    match s.writeCombine.reverse.find? (fun e => decide (e.1 ≤ a) && decide (a < e.1 + e.2.length)) with
    | some e => e.2.getD (a - e.1) 0
    | none => s.byte a

/-- The bytes an access reads at a place under its key. -/
def State.readPiece (s : State) (who : Asker) (key a n : Nat) : List Byte :=
  if s.edgeDenied who key a then List.replicate n 0
  else if isHost a then (List.range n).map fun i => s.hostByte who.unit (a + i)
  else
    let tag := s.tagAt a key
    (List.range n).map fun i => s.readTagged (a + i) tag

/-- Whether an access that a home serves finds uncorrectable bytes: a refused one finds none (R156, R335). -/
def State.readsBad (s : State) (who : Asker) (key a n : Nat) : Bool := !s.edgeDenied who key a && s.isBad a n

/-- After a read: a refused access counts as a violation. -/
def State.afterRead (s : State) (who : Asker) (key a : Nat) : State :=
  if s.edgeDenied who key a then s.violate who.tenant a else s

/-- Overwrites part of a list of bytes. -/
def overlay (line : List Byte) (at' : Nat) (bs : List Byte) : List Byte :=
  line.take at' ++ bs ++ line.drop (at' + bs.length)

/-- Writes a piece: to the write-combining buffers for host memory, with the unit's own copy and the read cache's updated
(R149, R150; log 8). -/
def State.writePiece (s : State) (who : Asker) (key a : Nat) (bs : List Byte) : State :=
  if s.edgeDenied who key a then s.violate who.tenant a
  else if isHost a then
    { s with
      writeCombine := s.writeCombine ++ [(a, bs)]
      hostCopies := s.hostCopies.mapKeyed fun k l =>
        if k = hostSector who.unit (a / 16) ∨ k = hostSector 2816 (a / 16) then overlay l (a % 16) bs else l }
  else s.writeTagged a bs (s.tagAt a key)

/-- Whether the module has declared the owner of an address lost (R342 to R344). -/
def State.addrLost (s : State) (a : Nat) : Bool :=
  if isPav a then s.fabLost.getLsbD (pavSwitch a)
  else if isPeer a then
    (if peerDev a < 64 then s.devLost0.getLsbD (peerDev a) else s.devLost1.getLsbD (peerDev a - 64))
  else false

end Sys2Proof.Machine
end

