-- ==== Sys2Proof/Machine/ControlSpace.lean ====
section
/-!
DEFINITION. The control space of the dies: its registers and windows, their fields, and what a store to one and a load
from one do (R366 to R370, R375 to R378, R385, R386); the fence map (R379, R382) and SYS_SERVICE_LEVEL (R383, R384).
-/

namespace Sys2Proof.Machine

/-- The registers and windows of a die's control space (R370). Windows carry the offset in them. -/
inductive CtlReg where
  | rail | cp | haltq | devId
  | sram (off : Nat)
  | fuse (off : Nat)
  | page | hbm | mr
  | ucie (e : Nat)
  | core (c : Nat)
  | pcie
  | ual (p : Nat)
  | arbTest | arbCmd | orgTest
  | flash (off : Nat)
  | cap
  deriving DecidableEq, Repr

/-- The register at an offset of a die's control space; none where the die has none (R370). -/
def ctlRegAt (die off : Nat) : Option CtlReg :=
  let compute := decide (die < 16)
  let link := decide (16 ≤ die) && decide (die < 18)
  if off % 8 ≠ 0 then none
  else if off = 0 then (if compute then some .rail else none)
  else if off = 0x100 then some .cp
  else if off = 0x200 then (if compute then some .haltq else none)
  else if off = 0x300 then some .devId
  else if 0xC00000 ≤ off ∧ off < 0xC40000 then some (.sram (off - 0xC00000))
  else if 0x10000 ≤ off ∧ off < 0x10400 then (if die = 16 then some (.fuse (off - 0x10000)) else none)
  else if off = 0x10400 then (if die = 16 then some .page else none)
  else if off = 0x100000 then (if compute then some .hbm else none)
  else if off = 0x100008 then (if compute then some .mr else none)
  else if 0x200000 ≤ off ∧ off < 0x200400 ∧ off % 0x100 = 0 then
    (let e := (off - 0x200000) / 0x100
     if compute && ((e == 0 && decide (die < 4)) || (e == 2 && decide (12 ≤ die))) then none else some (.ucie e))
  else if 0x300000 ≤ off ∧ off < 0x301600 ∧ off % 0x100 = 0 then
    (if compute then some (.core ((off - 0x300000) / 0x100)) else none)
  else if off = 0x400000 then (if die = 16 then some .pcie else none)
  else if 0x500000 ≤ off ∧ off < 0x501800 ∧ off % 0x100 = 0 then
    (if link then some (.ual ((off - 0x500000) / 0x100)) else none)
  else if off = 0x600000 then (if die = 16 then some .arbTest else none)
  else if off = 0x600008 then (if die = 16 then some .arbCmd else none)
  else if off = 0x700000 then (if compute then some .orgTest else none)
  else if 0x800000 ≤ off ∧ off < 0x900000 then (if die = 16 then some (.flash (off - 0x800000)) else none)
  else if off = 0x900000 then (if die = 16 then some .cap else none)
  else none

/-- Bits hi to lo, set. -/
def maskBits (hi lo : Nat) : Nat := 2 ^ (hi + 1) - 2 ^ lo

/-- The bits of a register that are no reserved field (R370). -/
def CtlReg.fields : CtlReg → Nat
  | .rail => maskBits 8 0
  | .cp => maskBits 1 0
  | .haltq => maskBits 63 63 + maskBits 28 8
  | .devId => maskBits 6 0
  | .page => maskBits 3 0
  | .hbm => maskBits 16 16 + maskBits 15 8 + maskBits 5 0
  | .mr => maskBits 47 32 + maskBits 7 0
  | .ucie _ => maskBits 5 0
  | .core _ => maskBits 23 16 + maskBits 8 8 + maskBits 3 0
  | .pcie => maskBits 6 6 + maskBits 4 0
  | .ual _ => maskBits 14 8 + maskBits 3 0
  | .arbCmd => maskBits 2 0
  | .orgTest => maskBits 47 32 + maskBits 2 0
  | .cap => maskBits 19 0
  | _ => 2 ^ 64 - 1

/-- The bits of a register that a store leaves as they are: fields marked read only, and CAP where its new value is out
of range (R368, R370). -/
def CtlReg.readOnly (v : Nat) : CtlReg → Nat
  | .rail => maskBits 7 4
  | .cp => maskBits 1 1
  | .haltq => 2 ^ 64 - 1
  | .fuse _ => 2 ^ 64 - 1
  | .hbm => maskBits 15 8
  | .ual _ => maskBits 14 8
  | .arbTest => maskBits 63 32
  | .orgTest => maskBits 47 32
  | .cap => maskBits 19 16 + if 2000 ≤ v % 2 ^ 16 ∧ v % 2 ^ 16 ≤ 5200 then 0 else maskBits 15 0
  | _ => 0

/-- A value with a nonzero reserved field or a reserved encoding (R368). -/
def CtlReg.badValue (r : CtlReg) (v : Nat) : Bool :=
  v &&& (2 ^ 64 - 1 - r.fields) != 0
    || (match r with
        | .hbm => bits v 2 1 == 3
        | .pcie => decide (2 ≤ bits v 4 3)
        | .ucie _ => decide (2 ≤ bits v 4 3)
        | _ => false)

/-- CP_CTL.RUN of a die's control processor. -/
def State.cpRuns (s : State) (die : Nat) : Bool := bit (s.ctlReg die 0x100) 0

/-- The offset of a register in its die's control space. -/
def CtlReg.offset : CtlReg → Nat
  | .rail => 0 | .cp => 0x100 | .haltq => 0x200 | .devId => 0x300
  | .sram o => 0xC00000 + o
  | .fuse o => 0x10000 + o
  | .page => 0x10400 | .hbm => 0x100000 | .mr => 0x100008
  | .ucie e => 0x200000 + 0x100 * e
  | .core c => 0x300000 + 0x100 * c
  | .pcie => 0x400000
  | .ual p => 0x500000 + 0x100 * p
  | .arbTest => 0x600000 | .arbCmd => 0x600008 | .orgTest => 0x700000
  | .flash o => 0x800000 + o
  | .cap => 0x900000

/-- The key under which a unit that runs is listed in State.busy: its register, and which of the register's units. -/
def busyKey (die : Nat) (r : CtlReg) (unit : Nat) : Nat := die * 2 ^ 24 + r.offset + unit

def State.startUnit (s : State) (die : Nat) (r : CtlReg) (unit : Nat) : State :=
  { s with busy := s.busy.put (busyKey die r unit) s.cycle }
def State.stopUnit (s : State) (die : Nat) (r : CtlReg) (unit : Nat) : State :=
  { s with busy := Map.del (busyKey die r unit) s.busy }
def State.runsUnit (s : State) (die : Nat) (r : CtlReg) (unit : Nat) : Bool := s.busy.has (busyKey die r unit)
/-- Whether a unit has run for n cycles. -/
def State.expired (s : State) (die : Nat) (r : CtlReg) (unit n : Nat) : Bool :=
  match s.busy.get? (busyKey die r unit) with
  | some t => decide (t + n ≤ s.cycle)
  | none => false

def State.reg (s : State) (die : Nat) (r : CtlReg) : Nat := s.ctlReg die r.offset
def State.setReg (s : State) (die : Nat) (r : CtlReg) (v : Nat) : State := s.setCtl die r.offset v

/-- A value with bits hi to lo replaced. -/
def putBits (x hi lo v : Nat) : Nat := x - bits x hi lo * 2 ^ lo + v % 2 ^ (hi + 1 - lo) * 2 ^ lo

/-- What a plain write stores: fields marked read only keep their bits (R368). -/
def CtlReg.stored (r : CtlReg) (old v : Nat) : Nat :=
  (old &&& r.readOnly v) ||| (v &&& (r.fields - (r.fields &&& r.readOnly v)))

/-- The other end of a UCIe link (R8, R379): its die and edge. -/
def ucieEnd (die e : Nat) : Nat × Nat :=
  if die = 16 then (4 * e, 3)
  else if die = 17 then (4 * e + 3, 1)
  else match e with
    | 0 => (die - 4, 2)
    | 1 => if die % 4 = 3 then (17, die / 4) else (die + 1, 3)
    | 2 => (die + 4, 0)
    | _ => if die % 4 = 0 then (16, die / 4) else (die - 1, 1)

/-- The module port of a UAL_CTL register (R370). -/
def modulePort (die p : Nat) : Nat := (die - 16) * 24 + p

/-- A die has lost rail 0 or rail 1: it serves nothing, and its control processor stops (R375). -/
def State.dieDown (s : State) (die : Nat) : State :=
  (s.setDie die { s.die die with off := true }).setReg die .cp 0

/-- A boot step begins (R371, R383): STEP follows the units that firmware starts. -/
def State.stepBegins (s : State) (n : Nat) : State := { s with bootStep := if s.serving then s.bootStep else max s.bootStep n }

/-- A write of PWR_RAIL: a rail below which another is not GOOD stays off and sets ERR (R370). Rails 2 and 3, the stack's,
belong to step 5; a stack that loses one serves nothing (R375). -/
def State.writeRail (s : State) (die v : Nat) : State :=
  let old := s.reg die .rail
  let good (i : Nat) : Bool := bit old (4 + i)
  let want (i : Nat) : Bool := bit v i && ((List.range i).all good || bit old i)
  let en := (List.range 4).foldl (fun n i => n + if want i then 2 ^ i else 0) 0
  let goods := (List.range 4).foldl (fun n i => n + if want i && good i then 2 ^ i else 0) 0
  let err := bit v 8 || (List.range 4).any fun i => bit v i && !want i
  let s1 := s.setReg die .rail (natOf err * 2 ^ 8 + goods * 2 ^ 4 + en)
  let s2 := (List.range 4).foldl (fun st i =>
    if want i then (if bit old i then st else st.startUnit die .rail i) else st.stopUnit die .rail i) s1
  let s3 := if [2, 3].any fun i => want i && !bit old i then s2.stepBegins 5 else s2
  let s4 := if [2, 3].any fun i => bit old i && !want i then s3.setDie die { s3.die die with stackOff := true } else s3
  if goods % 4 = 3 then s4 else s4.dieDown die

/-- Whether a bit is set in a value, and starts something: it was written as 1. -/
def State.writeStart (s : State) (die : Nat) (r : CtlReg) (v done : Nat) (started : Bool) (step : Nat) : State :=
  let new := r.stored (s.reg die r) v
  if started then ((s.setReg die r (new - (new &&& done))).startUnit die r 0).stepBegins step else s.setReg die r new

/-- A control processor that is started or given another PC issues the word there: nothing is left of the instruction it was
stopped in (R373; log 25). -/
def Group.afresh (g : Group) : Group :=
  { g with mode := .control, word := none, target := none, reads := {}, wait := none, parked := false, repcnt := 0, due := none }

/-- The trained ports whose switch reports another index than the device id are retired (R377). -/
def State.retireOthers (s : State) : State :=
  { s with uals := Map.mapVals (fun u =>
      if u.trained && u.peerIdx != s.device then { u with serve := false, trained := false, retired := true } else u) s.uals }

/-- Fenced ports are retired as step 8 begins (R376, R382). -/
def State.retireFenced (s : State) : State :=
  ((List.range 48).filter (s.fenced 6)).foldl
    (fun st p => st.setUal p { st.ual p with serve := false, trained := false, retired := true }) s

/-- Whether a stack retrains; whether it is to, once its deadline queue is empty (R361, R384). -/
def State.retrains (s : State) (die : Nat) : Bool := s.runsUnit die .hbm 3
def State.toRetrain (s : State) (die : Nat) : Bool := s.runsUnit die .hbm 4

/-- A store takes effect in a die's control space (R367, R370): `who` is the writer, for flash. A CP_SRAM window whose
processor runs stays unchanged. -/
def State.ctlWrite (s : State) (who die : Nat) (r : CtlReg) (v : Nat) : State :=
  let old := s.reg die r
  let new := r.stored old v
  match r with
  | .rail => s.writeRail die v
  | .cp =>
    let s1 := s.setReg die .cp (v % 2)
    if bit v 0 && !bit old 0 then
      let g := s1.group (cpGid die)
      s1.setGroup (cpGid die) { g.afresh with halted := false, stepArmed := false }
    else s1
  | .haltq => s
  | .fuse _ => s
  | .devId => let s1 := s.setReg die r new; if die = 16 then s1.retireOthers else s1
  | .sram o => if s.cpRuns die then s else s.writeNum (sramAddr die o) 8 v
  | .page => s.setReg die r new
  | .hbm =>
    if s.retrains die || s.toRetrain die then s
    else
      let start := bit v 0 || bit v 3
      let s1 := s.setReg die .hbm (putBits (putBits (if start then putBits new 5 4 0 else new) 0 0 0) 3 3 0)
      let s2 := if bit v 0 then (s1.startUnit die .hbm 0).stepBegins 5 else s1
      if bit v 3 then s2.startUnit die .hbm (if (s.die die).deadline.isEmpty then 3 else 4) else s2
  | .mr => if bit old 38 && !bit old 39 then s else s.writeStart die r v (maskBits 39 39) (bit v 38) 0
  | .ucie _ => s.writeStart die r v (maskBits 2 1) (bit v 0) 6
  | .core _ => s.writeStart die r v (maskBits 23 16 + maskBits 2 1) (bit v 0) 10
  | .pcie => s.writeStart die r v (maskBits 2 1) (bit v 0) 7
  | .ual p =>
    let s0 := s.writeStart die r v (maskBits 2 1) (bit v 0) 8
    let s1 := if bit v 0 then s0.retireFenced else s0
    let u := s1.ual (modulePort die p)
    s1.setUal (modulePort die p) (
      if bit v 3 && u.trained then
        (if u.peerIdx = s.device then { u with serve := true } else { u with serve := false, trained := false, retired := true })
      else { u with serve := false })
  | .arbTest => s.setReg die r new
  | .arbCmd => s.writeStart die r v (maskBits 2 1) (bit v 0) 9
  | .orgTest => s.writeStart die r v (maskBits 2 1) (bit v 0) 11
  | .flash o => { s with flashBusy := some (s.reg 16 .page * 2 ^ 20 + o, v, who) }
  | .cap => s.setReg die r new

/-- What a load from a die's control space reads (R370, R372). -/
def State.ctlRead (s : State) (die : Nat) (r : CtlReg) : Nat :=
  match r with
  | .cp => natOf (s.cpRuns die) + 2 * natOf (s.group (cpGid die)).halted
  | .haltq => (s.die die).haltq.headD 0
  | .sram o => s.num (sramAddr die o) 8
  | .fuse o => if 192 ≤ o ∧ o < 256 then 0 else s.num (fuseAddr o) 8
  | .flash o => s.num (flashAddr (s.reg 16 .page * 2 ^ 20 + o)) 8
  | r => s.reg die r

/-- A read of CP_HALTQ removes the entry it returns (R370). -/
def State.afterCtlRead (s : State) (die : Nat) (r : CtlReg) : State :=
  match r with
  | .haltq => s.setDie die { s.die die with haltq := (s.die die).haltq.drop 1 }
  | _ => s

/-- The register at a control-space address die × 2^24 + offset. -/
def ctlAt (a : Nat) : Option CtlReg := ctlRegAt (a / 2 ^ 24) (a % 2 ^ 24)

/-- What a store to a control-space register is, of the steps the opcode table lists. -/
inductive CtlAct where
  | plain | rail | cpRun | hbmInit | hbmTrain | hbmServe | mrGo | ucieTrain | pcieTrain | cxl | ualTrain | ualServe
  | arbGo | coreGo | orgGo | flash
  deriving DecidableEq, Repr

/-- The step that a store of a value to a register is. -/
def State.ctlAct (s : State) (die : Nat) (r : CtlReg) (v : Nat) : CtlAct :=
  let old := s.reg die r
  match r with
  | .rail => .rail
  | .cp => if bit v 0 && !bit old 0 then .cpRun else .plain
  | .hbm => if bit v 0 then .hbmInit else if bit v 3 then .hbmTrain else if bit v 16 && !bit old 16 then .hbmServe else .plain
  | .mr => if bit v 38 then .mrGo else .plain
  | .ucie _ => if bit v 0 && !bit old 0 then .ucieTrain else .plain
  | .pcie => if bit v 6 && !bit old 6 then .cxl else if bit v 0 then .pcieTrain else .plain
  | .ual _ => if bit v 3 && !bit old 3 then .ualServe else if bit v 0 then .ualTrain else .plain
  | .arbCmd => if bit v 0 then .arbGo else .plain
  | .core _ => if bit v 0 then .coreGo else .plain
  | .orgTest => if bit v 0 then .orgGo else .plain
  | .flash _ => .flash
  | _ => .plain

/-! The fence map, and units out of service (R379, R381, R382). -/

/-- A cluster is fenced or out of service: by the map, by CORE_TEST.FENCE, or since its test failed. -/
def State.clusterFenced (s : State) (c : Nat) : Bool :=
  (s.cluster c).outOfService || s.fenced 16 c || bit (s.reg (c / 22) (.core (c % 22))) 8

/-- An Arbor number is fenced or out of service (REASON 8). -/
def State.arborFenced (s : State) (n : Nat) : Bool := s.fenced 12 n || bit (s.reg 16 .arbTest) (32 + n)

/-- The Orangery of a die is fenced or out of service, or its die has none in service (R382). -/
def State.orangeryFenced (s : State) (d : Nat) : Bool := (s.die d).orangeryOut || s.fenced 60 d || s.dieOut d

/-- The host port is out of service: its training has failed, or its link die is off (R376, R381, R382, R386). -/
def State.hostPortOut (s : State) : Bool := bit (s.reg 16 .pcie) 2 || (s.die 16).off

/-- Step 11 has ended on a die. -/
def State.orangeryTested (s : State) (d : Nat) : Bool := s.orangeryFenced d || bits (s.reg d .orgTest) 2 1 != 0

/-! Service levels (R383, R384). -/

/-- A port that carries flits: trained and not dead (R323, R341), not fenced, and its link die powered (R382, R386). -/
def State.portUp (s : State) (p : Nat) : Bool :=
  (s.ual p).trained && !(s.ual p).retired && !s.fenced 6 p && !(s.die (16 + p / 24)).off

/-- A port that can carry traffic: one whose switch reports the module's device id (R377). -/
def State.portLive (s : State) (p : Nat) : Bool := s.portUp p && (s.ual p).peerIdx == s.device

/-- Every compute die in service has its stack serving. -/
def State.stacksServe (s : State) : Bool := (List.range 16).all fun d => s.dieOut d || bit (s.reg d .hbm) 16

/-- Every stack in service has trained at its final rate; and every one has, or has failed to and stays at its last rate. -/
def State.fullRate (s : State) : Bool := (List.range 16).all fun d => s.dieOut d || bit s.fullMask d
def State.rateEnded (s : State) : Bool := (List.range 16).all fun d => s.dieOut d || bit s.fullMask d || bit s.rateFailed d

/-- LEVEL of SYS_SERVICE_LEVEL. -/
def State.level (s : State) : Nat := if !s.serving then 0 else if s.fullRate then 2 else 1

/-- SYS_SERVICE_LEVEL (R383). -/
def State.serviceLevel (s : State) : Nat :=
  s.fullMask % 2 ^ 16 * 2 ^ 48
    + ((List.range 16).filter s.stackFenced).foldl (fun n d => n + 2 ^ d) 0 * 2 ^ 32
    + ((List.range 352).filter s.clusterFenced).length * 2 ^ 23
    + ((Map.keys s.uals).filter s.portLive).length * 2 ^ 17
    + bits (s.reg 16 .cap) 19 16 * 2 ^ 12
    + (if s.serving && s.rateEnded then 0 else s.bootStep % 16 * 2 ^ 8) + s.level

end Sys2Proof.Machine
end

