-- ==== Sys2Proof/Machine/Link.lean ====
section
/-!
DEFINITION. UALink ports: flits and their headers, credits, replay, the stall slot, and the requests that travel on a port
(R322 to R328, R330).
-/

namespace Sys2Proof.Machine

/-! Flits (R323). -/

/-- A flit's header. -/
structure FlitHeader where
  credit : Nat
  cvc : Nat
  ack : Nat
  nak : Bool
  vc : Nat
  seq : Nat
  deriving DecidableEq, Repr

/-- The eight bytes of a header as a number. -/
def FlitHeader.word (h : FlitHeader) : Nat :=
  h.credit * 2 ^ 52 + h.cvc * 2 ^ 50 + h.ack * 2 ^ 38 + natOf h.nak * 2 ^ 37 + h.vc * 2 ^ 35 + h.seq

/-- The 64 bytes of a flit as a number: the fields of its header, the bytes behind it, and above those, from bit 448 of `rest`,
the header's reserved bits. -/
def flitNumber (h : FlitHeader) (rest : Nat) : Nat :=
  let header : FlitHeader := { credit := h.credit % 4096, cvc := h.cvc % 4, ack := h.ack % 4096, nak := h.nak, vc := h.vc % 4, seq := h.seq % 4096 }
  header.word + rest / 2 ^ 448 % 2 ^ 23 * 2 ^ 12 + rest % 2 ^ 448 * 2 ^ 64

/-- The header in a number; its reserved bits are ignored. -/
def flitHeader (w : Nat) : FlitHeader :=
  { credit := bits w 63 52, cvc := bits w 51 50, ack := bits w 49 38, nak := bit w 37, vc := bits w 36 35, seq := bits w 11 0 }

/-- One bit of CRC-32C, least significant bit first. -/
def crcBit (c : Nat) : Nat := if c % 2 = 1 then (c / 2) ^^^ 0x82F63B78 else c / 2

/-- CRC-32C of bytes. -/
def crc32c (bs : List Byte) : Nat :=
  bs.foldl (fun c b => (List.range 8).foldl (fun x _ => crcBit x) (c ^^^ b.toNat)) 0xFFFFFFFF ^^^ 0xFFFFFFFF

/-- A flit of 64 bytes: header, 52 bytes of payload, CRC. -/
def flitBytes (h : FlitHeader) (payload : List Byte) : List Byte :=
  let body := leBytes 8 h.word ++ (payload ++ List.replicate 52 0).take 52
  body ++ leBytes 4 (crc32c body)

/-- Whether the CRC of a flit's 64 bytes is good. -/
def flitGood (bs : List Byte) : Bool := bs.length == 64 && crc32c (bs.take 60) == leNat (bs.drop 60)

/-! Sending (R323, R324, R326). -/

/-- Whether a port sends and takes flits now: heard within 65,536 cycles, and not retraining. One whose switch has reported another
device id, or that trained before the module has its own, does too (R323, R377). -/
def State.portOpen (s : State) (p : Nat) : Bool :=
  let u := s.ual p
  decide (p < 48) && s.portUp p && u.retrainSince.isNone && decide (s.cycle < u.lastGood + 65536)

/-- Flits that may be sent on a channel (R326). -/
def UalPort.room (u : UalPort) (c : Nat) : Nat := (u.last.getD c 0 + 4096 - u.sent.getD c 0) % 4096

/-- The credit count that a receiver sends for a channel, its buffer of 1,024 entries (R326; log 37). -/
def UalPort.creditOut (u : UalPort) (c : Nat) : Nat := (1024 + u.freed.getD c 0) % 4096

/-- A flit with this SEQ and VC goes out: its header carries the credit of channel CVC, which rotates, the last SEQ received in
order, and a NAK that is due. -/
def UalPort.put (u : UalPort) (now seq vc : Nat) : UalPort :=
  { u with
    header := ({ credit := u.creditOut u.cvc, cvc := u.cvc, ack := (u.rxSeq + 4095) % 4096, nak := u.nakDue, vc := vc,
                 seq := seq } : FlitHeader).word
    cvc := (u.cvc + 1) % 3, nakDue := false, sentAt := now }

/-- A new flit takes the next SEQ and a place in the replay buffer; one with a payload takes a credit of its channel. -/
def UalPort.send (u : UalPort) (now vc : Nat) : UalPort :=
  let v := u.put now u.txSeq vc
  { v with
    txSeq := (u.txSeq + 1) % 4096, replay := u.replay ++ [(u.txSeq, vc)]
    sent := if vc < 3 then u.sent.putD 0 vc ((u.sent.getD vc 0 + 1) % 4096) else u.sent }

/-- A port with no request to send: the next flit of a replay, else a response that is still to go out, if a credit of the
response channel allows it, else an idle flit; with a full replay buffer, its last flit again, which no receiver accepts
twice. -/
def UalPort.fill (u : UalPort) (now : Nat) : UalPort :=
  match u.resend with
  | (q, c) :: rest => { u.put now q c with resend := rest }
  | [] =>
    if u.replay.length < 1024 then
      (if u.owed ≠ 0 ∧ 0 < u.room 2 then { u.send now 2 with owed := u.owed - 1 } else u.send now 3)
    else match u.replay.getLast? with
      | some x => u.put now x.1 x.2
      | none => u

/-- Whether a port may send a new flit on a channel: its switch reports the device id, SERVE set, no replay under way, room in the replay buffer, and a credit
(R376; log 28). -/
def State.maySend (s : State) (p c : Nat) : Bool :=
  s.portOpen p && s.portLive p && (s.ual p).serve && (s.ual p).resend.isEmpty && decide ((s.ual p).replay.length < 1024) && decide (0 < (s.ual p).room c)

/-! Receiving (R324, R326 to R328). -/

/-- Flits acknowledged up to and with `ack` leave the replay buffer. -/
def ackReplay (ack : Nat) (replay : List (Nat × Nat)) : List (Nat × Nat) :=
  if replay.any fun x => x.1 == ack then (replay.dropWhile fun x => x.1 != ack).drop 1 else replay

/-- A newer credit count of a channel becomes LAST (R326). -/
def UalPort.credit (u : UalPort) (c n : Nat) : UalPort :=
  if c < 3 ∧ 1 ≤ (n + 4096 - u.last.getD c 0) % 4096 ∧ (n + 4096 - u.last.getD c 0) % 4096 ≤ 2047 then
    { u with last := u.last.putD 0 c (n % 4096) } else u

/-- A buffer entry of a channel is free again. -/
def UalPort.freeEntry (u : UalPort) (c : Nat) : UalPort := { u with freed := u.freed.putD 0 c ((u.freed.getD c 0 + 1) % 4096) }

/-- A port that goes down drops the requests that wait at it: their entries are free again (R326). -/
def UalPort.dropStalled (u : UalPort) : UalPort :=
  { u with freed := u.freed.putD 0 0 ((u.freed.getD 0 0 + u.stalled.length) % 4096), stalled := [] }

/-- Whether a request that needs a forwarded request out of a port (0: none) can be served: a forward buffer and a credit
of the forward channel are free (R328). -/
def State.mayForward (s : State) (fwd : Nat) : Bool :=
  fwd == 0 || (decide (s.forwards.length < 32) && s.maySend (fwd - 1) 1)

/-- A port owes a response, which goes out as its credits allow (R326, R327). -/
def State.owe (s : State) (p : Nat) : State := s.setUal p { s.ual p with owed := (s.ual p).owed + 1 }

/-- A request received on a port is served, and its buffer entry is free: its response is due, or, where it needs a forwarded
request, that goes out first. -/
def State.serveRequest (s : State) (p fwd : Nat) : State :=
  let s1 := if fwd = 0 then s.owe p
    else { s.setUal (fwd - 1) ((s.ual (fwd - 1)).send s.cycle 1) with forwards := s.forwards ++ [(fwd - 1, some p)] }
  s1.setUal p ((s1.ual p).freeEntry 0)

/-- Forwarded request n ends: its buffer is free, and the request that it served has its response (R328). -/
def State.endForward (s : State) (n : Nat) : State :=
  let s1 := { s with forwards := dropAt s.forwards n }
  match s.forwards[n]? with
  | some (_, some p) => s1.owe p
  | _ => s1

/-- The oldest forwarded request that went out of a port has its answer. -/
def State.forwardAnswered (s : State) (p : Nat) : State :=
  match s.forwards.findIdx? fun x => x.1 == p with
  | some n => s.endForward n
  | none => s

/-- A flit accepted on a channel. A request that cannot be served, or that finds the stall slot taken, waits; a forwarded
request is served and a response sunk at once, whatever waits (R327, R328). `fwd` of a response says that it answers a
forwarded request of this module, whose buffer it frees. -/
def State.takeFlit (s : State) (p c fwd : Nat) : State :=
  match c with
  | 0 =>
    if (s.ual p).stalled.isEmpty && s.mayForward fwd then s.serveRequest p fwd
    else s.setUal p { s.ual p with stalled := (s.ual p).stalled ++ [fwd] }
  | 1 => (s.setUal p ((s.ual p).freeEntry 1)).owe p
  | 2 =>
    let s1 := s.setUal p ((s.ual p).freeEntry 2)
    if fwd = 0 then s1 else s1.forwardAnswered p
  | _ => s

/-- A packet of another module comes in on a port, of the request channel (0) or of the response channel (2), in sequence; a
request is served at once and its response owed: none behind requests that wait there (R323, R324, R327, R328). -/
def State.arrives (s : State) (p c : Nat) : Option State :=
  let u := s.ual p
  if !s.portOpen p || !s.portLive p || (c == 0 && !u.stalled.isEmpty) then none
  else some ((s.setUal p { u with rxSeq := (u.rxSeq + 1) % 4096, lastGood := s.cycle }).takeFlit p c 0)

/-- Stalled requests of a port proceed, in order, as far as they can be served (R328). -/
def State.serveStalled (p : Nat) : List Nat → State → State
  | [], s => s.setUal p { s.ual p with stalled := [] }
  | f :: rest, s =>
    if s.mayForward f then State.serveStalled p rest (s.serveRequest p f)
    else s.setUal p { s.ual p with stalled := f :: rest }

/-! Requests of this module (R327, R330). -/

/-- Whether a place is another owner's: a switch's or another device's. -/
def isRemote (a : Nat) : Bool := isPav a || isPeer a

/-- The owner of a remote place: a device, or 128 + a switch. -/
def ownerOf (a : Nat) : Nat := if isPav a then 128 + pavSwitch a else peerDev a

/-- A place of an owner. -/
def ownerPlace (o : Nat) : Nat := if o < 128 then peerAddr o 0 else pavAddr (o - 128) 0

/-- The port that a request for an owner is on. -/
def State.flightPort (s : State) (f : Flight) (o : Nat) : Option Nat :=
  (s.uals.find? fun p => p.2.flights.any fun x => x.1 == f && x.2.2 == o).map Prod.fst

/-- Whether a port leads to an owner: a switch's own port; to a device every port whose switch has sent no port-down notice of
it (R330, R341). -/
def State.leadsTo (s : State) (p o : Nat) : Bool := if o < 128 then !s.notices.has (o * 48 + p) else o - 128 == p

/-- A request for an owner goes out on a port, on the request channel. -/
def State.launch (s : State) (f : Flight) (p o : Nat) : State :=
  let u := s.ual p
  s.setUal p { u.send s.cycle 0 with flights := u.flights ++ [(f, u.txSeq, o)] }

/-- Whether the request for a place has gone out to its owner and can be answered: what is not remote, or has been declared lost,
needs no port (R344). -/
def State.answered (s : State) (f : Flight) (a : Nat) : Bool :=
  !isRemote a || s.addrLost a || (s.flightPort f (ownerOf a)).any s.portOpen

/-- The response to a request that is on a port arrives: a good flit of the response channel, in sequence, which acknowledges
the request (R324, R326, R341). -/
def State.response (s : State) (f : Flight) (o : Nat) : State :=
  match s.flightPort f o with
  | none => s
  | some p =>
    let u := s.ual p
    let own (x : Flight × Nat × Nat) : Bool := x.1 == f && x.2.2 == o
    let ack := ((u.flights.find? own).map fun x => x.2.1).getD 0
    s.setUal p { u.freeEntry 2 with
      rxSeq := (u.rxSeq + 1) % 4096, lastGood := s.cycle, flights := u.flights.filter fun x => !own x
      replay := ackReplay ack u.replay }

/-- Requests whose answers nothing awaits any more are forgotten. -/
def State.forget (s : State) (gone : Flight → Bool) : State :=
  { s with uals := Map.mapVals (fun u => { u with flights := u.flights.filter fun x => !gone x.1 }) s.uals }

/-- The response to a request for a place arrives, where another owner has it. -/
def State.land (s : State) (f : Flight) (a : Nat) : State := if !isRemote a || s.addrLost a then s else s.response f (ownerOf a)

/-- The responses to every request of a kind that is on a port arrive. -/
def State.landAll (s : State) (f : Flight) : State :=
  (s.uals.flatMap fun p => (p.2.flights.filter fun x => x.1 == f).map fun x => x.2.2).foldl (fun st o => st.response f o) s

end Sys2Proof.Machine
end

