-- ==== Sys2Proof/Machine/Pavilion.lean ====
section
/-!
DEFINITION. Pavilion memory: a switch's granules, allocations and quotas (R334 to R338), and what becomes of a switch's
memory.
-/

namespace Sys2Proof.Machine

def granules : Nat := 262144

/-- The granules of a switch that are not free, as runs: allocated, or freed and not zeroed yet (R334). -/
def Switch.taken (w : Switch) : List (Nat × Nat) := w.allocs.map (fun a => (a.start, a.len)) ++ w.dirty.map fun g => (g, 1)

/-- Places at which a run of free granules can begin. -/
def Switch.starts (w : Switch) : List Nat := 0 :: w.taken.map fun r => r.1 + r.2

/-- How many granules are free from one on. -/
def Switch.freeFrom (w : Switch) (g : Nat) : Nat :=
  if w.taken.any fun r => decide (r.1 ≤ g) && decide (g < r.1 + r.2) then 0
  else (w.taken.foldl (fun m r => if g ≤ r.1 then min m r.1 else m) granules) - g

/-- The lowest granule of the lowest run of n free granules (R337). -/
def Switch.lowestRun (w : Switch) (n : Nat) : Option Nat :=
  bestOf (fun a b => decide (a < b)) (w.starts.filter fun g => decide (n ≤ w.freeFrom g))

/-- LARGEST (R338). -/
def Switch.largest (w : Switch) : Nat := (w.starts.map w.freeFrom).foldl max 0

/-- USED (R334). -/
def Switch.used (w : Switch) (tenant : Nat) : Nat := (w.allocs.filter fun a => a.tenant == tenant).foldl (fun n a => n + a.len) 0

/-- The Pavilion window (R336). -/
def windowBase : Nat := 0x00C0000000000000

/-- `pvalloc` at one switch (R337): the state and the address, or the status that sends it on. -/
def State.allocateAt (s : State) (tenant n w : Nat) : Except Nat (State × Nat) :=
  let x := s.switch w
  if x.limit.getD tenant 0 < x.used tenant + n then .error 1
  else match x.lowestRun n with
    | none => .error 2
    | some g => .ok (s.setSwitch w { x with allocs := x.allocs ++ [⟨g, n, tenant⟩] }, windowBase + w * 2 ^ 39 + g * 2 ^ 21)

/-- `pvfree` at a switch (R337): the state and S(sd). -/
def State.deallocate (s : State) (tenant w off : Nat) : State × Nat :=
  let x := s.switch w
  match x.allocs.find? fun a => a.tenant == tenant && a.start * 2 ^ 21 == off with
  | none => (s, 5)
  | some a => (s.setSwitch w { x with allocs := x.allocs.filter (· != a)
                                      dirty := x.dirty ++ (List.range a.len).map (a.start + ·) }, 0)

/-- The quota word (R338). -/
def Switch.quotaWord (w : Switch) (tenant : Nat) : Nat :=
  w.viol.getD tenant 0 * 2 ^ 60 + w.largest * 2 ^ 40 + w.used tenant * 2 ^ 20 + w.limit.getD tenant 0

/-- Bytes from lo up to hi are zero again, as if never written. -/
def State.zeroSpan (s : State) (lo hi : Nat) : State :=
  let out (k : Nat) : Bool := decide (k < lo) || decide (hi ≤ k)
  { s with mem := s.mem.filter fun c => out c.1, bad := s.bad.keep fun k _ => out k, byteKey := s.byteKey.keep fun k _ => out k }

/-- A switch has zeroed a freed granule (R334). -/
def State.tryZeroed (s : State) (w n : Nat) : Option State :=
  let x := s.switch w
  if x.dirty.contains n then
    some ((s.setSwitch w { x with dirty := x.dirty.filter (· != n) }).zeroSpan (pavAddr w (n * 2 ^ 21)) (pavAddr w ((n + 1) * 2 ^ 21)))
  else none

/-- A switch that returns after loss holds no allocations, limits or keys, and its memory is zero (R342). -/
def State.switchReturns (s : State) (w : Nat) : State :=
  { (s.setSwitch w {}).zeroSpan (pavAddr w 0) (pavAddr w (2 ^ 39)) with keys := s.keys.keep fun k _ => k / 8192 != w }

/-- The switch that a Pavilion instruction goes to next: lost ones are skipped by `pvalloc` (R337). -/
def State.pavSwitchOf (s : State) : PavOp → Option Nat
  | .alloc _ ws _ _ => ws.find? fun w => !s.fabLost.getLsbD w
  | .free w _ _ => some w
  | .query w _ => some w

/-- A scalar result of n. -/
def scalarResult (d n : Nat) : RegWrite := .s d (BitVec.ofNat 64 n)

/-- A Pavilion instruction takes its place at its switch (R337): the state, and what is left of it or its results. -/
def State.pavStep (s : State) (tenant : Nat) (op : PavOp) : State × (PavOp ⊕ List RegWrite) :=
  match op with
  | .alloc n ws last d => match ws.dropWhile fun w => s.fabLost.getLsbD w with
    | [] => (s, .inr [scalarResult d 0, scalarResult (d + 1) last])
    | w :: rest => match s.allocateAt tenant n w with
      | .ok r => (r.1, .inr [scalarResult d r.2, scalarResult (d + 1) 0])
      | .error st =>
        (s, if rest.all fun v => s.fabLost.getLsbD v then .inr [scalarResult d 0, scalarResult (d + 1) st]
            else .inl (.alloc n rest st d))
  | .free w off d =>
    if s.fabLost.getLsbD w then (s, .inr [scalarResult d 3])
    else (let r := s.deallocate tenant w off; (r.1, .inr [scalarResult d r.2]))
  | .query w d =>
    (s, .inr [scalarResult d (if s.fabLost.getLsbD w then 2 ^ 64 - 1 else (s.switch w).quotaWord tenant)])

end Sys2Proof.Machine
end

