-- ==== Sys2Proof/Machine/PortState.lean ====
section
/-!
DEFINITION. What a `pportq` reads: the claimable slots of a pipe's cursor (R228), the count of a port (R244, R245) and its
status word (R261).
-/

namespace Sys2Proof.Machine

/-- The pipe a record's plan-local number names. -/
def State.pipe? (s : State) (h p : Nat) : Option Pipe := s.pipes.get? (h * 64 + p)

def Pipe.clOf (p : Pipe) (c : Nat) : Nat := p.cl.getD c 0
def Pipe.retOf (p : Pipe) (c : Nat) : List Nat := p.ret.getD c []

/-- The claimable slots from sequence number k upward (R228). -/
def Pipe.run (p : Pipe) : Nat → Nat → Nat
  | 0, _ => 0
  | fuel + 1, k => match p.slots.get? k with
    | some sl => if sl.st = .void then Pipe.run p fuel (k + 1)
      else if sl.st = .committed ∧ sl.loc = .l2 then 1 + Pipe.run p fuel (k + 1) else 0
    | none => 0

/-- AVAIL(c) (R228). -/
def Pipe.avail (p : Pipe) (c : Nat) : Nat := (p.retOf c).length + p.run 65 (p.clOf c)

/-- COUNT of a message port, AVAIL(c) of a pipe-head port (R244, R245). -/
def State.portCount (s : State) (p : Port) : Nat :=
  if p.isHead then ((s.pipe? p.plan p.pipe).map fun x => x.avail p.cursor).getD 0 else p.msgs.length

/-- The status word of a port (R261). -/
def State.portStatus (s : State) (p : Port) : Nat :=
  p.drops * 2 ^ 32 + p.rot * 2 ^ 23 + natOf p.opened * 2 ^ 21 + natOf p.isHead * 2 ^ 19 + natOf p.fault * 2 ^ 18
    + (if p.isHead then 0 else p.depth) * 2 ^ 13 + min 63 p.waiters.length * 2 ^ 7 + min 127 (s.portCount p)

/-- The key of the port a port id names on this module (R240). -/
def portKey (id : Nat) : Nat := bits id 22 19 * 8192 + bits id 12 0

/-- The device that a port id names (R240). -/
def portDevice (id : Nat) : Nat := bits id 29 23

/-- What `pportq` reads at this module: the status word of a port of the tenant, else 0 (R261). -/
def State.portAnswer (s : State) (tenant id : Nat) : Nat :=
  match s.ports.get? (portKey id) with
  | some p => if ((s.plan? p.plan).map Plan.tenant) = some tenant then s.portStatus p else 0
  | none => 0

end Sys2Proof.Machine
end

