-- ==== Sys2Proof/Machine/Perform.lean ====
section
/-!
DEFINITION. Performing the accesses a group has issued, in its program order (R159 to R163), atomics at their home
(R185 to R192), and the results that come back (R70, R74).
-/

namespace Sys2Proof.Machine

/-- Nearest even, nothing flushed: the rounding at the home (R189). -/
def homeRounding : Rounding := ⟨0, false⟩

/-- A value of n bytes as a signed number. -/
def signedOf (n x : Nat) : Int := if x < 2 ^ (8 * n - 1) then x else (x : Int) - (2 ^ (8 * n) : Nat)

/-- AtomOp (R188, R189) on values of n bytes. For cas, x is the compare value and y the new one. -/
def atomStep (op : AtomOp) (n m x y : Nat) : Nat :=
  match op with
  | .add => (m + x) % 2 ^ (8 * n)
  | .sub => (m + 2 ^ (8 * n) - x) % 2 ^ (8 * n)
  | .minS => if signedOf n m ≤ signedOf n x then m else x
  | .maxS => if signedOf n m ≤ signedOf n x then x else m
  | .minN => min m x
  | .maxN => max m x
  | .and => m &&& x
  | .or => m ||| x
  | .xor => m ^^^ x
  | .xchg => x
  | .cas => if m = x then y else m
  | .fadd => (roundExact fmtF32 homeRounding (addExact 0 (unpack fmtF32 m) (unpack fmtF32 x))).1
  | .fmin => (minMaxCode fmtF32 false m x).1
  | .fmax => (minMaxCode fmtF32 true m x).1
  | .addBf16x2 =>
    let one (a b : Nat) := (roundExact fmtBF16 homeRounding (addExact 0 (unpack fmtBF16 a) (unpack fmtBF16 b))).1
    one (m % 2 ^ 16) (x % 2 ^ 16) + 2 ^ 16 * one (m / 2 ^ 16 % 2 ^ 16) (x / 2 ^ 16 % 2 ^ 16)

/-- A request's operations one after another in thread order (R185): the old values by thread and the final value. -/
def atomRun (op : AtomOp) (n : Nat) : Nat → List (Nat × Nat × Nat) → List (Nat × Nat) × Nat
  | m, [] => ([], m)
  | m, (t, x, y) :: rest =>
    let r := atomRun op n (atomStep op n m x y) rest
    ((t, m) :: r.1, r.2)

/-- Every store of the module that a write-combining buffer holds for these lines reaches host memory (R149); one that another
group has issued and that is still outstanding does not (log 76). -/
def State.flushLines (s : State) (lines : List Nat) : State :=
  let due := s.writeCombine.filter fun e => lines.contains (e.1 / 64)
  let s1 := due.foldl (fun st e => st.write e.1 e.2) s
  { s1 with writeCombine := s.writeCombine.filter fun e => !lines.contains (e.1 / 64) }

/-- A late fault of an outstanding instruction: the first one stands, but uncorrectable data prevail, since they leave
every thread's destination unchanged (R74, R192). -/
def Pending.fail (p : Pending) (kind off thread : Nat) (unknown : Bool) : Pending :=
  match p.failed with
  | none => { p with failed := some (kind, unknown), failOff := off, failThread := thread }
  | some (12, u) => if kind = 8 then { p with failed := some (8, u), failOff := off, failThread := thread } else p
  | some _ => p

/-- The line that a load or a store of a thread goes to at another owner: its instruction has one request for it (R331). -/
def Access.line? : Access → Option Nat
  | .load q => if isRemote q.addr then some (q.addr / 64) else none
  | .store q _ => if isRemote q.addr then some (q.addr / 64) else none
  | _ => none

/-- Whether an instruction has more to do with the request that an access of it is of (R331). -/
def Pending.shares (p : Pending) (a : Access) : Bool := a.line?.isSome && p.todo.any fun b => b.line? == a.line?

/-- A load has been performed: its request has served its thread, and while it is on a port that is kept (R331). -/
def Pending.serve (p : Pending) (q : Piece) : Pending :=
  if !isRemote q.addr then p
  else if p.shares (.load q) then { p with served := (q.addr / 64, q.thread) :: p.served }
  else { p with served := p.served.filter fun x => x.1 != q.addr / 64 }

/-- An access has a region-lost outcome (R74, R181, R192, R344): a load's or an atomic's threads get zero, all those that its
request has served with it; a store or an atomic has its outcome unknown. It is not performed (log 55). -/
def Pending.lose (p : Pending) (a : Access) : Pending :=
  match a with
  | .load q => { p.fail 12 q.off q.thread false with
      lostThreads := q.thread :: (p.served.filter fun x => x.1 == q.addr / 64).map Prod.snd ++ p.lostThreads
      served := p.served.filter fun x => x.1 != q.addr / 64 }
  | .store q _ => p.fail 12 q.off q.thread true
  | .atomic _ _ ps xs =>
    { p.fail 12 ((ps.head?.map Piece.off).getD 0) ((ps.head?.map Piece.thread).getD 0) true with
      lostThreads := xs.map Prod.fst ++ p.lostThreads }
  | _ => p

/-- The places an access of a group reads or writes. -/
def State.placesOf (s : State) : Access → List Nat
  | .load q => [q.addr]
  | .store q _ => [q.addr]
  | .atomic _ _ ps _ => ps.map Piece.addr
  | .pavilion op => (((s.pavSwitchOf op).filter fun w => !s.fabLost.getLsbD w).map fun w => pavAddr w 0).toList
  | _ => []

/-- The n bytes of an atomic, read where they lie; and written there. -/
def State.readPieces (s : State) (who : Asker) (ps : List Piece) : List Byte :=
  ps.flatMap fun q => s.readPiece who q.key q.addr q.len
def State.writePieces (s : State) (who : Asker) (ps : List Piece) (bs : List Byte) : State :=
  ps.foldl (fun st q => st.writePiece who q.key q.addr ((bs.drop q.pos).take q.len)) s

/-- An atomic at its home (R185, R186): the operations of its threads one after another. A home that refuses it performs
nothing and returns zeros (R335, R362). -/
def State.atomicAt (s : State) (who : Asker) (p : Pending) (op : AtomOp) (n : Nat) (ps : List Piece)
    (xs : List (Nat × Nat × Nat)) : State × Pending :=
  match ps.find? fun q => s.edgeDenied who q.key q.addr with
  | some q => (s.violate who.tenant q.addr, { p with got := xs.map (fun x => (x.1, 0, List.replicate n 0)) ++ p.got })
  | none => match ps.find? fun q => s.isBad q.addr q.len with
    | some q => (s, p.fail 8 q.off q.thread false)
    | none =>
      let r := atomRun op n (leNat (s.readPieces who ps)) xs
      (s.writePieces who ps (leBytes n r.2), { p with got := r.1.map (fun o => (o.1, 0, leBytes n o.2)) ++ p.got })

/-- Performs one access of a group: it takes its place in the pod order (R158). The pod order of the model is the order of its
steps, where R164 lets a load return an older value for up to 8,192 cycles: the model's choice (log 56). A store or an atomic
that has a region-lost outcome is never performed, where R181 allows either: the model's choice (log 55). -/
def performAccess (gid : Nat) (who : Asker) (s : State) (p : Pending) (a : Access) : State × Pending :=
  if (s.placesOf a).any s.addrLost then (s, p.lose a)
  else match a with
  | .load q =>
    if s.readsBad who q.key q.addr q.len then (s, (p.serve q).fail 8 q.off q.thread false)
    else (s.afterRead who q.key q.addr,
      { p.serve q with got := (q.thread, q.pos, s.readPiece who q.key q.addr q.len) :: p.got })
  | .store q bs => (s.writePiece who q.key q.addr bs, p)
  | .atomic op n ps xs => s.atomicAt who p op n ps xs
  | .hostFlush lines => (s.flushLines lines, p)
  | .hostInvalidate lines => ({ s with hostCopies := s.hostCopies.keep fun k _ => !lines.contains (k % 2 ^ 43 / 4) }, p)
  | .ctlStore a _ v => match ctlAt a with
    | some r => (s.ctlWrite gid (a / 2 ^ 24) r v, p)
    | none => (s, p)
  | .ctlLoad a n => match ctlAt a with
    | some r => (s.afterCtlRead (a / 2 ^ 24) r, { p with got := (0, 0, leBytes n (s.ctlRead (a / 2 ^ 24) r)) :: p.got })
    | none => (s, p)
  | .portQuery id d => (s, { p with writes := [scalarResult d (s.portAnswer who.tenant id)] })
  | .pavilion op => match s.pavStep who.tenant op with
    | (t, .inl next) => (t, { p with todo := .pavilion next :: p.todo })
    | (t, .inr ws) => (t, { p with writes := ws })

/-- The bytes read for a thread, in order; a lost thread's are zero. -/
def Pending.datum (p : Pending) (t n : Nat) : Nat :=
  if p.lostThreads.contains t then 0
  else p.got.foldl (fun acc g => if g.1 = t then acc + leNat g.2.2 * 256 ^ g.2.1 else acc) 0 % 256 ^ n

/-- A value of n bytes extended to w bits. -/
def extendTo (w n x : Nat) (signed : Bool) : BitVec w :=
  if signed then BitVec.ofInt w (signedOf n x) else BitVec.ofNat w x

/-- The register writes of a completed load or atomic (R85, R145, R188). -/
def Pending.results (p : Pending) : List RegWrite :=
  match p.dest with
  | .none => p.writes
  | .lane r n sg =>
    let threads := (List.range 64).filter fun t => p.lostThreads.contains t || p.got.any fun g => g.1 == t
    threads.flatMap fun t =>
      let x := p.datum t n
      if n < 4 then [.v r t (extendTo 32 n x sg)]
      else (List.range (n / 4)).map fun k => .v (r + k) t (BitVec.ofNat 32 (x / 2 ^ (32 * k)))
  | .scalar r n sg =>
    let x := p.datum 0 n
    if n = 16 then [.s r (BitVec.ofNat 64 x), .s (r + 1) (BitVec.ofNat 64 (x / 2 ^ 64))]
    else [.s r (extendTo 64 n x sg)]

/-- All accesses performed: what was read becomes register writes; uncorrectable data write nothing (R74). -/
def Pending.settle (p : Pending) : Pending :=
  match p.failed with
  | some (8, _) => { p with writes := [], dest := .none, got := [] }
  | _ => { p with writes := p.results, dest := .none, got := [] }

/-- An outstanding instruction after an access: with none left its results are formed. -/
def Pending.next (p : Pending) : Pending := if p.todo.isEmpty then p.settle else p

/-- A store whose last access is performed is done; one that delivers or awaits a reply stays outstanding. -/
def Pending.finished (p : Pending) : Bool := p.todo.isEmpty && !p.result && !p.atomic && p.remote.isNone

/-! What can take its place now (R137, R154, R155, R327, R344, R375). -/

/-- An Orangery bank's group refreshes now (R137): bank (x div 256) mod 1,536 belongs to group bank mod 64. -/
def orangeryBank (x : Nat) : Nat := x / 256 % 1536
def State.refreshPhase (s : State) : Nat := s.cycle % 8192
def State.refreshGroup (s : State) : Nat := s.refreshPhase / 128
def State.refreshing (s : State) (a : Nat) : Bool := isOrangery a && orangeryBank (orangeryOff a) % 64 == s.refreshGroup

/-- The index of a line in its die's slice map (R151). -/
def sliceIndex (y : Nat) : Nat := bits y 13 6 ^^^ bits y 21 14 ^^^ bits y 29 22 ^^^ bits y 35 30

/-- The slice a map gives an index; an unlisted entry is its index modulo 96 (log 3). -/
def mapSlice (m : Map Nat) (i : Nat) : Nat := m.getD i (i % 96)

/-- A core's copy of a die's slice map, with its generation (R151). -/
def State.mapCopy (s : State) (c d : Nat) : Nat × Map Nat := (s.core c).maps.getD d (0, [])

/-- Whether a request of a unit for a place, hashed under the map that it holds, meets a redirect stub (R155). -/
def State.meetsStub (s : State) (unit a : Nat) : Bool :=
  decide (unit < 2816) && decide (a < hbmSize)
    && (s.die (a / 2 ^ 36)).stubs.contains (mapSlice (s.mapCopy unit (a / 2 ^ 36)).2 (sliceIndex (a % 2 ^ 36)))

/-- Whether a pipe is homed in the L2 of a die of the module that is off (R223, R375). -/
def State.homeOff (s : State) (p : Pipe) : Bool :=
  p.homeKind == 0 && p.home / 16 == s.device && (s.die (p.home % 16)).off

/-- Whether a place's home serves requests: not a stack whose die or whose own rails are off, nor a stack, an Orangery or a host
port out of service, nor what a die that is off holds (R375, R381, R382, R386). While a stack retrains, its home slices refuse misses and serve hits (R384). -/
def State.serves (s : State) (a : Nat) : Bool :=
  if a < hbmSize then
    !s.stackDown (a / 2 ^ 36) && (!s.retrains (a / 2 ^ 36) || Config.holdsLine s.cycle (a / 64))
  else if isOrangery a then !s.orangeryFenced ((a - 2 ^ 41) / 2 ^ 30)
  else if isBelvedere a then !(s.die 16).off
  else if isSlot a then !(s.pipes.get? ((a - 2 ^ 52) / 2 ^ 24)).any s.homeOff
  else !(isHost a && s.hostPortOut)

/-- Whether a read of the issuing group's instruction has a region-lost outcome: its owner is lost, or the port that it was on died
(R325, R344). -/
def State.readLost (s : State) (a : Nat) : Bool := s.addrLost a || (isRemote a && s.me.reads.lost.contains (ownerOf a))

/-- Whether a read that an instruction makes as it issues, for a plan record or a descriptor, can be made now (R137, R327, R375).
It reaches an Orangery bank in the window in which the instruction first makes its reads; if the bank's group refreshes then, the
read is served when that window has closed (log 94). -/
def State.readable (s : State) (f : Flight) (a : Nat) : Bool :=
  s.readLost a || (s.answered f a && s.serves a && (!s.refreshing a || s.me.reads.since.any fun w => w != s.cycle / 128))

/-- Whether a piece of an engine can be served now; `read` if it reads. At a stub the engine takes the new map and hashes again,
within the step (R155). -/
def State.canMove (s : State) (f : Flight) (read : Bool) (a : Nat) : Bool :=
  s.answered f a && s.serves a && !(read && s.refreshing a)

/-- Whether a request of a unit for a place can be served now; `read` if it reads. -/
def State.canServe (s : State) (f : Flight) (unit : Nat) (read : Bool) (a : Nat) : Bool :=
  s.canMove f read a && !s.meetsStub unit a

/-- A core loads the present map of a die (R155). -/
def State.loadMap (s : State) (c d : Nat) : State :=
  let k := s.core c
  s.setCore c { k with maps := k.maps.put d ((s.die d).mapGen, (s.die d).sliceMap) }

/-- A unit's request for a place meets a redirect stub: the unit takes the present map (R155). -/
def State.redirect (s : State) (unit a : Nat) : State := if s.meetsStub unit a then s.loadMap unit (a / 2 ^ 36) else s

/-- The same of requests for n bytes, line by line. -/
def State.redirectRange (s : State) (unit a n : Nat) : State :=
  (splitRange 64 (n / 64 + 2) a n).foldl (fun st x => st.redirect unit x.1) s

def Access.reads : Access → Bool
  | .load _ => true
  | .atomic _ _ _ _ => true
  | _ => false

/-- Whether an access of a group can take its place now: the join unit of a die that is off answers nothing (R375). -/
def State.canPlace (s : State) (gid : Nat) (a : Access) : Bool :=
  (match a with
   | .portQuery id _ => !(s.die (bits id 22 19)).off
   | _ => true) && (s.placesOf a).all fun x => s.canServe (.access gid (x / 64)) (unitOf gid) a.reads x

/-- An access to host memory, and one of `hflush` or `hinval` (R149, R180). -/
def Access.isHostData : Access → Bool
  | .load q => isHost q.addr
  | .store q _ => isHost q.addr
  | _ => false
def Access.isHost : Access → Bool
  | .hostFlush _ => true
  | .hostInvalidate _ => true
  | _ => false

/-- The accesses a group has outstanding, oldest first, each with the places of its instruction and its own. -/
def Group.accesses (g : Group) : List (Nat × Nat × Access) :=
  g.out.zipIdx.flatMap fun p => p.1.todo.zipIdx.map fun a => (p.2, a.2, a.1)

/-- How many of a group's outstanding instructions come before the first that awaits another module's answer, a `pportq` (R261). -/
def Group.ahead (g : Group) : Nat := (g.out.findIdx? fun p => p.remote.isSome).getD g.out.length

/-- The next access of a group in its program order (R159). Those to host memory hold no place in it, but `hflush` and
`hinval` wait for the earlier ones (R149, R180). -/
def Group.nextAccess (g : Group) : Option (Nat × Nat × Access) :=
  match g.accesses.dropWhile fun x => x.2.2.isHostData with
  | [] => none
  | x :: _ => if g.ahead ≤ x.1 then none else if x.2.2.isHost && g.accesses.any (fun y => y.2.2.isHostData && decide (y.1 ≤ x.1)) then none else some x

/-- The host line of an access. -/
def Access.hostLine : Access → Nat
  | .load q => q.addr / 64
  | .store q _ => q.addr / 64
  | _ => 0

/-- Access n of a group's accesses to host memory: none before it may be an `hflush` or `hinval`, or to its line (R149,
R180; log 8). -/
def Group.hostAccess (g : Group) (n : Nat) : Option (Nat × Nat × Access) :=
  let l := (g.accesses.takeWhile fun x => !x.2.2.isHost).filter fun x => x.2.2.isHostData
  match l[n]? with
  | none => none
  | some x => if (l.take n).any fun y => y.2.2.hostLine == x.2.2.hostLine then none else some x

/-- A late entry takes its place in issue order; those beyond the first 32 are counted (R74, R353). -/
def Group.addLate (g : Group) (e : LateEntry) : Group :=
  let l := g.late.takeWhile (fun x => decide (x.no < e.no)) ++ e :: g.late.dropWhile fun x => decide (x.no < e.no)
  { g with late := l.take 32, lateExtra := min 255 (g.lateExtra + (l.length - 32)) }

/-- A late fault is reported to the group (R74). -/
def Group.report (g : Group) (p : Pending) : Group :=
  match p.failed with
  | none => g
  | some (k, u) => g.addLate { pc := p.pc, kind := k, unknown := u, rep := p.rep, no := p.no, off := p.failOff, seg := p.seg
                               words := p.words, thread := if p.lanes then some p.failThread else none }

/-- The responses to an access's requests arrive, in the state `u` in which it has been performed. -/
def State.landAccess (s : State) (gid : Nat) (a : Access) (u : State) : State :=
  (s.placesOf a).foldl (fun st x => st.land (.access gid (x / 64)) x) u

/-- Access k of a group's outstanding instruction i takes its place; an instruction that is done with it goes, its late
fault reported. -/
def State.performAt (s : State) (gid : Nat) (x : Nat × Nat × Access) : State :=
  match (s.group gid).out[x.1]? with
  | none => s
  | some p =>
    let r := performAccess gid (s.askerAt gid) s { p with todo := dropAt p.todo x.2.1 } x.2.2
    let s1 := if r.2.shares x.2.2 then r.1 else s.landAccess gid x.2.2 r.1
    let q := r.2.next
    let g := s1.group gid
    s1.setGroup gid (if q.finished then { g with out := dropAt g.out x.1 }.report q else { g with out := setAt g.out x.1 fun _ => q })

/-- The next access of a group in program order takes its place, if `ok` holds of it, or else the first to host memory. A
request that a slice refused waits for its hint (R154). -/
def State.tryPerform (s : State) (gid : Nat) (ok : Access → Bool) : Option State :=
  let g := s.group gid
  let may (x : Nat × Nat × Access) : Bool := ok x.2.2 && s.canPlace gid x.2.2
  match (if g.retryAt.isSome then none else g.nextAccess.filter may) <|> (g.hostAccess 0).filter may with
  | none => none
  | some x => some (s.performAt gid x)

/-- Performs every access an outstanding instruction still has. -/
def performPending (gid : Nat) (who : Asker) (s : State) (p : Pending) : State × Pending :=
  let r := p.todo.foldl (fun x a =>
    let y := performAccess gid who x.1 x.2 a
    (x.1.landAccess gid a y.1, y.2)) (s, { p with todo := [] })
  (r.1, if p.todo.isEmpty then r.2 else r.2.next)

/-- Performs, in program order, every access a group has issued (R159). -/
def State.performAll (s : State) (gid : Nat) : State :=
  let g := s.group gid
  let r := g.out.foldl (fun x p => let y := performPending gid (s.askerAt gid) x.1 p; (y.1, x.2 ++ [y.2])) (s, [])
  r.1.setGroup gid { r.1.group gid with out := r.2 }

/-- Whether every access a group has issued can take its place at once: none is refused, held up or on its way, or a `pportq` of
another module, at most one is for another owner, and none may go to several. -/
def State.canSettle (s : State) (gid : Nat) : Bool :=
  let l := (s.group gid).accesses.map fun x => x.2.2
  ((s.group gid).out.all fun p => p.remote.isNone) && (l.isEmpty || ((s.group gid).retryAt.isNone && l.all (s.canPlace gid)
    && decide ((l.filter fun a => (s.placesOf a).any isRemote).length ≤ 1)
    && l.all fun a => match a with | .pavilion (.alloc _ ws _ _) => decide (ws.length ≤ 1) | _ => true))

/-- Whether a group awaits an answer that a trap must have first: of a send to another module, or of a `pportq` there (R260,
R353). -/
def Group.awaits (g : Group) : Bool :=
  (match g.wait with
   | some (.remote _ _) => true
   | _ => false) || g.out.any fun p => p.remote.isSome

/-- Whether a group can be drained at once (R353). -/
def State.canDrain (s : State) (gid : Nat) : Bool := s.canSettle gid && !(s.group gid).awaits

/-- A register write takes effect (R70). -/
def Group.deliver (g : Group) (w : RegWrite) : Group :=
  match w with
  | .v r t x => g.setVT r t x
  | .s r x => g.setS r x

/-- An outstanding instruction completes: its results are written, its flags raised, its late fault reported. -/
def Group.complete (g : Group) (p : Pending) : Group :=
  let h := p.writes.foldl Group.deliver g
  { h with ff := h.ff.join p.ff }.report p

/-- Steps 1 to 3 of trap entry: every access performed, every result written (R178, R353); a parked group is released (R68). -/
def State.drainGroup (s : State) (gid : Nat) : State :=
  let s1 := s.performAll gid
  let g := s1.group gid
  s1.setGroup gid (g.out.foldl Group.complete { g with out := [], parked := false })

/-- Whether a variable-latency result is outstanding (R67, R68). -/
def Group.resultsOut (g : Group) : Bool := g.out.any Pending.result

def Group.outstanding (g : Group) : Nat := (g.out.filter Pending.result).length

end Sys2Proof.Machine
end

