-- ==== Sys2Proof/Machine/Trap.lean ====
section
/-!
DEFINITION. Instruction fetch, what an instruction's body answers, retiring, and taking a trap: one operation for every
fault (R349 to R356, R369).
-/

namespace Sys2Proof.Machine

/-- The place of the word at an address that a group fetches, and its key id; or the fault's kind (R52, R349, R365). -/
def State.fetchPlace (s : State) (gid pc : Nat) : Except Nat (Nat × Nat) :=
  match (s.group gid).mode with
  | .control =>
    if pc < 2 ^ 18 then .ok (sramAddr (dieOfGid gid) pc, 0)
    else if pc < 2 ^ 18 + 2 ^ 15 ∧ gid = cpGid 16 then .ok (romAddr (pc - 2 ^ 18), 0)
    else .error 5
  | _ =>
    match s.leafFor (s.askerAt gid) false pc with
    | .error k => .error k
    | .ok e => match s.leafDenies { x := true } e with
      | some k => .error k
      | none => .ok (s.place e pc, leafKey e)

/-- Fetches the word at an address for a group (R31, R52, R349, R365). -/
def State.fetchWord (s : State) (gid pc : Nat) : Except TrapInfo Word :=
  let bad (k : Nat) : TrapInfo := { kind := k, fetch := true, offset := pc }
  match s.fetchPlace gid pc with
  | .error k => .error (bad k)
  | .ok (a, key) =>
    if s.readsBad (s.askerAt gid) key a 4 then .error (bad 8)
    else .ok (BitVec.ofNat 32 (leNat (s.readPiece (s.askerAt gid) key a 4)))

/-- What a fetch leaves: a unit that met a redirect stub has the present map (R155), and a switch that refuses it counts a
violation (R335). -/
def State.afterFetch (s : State) (gid pc : Nat) : State :=
  match s.fetchPlace gid pc with
  | .error _ => s
  | .ok (a, key) => (s.redirect (unitOf gid) a).afterRead (s.askerAt gid) key a

/-- Whether a fetch of the word at an address can be served now (R375, R384; log 73). -/
def State.fetchReady (s : State) (gid pc : Nat) : Bool :=
  match s.fetchPlace gid pc with
  | .error _ => true
  | .ok x => s.serves x.1

/-- The word at an address, or zero where it cannot be fetched: what WORDS of a trap record holds (R352). -/
def State.wordAt (s : State) (gid pc : Nat) : Nat :=
  match s.fetchWord gid pc with
  | .ok w => w.toNat
  | .error _ => 0

/-- Whether a word is one of the two prefixes (R42, R48). -/
def isPrefixWord (w : Nat) : Bool := bits w 31 24 == 0x96 || bits w 31 24 == 0x97

/-- The words of the instruction that a group is issuing, as they were fetched: a prefix in the upper half, the instruction in
the lower; 0 before they are. -/
def Group.words (g : Group) : Nat :=
  match g.word, g.target with
  | some w, some x => w.toNat * 2 ^ 32 + x.toNat
  | some w, none => if isPrefixWord w.toNat then w.toNat * 2 ^ 32 else w.toNat
  | none, _ => 0

/-- WORDS of a trap record (R352): those that the group holds of its instruction; where they are not fetched, those at its
address. A record of a fault on a fetch holds only what had been fetched before. -/
def State.recordWords (s : State) (gid pc : Nat) (g : Group) : Nat :=
  let w := (g.word.map BitVec.toNat).getD (s.wordAt gid pc)
  if isPrefixWord w then w * 2 ^ 32 + (g.target.map BitVec.toNat).getD (s.wordAt gid (pc + 4)) else w

/-- Writes bytes of a trap frame or a control processor's record: ordered stores under key id 0 (R350). -/
def State.writeFrame (s : State) (a n x : Nat) : State := s.writeTagged a (leBytes n x) (s.tagAt a 0)

/-- STATUS of a trap record (R352). -/
def statusWord (t : TrapInfo) (sup : Bool) (repcnt nlate lextra : Nat) : Nat :=
  t.kind % 256 + natOf t.late * 2 ^ 8 + natOf t.fetch * 2 ^ 9 + natOf sup * 2 ^ 10
    + (t.seg.getD 0 % 8) * 2 ^ 12 + natOf t.seg.isSome * 2 ^ 15
    + (t.thread.getD 0 % 128) * 2 ^ 16 + natOf t.thread.isSome * 2 ^ 23
    + (repcnt % 128) * 2 ^ 24 + (t.wait % 4) * 2 ^ 32 + (nlate % 64) * 2 ^ 34 + (lextra % 256) * 2 ^ 40

/-- INFO of a trap record (R352). -/
def infoWord (t : TrapInfo) : Nat :=
  t.src % 8 + (t.token % 8) * 2 ^ 8 + (t.queue % 4) * 2 ^ 11 + (t.tile % 8) * 2 ^ 13 + (t.pos % 8) * 2 ^ 16
    + (t.value % 2 ^ 32) * 2 ^ 32

/-- What a trap record is of: the cause, the address and the words of its instruction. -/
structure Cause where
  info : TrapInfo
  fpc : Nat
  words : Nat
  deriving DecidableEq, Repr

/-- The 64-byte trap record as eight doublewords (R352); `nlate` late entries are written with it. -/
def State.recordOf (s : State) (c : Cause) (resume : Nat) (sup : Bool) (nlate : Nat) (g : Group) : List Nat :=
  let t := c.info
  [resume % 2 ^ 56, c.fpc % 2 ^ 56, statusWord t sup g.repcnt nlate g.lateExtra, t.offset % 2 ^ 64,
   (if t.fetch then c.words / 2 ^ 32 * 2 ^ 32 else c.words), infoWord t,
   t.dstRec % 2 ^ 32 + t.srcRec % 2 ^ 32 * 2 ^ 32, s.cycle % 2 ^ 64]

/-- Writes doublewords from an address up. -/
def State.writeDwords (s : State) (a : Nat) : List Nat → State
  | [] => s
  | x :: t => (s.writeFrame a 8 x).writeDwords (a + 8) t

/-- A late entry's two doublewords (R352). -/
def LateEntry.dwords (e : LateEntry) : List Nat :=
  [e.pc % 2 ^ 56, e.kind % 256 + natOf e.unknown * 2 ^ 8 + (e.rep % 64) * 2 ^ 16]

/-- The record's cause: an early cause, or the first late fault in issue order (R353 step 3; log 54). -/
def State.causeOf (s : State) (gid : Nat) (g : Group) (early : Option TrapInfo) : Cause :=
  match early, g.late with
  | some t, _ => ⟨t, g.pc, if t.fetch then g.words else s.recordWords gid g.pc g⟩
  | none, e :: _ => ⟨{ kind := e.kind, late := true, offset := e.off, seg := e.seg, thread := e.thread }, e.pc, e.words⟩
  | none, [] => ⟨{ kind := 17 }, g.pc, s.recordWords gid g.pc g⟩

/-- A group that has stopped issuing for a trap: nothing of the instruction it was at, nor of its wait, is left. -/
def Group.stopped (g : Group) : Group :=
  { g with late := [], lateExtra := 0, wait := none, parked := false, word := none, target := none, reads := {}, due := none }

/-- A fault on a control processor (R369): drain, record at SRAM 0x3_FFC0, fault state, continue at 0x0_0040; in the
fault state, halt. -/
def State.cpTrap (s : State) (gid : Nat) (early : Option TrapInfo) : State :=
  let s1 := s.drainGroup gid
  let g := s1.group gid
  if g.stepArmed then s1.setGroup gid { g.stopped with halted := true }
  else
    let c := s1.causeOf gid g early
    let s2 := s1.writeDwords (sramAddr (dieOfGid gid) 0x3FFC0) (s1.recordOf c (c.info.resume.getD g.pc) true 0 g)
    s2.setGroup gid { g.stopped with stepArmed := true, pc := 0x40, repcnt := 0 }

/-- What a trap record says of the wait that a trap interrupts (R197, R260, R352): WAIT and VALUE. -/
def waitWords (w : Option Wait) : Nat × Nat :=
  match w with
  | some (.barrier _ p true _ _) => (1, p)
  | some (.woken _ _ _ (some p)) => (1, p)
  | some (.ticket n _) => (2, n)
  | some (.remoteTicket _ n _) => (2, n)
  | _ => (0, 0)

/-- A cause with the interrupted wait's words. -/
def TrapInfo.within (t : TrapInfo) (w : Option Wait) : TrapInfo :=
  let x := waitWords w
  if x.1 = 0 then t else { t with wait := x.1, value := x.2, src := 5 }

/-- Trap entry (R353), and the double fault (R355), once the group can be drained. `early` is the cause unless only late
faults are. The stores to the frame meet the redirect stubs of its die as others do (R155, R350). -/
def State.enterTrap (s : State) (gid : Nat) (early : Option TrapInfo) : State :=
  if (s.group gid).mode = .control then s.cpTrap gid early
  else
    let s1 := s.drainGroup gid
    let g := s1.group gid
    let c0 := s1.causeOf gid g early
    let c := { c0 with info := c0.info.within g.wait }
    let resume := c.info.resume.getD g.pc
    let sup := decide (g.mode = .supervisor)
    let en := s1.trapBase.getLsbD 0
    let vec := bits s1.trapVec.toNat 55 2 * 4
    let fr := s1.frameAddr gid
    let dbl := sup || !en || vec == 0
    let late := g.late.take 32
    let s0 := if en then s1.redirectRange (unitOf gid) fr (if dbl then 64 else 96 + 16 * late.length) else s1
    let s2 := if en then s0.writeDwords fr (s0.recordOf c resume (sup || dbl) (if dbl then 0 else late.length) g) else s1
    if dbl then
      let d := s2.die (dieOfGid gid)
      (s2.setGroup gid { g.stopped with halted := true, stepDue := false, stepArmed := false, stepSince := 0 }).setDie (dieOfGid gid)
        { d with doubleFaults := d.doubleFaults ++ [gid],
                 haltq := d.haltq ++ [2 ^ 63 + c.info.kind * 2 ^ 21 + clusterOfCore (coreOfGid gid) % 22 * 2 ^ 16
                   + coreOfGid gid % 8 * 2 ^ 13 + slotOfGid gid * 2 ^ 8] }
    else
      let s3 := s2.writeDwords (fr + 64) ((List.range 4).map fun r => (g.getS r).toNat)
      let s4 := s3.writeDwords (fr + 96) (late.flatMap LateEntry.dwords)
      let g1 := (((g.setS 0 0).setS 1 (BitVec.ofNat 64 c.info.kind)).setS 2 (BitVec.ofNat 64 resume)).setS 3 (BitVec.ofNat 64 c.info.offset)
      s4.setGroup gid
        { g1.stopped with mode := .supervisor, pc := vec, repcnt := 0, stepDue := false, stepArmed := false, stepSince := 0 }

/-- Whether the task of a group is being ended without `exit` (R354). -/
def State.groupEnds (s : State) (gid : Nat) : Bool := (s.task? (s.group gid).task).any fun t => t.ending.isSome

/-- Whether the memory that a group's trap frame lies in is served now: 608 bytes from its start (R351, R375, R384; log 73). -/
def State.frameServed (s : State) (gid : Nat) : Bool :=
  isCp gid || (List.range 10).all fun i => s.serves (s.frameAddr gid + 64 * i)

/-- Whether a group can take a trap now: it can be drained, and what EN asks for can be written in its frame (R353, R355). -/
def State.canEnter (s : State) (gid : Nat) : Bool := s.canDrain gid && (!s.trapBase.getLsbD 0 || s.frameServed gid)

/-- A group takes a trap: at once, or, while an access or a result of it cannot be brought in or its frame not be written,
once it can; the group stops issuing meanwhile (R353, R354). One whose task is being ended writes no frame. -/
def State.takeTrap (s : State) (gid : Nat) (early : Option TrapInfo) : State :=
  if s.groupEnds gid then s.setGroup gid (s.group gid).stopped
  else if s.canEnter gid then s.enterTrap gid early else s.setGroup gid { s.group gid with due := early <|> (s.group gid).due }

/-- What an instruction's body answers: done, with the next instruction or a jump; a fault; blocked; or the group gone. -/
inductive Eff where
  | ok (s : State)
  | goto (s : State) (pc : Nat)
  | fault (s : State) (t : TrapInfo)
  | wait (s : State) (w : Wait)
  | gone (s : State)
  /-- a return from a trap (R354): to an address, into a wait or not, with the marker of the instruction that waits -/
  | resume (s : State) (pc : Nat) (w : Option Wait) (mark : Bool)

/-- What the meaning of an instruction answers. -/
abbrev Out := Host.Outcome State Fault Refusal

/-- The effect of an instruction at the group State.cur names. -/
abbrev Body := State → Eff

/-- The illegal-instruction fault (R349). -/
def illegal (s : State) : Eff := .fault s { kind := 1 }
def privilege (s : State) : Eff := .fault s { kind := 2 }

/-- The instruction has issued completely: PC, INSTRET, the marker and a due debug step (R62, R68, R348, R356). -/
def State.retire (s : State) (m : Bool) (pc : Nat) : State :=
  let g := s.me
  s.setMe { g with pc := wrap64 pc, instret := wrap64 (g.instret + 1), parked := m && g.resultsOut, wait := none,
                   word := none, target := none, reads := {},
                   stepDue := g.stepArmed && decide (g.mode ≠ .control), stepSince := 0 }

/-- The state after an instruction with marker m whose body answered `e`. -/
def applyEff (m : Bool) (e : Eff) : State :=
  match e with
  | .ok s => s.retire m (s.me.pc + 4)
  | .goto s pc => s.retire m pc
  | .fault s t => s.takeTrap s.cur (some t)
  | .wait s w => s.setMe { s.me with wait := some w, waitMark := m,
                                     stepSince := if s.me.stepSince = 0 then s.cycle + 1 else s.me.stepSince }
  | .gone s => s
  | .resume s pc w mark =>
    let t := s.retire m pc
    t.setMe { t.me with wait := w, waitMark := mark, stepDue := false, stepArmed := t.me.step
                        stepSince := if t.me.step && w.isSome then s.cycle + 1 else 0 }

/-- The meaning of an instruction word: its body, issued by the group State.cur names. -/
def issue (m : Bool) (b : Body) (s : State) : Out :=
  if s.groups.has s.cur then .next (applyEff m (b s)) else .fault .noIssuingGroup

/-! Building blocks of bodies. -/

/-- A lane-set instruction: illegal on a control processor (R30), and when it names a vector register at or above the
role budget (R21). -/
def laneBody (regs : List Nat) (f : Group → Group) : Body := fun s =>
  let g := s.me
  if g.mode = .control ∨ regs.any (fun r => decide (g.budget ≤ r)) then illegal s else .ok (s.setMe (f g))

/-- A group-set instruction that only changes the group. -/
def groupBody (f : Group → Group) : Body := fun s => .ok (s.setMe (f s.me))

/-- A group with an instruction added to those whose accesses or results are outstanding, in issue order. -/
def Group.add (g : Group) (p : Pending) : Group :=
  { g with out := g.out ++ [{ p with pc := g.pc, words := g.words, no := g.issueNo }], issueNo := g.issueNo + 1 }

/-- Issues an instruction whose accesses or results stay outstanding. A variable-latency one that would exceed 32 blocks
the group (R71). -/
def State.push (s : State) (p : Pending) : Eff :=
  let g := s.me
  if p.result && decide (32 ≤ g.outstanding) then .wait s .outstanding else .ok (s.setMe (g.add p))

/-- A variable-latency result known at issue. -/
def State.pushResult (s : State) (ws : List RegWrite) (ff : FF := {}) : Eff :=
  s.push { pc := 0, writes := ws, ff := ff, result := true }

/-- A variable-latency result of a lane instruction: one write for each active thread. -/
def laneResult (regs : List Nat) (f : Group → List RegWrite × FF) : Body := fun s =>
  let g := s.me
  if g.mode = .control ∨ regs.any (fun r => decide (g.budget ≤ r)) then illegal s
  else s.pushResult (f g).1 (f g).2

/-- Before an effect that ends in a variable-latency result: the group blocks while 32 are outstanding (R71). -/
def withResult (b : Body) : Body := fun s => if 32 ≤ s.me.outstanding then .wait s .outstanding else b s

/-- An operation on the group a number names, as if it issued. -/
def State.asGroup (s : State) (gid : Nat) (f : State → State) : State := { f { s with cur := gid } with cur := s.cur }

/-- A repetition has issued and another follows: the group stays at the prefix, whose words are not fetched again (R62,
R87). -/
def State.again (s : State) : State :=
  let t := s.retire false s.me.pc
  t.setMe { t.me with word := s.me.word, target := s.me.target }

/-- A blocked instruction completes: its group goes on behind it (R62); under a prefix, behind the pair, or at the next
repetition (R86). -/
def State.finishWait (s : State) (gid : Nat) : State := s.asGroup gid fun u =>
  let g := u.me
  if 1 < g.repcnt then (u.setMe { g with repcnt := g.repcnt - 1 }).again
  else (u.setMe { g with repcnt := 0 }).retire g.waitMark (g.pc + if g.target.isSome then 8 else 4)

/-- A blocked group becomes eligible and tests its condition again when it issues. -/
def State.unblock (s : State) (gid : Nat) : State := s.setGroup gid { s.group gid with wait := none }

/-- The active threads in ascending order. -/
def Group.actives (g : Group) : List Nat := (List.range 64).filter g.active

/-- Only in the modes that may run it (R51): supervisor instructions. -/
def supervisorOnly (b : Body) : Body := fun s => if s.me.mode = .user then privilege s else b s

/-- Not on a control processor (R30). -/
def coreOnly (b : Body) : Body := fun s => if s.me.mode = .control then illegal s else b s

/-- First performs what the group has issued, so that the instruction takes its place after it (R159); the group waits while
that cannot be done. -/
def ordered (b : Body) : Body := fun s => if s.canSettle s.cur then b (s.performAll s.cur) else .wait s .places

end Sys2Proof.Machine
end

