-- ==== Sys2Proof/Machine/Operands.lean ====
section
/-!
DEFINITION. The operand forms: immediates and the literals of `limm` (R35, R39, R45), register groups, and a load,
store or atomic of the lane and the group set (R85, R145, R146, R190).
-/

namespace Sys2Proof.Machine

/-- The 34-bit literal of `limm` before an imm10 target, as a signed number (R45). -/
def literal10 (p : BitVec 24) (i : BitVec 10) : Int := (p ++ i).toInt

/-- The 28-bit literal of `limm` before an imm4 target, as a signed number (R45). -/
def literal4 (p : BitVec 24) (i : BitVec 4) : Int := (p ++ i).toInt

/-- A branch target: words from the branch's own address (R39). -/
def branchTo {w : Nat} (pc : Nat) (o : BitVec w) : Nat := (((pc : Int) + 4 * o.toInt) % (2 ^ 64 : Nat)).toNat

/-- How many vector registers a datum of n bytes takes (R35). -/
def vregs (n : Nat) : Nat := if n ≤ 4 then 1 else n / 4

/-- The vector registers of a datum of n bytes from r (R35). -/
def vgroup (r n : Nat) : List Nat := (List.range (vregs n)).map fun k => r + k

/-- Pairs start at even registers and quads at multiples of four (R35, R146). -/
def valigned (r n : Nat) : Bool := r % vregs n == 0

/-- A 16-byte scalar datum takes an even register and the next one (R85). -/
def saligned (r n : Nat) : Bool := n != 16 || (r % 2 == 0 && decide (r < 127))

/-- The datum of n bytes that a thread's registers from r hold. -/
def Group.laneDatum (g : Group) (r t n : Nat) : List Byte :=
  (vgroup r n).flatMap (fun q => leBytes 4 (g.getV q t).toNat) |>.take n

/-- The datum of n bytes that scalar registers from r hold. -/
def Group.scalarDatum (g : Group) (r n : Nat) : List Byte :=
  (leBytes 8 (g.getS r).toNat ++ leBytes 8 (g.getS (r + 1)).toNat).take n

/-- The pieces of every thread's access, or the first fault in thread order (R146, R159). -/
def collect {α : Type} (f : α → Except TrapInfo (List Access)) : List α → Except TrapInfo (List Access)
  | [] => .ok []
  | x :: rest => match f x with
    | .error e => .error e
    | .ok a => match collect f rest with
      | .error e => .error e
      | .ok b => .ok (a ++ b)

/-- The offset of a thread's access: Zext(V(va, t), 32) + e × n, exact (R145). -/
def Group.laneOffset (g : Group) (va t n : Nat) (e : Int) : Int := ((g.getV va t).toNat : Int) + e * n

/-- The offset of a scalar access: (S(sa) + e × n) mod 2^64 (R85). -/
def Group.scalarOffset (g : Group) (sa n : Nat) (e : Int) : Int := (((g.getS sa).toNat : Int) + e * n) % (2 ^ 64 : Nat)

/-- The stores of a datum's pieces. -/
def storesOf (bs : List Byte) (ps : List Piece) : List Access :=
  ps.map fun p => .store p ((bs.drop p.pos).take p.len)

/-- Whether a segment is a control processor's control space, whose registers are read and written whole (R366, R370). -/
def isCtlSpace (space : Nat) : Bool := space == 10 || space == 11

/-- The control-space address of an offset: die × 2^24 + offset (R366, R370). -/
def ctlAddr (gid space a : Nat) : Nat := if space = 10 then dieOfGid gid * 2 ^ 24 + a else a

/-- `vld`, `vlds` (R145, R146): n bytes for each active thread, e the signed displacement in units of n. -/
def laneLoad (n : Nat) (signed : Bool) (d a seg : Nat) (e : Int) : Body := coreOnly fun s =>
  let g := s.me
  if !valigned d n || (a :: vgroup d n).any (fun r => decide (g.budget ≤ r)) then illegal s
  else
    let sg := g.seg s.cur seg
    match collect (fun t => (s.checkAccess s.cur (s.asker g) seg sg { r := true } (some t) (g.laneOffset a t n e) n).map
        fun ps => ps.map .load) g.actives with
    | .error x => .fault s x
    | .ok acc => s.push { pc := 0, seg := some seg, lanes := true, todo := acc, dest := .lane d n signed, result := true }

/-- `vst` (R145, R146). -/
def laneStore (n : Nat) (d a seg : Nat) (e : Int) : Body := coreOnly fun s =>
  let g := s.me
  if !valigned d n || (a :: vgroup d n).any (fun r => decide (g.budget ≤ r)) then illegal s
  else
    let sg := g.seg s.cur seg
    match collect (fun t => (s.checkAccess s.cur (s.asker g) seg sg { w := true } (some t) (g.laneOffset a t n e) n).map
        fun ps => storesOf (g.laneDatum d t n) ps) g.actives with
    | .error x => .fault s x
    | .ok acc => s.push { pc := 0, seg := some seg, lanes := true, todo := acc }

/-- A scalar access to control space (R367, R368, R370): only 8 bytes, aligned, at a register the die has; a store of a
value that its register takes, to a window whose processor is stopped. -/
def State.checkCtl (s : State) (seg : Nat) (sg : Segment) (need : Need) (off : Int) (n : Nat) (store : Option Nat) :
    Except TrapInfo CtlReg :=
  let at' (kind : Nat) : TrapInfo := { kind := kind, seg := some seg, offset := off.toNat }
  if n ≠ 8 ∨ off % 8 ≠ 0 then .error { kind := 1 }
  else match s.checkAccess s.cur {} seg sg need none off n with
    | .error x => .error x
    | .ok _ => match ctlAt (ctlAddr s.cur sg.space off.toNat) with
      | none => .error (at' 4)
      | some r => match store with
        | none => .ok r
        | some v =>
          if r.badValue v then .error { kind := 1 }
          else match r with
            | .sram _ => if s.cpRuns (ctlAddr s.cur sg.space off.toNat / 2 ^ 24) then .error { kind := 1 } else .ok r
            | _ => .ok r

/-- `sld` from control space. -/
def ctlLoadAt (n d seg : Nat) (sg : Segment) (off : Int) : Body := ordered fun s =>
  match s.checkCtl seg sg { r := true } off n none with
  | .error x => .fault s x
  | .ok _ => s.push { pc := 0, seg := some seg, dest := .scalar d n false, result := true, todo := [.ctlLoad (ctlAddr s.cur sg.space off.toNat) n] }

/-- `sst` to control space; a store to the flash window blocks the writer (R370). -/
def ctlStoreAt (n v seg : Nat) (sg : Segment) (off : Int) : Body := ordered fun s =>
  match s.checkCtl seg sg { w := true } off n (some v) with
  | .error x => .fault s x
  | .ok r =>
    let p : Pending := { pc := 0, seg := some seg, todo := [.ctlStore (ctlAddr s.cur sg.space off.toNat) n v] }
    match r with
    | .flash _ => .wait (s.setMe (s.me.add p)) .flash
    | _ => s.push p

/-- `sld`, `slds` (R85). -/
def scalarLoad (n : Nat) (signed : Bool) (d a seg : Nat) (e : Int) : Body := fun s =>
  let g := s.me
  if !saligned d n then illegal s
  else
    let sg := g.seg s.cur seg
    let off := g.scalarOffset a n e
    if isCtlSpace sg.space then ctlLoadAt n d seg sg off s
    else match s.checkAccess s.cur (s.asker g) seg sg { r := true } none off n with
      | .error x => .fault s x
      | .ok ps => s.push { pc := 0, seg := some seg, dest := .scalar d n signed, result := true, todo := ps.map .load }

/-- `sst` (R85). -/
def scalarStore (n : Nat) (d a seg : Nat) (e : Int) : Body := fun s =>
  let g := s.me
  if !saligned d n then illegal s
  else
    let sg := g.seg s.cur seg
    let off := g.scalarOffset a n e
    if isCtlSpace sg.space then ctlStoreAt n (leNat (g.scalarDatum d n)) seg sg off s
    else match s.checkAccess s.cur (s.asker g) seg sg { w := true } none off n with
      | .error x => .fault s x
      | .ok ps => s.push { pc := 0, seg := some seg, todo := storesOf (g.scalarDatum d n) ps }

end Sys2Proof.Machine
end

