-- ==== Sys2Proof/Machine/Atomics.lean ====
section
/-!
DEFINITION. Atomics and reductions of the lane and the group set (R184 to R193).
-/

namespace Sys2Proof.Machine

/-- The registers an atomic of n bytes names from r: twice as many for `cas` (R188). -/
def atomRegs (op : AtomOp) (r n : Nat) : List Nat := vgroup r (if op = .cas then 2 * n else n)

/-- The register rule of the lane forms (R188). -/
def atomAligned (op : AtomOp) (r n : Nat) : Bool :=
  if n = 8 then r % (if op = .cas then 4 else 2) == 0 else op != .cas || decide (r ≤ 126)

/-- A thread's number in the registers from r: `vregs n` of them. -/
def Group.laneNum (g : Group) (r t n : Nat) : Nat := leNat (g.laneDatum r t n)

/-- Thread t's operands x (c for `cas`) and y (R188). -/
def Group.atomOperands (g : Group) (r t n : Nat) : Nat × Nat := (g.laneNum r t n, g.laneNum (r + vregs n) t n)

/-- The checks of R191 on one access: alignment, then those of R146, then aperture and permit. -/
def State.checkAtomic (s : State) (seg : Nat) (sg : Segment) (ret : Bool) (thread : Option Nat) (off n : Nat) :
    Except TrapInfo (List Piece) :=
  if off % n ≠ 0 then .error { kind := 1, thread := thread, seg := some seg, offset := off }
  else s.checkAccess s.cur (s.asker s.me) seg sg { r := ret, w := true, atomic := true } thread off n

/-- Adds one thread's operation to the request for its address, or starts a request (R184). -/
def addRequest (op : AtomOp) (n key : Nat) (ps : List Piece) (x : Nat × Nat × Nat) :
    List (Nat × Access) → List (Nat × Access)
  | [] => [(key, .atomic op n ps [x])]
  | (k, .atomic o l qs xs) :: rest =>
    if k = key then (k, .atomic o l qs (xs ++ [x])) :: rest else (k, .atomic o l qs xs) :: addRequest op n key ps x rest
  | e :: rest => e :: addRequest op n key ps x rest

/-- The requests of a lane atomic: one for each distinct target, in the order of its lowest thread (R184, R190). -/
def State.requests (s : State) (op : AtomOp) (ret : Bool) (n d a seg : Nat) (sg : Segment) :
    List Nat → List (Nat × Access) → Except TrapInfo (List (Nat × Access))
  | [], acc => .ok acc
  | t :: rest, acc =>
    let off := (s.me.getV a t).toNat
    match s.checkAtomic seg sg ret (some t) off n with
    | .error x => .error x
    | .ok ps => s.requests op ret n d a seg sg rest
        (addRequest op n (s.target s.cur sg t off) ps (t, s.me.atomOperands d t n) acc)

/-- `vatom` and `vred` (R190). One row of R193 makes size 3 in a private segment illegal, another says that nothing faults when
all threads are inactive: the model raises the illegal instruction whatever the mask holds, which is its choice (log 57). -/
def laneAtomic (op : AtomOp) (ret : Bool) (n d a seg : Nat) : Body := coreOnly fun s =>
  let g := s.me
  let sg := g.seg s.cur seg
  if !atomAligned op d n || (a :: atomRegs op d n).any (fun r => decide (g.budget ≤ r)) then illegal s
  else if sg.space = 0 ∧ n = 8 then illegal s
  else match s.requests op ret n d a seg sg g.actives [] with
    | .error x => .fault s x
    | .ok rs => s.push { pc := 0, seg := some seg, lanes := true, todo := rs.map Prod.snd, result := ret, atomic := true, dest := if ret then .lane d n false else .none }

/-- Whether the old value of a 32-bit scalar form is sign-extended: ops 2 and 3 (R188). -/
def AtomOp.signed (op : AtomOp) : Bool := op == .minS || op == .maxS

/-- `satom`: made once, whatever the mask holds (R190). -/
def scalarAtomic (op : AtomOp) (n d a seg : Nat) : Body := fun s =>
  let g := s.me
  let sg := g.seg s.cur seg
  let off := (g.getS a).toNat
  if op = .cas ∧ 126 < d then illegal s
  else if (sg.space = 0 ∧ n = 8) ∨ isCtlSpace sg.space then illegal s
  else match s.checkAtomic seg sg true none off n with
    | .error x => .fault s x
    | .ok ps =>
      let x := (g.getS d).toNat % 256 ^ n
      let y := (g.getS (d + 1)).toNat % 256 ^ n
      s.push { pc := 0, seg := some seg, todo := [.atomic op n ps [(0, x, y)]], result := true, atomic := true,
               dest := .scalar d n op.signed }

/-- `vatom.add`: R188, R190. -/
def vatomAddBody (d a : Reg) (g : BitVec 3) (s : Size) : Body := laneAtomic .add true s.bytes d.toNat a.toNat g.toNat
def execVatomAdd (m : Bool) (d a : Reg) (g : BitVec 3) (s : Size) (st : State) : Out := issue m (vatomAddBody d a g s) st

/-- `vatom.sub`: R188, R190. -/
def vatomSubBody (d a : Reg) (g : BitVec 3) (s : Size) : Body := laneAtomic .sub true s.bytes d.toNat a.toNat g.toNat
def execVatomSub (m : Bool) (d a : Reg) (g : BitVec 3) (s : Size) (st : State) : Out := issue m (vatomSubBody d a g s) st

/-- `vatom.min.i`: R188, R190. -/
def vatomMinIBody (d a : Reg) (g : BitVec 3) (s : Size) : Body := laneAtomic .minS true s.bytes d.toNat a.toNat g.toNat
def execVatomMinI (m : Bool) (d a : Reg) (g : BitVec 3) (s : Size) (st : State) : Out := issue m (vatomMinIBody d a g s) st

/-- `vatom.max.i`: R188, R190. -/
def vatomMaxIBody (d a : Reg) (g : BitVec 3) (s : Size) : Body := laneAtomic .maxS true s.bytes d.toNat a.toNat g.toNat
def execVatomMaxI (m : Bool) (d a : Reg) (g : BitVec 3) (s : Size) (st : State) : Out := issue m (vatomMaxIBody d a g s) st

/-- `vatom.min.n`: R188, R190. -/
def vatomMinNBody (d a : Reg) (g : BitVec 3) (s : Size) : Body := laneAtomic .minN true s.bytes d.toNat a.toNat g.toNat
def execVatomMinN (m : Bool) (d a : Reg) (g : BitVec 3) (s : Size) (st : State) : Out := issue m (vatomMinNBody d a g s) st

/-- `vatom.max.n`: R188, R190. -/
def vatomMaxNBody (d a : Reg) (g : BitVec 3) (s : Size) : Body := laneAtomic .maxN true s.bytes d.toNat a.toNat g.toNat
def execVatomMaxN (m : Bool) (d a : Reg) (g : BitVec 3) (s : Size) (st : State) : Out := issue m (vatomMaxNBody d a g s) st

/-- `vatom.and`: R188, R190. -/
def vatomAndBody (d a : Reg) (g : BitVec 3) (s : Size) : Body := laneAtomic .and true s.bytes d.toNat a.toNat g.toNat
def execVatomAnd (m : Bool) (d a : Reg) (g : BitVec 3) (s : Size) (st : State) : Out := issue m (vatomAndBody d a g s) st

/-- `vatom.or`: R188, R190. -/
def vatomOrBody (d a : Reg) (g : BitVec 3) (s : Size) : Body := laneAtomic .or true s.bytes d.toNat a.toNat g.toNat
def execVatomOr (m : Bool) (d a : Reg) (g : BitVec 3) (s : Size) (st : State) : Out := issue m (vatomOrBody d a g s) st

/-- `vatom.xor`: R188, R190. -/
def vatomXorBody (d a : Reg) (g : BitVec 3) (s : Size) : Body := laneAtomic .xor true s.bytes d.toNat a.toNat g.toNat
def execVatomXor (m : Bool) (d a : Reg) (g : BitVec 3) (s : Size) (st : State) : Out := issue m (vatomXorBody d a g s) st

/-- `vatom.xchg`: R188, R190. -/
def vatomXchgBody (d a : Reg) (g : BitVec 3) (s : Size) : Body := laneAtomic .xchg true s.bytes d.toNat a.toNat g.toNat
def execVatomXchg (m : Bool) (d a : Reg) (g : BitVec 3) (s : Size) (st : State) : Out := issue m (vatomXchgBody d a g s) st

/-- `vatom.cas`: R188, R190. -/
def vatomCasBody (d a : Reg) (g : BitVec 3) (s : Size) : Body := laneAtomic .cas true s.bytes d.toNat a.toNat g.toNat
def execVatomCas (m : Bool) (d a : Reg) (g : BitVec 3) (s : Size) (st : State) : Out := issue m (vatomCasBody d a g s) st

/-- `vatom.fadd`: R188, R190. -/
def vatomFaddBody (d a : Reg) (g : BitVec 3) (s : Size) : Body := laneAtomic .fadd true s.bytes d.toNat a.toNat g.toNat
def execVatomFadd (m : Bool) (d a : Reg) (g : BitVec 3) (s : Size) (st : State) : Out := issue m (vatomFaddBody d a g s) st

/-- `vatom.fmin`: R188, R190. -/
def vatomFminBody (d a : Reg) (g : BitVec 3) (s : Size) : Body := laneAtomic .fmin true s.bytes d.toNat a.toNat g.toNat
def execVatomFmin (m : Bool) (d a : Reg) (g : BitVec 3) (s : Size) (st : State) : Out := issue m (vatomFminBody d a g s) st

/-- `vatom.fmax`: R188, R190. -/
def vatomFmaxBody (d a : Reg) (g : BitVec 3) (s : Size) : Body := laneAtomic .fmax true s.bytes d.toNat a.toNat g.toNat
def execVatomFmax (m : Bool) (d a : Reg) (g : BitVec 3) (s : Size) (st : State) : Out := issue m (vatomFmaxBody d a g s) st

/-- `vatom.add.bf16x2`: R188, R190. -/
def vatomAddBf16x2Body (d a : Reg) (g : BitVec 3) (s : Size) : Body := laneAtomic .addBf16x2 true s.bytes d.toNat a.toNat g.toNat
def execVatomAddBf16x2 (m : Bool) (d a : Reg) (g : BitVec 3) (s : Size) (st : State) : Out := issue m (vatomAddBf16x2Body d a g s) st

/-- `vred.add`: R188, R190. -/
def vredAddBody (d a : Reg) (g : BitVec 3) (s : Size) : Body := laneAtomic .add false s.bytes d.toNat a.toNat g.toNat
def execVredAdd (m : Bool) (d a : Reg) (g : BitVec 3) (s : Size) (st : State) : Out := issue m (vredAddBody d a g s) st

/-- `vred.sub`: R188, R190. -/
def vredSubBody (d a : Reg) (g : BitVec 3) (s : Size) : Body := laneAtomic .sub false s.bytes d.toNat a.toNat g.toNat
def execVredSub (m : Bool) (d a : Reg) (g : BitVec 3) (s : Size) (st : State) : Out := issue m (vredSubBody d a g s) st

/-- `vred.min.i`: R188, R190. -/
def vredMinIBody (d a : Reg) (g : BitVec 3) (s : Size) : Body := laneAtomic .minS false s.bytes d.toNat a.toNat g.toNat
def execVredMinI (m : Bool) (d a : Reg) (g : BitVec 3) (s : Size) (st : State) : Out := issue m (vredMinIBody d a g s) st

/-- `vred.max.i`: R188, R190. -/
def vredMaxIBody (d a : Reg) (g : BitVec 3) (s : Size) : Body := laneAtomic .maxS false s.bytes d.toNat a.toNat g.toNat
def execVredMaxI (m : Bool) (d a : Reg) (g : BitVec 3) (s : Size) (st : State) : Out := issue m (vredMaxIBody d a g s) st

/-- `vred.min.n`: R188, R190. -/
def vredMinNBody (d a : Reg) (g : BitVec 3) (s : Size) : Body := laneAtomic .minN false s.bytes d.toNat a.toNat g.toNat
def execVredMinN (m : Bool) (d a : Reg) (g : BitVec 3) (s : Size) (st : State) : Out := issue m (vredMinNBody d a g s) st

/-- `vred.max.n`: R188, R190. -/
def vredMaxNBody (d a : Reg) (g : BitVec 3) (s : Size) : Body := laneAtomic .maxN false s.bytes d.toNat a.toNat g.toNat
def execVredMaxN (m : Bool) (d a : Reg) (g : BitVec 3) (s : Size) (st : State) : Out := issue m (vredMaxNBody d a g s) st

/-- `vred.and`: R188, R190. -/
def vredAndBody (d a : Reg) (g : BitVec 3) (s : Size) : Body := laneAtomic .and false s.bytes d.toNat a.toNat g.toNat
def execVredAnd (m : Bool) (d a : Reg) (g : BitVec 3) (s : Size) (st : State) : Out := issue m (vredAndBody d a g s) st

/-- `vred.or`: R188, R190. -/
def vredOrBody (d a : Reg) (g : BitVec 3) (s : Size) : Body := laneAtomic .or false s.bytes d.toNat a.toNat g.toNat
def execVredOr (m : Bool) (d a : Reg) (g : BitVec 3) (s : Size) (st : State) : Out := issue m (vredOrBody d a g s) st

/-- `vred.xor`: R188, R190. -/
def vredXorBody (d a : Reg) (g : BitVec 3) (s : Size) : Body := laneAtomic .xor false s.bytes d.toNat a.toNat g.toNat
def execVredXor (m : Bool) (d a : Reg) (g : BitVec 3) (s : Size) (st : State) : Out := issue m (vredXorBody d a g s) st

/-- `vred.fadd`: R188, R190. -/
def vredFaddBody (d a : Reg) (g : BitVec 3) (s : Size) : Body := laneAtomic .fadd false s.bytes d.toNat a.toNat g.toNat
def execVredFadd (m : Bool) (d a : Reg) (g : BitVec 3) (s : Size) (st : State) : Out := issue m (vredFaddBody d a g s) st

/-- `vred.fmin`: R188, R190. -/
def vredFminBody (d a : Reg) (g : BitVec 3) (s : Size) : Body := laneAtomic .fmin false s.bytes d.toNat a.toNat g.toNat
def execVredFmin (m : Bool) (d a : Reg) (g : BitVec 3) (s : Size) (st : State) : Out := issue m (vredFminBody d a g s) st

/-- `vred.fmax`: R188, R190. -/
def vredFmaxBody (d a : Reg) (g : BitVec 3) (s : Size) : Body := laneAtomic .fmax false s.bytes d.toNat a.toNat g.toNat
def execVredFmax (m : Bool) (d a : Reg) (g : BitVec 3) (s : Size) (st : State) : Out := issue m (vredFmaxBody d a g s) st

/-- `vred.add.bf16x2`: R188, R190. -/
def vredAddBf16x2Body (d a : Reg) (g : BitVec 3) (s : Size) : Body := laneAtomic .addBf16x2 false s.bytes d.toNat a.toNat g.toNat
def execVredAddBf16x2 (m : Bool) (d a : Reg) (g : BitVec 3) (s : Size) (st : State) : Out := issue m (vredAddBf16x2Body d a g s) st

/-- `satom.add`: R188, R190. -/
def satomAddBody (d a : Reg) (g : BitVec 3) (s : Size) : Body := scalarAtomic .add s.bytes d.toNat a.toNat g.toNat
def execSatomAdd (m : Bool) (d a : Reg) (g : BitVec 3) (s : Size) (st : State) : Out := issue m (satomAddBody d a g s) st

/-- `satom.sub`: R188, R190. -/
def satomSubBody (d a : Reg) (g : BitVec 3) (s : Size) : Body := scalarAtomic .sub s.bytes d.toNat a.toNat g.toNat
def execSatomSub (m : Bool) (d a : Reg) (g : BitVec 3) (s : Size) (st : State) : Out := issue m (satomSubBody d a g s) st

/-- `satom.min.i`: R188, R190. -/
def satomMinIBody (d a : Reg) (g : BitVec 3) (s : Size) : Body := scalarAtomic .minS s.bytes d.toNat a.toNat g.toNat
def execSatomMinI (m : Bool) (d a : Reg) (g : BitVec 3) (s : Size) (st : State) : Out := issue m (satomMinIBody d a g s) st

/-- `satom.max.i`: R188, R190. -/
def satomMaxIBody (d a : Reg) (g : BitVec 3) (s : Size) : Body := scalarAtomic .maxS s.bytes d.toNat a.toNat g.toNat
def execSatomMaxI (m : Bool) (d a : Reg) (g : BitVec 3) (s : Size) (st : State) : Out := issue m (satomMaxIBody d a g s) st

/-- `satom.min.n`: R188, R190. -/
def satomMinNBody (d a : Reg) (g : BitVec 3) (s : Size) : Body := scalarAtomic .minN s.bytes d.toNat a.toNat g.toNat
def execSatomMinN (m : Bool) (d a : Reg) (g : BitVec 3) (s : Size) (st : State) : Out := issue m (satomMinNBody d a g s) st

/-- `satom.max.n`: R188, R190. -/
def satomMaxNBody (d a : Reg) (g : BitVec 3) (s : Size) : Body := scalarAtomic .maxN s.bytes d.toNat a.toNat g.toNat
def execSatomMaxN (m : Bool) (d a : Reg) (g : BitVec 3) (s : Size) (st : State) : Out := issue m (satomMaxNBody d a g s) st

/-- `satom.and`: R188, R190. -/
def satomAndBody (d a : Reg) (g : BitVec 3) (s : Size) : Body := scalarAtomic .and s.bytes d.toNat a.toNat g.toNat
def execSatomAnd (m : Bool) (d a : Reg) (g : BitVec 3) (s : Size) (st : State) : Out := issue m (satomAndBody d a g s) st

/-- `satom.or`: R188, R190. -/
def satomOrBody (d a : Reg) (g : BitVec 3) (s : Size) : Body := scalarAtomic .or s.bytes d.toNat a.toNat g.toNat
def execSatomOr (m : Bool) (d a : Reg) (g : BitVec 3) (s : Size) (st : State) : Out := issue m (satomOrBody d a g s) st

/-- `satom.xor`: R188, R190. -/
def satomXorBody (d a : Reg) (g : BitVec 3) (s : Size) : Body := scalarAtomic .xor s.bytes d.toNat a.toNat g.toNat
def execSatomXor (m : Bool) (d a : Reg) (g : BitVec 3) (s : Size) (st : State) : Out := issue m (satomXorBody d a g s) st

/-- `satom.xchg`: R188, R190. -/
def satomXchgBody (d a : Reg) (g : BitVec 3) (s : Size) : Body := scalarAtomic .xchg s.bytes d.toNat a.toNat g.toNat
def execSatomXchg (m : Bool) (d a : Reg) (g : BitVec 3) (s : Size) (st : State) : Out := issue m (satomXchgBody d a g s) st

/-- `satom.cas`: R188, R190. -/
def satomCasBody (d a : Reg) (g : BitVec 3) (s : Size) : Body := scalarAtomic .cas s.bytes d.toNat a.toNat g.toNat
def execSatomCas (m : Bool) (d a : Reg) (g : BitVec 3) (s : Size) (st : State) : Out := issue m (satomCasBody d a g s) st

/-- `satom.fadd`: R188, R190. -/
def satomFaddBody (d a : Reg) (g : BitVec 3) (s : Size) : Body := scalarAtomic .fadd s.bytes d.toNat a.toNat g.toNat
def execSatomFadd (m : Bool) (d a : Reg) (g : BitVec 3) (s : Size) (st : State) : Out := issue m (satomFaddBody d a g s) st

/-- `satom.fmin`: R188, R190. -/
def satomFminBody (d a : Reg) (g : BitVec 3) (s : Size) : Body := scalarAtomic .fmin s.bytes d.toNat a.toNat g.toNat
def execSatomFmin (m : Bool) (d a : Reg) (g : BitVec 3) (s : Size) (st : State) : Out := issue m (satomFminBody d a g s) st

/-- `satom.fmax`: R188, R190. -/
def satomFmaxBody (d a : Reg) (g : BitVec 3) (s : Size) : Body := scalarAtomic .fmax s.bytes d.toNat a.toNat g.toNat
def execSatomFmax (m : Bool) (d a : Reg) (g : BitVec 3) (s : Size) (st : State) : Out := issue m (satomFmaxBody d a g s) st

/-- `satom.add.bf16x2`: R188, R190. -/
def satomAddBf16x2Body (d a : Reg) (g : BitVec 3) (s : Size) : Body := scalarAtomic .addBf16x2 s.bytes d.toNat a.toNat g.toNat
def execSatomAddBf16x2 (m : Bool) (d a : Reg) (g : BitVec 3) (s : Size) (st : State) : Out := issue m (satomAddBf16x2Body d a g s) st

end Sys2Proof.Machine
end

