-- ==== Sys2Proof/Machine/Barriers.lean ====
section
/-!
DEFINITION. Team barriers in scratchpad and the Arbor (R194 to R201).
-/

namespace Sys2Proof.Machine

/-- The phase a barrier word at a place holds. -/
def State.phaseAt (s : State) (addr : Nat) : Nat := barPhase (s.num addr 8)

/-- The checks of R196 on a barrier word: its place, or the fault. R196 does not place the check of SPACE among those of
R146: the model makes it with the alignment, before them (log 58). -/
def State.barrierWord (s : State) (seg a : Nat) (arrival : Bool) : Except TrapInfo Nat :=
  let g := s.me
  let sg := g.seg s.cur seg
  let off := (g.getS a).toNat
  let bad : TrapInfo := { kind := 1, seg := some seg, offset := off }
  if off % 16 ≠ 0 ∨ sg.space ≠ 1 then .error bad
  else match s.checkAccess s.cur (s.asker g) seg sg { r := true, w := arrival } none off 16 with
    | .error x => .error x
    | .ok _ =>
      let addr := s.target s.cur sg 0 off
      match s.barrierBad addr with
      | some k => .error { bad with kind := k }
      | none =>
        let w := s.num addr 8
        if arrival ∧ (barExpected w = 0 ∨ barExpected w ≤ barArrived w) then .error bad else .ok addr

/-- What a group that waits at the barrier word waits for. -/
def State.barrierWait (s : State) (seg a addr p : Nat) (arrived : Bool) : Wait :=
  .barrier addr p arrived seg (s.me.getS a).toNat

/-- An arrival (R195): bytes 0 to 7 of the word afterwards. -/
def arriveAt (w : Nat) : Nat :=
  if barArrived w + 1 = barExpected w then barExpected w * 2 ^ 16 + (barPhase w + 1) % 2 ^ 16 * 2 ^ 32
  else w + 1

/-- Performs an arrival at a barrier word. -/
def State.arrive (s : State) (addr : Nat) : State := s.writeNum addr 8 (arriveAt (s.num addr 8))

/-- The entry of the group's plan for an Arbor number, where the core is a member (R198, R200). -/
def State.arborEntry (s : State) (n : Nat) : Option ArborEntry :=
  let g := s.me
  match s.plan? g.plan, s.task? g.task with
  | some p, some t => p.arbors.find? fun e => e.number == n && bit e.stages t.stage
  | _, _ => none

/-- A body that acts on an Arbor number of the group's plan; otherwise illegal (R200). -/
def arbor (n : Nat) (f : State → ArborEntry → Eff) : Body := coreOnly fun s =>
  match s.arborEntry n with
  | none => illegal s
  | some e => f s e

/-- The issuing core and its phase P of a number (R199). -/
def State.myCore (s : State) : Core := s.core (coreOfGid s.cur)
def State.arborPhase (s : State) (n : Nat) : Nat := s.myCore.arborP.getD n 0

/-- `bar.arr`: R195, R196. -/
def barArrBody (g : BitVec 3) (a b : Reg) : Body := withResult (ordered fun s =>
  match s.barrierWord g.toNat a.toNat true with
  | .error x => .fault s x
  | .ok addr => (s.arrive addr).pushResult [.s b.toNat (BitVec.ofNat 64 (s.phaseAt addr))])
def execBarArr (m : Bool) (g : BitVec 3) (a b : Reg) (st : State) : Out := issue m (barArrBody g a b) st

/-- `bar.wait`: R195, R196. -/
def barWaitBody (g : BitVec 3) (a b : Reg) : Body := ordered fun s =>
  let p := (s.me.getS b.toNat).toNat % 2 ^ 16
  match s.barrierWord g.toNat a.toNat false with
  | .error x => .fault s x
  | .ok addr => if s.phaseAt addr ≠ p then .ok s else .wait s (s.barrierWait g.toNat a.toNat addr p false)
def execBarWait (m : Bool) (g : BitVec 3) (a b : Reg) (st : State) : Out := issue m (barWaitBody g a b) st

/-- `bar.arw`: R195, R196. -/
def barArwBody (g : BitVec 3) (a : Reg) : Body := ordered fun s =>
  match s.barrierWord g.toNat a.toNat true with
  | .error x => .fault s x
  | .ok addr =>
    let p := s.phaseAt addr
    let s1 := s.arrive addr
    if s1.phaseAt addr ≠ p then .ok s1 else .wait s1 (s.barrierWait g.toNat a.toNat addr p true)
def execBarArw (m : Bool) (g : BitVec 3) (a : Reg) (st : State) : Out := issue m (barArwBody g a) st

/-- `abar.arr`: R200. -/
def abarArrBody (d : Reg) (n : BitVec 5) : Body := withResult (ordered (arbor n.toNat fun s e =>
  let c := s.myCore
  let have' := c.arborA.getD n.toNat 0
  if e.count ≤ have' then .wait s (.arbor n.toNat)
  else (s.setCore (coreOfGid s.cur) { c with arborA := c.arborA.put n.toNat (have' + 1) }).pushResult
    [.s d.toNat (BitVec.ofNat 64 (s.arborPhase n.toNat))]))
def execAbarArr (m : Bool) (d : Reg) (n : BitVec 5) (st : State) : Out := issue m (abarArrBody d n) st

/-- `abar.wait`: R200. -/
def abarWaitBody (n : BitVec 5) (b : Reg) : Body := ordered (arbor n.toNat fun s _ =>
  if s.arborPhase n.toNat ≠ (s.me.getS b.toNat).toNat % 256 then .ok s else .wait s (.arbor n.toNat))
def execAbarWait (m : Bool) (n : BitVec 5) (b : Reg) (st : State) : Out := issue m (abarWaitBody n b) st

/-- `abar.test`: R200. -/
def abarTestBody (d : Reg) (n : BitVec 5) (b : Reg) : Body := withResult (ordered (arbor n.toNat fun s _ =>
  s.pushResult [.s d.toNat (boolMask (decide (s.arborPhase n.toNat ≠ (s.me.getS b.toNat).toNat % 256)))]))
def execAbarTest (m : Bool) (d : Reg) (n : BitVec 5) (b : Reg) (st : State) : Out := issue m (abarTestBody d n b) st

/-! What the units do. -/

/-- A group that a write has woken goes on behind its `bar.wait`, `bar.arw` or `kwait.obj`, or takes the fault of the word
that it found (R195, R214). -/
def State.tryWoken (s : State) (gid : Nat) : Option State :=
  match (s.group gid).wait with
  | some (.woken _ _ (some t) _) => some (s.takeTrap gid (some t))
  | some (.woken (some d) v none _) => some ((s.setGroup gid ((s.group gid).setS d (BitVec.ofNat 64 v))).finishWait gid)
  | some (.woken none _ none _) => some (s.finishWait gid)
  | _ => none

/-- The cores that run a member stage of an Arbor entry (R198). A core lent to a member stage runs it, so the model counts it,
with the A and P that it holds (log 59). -/
def State.memberCores (s : State) (h : Nat) (e : ArborEntry) : List Nat :=
  (s.cores.filter fun c => match c.2.stage with
    | some (p, st) => p == h && bit e.stages st
    | none => false).map Prod.fst

/-- The release of a number on one member core: A := 0, P := (P + 1) mod 256 (R199). -/
def State.releaseArbor (n : Nat) (s : State) (c : Nat) : State :=
  let k := s.core c
  s.setCore c { k with arborA := k.arborA.put n 0, arborP := k.arborP.put n ((k.arborP.getD n 0 + 1) % 256) }

/-- The groups blocked on a number at a core test it again (R199). -/
def State.retestArbor (n : Nat) (s : State) (c : Nat) : State :=
  { s with groups := Map.mapKeyed (fun gid g =>
      if coreOfGid gid = c ∧ g.wait = some (.arbor n) then { g with wait := none } else g) s.groups }

/-- The tree asserts release once every member core drives its AND line (R199). -/
def State.tryArborRelease (s : State) (h n : Nat) : Option State :=
  match s.plan? h with
  | none => none
  | some p => match p.arbors.find? fun e => e.number == n with
    | none => none
    | some e =>
      let cs := s.memberCores h e
      if cs.isEmpty || !cs.all (fun c => (s.core c).arborA.getD n 0 == e.count) then none
      else some (cs.foldl (State.retestArbor n) (cs.foldl (State.releaseArbor n) s))

/-- The outcome of a unit's step: a disabled one changes nothing (log 1). -/
def event (s : State) (r : Option State) : Out := .next (r.getD s)

/-- R195, R197. -/
def execBarrierWake (gid : Nat) (st : State) : Out := event st (st.tryWoken gid)

/-- R199. -/
def execArborRelease (h n : Nat) (st : State) : Out := event st (st.tryArborRelease h n)

end Sys2Proof.Machine
end

