-- ==== Sys2Proof/Machine/Records.lean ====
section
/-!
DEFINITION. Address records in scratchpad (R203 to R205), the checks every instruction that takes one makes (R209,
R210), and the bytes a side of a copy names.
-/

namespace Sys2Proof.Machine

/-- An address record's fields (R203). `reserved` says that some field the format reserves is nonzero. -/
structure Rec where
  base : Nat := 0
  cols : Nat := 0
  rows : Nat := 0
  pitch : Nat := 0
  kind : Nat := 0
  space : Nat := 0
  seg : Nat := 0
  swz : Nat := 0
  fmt : Nat := 0
  cursor : Nat := 0
  dir : Bool := false
  pipe : Nat := 0
  seq : Nat := 0
  reserved : Bool := false
  deriving DecidableEq, Repr

/-- The four doublewords of a record, in its layout (R203). -/
def recOf (w0 w1 w2 w3 : Nat) : Rec :=
  { base := bits w0 55 0, cols := bits w1 63 48, rows := bits w1 47 32, pitch := bits w1 31 0
    kind := bits w2 15 14, space := bits w2 13 11, seg := bits w2 10 8, swz := bits w2 7 4, fmt := bits w2 3 0
    cursor := bits w3 41 40, dir := bit w3 39, pipe := bits w3 37 32, seq := bits w3 31 0
    reserved := bits w0 63 56 != 0 || bits w2 63 16 != 0 || bits w3 63 42 != 0 || bit w3 38 }

/-- The record's four doublewords (R203). -/
def Rec.dwords (r : Rec) : List Nat :=
  [r.base, r.pitch + r.rows * 2 ^ 32 + r.cols * 2 ^ 48,
   r.fmt + r.swz * 2 ^ 4 + r.seg * 2 ^ 8 + r.space * 2 ^ 11 + r.kind * 2 ^ 14,
   r.seq + r.pipe * 2 ^ 32 + natOf r.dir * 2 ^ 39 + r.cursor * 2 ^ 40]

/-- The element size of a format code in half bytes (R204). -/
def halfBytes (fmt : Nat) : Nat :=
  match fmt with
  | 0 | 5 | 6 | 7 | 11 => 2
  | 1 | 8 | 9 | 12 => 4
  | 2 | 10 | 13 => 8
  | 3 => 16
  | _ => 1

/-- RB := COLS × e (R204). -/
def Rec.rb (r : Rec) : Nat := r.cols * halfBytes r.fmt / 2

/-- Swz(r, o) (R205). -/
def swizzle (swz r o : Nat) : Nat := o ^^^ (r % 2 ^ swz * 16)

/-- Whether the swizzle is legal (R205). -/
def Rec.swizzleOk (r : Rec) : Bool :=
  r.swz == 0 || (r.space == 1 && r.kind == 0 &&
    (let u := 16 * 2 ^ r.swz; r.rb % u == 0 && r.base % u == 0 && r.pitch % u == 0))

/-- The record tests of check 3 of R209, with the fields that R203 marks zero for the record's KIND. -/
def Rec.ok (r : Rec) : Bool :=
  !r.reserved && decide (r.kind ≤ 1) && decide (r.fmt ≤ 13) && decide (r.swz ≤ 3) && r.swizzleOk
    && r.rows != 0 && r.cols != 0 && !(r.fmt == 4 && r.cols % 2 == 1)
    && (if r.kind = 0 then r.cursor == 0 && !r.dir && r.pipe == 0 && r.seq == 0
        else r.base == 0 && r.space == 0 && r.seg == 0 && (r.dir || r.cursor == 0))

/-- What `pcommit` and `prelease` ask of a record: no field that its KIND reserves is set (R3, R203, R237). -/
def Rec.slotOk (r : Rec) : Bool :=
  !r.reserved && r.kind == 1 && r.base == 0 && r.space == 0 && r.seg == 0 && (r.dir || r.cursor == 0)

/-! Team offsets. -/

/-- The issuing group's task. -/
def State.myTask (s : State) : Task := (s.task? s.me.task).getD { plan := 0, stage := 0, die := 0 }

/-- The scratchpad byte of a team offset (R203). -/
def State.teamAddr (s : State) (off : Nat) : Nat := scratchAddr (coreOfGid s.cur) (s.myTask.scratchBase + off)

/-- Check 1 of R209 on a team offset: alignment. -/
def teamAlign (off align : Nat) : Option TrapInfo := if off % align ≠ 0 then some { kind := 1, offset := off } else none

/-- Check 2 of R209 on a team offset: the team's region. -/
def State.teamInside (s : State) (off n : Nat) : Option TrapInfo :=
  if s.myTask.scratchSize < off + n then some { kind := 4, offset := off } else none

/-- The fault of a record, a format block or an object whose bytes are uncorrectable where an instruction reads them at issue:
precise, with no effect (R156; log 88). -/
def State.teamBad (s : State) (off n : Nat) : Option TrapInfo :=
  if s.isBad (s.teamAddr off) n then some { kind := 8, offset := off } else none

/-- The first fault of a list. -/
def firstOf : List (Option TrapInfo) → Option TrapInfo
  | [] => none
  | some e :: _ => some e
  | none :: t => firstOf t

/-- The record at a team offset, read whole. -/
def State.recAt (s : State) (off : Nat) : Rec :=
  let a := s.teamAddr off
  recOf (s.num a 8) (s.num (a + 8) 8) (s.num (a + 16) 8) (s.num (a + 24) 8)

/-- Writes a record at a team offset. -/
def State.writeRec (s : State) (place : Nat) (r : Rec) : State := s.write place (r.dwords.flatMap (leBytes 8))

/-- One record of an instruction: checks 1 and 2 of R209, then the read. -/
def State.fetchRec (s : State) (off : Nat) : Except TrapInfo Rec :=
  match firstOf [teamAlign off 32, s.teamInside off 32, s.teamBad off 32] with
  | some e => .error e
  | none => .ok (s.recAt off)

/-- The live slot that a 32-bit sequence number names, with its number (R224). -/
def Pipe.slot? (p : Pipe) (seq : Nat) : Option (Nat × Slot) := p.slots.find? fun x => x.1 % 2 ^ 32 == seq
def Pipe.liveSeq (p : Pipe) (seq : Nat) : Option Nat := (p.slot? seq).map Prod.fst

/-- Whether a stage is resident on a die of this module: its plan is installed here and not saved, its SDEV is the own
device, and its DIEMASK names the die (R136, R300). -/
def State.residentStage (s : State) (p : Plan) (st : StageDesc) (d : Nat) : Bool :=
  p.state != .saved && st.sdev == s.device && bit st.dieMask d

/-- Whether a resident stage of a die holds an Orangery segment that covers a byte of a range (R136). -/
def State.orangeryMapped (s : State) (d lo hi : Nat) : Bool :=
  s.plans.any fun p => p.2.stages.any fun st =>
    s.residentStage p.2 st d && st.segs.any fun g => g.space == 3 && decide (g.base < hi) && decide (lo < g.base + g.limit)

/-- R136 for a copy's destination: rows of rb bytes, a pitch apart, from an Orangery byte of the issuing die. -/
def State.orangeryDenied (s : State) (lo rows pitch rb : Nat) : Bool :=
  s.me.mode = .user || (List.range rows).any fun r => s.orangeryMapped (dieOfGid s.cur) (lo + r * pitch) (lo + r * pitch + rb)

/-- Check 4 of R209. -/
def State.recSpaceOk (s : State) (r : Rec) : Bool :=
  r.kind != 0 || (r.space == (s.me.segs.getD r.seg {}).space && r.space != 0)

/-- Check 6 of R209 on a KIND 0 record: the segment's limit, then the Orangery rule or the permission. -/
def State.recSegment (s : State) (dst : Bool) (r : Rec) : Option TrapInfo :=
  if r.kind ≠ 0 then none
  else
    let g := s.me.segs.getD r.seg {}
    let hi := r.base + (r.rows - 1) * r.pitch + r.rb
    let bad (k : Nat) : Option TrapInfo := some { kind := k, seg := some r.seg, offset := r.base }
    if g.limit < hi then bad 4
    else if dst ∧ g.space = 3 then (if s.orangeryDenied (g.base + r.base) r.rows r.pitch r.rb then bad 14 else none)
    else if (dst && !g.w) || (!dst && !g.r) then bad 6
    else none

/-- Check 7 of R209 on a KIND 1 record: the pipe, the direction, the stage's part in it, and the pipe's own shape
(R210; log 12). -/
def State.recPipe (s : State) (dst : Bool) (r : Rec) : Option TrapInfo :=
  if r.kind = 0 then none
  else match s.pipe? s.me.plan r.pipe with
    | none => some { kind := 1 }
    | some p =>
      let t := s.myTask
      if r.dir = dst then some { kind := 10 }
      else if !r.dir ∧ p.producer ≠ t.stage then some { kind := 10 }
      else if r.dir ∧ p.consumers[r.cursor]? ≠ some t.stage then some { kind := 10 }
      else if r.fmt ≠ p.fmt ∨ r.rows ≠ p.rows ∨ r.cols ≠ p.cols then some { kind := 10 }
      else none

/-- Whether two records are compatible (R210). -/
def compatible (rows rb fmt rows' rb' fmt' : Nat) : Bool :=
  rows == rows' && rb == rb' && halfBytes fmt == halfBytes fmt' && (fmt == fmt' || decide (fmt ≤ 3) || decide (fmt' ≤ 3))

/-- The side of a copy that a checked record names. A slot is looked up by its number when a piece is performed (R211). -/
def State.sideOf (s : State) (off : Nat) (r : Rec) : Side :=
  if r.kind = 0 then
    { recOff := off, space := r.space, base := s.target s.cur (s.me.segs.getD r.seg {}) 0 r.base, pitch := r.pitch
      swz := r.swz, recBase := r.base, fmt := r.fmt }
  else
    { recOff := off, isSlot := true, pipe := r.pipe, seq := r.seq, dir := r.dir, cursor := r.cursor, fmt := r.fmt
      pitch := r.rb
      wasReserved := ((s.pipe? s.me.plan r.pipe).bind fun p => p.slot? r.seq).any fun x =>
        x.2.st == .reserved && x.2.owner == s.me.task }

/-- Check 3 of R209 on a byte-count object: its reserved bits (R206). -/
def State.objectReserved (s : State) (off : Nat) : Option TrapInfo :=
  if 2 ^ 33 ≤ s.num (s.teamAddr off) 8 then some { kind := 1, offset := off } else none

/-- Decrements a byte-count object by a counted write (R206); below zero it stays at zero with FAULT. Of an object with
uncorrectable bytes it takes the stored ones, and writes them anew (log 89). -/
def State.countDown (s : State) (obj : Option Nat) (n : Nat) : State :=
  match obj with
  | none => s
  | some a =>
    let w := s.num a 8
    let c := w % 2 ^ 32
    if n ≤ c then s.writeNum a 8 (w - n) else s.writeNum a 8 (if bit w 32 then w - c else w - c + 2 ^ 32)

/-- Sets FAULT of a byte-count object (R211), of one with uncorrectable bytes too (log 89). -/
def State.objectFault (s : State) (obj : Option Nat) : State :=
  match obj with
  | none => s
  | some a => let w := s.num a 8; if bit w 32 then s else s.writeNum a 8 (w + 2 ^ 32)

end Sys2Proof.Machine
end

