-- ==== Sys2Proof/Machine/Pipes.lean ====
section
/-!
DEFINITION. Tile pipes: the state at a pipe's home (R223 to R229, R236) and the pipe instructions (R230 to R237).
-/

namespace Sys2Proof.Machine

/-- Row bytes and slot bytes B of a pipe (R223). -/
def Pipe.rb (p : Pipe) : Nat := p.cols * halfBytes p.fmt / 2
def Pipe.slotBytes (p : Pipe) : Nat := (p.rows * p.rb + 63) / 64 * 64

/-- FREE (R224). -/
def Pipe.free (p : Pipe) : Nat := p.depth - (p.res - p.tail)

/-- Whether a slot counts as resident (R225); a Void slot has given up its position (R226). -/
def Slot.resident (x : Slot) : Bool := x.loc == .l2 || x.loc == .refill
def Pipe.residentCount (p : Pipe) : Nat := (p.slots.filter fun x => x.2.resident).length
def Pipe.spilledCount (p : Pipe) : Nat := (p.slots.filter fun x => x.2.loc == .spill).length

/-- A free L2 position of the pipe. -/
def Pipe.freePos (p : Pipe) : Nat :=
  ((List.range p.resident).find? fun i => !p.slots.any fun x => x.2.resident && x.2.pos == i).getD 0

/-- The place of a new slot (R225). -/
def Pipe.newLoc (p : Pipe) : SlotLoc :=
  if !(p.slots.any fun x => x.2.loc == .spill && x.2.st != .void) && decide (p.residentCount < p.resident) then .l2
  else .spill

/-- Reserves slot RES for a task (R231). -/
def Pipe.reserve (p : Pipe) (task : Nat) : Pipe :=
  { p with
    res := p.res + 1
    slots := p.slots.put p.res { loc := p.newLoc, owner := task, pos := p.freePos, cs := p.consumers.map fun _ => .pending } }

/-- Changes a live slot. -/
def Pipe.setSlot (p : Pipe) (k : Nat) (f : Slot → Slot) : Pipe := { p with slots := Map.modify k f p.slots }

/-- cs(c, s) := x (R224). -/
def Pipe.setClaim (p : Pipe) (c k : Nat) (x : ClaimState) : Pipe := p.setSlot k fun sl => { sl with cs := setAt sl.cs c fun _ => x }

/-- Cursor c passes the Void slots it has reached (R227). -/
def Pipe.passVoid (c : Nat) : Nat → Pipe → Pipe
  | 0, p => p
  | fuel + 1, p => match p.slots.get? (p.clOf c) with
    | some sl => if sl.st = .void then
        Pipe.passVoid c fuel { p.setClaim c (p.clOf c) .released with cl := setAt p.cl c (· + 1) } else p
    | none => p

/-- Frees the slots that every cursor has passed, in sequence order (R227). -/
def Pipe.freeSlots : Nat → Pipe → Pipe
  | 0, p => p
  | fuel + 1, p => match p.slots.get? p.tail with
    | some sl => if p.tail ≠ p.res ∧ sl.cs.all (· == .released) then
        Pipe.freeSlots fuel { p with slots := Map.del p.tail p.slots, tail := p.tail + 1 } else p
    | none => p

/-- What the home does after every change of a cursor (R227). -/
def Pipe.settle (p : Pipe) : Pipe :=
  Pipe.freeSlots 65 ((List.range p.consumers.length).foldl (fun q c => Pipe.passVoid c 65 q) p)

/-- The slot cursor c may claim now (R228). -/
def Pipe.next? (p : Pipe) (c : Nat) : Option Nat :=
  match p.retOf c with
  | k :: _ => some k
  | [] => match p.slots.get? (p.clOf c) with
    | some sl => if sl.st = .committed ∧ sl.loc = .l2 then some (p.clOf c) else none
    | none => none

/-- Claims slot k for a task through cursor c (R228). -/
def Pipe.claim (p : Pipe) (c k task : Nat) : Pipe :=
  let q := p.setClaim c k (.claimed task)
  (match p.retOf c with
   | _ :: rest => { q with ret := setAt p.ret c fun _ => rest }
   | [] => { q with cl := setAt p.cl c fun _ => k + 1 }).settle

/-- Releases cursor c's claim of slot k (R227, R234). -/
def Pipe.release (p : Pipe) (c k : Nat) : Pipe := (p.setClaim c k .released).settle

/-- `pcommit` of a slot by a task: none unless the slot is live, Reserved and the task's (R232). -/
def Pipe.commit (p : Pipe) (seq task : Nat) : Option Pipe :=
  match p.slot? seq with
  | some (k, sl) => if sl.st = .reserved ∧ sl.owner = task then some (p.setSlot k fun x => { x with st := .committed }) else none
  | none => none

/-- `prelease` of a slot by a task: none unless the cursor's claim of it is the task's (R234). -/
def Pipe.releaseBy (p : Pipe) (c seq task : Nat) : Option Pipe :=
  match p.slot? seq with
  | some (k, sl) => if sl.cs[c]? = some (.claimed task) then some (p.release c k) else none
  | none => none

/-- Inserts into an ascending list. -/
def insertSorted (k : Nat) : List Nat → List Nat
  | [] => [k]
  | x :: t => if k < x then k :: x :: t else x :: insertSorted k t

/-- Returns cursor c's claim of slot k (R229). -/
def Pipe.giveBack (p : Pipe) (c k : Nat) : Pipe :=
  { p.setClaim c k .pending with ret := setAt p.ret c (insertSorted k) }

/-- A task ends: its uncommitted reservations become Void, and its claims are released or returned (R229). -/
def Pipe.endTask (p : Pipe) (task : Nat) (returns : Bool) : Pipe :=
  let q : Pipe := { p with slots := Map.mapVals (α := Slot) (fun sl =>
    if sl.st = .reserved ∧ sl.owner = task then
      { sl with st := .void, loc := if sl.loc = .spill then .spill else .given } else sl) p.slots }
  let claims := q.slots.flatMap fun x => (List.range x.2.cs.length).filterMap fun c =>
    if x.2.cs.getD c .pending = .claimed task then some (c, x.1) else none
  (claims.foldl (fun r ck => if returns then r.giveBack ck.1 ck.2 else r.setClaim ck.1 ck.2 .released) q).settle

/-- The slot whose refill may start (R226). -/
def Pipe.refillable (p : Pipe) : Option Nat :=
  if p.resident ≤ p.residentCount then none
  else match p.slots.find? fun x => x.2.loc == .spill && x.2.st != .void with
    | some x => if x.2.st = .committed then some x.1 else none
    | none => none

/-! Pipes in the state. -/

/-- The place of a slot's byte in its L2 position. -/
def slotPlace (h pipe pos off : Nat) : Nat := slotAddr h pipe pos off

/-- The virtual address of a spilled slot's byte (R225). -/
def Pipe.spillVA (p : Pipe) (k off : Nat) : Nat := p.spill + k % 2 ^ 32 % p.depth * p.slotBytes + off

/-- A plan's progress count rises, by n (R320). -/
def State.progress (s : State) (h : Nat) (n : Nat := 1) : State :=
  s.modPlan h fun p => { p with progress := p.progress + n, lastRise := s.cycle, deadlockSent := false }

/-- The pipe-head ports of a cursor (R245). -/
def State.headPorts (s : State) (h pipe c : Nat) : List Nat :=
  (s.ports.filter fun x => x.2.plan == h && x.2.isHead && x.2.pipe == pipe && x.2.cursor == c).map Prod.fst

/-- A pipe-head port whose count has risen from zero is due for evaluation at its die (R239, R245). -/
def State.risePort (s : State) (port : Nat) : State :=
  let d := s.die (port / 8192)
  if d.joinDue.contains (.rise port) then s else s.setDie (port / 8192) { d with joinDue := d.joinDue ++ [.rise port] }

/-- The changes of a slot's state that count as progress: of st or loc, and of cs for each cursor. The slot of `new` is none once
it has been freed: it was Void or Committed then, and Released by every cursor (R227, R320; log 62). -/
def Slot.changes (old : Slot) (new : Option Slot) : Nat :=
  match new with
  | none => natOf (old.st == .reserved) + (old.cs.filter (· != .released)).length
  | some x => natOf (old.st != x.st || old.loc != x.loc) + ((List.zip old.cs x.cs).filter fun y => y.1 != y.2).length

/-- The changes of RES, TAIL, the cursors and the slot states of a pipe, one for each step of R236 (R320; log 62). -/
def Pipe.changes (old new : Pipe) : Nat :=
  (new.res - old.res) + (new.tail - old.tail) + old.slots.foldl (fun n x => n + x.2.changes (new.slots.get? x.1)) 0

/-- Replaces a pipe's state; counts its progress (R320), and notes the ports whose cursor has something again. -/
def State.setPipe (s : State) (h pipe : Nat) (p : Pipe) : State :=
  let old := (s.pipe? h pipe).getD {}
  if old = p then s
  else
    let s0 := { s with pipes := s.pipes.put (h * 64 + pipe) p }
    let s1 := if old.changes p = 0 then s0 else s0.progress h (old.changes p)
    ((List.range p.consumers.length).filter fun c => old.avail c == 0 && p.avail c != 0).foldl
      (fun st c => (st.headPorts h pipe c).foldl State.risePort st) s1

/-- A place at the home of a pipe that this module does not hold: in another module, or in Pavilion memory (R223). The pipe's
state and its slots are the home's, wherever it is; requests to it go out on a port (log 60). -/
def State.homePlace (s : State) (p : Pipe) : Option Nat :=
  if p.homeKind = 1 then some (pavAddr p.home 0)
  else if p.home / 16 = s.device then none
  else some (peerAddr (p.home / 16) 0)

/-- Whether a pipe's home is lost (R237, R343). -/
def State.homeLost (s : State) (p : Pipe) : Bool := (s.homePlace p).any s.addrLost

/-- Whether a group's request to a pipe's home can be answered now: a die that is off serves none (R375). -/
def State.homeReached (s : State) (p : Pipe) : Bool := !s.homeOff p && (s.homePlace p).all (s.answered (.ask s.cur))

/-- The response of a pipe's home to a group's request arrives. -/
def State.fromHome (s : State) (p : Pipe) : State := ((s.homePlace p).map (s.land (.ask s.cur))).getD s

/-- A pipe instruction that its home performs: the group is blocked until its request has gone out there and can be answered
(R230). -/
def atHome (p : Pipe) (b : Body) : Body := fun s => if s.homeReached p then b (s.fromHome p) else .wait s .home

/-- A pipe instruction (R230): performed in its place. -/
def pipeBody (b : Body) : Body := coreOnly (ordered b)

/-- The pipe that S(sa) selects, and the cursor (R230). The fields of S(sa) are tested before a lost home (log 91). -/
def State.selectPipe (s : State) (v : Nat) : Except TrapInfo (Nat × Nat × Pipe) :=
  if bits v 7 6 ≠ 0 ∨ bits v 63 10 ≠ 0 then .error { kind := 1 }
  else match s.pipe? s.me.plan (v % 64) with
    | none => .error { kind := 1 }
    | some p => if s.homeLost p then .error { kind := 12 } else .ok (v % 64, bits v 9 8, p)

/-- Whether the issuing group's plan drains: its pipes take no more reservations (R318). -/
def State.draining (s : State) : Bool := (s.plan? s.me.plan).any fun p => p.state == .draining

/-- The record `preserve` and `pclaim` write (R231, R233). -/
def Pipe.record (p : Pipe) (pipe seq : Nat) (claim : Option Nat) : Rec :=
  { kind := 1, dir := claim.isSome, pipe := pipe, seq := seq % 2 ^ 32, cursor := claim.getD 0, fmt := p.fmt, rows := p.rows
    cols := p.cols, pitch := p.rb }

/-- Reserves a slot, writes its record at a place and its number to S(sd) (R231). -/
def State.preserveNow (s : State) (pipe d place : Nat) (p : Pipe) : State :=
  let s1 := s.setPipe s.me.plan pipe (p.reserve s.me.task)
  let s2 := s1.writeRec place (p.record pipe p.res none)
  s2.setMe (s2.me.setS d (BitVec.ofNat 64 (p.res % 2 ^ 32)))

/-- The record of `pcommit` (DIR 0) or `prelease` (DIR 1) and its pipe. A KIND that is not 1 or a set reserved field is an
illegal instruction and a wrong DIR a pipe-type fault, as R237 has it; the pipe-sequence fault of R232 and R234 is the
slot's (log 61). -/
def State.recordPipe (s : State) (off : Nat) (dir : Bool) : Except TrapInfo (Rec × Pipe) :=
  match s.fetchRec off with
  | .error e => .error e
  | .ok r =>
    if !r.slotOk then .error { kind := 1, offset := off }
    else if r.dir ≠ dir then .error { kind := 10, offset := off }
    else match s.pipe? s.me.plan r.pipe with
      | none => .error { kind := 1, offset := off }
      | some p => if s.homeLost p then .error { kind := 12, offset := off } else .ok (r, p)

/-- `preserve`: R230, R231, R237, R318. The order of its checks is the model's (log 91): S(sa) and a lost home, the record's
place, the stage, the drain. -/
def preserveBody (d a b : Reg) : Body := withResult (pipeBody fun s =>
  let off := (s.me.getS b.toNat).toNat
  match s.selectPipe (s.me.getS a.toNat).toNat with
  | .error e => .fault s e
  | .ok (n, _, p) =>
    match firstOf [teamAlign off 32, s.teamInside off 32] with
    | some e => .fault s e
    | none =>
      if p.producer ≠ s.myTask.stage then .fault s { kind := 10 }
      else if s.draining then .fault s { kind := 6 }
      else atHome p (fun t =>
        if p.free = 0 then .wait t (.pipeFree n d.toNat (s.teamAddr off))
        else .ok (t.preserveNow n d.toNat (s.teamAddr off) p)) s)
def execPreserve (m : Bool) (d a b : Reg) (st : State) : Out := issue m (preserveBody d a b) st

/-- `pcommit`: R232, R237. -/
def pcommitBody (b : Reg) : Body := pipeBody fun s =>
  let off := (s.me.getS b.toNat).toNat
  match s.recordPipe off false with
  | .error e => .fault s e
  | .ok (r, p) => atHome p (fun t => match p.commit r.seq s.me.task with
    | some q => .ok (t.setPipe s.me.plan r.pipe q)
    | none => .fault t { kind := 11, offset := off }) s
def execPcommit (m : Bool) (b : Reg) (st : State) : Out := issue m (pcommitBody b) st

/-- `pclaim`: R228, R233, R237. The order of its checks is the model's (log 91): S(sa) and a lost home, the record's place, the
stage of the cursor. -/
def pclaimBody (d a b : Reg) : Body := withResult (pipeBody fun s =>
  let off := (s.me.getS b.toNat).toNat
  match s.selectPipe (s.me.getS a.toNat).toNat with
  | .error e => .fault s e
  | .ok (n, c, p) =>
    match firstOf [teamAlign off 32, s.teamInside off 32] with
    | some e => .fault s e
    | none =>
      if p.consumers[c]? ≠ some s.myTask.stage then .fault s { kind := 10 }
      else atHome p (fun t => match p.next? c with
        | none => .ok (t.setMe (t.me.setS d.toNat (BitVec.allOnes 64)))
        | some k =>
          let u := (t.setPipe s.me.plan n (p.claim c k s.me.task)).writeRec (s.teamAddr off) (p.record n k (some c))
          .ok (u.setMe (u.me.setS d.toNat (BitVec.ofNat 64 (k % 2 ^ 32))))) s)
def execPclaim (m : Bool) (d a b : Reg) (st : State) : Out := issue m (pclaimBody d a b) st

/-- `prelease`: R234, R237. -/
def preleaseBody (b : Reg) : Body := pipeBody fun s =>
  let off := (s.me.getS b.toNat).toNat
  match s.recordPipe off true with
  | .error e => .fault s e
  | .ok (r, p) => atHome p (fun t => match p.releaseBy r.cursor r.seq s.me.task with
    | some q => .ok (t.setPipe s.me.plan r.pipe q)
    | none => .fault t { kind := 11, offset := off }) s
def execPrelease (m : Bool) (b : Reg) (st : State) : Out := issue m (preleaseBody b) st

/-- `pquery`: R235, R237. -/
def pqueryBody (d a : Reg) : Body := withResult (pipeBody fun s =>
  match s.selectPipe (s.me.getS a.toNat).toNat with
  | .error e => .fault s e
  | .ok (_, c, p) =>
    if p.consumers.length ≤ c then .fault s { kind := 10 }
    else atHome p (fun t => .ok (t.setMe (t.me.setS d.toNat (BitVec.ofNat 64
      (p.free + p.avail c * 2 ^ 8 + p.residentCount * 2 ^ 16 + p.spilledCount * 2 ^ 24 + p.clOf c % 2 ^ 32 * 2 ^ 32))))) s)
def execPquery (m : Bool) (d a : Reg) (st : State) : Out := issue m (pqueryBody d a) st

/-! What the home does on its own. -/

/-- A pipe instruction of another module at a home: none where the home refuses it (R230). -/
def Pipe.foreign (p : Pipe) : PipeOp → Option Pipe
  | .reserve t => if p.free = 0 then none else some (p.reserve t)
  | .commit k t => p.commit k t
  | .claim c t => if p.consumers.length ≤ c then none else (p.next? c).map fun k => p.claim c k t
  | .release c k t => p.releaseBy c k t
  | .ends t r => some (p.endTask t r)

/-- Another module's pipe instruction is performed at its home (R230); at a home of this module it comes in on port `via` (R327).
Other modules' tasks are numbered from 2^32, so that no task of this module is meant. -/
def State.remotePipe (s : State) (via h n : Nat) (op : PipeOp) : Option State :=
  let task := match op with
    | .reserve t => t
    | .commit _ t => t
    | .claim _ t => t
    | .release _ _ t => t
    | .ends t _ => t
  if task < 2 ^ 32 then none
  else match s.pipe? h n with
    | none => none
    | some p => (p.foreign op).bind fun q =>
        (if (s.homePlace p).isSome then some s else s.arrives via 0).map fun t => t.setPipe h n q

/-- A blocked `preserve` is performed once FREE rises above zero (R231). -/
def State.tryPreserveUnblock (s : State) (gid : Nat) : Option State :=
  let g := s.group gid
  match g.wait with
  | some (.pipeFree n d place) => match s.pipe? g.plan n with
    | some p => if p.free = 0 then none
      else some ((s.asGroup gid fun u => u.preserveNow n d place p).finishWait gid)
    | none => none
  | _ => none

/-- Whether a plan is Saved (R359). -/
def State.planSaved (s : State) (h : Nat) : Bool := (s.plan? h).any fun p => p.state == .saved

/-- The refill of the lowest committed spilled slot starts (R226); a Saved plan has no L2 quota, and its slots refill once it is
restored (R360). -/
def State.tryRefillStart (s : State) (h n : Nat) : Option State :=
  if s.planSaved h then none
  else match s.pipe? h n with
  | none => none
  | some p => match p.refillable with
    | none => none
    | some k => some (s.setPipe h n (p.setSlot k fun sl =>
        { sl with loc := .refill, pos := p.freePos, todo := [(0, p.slotBytes)] }))

/-- The ranges left when n bytes from a are taken out. -/
def takeRange (a n : Nat) : List (Nat × Nat) → List (Nat × Nat)
  | [] => []
  | (lo, hi) :: t =>
    if lo ≤ a ∧ a + n ≤ hi then
      (if lo < a then [(lo, a)] else []) ++ (if a + n < hi then [(a + n, hi)] else []) ++ t
    else (lo, hi) :: takeRange a n t

/-- The end of the range that holds a byte. -/
def rangeEnd (a : Nat) (l : List (Nat × Nat)) : Option Nat :=
  (l.find? fun r => decide (r.1 ≤ a) && decide (a < r.2)).map Prod.snd

/-- Copies one sector of a refill: an unreadable one becomes uncorrectable in the slot, and event 5 is due (R226), which is
given the fault's kind and the byte's place in the slot. A sector moves in one step, so that a late piece of the producer's
copy is never overwritten by an older one (log 63). -/
def State.tryRefillPiece (s : State) (h n k off : Nat) (onFault : Nat → State → State) : Option State :=
  match s.pipe? h n with
  | none => none
  | some p => match p.slots.get? k with
    | none => none
    | some sl =>
      if sl.loc ≠ .refill then none
      else match rangeEnd off sl.todo with
        | none => none
        | some hi =>
          let va := p.spillVA k off
          let len := min (hi - off) (16 - va % 16)
          let s1 := s.setPipe h n (p.setSlot k fun x => { x with todo := takeRange off len x.todo })
          let dst := slotPlace h n sl.pos off
          let who := s.planAsker h (2816 + p.home % 16)
          let bad := { s1 with bad := (List.range len).foldl (fun m i => Map.put (dst + i) 1 m) s1.bad }
          match s.leafFor who false va with
          | .error k => some (onFault k bad)
          | .ok e =>
            let src := s.place e va
            if !s.canServe (.refill h n) who.unit true src then none
            else match s.leafDenies { r := true } e with
              | some k => some (onFault k bad)
              | none =>
                let s2 := s1.land (.refill h n) src
                some (if s.addrLost src then onFault 12 bad
                  else if s.readsBad who (leafKey e) src len then onFault 8 { bad with uals := s2.uals }
                  else (s2.afterRead who (leafKey e) src).write dst (s1.readPiece who (leafKey e) src len))

/-- A refill completes: the slot becomes claimable (R226). -/
def State.tryRefillComplete (s : State) (h n : Nat) : Option State :=
  match s.pipe? h n with
  | none => none
  | some p => match p.slots.find? fun x => x.2.loc == .refill && x.2.todo.isEmpty with
    | none => none
    | some x => some (s.setPipe h n (p.setSlot x.1 fun sl => { sl with loc := .l2 }))

/-- R231. -/
def execPreserveUnblock (gid : Nat) (st : State) : Out := event st (st.tryPreserveUnblock gid)

/-- R226. -/
def execPipeRefillStart (h n : Nat) (st : State) : Out := event st (st.tryRefillStart h n)

/-- R226. -/
def execPipeRefillComplete (h n : Nat) (st : State) : Out := event st (st.tryRefillComplete h n)

end Sys2Proof.Machine
end

