-- ==== Sys2Proof/Machine/Join.lean ====
section
/-!
DEFINITION. The join unit of a die: ports, waiter lists, patterns, evaluation, firing and returns (R239 to R264), and
the events a plan sends to its fault port (R316). A port's key is die × 8,192 + port, a pattern's die × 512 + index, a
queued stage's plan × 32 + stage.
-/

namespace Sys2Proof.Machine

/-! Ports. -/

def dieOfPort (key : Nat) : Nat := key / 8192
def dieOfPattern (key : Nat) : Nat := key / 512

/-- Whether a port is full, or has waiters: it admits no new send (R244). -/
def Port.refuses (p : Port) : Bool := decide (p.depth ≤ p.msgs.length) || !p.waiters.isEmpty

def State.modPort (s : State) (key : Nat) (f : Port → Port) : State := { s with ports := Map.modify key f s.ports }
def State.modPattern (s : State) (key : Nat) (f : Pattern → Pattern) : State :=
  { s with patterns := Map.modify key f s.patterns }

/-! Tasks and die queues, as far as a firing needs them (R251, R312). -/

def stageKey (plan stage : Nat) : Nat := plan * 32 + stage

/-- Whether the die queue of a stage has a free entry; a firing in transit holds one (R250, R251). -/
def State.dieRoom (s : State) (d key : Nat) : Bool :=
  let x := s.die d
  let flying := x.firing.filter fun t => match s.task? t with
    | some r => stageKey r.plan r.stage == key
    | none => false
  decide ((x.runq.getD key []).length + flying.length < 2048)

/-- Adds a task record. -/
def State.newTask (s : State) (t : Task) : State := { s.setTask s.nextTask t with nextTask := s.nextTask + 1 }

/-! Patterns (R250 to R253). -/

/-- Whether a port is nonempty (R244, R245). -/
def State.portFilled (s : State) (port : Nat) : Bool := (s.ports.get? port).any fun x => s.portCount x != 0

/-- Whether every port of a pattern is nonempty. -/
def State.portsReady (s : State) (p : Pattern) : Bool := p.ports.all s.portFilled

/-- Whether a pattern is fireable (R250); the patterns of a saved plan do not fire (R360), those of one that has not started do
(log 82). -/
def State.fireable (s : State) (key : Nat) (p : Pattern) : Bool :=
  !p.disabled && s.portsReady p && s.dieRoom (dieOfPattern key) (stageKey p.plan p.stage)
    && !(s.plan? p.plan).any fun x => x.state == .saved

/-- What a firing takes from one port: the item, the state after, and whether the port has waiters (R251). -/
def State.takeItem (s : State) (task port pattern : Nat) : State × Item × List Nat :=
  match s.ports.get? port with
  | none => (s, .absent, [])
  | some x =>
    if x.isHead then
      match s.pipe? x.plan x.pipe with
      | none => (s, .absent, [])
      | some p => match p.next? x.cursor with
        | none => (s, .absent, [])
        | some k => (s.setPipe x.plan x.pipe (p.claim x.cursor k task), .claim x.pipe x.cursor k, [])
    else match x.msgs with
      | [] => (s, .absent, [])
      | m :: rest =>
        let s1 := (s.modPort port fun q => { q with msgs := rest, returned := q.returned - 1 }).progress x.plan
        let d := s1.die (dieOfPort port)
        let s2 := if x.returned = 0 then s1 else s1.setDie (dieOfPort port) { d with returnsUsed := d.returnsUsed - 1 }
        let s3 := match s2.tickets.get? m.ticket with
          | some (.awaited g) =>
            { s2 with tickets := s2.tickets.put m.ticket (.consumed g (dieOfPattern pattern) (pattern % 512)) }
          | _ => s2
        (s3, .message port m, if x.waiters.isEmpty then [] else [port])

/-- Takes one item from each port in position order; a pipe head with nothing left, because an earlier position of the pattern
is of the same cursor, gives nothing at its position (log 83). -/
def State.takeItems (task pattern : Nat) : List Nat → State → State × List Item × List Nat
  | [], s => (s, [], [])
  | k :: t, s =>
    let a := s.takeItem task k pattern
    let b := State.takeItems task pattern t a.1
    (b.1, a.2.1 :: b.2.1, a.2.2 ++ b.2.2)

/-- Held patterns with a port that a firing has emptied wait again: `before` is the machine before that firing (R250). -/
def State.unhold (before s : State) : State :=
  { s with patterns := Map.mapVals (fun p =>
      if p.heldSince.isSome && p.ports.any (fun k => before.portFilled k && !s.portFilled k) then { p with heldSince := none }
      else p) s.patterns }

/-- A firing (R251): one event. The waiters it releases are due for admission (R253). -/
def State.fire (s : State) (key : Nat) (p : Pattern) : State :=
  let t := s.nextTask
  let got := State.takeItems t key p.ports s
  let d := dieOfPattern key
  let s1 := got.1.newTask { plan := p.plan, stage := p.stage, die := d, pattern := some key, items := got.2.1, role := p.role }
  let x := s1.die d
  let s2 := s1.setDie d { x with firing := x.firing ++ [t], dueAdmits := x.dueAdmits ++ got.2.2, effDue := true }
  State.unhold s (s2.modPattern key fun q => { q with heldSince := none })

/-- A pattern whose ports are all nonempty and whose queue is full is Held (R250). -/
def State.hold (s : State) (key : Nat) : State :=
  match s.patterns.get? key with
  | none => s
  | some p =>
    if p.disabled || p.heldSince.isSome || !s.portsReady p || s.dieRoom (dieOfPattern key) (stageKey p.plan p.stage) then s
    else { s.modPattern key (fun q => { q with heldSince := some s.nextTicket }) with nextTicket := s.nextTicket + 1 }

/-- Whether the first of two candidates wins: higher PRIO, then the lesser distance behind the rotating pointer (R253). -/
def beats (rot : Nat) (a b : Nat × Pattern) : Bool :=
  let dist (k : Nat) : Nat := (k % 512 + 1023 - rot) % 512
  decide (b.2.prio < a.2.prio) || (a.2.prio == b.2.prio && decide (dist a.1 < dist b.1))

/-- The pattern that wins an evaluation at a port (R253). -/
def State.winner (s : State) (port : Nat) : Option (Nat × Pattern) :=
  bestOf (beats (((s.ports.get? port).map Port.rot).getD 511))
    (s.patterns.filter fun q => q.2.ports.contains port && s.fireable q.1 q.2)

/-- The repeated step of R253 at a port. -/
def State.evaluate (port : Nat) : Nat → State → State
  | 0, s => s
  | fuel + 1, s => match s.winner port with
    | none => s
    | some w => State.evaluate port fuel ((s.fire w.1 w.2).modPort port fun q => { q with rot := w.1 % 512 })

/-- An evaluation at a port: the firings, then the patterns left Held (R250, R253). -/
def State.evalPort (s : State) (port : Nat) : State :=
  let n := ((s.ports.get? port).map fun p => s.portCount p).getD 0
  let s1 := State.evaluate port n s
  ((s1.patterns.filter fun q => q.2.ports.contains port).map Prod.fst).foldl State.hold s1

/-- After `jen`: the pattern fires as long as it is fireable, and ROT of its slot-0 port advances (R253). -/
def State.evalPattern (key : Nat) : Nat → State → State
  | 0, s => s
  | fuel + 1, s => match s.patterns.get? key with
    | none => s
    | some p => if s.fireable key p then
        State.evalPattern key fuel ((s.fire key p).modPort (p.ports.headD 0) fun q => { q with rot := key % 512 })
      else s.hold key

/-! Admission (R247). -/

/-- A message is admitted at the tail, and its port evaluated. -/
def State.takeMessage (s : State) (key : Nat) (m : Message) : State :=
  let h := ((s.ports.get? key).map Port.plan).getD 0
  ((s.modPort key fun p => { p with msgs := p.msgs ++ [m] }).progress h).evalPort key

/-- The sender's side of an admission: `send` is complete, `sendw` awaits the consumption under a ticket (R259). A
sender of another module is told outside. -/
def State.sent (s : State) (gid : Nat) (d : Option Nat) (ticket : Nat) : State :=
  if !s.groups.has gid then s
  else match d with
    | none => s.finishWait gid
    | some r => s.setGroup gid { s.group gid with wait := some (.ticket ticket r) }

/-- The ticket of a message of `sendw`. -/
def State.openTicket (s : State) (gid : Nat) (d : Option Nat) : State × Nat :=
  match d with
  | none => (s, 0)
  | some _ => ({ s with tickets := s.tickets.put s.nextTicket (.awaited gid), nextTicket := s.nextTicket + 1 }, s.nextTicket)

/-- Admits a sender's message, new or from a waiter list. -/
def State.admitFrom (s : State) (key gid : Nat) (m : Message) (d : Option Nat) : State :=
  let t := s.openTicket gid d
  (t.1.sent gid d t.2).takeMessage key { m with ticket := t.2 }

/-- A send is refused: its group takes the fault (R259). -/
def State.refuse (s : State) (gid : Nat) (t : TrapInfo) : State :=
  if s.groups.has gid then (s.unblock gid).takeTrap gid (some t) else s

/-- The group's register that a waiter's answer goes to. -/
def State.waitReg (s : State) (gid : Nat) : Option Nat :=
  match (s.group gid).wait with
  | some (.waiter _ d) => d
  | some (.sending _ _ d) => d
  | _ => none

/-- A send at its join unit: refused, admitted, or on the waiter list (R247, R259). -/
def State.arriveSend (s : State) (key tenant gid : Nat) (m : Message) (d : Option Nat) (id : Nat) : State :=
  match s.ports.get? key with
  | none => s.refuse gid { kind := 6 }
  | some p =>
    if ((s.plan? p.plan).map Plan.tenant) ≠ some tenant ∨ !p.opened then s.refuse gid { kind := 6 }
    else if p.isHead then s.refuse gid { kind := 10 }
    else if !p.refuses then s.admitFrom key gid m d
    else if p.fault then s.refuse gid { kind := 9, src := 4, value := id }
    else
      let s1 := s.modPort key fun q => { q with waiters := q.waiters ++ [⟨gid, m, d.isNone⟩] }
      if s1.groups.has gid then s1.setGroup gid { s1.group gid with wait := some (.waiter key d) } else s1

/-- Whether the admissions that firings released are all made: they come ahead of every other event (R253). -/
def State.admitsMade (s : State) (d : Nat) : Bool := (s.die d).dueAdmits.isEmpty

/-- Whether a new event of a die's join unit comes next: none noted before it is left (R239, R252, R253). -/
def State.noneDue (s : State) (d : Nat) : Bool := s.admitsMade d && (s.die d).joinDue.isEmpty

/-- A send reaches its join unit (R247, R259). -/
def State.tryAdmission (s : State) (gid : Nat) : Option State :=
  match (s.group gid).wait with
  | some (.sending id m d) =>
    if s.noneDue (bits id 22 19) then some (s.arriveSend (portKey id) (s.tenantOf (s.group gid)) gid m d id) else none
  | _ => none

/-- The oldest waiter of the next due port is admitted (R247, R253). -/
def State.tryWaiterAdmission (s : State) (d : Nat) : Option State :=
  match (s.die d).dueAdmits with
  | [] => none
  | key :: rest =>
    let s1 := s.setDie d { s.die d with dueAdmits := rest }
    some (match s1.ports.get? key with
      | none => s1
      | some p => match p.waiters with
        | [] => s1
        | w :: ws =>
          (s1.modPort key fun q => { q with waiters := ws }).admitFrom key w.gid w.msg
            (if w.blocking then none else some ((s1.waitReg w.gid).getD 0)))

/-- A pipe-head port's count has risen from zero (R245, R252). -/
def State.tryHeadRise (s : State) (d : Nat) : Option State :=
  match (s.die d).joinDue with
  | .rise key :: rest => if s.admitsMade d then some ((s.setDie d { s.die d with joinDue := rest }).evalPort key) else none
  | _ => none

/-- The Held pattern of a stage that a free entry of its queue lets fire (R250). -/
def State.firstHeld (s : State) (d key : Nat) : Option (Nat × Pattern) :=
  bestOf (fun a b => decide (b.2.prio < a.2.prio) || (a.2.prio == b.2.prio
      && decide (a.2.heldSince.getD 0 < b.2.heldSince.getD 0)))
    (s.patterns.filter fun q => dieOfPattern q.1 == d && stageKey q.2.plan q.2.stage == key && q.2.heldSince.isSome
      && s.fireable q.1 q.2)

/-- A free entry lets the first Held pattern of its stage fire once (R250, R253). -/
def State.tryEntryFree (s : State) (d : Nat) : Option State :=
  match (s.die d).joinDue with
  | .free key :: rest =>
    if !s.admitsMade d then none
    else
      let s1 := s.setDie d { s.die d with joinDue := rest }
      some (match s1.firstHeld d key with
        | none => s1
        | some w => (s1.fire w.1 w.2).modPort (w.2.ports.headD 0) fun q => { q with rot := w.1 % 512 })
  | _ => none

/-- The next event that a die's join unit has noted: an admission, a rise, or a free entry (R252, R253). -/
def State.nextDue (s : State) (d : Nat) : Option State := s.tryWaiterAdmission d <|> s.tryHeadRise d <|> s.tryEntryFree d

/-- Makes n noted events of a die, as far as there are any. -/
def State.settleDue (d : Nat) : Nat → State → State
  | 0, s => s
  | fuel + 1, s => match s.nextDue d with
    | none => s
    | some s1 => State.settleDue d fuel s1

/-- A die whose join unit has no event left: each takes one of those noted, and lets an admission come due only for a message
that it consumes, held by a port or by a waiter. -/
def State.settled (s : State) (d : Nat) : State :=
  State.settleDue d ((s.die d).dueAdmits.length + (s.die d).joinDue.length
    + s.ports.foldl (fun n p => n + p.2.msgs.length + 2 * p.2.waiters.length) 0) s

/-- A die queue of a stage has gained n free entries: each is an event, if a pattern is Held for it (R239, R252). -/
def State.entryFreed (s : State) (d key : Nat) (n : Nat := 1) : State :=
  let x := s.die d
  if s.patterns.any fun q => dieOfPattern q.1 == d && stageKey q.2.plan q.2.stage == key && q.2.heldSince.isSome then
    s.setDie d { x with joinDue := x.joinDue ++ List.replicate n (.free key) } else s

/-- A firing's record fills its reserved entry (R251). -/
def State.tryRecordEntry (s : State) (d : Nat) : Option State :=
  match (s.die d).firing with
  | [] => none
  | t :: rest =>
    let x := { s.die d with firing := rest }
    some (match s.task? t with
      | none => s.setDie d x
      | some r =>
        let k := stageKey r.plan r.stage
        s.setDie d { x with runq := x.runq.put k (x.runq.getD k [] ++ [t]) })

/-- The consumption of a message of `sendw` is told to its group (R259). -/
def State.trySendwComplete (s : State) (gid : Nat) : Option State :=
  match (s.group gid).wait with
  | some (.ticket n r) =>
    let finish (x : Dword) : State :=
      ({ s with tickets := Map.del n s.tickets }.setGroup gid ((s.group gid).setS r x)).finishWait gid
    (match s.tickets.get? n with
     | some (.consumed _ die index) => some (finish (BitVec.ofNat 64 (die * 512 + index)))
     | some (.discarded _) => some (finish (BitVec.allOnes 64))
     | _ => none)
  | _ => none

/-- Messages that are discarded answer the `sendw` that awaits them (R259). -/
def State.discardTicket (s : State) (m : Message) : State :=
  match s.tickets.get? m.ticket with
  | some (.awaited g) => { s with tickets := s.tickets.put m.ticket (.discarded g) }
  | _ => s

/-! Returns (R258). -/

/-- Slots of a die's return pool (R242). -/
def State.returnPool (s : State) (d : Nat) : Nat :=
  65536 - s.ports.foldl (fun n p => if dieOfPort p.1 = d then n + p.2.depth else n) 0

/-- Puts a message back at the head of its port, behind those returned before, and evaluates the port (R247, R258). A
`sendw` not yet told of its consumption goes on awaiting it. -/
def State.giveBackMessage (s : State) (plan key : Nat) (m : Message) : State :=
  match s.ports.get? key with
  | none => s
  | some p =>
    if p.plan ≠ plan then s
    else
      let d := s.die (dieOfPort key)
      let s1 := s.setDie (dieOfPort key) { d with returnsUsed := d.returnsUsed + 1 }
      let s2 := match s1.tickets.get? m.ticket with
        | some (.consumed g _ _) => { s1 with tickets := s1.tickets.put m.ticket (.awaited g) }
        | _ => s1
      let s3 := s2.modPort key fun q =>
        { q with msgs := q.msgs.take q.returned ++ [m] ++ q.msgs.drop q.returned, returned := q.returned + 1 }
      s3.evalPort key

/-- The next message of a task that the supervisor has ended goes back, once the return pool has a slot; after the last
the record is freed (R258). -/
def State.tryReturn (s : State) (t : Nat) : Option State :=
  match s.task? t with
  | none => none
  | some x =>
    if !x.returning then none
    else match x.items.find? fun i => match i with | .message _ _ => true | _ => false with
      | some (.message key m) =>
        let d := dieOfPort key
        if !s.noneDue d || decide (s.returnPool d ≤ (s.die d).returnsUsed) then none
        else
          let rest := x.items.filter fun i => i != .message key m
          let s1 := s.modTask t fun y => { y with items := rest }
          some (s1.giveBackMessage x.plan key m)
      | _ => some { s with tasks := Map.del t s.tasks }

/-! Plan events (R316). -/

/-- The message of an event. -/
def PlanEvent.message (e : PlanEvent) (h code : Nat) : Message :=
  { lo := BitVec.ofNat 64 (e.detail % 2 ^ 32 * 2 ^ 32 + h % 2 ^ 16 * 2 ^ 16 + e.stage % 256 * 2 ^ 8 + code)
    hi := BitVec.ofNat 64 e.detail2, tag := e.merged }

/-- The lowest-coded pending event of a plan is admitted once its fault port has room: at this module's join unit, or at
another's, whose answer its request brings back (R264). -/
def State.tryEventAdmit (s : State) (h : Nat) : Option State :=
  match s.plan? h with
  | none => none
  | some p => match p.pending with
    | [] => none
    | (code, e) :: rest =>
      let key := portKey p.faultPort
      let dev := bits p.faultPort 29 23
      if p.faultPort = 0 then none
      else if dev ≠ s.device then
        if s.answered (.event h) (peerAddr dev 0) then
          some ((s.modPlan h fun q => { q with pending := rest }).land (.event h) (peerAddr dev 0)) else none
      else if !s.noneDue (dieOfPort key) then none
      else match s.ports.get? key with
        | none => none
        | some x =>
          if x.isHead || !x.opened || x.refuses then none
          else some ((s.modPlan h fun q => { q with pending := rest }).takeMessage key (e.message h code))

/-- An event of a plan: it merges with one of its code that waits; else it is sent, or waits (R316). -/
def State.planEvent (s : State) (h code detail detail2 stage : Nat) : State :=
  match s.plan? h with
  | none => s
  | some p =>
    if p.faultPort = 0 then s
    else match p.pending.get? code with
      | some e => s.modPlan h fun q => { q with pending := q.pending.put code { e with merged := min 65535 (e.merged + 1) } }
      | none =>
        let s1 := s.modPlan h fun q => { q with pending := q.pending.put code { detail := detail, detail2 := detail2, stage := stage } }
        if p.pending.isEmpty then (s1.tryEventAdmit h).getD s1 else s1

/-- A drain closes a port: every waiter is refused (R247). The admissions that are due come first (R253). -/
def State.closePort (s0 : State) (key : Nat) : State :=
  let s := s0.settled (dieOfPort key)
  match s.ports.get? key with
  | none => s
  | some p =>
    let s1 := s.modPort key fun q => { q with opened := false, waiters := [] }
    p.waiters.foldl (fun st w => st.refuse w.gid { kind := 6 }) s1

/-- A withdrawn send leaves its waiter list, if it is still there once the admissions that are due are made (R253, R260). -/
def State.withdraw (s0 : State) (key gid : Nat) : State :=
  let s := s0.settled (dieOfPort key)
  s.modPort key fun q => { q with waiters := q.waiters.filter fun w => w.gid != gid }

/-! The send instructions (R259 to R262). -/

/-- Whether the module belongs to a pod: some port of it has trained (R377). -/
def State.inPod (s : State) : Bool := s.uals.any fun p => p.2.everTrained

/-- Whether a device has been declared lost (R343). -/
def State.devGone (s : State) (dev : Nat) : Bool :=
  if dev < 64 then s.devLost0.getLsbD dev else s.devLost1.getLsbD (dev - 64)

/-- The source checks of R259 on S(sa). -/
def portIdBad (v : Nat) : Bool := bits v 63 48 != 0 || bits v 31 30 != 0 || bits v 18 13 != 0

/-- The late entry of a request of the group's present instruction whose answer can never come: a send's outcome is unknown
(R74, R264). -/
def Group.lose (g : Group) (unknown : Bool) : Group :=
  { g.addLate { pc := g.pc, kind := 12, unknown := unknown, rep := 0, no := g.issueNo, words := g.words } with issueNo := g.issueNo + 1 }

/-- A send to another module has a region-lost outcome: a sendw's register is zero (R74, R264). -/
def Group.loseSend (g : Group) (d : Option Nat) : Group :=
  (match d with
   | some r => g.setS r 0
   | none => g).lose true

/-- `send` and `sendw` with the register of the answer (R259, R264). -/
def sendForm (d : Option Nat) (a b : Reg) : Body := ordered fun s =>
  let g := s.me
  let v := (g.getS a.toNat).toNat
  let id := v % 2 ^ 32
  let m : Message := { lo := g.getS b.toNat, hi := g.getS (b.toNat + 1), tag := bits v 47 32 }
  if b.toNat = 127 ∨ portIdBad v then illegal s
  else if bits id 29 23 = s.device then .wait s (.sending id m d)
  else if !s.inPod then .fault s { kind := 6 }
  else if s.devGone (bits id 29 23) then .ok (s.setMe (g.loseSend d))
  else .wait s (.remote id d)

/-- `send`: R259, R260, R264. -/
def sendBody (a b : Reg) : Body := sendForm none a b
def execSend (m : Bool) (a b : Reg) (st : State) : Out := issue m (sendBody a b) st

/-- `sendw`: R259, R260, R264. -/
def sendwBody (d a b : Reg) : Body := withResult (sendForm (some d.toNat) a b)
def execSendw (m : Bool) (d a b : Reg) (st : State) : Out := issue m (sendwBody d a b) st

/-- `pportq`: R261, R264. -/
def pportqBody (d a : Reg) : Body := fun s =>
  let v := (s.me.getS a.toNat).toNat
  let id := v % 2 ^ 32
  if portIdBad v then illegal s
  else if 32 ≤ s.me.outstanding then .wait s .outstanding
  else if portDevice id = s.device then s.push { pc := 0, todo := [.portQuery id d.toNat], result := true }
  else if !s.inPod then s.pushResult [.s d.toNat 0]
  else if s.devGone (portDevice id) then .ok (s.setMe ((s.me.setS d.toNat 0).lose false))
  else s.push { pc := 0, writes := [.s d.toNat 0], result := true, remote := some (portDevice id) }
def execPportq (m : Bool) (d a : Reg) (st : State) : Out := issue m (pportqBody d a) st

/-- The pattern that S(sa) selects, with its die's earlier events made first (R253, R262); the join unit of a die that is off does
nothing (R375; log 96). -/
def patternBody (a : Reg) (f : State → Nat → State) : Body := supervisorOnly (ordered fun s =>
  let v := (s.me.getS a.toNat).toNat
  if 2 ^ 13 ≤ v ∨ !s.patterns.has v then illegal s
  else if (s.die (v / 512)).off then .wait s .service
  else .ok (f (s.settled (v / 512)) v))

/-- `jen`: R253, R262. -/
def jenBody (a : Reg) : Body := patternBody a fun s key => match s.patterns.get? key with
  | some p => if p.disabled then
      (s.modPattern key fun q => { q with disabled := false }).evalPattern key 65536 else s
  | none => s
def execJen (m : Bool) (a : Reg) (st : State) : Out := issue m (jenBody a) st

/-- `jdis`: R262. -/
def jdisBody (a : Reg) : Body := patternBody a fun s key => s.modPattern key fun q => { q with disabled := true, heldSince := none }
def execJdis (m : Bool) (a : Reg) (st : State) : Out := issue m (jdisBody a) st

/-! Doorbells (R246). -/

/-- A host write of the module's doorbell window: `value` is the data, the byte at the lowest address lowest. One that is not well
formed counts as dropped at the port in whose doorbell its first byte lies (log 84). -/
def State.tryDoorbell (s : State) (off len value : Nat) : Option State :=
  let key := off / 32
  if s.hostPortOut ∨ 2 ^ 22 ≤ off ∨ !s.noneDue (dieOfPort key) then none
  else match s.ports.get? key with
    | none => some s
    | some p =>
      if p.isHead then some s
      else if !p.opened || p.refuses || len != 32 || off % 32 != 0 || bits value 255 144 != 0 then
        some (s.modPort key fun q => { q with drops := min 65535 (q.drops + 1) })
      else some (s.takeMessage key { lo := BitVec.ofNat 64 value, hi := BitVec.ofNat 64 (value / 2 ^ 64), tag := bits value 143 128 })

/-- A host read of a doorbell: the status word of its port goes to the host. -/
def State.tryDoorbellRead (s : State) (off : Nat) : Option State :=
  if s.hostPortOut ∨ 2 ^ 22 ≤ off ∨ off % 32 ≠ 0 then none
  else some { s with hostReply := leBytes 8 (((s.ports.get? (off / 32)).map fun p => s.portStatus p).getD 0) }

/-! Requests across the fabric (R264). -/

/-- The device that a group's send has gone to (R264), and the register that its answer goes to. -/
def Group.asked (g : Group) : Option Nat :=
  match g.wait with
  | some (.remote id _) => some (bits id 29 23)
  | some (.remoteTicket id _ _) => some (bits id 29 23)
  | _ => none
def Group.askedReg (g : Group) : Option Nat :=
  match g.wait with
  | some (.remote _ d) => d
  | some (.remoteTicket _ _ d) => some d
  | _ => none

/-- The response to what a group asks of a device has arrived: none while it cannot (R327). -/
def State.heard (s : State) (gid dev : Nat) : Option State :=
  if s.answered (.ask gid) (peerAddr dev 0) then some (s.land (.ask gid) (peerAddr dev 0)) else none

/-- The answer to the oldest `pportq` of a group that awaits one: its register gets the value (R261). -/
def Group.answerQuery (value : Dword) : List Pending → List Pending
  | [] => []
  | p :: rest =>
    if p.remote.isSome then
      { p with remote := none, writes := p.writes.map fun w => match w with | .s r _ => .s r value | x => x } :: rest
    else p :: Group.answerQuery value rest

/-- What a `sendw` can be told: the die and the index of the pattern that consumed its message, or all ones (R259). -/
def sendwValue (v : Nat) : Bool := decide (v < 2 ^ 13) || v == 2 ^ 64 - 1

/-- What a `pportq` can be told: a status word, with no reserved bit set (R261). -/
def statusValue (v : Nat) : Bool := bits v 63 48 == 0 && !bit v 22 && decide (bits v 20 19 ≤ 1)

/-- The kinds with which a join unit refuses a send: permission, port overflow, pipe type (R247, R259). -/
def refusalKind (k : Nat) : Bool := k == 6 || k == 9 || k == 10

/-- The `pportq` of another module that comes next in a group's program order: every access before it has its place (R159, R261). -/
def Group.nextQuery (g : Group) : Option Pending :=
  if (g.out.take g.ahead).all fun p => p.todo.isEmpty then g.out[g.ahead]? else none

/-- Another module answers a group's request: a refusal's kind, or a value (R259, R261, R264). -/
def State.tryAnswer (s : State) (gid : Nat) (kind : Option Nat) (value : Dword) : Option State :=
  let g := s.group gid
  match g.wait with
  | some (.remote id d) => match kind with
    | some k => if !refusalKind k then none else (s.heard gid (bits id 29 23)).map fun u =>
        u.refuse gid (if k = 9 then { kind := 9, src := 4, value := id } else { kind := k })
    | none => match d with
      | some r => if !sendwValue value.toNat then none else (s.heard gid (bits id 29 23)).map fun u =>
          (u.setGroup gid ((u.group gid).setS r value)).finishWait gid
      | none => (s.heard gid (bits id 29 23)).map fun u => u.finishWait gid
  | some (.remoteTicket id _ d) => if kind.isSome || !sendwValue value.toNat then none
      else (s.heard gid (bits id 29 23)).map fun u => (u.setGroup gid ((u.group gid).setS d value)).finishWait gid
  | _ => match g.nextQuery with
    | none => none
    | some p => if kind.isSome || !statusValue value.toNat then none
        else (s.heard gid (p.remote.getD 0)).map fun u =>
          u.setGroup gid { u.group gid with out := Group.answerQuery value (u.group gid).out }

/-- Another module's join unit answers that a group's sendw is admitted, or that its send is withdrawn (R259, R260). -/
def State.tryAdmitted (s : State) (gid ticket : Nat) : Option State :=
  match (s.group gid).wait with
  | some (.remote id (some d)) =>
    if s.answered (.ask gid) (peerAddr (bits id 29 23) 0) then
      some (s.setGroup gid { s.group gid with wait := some (.remoteTicket id ticket d) }) else none
  | _ => none
def State.tryWithdrawn (s : State) (gid : Nat) : Option State :=
  match (s.group gid).wait with
  | some (.remote id _) => (s.heard gid (bits id 29 23)).map fun u =>
      u.setGroup gid { u.group gid with wait := some .withdrawn }
  | _ => none

/-- What a group asked of a device has a region-lost outcome: a send or sendw ends with its outcome unknown, a `pportq` with
zero (R264, R344). -/
def State.loseAsk (s : State) (gid dev : Nat) : State :=
  let g := s.group gid
  if g.asked = some dev then (s.setGroup gid (g.loseSend g.askedReg)).finishWait gid
  else match g.out.find? fun p => p.remote == some dev with
    | none => s
    | some p => s.setGroup gid { g with out := g.out.map fun q =>
        if q.no = p.no then { q.fail 12 0 0 false with remote := none } else q }

/-- What a group has asked of a device that is lost. -/
def State.loseAsks (dev gid : Nat) : Nat → State → State
  | 0, s => s
  | n + 1, s =>
    if (s.group gid).asked = some dev ∨ ((s.group gid).out.any fun p => p.remote == some dev) then
      State.loseAsks dev gid n (s.loseAsk gid dev) else s

/-- Every request to a lost device completes with a region-lost outcome (R264, R344). -/
def State.loseRequests (s : State) (dev : Nat) : State :=
  s.groups.foldl (fun st x => State.loseAsks dev x.1 33 st) s

/-- Another module's sender withdraws its send (R260): it asks on a port of this module (R327). -/
def State.remoteWithdraw (s : State) (via key sender : Nat) : Option State :=
  (s.arrives via 0).map fun t => t.withdraw key (2 ^ 20 + sender)

/-- Another module's send comes in on a port of this module, and reaches a join unit of it (R264, R327). -/
def State.remoteSend (s : State) (via key tenant sender : Nat) (m : Message) (blocking : Bool) : Option State :=
  if s.noneDue (dieOfPort key) then
    (s.arrives via 0).map fun t => t.arriveSend key tenant (2 ^ 20 + sender) m (if blocking then none else some 0) 0
  else none

/-- R245, R252. -/
def execPipeHeadRise (d : Nat) (st : State) : Out := event st (st.tryHeadRise d)

/-- R247, R259. -/
def execMessageAdmission (gid : Nat) (st : State) : Out := event st (st.tryAdmission gid)

/-- R247, R253. -/
def execWaiterAdmission (d : Nat) (st : State) : Out := event st (st.tryWaiterAdmission d)

/-- R258. -/
def execMessageReturn (task : Nat) (st : State) : Out := event st (st.tryReturn task)

/-- R250, R253. -/
def execRunQueueEntryFree (d : Nat) (st : State) : Out := event st (st.tryEntryFree d)

/-- R251. -/
def execTaskRecordEntry (d : Nat) (st : State) : Out := event st (st.tryRecordEntry d)

/-- R259. -/
def execSendwComplete (gid : Nat) (st : State) : Out := event st (st.trySendwComplete gid)

/-- R246. -/
def execHostDoorbellWrite (off len value : Nat) (st : State) : Out := event st (st.tryDoorbell off len value)

/-- R246. -/
def execHostDoorbellRead (off : Nat) (st : State) : Out := event st (st.tryDoorbellRead off)

/-- R316. -/
def execFaultEventAdmit (h : Nat) (st : State) : Out := event st (st.tryEventAdmit h)

end Sys2Proof.Machine
end

