-- ==== Sys2Proof/Machine/MemoryUnits.lean ====
section
/-!
DEFINITION. Host memory (R149, R180), the performing of outstanding accesses and the return of their results (R147,
R161, R185, R186), retry hints, slice maps and the refresh of the Orangery (R137, R151 to R155).
-/

namespace Sys2Proof.Machine

/-- The host lines among n 64-byte lines of virtual addresses from va up, or the first fault (R149): a line of any other page is
skipped, lost or not. -/
def State.hostLines (s : State) (va : Nat) : Nat → Except TrapInfo (List Nat)
  | 0 => .ok []
  | n + 1 => match s.leaf? (s.asker s.me) va with
    | .error k => .error { kind := k, offset := va }
    | .ok e => match s.hostLines (va + 64) n with
      | .error x => .error x
      | .ok ls => .ok (if leafAperture e = 4 then s.place e va / 64 :: ls else ls)

/-- `hflush` and `hinval` (R149): a faulting line is named by the lowest offset of the range in it. A range with no host page is
performed at once. -/
def hostSync (acc : List Nat → Access) (seg a b : Nat) : Body := fun s =>
  let g := s.me
  let base := (g.getS a).toNat
  let len := (g.getS b).toNat
  let sg := g.seg s.cur seg
  if len = 0 then .ok s
  else if sg.space ≠ 2 then illegal s
  else if sg.limit < base + len then .fault s { kind := 4, seg := some seg, offset := base }
  else
    let lo := (sg.base + base) / 64 * 64
    match s.hostLines lo ((sg.base + base + len - 1) / 64 - lo / 64 + 1) with
    | .error x => .fault s { x with seg := some seg, offset := max (sg.base + base) x.offset - sg.base }
    | .ok ls => if ls.isEmpty then .ok s else s.push { pc := 0, todo := [acc ls], seg := some seg }

/-- `hflush`: R149. -/
def hflushBody (g : BitVec 3) (a b : Reg) : Body := hostSync .hostFlush g.toNat a.toNat b.toNat
def execHflush (m : Bool) (g : BitVec 3) (a b : Reg) (st : State) : Out := issue m (hflushBody g a b) st

/-- `hinval`: R149. -/
def hinvalBody (g : BitVec 3) (a b : Reg) : Body := hostSync .hostInvalidate g.toNat a.toNat b.toNat
def execHinval (m : Bool) (g : BitVec 3) (a b : Reg) (st : State) : Out := issue m (hinvalBody g a b) st

/-- A control processor's load of CP_HALTQ (R370). -/
def Access.isHaltq : Access → Bool
  | .ctlLoad a _ => ctlAt a == some .haltq
  | _ => false
def Access.isLoad : Access → Bool
  | .load _ => true
  | .ctlLoad a n => !(Access.ctlLoad a n).isHaltq
  | .pavilion _ => true
  | .portQuery _ _ => true
  | _ => false
def Access.isStore : Access → Bool
  | .store _ _ => true
  | _ => false
def Access.isAtomic : Access → Bool
  | .atomic _ _ _ _ => true
  | _ => false
/-- A marker releases its group once no result is outstanding (R68), and the limit of R71 once fewer than 32 are. -/
def Group.released (g : Group) : Group :=
  { g with
    parked := g.parked && g.resultsOut
    wait := if g.wait = some .outstanding ∧ g.outstanding < 32 then none else g.wait }

/-- An outstanding instruction of a group is complete: what is left of its results and flags is written. A late fault of a
reduction whose group has exited goes to the plan's event 3 (R192, R316). -/
def State.completeAt (s : State) (gid n : Nat) (p : Pending) : State :=
  let g := s.group gid
  let rest : Group := { g with out := dropAt g.out n }
  if g.exited then
    let s1 := s.setGroup gid rest
    match p.failed with
    | some (k, _) => s1.planEvent g.plan 3 k p.failOff (((s.task? g.task).map Task.stage).getD 0)
    | none => s1
  else s.setGroup gid (rest.complete p).released

/-- A result of outstanding instruction n is written: register write k alone (R70); flag f of thread t alone, as number 64 f + t
behind the register writes (R71); or all that is left, with a late fault. -/
def State.tryDeliver (s : State) (gid n k : Nat) (atomic : Bool) : Option State :=
  let g := s.group gid
  match g.out[n]? with
  | none => none
  | some p =>
    if !p.todo.isEmpty || p.atomic != atomic || p.remote.isSome then none
    else match p.writes[k]? with
      | some w => some (s.setGroup gid { g.deliver w with out := setAt g.out n fun q => { q with writes := dropAt q.writes k } })
      | none =>
        let j := k - p.writes.length
        let one := FF.single (j / 64) (j % 64)
        if p.ff.meet one ≠ {} then
          some (s.setGroup gid { g with ff := g.ff.join one, out := setAt g.out n fun q => { q with ff := q.ff.less one } })
        else if p.ff = {} ∨ 320 ≤ j then some (s.completeAt gid n p) else none

/-- A load takes its place, or a Pavilion instruction at its switch; or, all its places taken, its result comes back (R147, R162,
R337). -/
def State.tryLoadReturn (s : State) (gid n k : Nat) : Option State :=
  match s.tryPerform gid Access.isLoad with
  | some s1 => some s1
  | none => s.tryDeliver gid n k false

/-- A refused request is reissued when its hint has expired (R154). -/
def State.tryRetry (s : State) (gid : Nat) : Option State :=
  let g := s.group gid
  match g.retryAt with
  | none => none
  | some t => if t ≤ s.cycle then some (s.setGroup gid { g with retryAt := none }) else none

/-- A slice refuses a group's next access, one to HBM4E of the module, with a hint of 1 to 4,096 cycles (R154). -/
def State.tryRefuse (s : State) (gid cycles : Nat) : Option State :=
  let g := s.group gid
  let sliced (a : Access) : Bool := !(s.placesOf a).isEmpty && (s.placesOf a).all fun x => decide (x < hbmSize)
  if g.retryAt.isNone && (g.nextAccess.any fun x => sliced x.2.2) && decide (1 ≤ cycles) && decide (cycles ≤ 4096) then
    some (s.setGroup gid { g with retryAt := some (s.cycle + cycles) })
  else none

/-- Access n of a group's accesses to host memory is made (R149, R180). -/
def State.tryHostAccess (s : State) (gid n : Nat) : Option State :=
  match (s.group gid).hostAccess n with
  | none => none
  | some x => if s.canPlace gid x.2.2 then some (s.performAt gid x) else none

/-! Slice maps (R151, R155). -/

/-- The entries of a map that name a slice. -/
def entriesOf (m : Map Nat) (slice : Nat) : List Nat := (List.range 256).filter fun i => mapSlice m i == slice

/-- Whether a plan is resident on a die: a stage of an installed plan runs there. -/
def State.planOn (s : State) (d : Nat) : Bool :=
  s.plans.any fun p => p.2.state != .saved && p.2.stages.any fun st => st.sdev == s.device && bit st.dieMask d

/-- A map with each of these entries given to a slice: its number is the next digit of `heirs` to the base 128. -/
def reassign : List Nat → Nat → Map Nat → Map Nat
  | [], _, m => m
  | i :: rest, heirs, m => reassign rest (heirs / 128) (m.put i (heirs % 128))

/-- Slices retire (R155): their entries, in ascending order, move to the slices that `heirs` names, under the next generation, and
leave redirect stubs. -/
def State.trySliceRetire (s : State) (d slices heirs : Nat) : Option State :=
  let x := s.die d
  let gone := (List.range 96).filter fun i => bit slices i
  let moved := (List.range 256).filter fun i => gone.contains (mapSlice x.sliceMap i)
  let map := reassign moved heirs x.sliceMap
  let ok (i : Nat) : Bool := !gone.contains (mapSlice map i) && !(entriesOf x.sliceMap (mapSlice map i)).isEmpty
  if 16 ≤ d ∨ slices = 0 ∨ 2 ^ 96 ≤ slices ∨ !x.stubs.isEmpty ∨ gone.any (fun i => (entriesOf x.sliceMap i).isEmpty) ∨ !moved.all ok
  then none
  else some (s.setDie d { x with stubs := gone, mapGen := (x.mapGen + 1) % 2 ^ 16, sliceMap := map })

/-- Whether every core holds a die's present map. -/
def State.allAcked (s : State) (d : Nat) : Bool := (List.range 2816).all fun c =>
  (s.die (dieOfCore c)).off || (s.mapCopy c d).1 == (s.die d).mapGen

/-- The stub goes once every core has acknowledged (R155). -/
def State.trySliceStubRemove (s : State) (d : Nat) : Option State :=
  let x := s.die d
  if x.stubs.isEmpty || !s.allAcked d then none else some (s.setDie d { x with stubs := [] })

/-- Entries of the map (bits of `entries`) are given to an added slice; no plan is resident on the die (R155). -/
def State.trySliceAdd (s : State) (d slice entries : Nat) : Option State :=
  let x := s.die d
  let own := (List.range 256).filter fun i => bit entries i
  if 96 ≤ slice ∨ 16 ≤ d ∨ own.isEmpty ∨ s.planOn d ∨ !x.stubs.isEmpty then none
  else some (s.setDie d { x with
    mapGen := (x.mapGen + 1) % 2 ^ 16, sliceMap := own.foldl (fun m i => Map.put i slice m) x.sliceMap })

/-- A request hashed under an older map reaches the stub: the requester loads the new map and hashes again (R155). -/
def State.trySliceRedirect (s : State) (gid : Nat) : Option State :=
  match (s.group gid).nextAccess with
  | none => none
  | some x => ((s.placesOf x.2.2).find? (s.meetsStub (unitOf gid))).map fun a => s.loadMap (unitOf gid) (a / 2 ^ 36)

/-- Cycles pass until the next group refreshes (R137). -/
def State.refreshAdvance (s : State) : State := { s with cycle := (s.cycle / 128 + 1) * 128 }

/-! The host (R179, R180). -/

/-- A host write to the Belvedere window takes its place. -/
def State.tryHostBelvedereWrite (s : State) (off len value : Nat) : Option State :=
  if s.hostPortOut ∨ 2 ^ 22 < off + len then none else some (s.writeNum (belvedereAddr off) len value)

/-- A host read of the Belvedere window takes its place; its data go to the host. -/
def State.tryHostBelvedereRead (s : State) (off len : Nat) : Option State :=
  if s.hostPortOut ∨ 2 ^ 22 < off + len then none else some { s with hostReply := s.bytes (belvedereAddr off) len }

/-- A write-combining buffer drains: entry n, with no older store to its line (R149). -/
def State.tryCombineDrain (s : State) (n : Nat) : Option State :=
  match s.writeCombine[n]? with
  | none => none
  | some e =>
    if s.hostPortOut || (s.writeCombine.take n).any (fun x => x.1 / 64 == e.1 / 64) then none
    else some { s.write e.1 e.2 with writeCombine := dropAt s.writeCombine n }

/-- The sectors of 16 bytes that a unit can hold: 128 KiB of an L1, 2 MiB of the host read cache (R14, R149). -/
def hostRoom (unit : Nat) : Nat := if unit < 2816 then 8192 else 131072

/-- The L1 of a core takes a sector of host memory as it reads it; or the host read cache, for unit 2,816, the present one; each as
far as it has room (R149, R150). -/
def State.hostFill (s : State) (unit sector : Nat) : State :=
  let k := hostSector unit sector
  if hostRoom unit ≤ (s.hostCopies.filter fun x => x.1 / 2 ^ 43 == k / 2 ^ 43 && x.1 != k).length then s
  else { s with hostCopies := s.hostCopies.put k ((List.range 16).map fun i => s.hostByte unit (sector * 16 + i)) }

/-- It drops a sector. -/
def State.hostDrop (s : State) (unit sector : Nat) : State := { s with hostCopies := s.hostCopies.del (hostSector unit sector) }

/-- A load of a group takes its place, or the result of its outstanding instruction n is written (R147, R162). -/
def execLoadResultReturn (gid n k : Nat) (st : State) : Out := event st (st.tryLoadReturn gid n k)

/-- R161. -/
def execStorePerformed (gid : Nat) (st : State) : Out := event st (st.tryPerform gid Access.isStore)

/-- R154. -/
def execRetryHintExpiry (gid : Nat) (st : State) : Out := event st (st.tryRetry gid)

/-- R155. -/
def execSliceRedirect (gid : Nat) (st : State) : Out := event st (st.trySliceRedirect gid)

/-- R155. -/
def execSliceRetire (d slices heirs : Nat) (st : State) : Out := event st (st.trySliceRetire d slices heirs)

/-- R155. -/
def execSliceStubRemove (d : Nat) (st : State) : Out := event st (st.trySliceStubRemove d)

/-- R155. -/
def execSliceAdd (d slice entries : Nat) (st : State) : Out := event st (st.trySliceAdd d slice entries)

/-- R137. -/
def execOrangeryRefreshAdvance (st : State) : Out := .next st.refreshAdvance

/-- R149, R180. -/
def execHostSyncPerformed (gid : Nat) (st : State) : Out := event st (st.tryPerform gid Access.isHost)

/-- R179. -/
def execHostBelvedereWrite (off len value : Nat) (st : State) : Out := event st (st.tryHostBelvedereWrite off len value)

/-- R179. -/
def execHostBelvedereRead (off len : Nat) (st : State) : Out := event st (st.tryHostBelvedereRead off len)

/-- R149. -/
def execHostWriteCombineDrain (n : Nat) (st : State) : Out := event st (st.tryCombineDrain n)

/-- R185. -/
def execAtomicRequestAtHome (gid : Nat) (st : State) : Out := event st (st.tryPerform gid Access.isAtomic)

/-- R186, R192. -/
def execAtomicReply (gid n k : Nat) (st : State) : Out := event st (st.tryDeliver gid n k true)

end Sys2Proof.Machine
end

