-- ==== Sys2Proof/Machine/Engine.lean ====
section
/-!
DEFINITION. Engine accesses (R168): where a byte of a side of a copy lies, the checks made when a piece is performed
(R211), and the reading and writing of one piece.
-/

namespace Sys2Proof.Machine

/-- Whose copy it is: the asker of its translations, its plan and task, its core, and what its requests travel as. -/
structure Owner where
  who : Asker
  plan : Nat
  task : Nat
  core : Nat
  flight : Flight
  deriving DecidableEq, Repr

/-- The place of a slot's bytes: L2, the spill region, or both while a refill moves them (R225, R226). Answers each
place with its key id. -/
def State.slotPlaces (s : State) (o : Owner) (dst : Bool) (e : Side) (off : Nat) : Except Nat (List (Nat × Nat)) :=
  match s.pipe? o.plan e.pipe with
  | none => .error 11
  | some p =>
    if s.homeLost p then .error 12
    else match p.slot? e.seq with
      | none => .error 11
      | some (k, sl) =>
        let held := if e.dir then sl.cs[e.cursor]? == some (.claimed o.task)
          else sl.owner == o.task && (sl.st == .reserved || (e.wasReserved && sl.st == .committed))
        if !held then .error 11
        else
          let l2 := (slotPlace o.plan e.pipe sl.pos off, 0)
          let spill : Except Nat (List (Nat × Nat)) :=
            let va := p.spillVA k off
            match s.leafFor (s.planAsker o.plan (2816 + p.home % 16)) false va with
            | .error k => .error k
            | .ok l => match s.leafDenies { r := !dst, w := dst } l with
              | some k => .error k
              | none => .ok [(s.place l va, leafKey l)]
          match sl.loc with
          | .l2 => .ok [l2]
          | .given => .error 11
          | .spill => spill
          | .refill => if dst then spill.map (l2 :: ·) else .ok [l2]

/-- The offset of byte o of row r in a side's own address form (R204, R205). -/
def Side.offset (e : Side) (r o : Nat) : Nat := r * e.pitch + swizzle e.swz r o

/-- The checks of R211 on n bytes of a sector from byte o of row r of a side on, and the places of the first with their key
ids. -/
def State.sidePlaces (s : State) (w : Owner) (dst : Bool) (e : Side) (r o : Nat) (n : Nat := 1) :
    Except Nat (List (Nat × Nat)) :=
  if e.isSlot then s.slotPlaces w dst e (e.offset r o)
  else
    let a := e.base + e.offset r o
    if e.space = 2 ∨ e.space = 4 then
      match s.leafFor w.who (e.space == 4) a with
      | .error k => .error k
      | .ok l => match s.leafDenies { r := !dst, w := dst } l with
        | some k => .error k
        | none => .ok [(s.place l a, leafKey l)]
    else if dst ∧ e.space = 3 ∧ s.orangeryMapped (dieOfCore w.core) (a - orangeryAddr (dieOfCore w.core) 0)
        (a - orangeryAddr (dieOfCore w.core) 0 + n) then .error 14
    else .ok [(a, 0)]

/-- The failing offset a trap record names: the record's own offset of the byte (R213). -/
def Side.failing (e : Side) (r o : Nat) : Nat := e.recBase + e.offset r o

/-- Bytes to the end of the 16-byte sector that holds a place. -/
def toSector (a : Nat) : Nat := 16 - a % 16

/-- Bytes of a row from byte o on that lie one after another: a swizzle moves chunks of 16 (R205). -/
def Side.chunk (e : Side) (o : Nat) : Nat := if e.swz = 0 then 16 else 16 - o % 16

/-- Bytes to the end of the sector of byte o of row r of a side, as far as they lie one after another. -/
def State.sideRoom (s : State) (w : Owner) (dst : Bool) (e : Side) (r o : Nat) : Nat :=
  min (e.chunk o) (match s.sidePlaces w dst e r o with
    | .ok (p :: _) => toSector p.1
    | _ => 16)

/-- Every place that a piece of a side at byte o of row r has to reach: its own, and its slot's home where another unit has
that (R230). -/
def State.sideStops (s : State) (w : Owner) (dst : Bool) (e : Side) (r o : Nat) : List Nat :=
  (match s.sidePlaces w dst e r o with
   | .ok ps => ps.map Prod.fst
   | .error _ => []) ++ (if e.isSlot then ((s.pipe? w.plan e.pipe).bind s.homePlace).toList else [])

/-- Whether a piece of a side can be performed now: its request can be answered, and its home serves it (R137, R327). -/
def State.sideOpen (s : State) (w : Owner) (dst : Bool) (e : Side) (r o : Nat) : Bool :=
  (s.sideStops w dst e r o).all (s.canMove w.flight (!dst))

/-- The response to a piece's request arrives; at a redirect stub the engine has taken the present map (R155). -/
def State.sideLand (s : State) (w : Owner) (stops : List Nat) : State :=
  stops.foldl (fun st a => (st.land w.flight a).redirect w.who.unit a) s

/-- Reads n bytes of one sector of a side: the state afterwards and the bytes, or the fault's kind (R211). -/
def State.readSide (s : State) (w : Owner) (e : Side) (r o n : Nat) : Except Nat (State × List Byte) :=
  match s.sidePlaces w false e r o with
  | .error k => .error k
  | .ok ps =>
    let p := ps.headD (0, 0)
    if s.addrLost p.1 then .error 12
    else if s.readsBad w.who p.2 p.1 n then .error 8
    else .ok ((s.afterRead w.who p.2 p.1).sideLand w (s.sideStops w false e r o), s.readPiece w.who p.2 p.1 n)

/-- Writes the bytes of one sector of a side, or answers the fault's kind (R211). -/
def State.writeSide (s : State) (w : Owner) (e : Side) (r o : Nat) (bs : List Byte) : Except Nat State :=
  match s.sidePlaces w true e r o bs.length with
  | .error k => .error k
  | .ok ps =>
    if ps.any fun p => s.addrLost p.1 then .error 12
    else .ok ((ps.foldl (fun st p => st.writePiece w.who p.2 p.1 bs) s).sideLand w (s.sideStops w true e r o))

/-- The length of the piece that starts at linear byte `lin` of a copy of rows of rb bytes: to the end of its range, of
its row, and of its sector (R168). -/
def pieceLen (rb lin hi room : Nat) : Nat := min room (min (hi - lin) (rb - lin % rb))

/-! Staging (R277, R286). -/

/-- A stage for rows of rb bytes of a side. -/
def Stage.start (e : Side) (rows rb : Nat) : Stage :=
  { side := e, rows := rows, rb := rb, bytes := List.replicate (rows * rb) 0
    todo := if rows * rb = 0 then [] else [(0, rows * rb)] }

/-- Bytes have reached a stage. -/
def Stage.fill (g : Stage) (lin : Nat) (bs : List Byte) : Stage :=
  { g with bytes := overlay g.bytes lin bs, todo := takeRange lin bs.length g.todo }

/-- A side's address of its byte 0, as far as its sectors go: a slot starts one (R225). -/
def Side.origin (e : Side) : Nat := if e.isSlot then 0 else e.base

/-- The bytes of row r of a side, of rows of rb bytes, that lie in sector q of its address form, as runs: the first of each, and
how many. A sector may hold parts of two swizzled chunks (R205). -/
def Side.runs (e : Side) (rb q r : Nat) : List (Nat × Nat) :=
  let start := e.origin + r * e.pitch
  let lo := 16 * q - start
  let hi := 16 * q + 16 - start
  let cut := min hi (lo + e.chunk lo)
  [(lo, cut), (cut, hi)].filterMap fun x =>
    let o := swizzle e.swz r x.1
    let n := min (x.2 - x.1) (rb - o)
    if n = 0 then none else some (o, n)

/-- What a stage takes from the sector that holds a linear byte of it: runs of linear bytes. Every row that has bytes there is
read with it, since each sector gives its old or its new contents (R272, R283). -/
def Stage.sector (g : Stage) (lin : Nat) : List (Nat × Nat) :=
  let q := (g.side.origin + g.side.offset (lin / g.rb) (lin % g.rb)) / 16
  (List.range g.rows).flatMap fun r => (g.side.runs g.rb q r).map fun x => (r * g.rb + x.1, x.2)

/-- Reads runs of linear bytes of a stage: the state and the filled stage, or the fault and its offset. -/
def State.stageRuns (w : Owner) : List (Nat × Nat) → State → Stage → Except (Nat × Nat) (State × Stage)
  | [], s, g => .ok (s, g)
  | x :: rest, s, g => match s.readSide w g.side (x.1 / g.rb) (x.1 % g.rb) x.2 with
    | .error k => .error (k, g.side.failing (x.1 / g.rb) (x.1 % g.rb))
    | .ok y => State.stageRuns w rest y.1 (g.fill x.1 y.2)

/-- Reads the sector of a stage that holds a linear byte, whole (R168): the state, the filled stage, or the fault and its offset;
none if it has been read, or cannot be now. -/
def State.stagePiece (s : State) (w : Owner) (g : Stage) (lin : Nat) : Option (Except (Nat × Nat) (State × Stage)) :=
  if (rangeEnd lin g.todo).isNone || !s.sideOpen w false g.side (lin / g.rb) (lin % g.rb) then none
  else some (State.stageRuns w (g.sector lin) s g)

/-- A matrix command's stage, and a change of it. -/
def MatrixCmd.stage (c : MatrixCmd) (i : Nat) : Stage := c.stages.getD i {}
def MatrixCmd.setStage (c : MatrixCmd) (i : Nat) (g : Stage) : MatrixCmd := { c with stages := setAt c.stages i fun _ => g }

/-- The command of a number that a task holds, queued or started. -/
def Task.cmd? (t : Task) (id : Nat) : Option MatrixCmd := (t.going ++ t.cmds).find? fun c => c.id == id

/-- Changes a command of a task. -/
def Task.modCmd (t : Task) (id : Nat) (f : MatrixCmd → MatrixCmd) : Task :=
  { t with going := t.going.map fun c => if c.id = id then f c else c
           cmds := t.cmds.map fun c => if c.id = id then f c else c }

/-- Whether a stage belongs to A: A itself, its plane, and its metadata. -/
def stageOfA (stage : Nat) : Bool := decide (stage ≤ 1) || stage == 4

/-- A command fails (R280): its first failure stands; the first in reading A is what latched commands fail with. -/
def MatrixCmd.fail (c : MatrixCmd) (stage kind off : Nat) : MatrixCmd :=
  { c with failed := some (c.failed.getD (kind, off))
           failedA := if stageOfA stage then some (c.failedA.getD (kind, off)) else c.failedA }

/-- A command of a task fails; a failure in reading A empties the latch it was to set (R280). -/
def Task.failCmd (t : Task) (id stage kind off : Nat) : Task :=
  let u := t.modCmd id fun c => c.fail stage kind off
  if stageOfA stage ∧ (t.latch.map LatchIssue.cmd) = some id then { u with latch := none } else u

/-- Whether a stage is not to be read any more: its own operand has failed. -/
def MatrixCmd.gaveUp (c : MatrixCmd) (stage : Nat) : Bool :=
  if stageOfA stage then c.failedA.isSome else c.failed.isSome

/-- Whether a stage is filled, or given up. -/
def MatrixCmd.settled (c : MatrixCmd) (stage : Nat) : Bool := (c.stage stage).todo.isEmpty || c.gaveUp stage

/-- The owner of a task's engine accesses. -/
def State.taskOwner (s : State) (t : Nat) (who : Asker) : Owner :=
  match s.task? t with
  | some x => ⟨who, x.plan, t, x.core, .entry x.core 3⟩
  | none => ⟨who, 0, t, 0, .entry 0 3⟩

/-- Performs the piece of a command's stage that starts at a linear byte (R168, R286); a failure fails the command. -/
def State.cmdPiece (s : State) (t id stage lin : Nat) : Option State :=
  match s.task? t with
  | none => none
  | some x => match x.cmd? id with
    | none => none
    | some c =>
      if c.gaveUp stage then none
      else match s.stagePiece (s.taskOwner t c.who) (c.stage stage) lin with
        | none => none
        | some (.error e) => some (s.modTask t fun y => y.failCmd id stage e.1 e.2)
        | some (.ok r) => some (r.1.modTask t fun y => y.modCmd id fun d => d.setStage stage r.2)

end Sys2Proof.Machine
end

