-- ==== Sys2Proof/Machine/Copies.lean ====
section
/-!
DEFINITION. The copy engine (R202 to R222): the instructions that enter entries, tokens and waits, acknowledged
multicast, bulk streams, and the steps of the engine.
-/

namespace Sys2Proof.Machine

/-! Queues and tokens. -/

def Core.queue (c : Core) (q : Nat) : List Entry := c.queues.getD q []
def Core.setQueue (c : Core) (q : Nat) (l : List Entry) : Core := { c with queues := c.queues.putD [] q l }

/-- Enters an entry into a queue of a core. -/
def State.enter (s : State) (core q : Nat) (e : Entry) : State :=
  let c := s.core core
  { s.setCore core (c.setQueue q (c.queue q ++ [{ e with id := s.nextTicket }])) with nextTicket := s.nextTicket + 1 }

/-- The head of a queue. -/
def State.head? (s : State) (core q : Nat) : Option Entry := ((s.core core).queue q).head?

/-- Replaces the head of a queue. -/
def State.setHead (s : State) (core q : Nat) (e : Entry) : State :=
  s.setCore core ((s.core core).setQueue q (e :: ((s.core core).queue q).tail))

/-- Nothing awaits an answer for the head of a queue any more. -/
def State.forgetEntry (s : State) (core q : Nat) : State := s.forget fun f => f == .entry core q

/-- The head of a queue leaves it. -/
def State.dropHead (s : State) (core q : Nat) : State :=
  (s.forgetEntry core q).setCore core ((s.core core).setQueue q ((s.core core).queue q).tail)

/-- Whether a group's queue has no room, or its token no count left: the group is not eligible (R202, R207). -/
def State.noRoom (s : State) (q : Nat) : Bool := decide (32 ≤ (s.myCore.queue q).length)
def Group.tokenFull (g : Group) (k : Nat) : Bool := decide (255 ≤ (g.token k).pend)

/-- PEND[k] + 1, when an operation issues (R207). -/
def Group.tokenUp (g : Group) (k : Nat) : Group := g.setToken k { g.token k with pend := (g.token k).pend + 1 }

/-- PEND[k] − 1 in the group of a task, when an operation completes; a group whose task has ended holds no token. -/
def State.tokenDown (s : State) (gid task : Nat) (k : Option Nat) : State :=
  match k, s.groups.get? gid with
  | some n, some g =>
    if g.task = task then s.setGroup gid (g.setToken n { g.token n with pend := (g.token n).pend - 1 }) else s
  | _, _ => s

/-- The first fault of an operation goes to its token's fault slot, unless the slot is full (R207). -/
def State.tokenFail (s : State) (gid task : Nat) (k : Option Nat) (f : TokenFault) : State :=
  match k, s.groups.get? gid with
  | some n, some g =>
    if g.task = task ∧ (g.token n).fault.isNone then s.setGroup gid (g.setToken n { g.token n with fault := some f }) else s
  | _, _ => s

/-! The checks of R209 and R210. -/

/-- Steps 1 to 3 over the records, in the order given, and an object. Uncorrectable bytes come between steps 2 and 3
(log 88). -/
def State.copyRecords (s : State) (offs : List Nat) (obj : Option Nat) : Except TrapInfo (List Rec) :=
  let objs := obj.toList
  match firstOf (offs.map (teamAlign · 32) ++ objs.map (teamAlign · 8) ++ offs.map (s.teamInside · 32)
      ++ objs.map (s.teamInside · 8) ++ offs.map (s.teamBad · 32) ++ objs.map (s.teamBad · 8)) with
  | some e => .error e
  | none =>
    let rs := offs.map s.recAt
    match firstOf ((List.zip offs rs).map (fun x => if x.2.ok then none else some { kind := 1, offset := x.1 })
        ++ objs.map s.objectReserved) with
    | some e => .error e
    | none => .ok rs

/-- Step 5 for a pair: the size, the destination's pitch, two slots, then compatibility (R209, R210). The size is the source's
(log 90). -/
def pairFault (dst src : Rec) : Option TrapInfo :=
  if 2 ^ 24 < src.rows * src.rb || (decide (1 < dst.rows) && decide (dst.pitch < dst.rb)) || (dst.kind == 1 && src.kind == 1) then
    some { kind := 1 }
  else if compatible dst.rows dst.rb dst.fmt src.rows src.rb src.fmt then none
  else some { kind := if dst.kind = 1 ∨ src.kind = 1 then 10 else 1 }

/-- All checks of a copy from one record to another (R209), with a further test at step 5: the two records. Steps 6 and 7 take the
destination first, then the source (log 78). -/
def State.copyCheck (s : State) (dst src : Nat) (obj : Option Nat) (more : Rec → Rec → Option TrapInfo) :
    Except TrapInfo (Rec × Rec) :=
  match s.copyRecords [dst, src] obj with
  | .error e => .error e
  | .ok rs =>
    let d := rs.headD {}
    let r := rs.getD 1 {}
    let space (x : Rec) : Option TrapInfo := if s.recSpaceOk x then none else some { kind := 1 }
    match firstOf [space d, space r, more d r, pairFault d r, s.recSegment true d, s.recSegment false r, s.recPipe true d,
        s.recPipe false r] with
    | some e => .error e
    | none => .ok (d, r)

/-- A byte-count object named by a register field; field 0 names none (R40). -/
def Group.object (g : Group) (c : Reg) : Option Nat := if c.toNat = 0 then none else some (g.getS c.toNat).toNat

/-- The entry of a checked pair of records. -/
def State.entryOf (s : State) (kind : EntryKind) (k : BitVec 3) (dst src : Nat) (d r : Rec) (obj : Option Nat) : Entry :=
  { kind := kind, who := s.asker s.me, owner := s.cur, token := some k.toNat, dst := s.sideOf dst d, src := s.sideOf src r
    rows := r.rows, rb := r.rb, obj := obj.map s.teamAddr, task := s.me.task, plan := s.me.plan }

/-- An instruction that enters one entry: not eligible without room in the queue and the token (R202, R207). -/
def entering (q : Nat) (k : BitVec 3) (b : Body) : Body := coreOnly (ordered fun s =>
  if s.noRoom q || s.me.tokenFull k.toNat then .wait s .room else b s)

/-- Enters the entry and counts it by its token. -/
def State.enterCounted (s : State) (q : Nat) (k : BitVec 3) (e : Entry) : Eff :=
  .ok ((s.setMe (s.me.tokenUp k.toNat)).enter (coreOfGid s.cur) q e)

/-- `cpy`: R208 to R211. -/
def cpyBody (q : BitVec 2) (k : BitVec 3) (a b c : Reg) : Body := entering q.toNat k fun s =>
  let dst := (s.me.getS a.toNat).toNat
  let src := (s.me.getS b.toNat).toNat
  let obj := s.me.object c
  match s.copyCheck dst src obj fun _ _ => none with
  | .error e => .fault s e
  | .ok (d, r) => s.enterCounted q.toNat k (s.entryOf .copy k dst src d r obj)
def execCpy (m : Bool) (q : BitVec 2) (k : BitVec 3) (a b c : Reg) (st : State) : Out := issue m (cpyBody q k a b c) st

/-- The restrictions of `cpy.row` at step 5: a KIND 0 source in the global space, and a stream of the own group (R220). -/
def State.rowFault (s : State) (q : Nat) (src : Rec) : Option TrapInfo :=
  if src.kind ≠ 0 ∨ src.space ≠ 2 then some { kind := 1 }
  else match s.myCore.streams.get? q with
    | some x => if x.owner ≠ s.cur then some { kind := 1 } else none
    | none => none

/-- `cpy.row`: R209, R210, R220. -/
def cpyRowBody (k : BitVec 3) (a b : Reg) (q : BitVec 2) : Body := entering q.toNat k fun s =>
  let dst := (s.me.getS a.toNat).toNat
  let src := (s.me.getS b.toNat).toNat
  match s.copyCheck dst src none fun _ r => s.rowFault q.toNat r with
  | .error e => .fault s e
  | .ok (d, r) => s.enterCounted q.toNat k (s.entryOf .row k dst src d r none)
def execCpyRow (m : Bool) (k : BitVec 3) (a b : Reg) (q : BitVec 2) (st : State) : Out := issue m (cpyRowBody k a b q) st

/-- `cpy.close`: R221. -/
def cpyCloseBody (k : BitVec 3) (q : BitVec 2) : Body := entering q.toNat k fun s =>
  s.enterCounted q.toNat k
    { kind := .close, owner := s.cur, token := some k.toNat, dst := {}, src := {}, rows := 0, rb := 0, obj := none
      task := s.me.task, plan := s.me.plan }
def execCpyClose (m : Bool) (k : BitVec 3) (q : BitVec 2) (st : State) : Out := issue m (cpyCloseBody k q) st

/-- `qfence`: R215. -/
def qfenceBody (k : BitVec 3) (q : BitVec 4) : Body := coreOnly (ordered fun s =>
  let qs := (List.range 4).filter fun n => q.getLsbD n
  if qs.isEmpty then illegal s
  else if s.me.tokenFull k.toNat || qs.any s.noRoom then .wait s .room
  else
    let e : Entry := { kind := .fence s.nextTicket, owner := s.cur, token := some k.toNat, dst := {}, src := {}, rows := 0, rb := 0
                       obj := none, task := s.me.task, plan := s.me.plan }
    .ok (qs.foldl (fun st n => st.enter (coreOfGid s.cur) n e)
      { s.setMe (s.me.tokenUp k.toNat) with nextTicket := s.nextTicket + 1 }))
def execQfence (m : Bool) (k : BitVec 3) (q : BitVec 4) (st : State) : Out := issue m (qfenceBody k q) st

/-- The lowest token of a mask whose fault slot is full, with what it holds (R213). -/
def Group.faulted (g : Group) (mask : BitVec 8) : Option (Nat × TokenFault) :=
  (List.range 8).findSome? fun k => if mask.getLsbD k then (g.token k).fault.map fun f => (k, f) else none

/-- The trap of a token's stored fault (R213, R352). -/
def tokenTrap (k : Nat) (f : TokenFault) : TrapInfo :=
  { kind := f.kind, src := 1, token := k, queue := f.queue, dstRec := f.dstRec, srcRec := f.srcRec, offset := f.offset }

/-- Whether every token of a mask is complete. -/
def Group.complete? (g : Group) (mask : BitVec 8) : Bool :=
  (List.range 8).all fun k => !mask.getLsbD k || (g.token k).pend == 0

/-- `kwait`: R213. -/
def kwaitBody (k : BitVec 8) : Body := coreOnly (ordered fun s =>
  let g := s.me
  if !g.complete? k then .wait s (.tokens k.toNat)
  else match g.faulted k with
    | some (n, f) => .fault (s.setMe (g.setToken n { g.token n with fault := none })) (tokenTrap n f)
    | none => .ok s)
def execKwait (m : Bool) (k : BitVec 8) (st : State) : Out := issue m (kwaitBody k) st

/-- `kwait.obj`: R214. The tests of the space and of the alignment stand before the checks of R146 (log 91). -/
def kwaitObjBody (d a : Reg) (g : BitVec 3) : Body := withResult (coreOnly (ordered fun s =>
  let gp := s.me
  let sg := gp.seg s.cur g.toNat
  let off := (gp.getS a.toNat).toNat
  let bad : TrapInfo := { kind := 1, seg := some g.toNat, offset := off }
  if sg.space ≠ 1 ∨ off % 8 ≠ 0 then .fault s bad
  else match s.checkAccess s.cur (s.asker gp) g.toNat sg { r := true } none off 8 with
    | .error e => .fault s e
    | .ok _ =>
      let addr := s.target s.cur sg 0 off
      match s.objectBad addr with
      | some k => .fault s { bad with kind := k }
      | none => match objectAnswer (s.num addr 8) with
        | some x => s.pushResult [.s d.toNat (BitVec.ofNat 64 x)]
        | none => .wait s (.object addr d.toNat g.toNat off)))
def execKwaitObj (m : Bool) (d a : Reg) (g : BitVec 3) (st : State) : Out := issue m (kwaitObjBody d a g) st

/-! Acknowledged multicast: issue. -/

/-- The readiness key of a channel: cores hold at most one (R216). -/
def Core.readiness (c : Core) (ch : Nat) : Option Readiness := c.ready.get? ch

/-- `mcready`: R216. The tests of the channel stand before the steps of R209 (log 91). -/
def mcreadyBody (d a b : Reg) : Body := coreOnly (ordered fun s =>
  let g := s.me
  let ch := (g.getS d.toNat).toNat
  let off := (g.getS a.toNat).toNat
  let obj := g.object b
  if 16 ≤ ch ∨ (s.myCore.readiness ch).isSome then illegal s
  else match s.copyRecords [off] obj with
    | .error e => .fault s e
    | .ok rs =>
      let r := rs.headD {}
      if r.kind ≠ 0 ∨ r.space ≠ 1 ∨ !s.recSpaceOk r ∨ 2 ^ 24 < r.rows * r.rb ∨ (1 < r.rows ∧ r.pitch < r.rb) then illegal s
      else match s.recSegment true r with
        | some e => .fault s e
        | none =>
          let x : Readiness := ⟨s.cur, s.sideOf off r, r.rows, r.rb, obj.map s.teamAddr⟩
          .ok (s.setCore (coreOfGid s.cur) { s.myCore with ready := s.myCore.ready.put ch x }))
def execMcready (m : Bool) (d a b : Reg) (st : State) : Out := issue m (mcreadyBody d a b) st

/-- `cpy.mc`: R217. The tests of S(sa) stand before the steps of R209 (log 91). -/
def cpyMcBody (q : BitVec 2) (k : BitVec 3) (a b c : Reg) : Body := entering q.toNat k fun s =>
  let g := s.me
  let w := (g.getS a.toNat).toNat
  let core := coreOfGid s.cur
  let cores := ((List.range 8).filter fun i => bit w i).map fun i => clusterOfCore core * 8 + i
  let src := (g.getS b.toNat).toNat
  let obj := g.object c
  if 2 ^ 12 ≤ w ∨ cores.isEmpty ∨ cores.contains core then illegal s
  else match s.copyRecords [src] obj with
    | .error e => .fault s e
    | .ok rs =>
      let r := rs.headD {}
      if !s.recSpaceOk r || decide (2 ^ 24 < r.rows * r.rb) then illegal s
      else match firstOf [s.recSegment false r, s.recPipe false r] with
        | some e => .fault s e
        | none => s.enterCounted q.toNat k
            { kind := .multicast (bits w 11 8) cores, who := s.asker g, owner := s.cur, token := some k.toNat, dst := {}
              src := s.sideOf src r, rows := r.rows, rb := r.rb, obj := obj.map s.teamAddr, task := g.task, plan := g.plan }
def execCpyMc (m : Bool) (q : BitVec 2) (k : BitVec 3) (a b c : Reg) (st : State) : Out := issue m (cpyMcBody q k a b c) st

/-! The engine. -/

/-- The owner of an entry's accesses. -/
def Entry.as (e : Entry) (core q : Nat) : Owner := ⟨e.who, e.plan, e.task, core, .entry core q⟩

/-- The object that a piece for a destination is counted by. -/
def Entry.objectOf (e : Entry) (dest : Nat) : Option Nat :=
  if dest = 0 then e.obj else ((e.ready.find? fun x => x.1 + 1 == dest).map fun x => x.2.2).getD none

/-- The bytes that have been written are counted by their objects (R206, R211). -/
def State.countWritten (s : State) (e : Entry) : State := e.moving.foldl (fun st m => st.countDown (e.objectOf m.dest) m.count) s

/-- An entry stops on a fault (R211, R219): the bytes performed are counted, FAULT is set in its object, and the fault stored
in its token, or in the task it prefetches for, whose tile becomes free bytes (R257). A multicast's parked copy is
discarded, and every receiver's object gets FAULT: that of one sorted Ready, and that of the readiness which a receiver
holds on the channel (R219; log 64). -/
def State.stopEntry (s : State) (core q : Nat) (e : Entry) (kind off : Nat) : State :=
  let s1 := (((s.forgetEntry core q).setHead core q { e with stopped := true, todo := [], moving := [] }).countWritten e).objectFault e.obj
  match e.kind with
  | .prefetch t i =>
    let n := e.rows * e.rb
    let s2 := { s1.write e.dst.base ((List.range n).map fun j => Config.freeByte (s1.freeCtr + j)) with freeCtr := s1.freeCtr + n }
    s2.modTask t fun x => { x with prefFailed := some (x.prefFailed.getD (kind, i, off)) }
  | .multicast ch rs =>
    let s2 := s1.tokenFail e.owner e.task e.token ⟨kind, q, e.dst.recOff, e.src.recOff, off⟩
    let s3 := rs.foldl (fun st i => st.objectFault (match e.ready.find? fun x => x.1 == i with
      | some x => x.2.2
      | none => ((s.core i).ready.get? ch).bind Readiness.obj)) s2
    let cl := s3.cluster (clusterOfCore core)
    s3.setCluster (clusterOfCore core) { cl with parked := cl.parked.filter fun p => p.id != e.id }
  | .tileMove id => s1.modTask e.task fun y => y.failCmd id 0 kind off
  | _ => s1.tokenFail e.owner e.task e.token ⟨kind, q, e.dst.recOff, e.src.recOff, off⟩

/-- The bank of a local HBM4E address: its stack, and its number among the 1,024 of the stack (R295). -/
def stackOf (a : Nat) : Nat := a / 2 ^ 36
def bankOf (a : Nat) : Nat := a / 256 % 64 * 16 + a / 16384 % 16

/-- Reservations a stack's controller honours now (R220). -/
def State.reserved (s : State) (stack : Nat) : Nat :=
  s.cores.foldl (fun n c => n + (c.2.streams.filter fun x => x.2.stack == stack && !x.2.timedOut).length) 0

/-- An entry starts, with everything to move. -/
def State.startEntry (s : State) (core q : Nat) (e : Entry) : State :=
  { s.setHead core q { e with started := true, startNo := s.nextTicket, todo := [(0, e.rows * e.rb)] } with
    nextTicket := s.nextTicket + 1 }

/-- A `cpy.row` entry starts: it opens a stream where none is open and its first source byte lies in local HBM4E; a
seventeenth reservation waits; a stream that timed out stops the entry (R220, R221). Where another group has opened a stream since
the entry was made, it runs in that one (log 92). -/
def State.startRow (s : State) (core q : Nat) (e : Entry) : Option State :=
  let go := s.startEntry core q e
  match (s.core core).streams.get? q with
  | some x => if x.timedOut then some (s.stopEntry core q { e with started := true } 13 e.src.recBase) else some go
  | none => match s.sidePlaces (e.as core q) false e.src 0 0 with
    | .ok (p :: _) =>
      if hbmSize ≤ p.1 then some go
      else if 16 ≤ s.reserved (stackOf p.1) then none
      else
        let c := go.core core
        some (go.setCore core { c with streams := c.streams.put q ⟨e.owner, stackOf p.1, bankOf p.1, s.cycle, false⟩ })
    | _ => some go

/-- The next entry of a queue starts, every earlier one having completed (R202). -/
def State.tryEntryStart (s : State) (core q : Nat) : Option State :=
  match s.head? core q with
  | none => none
  | some e =>
    if e.started then none
    else match e.kind with
      | .row => s.startRow core q e
      | .fence _ => none
      | .close => none
      | .fetch _ _ => some (s.setHead core q { e with started := true })
      | _ => some (s.startEntry core q e)

/-- A parked copy takes a piece (R217); it is whole when nothing is left. -/
def State.parkPiece (s : State) (core : Nat) (e : Entry) (lin : Nat) (bs : List Byte) (full : Bool) : State :=
  let cl := s.cluster (clusterOfCore core)
  s.setCluster (clusterOfCore core) { cl with parked := cl.parked.map fun p =>
    if p.id = e.id then { p with bytes := overlay p.bytes lin bs, full := full } else p }

/-- Where a piece that has been read goes: the destination record, a multicast receiver's, or a tile that `mstacc` stores. -/
def State.destination (s : State) (e : Entry) (dest : Nat) : Option Side :=
  if dest ≠ 0 then (e.ready.find? fun x => x.1 + 1 == dest).map fun x => x.2.1
  else match e.kind with
    | .tileMove id => ((s.task? e.task).bind fun t => t.cmd? id).map MatrixCmd.side
    | _ => some e.dst

/-- Reads the piece of an entry that starts at a linear byte (R168, R208): it is still to be written to the destination, or
to each receiver sorted Ready, and a parked copy takes it (R217). -/
def State.readEntry (s : State) (core q : Nat) (e : Entry) (lin hi : Nat) : Option State :=
  let r := lin / e.rb
  let o := lin % e.rb
  let w := e.as core q
  let n := pieceLen e.rb lin hi (s.sideRoom w false e.src r o)
  if !s.sideOpen w false e.src r o then none
  else match s.readSide w e.src r o n with
    | .error k => some (s.stopEntry core q e k (e.src.failing r o))
    | .ok x =>
      let todo := takeRange lin n e.todo
      let dests : List Nat := match e.kind with
        | .multicast _ _ => e.ready.map fun y => y.1 + 1
        | _ => [0]
      let s1 := x.1.setHead core q { e with todo := todo, moving := e.moving ++ dests.map (fun d => { dest := d, lin := lin, bytes := x.2 }) }
      some (if e.late.isEmpty then s1 else s1.parkPiece core e lin x.2 todo.isEmpty)

/-- A piece of a tile move that starts at a linear byte: `mldacc` reads it into the command's stage, `mstacc` takes it from
the accumulator tile (R291). -/
def State.readTile (s : State) (core q : Nat) (e : Entry) (id lin hi : Nat) : Option State :=
  match s.task? e.task with
  | none => none
  | some t => match t.cmd? id with
    | none => none
    | some c =>
      let r := lin / e.rb
      let o := lin % e.rb
      let w := e.as core q
      let n := pieceLen e.rb lin hi (s.sideRoom w (c.op == .mstacc) c.side r o)
      let next := { e with todo := takeRange lin n e.todo }
      if c.op = .mstacc then
        let tile := t.acc.getD c.tile []
        let bs := (List.range n).map fun i =>
          BitVec.ofNat 8 ((tile.getD ((lin + i) / 4) 0).toNat / 256 ^ ((lin + i) % 4))
        some (s.setHead core q { next with moving := next.moving ++ [⟨0, lin, bs, 0⟩] })
      else some (match s.readSide w c.side r o n with
        | .error k => s.stopEntry core q e k (c.side.failing r o)
        | .ok x => (x.1.setHead core q next).modTask e.task fun y =>
            y.modCmd id fun d => d.setStage 0 ((d.stage 0).fill lin x.2))

/-- Piece i of those that an entry has read is written, as far as its first target sector goes, or counted by its object
once it is (R168, R173, R208, R217). -/
def State.writeEntry (s : State) (core q : Nat) (e : Entry) (i : Nat) : Option State :=
  match e.moving[i]? with
  | none => none
  | some m =>
    if m.bytes.isEmpty then
      some ((s.setHead core q { e with moving := dropAt e.moving i }).countDown (e.objectOf m.dest) m.count)
    else match s.destination e m.dest with
      | none => none
      | some d =>
        let r := m.lin / e.rb
        let o := m.lin % e.rb
        let w := { e.as core q with core := if m.dest = 0 then core else m.dest - 1 }
        let n := min m.bytes.length (s.sideRoom w true d r o)
        if !s.sideOpen w true d r o then none
        else match s.writeSide w d r o (m.bytes.take n) with
          | .error k => some (s.stopEntry core q e k (d.failing r o))
          | .ok s1 =>
            let rest : List Moving := if n < m.bytes.length then [⟨m.dest, m.lin + n, m.bytes.drop n, 0⟩] else []
            let counted : List Moving := if (e.objectOf m.dest).isSome then [⟨m.dest, m.lin, [], n⟩] else []
            some (s1.setHead core q { e with moving := dropAt e.moving i ++ rest ++ counted })

/-- Where the numbers of pieces that have been read begin in `tryPiece`. -/
def writeBase : Nat := 2 ^ 32

/-- One step of a started entry (R211). `off` is a linear byte to read, row × RB + position; for an operand fetch, the stage ×
2^24 + the linear byte in it; from 2^32 on, the number of a piece that has been read. -/
def State.tryPiece (s : State) (core q off : Nat) : Option State :=
  match s.head? core q with
  | none => none
  | some e =>
    if !e.started || e.stopped then none
    else if writeBase ≤ off then s.writeEntry core q e (off - writeBase)
    else match e.kind with
      | .fetch id stages =>
        if stages.contains (off / 2 ^ 24) then s.cmdPiece e.task id (off / 2 ^ 24) (off % 2 ^ 24) else none
      | k => match rangeEnd off e.todo with
        | none => none
        | some hi => match k with
          | .multicast _ _ => if e.sorted then s.readEntry core q e off hi else none
          | .tileMove id => s.readTile core q e id off hi
          | _ => s.readEntry core q e off hi

/-- Whether an operand fetch has staged everything it carries, or its command has failed (R286). -/
def State.fetchDone (s : State) (task id : Nat) (stages : List Nat) : Bool :=
  match s.task? task with
  | none => true
  | some t => match t.cmd? id with
    | none => true
    | some c => stages.all c.settled

/-- Whether the head of a queue has done everything. -/
def State.entryDone (s : State) (e : Entry) : Bool :=
  e.started && (e.stopped || match e.kind with
    | .fetch id stages => s.fetchDone e.task id stages
    | .multicast _ rs => e.sorted && e.todo.isEmpty && e.moving.isEmpty && rs.all e.acks.contains
    | .fence _ => false
    | .close => false
    | .tileMove id => (e.todo.isEmpty && e.moving.isEmpty) || ((s.task? e.task).bind fun t => t.cmd? id).isNone
    | _ => e.todo.isEmpty && e.moving.isEmpty)

/-- Enters the operand fetches that have a staging entry and room in q3, in queue order (R286). -/
def State.enterFetches (s : State) (task : Nat) : Nat → State
  | 0 => s
  | fuel + 1 =>
    match s.task? task with
    | none => s
    | some t =>
      let all := t.going ++ t.cmds
      if 4 ≤ all.foldl (fun n c => n + c.staged) 0 || decide (32 ≤ ((s.core t.core).queue 3).length) then s
      else match all.find? fun c => !c.fetches.isEmpty with
        | none => s
        | some c =>
          let e : Entry := { kind := .fetch c.id (c.fetches.headD []), who := c.who, owner := c.owner, token := none, dst := {}
                             src := {}, rows := 0, rb := 0, obj := none, task := task, plan := t.plan }
          ((s.enter t.core 3 e).modTask task fun y => y.modCmd c.id fun d =>
            { d with fetches := d.fetches.tail, staged := d.staged + 1 }).enterFetches task fuel

/-- The matrix team of a core (R22). -/
def State.matrixTeam (s : State) (core : Nat) : Option Nat :=
  (s.core core).resident.find? fun t => ((s.task? t).map Task.tiles).getD 0 != 0

/-- Room in q3 or in the staging buffer lets waiting fetches enter. -/
def State.refetch (s : State) (core : Nat) : State :=
  match s.matrixTeam core with
  | some t => s.enterFetches t 4
  | none => s

/-- The head of a queue completes (R208): its token counts down, and the next entry may start. -/
def State.tryEntryComplete (s : State) (core q : Nat) : Option State :=
  match s.head? core q with
  | none => none
  | some e =>
    let fetcher := match e.kind with
      | .fetch _ _ => true
      | .tileMove _ => true
      | _ => false
    if s.entryDone e && !fetcher then some (((s.dropHead core q).tokenDown e.owner e.task e.token).refetch core) else none

/-- Whether an entry is of a fence. -/
def Entry.ofFence (e : Entry) (id : Nat) : Bool := e.kind == .fence id

/-- A fence entry reaches the head of its queue; when all of its fence have, they leave their queues together (R215). -/
def State.tryFenceHead (s : State) (core q : Nat) : Option State :=
  match s.head? core q with
  | none => none
  | some e => match e.kind with
    | .fence id =>
      if e.started then none
      else
        let s1 := s.setHead core q { e with started := true }
        let mine := (List.range 4).filter fun n => ((s1.core core).queue n).any fun x => x.ofFence id
        if mine.all fun n => (s1.head? core n).any fun x => x.ofFence id && x.started then
          some (((mine.foldl (fun st n => st.dropHead core n) s1).tokenDown e.owner e.task e.token).refetch core)
        else some s1
    | _ => none

/-! Multicast. -/

/-- Units a parked tile holds, and the units free in a cluster's holding buffer (R218). -/
def holdUnits (n : Nat) : Nat := (n + 63) / 64
def Cluster.freeUnits (c : Cluster) : Nat := 1024 - c.parked.foldl (fun a p => a + holdUnits (p.rows * p.rb)) 0

/-- The entries at the head of a queue of a core: of its live queue, and of that which it holds while it is lent (R315). -/
def State.heads (s : State) (core q : Nat) : List Entry :=
  (s.head? core q).toList ++ (((s.core core).held.queues.getD q []).head?).toList

/-- Whether a started multicast is still to reach a core: it has sorted it Ready, or not yet sorted it. -/
def Entry.owes (e : Entry) (core : Nat) : Bool :=
  e.started && !e.stopped && match e.kind with
    | .multicast _ rs => rs.contains core && !e.late.contains core && !e.acks.contains core
    | _ => false

/-- Whether a tile is on its way into a core: the drain of a parked one, or a multicast of a plan in `of` that has sorted it Ready
(R217, R218). -/
def State.delivering (s : State) (core : Nat) (of : Nat → Bool) : Bool :=
  ((s.cluster (clusterOfCore core)).parked.any fun p => p.drain.any fun d => d.core == core)
  || (List.range 8).any fun n => (List.range 4).any fun q =>
    (s.heads (clusterOfCore core * 8 + n) q).any fun e => e.sorted && of e.plan && e.owes core

/-- Whether a multicast that started earlier on a channel, or an older parked tile, is still to reach a receiver: tiles of
one channel reach it in the order in which their entries started (R218). -/
def State.earlierTile (s : State) (cl ch i start : Nat) : Bool :=
  ((s.cluster cl).parked.any fun p => p.channel == ch && decide (p.startNo < start) && p.late.contains i)
  || (List.range 8).any fun n => (List.range 4).any fun q => (s.heads (cl * 8 + n) q).any fun e =>
    (match e.kind with
     | .multicast c _ => c == ch
     | _ => false) && decide (e.startNo < start) && e.owes i

/-- Whether a readiness takes a tile of a shape (R210, R219). -/
def Readiness.takes (x : Readiness) (rows rb fmt : Nat) : Bool := compatible x.rows x.rb x.dst.fmt rows rb fmt

/-- Sorts a multicast's receivers (R217). One that an earlier tile of the channel is still to reach counts as Late (R218). An
incompatible readiness is Ready and is given nothing (R219). Answers none while the tile does not fit. -/
def State.sortCast (s : State) (core q : Nat) (e : Entry) (ch : Nat) (rs : List Nat) : Option State :=
  let cl := s.cluster (clusterOfCore core)
  let now := rs.filter fun i => ((s.core i).readiness ch).isSome && !s.earlierTile (clusterOfCore core) ch i e.startNo
  let late := rs.filter fun i => !now.contains i
  if !late.isEmpty && decide (cl.freeUnits < holdUnits (e.rows * e.rb)) then none
  else
    let ready := now.filterMap fun i => match (s.core i).readiness ch with
      | some x => if x.takes e.rows e.rb e.src.fmt then some (i, x.dst, x.obj) else none
      | none => none
    let s1 := if late.isEmpty then s else
      s.setCluster (clusterOfCore core) { cl with parked := cl.parked ++ [
        { id := e.id, startNo := e.startNo, channel := ch, late := late, rows := e.rows, rb := e.rb, fmt := e.src.fmt
          plan := e.plan, bytes := List.replicate (e.rows * e.rb) 0 }] }
    some (s1.setHead core q { e with sorted := true, ready := ready, late := late })

/-- The first sort of a started multicast; without room it waits at the head of the queue (R217). -/
def State.tryCastSort (s : State) (core q : Nat) : Option State :=
  match s.head? core q with
  | none => none
  | some e => match e.kind with
    | .multicast ch rs =>
      if !e.started || e.stopped || e.sorted || e.tried then none
      else some ((s.sortCast core q e ch rs).getD (s.setHead core q { e with tried := true }))
    | _ => none

/-- A waiting multicast sorts again (R217). -/
def State.tryCastResort (s : State) (core q : Nat) : Option State :=
  match s.head? core q with
  | none => none
  | some e => match e.kind with
    | .multicast ch rs => if e.stopped || e.sorted || !e.tried then none else s.sortCast core q e ch rs
    | _ => none

/-- The tile has been delivered: the readiness is consumed (R216), and the object of an incompatible one gets FAULT (R219). -/
def State.consumeReady (s : State) (i ch rows rb fmt : Nat) : State :=
  let c := s.core i
  match c.readiness ch with
  | none => s
  | some x =>
    let s1 := s.setCore i { c with ready := Map.del ch c.ready }
    if x.takes rows rb fmt then s1 else s1.objectFault x.obj

/-- A receiver acknowledges once its tile is written and counted, or the parked copy acknowledges for it once that is
written; the sender's object counts down (R217). The end takes the readiness that the channel then holds, that of a receiver
which has ended and been replaced included (log 77). -/
def State.tryCastAck (s : State) (core q i : Nat) : Option State :=
  match s.head? core q with
  | none => none
  | some e => match e.kind with
    | .multicast ch rs =>
      if !e.sorted || e.stopped || !e.todo.isEmpty || !rs.contains i || e.acks.contains i || e.moving.any (fun m => m.dest == i + 1)
      then none
      else
        let s1 := s.setHead core q { e with acks := e.acks ++ [i] }
        some ((if e.late.contains i then s1 else s1.consumeReady i ch e.rows e.rb e.src.fmt).countDown e.obj (e.rows * e.rb))
    | _ => none

/-- Changes a parked tile; one that no receiver is still to drain gives up its units (R218). -/
def Cluster.setParked (c : Cluster) (n : Nat) (p : ParkedTile) : Cluster :=
  { c with parked := if p.late.isEmpty then dropAt c.parked n else setAt c.parked n fun _ => p }

/-- The place of parked tile n in its cluster. -/
def State.setParked (s : State) (cl n : Nat) (p : ParkedTile) : State := s.setCluster cl ((s.cluster cl).setParked n p)

/-- The holding buffer drains tile n (R218): it starts with the first waiting receiver that is ready and that no earlier tile
of the channel is still to reach; writes the piece at a linear byte, as far as its target sector goes; counts the bytes
written, from 2^32 on by their number; and ends, when the readiness that the channel then holds is consumed (log 77). -/
def State.tryDrain (s : State) (cl n off : Nat) : Option State :=
  match (s.cluster cl).parked[n]? with
  | none => none
  | some p => match p.drain with
    | none =>
      if !p.full then none
      else match p.late.find? fun i => ((s.core i).readiness p.channel).isSome && !s.earlierTile cl p.channel i p.startNo with
        | none => none
        | some i => match (s.core i).readiness p.channel with
          | none => none
          | some x =>
            let all := if x.takes p.rows p.rb p.fmt then [(0, p.rows * p.rb)] else []
            some (s.setParked cl n { p with drain := some { core := i, dst := x.dst, obj := x.obj, todo := all } })
    | some d =>
      if writeBase ≤ off then
        match d.counts[off - writeBase]? with
        | none => none
        | some k => some ((s.setParked cl n { p with drain := some { d with counts := dropAt d.counts (off - writeBase) } }).countDown
            d.obj k)
      else if d.todo.isEmpty then
        if d.counts.isEmpty then
          some ((s.setParked cl n { p with drain := none, late := p.late.filter (· != d.core) }).consumeReady d.core p.channel p.rows
            p.rb p.fmt)
        else none
      else match rangeEnd off d.todo with
        | none => none
        | some hi =>
          let w : Owner := ⟨{}, p.plan, 0, d.core, .entry d.core 0⟩
          let k := pieceLen p.rb off hi (s.sideRoom w true d.dst (off / p.rb) (off % p.rb))
          match s.writeSide w d.dst (off / p.rb) (off % p.rb) ((p.bytes.drop off).take k) with
          | .error _ => none
          | .ok s1 =>
            let counts := if d.obj.isSome then d.counts ++ [k] else d.counts
            some (s1.setParked cl n { p with drain := some { d with todo := takeRange off k d.todo, counts := counts } })

/-! Bulk streams. -/

/-- A `cpy.close` entry at the head of its queue releases the bank and completes (R221). -/
def State.tryStreamClose (s : State) (core q : Nat) : Option State :=
  match s.head? core q with
  | none => none
  | some e => match e.kind with
    | .close =>
      let s1 := s.dropHead core q
      let c := s1.core core
      some (((s1.setCore core { c with streams := Map.del q c.streams }).tokenDown e.owner e.task e.token).refetch core)
    | _ => none

/-- A stream open beyond LIMIT cycles loses its bank, and the running `cpy.row` entry stops (R221, R222). -/
def State.tryStreamTimeout (s : State) (core q : Nat) : Option State :=
  let c := s.core core
  match c.streams.get? q with
  | none => none
  | some x =>
    if x.timedOut || decide (s.cycle ≤ x.since + s.bulkLimit.toNat % 2 ^ 20) then none
    else
      let s1 := s.setCore core { c with streams := c.streams.put q { x with timedOut := true } }
      match s1.head? core q with
      | none => some s1
      | some e => some (if e.kind == .row && e.started && !e.stopped then
          s1.stopEntry core q e 13 (e.src.recBase) else s1)

/-- R202, R220. -/
def execCopyEntryStart (core q : Nat) (st : State) : Out := event st (st.tryEntryStart core q)

/-- R168, R206, R211. -/
def execCopyPiece (core q off : Nat) (st : State) : Out := event st (st.tryPiece core q off)

/-- R207, R208. -/
def execCopyEntryComplete (core q : Nat) (st : State) : Out := event st (st.tryEntryComplete core q)

/-- R214. -/
def execKwaitObjWake (gid : Nat) (st : State) : Out := event st (st.tryWoken gid)

/-- R171, R215. -/
def execFenceEntryHead (core q : Nat) (st : State) : Out := event st (st.tryFenceHead core q)

/-- R217. -/
def execMulticastSort (core q : Nat) (st : State) : Out := event st (st.tryCastSort core q)

/-- R217. -/
def execMulticastResort (core q : Nat) (st : State) : Out := event st (st.tryCastResort core q)

/-- R217. -/
def execMulticastAck (core q i : Nat) (st : State) : Out := event st (st.tryCastAck core q i)

/-- R218, R219. -/
def execHoldingBufferDrain (cl n off : Nat) (st : State) : Out := event st (st.tryDrain cl n off)

/-- R221. -/
def execBulkStreamClose (core q : Nat) (st : State) : Out := event st (st.tryStreamClose core q)

/-- R221. -/
def execBulkStreamTimeout (core q : Nat) (st : State) : Out := event st (st.tryStreamTimeout core q)

end Sys2Proof.Machine
end

