-- ==== Sys2Proof/Machine/MatrixArith.lean ====
section
/-!
DEFINITION. The arithmetic of the matrix unit: element values and block scales (R265 to R269), the accumulation rule
(R273, R274), sparsity metadata (R287, R288) and quantisation to blocks (R293, R294).
-/

namespace Sys2Proof.Machine

/-- A staged operand: its format, its row bytes, its elements and its scale plane, both row by row (R267, R269). -/
structure Operand where
  fmt : OperandFmt
  rb : Nat
  bytes : List Byte
  prb : Nat
  plane : List Byte
  deriving DecidableEq, Repr

def byteAt (bs : List Byte) (i : Nat) : Nat := (bs.getD i 0).toNat

/-- The width of a plane entry (R267, R269). -/
def planeEntry (fmt : Nat) : Nat := if fmt = 4 then 2 else 1

/-- The element code at (r, k) (R204, R267). -/
def Operand.code (o : Operand) (r k : Nat) : Nat :=
  match o.fmt.fmt with
  | 4 => byteAt o.bytes (r * o.rb + k / 2) / 16 ^ (k % 2) % 16
  | 5 | 6 => byteAt o.bytes (r * o.rb + k)
  | _ => byteAt o.bytes (r * o.rb + 2 * k) + 256 * byteAt o.bytes (r * o.rb + 2 * k + 1)

/-- A finite value times a power of two: E8M0 code S, with 0xFF giving a NaN (R266, R269). -/
def scaleBy (S : Nat) (x : Fp) : Fp :=
  if S = 255 then .nan false
  else match x with
    | .fin n m e => .fin n m (e + (S : Int) - 127)
    | y => y

/-- A code of an E2M1X block with scale S and extension X (R268). -/
def e2m1x (S X c : Nat) : Fp :=
  if c = 8 ∧ S ≠ 255 then (if X = 0 then .fin true 0 0 else scaleBy S (unpack fmtE4M3 X))
  else scaleBy S (unpack fmtE2M1 c)

/-- Dec: the exact value of element (r, k) of an operand, whose scale block is `blk` (R266 to R269). -/
def Operand.dec (o : Operand) (r k blk : Nat) : Fp :=
  let c := o.code r k
  let at' := r * o.prb + planeEntry o.fmt.fmt * blk
  match o.fmt.fmt with
  | 4 => e2m1x (byteAt o.plane at') (byteAt o.plane (at' + 1)) c
  | 5 | 6 =>
    let x := unpack (if o.fmt.fmt = 5 then fmtE4M3 else fmtE5M2) c
    (match o.fmt.smode with
     | 1 => scaleBy (byteAt o.plane at') x
     | 2 => scaleBy o.fmt.tscale x
     | _ => x)
  | 8 => unpack fmtF16 c
  | _ => unpack fmtBF16 c

/-- The sum of signed finite terms, exactly: in units of 2^e for the lowest exponent. -/
def exactSum (xs : List Fp) : Int × Int :=
  let e := xs.foldl (fun acc x => match x with | .fin _ _ e => min acc e | _ => acc) 0
  (xs.foldl (fun acc x => match x with
    | .fin n m k => let v : Int := (m * 2 ^ (k - e).toNat : Nat); if n then acc - v else acc + v
    | _ => acc) 0, e)

/-- Whether a value is minus zero. -/
def Fp.isNegZero : Fp → Bool
  | .fin n m _ => n && m == 0
  | _ => false

/-- Acc16 (R274): c and the products of at most 16 pairs, summed exactly and rounded once, to nearest even. -/
def acc16 (c : Word) (pairs : List (Fp × Fp)) : Word :=
  let x := unpack fmtF32 c.toNat
  let nan : Word := BitVec.ofNat 32 fmtF32.nanCode
  if x.isNan || pairs.any (fun p => p.1.isNan || p.2.isNan) then nan
  else
    let prods := pairs.map fun p => mulTerm p.1 p.2
    if prods.any (fun o => o.isNone) then nan
    else
      let terms := x :: prods.filterMap id
      let pos := terms.any (· == Fp.inf false)
      let neg := terms.any (· == Fp.inf true)
      if pos && neg then nan
      else if pos || neg then BitVec.ofNat 32 (withSign fmtF32 neg fmtF32.infCode)
      else
        let t := exactSum terms
        if t.1 = 0 then (if terms.all Fp.isNegZero then BitVec.ofNat 32 fmtF32.signBit else 0)
        else BitVec.ofNat 32 (roundExact fmtF32 ⟨0, false⟩ (.num (decide (t.1 < 0)) t.1.natAbs t.2 false)).1

/-- The groups of 16 consecutive k in ascending order, from group g (R273). -/
def accGroups (term : Nat → Option (Fp × Fp)) : Nat → Nat → Word → Word
  | 0, _, c => c
  | n + 1, g, c => accGroups term n (g + 1) (acc16 c ((List.range 16).filterMap fun i => term (16 * g + i)))

/-- The term at k of a dense product (R273). -/
def denseTerm (a b : Operand) (m n k : Nat) : Option (Fp × Fp) := some (a.dec m k (k / 32), b.dec n k (k / 32))

/-- Index j of a metadata row (R287). -/
def metaIndex (md : List Byte) (width m j : Nat) : Nat := byteAt md (m * width + j / 4) / 4 ^ (j % 4) % 4

/-- The first group of a metadata tile whose indices do not rise strictly: its row and byte (R288). -/
def metaBad (md : List Byte) (width : Nat) : Option (Nat × Nat) :=
  (List.range 64).findSome? fun m => (List.range (width * 2)).findSome? fun q =>
    if metaIndex md width m (2 * q) < metaIndex md width m (2 * q + 1) then none else some (m, q / 2)

/-- The term at logical k of a sparse product: the kept element of its group of four that stands there (R276, R287). -/
def sparseTerm (a b : Operand) (md : List Byte) (width m n k : Nat) : Option (Fp × Fp) :=
  let j := k / 4 * 2
  let kept := if metaIndex md width m j = k % 4 then some j else if metaIndex md width m (j + 1) = k % 4 then some (j + 1) else none
  kept.map fun j => (a.dec m j (j / 16), b.dec n k (k / 32))

/-- A tile after a multiply of K terms (R273). -/
def multiplyTile (tile : List Word) (K : Nat) (term : Nat → Nat → Nat → Option (Fp × Fp)) : List Word :=
  (List.range 4096).map fun i => accGroups (term (i / 64) (i % 64)) (K / 16) 0 (tile.getD i 0)

/-! vqblk (R293, R294). -/

/-- The element format, its width in bits and emax of a vqblk function. -/
def qblkFmt (fn : Nat) : FloatFmt := match fn with | 0 => fmtE2M1 | 1 => fmtE4M3 | _ => fmtE5M2
def qblkBits (fn : Nat) : Nat := if fn = 0 then 4 else 8
def qblkEmax (fn : Nat) : Nat := match fn with | 0 => 2 | 1 => 8 | _ => 15

/-- y rounded to nearest even in a format, saturated; a zero magnitude is code 0 (R294). -/
def nearestCode (f : FloatFmt) (y : Fp) : Nat :=
  match y with
  | .fin n m e =>
    if m = 0 then 0
    else
      let r := roundMag f m e false (fun c => c.roundsUp 0 n)
      let mag := if r.overflow then f.maxCode else r.code
      if mag = 0 then 0 else withSign f n mag
  | _ => 0

/-- |y − v| as an exact pair (magnitude, exponent). -/
def errOf (y v : Fp) : Nat × Int :=
  let t := exactSum [y, v.negate]
  (t.1.natAbs, t.2)

/-- Whether one exact magnitude is below another. -/
def errLt (x y : Nat × Int) : Bool :=
  let e := min x.2 y.2
  decide (x.1 * 2 ^ (x.2 - e).toNat < y.1 * 2 ^ (y.2 - e).toNat)

/-- A quantised block: its scale, extension and 32 codes. -/
structure Block where
  scale : Nat
  ext : Nat
  codes : List Nat
  deriving DecidableEq, Repr

/-- floor(log2 |x|) of a finite nonzero value. -/
def Fp.log2 : Fp → Int
  | .fin _ m e => topExp m e
  | _ => 0

/-- One block of 32 FP32 values quantised (R294). -/
def quantise (fn : Nat) (xs : List Fp) : Block :=
  let f := qblkFmt fn
  if xs.any (fun x => match x with | .fin _ _ _ => false | _ => true) then ⟨255, 0, xs.map fun _ => 0⟩
  else
    let nz := xs.filter fun x => !x.isZero
    match nz with
    | [] => ⟨127, 0, xs.map fun _ => 0⟩
    | x0 :: rest =>
      let top := rest.foldl (fun a x => max a x.log2) x0.log2
      let S := (let t := top - qblkEmax fn + 127; if t < 0 then 0 else if 254 < t then 254 else t).toNat
      let ys := xs.map fun x => match x with | .fin n m e => Fp.fin n m (e + 127 - S) | y => y
      let qs := ys.map (nearestCode f)
      if fn ≠ 0 then ⟨S, 0, qs⟩
      else
        let errs := (List.zip ys qs).map fun p => errOf p.1 (unpack f p.2)
        let worst := (List.range errs.length).foldl (fun b i => if errLt (errs.getD b (0, 0)) (errs.getD i (0, 0)) then i else b) 0
        let X := if (errs.getD worst (0, 0)).1 = 0 then 0 else nearestCode fmtE4M3 (ys.getD worst (.fin false 0 0))
        if X = 0 then ⟨S, 0, qs⟩
        else ⟨S, X, (List.zip ys qs).map fun p =>
          if errLt (errOf p.1 (unpack fmtE4M3 X)) (errOf p.1 (unpack f p.2)) then 8 else p.2⟩

/-- The decoded value of a block's element (R268, R269). -/
def Block.value (fn : Nat) (b : Block) (i : Nat) : Fp :=
  let c := b.codes.getD i 0
  if fn = 0 then e2m1x b.scale b.ext c else scaleBy b.scale (unpack (qblkFmt fn) c)

/-- Whether an element's decoded value differs from x: the exact comparison behind NX (R293). -/
def differs (x v : Fp) : Bool :=
  match x, v with
  | .fin _ _ _, .fin _ _ _ => (errOf x v).1 != 0
  | .nan _, .nan _ => false
  | _, _ => true

/-- The word thread i of a block receives (R293). -/
def Block.word (fn : Nat) (b : Block) (i : Nat) : Word :=
  let per := 32 / qblkBits fn
  let plane (w : Nat) : Nat := ((List.range per).map fun j => b.codes.getD (w * per + j) 0 * 2 ^ (qblkBits fn * j)).foldl (· + ·) 0
  if fn = 0 then BitVec.ofNat 32 (if i < 4 then plane i else if i = 4 then b.scale + 256 * b.ext else 0)
  else BitVec.ofNat 32 (if i < 8 then plane i else if i = 8 then b.scale else 0)

end Sys2Proof.Machine
end

