-- ==== Sys2Proof/Machine/Matrix.lean ====
section
/-!
DEFINITION. The matrix unit (R277 to R292), `vqblk` (R293) and the matrix-vector product at a stack (R295 to R297).
-/

namespace Sys2Proof.Machine

/-! Format blocks (R270, R271). -/

/-- A format block: its two halves, MDREC, bytes 0 to 7, and whether a reserved field is nonzero. -/
structure FormatBlock where
  a : OperandFmt
  b : OperandFmt
  mdrec : Nat
  half : Nat
  reserved : Bool
  deriving DecidableEq, Repr

def operandFmt (w pitch : Nat) : OperandFmt :=
  { fmt := bits w 3 0, tscale := bits w 15 8, smode := bits w 17 16, sseg := bits w 23 21, soff := bits w 63 24, pitch := pitch }

/-- The four doublewords of a format block. -/
def formatBlock (w0 w1 w2 w3 : Nat) : FormatBlock :=
  { a := operandFmt w0 (bits w2 47 32), b := operandFmt w1 (bits w2 63 48), mdrec := bits w2 18 0, half := w0
    reserved := bits w0 7 4 != 0 || bits w0 20 18 != 0 || bits w1 7 4 != 0 || bits w1 20 18 != 0 || bits w2 31 19 != 0
      || w3 != 0 }

/-- The class of an element format: FP16, BF16, FP8 or E2M1X, and 0 for a format that has none (R271). -/
def fmtClass (fmt : Nat) : Nat := match fmt with | 8 => 1 | 9 => 2 | 5 => 3 | 6 => 3 | 4 => 4 | _ => 0
/-- K of `mma` (R282). -/
def denseK (fmt : Nat) : Nat := match fmtClass fmt with | 3 => 128 | 4 => 256 | _ => 64

/-- Whether a scaling mode is permitted for a format (R269). -/
def smodeOk (f : OperandFmt) : Bool :=
  match f.fmt with
  | 4 => f.smode == 1
  | 5 | 6 => decide (f.smode ≤ 2)
  | _ => f.smode == 0

/-- The fields that R270 marks zero for the mode. -/
def fmtZeros (f : OperandFmt) : Bool :=
  (f.smode == 1 || (f.soff == 0 && f.sseg == 0 && f.pitch == 0)) && (f.smode == 2 || f.tscale == 0)

/-- The packed pitch of a plane, and its pitch (R270). -/
def OperandFmt.packed (f : OperandFmt) (k : Nat) : Nat := k / 32 * planeEntry f.fmt
def OperandFmt.rowPitch (f : OperandFmt) (k : Nat) : Nat := if f.pitch = 0 then f.packed k else f.pitch

/-- Alignment of a plane (R271). -/
def planeAligned (f : OperandFmt) : Bool :=
  f.smode != 1 || (f.soff % planeEntry f.fmt == 0 && f.pitch % planeEntry f.fmt == 0)
def pitchOk (f : OperandFmt) (k : Nat) : Bool := f.smode != 1 || f.pitch == 0 || decide (f.packed k ≤ f.pitch)

/-- The segment of a plane. -/
def Group.planeSeg (g : Group) (f : OperandFmt) : Segment := g.segs.getD f.sseg {}
def Group.planeSpaceOk (g : Group) (f : OperandFmt) : Bool :=
  f.smode != 1 || decide (1 ≤ (g.planeSeg f).space ∧ (g.planeSeg f).space ≤ 3)

/-- A plane of a number of rows against its segment: the limit, then the permission (R271). For `mvm` the rows are those of
the operand (log 93). -/
def Group.planeLimit (g : Group) (f : OperandFmt) (rows k : Nat) : Option TrapInfo :=
  if f.smode = 1 ∧ (g.planeSeg f).limit < f.soff + (rows - 1) * f.rowPitch k + f.packed k then
    some { kind := 4, seg := some f.sseg, offset := f.soff } else none
def Group.planeRead (g : Group) (f : OperandFmt) : Option TrapInfo :=
  if f.smode = 1 ∧ !(g.planeSeg f).r then some { kind := 6, seg := some f.sseg, offset := f.soff } else none

/-- The tests of R271 that need no K, in the table's order: place, reserved fields, formats, zero fields, planes. A block whose
bytes are uncorrectable is a precise fault (log 88). -/
def State.readBlock (s : State) (off : Nat) : Except TrapInfo FormatBlock :=
  match firstOf [teamAlign off 32, s.teamInside off 32, s.teamBad off 32] with
  | some e => .error e
  | none =>
    let p := s.teamAddr off
    let b := formatBlock (s.num p 8) (s.num (p + 8) 8) (s.num (p + 16) 8) (s.num (p + 24) 8)
    if b.reserved || fmtClass b.a.fmt == 0 || fmtClass b.a.fmt != fmtClass b.b.fmt || !smodeOk b.a || !smodeOk b.b
        || !fmtZeros b.a || !fmtZeros b.b || !planeAligned b.a || !planeAligned b.b || !s.me.planeSpaceOk b.a
        || !s.me.planeSpaceOk b.b then .error { kind := 1, offset := off }
    else .ok b

/-- A record's format against the block's: equal, or raw of the element's size (R271). -/
def recFmtOk (rec fmt : Nat) : Bool :=
  rec == fmt || (match fmt with | 8 | 9 => rec == 1 | 5 | 6 => rec == 0 | _ => false)

/-! Sides and translation. -/

/-- The side that a scale plane is. -/
def State.planeSide (s : State) (f : OperandFmt) (k : Nat) : Side :=
  let sg := s.me.planeSeg f
  { space := sg.space, base := s.target s.cur sg 0 f.soff, pitch := f.rowPitch k, recBase := f.soff }

/-- The stage of a plane, empty unless the operand is block-scaled. -/
def State.planeStage (s : State) (f : OperandFmt) (rows k : Nat) : Stage :=
  if f.smode = 1 then Stage.start (s.planeSide f k) rows (f.packed k) else {}

/-- Offsets in a row of n bytes, at most 4 KiB apart: they meet every page the row meets. -/
def rowSpots (n : Nat) : List Nat := ((List.range (n / 4096 + 1)).map fun i => min (4096 * i) (n - 1)) ++ [n - 1]

/-- The first fault in translating every row of a side in a translated space, and the page permissions (R141, R284,
R297). -/
def State.translateSide (s : State) (e : Side) (rows rb : Nat) : Option TrapInfo :=
  if e.isSlot ∨ e.space ≠ 2 then none
  else firstFault (fun r => firstFault (fun o =>
    match s.leafFor (s.asker s.me) false (e.base + r * e.pitch + o) with
    | .error k => some { kind := k, offset := e.recBase + r * e.pitch + o }
    | .ok l => (s.leafDenies { r := true } l).map fun k => { kind := k, offset := e.recBase + r * e.pitch + o }) (rowSpots rb))
    (List.range rows)

/-- The fault slot of the matrix unit is raised before an instruction's own checks (R280). -/
def matrixGate (b : Body) : Body := fun s =>
  match s.me.matFault with
  | some (k, tile, off) => .fault (s.setMe { s.me with matFault := none }) { kind := k, src := 2, tile := tile, offset := off }
  | none => b s

/-- An instruction of a matrix team (R22, R52). -/
def tilesOnly (b : Body) : Body := coreOnly fun s => if s.myTask.tiles = 0 then illegal s else b s

/-- A matrix command on tile t: not eligible while the command queue is full (R278). -/
def commandBody (t : BitVec 3) (b : Body) : Body := coreOnly (ordered fun s =>
  if 8 ≤ s.myTask.cmds.length then .wait s .room
  else if s.myTask.tiles ≤ t.toNat then illegal s
  else matrixGate b s)

/-- Enters a command in the team's queue, and the fetches that have a staging entry (R278, R286). -/
def State.enterCmd (s : State) (c : MatrixCmd) (latch : Option LatchIssue) : State :=
  (s.modTask s.me.task fun t =>
    { t with cmds := t.cmds ++ [{ c with id := t.issued }], issued := t.issued + 1
             latch := latch.map (fun l => { l with cmd := t.issued }) <|> t.latch }).enterFetches s.me.task 4

/-- A new command of the issuing group. -/
def State.newCmd (s : State) (op : MatrixOp) (t : BitVec 3) : MatrixCmd :=
  { id := 0, op := op, owner := s.cur, who := s.asker s.me, tile := t.toNat }

/-! mma, mma.sp (R282 to R288). -/

/-- The routes of an operand and its plane: a scratchpad operand is read directly, and its plane too unless that lies
elsewhere; any other operand is fetched with its plane (R286). -/
def routes (i : Nat) (op pl : Stage) : List (List Nat) :=
  if op.todo.isEmpty then []
  else if op.side.isSlot || op.side.space != 1 then [if pl.todo.isEmpty then [i] else [i, i + 1]]
  else if pl.todo.isEmpty || pl.side.space == 1 then [] else [[i + 1]]

/-- The metadata record's shape (R287). -/
def metaShape (r : Rec) (k : Nat) : Bool :=
  r.kind == 0 && r.space == 1 && r.fmt == 0 && r.rows == 64 && r.cols == k / 8 && r.swz == 0 && r.base % 128 == 0
    && r.pitch % 16 == 0 && decide (r.cols ≤ r.pitch)

/-- `mma` and `mma.sp`: R282 to R288. -/
def multiplyBody (sparse : Bool) (t : BitVec 3) (a b c : Reg) : Body := commandBody t fun s =>
  let g := s.me
  if g.xm ≠ BitVec.allOnes 64 then .fault s { kind := 3 }
  else match s.readBlock (g.getS a.toNat).toNat with
    | .error e => .fault s e
    | .ok fb =>
      let bad : Eff := illegal s
      let k := denseK fb.a.fmt * (if sparse then 2 else 1)
      let latched := b.toNat == 0
      if !pitchOk fb.a k || !pitchOk fb.b k then bad
      else match firstOf [g.planeLimit fb.a 64 k, g.planeLimit fb.b 64 k, g.planeRead fb.a, g.planeRead fb.b] with
        | some e => .fault s e
        | none =>
          if (if sparse then fb.mdrec % 32 != 0 else fb.mdrec != 0) then bad
          else
            let offB := (g.getS c.toNat).toNat
            let offA := (g.getS b.toNat).toNat
            let useMd := sparse && !latched
            match s.copyRecords ((if latched then [] else [offA]) ++ [offB] ++ (if useMd then [fb.mdrec] else [])) none with
            | .error e => .fault s e
            | .ok rs =>
              let rA := if latched then {} else rs.headD {}
              let rB := (if latched then rs else rs.tail).headD {}
              let rM := rs.getLastD {}
              let shapeA := rA.rows == 64 && rA.cols == denseK fb.a.fmt && recFmtOk rA.fmt fb.a.fmt
                && (rA.kind == 1 && rA.dir || (rA.kind == 0 && s.recSpaceOk rA && (rA.space == 1 || rA.space == 2)))
              let shapeB := rB.rows == 64 && rB.cols == k && recFmtOk rB.fmt fb.b.fmt && rB.kind == 0 && s.recSpaceOk rB
                && decide (1 ≤ rB.space ∧ rB.space ≤ 3)
              let latchOk := match s.myTask.latch with
                | some l => l.sparse == sparse && l.half == fb.half
                | none => false
              if (!latched && !shapeA) || !shapeB || (useMd && !(metaShape rM k && s.recSpaceOk rM)) then bad
              else if latched && !latchOk then bad
              else
                let recs := (if latched then [] else [rA]) ++ [rB] ++ (if useMd then [rM] else [])
                match firstOf ((if latched then [] else [s.recPipe false rA]) ++ recs.map (s.recSegment false)) with
                | some e => .fault s e
                | none =>
                  let stA := if latched then {} else Stage.start (s.sideOf offA rA) 64 rA.rb
                  let stAp := if latched then {} else s.planeStage fb.a 64 k
                  let stB := Stage.start (s.sideOf offB rB) 64 rB.rb
                  let stBp := s.planeStage fb.b 64 k
                  let stM := if useMd then Stage.start (s.sideOf fb.mdrec rM) 64 rM.rb else {}
                  match firstOf ([stA, stB, stAp, stBp].map fun x => s.translateSide x.side x.rows x.rb) with
                  | some e => .fault s e
                  | none =>
                    let fetches := routes 0 stA stAp ++ routes 2 stB stBp
                    let stages := (List.zip (List.range 5) [stA, stAp, stB, stBp, stM]).map fun x =>
                      { x.2 with direct := !fetches.any fun f => f.contains x.1 }
                    .ok (s.enterCmd { s.newCmd (if sparse then .mmaSp else .mma) t with
                        fa := fb.a, fb := fb.b, k := k, stages := stages, fetches := fetches
                        latchOf := if latched then s.myTask.latch.map LatchIssue.cmd else none }
                      (if latched then none else some ⟨0, sparse, fb.half⟩))

/-- `mma`: R282 to R286. -/
def mmaBody (t : BitVec 3) (a b c : Reg) : Body := multiplyBody false t a b c
def execMma (m : Bool) (t : BitVec 3) (a b c : Reg) (st : State) : Out := issue m (mmaBody t a b c) st

/-- `mma.sp`: R282 to R288. -/
def mmaSpBody (t : BitVec 3) (a b c : Reg) : Body := multiplyBody true t a b c
def execMmaSp (m : Bool) (t : BitVec 3) (a b c : Reg) (st : State) : Out := issue m (mmaSpBody t a b c) st

/-- `mzero`: R278, R291. -/
def mzeroBody (t : BitVec 3) : Body := commandBody t fun s => .ok (s.enterCmd (s.newCmd .mzero t) none)
def execMzero (m : Bool) (t : BitVec 3) (st : State) : Out := issue m (mzeroBody t) st

/-- `mrows`: R278, R291. -/
def mrowsBody (t : BitVec 3) : Body := commandBody t fun s => .ok (s.enterCmd (s.newCmd .mrows t) none)
def execMrows (m : Bool) (t : BitVec 3) (st : State) : Out := issue m (mrowsBody t) st

/-- The record of a tile move, with its object: the checks of R291 in their order. -/
def State.tileRecord (s : State) (off : Nat) (dst : Bool) (obj : Option Nat) : Except TrapInfo Rec :=
  match s.copyRecords [off] obj with
  | .error e => .error e
  | .ok rs =>
    let r := rs.headD {}
    if r.kind ≠ 0 ∨ r.space ≠ 1 ∨ !s.recSpaceOk r ∨ (r.fmt ≠ 10 ∧ r.fmt ≠ 2) ∨ r.rows ≠ 64 ∨ r.cols ≠ 64 ∨ r.pitch < 256 then
      .error { kind := 1, offset := off }
    else match s.recSegment dst r with
      | some e => .error e
      | none => .ok r

/-- `mldacc`: R291. -/
def mldaccBody (t : BitVec 3) (a : Reg) : Body := commandBody t fun s =>
  let off := (s.me.getS a.toNat).toNat
  match s.tileRecord off false none with
  | .error e => .fault s e
  | .ok r => .ok (s.enterCmd { s.newCmd .mldacc t with
      side := s.sideOf off r, stages := [{ Stage.start (s.sideOf off r) 64 256 with direct := false }] } none)
def execMldacc (m : Bool) (t : BitVec 3) (a : Reg) (st : State) : Out := issue m (mldaccBody t a) st

/-- `mstacc`: R291. -/
def mstaccBody (t : BitVec 3) (a b : Reg) : Body := commandBody t fun s =>
  let off := (s.me.getS a.toNat).toNat
  let obj := s.me.object b
  match s.tileRecord off true obj with
  | .error e => .fault s e
  | .ok r => .ok (s.enterCmd { s.newCmd .mstacc t with side := s.sideOf off r, obj := obj.map s.teamAddr } none)
def execMstacc (m : Bool) (t : BitVec 3) (a b : Reg) (st : State) : Out := issue m (mstaccBody t a b) st

/-- `vpopa`: R280, R292. -/
def vpopaBody (d : Reg) : Body := coreOnly fun s =>
  if s.me.budget ≤ d.toNat ∨ s.myTask.tiles = 0 then illegal s
  else withResult (matrixGate fun u => match u.myTask.accq with
    | [] => .wait u .accRow
    | r :: rest => (u.modTask u.me.task fun t => { t with accq := rest }).pushResult
        (u.me.actives.map fun i => .v d.toNat i (r.getD i 0))) s
def execVpopa (m : Bool) (d : Reg) (st : State) : Out := issue m (vpopaBody d) st

/-- `vqblk`: R22, R293, R294. -/
def quantiseBody (fn : Nat) (d a : Reg) : Body := tilesOnly (laneResult [d.toNat, a.toNat] fun g =>
  let x (t : Nat) : Fp := if g.active t then unpack fmtF32 (g.getV a.toNat t).toNat else .fin false 0 0
  let block (j : Nat) : Block := quantise fn ((List.range 32).map fun i => x (32 * j + i))
  let b0 := block 0
  let b1 := block 1
  let of (t : Nat) : Block := if t < 32 then b0 else b1
  (g.actives.map fun t => .v d.toNat t ((of t).word fn (t % 32)),
   FF.ofThreads fun t => if g.active t then
       { Flags.none with
         nv := match x t with | .fin _ _ _ => false | _ => true
         nx := differs (x t) ((of t).value fn (t % 32)) }
     else Flags.none))

/-- `vqblk.e2m1x`: R293, R294. -/
def vqblkE2m1xBody (d a : Reg) : Body := quantiseBody 0 d a
def execVqblkE2m1x (m : Bool) (d a : Reg) (st : State) : Out := issue m (vqblkE2m1xBody d a) st

/-- `vqblk.e4m3`: R293, R294. -/
def vqblkE4m3Body (d a : Reg) : Body := quantiseBody 1 d a
def execVqblkE4m3 (m : Bool) (d a : Reg) (st : State) : Out := issue m (vqblkE4m3Body d a) st

/-- `vqblk.e5m2`: R293, R294. -/
def vqblkE5m2Body (d a : Reg) : Body := quantiseBody 2 d a
def execVqblkE5m2 (m : Bool) (d a : Reg) (st : State) : Out := issue m (vqblkE5m2Body d a) st

/-! mvm (R295 to R297). -/

/-- The leaves under every row of a side in global space. -/
def State.sideLeaves (s : State) (e : Side) (rows rb : Nat) : List (Nat × Nat) :=
  (List.range rows).flatMap fun r => (rowSpots rb).filterMap fun o =>
    match s.leafFor (s.asker s.me) false (e.base + r * e.pitch + o) with
    | .ok l => some (l, s.place l (e.base + r * e.pitch + o))
    | .error _ => none

/-- Stack-matrix layout (R295) of a matrix record, its side and its plane's leaves. -/
def State.stackLayout (s : State) (r : Rec) (b : Side) (plane : List (Nat × Nat)) : Bool :=
  let ls := s.sideLeaves b r.rows r.rb ++ plane
  r.base % 256 == 0 && r.pitch % 512 == 256 && decide (r.rb ≤ r.pitch)
    && ls.all fun l => leafAperture l.1 == 1 && decide (2 ≤ leafPsize l.1) && stackOf l.2 == stackOf (ls.headD (0, 0)).2

/-- `mvm`: R280, R295 to R297. A plane's permission is judged at step 1, its pitch at step 3 and its limit at step 4
(log 93). -/
def mvmBody (k : BitVec 3) (a b c : Reg) : Body := coreOnly (ordered fun s =>
  let g := s.me
  if g.tokenFull k.toNat then .wait s .room
  else if s.myTask.tiles = 0 then illegal s
  else matrixGate (fun s => match s.readBlock (g.getS a.toNat).toNat with
    | .error e => .fault s e
    | .ok fb =>
      let offA := (g.getS b.toNat).toNat
      let offB := (g.getS c.toNat).toNat
      match firstOf [g.planeRead fb.a, g.planeRead fb.b] with
      | some e => .fault s e
      | none => match s.copyRecords [offA, offB, fb.mdrec] none with
      | .error e => .fault s e
      | .ok rs =>
        let rA := rs.headD {}
        let rB := rs.getD 1 {}
        let rD := rs.getD 2 {}
        let n := rA.cols
        let shape := rA.kind == 0 && rA.space == 1 && rA.rows == 1 && rA.cols % 32 == 0 && rB.kind == 0 && rB.space == 2
          && rB.cols == rA.cols && rD.kind == 0 && rD.space == 1 && (rD.fmt == 10 || rD.fmt == 2) && rD.rows == 1
          && rD.cols == rB.rows && recFmtOk rA.fmt fb.a.fmt && recFmtOk rB.fmt fb.b.fmt && pitchOk fb.a n && pitchOk fb.b n
          && rs.all s.recSpaceOk
        if !shape then illegal s
        else match firstOf [s.recSegment false rA, s.recSegment false rB, s.recSegment true rD, g.planeLimit fb.a 1 n,
            g.planeLimit fb.b rB.rows n] with
          | some e => .fault s e
          | none =>
            let sB := s.sideOf offB rB
            let pB := if fb.b.smode = 1 then s.planeSide fb.b n else {}
            match firstOf [s.translateSide sB rB.rows rB.rb, s.translateSide pB rB.rows (fb.b.packed n)] with
            | some e => .fault s e
            | none =>
              if !s.stackLayout rB sB (if pB.space = 2 then s.sideLeaves pB rB.rows (fb.b.packed n) else []) then illegal s
              else
                let m : Mvm := { owner := s.cur, task := g.task, plan := g.plan, who := s.asker g, token := k.toNat, k := n
                                 n := rB.rows, fa := fb.a, fb := fb.b, a := Stage.start (s.sideOf offA rA) 1 rA.rb
                                 ap := s.planeStage fb.a 1 n, b := Stage.start sB rB.rows rB.rb
                                 bp := s.planeStage fb.b rB.rows n, dst := s.sideOf fb.mdrec rD, todo := [(0, 4 * rB.rows)] }
                let s1 := s.setMe (g.tokenUp k.toNat)
                .ok { s1 with mvms := s1.mvms.put s1.nextTicket m, nextTicket := s1.nextTicket + 1 }) s)
def execMvm (m : Bool) (k : BitVec 3) (a b c : Reg) (st : State) : Out := issue m (mvmBody k a b c) st

/-! The matrix unit. -/

/-- A command completes or fails (R278 to R280): DONE, the fault slot, and its staging entries. -/
def State.finishCmd (s : State) (task : Nat) (c : MatrixCmd) : State :=
  let s1 := s.modTask task fun t =>
    let fin := insertSorted c.id t.finished
    let run := (List.range fin.length).foldl (fun d _ => if fin.contains d then d + 1 else d) t.doneCount
    { t with going := t.going.filter (fun x => x.id != c.id), doneCount := run, finished := fin.filter fun x => decide (run ≤ x) }
  let s2 := match c.failed with
    | none => s1
    | some (k, off) =>
      let g := s1.group c.owner
      if s1.groups.has c.owner ∧ g.task = task ∧ g.matFault.isNone then
        s1.setGroup c.owner { g with matFault := some (k, c.tile, off) } else s1
  s2.enterFetches task 4

/-- A team that is resident, not saved. -/
def State.active? (s : State) (t : Nat) : Option Task := (s.task? t).filter fun x => x.running

/-- The oldest command of the queue starts, once every earlier one that names its tile has completed (R278). -/
def State.tryCmdStart (s : State) (task : Nat) : Option State :=
  match s.active? task with
  | none => none
  | some t => match t.cmds with
    | [] => none
    | c :: rest =>
      if t.going.any fun x => x.tile == c.tile then none
      else
        let go (u : State) : State := u.modTask task fun y => { y with cmds := rest, going := y.going ++ [c] }
        match c.op with
        | .mzero => some (((go s).modTask task fun y => { y with acc := y.acc.put c.tile (List.replicate 4096 0) }).finishCmd task c)
        | .mldacc | .mstacc =>
          if 32 ≤ ((s.core t.core).queue 3).length then none
          else some ((go s).enter t.core 3
            { kind := .tileMove c.id, who := c.who, owner := c.owner, token := none, dst := c.side, src := c.side, rows := 64
              rb := 256, obj := c.obj, task := task, plan := t.plan })
        | _ => some (go s)

/-- Whether everything that q3 fetches for a command has been staged, or given up. What it uses through the latch was fetched for
an earlier command, and is not waited for (log 75). -/
def MatrixCmd.fetched (c : MatrixCmd) : Bool :=
  c.fetches.isEmpty && (List.range 5).all fun i => (c.stage i).direct || c.settled i

/-- The unit reads one piece of an operand it reads directly, once its command has started (R286), and after the engine
accesses of the fetches that feed it (R174). -/
def State.tryMatrixPiece (s : State) (task cmd stage off : Nat) : Option State :=
  match s.active? task with
  | none => none
  | some t => match t.going.find? fun c => c.id == cmd with
    | none => none
    | some c => if (c.stage stage).direct && c.fetched then s.cmdPiece task cmd stage off else none

/-- Bytes as FP32 words (R204). -/
def wordsOf (n : Nat) (bs : List Byte) : List Word := (List.range n).map fun i => BitVec.ofNat 32 (leNat ((bs.drop (4 * i)).take 4))

/-- An entry of the fetcher at the head of q3 is done: an operand is staged, or a tile moved (R286, R291). -/
def State.tryFetchComplete (s : State) (core : Nat) : Option State :=
  match s.head? core 3 with
  | none => none
  | some e =>
    if !s.entryDone e then none
    else match e.kind with
      | .fetch _ _ => some ((s.dropHead core 3).refetch core)
      | .tileMove id =>
        let s1 := s.dropHead core 3
        match (s.task? e.task).bind fun t => t.cmd? id with
        | none => some s1
        | some c =>
          let s2 := if c.op == .mldacc && c.failed.isNone then
            s1.modTask e.task fun y => { y with acc := y.acc.put c.tile (wordsOf 4096 (c.stage 0).bytes) } else s1
          some (s2.finishCmd e.task c)
      | _ => none

/-- The next multiply in queue order: the first started command that multiplies. -/
def Task.nextMultiply (t : Task) : Option MatrixCmd := t.going.find? fun c => c.op == .mma || c.op == .mmaSp

/-- Whether some command still to be multiplied uses the A of a command through the latch. -/
def Task.usesLatch (t : Task) (id : Nat) : Bool :=
  (t.latch.map LatchIssue.cmd) == some id || (t.going ++ t.cmds).any fun c => c.latchOf == some id

/-- What a command latches for those that follow (R285). -/
def MatrixCmd.latched (c : MatrixCmd) : Latched :=
  ⟨(c.stage 0).bytes, (c.stage 1).bytes, (c.stage 4).bytes, (c.stage 4).side, c.failedA⟩

/-- The A of a command: its own, or the one latched (R285). -/
def Task.operandA (t : Task) (c : MatrixCmd) : Latched :=
  match c.latchOf with
  | none => c.latched
  | some id => t.latched.getD id {}

/-- The multiplier takes the next command once its operands are staged; a failed one ends here, and so does one whose
metadata breaks R288 (R280, R285, R289). -/
def State.tryMultiplyStart (s : State) (task : Nat) : Option State :=
  match s.active? task with
  | none => none
  | some t => match t.nextMultiply with
    | none => none
    | some c =>
      if c.multiplying || !(List.range 5).all c.settled || !c.fetches.isEmpty then none
      else
        let keep : Task → Task := fun y =>
          { y with latched := if c.latchOf.isNone ∧ y.usesLatch c.id then y.latched.put c.id c.latched
                              else y.latched.keep fun id _ => y.usesLatch id }
        let s1 := s.modTask task keep
        let a := t.operandA c
        let bad := if c.op == .mmaSp then metaBad a.metaTile (c.k / 8) else none
        let fail : Option (Nat × Nat) := (if c.latchOf.isSome then a.failed else none) <|> c.failed <|>
          (bad.map fun x => (1, a.metaSide.failing x.1 x.2))
        match fail with
        | some f => some (s1.finishCmd task { c with failed := some f })
        | none => some (s1.modTask task fun y => y.modCmd c.id fun d => { d with multiplying := true })

/-- The terms of a command's product (R273, R276, R287). -/
def MatrixCmd.term (c : MatrixCmd) (a : Latched) (m n k : Nat) : Option (Fp × Fp) :=
  let oa : Operand := ⟨c.fa, 128, a.bytes, c.fa.packed c.k, a.plane⟩
  let ob : Operand := ⟨c.fb, (c.stage 2).rb, (c.stage 2).bytes, c.fb.packed c.k, (c.stage 3).bytes⟩
  if c.op == .mmaSp then sparseTerm oa ob a.metaTile (c.k / 8) m n k else denseTerm oa ob m n k

/-- A multiply ends: the tile takes all its values, and the command completes (R283, R289). -/
def State.tryMultiplyComplete (s : State) (task : Nat) : Option State :=
  match s.active? task with
  | none => none
  | some t => match t.going.find? fun c => c.multiplying with
    | none => none
    | some c =>
      let tile := multiplyTile (t.acc.getD c.tile []) c.k (c.term (t.operandA c))
      some ((s.modTask task fun y => { y with acc := y.acc.put c.tile tile }).finishCmd task c)

/-- The first started `mrows` enters its next row while the accumulator queue has room (R290, R291). -/
def State.tryRowEnter (s : State) (task : Nat) : Option State :=
  match s.active? task with
  | none => none
  | some t => match t.going.find? fun c => c.op == .mrows with
    | none => none
    | some c =>
      if 16 ≤ t.accq.length then none
      else
        let row := ((t.acc.getD c.tile []).drop (64 * c.row)).take 64
        let s1 := s.modTask task fun y => { y.modCmd c.id (fun d => { d with row := c.row + 1 }) with accq := y.accq ++ [row] }
        some (if c.row = 63 then s1.finishCmd task c else s1)

/-! mvm at the stack (R296). -/

/-- A product stops on a fault, which goes to its token (R297). -/
def State.stopMvm (s : State) (op : Nat) (m : Mvm) (kind off : Nat) : State :=
  ({ s with mvms := s.mvms.put op { m with stopped := true } }.forget fun f => f == Flight.mvm op).tokenFail m.owner m.task (some m.token)
    ⟨kind, 0, m.dst.recOff, m.b.side.recOff, off⟩

/-- A row of a stage's bytes. -/
def Stage.row (g : Stage) (r : Nat) : List Byte := (g.bytes.drop (r * g.rb)).take g.rb

/-- Whether a row of a stage has been read whole. -/
def Stage.hasRow (g : Stage) (r : Nat) : Bool := g.todo.all fun x => decide (x.2 ≤ r * g.rb) || decide ((r + 1) * g.rb ≤ x.1)

/-- Result r of a product: the vector against row r of the matrix (R296). -/
def Mvm.result (m : Mvm) (r : Nat) : Word :=
  let oa : Operand := ⟨m.fa, m.a.rb, m.a.bytes, m.fa.packed m.k, m.ap.bytes⟩
  let ob : Operand := ⟨m.fb, m.b.rb, m.b.row r, m.fb.packed m.k, m.bp.row r⟩
  accGroups (fun k => denseTerm oa ob 0 0 k) (m.k / 16) 0 0

/-- What reads and writes for a product. -/
def Mvm.as (m : Mvm) (op : Nat) : Owner := ⟨m.who, m.plan, m.task, coreOfGid m.owner, .mvm op⟩

/-- Writes whole results of a product, from the one of a linear byte on as far as its sector goes, once the vector and the rows
that they need have been read: a result is written or it is not (R296, R297). One that lies in two sectors is written in one step,
with nothing in between (log 72). -/
def State.mvmWrite (s : State) (op : Nat) (m : Mvm) (at' : Nat) : Option State :=
  let lin := at' / 4 * 4
  match rangeEnd lin m.todo with
  | none => none
  | some hi =>
    let room := s.sideRoom (m.as op) true m.dst 0 lin
    let n := min (hi - lin) (max 4 (room / 4 * 4))
    let rows := (List.range (n / 4)).map (lin / 4 + ·)
    if !(m.a.todo.isEmpty && m.ap.todo.isEmpty && rows.all fun r => m.b.hasRow r && m.bp.hasRow r) then none
    else
      let bs := rows.flatMap fun r => leBytes 4 (m.result r).toNat
      let two : Except Nat State := match s.writeSide (m.as op) m.dst 0 lin (bs.take room) with
        | .error k => .error k
        | .ok s1 => if n ≤ room then .ok s1 else s1.writeSide (m.as op) m.dst 0 (lin + room) (bs.drop room)
      some (match two with
        | .error k => s.stopMvm op m k (m.dst.failing 0 lin)
        | .ok s1 => { s1 with mvms := s1.mvms.put op { m with todo := takeRange lin n m.todo } })

/-- Reads the piece of a product's operand that holds a linear byte (R168, R296). -/
def State.mvmRead (s : State) (op : Nat) (m : Mvm) (g : Stage) (lin : Nat) (f : Stage → Mvm) : Option State :=
  (s.stagePiece (m.as op) g lin).map fun r => match r with
    | .error e => s.stopMvm op m e.1 e.2
    | .ok x => { x.1 with mvms := x.1.mvms.put op (f x.2) }

/-- One piece of a product: of the vector (0), its plane (1), the matrix (2) or its plane (3), or of the result (4). Those of
a saved team stand still (R360). -/
def State.tryMvmPiece (s : State) (op which lin : Nat) : Option State :=
  match s.mvms.get? op with
  | none => none
  | some m =>
    if m.stopped || ((s.task? m.task).any fun t => !t.running) then none
    else match which with
      | 0 => s.mvmRead op m m.a lin fun g => { m with a := g }
      | 1 => s.mvmRead op m m.ap lin fun g => { m with ap := g }
      | 2 => s.mvmRead op m m.b lin fun g => { m with b := g }
      | 3 => s.mvmRead op m m.bp lin fun g => { m with bp := g }
      | 4 => s.mvmWrite op m lin
      | _ => none

/-- A product completes: PEND[k] − 1 (R296). -/
def State.tryMvmComplete (s : State) (op : Nat) : Option State :=
  match s.mvms.get? op with
  | none => none
  | some m => if (m.stopped || m.todo.isEmpty) && !((s.task? m.task).any fun t => !t.running) then
      some ({ s with mvms := Map.del op s.mvms }.tokenDown m.owner m.task (some m.token)) else none

/-- R278. -/
def execMatrixCommandStart (task : Nat) (st : State) : Out := event st (st.tryCmdStart task)

/-- R286, R291. -/
def execOperandFetchComplete (core : Nat) (st : State) : Out := event st (st.tryFetchComplete core)

/-- R280, R288, R289. -/
def execMultiplyStart (task : Nat) (st : State) : Out := event st (st.tryMultiplyStart task)

/-- R273, R283. -/
def execMultiplyComplete (task : Nat) (st : State) : Out := event st (st.tryMultiplyComplete task)

/-- R291. -/
def execMrowsRowEnter (task : Nat) (st : State) : Out := event st (st.tryRowEnter task)

/-- R296. -/
def execMvmComplete (op : Nat) (st : State) : Out := event st (st.tryMvmComplete op)

end Sys2Proof.Machine
end

