-- ==== Sys2Proof/Machine/Tasks.lean ====
section
/-!
DEFINITION. Tasks: admission, dispatch and start (R23, R254 to R257, R310), `spawn` (R309), the run queues (R312, R313),
exit (R78, R311), ending a task without exit (R354), priorities (R314), and pre-emption with lending (R315).
-/

namespace Sys2Proof.Machine

/-! Admission (R23, R310). -/

def State.stageDesc (s : State) (h x : Nat) : Option StageDesc := (s.plan? h).bind fun p => p.stages[x]?

/-- The groups of a team in order: role, index within the role, role entry (R20). -/
def StageDesc.teamGroups (d : StageDesc) : List (Nat × Nat × RoleDesc) :=
  (List.zip (List.range d.roles.length) d.roles).flatMap fun r => (List.range r.2.groups).map fun k => (r.1, k, r.2)

/-- Slots for groups i, i + 1, ...: each the lowest free slot of vector pipe i mod 4 (R13, R310). -/
def placeSlots (free : Nat → Bool) : Nat → Nat → List Nat → Option (List Nat)
  | 0, _, _ => some []
  | n + 1, i, taken =>
    match ((List.range 8).map fun k => 4 * k + i % 4).find? fun sl => free sl && !taken.contains sl with
    | none => none
    | some sl => (placeSlots free n (i + 1) (sl :: taken)).map (sl :: ·)

/-- The groups resident on a core. -/
def State.groupsOn (s : State) (c : Nat) : Map Group := s.groups.filter fun g => coreOfGid g.1 == c

/-- The scratchpad region of a request: the lowest free range that begins at a multiple of 256 (R310). -/
def freeRegion (used : List (Nat × Nat)) (size : Nat) : Option Nat :=
  let ok (b : Nat) : Bool := decide (b + size ≤ 2 ^ 19) && used.all fun u => decide (b + size ≤ u.1) || decide (u.1 + u.2 ≤ b)
  bestOf (fun a b => decide (a < b)) ((0 :: used.map fun u => u.1 + u.2).filter ok)

/-- Whether a core admits a further team of a stage (R23): its slots and its region's base. -/
def State.admits (s : State) (c h x : Nat) : Option (List Nat × Nat) :=
  match s.stageDesc h x with
  | none => none
  | some d =>
    let on := s.groupsOn c
    let team := d.teamGroups
    let teams := (s.core c).resident.filterMap s.task?
    let pipeLoad (p : Nat) : Nat := on.foldl (fun n g => if g.1 % 4 = p then n + g.2.budget else n) 0
      + (List.zip (List.range team.length) team).foldl (fun n g => if g.1 % 4 = p then n + g.2.2.2.budget else n) 0
    if !(List.range 4).all (fun p => decide (pipeLoad p ≤ 1024)) || (d.tiles != 0 && teams.any fun t => t.tiles != 0) then none
    else match placeSlots (fun sl => !s.groups.has (c * 32 + sl)) team.length 0 [],
        freeRegion (teams.map fun t => (t.scratchBase, t.scratchSize)) d.scratch with
      | some slots, some base => some (slots, base)
      | _, _ => none

/-! Start values (R255, R256, R310). -/

/-- SYS_LOCATION (R16) of a group: the device is what its own die's DEV_ID holds (R370). -/
def State.location (s : State) (gid : Nat) : Dword :=
  let d := dieOfGid gid
  BitVec.ofNat 64 (s.ctlReg d 0x300 % 128 * 2 ^ 23 + (if d < 16 then d * 2 ^ 19 else (d - 16) * 2 ^ 19 + 2 ^ 18)
    + (if isCp gid then 31 * 2 ^ 13
       else coreOfGid gid / 8 % 22 * 2 ^ 13 + coreOfGid gid % 8 * 2 ^ 10 + slotOfGid gid * 2 ^ 5))

/-- A stage's segment as a group sees it: scratchpad and private bases are relative (R134, R310). -/
def relocate (region priv : Nat) (g : Segment) : Segment :=
  match g.space with
  | 0 => { g with base := g.base + priv }
  | 1 => { g with base := g.base + region }
  | _ => g

/-- The private block of a group (R310). -/
def StageDesc.privateBlock (d : StageDesc) (gid : Nat) : Nat := d.privBase + gid * d.privBlk * 64

/-- O(i) of the prefetched positions (R257): position and team offset. -/
def prefetchPlaces (p : Pattern) (slotSize : Nat → Nat) : Nat → List Nat → List (Nat × Nat)
  | _, [] => []
  | off, i :: rest =>
    if bit p.pfmask i then (i, off) :: prefetchPlaces p slotSize (off + slotSize i) rest
    else prefetchPlaces p slotSize off rest

/-- Slot bytes of the pipe claimed at a position. -/
def State.claimBytes (s : State) (t : Task) (i : Nat) : Nat :=
  match t.items[i]? with
  | some (.claim p _ _) => ((s.pipe? t.plan p).map Pipe.slotBytes).getD 0
  | _ => 0

/-- The pattern that fired a task, and where its tiles are prefetched to. -/
def State.patternOf (s : State) (t : Task) : Option Pattern := t.pattern.bind fun k => s.patterns.get? k
def State.prefetches (s : State) (t : Task) : List (Nat × Nat) :=
  match s.patternOf t with
  | none => []
  | some p => prefetchPlaces p (s.claimBytes t) p.pfbase (List.range 8)

/-- s0 to s15 and the tags that delivery gives (R255, R256, R310). -/
def State.delivery (s : State) (t : Task) : List (Nat × Dword) × List Nat :=
  match t.arg with
  | some m => ([(0, m.lo), (1, m.hi)], [m.tag])
  | none =>
    let rb := ((s.patternOf t).map Pattern.recbase).getD 0
    let pf := s.prefetches t
    let pos := List.zip (List.range t.items.length) t.items
    (pos.flatMap fun x => match x.2 with
      | .message _ m => [(2 * x.1, m.lo), (2 * x.1 + 1, m.hi)]
      | .claim p c k =>
        let hi := ((pf.find? fun y => y.1 == x.1).map Prod.snd).getD 0xFFFFFFFF
        [(2 * x.1, BitVec.ofNat 64 (k % 2 ^ 32 + c * 2 ^ 32 + p * 2 ^ 34)),
         (2 * x.1 + 1, BitVec.ofNat 64 (rb + 32 * x.1 + hi * 2 ^ 32))]
      | .absent => [],
     pos.map fun x => match x.2 with
      | .message _ m => m.tag
      | _ => 0)

/-- Four tags as a register (R256). -/
def tagWord (ts : List Nat) : Dword := BitVec.ofNat 64 (((List.range 4).map fun i => ts.getD i 0 * 2 ^ (16 * i)).foldl (· + ·) 0)

/-- s120 (R310). -/
def Task.origin (t : Task) : Dword :=
  match t.pattern, t.arg with
  | some k, _ => BitVec.ofNat 64 (2 ^ 62 + k)
  | none, some _ => BitVec.ofNat 64 (2 * 2 ^ 62)
  | none, none => BitVec.ofNat 64 (t.index % 2 ^ 32)

/-- Group i of a starting team (R310). -/
def State.startGroup (s : State) (tid : Nat) (t : Task) (p : Plan) (d : StageDesc) (gid base i : Nat) (r : Nat × Nat × RoleDesc)
    (deliver : Bool) : Group :=
  let dl := if deliver then s.delivery t else ([], [])
  let regs : List (Nat × Dword) := dl.1 ++
    [(120, t.origin), (121, s.location gid),
     (122, BitVec.ofNat 64 (t.plan * 2 ^ 16 + t.stage * 2 ^ 10 + r.2.1 * 2 ^ 6 + r.1 * 2 ^ 4 + i)),
     (123, BitVec.ofNat 64 d.teams), (126, BitVec.allOnes 64)]
  let g : Group :=
    { mode := .user, pc := d.code + r.2.2.entry
      segs := List.zip (List.range d.segs.length) (d.segs.map (relocate base (d.privateBlock gid)))
      gen := lanesOf (srSeed 0), tags0 := tagWord dl.2, tags1 := tagWord (dl.2.drop 4)
      ptRoot := BitVec.ofNat 64 p.ptRoot, budget := r.2.2.budget, role := r.1, index := i, prio := r.2.2.prio
      ctx := p.context, plan := t.plan, task := tid }
  regs.foldl (fun g x => g.setS x.1 x.2) g

/-- A core comes to serve a context: unless it served it last, what other contexts left in its scratchpad is zero, the
regions of its resident teams apart (R310). -/
def State.enterContext (s : State) (c ctx : Nat) : State :=
  if (s.core c).lastCtx = ctx then s
  else
    let used := ((s.core c).resident.filterMap s.task?).map fun t => (scratchAddr c t.scratchBase, t.scratchSize)
    let stays (a : Nat) : Bool := decide (a < scratchAddr c 0) || decide (scratchAddr c 0 + 2 ^ 19 ≤ a)
      || used.any fun u => decide (u.1 ≤ a) && decide (a < u.1 + u.2)
    { s with mem := s.mem.filter fun x => stays x.1, bad := s.bad.keep fun k _ => stays k
             byteKey := s.byteKey.keep fun k _ => stays k }.setCore c { s.core c with lastCtx := ctx }

/-- The claim records of a delivery, written before the task starts (R255). -/
def State.writeClaims (s : State) (c base : Nat) (t : Task) : State :=
  let rb := ((s.patternOf t).map Pattern.recbase).getD 0
  (List.zip (List.range t.items.length) t.items).foldl (fun st (x : Nat × Item) => match x.2 with
    | .claim p cur k => match st.pipe? t.plan p with
      | some q => st.writeRec (scratchAddr c (base + rb + 32 * x.1)) (q.record p k (some cur))
      | none => st
    | _ => st) s

/-- The prefetch copies of a delivery enter the internal queue (R257). -/
def State.enterPrefetches (s : State) (c base tid : Nat) (t : Task) : State :=
  (s.prefetches t).foldl (fun (st : State) (x : Nat × Nat) => match t.items[x.1]? with
    | some (.claim p cur k) => match st.pipe? t.plan p with
      | some q => st.enter c 4
          { kind := .prefetch tid x.1, who := st.planAsker t.plan c, owner := 0, token := none
            dst := { space := 1, base := scratchAddr c (base + x.2), pitch := q.rb }
            src := { isSlot := true, pipe := p, seq := k % 2 ^ 32, dir := true, cursor := cur, pitch := q.rb, fmt := q.fmt }
            rows := q.rows, rb := q.rb, obj := none, task := tid, plan := t.plan }
      | none => st
    | _ => st) s

/-- Dispatches a task to a core (R310). -/
def State.dispatch (s : State) (c tid : Nat) (t : Task) (p : Plan) (d : StageDesc) (slots : List Nat) (base : Nat) : State :=
  let s0 := s.enterContext c p.context
  let core := s0.core c
  let team := List.zip (List.range slots.length) (List.zip slots d.teamGroups)
  let first := (team.find? fun g => g.2.2.1 == t.role).map Prod.fst
  let fired := t.pattern.isSome || t.arg.isSome
  let s1 := team.foldl (fun st g =>
    st.setGroup (c * 32 + g.2.1) (s0.startGroup tid t p d (c * 32 + g.2.1) base g.1 g.2.2 (fired && first == some g.1))) s0
  let gids := slots.map fun sl => c * 32 + sl
  let s2 := s1.setTask tid { t with
    running := true, starting := true, core := c, groups := gids, live := gids, scratchBase := base, scratchSize := d.scratch
    tiles := d.tiles, startedAt := s.cycle, ran := core.moveL }
  let s3 := s2.setCore c { core with resident := core.resident ++ [tid], moveL := 0 }
  ((s3.writeClaims c base t).enterPrefetches c base tid t).progress t.plan

/-- A saved team resumes where it was, its uncorrectable bytes so again (R315, R360). A group that waits for a word of
scratchpad is examined afresh (R197). -/
def State.resumeTeam (s : State) (c tid : Nat) (t : Task) : State :=
  let s1 := t.held.foldl (fun st g => st.setGroup g.1 g.2)
    (s.enterContext c (((s.plan? t.plan).map Plan.context).getD 0))
  let a := scratchAddr c t.scratchBase
  let s2 := { s1 with mem := memWrite s1.mem a t.heldBytes, bad := t.heldBad.foldl (fun m o => m.put (a + o) 1) s1.bad }
  let s3 := s2.setTask tid { t with running := true, held := [], heldBytes := [], heldBad := [], startedAt := s.cycle, ran := 0 }
  (s3.setCore c { s3.core c with resident := (s3.core c).resident ++ [tid] }).examine a t.scratchSize

/-- A core dispatches the next record of its saved list, or else of its queue (R310, R313, R315, R317). -/
def State.tryDispatch (s : State) (c : Nat) : Option State :=
  let core := s.core c
  match core.stage with
  | none => none
  | some (h, x) =>
    if core.moving.isSome || core.saving.isSome || core.lentDone || (core.lent.isSome && !core.resident.isEmpty) then none
    else match (if core.lent.isSome then [] else core.saved) with
      | tid :: rest => match s.task? tid with
        | none => some (s.setCore c { core with saved := rest })
        | some t => if (t.held.keys).any s.groups.has then none
          else some (((s.setCore c { core with saved := rest }).resumeTeam c tid t).progress h)
      | [] => match core.runq with
        | [] => none
        | tid :: rest => match s.task? tid, s.plan? h, s.stageDesc h x, s.admits c h x with
          | some t, some p, some d, some (slots, base) =>
            if p.state == .running || p.state == .draining then
              some ((s.setCore c { core with runq := rest }).dispatch c tid t p d slots base) else none
          | _, _, _, _ => none

/-- Whether a task's prefetch copies are all performed. -/
def State.prefetched (s : State) (t : Task) (tid : Nat) : Bool :=
  !((s.core t.core).queue 4).any fun e => match e.kind with
    | .prefetch x _ => x == tid
    | _ => false

/-- The group of a team that receives delivery: the first of its role (R254). -/
def State.deliveryGroup (s : State) (t : Task) : Option Nat := t.groups.find? fun g => (s.group g).role == t.role

/-- A task's groups take their ages as it starts (R65). -/
def State.ageTeam (s : State) (t : Task) : State :=
  let s1 := (List.zip (List.range t.groups.length) t.groups).foldl (fun st g =>
    st.setGroup g.2 { st.group g.2 with age := s.nextAge + g.1 }) s
  { s1 with nextAge := s.nextAge + t.groups.length }

/-- A task's groups begin once its prefetches are performed; a failed one faults the delivery group first (R176, R257). -/
def State.tryTaskStart (s : State) (tid : Nat) : Option State :=
  match s.task? tid with
  | none => none
  | some t =>
    if !t.starting || !t.running || !s.prefetched t tid then none
    else
      let s1 := (s.setTask tid { t with starting := false }).ageTeam t
      some (match t.prefFailed, s.deliveryGroup t with
        | some (k, pos, off), some g => s1.takeTrap g (some { kind := k, src := 3, pos := pos, offset := off })
        | _, _ => s1)

/-! Run queues (R312). -/

/-- Free entries of a stage's die queue. -/
def State.dieFree (s : State) (d key : Nat) : Nat :=
  let x := s.die d
  2048 - ((x.runq.getD key []).length + (x.firing.filter fun t => match s.task? t with
    | some r => stageKey r.plan r.stage == key
    | none => false).length)

/-- Adds records to the tail of a stage's die queue. -/
def State.toDieQueue (s : State) (d key : Nat) (ts : List Nat) : State :=
  let x := s.die d
  s.setDie d { x with runq := x.runq.put key (x.runq.getD key [] ++ ts) }

/-- The die a launch team is queued on: the set bits of DIEMASK in turn (R306). -/
def launchDie (mask i : Nat) : Nat :=
  let ds := (List.range 16).filter fun d => bit mask d
  ds.getD (i % max 1 ds.length) 0

/-- Launch teams enter their die queues in ascending order while there is room; the rest wait (R306, R312). -/
def State.feedLaunch (h : Nat) : Nat → State → State
  | 0, s => s
  | fuel + 1, s => match s.plan? h, s.stageDesc h 0 with
    | some p, some d =>
      let die := launchDie d.dieMask p.launched
      if p.state != .running || d.sdev != s.device || decide (p.toLaunch ≤ p.launched) || s.dieFree die (stageKey h 0) == 0 then s
      else
        let s1 := (s.newTask { plan := h, stage := 0, die := die, index := p.launched }).toDieQueue die (stageKey h 0) [s.nextTask]
        State.feedLaunch h fuel (s1.modPlan h fun q => { q with launched := q.launched + 1 })
    | _, _ => s

/-- The eight youngest records of a full core queue move down a level (R312). -/
def State.overflow (s : State) (c : Nat) : Option State :=
  let core := s.core c
  match core.stage with
  | none => none
  | some (h, x) =>
    let keep := core.runq.take (core.runq.length - 8)
    let ts := core.runq.drop (core.runq.length - 8)
    let cl := s.cluster (clusterOfCore c)
    let s1 := s.setCore c { core with runq := keep }
    if cl.runq.length + ts.length ≤ 64 then some (s1.setCluster (clusterOfCore c) { cl with runq := cl.runq ++ ts })
    else if ts.length ≤ s.dieFree (dieOfCore c) (stageKey h x) then some (s1.toDieQueue (dieOfCore c) (stageKey h x) ts)
    else none

/-- A lent core returns to its own stage: what its engines held is there again, streams with fresh timers (R315). The Arbor
state that it held for the other stage's numbers is cleared (R201; log 59). A core whose own plan is gone, which no handle
names any more, is free. -/
def State.coreReturn (s : State) (c : Nat) : State :=
  let core := s.core c
  match core.lent with
  | none => s
  | some own =>
    s.setCore c { core with
      stage := if own.1 = 0 then none else some own, lent := none, lentDone := false, queues := core.held.queues, ready := core.held.ready
      runq := core.held.runq, arborA := [], arborP := []
      streams := Map.mapVals (fun x => { x with since := s.cycle }) core.held.streams, held := {} }

/-- The task that a core was lent for is over: the core returns once no record of the other stage is left in its queue; they
leave it by overflow (R312, R315). -/
def State.lentOver (s : State) (c : Nat) : State :=
  let core := s.core c
  if core.lent.isNone then s
  else if core.runq.isEmpty then s.coreReturn c else s.setCore c { core with lentDone := true }

/-- An overflow step: a record is to enter a full core queue, a move or a loan empties it (R312, R315, R317). -/
def State.tryOverflow (s : State) (c : Nat) : Option State :=
  let core := s.core c
  let asked := (s.groupsOn c).any fun g => match g.2.wait with
    | some (.queue h x) => core.stage == some (h, x)
    | _ => false
  if core.runq.isEmpty then none
  else if core.lentDone then (s.overflow c).map fun u => u.lentOver c
  else if core.moving.isSome || (asked && decide (16 ≤ core.runq.length)) then s.overflow c else none

/-- The records of a stage among a list, oldest first, at most n. -/
def State.recordsOf (s : State) (h x n : Nat) (l : List Nat) : List Nat :=
  (l.filter fun t => match s.task? t with
    | some r => r.plan == h && r.stage == x
    | none => false).take n

/-- An underflow step: a core takes records of its stage from the cluster queue; where it holds none, the cluster takes
some from the die queue (R312). A lent core takes one (R315). A launch team that waits takes a freed entry before a Held pattern
does (log 81). -/
def State.tryUnderflow (s : State) (c : Nat) : Option State :=
  let core := s.core c
  match core.stage with
  | none => none
  | some (h, x) =>
    if core.moving.isSome || core.lentDone || decide ((if core.lent.isSome then 1 else 8) ≤ core.runq.length)
        || (core.lent.isSome && !core.resident.isEmpty) then none
    else
      let k := clusterOfCore c
      let cl := s.cluster k
      match s.recordsOf h x (if core.lent.isSome then 1 else 8) cl.runq with
      | [] =>
        let d := dieOfCore c
        let key := stageKey h x
        let q := (s.die d).runq.getD key []
        let ts := q.take (min 8 (64 - cl.runq.length))
        if ts.isEmpty then none
        else
          let s1 := s.setDie d { s.die d with runq := (s.die d).runq.put key (q.drop ts.length) }
          some (State.feedLaunch h 2048 ((s1.setCluster k { cl with runq := cl.runq ++ ts }).entryFreed d key ts.length))
      | ts => some ((s.setCluster k { cl with runq := cl.runq.filter fun t => !ts.contains t }).setCore c
          { core with runq := core.runq ++ ts })

/-- The lowest die of a mask. -/
def lowestDie (mask : Nat) : Nat := ((List.range 16).find? fun d => bit mask d).getD 0

/-- A spawned record enters its queue, if there is room on its path (R309, R312). -/
def State.spawnInto (s : State) (h x : Nat) (d : StageDesc) (m : Message) : Option State :=
  let c := coreOfGid s.cur
  let core := s.core c
  let t : Task := { plan := h, stage := x, die := dieOfCore c, arg := some m }
  if core.stage = some (h, x) ∧ core.moving.isNone then
    let s1 := if core.runq.length < 16 then some s else s.overflow c
    s1.map fun u => (u.newTask t).setCore c { u.core c with runq := (u.core c).runq ++ [u.nextTask] }
  else
    let die := if bit d.dieMask (dieOfCore c) then dieOfCore c else lowestDie d.dieMask
    if s.dieFree die (stageKey h x) = 0 then none
    else some ((s.newTask { t with die := die }).toDieQueue die (stageKey h x) [s.nextTask])

/-- `spawn`: R309. -/
def spawnBody (a b : Reg) : Body := coreOnly (ordered fun s =>
  let g := s.me
  let v := (g.getS a.toNat).toNat
  let x := v % 32
  if b.toNat = 127 ∨ bits v 31 5 ≠ 0 ∨ bits v 63 48 ≠ 0 then illegal s
  else match s.plan? g.plan, s.stageDesc g.plan x with
    | some p, some d =>
      if d.sdev ≠ s.device then illegal s
      else if p.state == .draining then .fault s { kind := 6 }
      else match s.spawnInto g.plan x d { lo := g.getS b.toNat, hi := g.getS (b.toNat + 1), tag := bits v 47 32 } with
        | some u => .ok u
        | none => .wait s (.queue g.plan x)
    | _, _ => illegal s)
def execSpawn (m : Bool) (a b : Reg) (st : State) : Out := issue m (spawnBody a b) st

/-! The end of a task (R78, R311, R354). -/

/-- A team's slots, region and readinesses are freed, with a halt of one of its groups that its control processor has still to
act on, and a lent core returns (R216, R311, R315, R355). A delivery under way to a readiness of it goes on (log 77). -/
def State.freeTeam (s : State) (tid : Nat) (t : Task) : State :=
  let s1 := { s with groups := s.groups.keep fun gid g => !(t.groups.contains gid && g.task == tid) }
  let core := s1.core t.core
  let s2 := s1.setCore t.core { core with
    resident := core.resident.filter (· != tid), saved := core.saved.filter (· != tid)
    ready := core.ready.keep fun _ r => !t.groups.contains r.owner }
  let d := s2.die (dieOfCore t.core)
  let s3 := if t.running then s2.setDie (dieOfCore t.core) { d with doubleFaults := d.doubleFaults.filter fun g => !t.groups.contains g }
    else s2
  if t.running ∧ (s3.core t.core).resident.isEmpty then s3.lentOver t.core else s3

/-- A task's claims are released or returned, and its uncommitted reservations become Void (R229, R311). -/
def State.endClaims (s : State) (tid plan : Nat) (returns : Bool) : State :=
  (List.range 64).foldl (fun st n => match st.pipe? plan n with
    | some p => st.setPipe plan n (p.endTask tid returns)
    | none => st) s

/-- The last group has exited: the task exits (R311). -/
def State.taskExit (s : State) (tid : Nat) (t : Task) : State :=
  let s1 := (s.freeTeam tid t).endClaims tid t.plan false
  { s1 with tasks := Map.del tid s1.tasks }.progress t.plan

/-- A blocked group is taken out of its wait: a send leaves its waiter list (R260). None where blocking is not
interruptible (R308, R358). -/
def State.interrupt (s : State) (gid : Nat) : Option State :=
  match (s.group gid).wait with
  | some .tlbsync => none
  | some (.removal _) => none
  | some (.gang _ _) => none
  | some .flash => none
  | some .service => none
  | some (.remote _ _) => none
  | some .home => none
  | some (.woken _ _ _ _) => none
  | some (.waiter key _) => some (s.withdraw key gid)
  | _ => some s

/-- A task is over without `exit` (R354): its slots are free; its claims and consumed messages are returned (R229, R258), or
released and discarded. A bulk stream that it left open stays so, until a `cpy.close` (log 79). -/
def State.endTask (s : State) (tid : Nat) (returns : Bool) : State :=
  match s.task? tid with
  | none => s
  | some t =>
    let s1 := s.forget fun f => match f with
      | .ask g => t.groups.contains g
      | _ => false
    let s2 := (s1.freeTeam tid t).endClaims tid t.plan returns
    let msgs := t.items.filter fun i => match i with | .message _ _ => true | _ => false
    let s3 := if returns ∧ !msgs.isEmpty then
        s2.setTask tid { plan := t.plan, stage := t.stage, die := t.die, pattern := t.pattern, items := t.items, ended := true
                         returning := true }
      else { s2 with tasks := Map.del tid s2.tasks }
    if t.running ∨ !t.held.isEmpty then s3.progress t.plan else s3

/-- A group of a task that is being ended stops at an instruction boundary: a send is withdrawn, or its answer waited for (R353,
R354). -/
def State.stopGroup (s : State) (gid : Nat) : State :=
  let u := (s.interrupt gid).getD s
  let g := u.group gid
  u.setGroup gid { g.stopped with
    wait := if g.awaits then g.wait else none, halted := true, stepDue := false, stepArmed := false }

/-- Whether a team's groups can be drained at once (R353, R354). -/
def State.teamSettles (s : State) (t : Task) : Bool := t.groups.all s.canDrain

/-- A task whose groups have stopped is over once they can be drained. -/
def State.endSettled (s : State) (tid : Nat) : Option State :=
  match s.task? tid with
  | none => none
  | some t => t.ending.bind fun returns =>
      if s.teamSettles t then some ((t.groups.foldl State.performAll s).endTask tid returns) else none

/-- The supervisor ends a task without `exit` (R354): its groups stop, and it is over once what they have issued has been
performed (log 66). -/
def State.finishTask (s : State) (tid : Nat) (returns : Bool) : State :=
  match s.task? tid with
  | none => s
  | some t =>
    if !t.running then s.endTask tid returns
    else
      let s1 := s.setTask tid { t with ending := some (t.ending.getD true && returns) }
      let s2 := t.groups.foldl State.stopGroup s1
      (s2.endSettled tid).getD s2

/-- A copy that the operand fetcher makes for a command of the group is not complete: an operand fetch, or a tile move (R78,
R286, R291). -/
def Task.fetchOf (t : Task) (gid : Nat) : Bool := (t.going ++ t.cmds).any fun c => c.owner == gid && (c.op == .mstacc || !c.fetched)

/-- Whether a group's drain has ended: no result outstanding, every token complete, every operand fetched (R78). -/
def State.drained (s : State) (gid : Nat) : Bool :=
  let g := s.group gid
  !g.resultsOut && (List.range 8).all (fun k => (g.token k).pend == 0) && g.late.isEmpty
    && !((s.task? g.task).any fun t => t.fetchOf gid)

/-- Whether a team's task can exit: every access and reduction of its groups has been performed, and every matrix command has
completed or failed (R281, R311). -/
def State.teamQuiet (s : State) (t : Task) : Bool :=
  t.cmds.isEmpty && t.going.isEmpty && t.groups.all fun g => (s.group g).out.isEmpty

/-- Streams that a group left open close (R221). -/
def State.closeStreams (s : State) (gid : Nat) : State :=
  let c := s.core (coreOfGid gid)
  s.setCore (coreOfGid gid) { c with streams := c.streams.keep fun _ x => x.owner != gid }

/-- An exiting group's drain ends: a stored fault is raised, or else the group has exited (R78, R213, R280). Its slot and
budget stay taken until the task exits (R13, R24, R311): all groups have exited, and their reductions and matrix commands are
done (R281). -/
def State.tryExitDrained (s : State) (gid : Nat) : Option State :=
  let g := s.group gid
  if s.groupEnds gid then none
  else match g.wait, s.task? g.task with
  | some .exitDrain, some t =>
    if !s.drained gid then none
    else match g.faulted (BitVec.allOnes 8), g.matFault with
      | some (k, f), _ =>
        let h := g.setToken k { g.token k with fault := none }
        some ((s.setGroup gid { h with wait := none }).takeTrap gid (some (tokenTrap k f)))
      | none, some (k, tile, off) =>
        some ((s.setGroup gid { g with wait := none, matFault := none }).takeTrap gid
          (some { kind := k, src := 2, tile := tile, offset := off }))
      | none, none =>
        let u := { t with live := t.live.filter (· != gid) }
        let s1 := ((s.closeStreams gid).setGroup gid { g with wait := none, exited := true }).setTask g.task u
        some (if u.live.isEmpty && s.teamQuiet t then s1.taskExit g.task u else s1)
  | none, some t => if g.exited && t.live.isEmpty && s.teamQuiet t then some (s.taskExit g.task t) else none
  | _, _ => none

/-- `exit`: R78, R280. -/
def exitBody : Body := coreOnly fun s =>
  match s.me.matFault with
  | some (k, tile, off) => .fault (s.setMe { s.me with matFault := none }) { kind := k, src := 2, tile := tile, offset := off }
  | none => .wait s .exitDrain
def execExit (m : Bool) (st : State) : Out := issue m exitBody st

/-! Priorities (R314). -/

/-- The stages of every plan by key, with their base priorities. -/
def State.basePrios (s : State) : Map Nat :=
  s.plans.flatMap fun p => (List.zip (List.range p.2.stages.length) p.2.stages).map fun x => (stageKey p.1 x.1, x.2.prio)

/-- Waiters that are patterns: which stage raises which (R314). -/
def State.patternRaises (s : State) : List (Nat × Nat) :=
  s.patterns.flatMap fun q =>
    let p := q.2
    let empty := p.ports.filter fun k => match s.ports.get? k with
      | some x => s.portCount x == 0
      | none => true
    if p.disabled || empty.isEmpty || empty.length == p.ports.length then []
    else empty.flatMap fun k => match s.ports.get? k with
      | none => []
      | some x =>
        if x.isHead then match s.pipe? x.plan x.pipe with
          | some pp => [(stageKey p.plan p.stage, stageKey x.plan pp.producer)]
          | none => []
        else match s.plan? p.plan with
          | some pl => (pl.feeds.filter fun f => portKey f.2 == k).map fun f => (stageKey p.plan p.stage, stageKey p.plan f.1)
          | none => []

/-- Waiters that are groups (R314). -/
def State.groupRaises (s : State) : List (Nat × Nat) :=
  s.groups.flatMap fun g =>
    let own := stageKey g.2.plan (((s.task? g.2.task).map Task.stage).getD 0)
    match g.2.wait with
    | some (.pipeFree n _ _) => match s.pipe? g.2.plan n with
      | some p => p.consumers.map fun x => (own, stageKey g.2.plan x)
      | none => []
    | some (.waiter key _) =>
      (s.patterns.filter fun q => q.2.ports.contains key).map fun q => (own, stageKey q.2.plan q.2.stage)
    | _ => []

/-- One round of raises. -/
def raiseOnce (rs : List (Nat × Nat)) (m : Map Nat) : Map Nat :=
  rs.foldl (fun m r => Map.modify r.2 (fun v => max v (m.getD r.1 0)) m) m

/-- Effective priorities of every stage: the least values above the bases that respect every raise (R314). -/
def State.effPrios (s : State) : Map Nat :=
  let rs := s.patternRaises ++ s.groupRaises
  (List.range s.basePrios.length).foldl (fun m _ => raiseOnce rs m) s.basePrios

/-- Whether a stage, by its key, is of a die: DIEMASK and SDEV let it have cores there (R300, R314). -/
def State.stageOnDie (s : State) (d key : Nat) : Bool :=
  match s.stageDesc (key / 32) (key % 32) with
  | some x => bit x.dieMask d && x.sdev == s.device
  | none => false

/-- A die's control processor recomputes the priorities of the die's stages, every 1,024 cycles and after a firing. -/
def State.tryRecompute (s : State) (d : Nat) : Option State :=
  let x := s.die d
  if 16 ≤ d ∨ (!x.effDue ∧ s.cycle < x.effAt + 1024) then none
  else some (s.setDie d { x with effDue := false, effAt := s.cycle, eff := s.effPrios.filter fun e => s.stageOnDie d e.1 })

/-! Pre-emption (R315). -/

/-- The cores of a die, ascending. -/
def coresOf (d : Nat) : List Nat := (List.range 176).map fun i => d * 176 + i

/-- Whether a group's block can be interrupted. -/
def Group.interruptible (g : Group) : Bool :=
  match g.wait with
  | some .tlbsync => false
  | some (.removal _) => false
  | some (.gang _ _) => false
  | some .flash => false
  | some .service => false
  | some (.remote _ _) => false
  | some .home => false
  | some (.woken _ _ _ _) => false
  | _ => true

/-- What a save keeps of a group's wait: the arrival of `bar.arw` and the ticket of `sendw`; any other blocked
instruction issues again (R197, R260, R360). -/
def Group.saved (g : Group) : Group :=
  match g.wait with
  | some (.barrier _ _ true _ _) => g
  | some (.ticket _ _) => g
  | some (.remoteTicket _ _ _) => g
  | some .exitDrain => g
  | _ => { g with wait := none, word := none, target := none }

/-- Whether a started command waits for what the stopped groups would do: a row for room in the accumulator queue, a copy in
q3 for a receiver of the multicast before it. Such a command is saved as it stands (log 65). -/
def State.stuck (s : State) (t : Task) (c : MatrixCmd) : Bool :=
  (c.op == .mrows && decide (16 ≤ t.accq.length))
  || ((c.op == .mstacc || !c.fetched) && (s.head? t.core 3).any fun e => match e.kind with
    | .multicast _ _ => true
    | _ => false)

/-- Whether a team can be saved now: every group can be drained, with no reduction of one that has exited still out, and its
started matrix commands have completed (R192, R277, R360). One that is being ended, or is to be for a halt of one of its groups,
ends first (R354, R355). -/
def State.canHold (s : State) (tid : Nat) : Bool :=
  match s.task? tid with
  | none => true
  | some t => t.ending.isNone && (t.groups.all fun g => !(s.die (dieOfGid g)).doubleFaults.contains g)
    && t.groups.all (fun g => s.canDrain g && (s.group g).interruptible && !((s.group g).exited && !(s.group g).out.isEmpty))
    && t.going.all (s.stuck t)

/-- Stops and saves a team: its groups drain and leave their slots, its region's bytes are kept (R315, R360). -/
def State.holdTeam (s : State) (tid : Nat) : State :=
  match s.task? tid with
  | none => s
  | some t =>
    let s1 := t.groups.foldl (fun st g => ((st.interrupt g).getD st).drainGroup g) s
    let held := t.groups.map fun g => (g, (s1.group g).saved)
    let a := scratchAddr t.core t.scratchBase
    let s2 := s1.setTask tid { t with
      running := false, held := held, heldBytes := s1.bytes a t.scratchSize
      heldBad := (List.range t.scratchSize).filter fun o => s1.bad.has (a + o) }
    let c := s2.core t.core
    { s2.setCore t.core { c with resident := c.resident.filter (· != tid) } with
      groups := s2.groups.keep fun gid _ => !t.groups.contains gid }

/-- Run time of a task (R315, R317). -/
def State.runTime (s : State) (t : Task) : Nat := t.ran + (s.cycle - t.startedAt)

/-- Whether every team resident on a core has run beyond its stage's quantum (R315). -/
def State.preemptible (s : State) (c : Nat) : Bool :=
  (s.core c).resident.all fun tid => match s.task? tid with
    | none => true
    | some t => match s.stageDesc t.plan t.stage with
      | none => true
      | some d => decide (d.quantum < s.runTime t)

/-- Whether a core is a member core of an Arbor number (R198). -/
def State.arborMember (s : State) (h x : Nat) : Bool :=
  match s.plan? h with
  | some p => p.arbors.any fun e => bit e.stages x
  | none => false

/-- Whether a stage has a queued record on a die: in its die queue, a cluster queue, or a core queue, those of its lent cores
among them (R312, R315). -/
def State.hasRecord (s : State) (d h x : Nat) : Bool :=
  !((s.die d).runq.getD (stageKey h x) []).isEmpty
    || (List.range 22).any (fun k => !(s.recordsOf h x 1 (s.cluster (d * 22 + k)).runq).isEmpty)
    || (coresOf d).any fun c =>
      let k := s.core c
      (k.stage == some (h, x) && !k.runq.isEmpty) || (k.lent == some (h, x) && !k.held.runq.isEmpty)

/-- A stage of the die with a queued record that no core of the stage can admit (R315); a lent core takes no second task. A plan
that is not started runs none (R304). -/
def State.starved (s : State) (d key : Nat) : Bool :=
  let h := key / 32
  let x := key % 32
  let cores := (coresOf d).filter fun c => (s.core c).stage == some (h, x)
  (s.plan? h).any (fun p => p.state == .running || p.state == .draining) && s.hasRecord d h x && cores.all fun c =>
    (s.admits c h x).isNone || (s.core c).lentDone || ((s.core c).lent.isSome && !(s.core c).resident.isEmpty)

/-- The greatest run time over quantum of a core's teams, as a fraction (R315). -/
def State.overQuantum (s : State) (c : Nat) : Nat × Nat :=
  (s.core c).resident.foldl (fun b tid => match s.task? tid with
    | none => b
    | some t =>
      let q := max 1 (((s.stageDesc t.plan t.stage).map StageDesc.quantum).getD 1)
      if b.1 * q < s.runTime t * b.2 then (s.runTime t, q) else b) (0, 1)

/-- Saves every team of a core and lends it to a stage (R315). -/
def State.lend (s : State) (c h x : Nat) : State :=
  let teams := (s.core c).resident
  let s1 := (teams.foldl State.holdTeam s).forget fun f => match f with
    | .entry k _ => k == c
    | _ => false
  let k := s1.core c
  s1.setCore c { k with
    lent := k.stage, stage := some (h, x), saving := none, saved := teams, runq := [], queues := [], ready := [], streams := []
    held := { queues := k.queues, ready := k.ready, streams := k.streams, runq := k.runq } }

/-- A lent core that finds no record to run returns (R315; log 34). -/
def State.returnIdle (s : State) (d c : Nat) : State :=
  let k := s.core c
  match k.stage with
  | some (h, x) =>
    if k.lent.isSome && k.resident.isEmpty && k.runq.isEmpty && ((s.die d).runq.getD (stageKey h x) []).isEmpty
        && (s.recordsOf h x 1 (s.cluster (clusterOfCore c)).runq).isEmpty then s.coreReturn c else s
  | none => s

/-- The effective priority of a stage on a die: as it was last computed there, its base before it has been (R314). -/
def State.effOf (s : State) (d key : Nat) : Nat :=
  ((s.die d).eff.get? key).getD (((s.stageDesc (key / 32) (key % 32)).map StageDesc.prio).getD 0)

/-- The stages of a die by key, with their effective priorities (R314). -/
def State.effsOn (s : State) (d : Nat) : Map Nat :=
  (s.basePrios.filter fun e => s.stageOnDie d e.1).map fun e => (e.1, s.effOf d e.1)

/-- The cores that may be lent to a stage of effective priority e, with their stages' priorities (R315). -/
def State.lendable (s : State) (d e : Nat) : List (Nat × Nat) :=
  (coresOf d).filterMap fun c =>
    let k := s.core c
    match k.stage with
    | none => none
    | some (h, x) =>
      let p := s.effOf d (stageKey h x)
      if p < e ∧ !s.arborMember h x ∧ k.moving.isNone ∧ k.saving.isNone ∧ k.lent.isNone ∧ k.saved.isEmpty ∧ s.preemptible c then some (c, p) else none

/-- The first core of a die whose teams are to be saved and can be is lent (R315), with no multicast tile on its way into it
(log 77); what a save writes waits while the die's stack retrains (R361). -/
def State.trySaved (s : State) (d : Nat) : Option State :=
  if s.retrains d then none
  else ((coresOf d).findSome? fun c => (s.core c).saving.bind fun x =>
    if (s.core c).resident.all s.canHold && !s.delivering c (fun _ => true) then some (c, x) else none).map fun y => s.lend y.1 y.2.1 y.2.2

/-- What a die's control processor does for pre-emption: it lends a core whose teams can be saved, or makes the tick that is
due, which chooses a core (R315). The core's groups stop from then on. -/
def State.tryPreemptTick (s : State) (d : Nat) : Option State :=
  (s.trySaved d) <|> let x := s.die d
  if 16 ≤ d ∨ s.cycle < x.preemptedAt + 1024 then none
  else
    let s1 := (coresOf d).foldl (fun st c => st.returnIdle d c) (s.setDie d { x with preemptedAt := s.cycle })
    some (match bestOf (fun (a b : Nat × Nat) => decide (b.2 < a.2) || (a.2 == b.2 && decide (a.1 < b.1)))
        ((s1.effsOn d).filter fun e => s1.starved d e.1) with
      | none => s1
      | some w =>
        let older (a b : Nat × Nat) : Bool := decide (a.1 * b.2 > b.1 * a.2)
        match bestOf (fun (a b : Nat × Nat) => decide (a.2 < b.2) || (a.2 == b.2 &&
            (older (s1.overQuantum a.1) (s1.overQuantum b.1) ||
              (!older (s1.overQuantum b.1) (s1.overQuantum a.1) && decide (a.1 < b.1))))) (s1.lendable d w.2) with
        | none => s1
        | some c =>
          let s2 := s1.setCore c.1 { s1.core c.1 with saving := some (w.1 / 32, w.1 % 32) }
          (s2.trySaved d).getD s2)

/-- R310, R313. -/
def execTaskDispatch (core : Nat) (st : State) : Out := event st (st.tryDispatch core)

/-- R176, R257. -/
def execTaskStart (task : Nat) (st : State) : Out := event st (st.tryTaskStart task)

/-- R78, R311. -/
def execGroupExitDrained (gid : Nat) (st : State) : Out := event st (st.tryExitDrained gid)

/-- R312. -/
def execQueueOverflow (core : Nat) (st : State) : Out := event st (st.tryOverflow core)

/-- R312. -/
def execQueueUnderflow (core : Nat) (st : State) : Out := event st (st.tryUnderflow core)

/-- R314. -/
def execPriorityRecompute (d : Nat) (st : State) : Out := event st (st.tryRecompute d)

/-- R315. -/
def execPreemptTick (d : Nat) (st : State) : Out := event st (st.tryPreemptTick d)

end Sys2Proof.Machine
end

