-- ==== Sys2Proof/Machine/Shootdown.lean ====
section
/-!
DEFINITION. The removal of translations from every TLB, and its completion (R143, R144, R358).
-/

namespace Sys2Proof.Machine

/-- Whether a removal, its scope, context and page, names a TLB entry (R358). -/
def TlbEntry.named (e : TlbEntry) (x : Nat × Nat × Nat) : Bool :=
  match x.1 with
  | 0 => e.ctx == x.2.1 && (match pageBits (leafPsize e.leaf) with | b => e.page * 4096 / 2 ^ b == x.2.2 * 4096 / 2 ^ b)
  | 1 => e.ctx == x.2.1
  | _ => true

/-- Removes translations from every TLB, for group `gid`: of one page of a context, of a context, or all (R358). -/
def State.shootDown (s : State) (gid scope ctx page : Nat) : State :=
  let s1 := { s with tlb := s.tlb.filter fun e => !e.named (scope, ctx, page) }
  s1.setGroup gid { s1.group gid with invs := (s1.group gid).invs ++ [(scope, ctx, page)] }

/-- Whether a group of a die that is not off has issued an access of a context, or of any, that is still to be performed (log 96). -/
def State.accessesOf (s : State) (x : Nat × Nat × Nat) : Bool :=
  s.groups.any fun g => !(s.die (dieOfGid g.1)).off && (x.1 == 2 || g.2.ctx == x.2.1) && g.2.out.any fun p => !p.todo.isEmpty

/-- A removal that still waits goes on (R144): an entry that has come back into a TLB goes again; when none is left, and nothing
that may have been translated under one is left to perform, `done` follows (log 41). -/
def State.tryShootdown (s : State) (gid : Nat) (done : State → State) : Option State :=
  let invs := (s.group gid).invs
  match invs.find? fun x => s.tlb.any fun e => e.named x with
  | some x => some { s with tlb := s.tlb.filter fun e => !e.named x }
  | none => if invs.any s.accessesOf then none else some (done (s.setGroup gid { s.group gid with invs := [] }))

end Sys2Proof.Machine
end

