-- ==== Sys2Proof/Machine/Plans.lean ====
section
/-!
DEFINITION. Plans: the record and its checks (R298 to R305), start, drain and removal (R304, R306, R307, R318, R319), the
rebalancer (R317), deadlock detection (R320) and gang plans (R321).
-/

namespace Sys2Proof.Machine

/-! The record (R298 to R303). -/

/-- Whether some bit range of a word is nonzero. -/
def anyBits (x : Nat) (l : List (Nat × Nat)) : Bool := l.any fun r => bits x r.1 r.2 != 0

/-- The header's eight doublewords. -/
structure Header where
  w : List Nat := []
  deriving DecidableEq, Repr

def Header.d (h : Header) (i : Nat) : Nat := h.w.getD i 0
def Header.nstages (h : Header) : Nat := bits (h.d 0) 39 32
def Header.npipes (h : Header) : Nat := bits (h.d 0) 47 40
def Header.narbor (h : Header) : Nat := bits (h.d 0) 55 48
def Header.nports (h : Header) : Nat := bits (h.d 0) 15 0
def Header.npatterns (h : Header) : Nat := bits (h.d 0) 31 16
def Header.nfeeds (h : Header) : Nat := bits (h.d 7) 47 32
def Header.nimg (h : Header) : Nat := bits (h.d 7) 63 48
def Header.tenant (h : Header) : Nat := bits (h.d 1) 63 48
def Header.context (h : Header) : Nat := bits (h.d 1) 47 32
def Header.ptRoot (h : Header) : Nat := bits (h.d 4) 45 12 * 4096
def Header.gang (h : Header) : Bool := bit (h.d 3) 53
def Header.faultPort (h : Header) : Nat := bits (h.d 1) 31 0

/-- A multiple of 32 at or above n. -/
def up32 (n : Nat) : Nat := (n + 31) / 32 * 32

/-- Where each array starts, with the size and number of its entries (R299). -/
def Header.arrays (h : Header) : List (Nat × Nat × Nat) :=
  ([(256, h.nstages), (32, h.npipes), (8, h.nports), (32, h.npatterns), (8, h.narbor), (8, h.nfeeds), (32, h.nimg)].foldl
    (fun (acc : Nat × List (Nat × Nat × Nat)) x => (up32 (acc.1 + x.1 * x.2), acc.2 ++ [(acc.1, x.1, x.2)])) (64, [])).2

/-- The length of the record. -/
def Header.size (h : Header) : Nat := (h.arrays.getLastD (64, 0, 0)).1 + 32 * h.nimg

/-- The entries of the arrays, as doublewords. -/
structure Arrays where
  stages : List (List Nat) := []
  pipes : List (List Nat) := []
  ports : List (List Nat) := []
  patterns : List (List Nat) := []
  arbors : List (List Nat) := []
  feeds : List (List Nat) := []
  images : List (List Nat) := []
  deriving DecidableEq, Repr

/-- Doublewords of bytes. -/
def dwordsOf (n : Nat) (bs : List Byte) : List Nat := (List.range n).map fun i => leNat ((bs.drop (8 * i)).take 8)

/-- What ordered reads for a plan answer: a value and the state after, or, with that state, the entry that cannot be read, or
none where a place cannot be read yet (R137, R305). -/
abbrev Reading (α : Type) := Except (Option Nat × State) (α × State)

/-- A group's instruction waits for what it reads as it issues; the window in which it first read is kept (R137; log 94). -/
def State.awaitReads (s : State) : Eff :=
  .wait (s.setMe { s.me with reads := { s.me.reads with since := some (s.me.reads.since.getD (s.cycle / 128)) } }) .service

/-- The bytes of pieces, in order; `i` names the entry that they are of. A refused read counts as a violation (R335); a unit that
meets a redirect stub has the present map (R155). -/
def readPlaces (i : Nat) (who : Asker) : List Piece → State → Reading (List Byte)
  | [], s => .ok ([], s)
  | p :: t, s =>
    if s.readLost p.addr || s.readsBad who p.key p.addr p.len then .error (some i, s)
    else match readPlaces i who t ((s.redirect who.unit p.addr).afterRead who p.key p.addr) with
      | .error e => .error e
      | .ok r => .ok (s.readPiece who p.key p.addr p.len ++ r.1, r.2)

/-- n bytes from an offset of a segment, for an asker, as scalar loads of thread 0 read them (R298). -/
def State.readBytes (s : State) (i : Nat) (who : Asker) (sg : Segment) (off n : Nat) : Reading (List Byte) :=
  if isCtlSpace sg.space then .ok (List.replicate n 0, s)
  else match s.checkAccess s.cur who 0 sg { r := true } none off n with
    | .error _ => .error (some i, s)
    | .ok ps => if ps.all fun p => s.readable (.ask s.cur) p.addr then readPlaces i who ps s else .error (none, s)

/-- Every answer of a list, if none is missing. -/
def allOf {α : Type} : List (Option α) → Option (List α)
  | [] => some []
  | none :: _ => none
  | some x :: t => (allOf t).map (x :: ·)

/-- Bytes of the record, by the issuing group. -/
def State.readRecord (s : State) (i : Nat) (sg : Segment) (off n : Nat) : Reading (List Byte) :=
  s.readBytes i (s.asker s.me) sg off n

/-- The entries of one array in order. -/
def State.readArray (sg : Segment) (size : Nat) : Nat → Nat → Nat → State → Reading (List (List Nat))
  | 0, _, _, s => .ok ([], s)
  | n + 1, i, off, s =>
    match s.readRecord i sg off size with
    | .error e => .error e
    | .ok (bs, s1) => match State.readArray sg size n (i + 1) (off + size) s1 with
      | .error e => .error e
      | .ok (rest, s2) => .ok (dwordsOf (size / 8) bs :: rest, s2)

/-- Every array, in the record's order. The padding between them is not read: that nonzero bytes of it raise nothing is the
model's choice (R3, R299; log 67). -/
def State.readArrays (sg : Segment) (off : Nat) : List (Nat × Nat × Nat) → State → Reading (List (List (List Nat)))
  | [], s => .ok ([], s)
  | x :: t, s => match State.readArray sg x.2.1 x.2.2 0 (off + x.1) s with
    | .error e => .error e
    | .ok (a, s1) => match State.readArrays sg off t s1 with
      | .error e => .error e
      | .ok (rest, s2) => .ok (a :: rest, s2)

def arraysOf (l : List (List (List Nat))) : Arrays :=
  ⟨l.getD 0 [], l.getD 1 [], l.getD 2 [], l.getD 3 [], l.getD 4 [], l.getD 5 [], l.getD 6 []⟩

/-! Reserved fields (R3, R305). -/

/-- Bits of a port id that are reserved (R240). -/
def portIdReserved : List (Nat × Nat) := [(31, 30), (18, 13)]

def Header.reserved (h : Header) : Bool :=
  anyBits (h.d 0) [(63, 56)] || anyBits (h.d 1) portIdReserved || anyBits (h.d 2) [(63, 48)]
    || anyBits (h.d 3) [(63, 59), (52, 32)] || anyBits (h.d 4) [(63, 46), (11, 0)] || anyBits (h.d 6) [(63, 39)]
    || anyBits (h.d 7) [(31, 0)]

/-- Reserved bits of a segment's two doublewords, and the reserved space codes 6 and 7 (R26, R133). -/
def segReserved (w0 w1 : Nat) : Bool := anyBits w0 [(63, 56)] || anyBits w1 [(7, 7), (3, 3)] || decide (6 ≤ bits w1 2 0)

def stageReserved (e : List Nat) : Bool :=
  let d (i : Nat) : Nat := e.getD i 0
  (List.range 8).any (fun i => segReserved (d (2 * i)) (d (2 * i + 1)))
    || anyBits (d 16) [(63, 56)] || anyBits (d 17) [(47, 47), (39, 32), (7, 3)] || anyBits (d 19) [(63, 56)]
    || anyBits (d 20) [(63, 32)] || anyBits (d 21) [(31, 8), (3, 2)]
    || [22, 23, 24, 25].any (fun i => anyBits (d i) [(31, 15), (7, 5)]) || d 26 != 0
    || [27, 28, 29, 30, 31].any fun i => d i != 0

def pipeReserved (e : List Nat) : Bool :=
  anyBits (e.getD 0 0) [(63, 56)] || anyBits (e.getD 1 0) [(11, 5)] || anyBits (e.getD 2 0) [(44, 20)] || e.getD 3 0 != 0
def portReserved (e : List Nat) : Bool := anyBits (e.getD 0 0) [(63, 40), (31, 31), (23, 23), (18, 13)]
def patternReserved (e : List Nat) : Bool :=
  (List.range 8).any (fun i => bits (e.getD (i / 4) 0) (16 * (i % 4) + 15) (16 * (i % 4) + 13) != 0)
    || anyBits (e.getD 2 0) [(63, 36), (31, 23)] || anyBits (e.getD 3 0) [(63, 51), (31, 19)]
def arborReserved (e : List Nat) : Bool := anyBits (e.getD 0 0) [(63, 48), (42, 37)]
def feedReserved (e : List Nat) : Bool := anyBits (e.getD 0 0) ((63, 37) :: portIdReserved)
def imageReserved (e : List Nat) : Bool :=
  anyBits (e.getD 0 0) [(63, 56)] || anyBits (e.getD 1 0) [(63, 32)] || anyBits (e.getD 2 0) [(63, 48)] || e.getD 3 0 != 0

def Arrays.reserved (a : Arrays) : Bool :=
  a.stages.any stageReserved || a.pipes.any pipeReserved || a.ports.any portReserved || a.patterns.any patternReserved
    || a.arbors.any arborReserved || a.feeds.any feedReserved || a.images.any imageReserved

/-! The entries as data. -/

/-- A segment descriptor (R133). -/
def segmentOf (w0 w1 : Nat) : Segment := ⟨bits w0 55 0, bits w1 63 8, bit w1 4, bit w1 5, bit w1 6, bits w1 2 0⟩

def roleOf (w : Nat) : RoleDesc := { entry := bits w 63 32, prio := bits w 14 12, budget := 8 * (bits w 11 8 + 1), groups := bits w 4 0 }

def stageEntry (e : List Nat) : StageDesc :=
  let d (i : Nat) : Nat := e.getD i 0
  { segs := (List.range 8).map fun i => segmentOf (d (2 * i)) (d (2 * i + 1))
    code := bits (d 16) 55 0, dieMask := bits (d 17) 63 48, sdev := bits (d 17) 46 40, maxS := bits (d 17) 31 24
    minS := bits (d 17) 23 16, initS := bits (d 17) 15 8, prio := bits (d 17) 2 0, quantum := bits (d 18) 63 32
    teams := bits (d 18) 31 0, privBase := bits (d 19) 55 0, privBlk := bits (d 20) 31 0, scratch := bits (d 21) 63 32
    tiles := bits (d 21) 7 4, roles := (List.range (bits (d 21) 1 0 + 1)).map fun i => roleOf (d (22 + i)) }

def pipeEntry (e : List Nat) : Pipe :=
  let d (i : Nat) : Nat := e.getD i 0
  let n := bits (d 1) 13 12 + 1
  { fmt := bits (d 1) 31 28, rows := bits (d 1) 47 32, cols := bits (d 1) 63 48, producer := bits (d 1) 4 0
    consumers := (List.range n).map fun c => bits (d 2) (5 * c + 4) (5 * c), depth := bits (d 1) 27 21
    resident := bits (d 1) 20 14, homeKind := bits (d 2) 63 62
    home := if bits (d 2) 63 62 = 1 then bits (d 2) 54 49 else bits (d 2) 61 55 * 16 + bits (d 2) 48 45
    spill := bits (d 0) 55 0, cl := List.replicate n 0, ret := List.replicate n [] }

/-- A port descriptor's key and port (R241). -/
def portEntry (h : Nat) (e : List Nat) : Nat × Port :=
  let w := e.getD 0 0
  let head := bits w 30 29 == 1
  (bits w 22 19 * 8192 + bits w 12 0,
   { plan := h, isHead := head, fault := bit w 28, depth := if head then 0 else bits w 27 24 + 1, pipe := bits w 39 34
     cursor := bits w 33 32 })

/-- A pattern entry's die and pattern (R248). -/
def patternEntry (h : Nat) (e : List Nat) : Nat × Pattern :=
  let d (i : Nat) : Nat := e.getD i 0
  let die := bits (d 2) 35 32
  (die,
   { plan := h, ports := (List.range (bits (d 2) 3 0)).map fun i => die * 8192 + bits (d (i / 4)) (16 * (i % 4) + 12) (16 * (i % 4))
     role := bits (d 2) 22 21, stage := bits (d 2) 20 16, pfmask := bits (d 2) 15 8, prio := bits (d 2) 6 4
     pfbase := bits (d 3) 50 32, recbase := bits (d 3) 18 0, disabled := bit (d 2) 7 })

def arborEntry (e : List Nat) : ArborEntry :=
  ⟨bits (e.getD 0 0) 36 32, bits (e.getD 0 0) 47 43 + 1, bits (e.getD 0 0) 31 0⟩
def feedEntry (e : List Nat) : Nat × Nat := (bits (e.getD 0 0) 36 32, bits (e.getD 0 0) 31 0)

/-! The checks of REASON 1 to 11 (R305): each answers the index it fails at. -/

/-- The index of the first entry that fails a test. -/
def firstIndex {α : Type} (bad : Nat → α → Bool) (l : List α) : Option Nat :=
  ((List.zip (List.range l.length) l).find? fun x => bad x.1 x.2).map Prod.fst

/-- The index at which a running sum first passes a bound. -/
def sumPasses (bound : Nat) (l : List Nat) : Option Nat :=
  (List.range l.length).find? fun i => decide (bound < (l.take (i + 1)).foldl (· + ·) 0)

/-- What the entries of a record are. -/
structure Record where
  h : Header
  a : Arrays
  stages : List StageDesc
  pipes : List Pipe
  ports : List (Nat × Port)
  patterns : List (Nat × Pattern)
  arbors : List ArborEntry
  feeds : List (Nat × Nat)
  deriving DecidableEq, Repr

def planRecord (plan : Nat) (h : Header) (a : Arrays) : Record :=
  ⟨h, a, a.stages.map stageEntry, a.pipes.map pipeEntry, a.ports.map (portEntry plan), a.patterns.map (patternEntry plan), a.arbors.map arborEntry,
   a.feeds.map feedEntry⟩

/-- Whether a stage of a record is on a device. -/
def Record.stageOn (r : Record) (dev x : Nat) : Bool := (r.stages[x]?).any fun d => d.sdev == dev

/-- Whether a pattern or a port of a gang plan is installed on a device: the pattern's stage is there; of the port, the stage of
a pattern that names it, and the stage that a pipe-head port's cursor serves; a port of no pattern, unless its pipe is homed
elsewhere (R305; log 11). -/
def Record.here (r : Record) (dev : Nat) (p : Nat × Pattern) : Bool := r.stageOn dev p.2.stage
def Record.portHere (r : Record) (dev : Nat) (x : Nat × Port) : Bool :=
  let users := r.patterns.filter fun p => p.2.ports.contains x.1
  let pipe := if x.2.isHead then r.pipes[x.2.pipe]? else none
  !r.h.gang
    || ((pipe.bind fun p => p.consumers[x.2.cursor]?).all (r.stageOn dev)
      && (users.any (r.here dev) || (users.isEmpty && pipe.all fun p => p.homeKind == 0 && p.home / 16 == dev)))

/-- Whether a port id names one of the plan's own ports (R305): one that the device of the id installs. -/
def Record.ownPort (r : Record) (dev id : Nat) (kind : Port → Bool := fun _ => true) : Bool :=
  (portDevice id == dev || (r.h.gang && r.stages.any fun d => d.sdev == portDevice id))
    && r.ports.any fun x => x.1 == portKey id && r.portHere (portDevice id) x && kind x.2

/-- The commit word of a gang plan (R321): its place and key, if it is Pavilion memory that can be reached; else the kind of
the fault, region lost where its switch is. -/
def State.commitWord (s : State) (who : Asker) (va : Nat) : Except Nat (Nat × Nat) :=
  match s.leafFor who true va with
  | .error k => .error k
  | .ok e => match s.leafDenies { r := true, w := true } e with
    | some k => .error k
    | none => .ok (s.place e va, leafKey e)

/-- Whether a request for a commit word, where there is one to make, has gone out and can be answered. -/
def State.commitReached (s : State) (f : Flight) (who : Asker) (va : Nat) : Bool :=
  match s.commitWord who va with
  | .error _ => true
  | .ok x => s.answered f x.1

/-- A commit word's place, key and value, or the kind of the fault: uncorrectable data, or a nonzero reserved field (R3, R321). -/
def State.commitValue (s : State) (who : Asker) (va : Nat) : Except Nat (Nat × Nat × Nat) :=
  match s.commitWord who va with
  | .error k => .error k
  | .ok (a, key) =>
    let w := leNat (s.readPiece who key a 8)
    if s.readsBad who key a 8 then .error 8 else if bits w 63 18 ≠ 0 then .error 1 else .ok (a, key, w)

/-- Who the plan of a record is when the issuing group's die acts for it. -/
def State.recordAsker (s : State) (h : Header) : Asker := ⟨h.context, h.ptRoot, h.tenant, l2Unit (unitOf s.cur)⟩

/-- REASON 1. -/
def State.reason1 (s : State) (r : Record) : Bool :=
  let h := r.h
  let members := bits (h.d 5) 63 56
  let va := bits (h.d 5) 55 0
  let interval := bits (h.d 2) 31 0
  let timeout := bits (h.d 6) 31 0
  h.nstages == 0 || decide (32 < h.nstages) || decide (64 < h.npipes) || decide (32 < h.narbor)
    || (interval != 0 && decide (interval < 1024)) || decide (32 < bits (h.d 2) 39 32) || bits (h.d 3) 55 54 == 3
    || (if h.gang then members == 0 || decide (127 < members) || va % 8 != 0 || decide (timeout < 65536)
          || (match s.leaf? (s.recordAsker h) va with
              | .ok e => leafAperture e != 3
              | .error _ => true)
        else h.d 5 != 0 || h.d 6 != 0)
    || (h.faultPort != 0 && r.ownPort s.device h.faultPort)

/-- A segment of a stage descriptor against R134 and its private block: REASON 2. A record with space code 6 or 7 has faulted
before (R26). -/
def segmentBad (privBlk : Nat) (g : Segment) : Bool :=
  (g.x && g.w) || (match g.space with
    | 0 => g.base % 4 != 0 || g.limit % 4 != 0 || decide (2 ^ 56 < g.base + g.limit * 64)
        || decide (privBlk * 64 < g.base + g.limit * 64)
    | 1 => false
    | 2 => decide (2 ^ 56 < g.base + g.limit)
    | 3 => g.w || decide (768 * 2 ^ 20 < g.base + g.limit)
    | 4 => decide (2 ^ 56 < g.base + g.limit)
    | 5 => decide (2 ^ 22 < g.base + g.limit)
    | _ => true)

/-- An all-zero descriptor is a private segment of no bytes. -/
def State.reason2 (s : State) (d : StageDesc) : Bool :=
  d.privBlk % 4 != 0 || d.segs.any (segmentBad d.privBlk)
    || (d.sdev == s.device && d.segs.any (fun g => g.space == 3)
        && (List.range 16).any fun k => bit d.dieMask k && s.orangeryFenced k)

/-- REASON 3; `e` is the descriptor's doublewords, for the role entries that must be zero. -/
def reason3 (e : List Nat) (d : StageDesc) : Bool :=
  decide (8 < d.tiles) || d.scratch % 256 != 0 || decide (2 ^ 19 < d.scratch)
    || d.roles.any (fun r => r.entry % 4 != 0 || r.groups == 0 || decide (16 < r.groups))
    || decide (16 < (d.roles.map RoleDesc.groups).foldl (· + ·) 0)
    || (List.range 4).any (fun i => decide (d.roles.length ≤ i) && e.getD (22 + i) 0 != 0)
    || d.segs.any fun g => g.space == 1 && decide (d.scratch < g.base + g.limit)

/-- REASON 4 for one stage. -/
def State.reason4 (s : State) (h : Header) (d : StageDesc) : Bool :=
  d.minS == 0 || decide (d.initS < d.minS) || decide (d.maxS < d.initS) || decide (176 < d.maxS)
    || decide (bits (h.d 3) 58 56 < d.prio) || (d.teams != 0 && (h.nstages != 1 || h.npipes != 0)) || d.dieMask == 0
    || d.code % 4 != 0 || decide (d.quantum < 1024) || (!h.gang && d.sdev != s.device)

/-- REASON 5 for one pipe; `e` is its doublewords. The home is in a consumer's module, on a die in service (R223, R382). -/
def State.reason5 (s : State) (stages : List StageDesc) (e : List Nat) (p : Pipe) : Bool :=
  let n := p.consumers.length
  let mask (x : Nat) : Nat := ((stages[x]?).map StageDesc.dieMask).getD 0
  let dev (x : Nat) : Nat := ((stages[x]?).map StageDesc.sdev).getD 0
  decide (13 < p.fmt) || p.rows == 0 || p.cols == 0 || (p.fmt == 4 && p.cols % 2 == 1) || decide (2 ^ 18 < p.slotBytes)
    || p.depth == 0 || decide (64 < p.depth) || p.resident == 0 || decide (p.depth < p.resident)
    || decide (stages.length ≤ p.producer) || p.consumers.any (fun x => decide (stages.length ≤ x))
    || bits (e.getD 2 0) 19 0 / 2 ^ (5 * n) != 0 || decide (1 < p.homeKind) || (p.homeKind == 1 && decide (48 ≤ p.home))
    || p.spill % 64 != 0 || decide (2 ^ 56 < p.spill + p.depth * p.slotBytes)
    || (p.homeKind == 0 && (p.consumers.all (fun x => dev x != p.home / 16)
        || (p.home / 16 == s.device && s.dieOut (p.home % 16))))
    || (p.homeKind == 0 && p.consumers.any fun x => dev x == p.home / 16 && !bit (mask x) (p.home % 16))
    || (p.homeKind == 0 && p.home / 16 == s.device && p.consumers.any (fun x => mask x != mask p.producer)
        && !bit (mask (p.consumers.headD 0)) (p.home % 16))

/-- Whether a pipe is homed in the L2 of a die of the module. -/
def State.homedOn (s : State) (p : Pipe) (d : Nat) : Bool := p.homeKind == 0 && p.home == s.device * 16 + d

/-- REASON 6 for port i of the plan (R241, R242): of one that this module installs, no other may have its place. -/
def State.reason6 (s : State) (r : Record) (e : List Nat) (i : Nat) (x : Nat × Port) : Bool :=
  let w := e.getD 0 0
  let mine := r.portHere s.device x
  decide (1 < bits w 30 29) || (x.2.isHead && (x.2.fault || bits w 27 24 != 0))
    || (!x.2.isHead && (x.2.pipe != 0 || x.2.cursor != 0))
    || (mine && (s.ports.has x.1 || (r.ports.take i).any fun y => y.1 == x.1 && r.portHere s.device y))
    || (x.2.isHead && (match r.pipes[x.2.pipe]? with
      | none => true
      | some p => decide (p.consumers.length ≤ x.2.cursor) || (mine && !s.homedOn p (dieOfPort x.1))))

/-- Depths of the message ports of a die that are installed. -/
def State.installedDepths (s : State) (d : Nat) : Nat :=
  s.ports.foldl (fun n p => if dieOfPort p.1 = d then n + p.2.depth else n) 0

/-- REASON 7 for a pattern (R249). Its ports are those of its stage's device. The record places that the prefetch area may not
overlap are those of its ports (log 80). -/
def State.reason7 (s : State) (r : Record) (e : List Nat) (x : Nat × Pattern) : Bool :=
  let stages := r.stages
  let pipes := r.pipes
  let p := x.2
  let n := p.ports.length
  let dev := ((stages[p.stage]?).map StageDesc.sdev).getD s.device
  let port (k : Nat) : Option Port :=
    ((r.ports.find? fun y => y.1 == k && r.portHere dev y) <|> r.ports.find? fun y => y.1 == k).map Prod.snd
  let heads := (List.range n).filter fun i => (port (p.ports.getD i 0)).any Port.isHead
  let bytes (i : Nat) : Nat := match port (p.ports.getD i 0) with
    | some y => ((pipes[y.pipe]?).map Pipe.slotBytes).getD 0
    | none => 0
  let pf := prefetchPlaces p bytes p.pfbase (List.range n)
  let pfEnd := pf.foldl (fun m y => max m (y.2 + bytes y.1)) p.pfbase
  n == 0 || decide (8 < n) || (List.range n).any (fun i => (p.ports.take i).contains (p.ports.getD i 0))
    || (List.range 8).any (fun i => decide (n ≤ i) && bits (e.getD (i / 4) 0) (16 * (i % 4) + 12) (16 * (i % 4)) != 0)
    || p.ports.any (fun k => (port k).isNone) || p.recbase % 32 != 0 || p.pfbase % 64 != 0
    || (match stages[p.stage]? with
        | none => true
        | some d => decide (d.roles.length ≤ p.role) || !bit d.dieMask x.1
            || heads.any (fun i => match port (p.ports.getD i 0) with
                | some y => ((pipes[y.pipe]?).bind fun q => q.consumers[y.cursor]?) != some p.stage
                | none => true)
            || (List.range 8).any (fun i => bit p.pfmask i && !heads.contains i)
            || (!heads.isEmpty && decide (d.scratch < p.recbase + 32 * n))
            || (!pf.isEmpty && (decide (d.scratch < pfEnd)
                || (decide (p.pfbase < p.recbase + 32 * n) && decide (p.recbase < pfEnd)))))

/-- REASON 8 for Arbor entry i (R198, R382). -/
def State.reason8 (s : State) (stages : List StageDesc) (l : List ArborEntry) (i : Nat) (x : ArborEntry) : Bool :=
  s.arborFenced x.number || s.plans.any (fun p => p.2.arbors.any fun y => y.number == x.number) || (l.take i).any (fun y => y.number == x.number)
    || x.stages / 2 ^ stages.length != 0
    || (List.range stages.length).any fun k => bit x.stages k && (match stages[k]? with
      | some d => d.minS != d.maxS
      | none => true)

/-- REASON 9 for an image (R303, R382). -/
def State.reason9 (s : State) (e : List Nat) : Bool :=
  let off := bits (e.getD 1 0) 31 0
  let len := bits (e.getD 2 0) 31 0
  off % 256 != 0 || len % 256 != 0 || decide (768 * 2 ^ 20 < off + len)
    || (List.range 16).any fun d => bit (e.getD 2 0) (32 + d) && (s.orangeryFenced d || s.orangeryMapped d off (off + len))

/-- REASON 10 for a feed entry; a gang plan's may name a port that another member installs. -/
def State.reason10 (s : State) (r : Record) (x : Nat × Nat) : Bool :=
  decide (r.h.nstages ≤ x.1) || !r.ownPort s.device x.2 (fun p => !p.isHead)

/-- REASON 11. -/
def State.reason11 (s : State) (h : Header) : Bool :=
  decide (64 ≤ s.plans.length)
    || s.plans.any fun p => p.2.context == h.context && (p.2.ptRoot != h.ptRoot || p.2.tenant != h.tenant)

/-- The first of a list of answers. -/
def firstSome {α : Type} : List (Option α) → Option α
  | [] => none
  | some x :: _ => some x
  | none :: t => firstSome t

/-- The least of a list of answers: the first entry that a REASON's checks fail at, a bound on a sum among them (R305). -/
def leastOf (l : List (Option Nat)) : Option Nat := bestOf (fun a b => decide (a < b)) (l.filterMap id)

/-- REASONS 1 to 11 in ascending order: the reason and the index (R305). A pattern for which its die has no index left is
among REASON 7 (R248; log 67). -/
def State.rejects (s : State) (r : Record) : Option (Nat × Nat) :=
  let h := r.h
  let at' (k : Nat) (l : List (Option Nat)) : Option (Nat × Nat) := (leastOf l).map fun i => (k, i)
  let flag (b : Bool) : Option Nat := if b then some 0 else none
  let perDie (f : Nat → Option Nat) : Option Nat := leastOf ((List.range 16).map f)
  firstSome [
    at' 1 [flag (s.reason1 r)],
    at' 2 [firstIndex (fun _ d => s.reason2 d) r.stages],
    at' 3 [firstIndex (fun _ e => reason3 e (stageEntry e)) r.a.stages],
    at' 4 [firstIndex (fun _ d => s.reason4 h d) r.stages,
      leastOf ((r.stages.map StageDesc.sdev).eraseDups.map fun v => perDie fun d =>
        sumPasses 176 (r.stages.map fun x => if bit x.dieMask d ∧ x.sdev = v then x.initS else 0))],
    at' 5 [firstIndex (fun _ e => s.reason5 r.stages e (pipeEntry e)) r.a.pipes,
      leastOf ((r.pipes.map Pipe.home).eraseDups.map fun k => sumPasses (1024 * bits (h.d 3) 31 0)
        (r.pipes.map fun p => if p.homeKind = 0 ∧ p.home = k then p.resident * p.slotBytes else 0)),
      flag (decide (96 * 1024 < s.plans.foldl (fun n p => if p.2.state == .saved then n else n + p.2.l2quota) (bits (h.d 3) 31 0)))],
    at' 6 [firstIndex (fun i e => s.reason6 r e i (r.ports.getD i (0, { plan := 0 }))) r.a.ports,
      perDie fun d => sumPasses (61440 - s.installedDepths d)
        (r.ports.map fun p => if dieOfPort p.1 = d ∧ r.portHere s.device p then p.2.depth else 0)],
    at' 7 [firstIndex (fun _ e => s.reason7 r e (patternEntry 0 e)) r.a.patterns,
      perDie fun d => sumPasses (512 - (s.patterns.filter fun q => dieOfPattern q.1 == d).length)
        (r.patterns.map fun p => if p.1 = d ∧ r.here s.device p then 1 else 0)],
    at' 8 [firstIndex (fun i x => s.reason8 r.stages r.arbors i x) r.arbors],
    at' 9 [firstIndex (fun _ e => s.reason9 e) r.a.images],
    at' 10 [firstIndex (fun _ x => s.reason10 r x) r.feeds],
    at' 11 [flag (s.reason11 h)]]

/-- The whole of a plan's virtual address space, to read. -/
def planSpace : Segment := { limit := 2 ^ 56, r := true, space := 2 }

/-- The images, in ascending index (R305). -/
def State.readImages (who : Asker) : Nat → List (List Nat) → State → Reading (List (List Nat × List Byte))
  | _, [], s => .ok ([], s)
  | i, e :: t, s =>
    match s.readBytes i who planSpace (bits (e.getD 0 0) 55 0) (bits (e.getD 2 0) 31 0) with
    | .error x => .error x
    | .ok (bs, s1) => match State.readImages who (i + 1) t s1 with
      | .error x => .error x
      | .ok (rest, s2) => .ok ((e, bs) :: rest, s2)

/-- Copies an image to the Orangery of every die it names (R303). -/
def State.writeImage (s : State) (x : List Nat × List Byte) : State :=
  ((List.range 16).filter fun d => bit (x.1.getD 2 0) (32 + d)).foldl
    (fun st d => st.write (orangeryAddr d (bits (x.1.getD 1 0) 31 0)) x.2) s

/-- The lowest number from `lo` that a table does not hold. -/
def freeKey {α : Type} (m : Map α) (lo n : Nat) : Nat := lo + (((List.range n).find? fun i => !m.has (lo + i)).getD n)

/-- Installs patterns in array order at the lowest free indices of their dies, ascending (R299). -/
def State.installPatterns (next : Map Nat) : List (Nat × Pattern) → State → State
  | [], s => s
  | x :: t, s =>
    let k := freeKey s.patterns (x.1 * 512 + next.getD x.1 0) 512
    State.installPatterns (next.put x.1 (k % 512 + 1)) t { s with patterns := s.patterns.put k x.2 }

/-- Installs a plan whose checks have passed (R304, R305). -/
def State.installPlan (s : State) (handle : Nat) (r : Record) (imgs : List (List Nat × List Byte)) : State :=
  let h := r.h
  let ports := r.ports.filter (r.portHere s.device)
  let p : Plan :=
    { tenant := h.tenant, context := h.context, faultPort := h.faultPort, hyst := bits (h.d 2) 47 40, thresh := bits (h.d 2) 39 32
      interval := bits (h.d 2) 31 0, drain := bits (h.d 3) 55 54, gang := h.gang, prio := bits (h.d 3) 58 56
      l2quota := bits (h.d 3) 31 0, ptRoot := h.ptRoot, members := bits (h.d 5) 63 56, commitVA := bits (h.d 5) 55 0
      coord := bits (h.d 6) 38 32, timeout := bits (h.d 6) 31 0, stages := r.stages, npipes := h.npipes
      ports := ports.map Prod.fst, arbors := r.arbors, feeds := r.feeds.filter fun f => bits f.2 29 23 == s.device
      images := r.a.images.map fun e => (bits (e.getD 2 0) 47 32, bits (e.getD 1 0) 31 0, bits (e.getD 2 0) 31 0)
      lastRise := s.cycle }
  let s1 := s.setPlan handle p
  let s2 := (List.zip (List.range r.pipes.length) r.pipes).foldl
    (fun st x => { st with pipes := st.pipes.put (handle * 64 + x.1) x.2 }) s1
  let s3 := ports.foldl (fun st x => { st with ports := st.ports.put x.1 x.2 }) s2
  let s4 := State.installPatterns [] (r.patterns.filter (r.here s.device)) s3
  imgs.foldl State.writeImage s4

/-- Whether the request for a gang plan's commit word has been answered, or has no answer to come (R325, R344). -/
def State.commitHeard (s : State) (h : Header) : Bool :=
  !h.gang || s.commitReached (.ask s.cur) (s.recordAsker h) (bits (h.d 5) 55 0)
    || (match s.commitWord (s.recordAsker h) (bits (h.d 5) 55 0) with
        | .ok x => s.readLost x.1
        | .error _ => false)

/-- Adds to a gang plan's commit word, for a member that installs or rejects (R321); or the kind of the fault. Where the word's
switch is lost, the atomic's outcome is unknown (R181; log 68). -/
def State.commitAdd (s : State) (h : Header) (n : Nat) : Except Nat State :=
  let who := s.recordAsker h
  if !h.gang then .ok s
  else match s.commitValue who (bits (h.d 5) 55 0) with
    | .error 12 => .ok (s.setMe (s.me.lose true))
    | .error k => .error k
    | .ok (a, key, w) => .ok (if s.readLost a then s.setMe (s.me.lose true) else s.writePiece who key a (leBytes 8 (w + n)))

/-- During reduced service a record waits for step 11 on the dies whose Orangery it names (R384). -/
def State.awaitsTest (s : State) (r : Record) : Bool :=
  s.level == 1 && (List.range 16).any fun d => !s.orangeryTested d
    && (r.a.images.any (fun e => bit (e.getD 2 0) (32 + d))
        || r.stages.any fun x => x.sdev == s.device && bit x.dieMask d && x.segs.any fun g => g.space == 3)

/-- `plan.ld` is done: the answers of other owners have come, and S(sd) has its value. -/
def State.planLoaded (s : State) (d : Reg) (v : Nat) : Eff :=
  let t := s.landAll (.ask s.cur)
  .ok (t.setMe (t.me.setS d.toNat (BitVec.ofNat 64 v)))

/-- A rejection (R305). A commit word that cannot be counted in is left alone, but a nonzero reserved field of it is an
illegal instruction (R3; log 68). -/
def State.rejectPlan (s : State) (d : Reg) (h : Header) (k i : Nat) : Eff :=
  match s.commitAdd h 256 with
  | .error 1 => illegal (s.landAll (.ask s.cur))
  | .error _ => s.planLoaded d (2 ^ 63 + k * 2 ^ 32 + i * 2 ^ 16)
  | .ok t => t.planLoaded d (2 ^ 63 + k * 2 ^ 32 + i * 2 ^ 16)

/-- `plan.ld` of a record whose bytes are in reach (R305). `s0` is the state before anything was read. -/
def State.loadPlan (s0 s : State) (d : Reg) (sg : Segment) (off : Nat) (h : Header) : Eff :=
  match State.readArrays sg off h.arrays s with
  | .error (none, _) => s0.awaitReads
  | .error (some i, s1) => s1.rejectPlan d h 12 i
  | .ok (l, s1) =>
    let a := arraysOf l
    let handle := freeKey s1.plans 1 65535
    let r := planRecord handle h a
    if h.reserved || a.reserved then illegal (s1.landAll (.ask s1.cur))
    else if s1.awaitsTest r then .wait s0 .service
    else match s1.rejects r with
      | some (k, i) => s1.rejectPlan d h k i
      | none => match State.readImages (s1.recordAsker h) 0 a.images s1 with
        | .error (none, _) => s0.awaitReads
        | .error (some i, s2) => s2.rejectPlan d h 12 i
        | .ok (imgs, s2) => match s2.commitAdd h 1 with
          | .error k => .fault (s2.landAll (.ask s2.cur)) { kind := k }
          | .ok s3 => (s3.installPlan handle r imgs).planLoaded d handle

/-- `plan.ld`: R298, R305, R308. -/
def planLdBody (d a : Reg) (g : BitVec 3) : Body := supervisorOnly (withResult (ordered fun s =>
  let gp := s.me
  if s.level = 0 then .wait s .service else
  let sg := gp.seg s.cur g.toNat
  let off := (gp.getS a.toNat).toNat
  let bad (k : Nat) : Eff := .fault s { kind := k, seg := some g.toNat, offset := off }
  let place := if sg.space = 0 then off else s.target s.cur sg 0 off
  if place % 64 ≠ 0 then bad 1
  else if sg.limit < off + 64 then bad 4
  else if !sg.r then bad 6
  else match s.readRecord 0 sg off 64 with
    | .error (none, _) => s.awaitReads
    | .error (some _, s1) => s1.planLoaded d (2 ^ 63 + 12 * 2 ^ 32)
    | .ok (bs, s1) =>
      let h : Header := ⟨dwordsOf 8 bs⟩
      if sg.limit < off + h.size then .fault (s1.landAll (.ask s1.cur)) { kind := 4, seg := some g.toNat, offset := off }
      else if !s.commitHeard h then s.awaitReads
      else s.loadPlan s1 d sg off h))
def execPlanLd (m : Bool) (d a : Reg) (g : BitVec 3) (st : State) : Out := issue m (planLdBody d a g) st

/-! Start (R306). -/

/-- Whether a core can be given to a plan: none holds it, and its cluster and die are in service (R306, R381). -/
def State.coreFree (s : State) (c : Nat) : Bool :=
  let k := s.core c
  k.stage.isNone && k.lent.isNone && !k.outOfService && !s.clusterFenced (clusterOfCore c) && !s.dieOut (dieOfCore c)

/-- The cores each stage of a plan takes on a die, in ascending core and stage order; none if too few (R306). -/
def placeOn (h d : Nat) : List (Nat × StageDesc) → List Nat → Option (List (Nat × Nat))
  | [], _ => some []
  | (x, sd) :: rest, free =>
    if !bit sd.dieMask d then placeOn h d rest free
    else if free.length < sd.initS then none
    else (placeOn h d rest (free.drop sd.initS)).map (((free.take sd.initS).map fun c => (c, x)) ++ ·)

/-- The cores that a start gives each stage on every die; none if some die has too few. -/
def State.placement (s : State) (h : Nat) (p : Plan) : Option (List (Nat × Nat)) :=
  let mine := (List.zip (List.range p.stages.length) p.stages).filter fun x => x.2.sdev == s.device
  (allOf ((List.range 16).map fun d => placeOn h d mine ((coresOf d).filter s.coreFree))).map fun l => l.foldr (· ++ ·) []

/-- Places the cores (R306). -/
def State.placeCores (s : State) (h : Nat) (l : List (Nat × Nat)) : State :=
  l.foldl (fun st x => st.setCore x.1 { st.core x.1 with stage := some (h, x.2), moveL := 0 }) s

/-- A plan begins to run: the rebalancer's ticks count from now, and launch teams are queued (R304, R306). -/
def State.beginPlan (s : State) (h : Nat) : State :=
  State.feedLaunch h 32768 (s.modPlan h fun p => { p with
    state := .running, startedAt := s.cycle, ticks := [], donated := [], received := [], launched := 0
    toLaunch := ((p.stages[0]?).map StageDesc.teams).getD 0, lastRise := s.cycle, waitingSince := none })

/-- A core leaves a plan: queues, streams and Arbor state go with it (R307). One that is lent to a stage of another plan
goes on for that, and is free when it returns; one that another plan lent returns. -/
def State.releaseCore (h : Nat) (s : State) (c : Nat) : State :=
  let k := s.core c
  let works := k.stage.any fun x => x.1 == h
  if k.lent.isSome && !works then s.setCore c { k with lent := some (0, 0), held := {}, saved := [], moving := none }
  else if k.lent.any fun x => x.1 != h then s.coreReturn c
  else s.setCore c { lastCtx := k.lastCtx, maps := k.maps, outOfService := k.outOfService }

/-- The cores that hold a stage of a plan, lent ones included. -/
def State.coresHeld (s : State) (h : Nat) : List Nat :=
  (s.cores.filter fun c => (match c.2.lent with
    | some (p, _) => p == h
    | none => match c.2.stage with
      | some (p, _) => p == h
      | none => false)).map Prod.fst

/-! Drains (R318, R319). -/

/-- A queued record is discarded: its messages are not returned, its claims are released. -/
def State.discardRecord (s : State) (h tid : Nat) : State :=
  match s.task? tid with
  | none => s
  | some t =>
    let n := 1 + (t.items.filter fun i => match i with | .message _ _ => true | _ => false).length
    ({ s with tasks := Map.del tid s.tasks }.endClaims tid h false).modPlan h fun p => { p with discarded := p.discarded + n }

/-- Takes records out of every run queue (R312). -/
def State.unqueue (s : State) (gone : Nat → Bool) : State :=
  let keep (l : List Nat) : List Nat := l.filter fun t => !gone t
  { s with
    cores := Map.mapVals (fun c => { c with runq := keep c.runq, held := { c.held with runq := keep c.held.runq } }) s.cores
    clusters := Map.mapVals (fun c => { c with runq := keep c.runq }) s.clusters
    dies := Map.mapVals (fun d => { d with runq := Map.mapVals keep d.runq, firing := keep d.firing }) s.dies }

/-- The queued records of a plan that a drain discards. -/
def State.queuedOf (s : State) (h : Nat) (all : Bool) : List Nat :=
  (s.tasks.filter fun t => t.2.plan == h && !t.2.running && !t.2.returning && t.2.held.isEmpty && (all || t.2.pattern.isNone)).map Prod.fst

/-- The cores that work for a plan: its own, and those lent to its stages (R315). -/
def State.coresFor (s : State) (h : Nat) : List Nat :=
  (s.cores.filter fun c => [c.2.lent, c.2.stage].any fun x => x.any fun y => y.1 == h).map Prod.fst

/-- Takes records out of every run queue. Each entry of a die queue that comes free is an event (R252). -/
def State.discardQueued (s : State) (gone : List Nat) : State :=
  s.dies.foldl (fun st d => d.2.runq.foldl (fun u q =>
    match (q.2.filter gone.contains).length with
    | 0 => u
    | n => u.entryFreed d.1 q.1 n) st) (s.unqueue gone.contains)

/-- A group blocked in `preserve` when its plan drains takes a permission fault there (R318). -/
def State.refusePreserve (s : State) (gid : Nat) : State :=
  match (s.group gid).wait with
  | some (.pipeFree _ _ _) => (s.unblock gid).takeTrap gid (some { kind := 6 })
  | _ => s

/-- What both drains do first: ports close, queued records go, and moves not yet loaded are cancelled; in a finish drain, groups
blocked in `preserve` fault (R317 to R319). -/
def State.beginDrain (s : State) (h : Nat) (discard : Bool) : State :=
  match s.plan? h with
  | none => s
  | some p =>
    let s1 := p.ports.foldl State.closePort (s.modPlan h fun q => { q with
      state := .draining, discard := discard, launched := q.toLaunch, discarded := q.discarded + (q.toLaunch - q.launched) })
    let s2 := if discard then { s1 with patterns := Map.mapVals (fun q =>
        if q.plan = h then { q with disabled := true, heldSince := none } else q) s1.patterns } else s1
    let gone := s2.queuedOf h discard
    let s3 := gone.foldl (fun st t => st.discardRecord h t) (s2.discardQueued gone)
    let s4 := (s3.coresHeld h).foldl (fun st c => st.setCore c { st.core c with moving := none }) s3
    if discard then s4 else (s4.groups.filter fun g => g.2.plan == h).foldl (fun st g => st.refusePreserve g.1) s4

/-- Discard drain: every resident task ends too, its messages discarded (R319). -/
def State.discardDrain (s : State) (h : Nat) : State :=
  let s1 := s.beginDrain h true
  (s1.tasks.filter fun t => t.2.plan == h && (t.2.running || !t.2.held.isEmpty)).foldl (fun st t =>
    let n := (t.2.items.filter fun i => match i with | .message _ _ => true | _ => false).length
    (st.finishTask t.1 false).modPlan h fun p => { p with discarded := p.discarded + n }) s1

/-- The drain that a plan's DRAIN selects (R316, R320, R321). -/
def State.selectedDrain (s : State) (h : Nat) : State :=
  match s.plan? h with
  | none => s
  | some p =>
    if p.state != .running then s
    else match p.drain with
      | 1 => s.beginDrain h false
      | 2 => s.discardDrain h
      | _ => s

/-! Removal (R307). -/

/-- A port is uninstalled: its waiters are refused and its messages discarded (R247, R259). -/
def State.uninstallPort (s0 : State) (key : Nat) : State :=
  let s := s0.closePort key
  match s.ports.get? key with
  | none => s
  | some p =>
    let s1 := p.msgs.foldl State.discardTicket s
    let d := s1.die (dieOfPort key)
    { s1.setDie (dieOfPort key) { d with
        returnsUsed := d.returnsUsed - p.returned, dueAdmits := d.dueAdmits.filter (· != key)
        joinDue := d.joinDue.filter (· != .rise key) } with
      ports := Map.del key s1.ports }

/-- The other devices that hold members of a gang plan (R300, R321). -/
def Plan.peers (p : Plan) (dev : Nat) : List Nat :=
  if p.gang then (p.stages.map StageDesc.sdev).eraseDups.filter (· != dev) else []

/-- Removal, step by step (R307); the group that issues it waits for the invalidation of its translations. A removed gang
member's module tells the other members. Its patterns go before its ports: what these still admit fires nothing of it. -/
def State.removePlan (s : State) (h : Nat) : State :=
  match s.plan? h with
  | none => s
  | some p =>
    let gone := (s.tasks.filter fun t => t.2.plan == h).map Prod.fst
    let s1 := { (s.unqueue gone.contains) with tasks := s.tasks.keep fun _ t => t.plan != h }
    let s2 := (s1.coresFor h).foldl (State.releaseCore h) s1
    let s3 := p.ports.foldl State.uninstallPort { s2 with patterns := s2.patterns.keep fun _ q => q.plan != h }
    let s4 := { s3 with
      pipes := s3.pipes.keep fun k _ => k / 64 != h
      clusters := Map.mapVals (fun c => { c with parked := c.parked.filter fun t => t.plan != h }) s3.clusters
      mvms := s3.mvms.keep fun _ m => m.plan != h
      dies := Map.mapVals (fun d => { d with runq := d.runq.keep fun k _ => k / 32 != h, eff := d.eff.keep fun k _ => k / 32 != h
                                             joinDue := d.joinDue.filter fun x => match x with
                                               | .free k => k / 32 != h
                                               | .rise _ => true }) s3.dies
      plans := Map.del h s3.plans, lostOut := s3.lostOut ++ p.peers s3.device }
    s4.shootDown s.cur 1 p.context 0

/-- The invalidation of a removal completes, as a `tlbsync` does, and the status is written (R306, R307); that of a save, once its
stacks have served what it writes (R361). -/
def State.tryRemoval (s : State) (gid : Nat) : Option State :=
  match (s.group gid).wait with
  | some (.removal d) => if s.dies.any fun x => x.2.deadline.any fun y => y.1 == gid then none else s.tryShootdown gid fun u => (u.setGroup gid ((u.group gid).setS d 0)).finishWait gid
  | _ => none

/-- A member-lost message reaches its device (R307). -/
def State.tryLostSent (s : State) (dev : Nat) : Option State :=
  if s.lostOut.contains dev && s.answered (.notice dev) (peerAddr dev 0) then
    some { s.land (.notice dev) (peerAddr dev 0) with lostOut := s.lostOut.erase dev } else none

/-! plan.go (R304, R306, R308). -/

/-- Writes a status to S(sd); a group whose own task the instruction has ended is gone (R319). -/
def State.status (s : State) (d : Reg) (n : Nat) : Eff :=
  if s.groups.has s.cur then .ok (s.setMe (s.me.setS d.toNat (BitVec.ofNat 64 n))) else .gone s

/-- `plan.go`: S(sb) selects the action. -/
def planGo (d a b : Reg) : Body := supervisorOnly (withResult (ordered fun s =>
  let h := (s.me.getS a.toNat).toNat
  let act := (s.me.getS b.toNat).toNat
  if 2 ^ 16 ≤ h ∨ 3 < act then illegal s
  else match s.plan? h with
    | none => s.status d 5
    | some p => match act with
      | 0 =>
        if p.state != .installed then s.status d 4
        else match s.placement h p with
          | none => s.status d 1
          | some l =>
            if p.gang then .wait (s.modPlan h fun q => { q with state := .committing, gangSince := s.cycle }) (.gang h d.toNat)
            else ((s.placeCores h l).beginPlan h).status d 0
      | 1 => if p.state != .running then s.status d 4 else (s.beginDrain h false).status d 0
      | 2 => if p.state != .running then s.status d 4 else (s.discardDrain h).status d 0
      | _ =>
        if p.state == .installed || p.state == .aborted || p.state == .quiescent || p.state == .saved then
          .wait (s.removePlan h) (.removal d.toNat)
        else s.status d 4))

/-- `plan.go.start`: R304, R306, R308; start is the action 0. -/
def planGoStartBody (d a b : Reg) : Body := planGo d a b
def execPlanGoStart (m : Bool) (d a b : Reg) (st : State) : Out := issue m (planGoStartBody d a b) st

/-- `plan.go.drain.finish`: R304, R306, R308; finish drain is the action 1. -/
def planGoDrainFinishBody (d a b : Reg) : Body := planGo d a b
def execPlanGoDrainFinish (m : Bool) (d a b : Reg) (st : State) : Out := issue m (planGoDrainFinishBody d a b) st

/-- `plan.go.drain.discard`: R304, R306, R308; discard drain is the action 2. -/
def planGoDrainDiscardBody (d a b : Reg) : Body := planGo d a b
def execPlanGoDrainDiscard (m : Bool) (d a b : Reg) (st : State) : Out := issue m (planGoDrainDiscardBody d a b) st

/-- `plan.go.remove`: R304, R306, R308; removal is the action 3. -/
def planGoRemoveBody (d a b : Reg) : Body := planGo d a b
def execPlanGoRemove (m : Bool) (d a b : Reg) (st : State) : Out := issue m (planGoRemoveBody d a b) st

/-! Gang plans (R321). -/

/-- An access of a plan's control processors to its commit word, once its answer can come: `bad` of the kind of a fault, or
`act` of the word, applied to the state with the answer in. -/
def State.withCommit (s : State) (f : Flight) (h : Nat) (p : Plan) (bad : State → Nat → Option State)
    (act : State → Nat × Nat × Nat → Option State) : Option State :=
  if !s.commitReached f (s.planAsker h) p.commitVA then none
  else match s.commitValue (s.planAsker h) p.commitVA with
    | .error k => bad (s.landAll f) k
    | .ok x => act (s.land f x.1) x

/-- cas pending → state on the commit word. -/
def State.commitCas (s : State) (h : Nat) (x : Nat × Nat × Nat) (state : Nat) : State :=
  if bits x.2.2 17 16 = 0 then s.writePiece (s.planAsker h) x.2.1 x.1 (leBytes 8 (x.2.2 + state * 2 ^ 16)) else s

/-- A gang plan is aborted; no core was placed (R304). -/
def State.abortPlan (s : State) (h : Nat) : State := s.modPlan h fun p => { p with state := .aborted }

/-- The status of a waiting `plan.go` is written, and its group goes on. -/
def State.endGang (s : State) (gid d n : Nat) : State :=
  (s.setGroup gid ((s.group gid).setS d (BitVec.ofNat 64 n))).finishWait gid

/-- The access of a waiting `plan.go` to the commit word fails. The word is lost: the plan is aborted, status 3 (R321). Or the
access has another fault, a nonzero reserved field among them, which the group takes with no other effect: the plan is
Installed, as the `plan.go` found it (R3; log 68). -/
def State.commitFails (s : State) (gid h d kind : Nat) : State :=
  if kind = 12 then (s.abortPlan h).endGang gid d 3
  else ((s.modPlan h fun p => { p with state := .installed }).unblock gid).takeTrap gid (some { kind := kind })

/-- Commit is observed (R304): the cores are placed and the plan runs, once enough of them are free (log 68). If a member was
lost meanwhile, the selected drain starts. -/
def State.commitSeen (s : State) (gid h d : Nat) (p : Plan) : Option State :=
  (s.placement h p).map fun l =>
    let t := ((s.placeCores h l).beginPlan h).endGang gid d 0
    if p.memberGone then t.selectedDrain h else t

/-- A waiting `plan.go` reads the commit word (R321): it starts, aborts, or, as coordinator, decides. -/
def State.tryGangObserve (s : State) (gid : Nat) : Option State :=
  match (s.group gid).wait with
  | some (.gang h d) => match s.plan? h with
    | none => none
    | some p => s.withCommit (.ask gid) h p (fun u k => some (u.commitFails gid h d k)) fun u x =>
        let st := bits x.2.2 17 16
        if st = 1 then u.commitSeen gid h d p
        else if st = 2 then some ((u.abortPlan h).endGang gid d 2)
        else if p.coord ≠ s.device then none
        else if bits x.2.2 15 8 ≠ 0 then some (u.commitCas h x 2)
        else if bits x.2.2 7 0 = p.members + 1 then some (u.commitCas h x 1)
        else none
  | _ => none

/-- The coordinator's TIMEOUT expires (R321). -/
def State.tryGangTimeout (s : State) (gid : Nat) : Option State :=
  match (s.group gid).wait with
  | some (.gang h _) => match s.plan? h with
    | none => none
    | some p =>
      if p.coord ≠ s.device ∨ s.cycle < p.gangSince + p.timeout then none
      else s.withCommit (.ask gid) h p (fun _ _ => none) fun u x => if bits x.2.2 17 16 = 0 then some (u.commitCas h x 2) else none
  | _ => none

/-- A notice that another module has sent comes in, on the first open port that leads to it; that a device has been declared lost
is known here (R327, R341). -/
def State.noticeFrom (s : State) (dev : Nat) : Option State :=
  if s.devGone dev then some s
  else ((List.range 48).find? fun p => s.portOpen p && s.leadsTo p dev).bind fun p => s.arrives p 0

/-- A member of a gang plan is lost or removed (R321). While the commit is pending it is aborted; after it event 4 is sent, and
the selected drain starts, or will when this member does. -/
def State.memberLost (s0 : State) (h dev : Nat) : Option State :=
  (s0.noticeFrom dev).bind fun s => match s.plan? h with
  | none => none
  | some p =>
    let tell (u : State) : State := u.planEvent h 4 dev 0 0xFF
    if !(p.peers s.device).contains dev || p.state == .aborted then none
    else if p.state == .installed || p.state == .committing then
      s.withCommit (.event h) h p (fun _ _ => none) fun u x => match bits x.2.2 17 16 with
        | 0 => some (u.commitCas h x 2)
        | 1 => some (tell (u.modPlan h fun q => { q with memberGone := true }))
        | _ => none
    else some ((tell s).selectedDrain h)

/-- A refill of slot k of a pipe cannot read a sector: event 5 (R226, R316). -/
def State.refillFault (h n k kind : Nat) (s : State) : State := s.planEvent h 5 kind (k % 2 ^ 32 + n * 2 ^ 32) 0xFF

/-! The rebalancer (R317). -/

/-- A common multiple by which means of occupancies become integers. -/
def occScale : Nat := ((List.range 64).foldl (fun a i => Nat.lcm a (i + 1)) 1) ^ 2

/-- The mean of occ over pipes, scaled (R317). -/
def meanOcc (ps : List Pipe) : Int :=
  if ps.isEmpty then 0 else ((ps.foldl (fun n p => n + 16 * (p.res - p.tail) * (occScale / p.depth)) 0) / ps.length : Nat)

/-- press(X) (R317). -/
def State.press (s : State) (h : Nat) (p : Plan) (x : Nat) : Int :=
  let ps := (List.range p.npipes).filterMap fun n => s.pipe? h n
  meanOcc (ps.filter fun q => q.consumers.contains x) - meanOcc (ps.filter fun q => q.producer == x)

/-- The cores of a stage on a die, lent ones included. -/
def State.shareOf (s : State) (h x d : Nat) : List Nat :=
  (coresOf d).filter fun c =>
    let k := s.core c
    (match k.lent with
     | some own => own == (h, x)
     | none => k.stage == some (h, x))

/-- Whether a stage has a queued record or a Held pattern on a die (R317). -/
def State.hasWork (s : State) (h x d : Nat) : Bool :=
  s.hasRecord d h x || s.patterns.any fun q => dieOfPattern q.1 == d && q.2.plan == h && q.2.stage == x && q.2.heldSince.isSome

/-- Whether a stage acted on a die within the last HYST ticks before tick n. -/
def within (l : List (Nat × Nat × Nat)) (d x n hyst : Nat) : Bool :=
  l.any fun e => e.1 == d && e.2.1 == x && decide (n ≤ e.2.2 + hyst) && decide (e.2.2 < n)

/-- The core of a stage that a move takes: of those with no saved record the one with the fewest resident teams and queued
records (R317). -/
def State.donorCore (s : State) (h o d : Nat) : Option Nat :=
  let load (c : Nat) : Nat := (s.core c).resident.length + (s.core c).runq.length + (s.core c).held.runq.length
  bestOf (fun a b => decide (load a < load b) || (load a == load b && decide (a < b)))
    ((s.shareOf h o d).filter fun c => (s.core c).saved.isEmpty && (s.core c).saving.isNone)

/-- A move of one core from stage o to stage r begins (R317): it stops dispatching, and its queue moves by overflow steps. -/
def State.beginMove (s : State) (h d o r n : Nat) : State :=
  match s.donorCore h o d with
  | none => s
  | some c =>
    (s.setCore c { s.core c with moving := some r }).modPlan h fun p =>
      { p with donated := p.donated ++ [(d, o, n)], received := p.received ++ [(d, r, n)] }

/-- The rebalancer's tick of a plan on a die (R317). -/
def State.tryRebalance (s : State) (h d : Nat) : Option State :=
  match s.plan? h with
  | none => none
  | some p =>
    let n := p.ticks.getD d 0 + 1
    if p.interval = 0 ∨ s.cycle < p.startedAt + n * p.interval ∨ 16 ≤ d then none
    else
      let s1 := s.modPlan h fun q => { q with ticks := q.ticks.put d n }
      let S := (List.range p.stages.length).filter fun x => !(s.shareOf h x d).isEmpty
      let sd (x : Nat) : StageDesc := p.stages.getD x {}
      let share (x : Nat) : Nat := (s.shareOf h x d).length
      let rcv := S.filter fun x => decide (share x < (sd x).maxS) && s.hasWork h x d && !within p.donated d x n p.hyst
      let don := S.filter fun x => decide ((sd x).minS < share x) && !within p.received d x n p.hyst
      let pr (x : Nat) : Int := s.press h p x
      if p.state != .running || (s.shareOf h 0 d ++ S.flatMap fun x => s.shareOf h x d).any (fun c => (s.core c).moving.isSome) then some s1
      else match bestOf (fun a b => decide (pr b < pr a) || (pr a == pr b && decide (a < b))) rcv,
          bestOf (fun a b => decide (pr a < pr b) || (pr a == pr b && decide (a < b))) don with
        | some r, some o => some (if r ≠ o ∧ (p.thresh * occScale : Nat) < pr r - pr o then s1.beginMove h d o r n else s1)
        | _, _ => some s1

/-- The donor core of a move has drained: it is loaded with the recipient stage in n cycles and started (R317). A lent core
returns first. -/
def State.tryMoveLoad (s : State) (c n : Nat) : Option State :=
  let k := s.core c
  match k.moving, k.stage with
  | some r, some (h, _) =>
    if !k.runq.isEmpty || !k.resident.isEmpty || k.queues.any (fun q => !q.2.isEmpty) then none
    else if k.lent.isSome then some (s.coreReturn c)
    else some { s.setCore c { k with moving := none, stage := some (h, r), moveL := n } with cycle := s.cycle + n }
  | _, _ => none

/-! Deadlock (R320). -/

/-- Whether a plan is waiting (R320). A group whose send has gone out to another module, and has no answer, counts as blocked on a
full port there (R260; log 85). -/
def State.planWaits (s : State) (h : Nat) : Bool :=
  match s.plan? h with
  | none => false
  | some p =>
    (p.state == .running || p.state == .draining)
      && ((s.tasks.any fun t => t.2.plan == h && !t.2.running && !t.2.returning && t.2.held.isEmpty)
        || (s.groups.any fun g => g.2.plan == h && (match g.2.wait with
            | some (.pipeFree _ _ _) => true
            | some (.waiter _ _) => true
            | some (.remote id _) => (s.flightPort (.ask g.1) (portDevice id)).isSome
            | _ => false))
        || s.patterns.any fun q => q.2.plan == h && !q.2.disabled && q.2.heldSince.isNone
            && q.2.ports.any fun k => match s.ports.get? k with
              | some x => s.portCount x != 0
              | none => false)

/-- Notes since when each plan waits without interruption. -/
def State.trackWaiting (s : State) : State :=
  { s with plans := Map.mapKeyed (fun h p =>
      if s.planWaits h then (if p.waitingSince.isNone then { p with waitingSince := some s.cycle } else p)
      else { p with waitingSince := none }) s.plans }

/-- A plan waiting without progress for LIMIT cycles sends event 1 once, and its DRAIN may start (R320). -/
def State.tryDeadlock (s : State) (h : Nat) : Option State :=
  match s.plan? h with
  | none => none
  | some p =>
    let limit := s.deadlockCycles.toNat % 2 ^ 32
    match p.waitingSince with
    | none => none
    | some t =>
      if limit = 0 ∨ p.deadlockSent ∨ s.cycle < max t p.lastRise + limit then none
      else
        let waiting := (s.groups.filter fun g => g.2.plan == h && g.2.wait.isSome).length
        let queued := (s.tasks.filter fun q => q.2.plan == h && !q.2.running && !q.2.returning && q.2.held.isEmpty).length
        some (((s.modPlan h fun q => { q with deadlockSent := true }).planEvent h 1 (p.progress % 2 ^ 32)
          (waiting + queued * 2 ^ 32) 0xFF).selectedDrain h)

/-- A draining plan with nothing queued, resident or fireable is quiescent; event 2 is sent (R318). -/
def State.tryQuiescence (s : State) (h : Nat) : Option State :=
  match s.plan? h with
  | none => none
  | some p =>
    if p.state != .draining || s.tasks.any (fun t => t.2.plan == h && !t.2.returning) || s.patterns.any (fun q => q.2.plan == h && s.fireable q.1 q.2)
    then none
    else some ((s.modPlan h fun q => { q with state := .quiescent }).planEvent h 2 p.discarded 0 0xFF)

/-- R317. -/
def execRebalanceTick (h d : Nat) (st : State) : Out := event st (st.tryRebalance h d)

/-- R317; n is the cycles of its step 3. -/
def execCoreMoveLoad (core n : Nat) (st : State) : Out := event st (st.tryMoveLoad core n)

/-- R320. -/
def execDeadlockDetect (h : Nat) (st : State) : Out := event st (st.tryDeadlock h)

/-- R318. -/
def execDrainQuiescence (h : Nat) (st : State) : Out := event st (st.tryQuiescence h)

/-- R321. -/
def execGangStateObserve (gid : Nat) (st : State) : Out := event st (st.tryGangObserve gid)

/-- R321. -/
def execGangTimeout (gid : Nat) (st : State) : Out := event st (st.tryGangTimeout gid)

/-- R307, R321. -/
def execMemberLostNotice (h dev : Nat) (st : State) : Out := event st (st.memberLost h dev)

end Sys2Proof.Machine
end

