-- ==== Sys2Proof/Machine/Fabric.lean ====
section
/-!
DEFINITION. The fabric: UALink ports, flits, credits and retraining (R322 to R328), Pavilion allocation (R334 to R340),
and loss (R341 to R344).
-/

namespace Sys2Proof.Machine

/-! Loss (R341 to R344). -/

/-- The accesses of an outstanding instruction to what has been declared lost complete (R344). -/
def State.loseIn (s : State) (p : Pending) : Pending :=
  let lost (a : Access) : Bool := (s.placesOf a).any s.addrLost
  if p.todo.any lost then ((p.todo.filter lost).foldl Pending.lose { p with todo := p.todo.filter fun a => !lost a }).next else p

/-- Every request outstanding to what has been declared lost completes at once; stores that did are reported (R344). -/
def State.loseAccesses (s : State) : State :=
  { s with groups := Map.mapVals (fun g =>
      let out := g.out.map s.loseIn
      let done (p : Pending) : Bool := p.failed.isSome && p.finished
      (out.filter done).foldl Group.report { g with out := out.filter fun p => !done p }) s.groups }

/-- Groups blocked on a pipe whose home is lost meet the region-lost fault (R343). -/
def State.losePipes (s : State) : State :=
  (s.groups.filter fun x => match x.2.wait with
    | some (.pipeFree n _ _) => (s.pipe? x.2.plan n).any s.homeLost
    | _ => false).foldl (fun st x => st.refuse x.1 { kind := 12 }) s

/-- Whether some of these places are an owner's. -/
def ofOwner (o : Nat) (places : List Nat) : Bool := places.any fun a => isRemote a && ownerOf a == o

/-- The places that a side of an entry has to reach with its pieces at these linear bytes. -/
def State.sideWants (s : State) (w : Owner) (dst : Bool) (e : Side) (rb : Nat) (lins : List Nat) : List Nat :=
  lins.flatMap fun l => s.sideStops w dst e (l / rb) (l % rb)

/-- The places that a stage has still to read from. -/
def State.stageWants (s : State) (w : Owner) (g : Stage) : List Nat := s.sideWants w false g.side g.rb (g.todo.map Prod.fst)

/-- The places that the head of a queue has still to read or write. -/
def State.entryWants (s : State) (core q : Nat) (e : Entry) : List Nat :=
  let w := e.as core q
  match e.kind with
  | .fetch id stages => match (s.task? e.task).bind fun t => t.cmd? id with
    | some c => stages.flatMap fun k => s.stageWants w (c.stage k)
    | none => []
  | _ => s.sideWants w false e.src e.rb (e.todo.map Prod.fst)
      ++ e.moving.flatMap fun m => match s.destination e m.dest with
        | some d => s.sideWants w true d e.rb [m.lin]
        | none => []

/-- The places that a matrix-vector product has still to read or write. -/
def State.mvmWants (s : State) (op : Nat) : List Nat :=
  match s.mvms.get? op with
  | some m => [m.a, m.ap, m.b, m.bp].flatMap (s.stageWants (m.as op)) ++ s.sideWants (m.as op) true m.dst (4 * m.n) (m.todo.map Prod.fst)
  | none => []

/-- The offset that a fault names of the first piece of an entry that an owner has to serve (R213). -/
def State.pieceFor (s : State) (core q : Nat) (e : Entry) (o : Nat) : Nat :=
  let w := e.as core q
  let reads := (e.todo.map Prod.fst).map fun l => (false, e.src, l)
  let writes := e.moving.filterMap fun m => (s.destination e m.dest).map fun d => (true, d, m.lin)
  match (reads ++ writes).find? fun x => ofOwner o (s.sideStops w x.1 x.2.1 (x.2.2 / e.rb) (x.2.2 % e.rb)) with
  | some x => x.2.1.failing (x.2.2 / e.rb) (x.2.2 % e.rb)
  | none => e.src.recBase

/-- The offset of the first byte that a stage has still to read from an owner. -/
def State.stageFor (s : State) (w : Owner) (g : Stage) (o : Nat) : Option Nat :=
  ((g.todo.map Prod.fst).find? fun l => ofOwner o (s.sideStops w false g.side (l / g.rb) (l % g.rb))).map fun l =>
    g.side.failing (l / g.rb) (l % g.rb)

/-- A refill cannot read from its owner: the sector is uncorrectable in the slot, and event 5 is due (R226, R325). -/
def State.loseRefill (s : State) (h n : Nat) : State :=
  match s.pipe? h n with
  | none => s
  | some p => match p.slots.find? fun x => x.2.loc == .refill && !x.2.todo.isEmpty with
    | none => s
    | some (k, sl) =>
      let lo := (sl.todo.headD (0, 0)).1
      let len := min ((sl.todo.headD (0, 0)).2 - lo) (16 - p.spillVA k lo % 16)
      let s1 := s.setPipe h n (p.setSlot k fun x => { x with todo := takeRange lo len x.todo })
      State.refillFault h n k 12
        { s1 with bad := (List.range len).foldl (fun m i => Map.put (slotPlace h n sl.pos lo + i) 1 m) s1.bad }

/-- A matrix command's operand fetch cannot read from an owner: the command fails on the first stage that has to (R280, R325). -/
def State.loseFetch (s : State) (task id : Nat) (stages : List Nat) (o : Nat) : State :=
  s.modTask task fun t => match t.cmd? id with
    | none => t
    | some c => match stages.findSome? fun i => (s.stageFor (s.taskOwner task c.who) (c.stage i) o).map fun off => (i, off) with
      | some x => t.failCmd id x.1 12 x.2
      | none => t

/-- What a group has asked of an owner's units has a region-lost outcome (R264, R325, R344). -/
def State.loseAskOf (s : State) (gid o : Nat) : State :=
  let g := s.group gid
  if g.asked = some o ∨ g.out.any fun p => p.remote == some o then s.loseAsk gid o
  else match g.wait with
    | some (.gang h d) => if o < 128 then s else s.commitFails gid h d 12
    | some .home => s.refuse gid { kind := 12 }
    | some (.pipeFree _ _ _) => s.refuse gid { kind := 12 }
    | some .service => s.setGroup gid { g with reads := { g.reads with lost := o :: g.reads.lost } }
    | _ => s

/-- Whether an access of an instruction is what its request for a line carries: every load or store of it there, of another access
the one at place j of those to come (R331). -/
def Access.carriedBy (x : Access × Nat) (j line : Nat) : Bool := if x.1.line?.isSome then x.1.line? == some line else x.2 == j

/-- A group's request for a line has a region-lost outcome: all that it carries is lost (R74, R325, R331). -/
def State.loseLine (s : State) (gid line o : Nat) : State :=
  let g := s.group gid
  match g.nextAccess with
  | none => s
  | some (i, j, _) => match g.out[i]? with
    | none => s
    | some p =>
      let l := p.todo.zipIdx
      let gone := (l.filter (Access.carriedBy · j line)).map Prod.fst
      if !ofOwner o (gone.flatMap s.placesOf) then s
      else
        let q := (gone.foldl Pending.lose { p with todo := (l.filter fun x => !Access.carriedBy x j line).map Prod.fst }).next
        s.setGroup gid (if q.finished then { g with out := dropAt g.out i }.report q else { g with out := setAt g.out i fun _ => q })

/-- The request of a flight for an owner completes with a region-lost outcome, where it is: an access, a copy or a product at the
piece that it was to make, if the owner has one to serve; an event or a member-lost message is sent, with no answer to come
(R264, R316, R325, R344; log 69). What is for a switch completes at the declaration (`loseAccesses`, `tryQuotaDone`,
`tryKeyDone`). -/
def State.loseFlight (s : State) (o : Nat) : Flight → State
  | .access gid line => if o < 128 then s.loseLine gid line o else s
  | .entry core q => (match s.head? core q with
    | none => s
    | some e =>
      if !ofOwner o (s.entryWants core q e) then s
      else match e.kind with
      | .fetch id stages => s.loseFetch e.task id stages o
      | _ => s.stopEntry core q e 12 (s.pieceFor core q e o))
  | .mvm op => (match s.mvms.get? op with
    | some m => if !ofOwner o (s.mvmWants op) then s
        else s.stopMvm op m 12 (([m.a, m.ap, m.b, m.bp].findSome? fun g => s.stageFor (m.as op) g o).getD m.b.side.recBase)
    | none => s)
  | .ask gid => s.loseAskOf gid o
  | .refill h n => s.loseRefill h n
  | .event h => if (s.plan? h).any fun p => portDevice p.faultPort == o then s.modPlan h fun p => { p with pending := p.pending.tail }
      else s
  | .notice dev => { s with lostOut := s.lostOut.erase dev }
  | .quota => s
  | .key => s

/-- A Pavilion instruction whose request was at a switch that has been declared lost is done, or goes on to the next switch
(R337, R344). -/
def State.losePavilion (s : State) : Flight → State
  | .access gid _ => (match (s.group gid).nextAccess with
    | some (i, j, .pavilion op) => s.performAt gid (i, j, .pavilion op)
    | _ => s)
  | _ => s

/-- At the declaration of a loss every request that is outstanding to the owner completes (R344). -/
def State.loseOwner (s : State) (o : Nat) : State :=
  let gone := s.uals.flatMap fun p => (p.2.flights.filter fun x => x.2.2 == o).map Prod.fst
  let s1 := { s with uals := Map.mapVals (fun u => { u with flights := u.flights.filter fun x => x.2.2 != o }) s.uals }
  let s2 := gone.foldl (State.loseFlight · o) s1
  (gone.foldl State.losePavilion s2.loseAccesses).losePipes

/-- The module declares a switch lost (R341 to R344): one that has been before, and has answered since, too. -/
def State.declareSwitch (s : State) (w : Nat) : State :=
  { s.setSwitch w { s.switch w with lost := true } with fabLost := s.fabLost ||| BitVec.ofNat 64 (2 ^ w) }.loseOwner (128 + w)

/-- The module declares a device lost (R341, R343, R344). -/
def State.declareDevice (s : State) (dev : Nat) : State :=
  if s.devGone dev || dev == s.device then s
  else
    let s1 := if dev < 64 then { s with devLost0 := s.devLost0 ||| BitVec.ofNat 64 (2 ^ dev) }
      else { s with devLost1 := s.devLost1 ||| BitVec.ofNat 64 (2 ^ (dev - 64)) }
    (s1.loseOwner dev).loseRequests dev

/-- The module's live ports. -/
def State.livePorts (s : State) : List Nat := (Map.keys s.uals).filter s.portLive

/-- Devices are lost for which every live port's switch has sent a notice; where all 48 ports are dead, every one (R341). -/
def State.judgeDevices (s : State) : State :=
  let live := s.livePorts
  let allDead := (List.range 48).all fun w => (s.ual w).retired
  ((List.range 128).filter fun d => d != s.device && (allDead || (!live.isEmpty && live.all fun w => s.notices.has (d * 48 + w)))).foldl
    State.declareDevice s

/-- The forwarded requests that are out on a port end with it, and those that it was to answer have no response to send there:
their buffers are free (R325, R328). -/
def State.endForwards (p : Nat) : Nat → State → State
  | 0, s => { s with forwards := s.forwards.map fun x => if x.2 = some p then (x.1, none) else x }
  | fuel + 1, s => match s.forwards.findIdx? fun x => x.1 == p with
    | some n => State.endForwards p fuel (s.endForward n)
    | none => State.endForwards p 0 s

/-- A port is dead: it is retired; every request that is outstanding on it completes, since its response could come back on no other
port (R325, R330; log 69); its switch is declared lost (R341). -/
def State.killPort (s : State) (p : Nat) : State :=
  let u := (s.ual p).dropStalled
  let lost := u.flights.filter fun x => x.2.2 != 128 + p
  let s1 := s.setUal p { u with
    retired := true, trained := false, serve := false, replay := [], resend := [], owed := 0
    flights := u.flights.filter fun x => x.2.2 == 128 + p, retrainSince := none, nakDue := false }
  let s2 := lost.foldl (fun st x => st.loseFlight x.2.2 x.1) s1
  ((State.endForwards p s.forwards.length s2).declareSwitch p).judgeDevices

/-! Flits, replay, retraining (R323 to R326). -/

/-- The bucket's level at a cycle: it has fallen by 1 for every 2^31 cycles (R325). -/
def UalPort.decayed (u : UalPort) (now : Nat) : UalPort :=
  let n := min u.level ((now - u.decayAt) / 2 ^ 31)
  { u with level := u.level - n, decayAt := u.decayAt + n * 2 ^ 31 }

/-- The retraining bucket takes one more retraining; none if the port must retire (R325). -/
def UalPort.retrain (v : UalPort) (now : Nat) : Option UalPort :=
  let u := v.decayed now
  if 8 ≤ u.level + 1 then none
  else some { u with level := u.level + 1, decayAt := if u.level = 0 then now else u.decayAt, retrainSince := some now
                     failedReplays := 0, nakAck := none }

/-- A NAK asks for a replay from ACK + 1, which is what the replay buffer still holds; the third failed replay of one flit
retrains the port (R324, R325). -/
def State.takeNak (s : State) (p ack : Nat) : State :=
  let u := { s.ual p with resend := (s.ual p).replay }
  let f := if u.nakAck = some ack then u.failedReplays + 1 else 0
  if 3 ≤ f then
    match u.retrain s.cycle with
    | some v => s.setUal p v
    | none => s.killPort p
  else s.setUal p { u with nakAck := some ack, failedReplays := f }

/-- A port receives a flit of 64 bytes (R323, R324, R326); no sender sends a new request for which the buffer, of 1,024 entries, has
no room. `fwd` says what the request that it carries needs, or what the
response answers (R328). -/
def State.tryFlit (s : State) (p flit fwd : Nat) : Option State :=
  let u := s.ual p
  let bs := leBytes 64 flit
  let h := flitHeader (flit % 2 ^ 64)
  if !s.portOpen p then none
  else if !flitGood bs then some (s.setUal p { u with nakDue := true })
  else if h.seq = u.rxSeq ∧ h.vc = 0 ∧ 1024 ≤ u.stalled.length then none
  else
    let u1 := { u with lastGood := s.cycle, replay := ackReplay h.ack u.replay, resend := ackReplay h.ack u.resend }.credit h.cvc h.credit
    let s1 := if h.seq = u.rxSeq then (s.setUal p { u1 with rxSeq := (u.rxSeq + 1) % 4096 }).takeFlit p h.vc fwd
      else s.setUal p { u1 with nakDue := true }
    some (if h.nak then s1.takeNak p h.ack else s1)

/-- A port with no request to send transmits: the next flit of a replay, or an idle flit (R323, R324). -/
def State.tryIdleFlit (s : State) (p : Nat) : Option State :=
  if s.portOpen p then some (s.setUal p ((s.ual p).fill s.cycle)) else none

/-- Retraining ends in time: buffers and credits stand, the replay goes on from ACK + 1 (R324, R325). -/
def State.tryRetrainDone (s : State) (p : Nat) : Option State :=
  let u := s.ual p
  match u.retrainSince with
  | some t => if s.cycle < t + 2 ^ 20 then some (s.setUal p { u with retrainSince := none, lastGood := s.cycle, resend := u.replay })
    else none
  | none => none

/-- A retraining that does not end in time retires the port (R325). -/
def State.tryRetrainExpiry (s : State) (p : Nat) : Option State :=
  match (s.ual p).retrainSince with
  | some t => if t + 2 ^ 20 ≤ s.cycle then some (s.killPort p) else none
  | none => none

/-- The bucket's level falls (R325). -/
def State.tryDecay (s : State) (p : Nat) : Option State :=
  let u := s.ual p
  if u.level ≠ 0 ∧ u.decayAt + 2 ^ 31 ≤ s.cycle then some (s.setUal p (u.decayed s.cycle)) else none

/-- A forward buffer and a credit are free: the stalled request of a port's request channel proceeds, and those behind it as far
as they can (R328). -/
def State.tryStallRelease (s : State) (p c : Nat) : Option State :=
  match (s.ual p).stalled with
  | [] => none
  | f :: _ => if c = 0 ∧ s.mayForward f then some (State.serveStalled p (s.ual p).stalled s) else none

/-- Whether a port dies now: it has been retired and its loss is still to be declared; it is fenced, or its link die is off; it
has heard no good flit for 65,536 cycles; or its retraining has not ended in time (R325, R341, R377, R382, R386). -/
def State.portDies (s : State) (p : Nat) : Bool :=
  let u := s.ual p
  decide (p < 48)
    && (if u.retired then !s.fabLost.getLsbD p || !u.flights.isEmpty
        else u.trained && (s.fenced 6 p || (s.die (16 + p / 24)).off
          || (match u.retrainSince with
            | some t => decide (t + 2 ^ 20 ≤ s.cycle)
            | none => decide (u.lastGood + 65536 ≤ s.cycle))))

/-- A port that dies is retired, and its switch lost (R341, R377). -/
def State.trySilence (s : State) (p : Nat) : Option State := if s.portDies p then some (s.killPort p) else none

/-- A switch's fatal-error notice, on its response channel (R327, R341). -/
def State.tryFatal (s : State) (w : Nat) : Option State := (s.arrives w 2).map fun t => t.declareSwitch w

/-- A port-down notice, on the response channel of its switch (R327, R341). -/
def State.tryPortDown (s : State) (dev w : Nat) : Option State :=
  if 128 ≤ dev ∨ dev = s.device then none
  else (s.arrives w 2).map fun t => { t with notices := t.notices.put (dev * 48 + w) 1 }.judgeDevices

/-! Pavilion allocation (R334 to R340). -/

/-- The switch answers a quota command, which is a request on its port (R327, R340). -/
def State.tryQuotaDone (s : State) : Option State :=
  let v := s.pavQuota.toNat
  if bits v 21 20 ≠ 1 then none
  else
    let w := bits v 47 42
    if s.fabLost.getLsbD w then some { s with pavQuota := BitVec.ofNat 64 (putBits v 21 20 2) }
    else if !s.answered .quota (pavAddr w 0) then none
    else
      let t := s.land .quota (pavAddr w 0)
      let x := t.switch w
      some { t.setSwitch w { x with limit := x.limit.putD 0 (bits v 63 48) (bits v 19 0) } with
        pavQuota := BitVec.ofNat 64 (putBits v 21 20 0) }

/-- Writes S(sd) as a variable-latency result. -/
def resultIn (s : State) (d : Reg) (n : Nat) : Eff := s.pushResult [.s d.toNat (BitVec.ofNat 64 n)]

/-- A Pavilion instruction goes to its switch; its results come back later (R337). -/
def State.pushPavilion (s : State) (op : PavOp) : Eff := s.push { pc := 0, todo := [.pavilion op], result := true }

/-- `pvalloc`: R337, R339. -/
def pvallocBody (d a b : Reg) : Body := coreOnly (withResult fun s =>
  let g := s.me
  let bytes := (g.getS a.toNat).toNat
  let fl := (g.getS b.toNat).toNat
  if d.toNat = 127 ∨ 128 ≤ fl ∨ (!bit fl 6 ∧ 48 ≤ fl % 64) then illegal s
  else if bytes = 0 ∨ 2 ^ 39 < bytes then s.pushResult [.s d.toNat 0, .s (d.toNat + 1) 4]
  else s.pushPavilion (.alloc ((bytes + 2 ^ 21 - 1) / 2 ^ 21)
    (if bit fl 6 then (List.range 48).map fun i => (s.device + i) % 48 else [fl % 64]) 3 d.toNat))
def execPvalloc (m : Bool) (d a b : Reg) (st : State) : Out := issue m (pvallocBody d a b) st

/-- `pvfree`: R337, R339. -/
def pvfreeBody (d a : Reg) : Body := coreOnly (withResult fun s =>
  let v := (s.me.getS a.toNat).toNat
  if v < windowBase ∨ windowBase + 48 * 2 ^ 39 ≤ v then resultIn s d 5
  else s.pushPavilion (.free ((v - windowBase) / 2 ^ 39) ((v - windowBase) % 2 ^ 39) d.toNat))
def execPvfree (m : Bool) (d a : Reg) (st : State) : Out := issue m (pvfreeBody d a) st

/-- `pvq`: R337 to R339. The number of no switch, 48 to 63, gives a free value (log 4). -/
def pvqBody (d a : Reg) : Body := coreOnly (withResult fun s =>
  let w := (s.me.getS a.toNat).toNat
  if 64 ≤ w then illegal s
  else if 48 ≤ w then
    { s with freeCtr := s.freeCtr + 8 }.pushResult [.s d.toNat (BitVec.ofNat 64 (leNat ((List.range 8).map fun i => Config.freeByte (s.freeCtr + i))))]
  else s.pushPavilion (.query w d.toNat))
def execPvq (m : Bool) (d a : Reg) (st : State) : Out := issue m (pvqBody d a) st

/-- R323, R324, R326. The flit is given by its header's fields and `rest`, the bytes behind the header with the header's reserved
bits above them. -/
def execFlitReceive (p seq vc ack : Nat) (nak : Bool) (cvc credit rest fwd : Nat) (st : State) : Out :=
  event st (st.tryFlit p (flitNumber ⟨credit, cvc, ack, nak, vc, seq⟩ rest) fwd)

/-- R323. -/
def execIdleFlit (p : Nat) (st : State) : Out := event st (st.tryIdleFlit p)

/-- R324. -/
def execRetrainComplete (p : Nat) (st : State) : Out := event st (st.tryRetrainDone p)

/-- R325. -/
def execRetrainLimitExpiry (p : Nat) (st : State) : Out := event st (st.tryRetrainExpiry p)

/-- R325. -/
def execRetrainBucketDecay (p : Nat) (st : State) : Out := event st (st.tryDecay p)

/-- R328. -/
def execForwardStallRelease (p vc : Nat) (st : State) : Out := event st (st.tryStallRelease p vc)

/-- R341. -/
def execLinkSilenceTimeout (p : Nat) (st : State) : Out := event st (st.trySilence p)

/-- R341. -/
def execFatalErrorNotice (sw : Nat) (st : State) : Out := event st (st.tryFatal sw)

/-- R341. -/
def execPortDownNotice (dev sw : Nat) (st : State) : Out := event st (st.tryPortDown dev sw)

/-- R334. -/
def execGranuleZeroed (sw n : Nat) (st : State) : Out := event st (st.tryZeroed sw n)

/-- R340. -/
def execPavQuotaDone (st : State) : Out := event st st.tryQuotaDone

end Sys2Proof.Machine
end

