-- ==== Sys2Proof/Machine/Shake.lean ====
section
/-!
DEFINITION. SHAKE256 (R363, R373, R374): a sponge over 25 lanes of 64 bits. Nothing is tabled: the rotations come from the
walk over the lanes, and the round constants from a shift register.
-/

namespace Sys2Proof.Machine

/-- The sponge's lanes: the one at column x, row y is element x + 5y. -/
abbrev Sponge := List Dword

def Sponge.lane (a : Sponge) (x y : Nat) : Dword := a.getD (x % 5 + y % 5 * 5) 0

/-- A sponge given lane by lane. -/
def Sponge.of (f : Nat → Nat → Dword) : Sponge := (List.range 25).map fun i => f (i % 5) (i / 5)

/-- The sum of each column. -/
def Sponge.columns (a : Sponge) : List Dword := (List.range 5).map fun x => ((List.range 5).map (a.lane x)).foldl (· ^^^ ·) 0

/-- Adds to every lane the columns on its two sides. -/
def Sponge.mixColumns (a : Sponge) : Sponge :=
  let c := a.columns
  Sponge.of fun x y => a.lane x y ^^^ c.getD ((x + 4) % 5) 0 ^^^ (c.getD ((x + 1) % 5) 0).rotateLeft 1

/-- The walk from lane (x, y) with `left` moves to go, `t` of them made: each lane goes to (y, 2x + 3y), turned by the
triangular number of its move. -/
def Sponge.walk (a : Sponge) : Nat → Nat → Nat → Nat → Sponge → Sponge
  | 0, _, _, _, b => b
  | left + 1, t, x, y, b =>
    let y' := (2 * x + 3 * y) % 5
    a.walk left (t + 1) y y' (setAt b (y + 5 * y') fun _ => (a.lane x y).rotateLeft ((t + 1) * (t + 2) / 2 % 64))

/-- Turns and moves every lane but (0, 0), which stays. -/
def Sponge.scatter (a : Sponge) : Sponge := a.walk 24 0 1 0 a

/-- The one step that is not linear, row by row. -/
def Sponge.bend (a : Sponge) : Sponge := Sponge.of fun x y => a.lane x y ^^^ (a.lane (x + 2) y &&& ~~~ a.lane (x + 1) y)

/-- The shift register of x^8 + x^6 + x^5 + x^4 + 1 moves by one. -/
def shiftRegister (r : Nat) : Nat := if r < 128 then 2 * r else (2 * r) ^^^ 0x171

/-- Seven bits of the register, bit j at place 2^j - 1 of a round's constant; and the register after them. -/
def roundConstant (r : Nat) : Nat × Nat :=
  (List.range 7).foldl (fun c j => (c.1 + c.2 % 2 * 2 ^ (2 ^ j - 1), shiftRegister c.2)) (0, r)

/-- Rounds of the permutation, with the shift register before them. -/
def Sponge.rounds : Nat → Nat → Sponge → Sponge
  | 0, _, a => a
  | n + 1, r, a =>
    let c := roundConstant r
    Sponge.rounds n c.2 (setAt a.mixColumns.scatter.bend 0 fun l => l ^^^ BitVec.ofNat 64 c.1)

/-- The permutation: 24 rounds. -/
def Sponge.permute (a : Sponge) : Sponge := Sponge.rounds 24 1 a

/-- The sponge takes in a block of 136 bytes: 17 lanes. -/
def Sponge.absorb (a : Sponge) (block : List Byte) : Sponge :=
  (Sponge.of fun x y => a.lane x y ^^^ BitVec.ofNat 64 (leNat ((block.drop (8 * (x + 5 * y))).take 8))).permute

/-- The sponge takes in a message from its first block to its last, which ends with 0x1F, zeros, and the top bit of
byte 135. -/
def Sponge.soak : Nat → List Byte → Sponge → Sponge
  | 0, _, a => a
  | n + 1, m, a =>
    if 136 ≤ m.length then Sponge.soak n (m.drop 136) (a.absorb (m.take 136))
    else a.absorb (setAt ((m ++ 0x1F :: List.replicate 135 0).take 136) 135 (· ^^^ 0x80))

/-- SHAKE256 of a message, n bytes, n ≤ 136. -/
def shake256 (m : List Byte) (n : Nat) : List Byte :=
  ((Sponge.soak (m.length / 136 + 1) m (List.replicate 25 0)).flatMap fun w => leBytes 8 w.toNat).take n

end Sys2Proof.Machine
end

