-- ==== Sys2Proof/Machine/System.lean ====
section
/-!
DEFINITION. System registers (R345 to R348), keys, measurement and attestation (R362 to R364).
-/

namespace Sys2Proof.Machine

/-- What a mode may do with a system register: nothing, read, read and write (w1c included). -/
inductive Acc where
  | no | r | rw
  deriving DecidableEq, Repr

/-- A row of the table of R346. -/
structure SysReg where
  group : Bool
  user : Acc
  sup : Acc
  ctl : Acc
  counter : Bool := false
  deriving DecidableEq, Repr

/-- The system register of a number (R346). -/
def sysReg (n : Nat) : Option SysReg :=
  match n with
  | 0x000 => some ⟨true, .rw, .rw, .no, false⟩
  | 0x001 => some ⟨true, .rw, .rw, .no, false⟩
  | 0x002 => some ⟨true, .r, .r, .no, false⟩
  | 0x003 => some ⟨true, .r, .r, .no, false⟩
  | 0x004 => some ⟨true, .r, .r, .no, true⟩
  | 0x005 => some ⟨true, .r, .r, .no, true⟩
  | 0x006 => some ⟨true, .no, .rw, .no, false⟩
  | 0x007 => some ⟨true, .no, .rw, .no, false⟩
  | 0x040 => some ⟨false, .r, .r, .r, false⟩
  | 0x041 => some ⟨true, .no, .r, .r, false⟩
  | 0x042 => some ⟨false, .r, .r, .r, true⟩
  | 0x043 => some ⟨false, .r, .r, .r, true⟩
  | 0x044 => some ⟨false, .r, .r, .r, false⟩
  | 0x080 => some ⟨false, .no, .rw, .rw, false⟩
  | 0x081 => some ⟨false, .no, .rw, .rw, false⟩
  | 0x082 => some ⟨false, .no, .rw, .rw, false⟩
  | 0x083 => some ⟨false, .no, .rw, .rw, false⟩
  | 0x084 => some ⟨false, .no, .r, .rw, false⟩
  | 0x085 => some ⟨false, .no, .r, .rw, false⟩
  | 0x086 => some ⟨false, .no, .r, .rw, false⟩
  | 0x0C0 => some ⟨false, .no, .no, .rw, false⟩
  | 0x0C1 => some ⟨false, .no, .no, .rw, false⟩
  | 0x0C2 => some ⟨false, .no, .no, .rw, false⟩
  | 0x0C3 => some ⟨false, .no, .no, .rw, false⟩
  | n => if 0x100 ≤ n ∧ n ≤ 0x17F then some ⟨false, .no, .r, .r, false⟩ else none

/-- The access a mode has. -/
def SysReg.access (r : SysReg) : Mode → Acc
  | .user => r.user
  | .supervisor => r.sup
  | .control => r.ctl

/-- The fault of an access that the mode may not make (R345): privilege in user mode, else illegal instruction. -/
def denied (s : State) : Eff := if s.me.mode = .user then privilege s else illegal s

/-- Numbers under which the key, measurement and attestation engines keep the die whose processor started them. -/
def keyEngine : Nat := 2 ^ 32
def measEngine : Nat := 2 ^ 32 + 1

/-- A measurement register (R363): 64 bytes, zero until extended. -/
def State.measReg (s : State) (i : Nat) : List Byte := s.meas.getD i (List.replicate 64 0)

/-- The value of a system register (R16, R17, R138, R279, R346, R348). -/
def State.sysValue (s : State) (n : Nat) : Dword :=
  let g := s.me
  match n with
  | 0x000 => g.fpctl
  | 0x001 => g.srseed
  | 0x002 => g.tags0
  | 0x003 => g.tags1
  | 0x004 => match s.task? g.task with
    | some t => BitVec.ofNat 64 (t.issued % 2 ^ 32 * 2 ^ 32 + t.doneCount % 2 ^ 32)
    | none => 0
  | 0x005 => BitVec.ofNat 64 g.instret
  | 0x006 => g.ptRoot
  | 0x007 => BitVec.ofNat 64 (natOf g.step)
  | 0x040 => 64
  | 0x041 => s.location s.cur
  | 0x042 => BitVec.ofNat 64 s.cycle
  | 0x043 => BitVec.ofNat 64 (s.cycle % 8192)
  | 0x044 => BitVec.ofNat 64 s.serviceLevel
  | 0x080 => s.trapVec
  | 0x081 => s.trapBase
  | 0x082 => s.bulkLimit
  | 0x083 => s.deadlockCycles
  | 0x084 => s.fabLost
  | 0x085 => s.devLost0
  | 0x086 => s.devLost1
  | 0x0C0 => s.pavQuota
  | 0x0C1 => s.keyCtl
  | 0x0C2 => s.attest
  | 0x0C3 => s.measExt
  | n => BitVec.ofNat 64 (leNat (((s.measReg ((n - 0x100) / 8)).drop (8 * ((n - 0x100) % 8))).take 8))

/-- Whether the ports of a device have trained again (R342): some port is live, and no switch reports the device's port
down. -/
def State.deviceReturned (s : State) (d : Nat) : Bool :=
  !s.livePorts.isEmpty && (List.range 48).all fun w => !s.notices.has (d * 48 + w)

/-- A write that breaks a register's reserved fields (R3) or limits (R345). -/
def State.badSysWrite (s : State) (n v : Nat) : Bool :=
  match n with
  | 0x000 => decide (8 ≤ v)
  | 0x001 => decide (2 ^ 32 ≤ v)
  | 0x006 => bits v 63 46 != 0 || bits v 11 0 != 0
  | 0x007 => decide (2 ≤ v)
  | 0x080 => bits v 63 56 != 0 || bits v 1 0 != 0
  | 0x081 => bits v 63 36 != 0 || bits v 19 1 != 0 || decide (2 ^ 36 < bits v 35 20 * 2 ^ 20 + 5767168)
  | 0x082 => bits v 63 20 != 0 || decide (v < 1024)
  | 0x083 => bits v 63 32 != 0 || (v != 0 && decide (v < 65536))
  | 0x084 => bits v 63 48 != 0 || (List.range 48).any fun w => bit v w && s.fabLost.getLsbD w && (s.switch w).lost
  | 0x085 => (List.range 64).any fun d => bit v d && s.devLost0.getLsbD d && !s.deviceReturned d
  | 0x086 => (List.range 64).any fun d => bit v d && s.devLost1.getLsbD d && !s.deviceReturned (64 + d)
  | 0x0C0 => bits v 41 20 != 0 || decide (48 ≤ bits v 47 42) || decide (262144 < bits v 19 0) || bits s.pavQuota.toNat 21 20 == 1
  | 0x0C1 => bits v 63 44 != 0 || bits v 37 36 != 0 || bits v 15 13 != 0 || (decide (48 ≤ bits v 43 38) && bits v 43 38 != 63)
    || bits v 35 34 == 3 || bits v 33 16 % 64 != 0 || bits s.keyCtl.toNat 37 36 == 1
  | 0x0C2 => bits v 63 24 != 0 || decide (2 ≤ bits v 23 22) || bits v 21 0 % 64 != 0 || decide (2 ^ 22 < bits v 21 0 + 30952)
  | 0x0C3 => bits v 63 45 != 0 || bits v 7 4 != 0 || bits v 44 26 == 0 || decide (262144 < bits v 44 26)
    || bits v 25 8 % 64 != 0 || decide (262144 < bits v 25 8 + bits v 44 26) || bits s.measExt.toNat 47 46 == 1
  | _ => true

/-- The bytes that a report's signature covers, at the start of signing (R364). -/
def State.reportBytes (s : State) (addr : Nat) : List Byte :=
  s.bytes (belvedereAddr addr) 64 ++ (List.range 16).flatMap s.measReg ++ leBytes 8 (s.device % 128)
    ++ (let k := Config.identityKey (s.bytes (fuseAddr 192) 64); (List.range 64).map fun i => k.getD i 0)

/-- A write of a system register whose checks have passed (R347): `v` is its new value, or the bits it clears. -/
def State.sysStore (s : State) (n v : Nat) : State :=
  let g := s.me
  let w := BitVec.ofNat 64 v
  match n with
  | 0x000 => s.setMe { g with fpctl := w }
  | 0x001 => s.setMe { g with srseed := w, gen := lanesOf (srSeed (BitVec.ofNat 32 v)) }
  | 0x006 => s.setMe { g with ptRoot := w }
  | 0x007 => s.setMe { g with step := bit v 0 }
  | 0x080 => { s with trapVec := w }
  | 0x081 => { s with trapBase := w }
  | 0x082 => { s with bulkLimit := w }
  | 0x083 => { s with deadlockCycles := w }
  | 0x084 => { s with fabLost := s.fabLost &&& ~~~ w }
  | 0x085 => { s with devLost0 := s.devLost0 &&& ~~~ w }
  | 0x086 => { s with devLost1 := s.devLost1 &&& ~~~ w }
  | 0x0C0 => { s with pavQuota := BitVec.ofNat 64 (putBits v 21 20 1) }
  | 0x0C1 =>
    if bits v 35 34 = 0 then { s with keyCtl := w }
    else { s with keyCtl := BitVec.ofNat 64 (putBits v 37 36 1), busy := s.busy.put keyEngine (dieOfGid s.cur) }
  | 0x0C2 =>
    if bits v 23 22 = 1 then { s with attest := w, attestData := s.reportBytes (bits v 21 0) } else { s with attest := w }
  | 0x0C3 => { s with measExt := BitVec.ofNat 64 (putBits v 47 46 1), busy := s.busy.put measEngine (dieOfGid s.cur) }
  | _ => s

/-- `sysr` of a number (R347): a counter is sampled now, its result comes later (R67). -/
def readSys (n : Nat) (d : Reg) : Body := fun s =>
  match sysReg n with
  | none => illegal s
  | some r =>
    if r.access s.me.mode = .no then denied s
    else if r.counter then s.pushResult [.s d.toNat (s.sysValue n)]
    else .ok (s.setMe (s.me.setS d.toNat (s.sysValue n)))

/-- `sysw` of a number (R347). -/
def writeSys (n : Nat) (a : Reg) : Body := fun s =>
  match sysReg n with
  | none => illegal s
  | some r =>
    if r.access s.me.mode ≠ .rw then denied s
    else
      let write : Body := fun t =>
        let v := (t.me.getS a.toNat).toNat
        if t.badSysWrite n v then illegal t else .ok (t.sysStore n v)
      if r.group then write s else ordered write s

/-- `sysr`: R345 to R348. -/
def sysrBody (r : BitVec 12) (s : Reg) : Body := readSys r.toNat s
def execSysr (m : Bool) (r : BitVec 12) (s : Reg) (st : State) : Out := issue m (sysrBody r s) st

/-- `sysw`: R345 to R347. -/
def syswBody (r : BitVec 12) (s : Reg) : Body := writeSys r.toNat s
def execSysw (m : Bool) (r : BitVec 12) (s : Reg) (st : State) : Out := issue m (syswBody r s) st

/-- `srseed.write`: R131. -/
def srseedWriteBody (s : Reg) : Body := writeSys 0x001 s
def execSrseedWrite (m : Bool) (s : Reg) (st : State) : Out := issue m (srseedWriteBody s) st

/-- `pav.quota.write`: R340. -/
def pavQuotaWriteBody (s : Reg) : Body := writeSys 0x0C0 s
def execPavQuotaWrite (m : Bool) (s : Reg) (st : State) : Out := issue m (pavQuotaWriteBody s) st

/-- `key.load`: R362, OP 1; the value of S(sa) decides. -/
def keyLoadBody (s : Reg) : Body := writeSys 0x0C1 s
def execKeyLoad (m : Bool) (s : Reg) (st : State) : Out := issue m (keyLoadBody s) st

/-- `key.clear`: R362, OP 2; the value of S(sa) decides. -/
def keyClearBody (s : Reg) : Body := writeSys 0x0C1 s
def execKeyClear (m : Bool) (s : Reg) (st : State) : Out := issue m (keyClearBody s) st

/-- `attest.start`: R364. -/
def attestStartBody (s : Reg) : Body := writeSys 0x0C2 s
def execAttestStart (m : Bool) (s : Reg) (st : State) : Out := issue m (attestStartBody s) st

/-- `meas.extend`: R363. -/
def measExtendBody (s : Reg) : Body := writeSys 0x0C3 s
def execMeasExtend (m : Bool) (s : Reg) (st : State) : Out := issue m (measExtendBody s) st

/-- `fab.lost.clear`: R342. -/
def fabLostClearBody (s : Reg) : Body := writeSys 0x084 s
def execFabLostClear (m : Bool) (s : Reg) (st : State) : Out := issue m (fabLostClearBody s) st

/-- `dev.lost.clear`: R342. -/
def devLostClearBody (h : Bool) (s : Reg) : Body := writeSys (if h then 0x086 else 0x085) s
def execDevLostClear (m h : Bool) (s : Reg) (st : State) : Out := issue m (devLostClearBody h s) st

/-! The engines' ends. -/

/-- The pieces an access reads or writes. -/
def Access.pieces : Access → List Piece
  | .load q => [q]
  | .store q _ => [q]
  | .atomic _ _ ps _ => ps
  | _ => []

/-- Whether some group has an access under a key id still to perform, at a table's edge (R362). -/
def State.keyInUse (s : State) (table id : Nat) : Bool :=
  s.groups.any fun g => g.2.out.any fun p => p.todo.any fun a => a.pieces.any fun q =>
    q.key == id && keyed q.addr && (keyTable q.addr == table || table == 63)

/-- A key operation finishes (R362): a load into a full entry, or to a lost switch, has failed. One on a switch's table is a request
on its port (R327). -/
def State.tryKeyDone (s : State) : Option State :=
  let v := s.keyCtl.toNat
  let table := bits v 43 38
  let id := bits v 12 0
  let src := sramAddr ((s.busy.get? keyEngine).getD 16) (bits v 33 16)
  let done (u : State) (status : Nat) : State :=
    let st := if table < 48 then u.land .key (pavAddr table 0) else u
    { st with keyCtl := BitVec.ofNat 64 (putBits v 37 36 status), busy := Map.del keyEngine st.busy }
  if bits v 37 36 ≠ 1 then none
  else if table < 48 ∧ s.fabLost.getLsbD table then some (done s 2)
  else if table < 48 ∧ !s.answered .key (pavAddr table 0) then none
  else if bits v 35 34 = 1 then
    if s.hasKey table id then some (done s 2)
    else some (done ({ s with keys := s.keys.put (table * 8192 + id) (s.bytes src 64) }.write src (List.replicate 64 0)) 0)
  else if s.keyInUse table id then none
  else some (done { s with keys := Map.del (table * 8192 + id) s.keys } 0)

/-- Measurement register i is extended with data (R363). -/
def State.extend (s : State) (i : Nat) (data : List Byte) : State :=
  { s with meas := s.meas.put i (shake256 (s.measReg i ++ shake256 data 64) 64) }

/-- A measurement extension finishes (R363). -/
def State.tryMeasDone (s : State) : Option State :=
  let v := s.measExt.toNat
  if bits v 47 46 ≠ 1 then none
  else
    let d := (s.busy.get? measEngine).getD 16
    some { s.extend (bits v 3 0) (s.bytes (sramAddr d (bits v 25 8)) (bits v 44 26)) with
      measExt := BitVec.ofNat 64 (putBits v 47 46 0), busy := Map.del measEngine s.busy }

/-- Signing ends: the report is written, or it has failed (R364). -/
def State.tryAttestDone (s : State) (ok : Nat) : Option State :=
  let v := s.attest.toNat
  if bits v 23 22 ≠ 1 then none
  else if ok = 0 then some { s with attest := BitVec.ofNat 64 (putBits v 23 22 3), attestData := [] }
  else
    let sig := Config.sign s.attestData
    let report := s.attestData.drop 64 ++ (List.range 29792).map fun i => sig.getD i 0
    some { s.write (belvedereAddr (bits v 21 0 + 64)) report with attest := BitVec.ofNat 64 (putBits v 23 22 2), attestData := [] }

/-- R362. -/
def execKeyOpDone (st : State) : Out := event st st.tryKeyDone

/-- R363. -/
def execMeasExtendDone (st : State) : Out := event st st.tryMeasDone

/-- R364. -/
def execAttestDone (ok : Nat) (st : State) : Out := event st (st.tryAttestDone ok)

end Sys2Proof.Machine
end

