-- ==== Sys2Proof/Machine/Traps.lean ====
section
/-!
DEFINITION. Traps and the return from them, the debug step (R353 to R356), segments and translations (R357, R358), and
saving and restoring a plan (R359, R360).
-/

namespace Sys2Proof.Machine

/-- Whether a word is a `bar.arw`. -/
def isBarArw (w : Nat) : Bool := w &&& 0xBFFE007F == 0xB7400000
/-- Whether a word is a `sendw`. -/
def isSendw (w : Nat) : Bool := w &&& 0xBFE00000 == 0xB6200000

/-- The eight doublewords of a trap record as `tret` reads them (R352). -/
structure Frame where
  resume : Nat
  repcnt : Nat
  wait : Nat
  value : Nat
  reserved : Bool
  saved : List Dword
  deriving DecidableEq, Repr

def frameOf (d : List Nat) : Frame :=
  let w (i : Nat) : Nat := d.getD i 0
  { resume := bits (w 0) 55 0, repcnt := bits (w 2) 30 24, wait := bits (w 2) 33 32, value := bits (w 5) 63 32
    reserved := bits (w 0) 63 56 != 0 || bits (w 1) 63 56 != 0 || bits (w 2) 63 48 != 0 || bit (w 2) 31 || bit (w 2) 11
      || bits (w 5) 31 19 != 0 || bits (w 5) 7 3 != 0
    saved := (List.range 4).map fun i => BitVec.ofNat 64 (w (8 + i)) }

/-- The wait inside which a group resumes: the phase of its `bar.arw`, which is tested at once, or the ticket of its `sendw`, of
this module or of another (R197, R260). A ticket that names no admitted message of the group stands for a discarded one. -/
def State.resumeWait (s : State) (f : Frame) (word : Nat) : State × Option Wait :=
  match f.wait with
  | 1 => let seg := bits word 16 14
    let off := (s.me.getS (bits word 13 7)).toNat
    let sg := s.me.seg s.cur seg
    let addr := s.target s.cur sg 0 off
    (s, if sg.space ≠ 1 then some (.woken none 0 (some { kind := 1, seg := some seg, offset := off }) (some (f.value % 2 ^ 16)))
        else (Group.examined s addr 1 { wait := some (.barrier addr (f.value % 2 ^ 16) true seg off) }).wait)
  | 2 =>
    let id := (s.me.getS (bits word 13 7)).toNat % 2 ^ 32
    let own := match s.tickets.get? f.value with
      | some (.awaited g) => g == s.cur
      | some (.consumed g _ _) => g == s.cur
      | some (.discarded g) => g == s.cur
      | none => false
    if bits id 29 23 ≠ s.device then (s, some (.remoteTicket id f.value (bits word 20 14)))
    else if own then (s, some (.ticket f.value (bits word 20 14)))
    else ({ s with tickets := s.tickets.put s.nextTicket (.discarded s.cur), nextTicket := s.nextTicket + 1 },
      some (.ticket s.nextTicket (bits word 20 14)))
  | _ => (s, none)

/-- `tret` with S(sa) = 0: the checks on the frame, and the return to it (R354). With a REPCNT no wait is resumed: what lies at
RESUME is no `rep`, and faults (R87). -/
def returnToFrame : Body := fun s0 =>
  let a := s0.frameAddr s0.cur
  let s := s0.redirectRange (unitOf s0.cur) a 96
  if s.isBad a 96 then .fault s { kind := 8, seg := some 7 }
  else
    let f := frameOf ((List.range 12).map fun i => leNat (s.readPiece {} 0 (a + 8 * i) 8))
    let word := s.wordAt s.cur f.resume
    if f.resume % 4 ≠ 0 ∨ 64 < f.repcnt ∨ f.wait = 3 ∨ f.reserved ∨ (f.wait = 1 ∧ !isBarArw word) ∨ (f.wait = 2 ∧ !isSendw word) then
      illegal s
    else
      let g := (List.range 4).foldl (fun (g : Group) (r : Nat) => g.setS r (f.saved.getD r 0)) s.me
      let u := s.setMe { g with mode := .user, repcnt := f.repcnt }
      let r := if f.repcnt = 0 then u.resumeWait f word else (u, none)
      .resume r.1 f.resume r.2 (bit word 30)

/-- The group's task ends without `exit` (R354). -/
def endMyTask (returns : Bool) : Body := fun s => .gone (s.finishTask s.me.task returns)

/-- `tret` (R354). -/
def tret (a : Reg) : Body := supervisorOnly (coreOnly (ordered fun s =>
  match (s.me.getS a.toNat).toNat with
  | 0 => if s.frameServed s.cur then returnToFrame s else .wait s .service
  | 1 => endMyTask true s
  | 2 => endMyTask false s
  | _ => illegal s))

/-- `trap`: R354. -/
def trapBody (a : Reg) : Body := coreOnly fun s =>
  .fault (s.setMe { s.me with instret := wrap64 (s.me.instret + 1) })
    { kind := 15, src := 6, value := (s.me.getS a.toNat).toNat % 2 ^ 32, resume := some (wrap64 (s.me.pc + 4)) }
def execTrap (m : Bool) (a : Reg) (st : State) : Out := issue m (trapBody a) st

/-- `tret.resume`: R354; 0 in S(sa) resumes. -/
def tretResumeBody (a : Reg) : Body := tret a
def execTretResume (m : Bool) (a : Reg) (st : State) : Out := issue m (tretResumeBody a) st

/-- `tret.end.return`: R354; 1 in S(sa) ends the task, returning its messages and claims. -/
def tretEndReturnBody (a : Reg) : Body := tret a
def execTretEndReturn (m : Bool) (a : Reg) (st : State) : Out := issue m (tretEndReturnBody a) st

/-- `tret.end.discard`: R354; 2 in S(sa) ends the task, discarding its messages. -/
def tretEndDiscardBody (a : Reg) : Body := tret a
def execTretEndDiscard (m : Bool) (a : Reg) (st : State) : Out := issue m (tretEndDiscardBody a) st

/-- `brk`: R354. -/
def brkBody : Body := coreOnly fun s => .fault s { kind := 16 }
def execBrk (m : Bool) (st : State) : Out := issue m brkBody st

/-! Traps that no instruction raises (R353, R355, R356). -/

/-- A group whose trap, late fault or debug step is due enters its handler, once it can be drained; a double fault's task is ended, and a
task whose groups have stopped is over once they can be drained (R353 to R356). Of a step due with late faults, the step is the cause, and they are its late entries. -/
def State.tryTrapEntry (s : State) (gid : Nat) : Option State :=
  let d := s.die (dieOfGid gid)
  let g := s.group gid
  if d.doubleFaults.contains gid then
    some ((s.setDie (dieOfGid gid) { d with doubleFaults := d.doubleFaults.filter (· != gid) }).finishTask g.task true)
  else if s.groupEnds gid then s.endSettled g.task
  else if !s.groups.has gid ∨ g.halted ∨ !s.canEnter gid then none
  else if g.due.isSome then some (s.enterTrap gid g.due)
  else if g.late.isEmpty ∧ g.lateExtra = 0 ∧ !g.stepDue then none
  else (s.interrupt gid).map fun u => u.takeTrap gid (if g.stepDue then some { kind := 17 } else none)

/-- A step unit has been blocked for 65,536 cycles: the step trap interrupts it (R356). -/
def State.tryStepTimeout (s : State) (gid : Nat) : Option State :=
  let g := s.group gid
  if g.stepArmed ∧ g.mode = .user ∧ g.wait.isSome ∧ g.stepSince ≠ 0 ∧ g.stepSince + 65535 ≤ s.cycle ∧ s.canEnter gid then
    (s.interrupt gid).map fun u => u.takeTrap gid (some { kind := 17 })
  else none

/-! Segments and translations (R357, R358). -/

/-- A descriptor's reserved bits (R133). -/
def descReserved (w0 w1 : Nat) : Bool := bits w0 63 56 != 0 || bit w1 7 || bit w1 3

/-- Whether a descriptor that `segld` loads is invalid (R134, R357). -/
def State.badDescriptor (s : State) (w0 w1 : Nat) : Bool :=
  let g := s.me
  let x := segmentOf w0 w1
  let t := (s.task? g.task).getD { plan := 0, stage := 0, die := 0 }
  let priv := ((s.stageDesc t.plan t.stage).map StageDesc.privBlk).getD 0
  descReserved w0 w1 || segmentBad priv x || (x.space == 1 && decide (t.scratchSize < x.base + x.limit))

/-- A loaded descriptor as the group sees it (R310, R357). -/
def State.ownSegment (s : State) (x : Segment) : Segment :=
  let t := (s.task? s.me.task).getD { plan := 0, stage := 0, die := 0 }
  relocate t.scratchBase (((s.stageDesc t.plan t.stage).map fun d => d.privateBlock s.cur).getD 0) x

/-- `segld`: R357. -/
def segldBody (n : BitVec 3) (a : Reg) (g : BitVec 3) : Body := supervisorOnly (coreOnly (ordered fun s =>
  let gp := s.me
  let off := (gp.getS a.toNat).toNat
  if off % 16 ≠ 0 then illegal s
  else match s.checkAccess s.cur (s.asker gp) g.toNat (gp.seg s.cur g.toNat) { r := true } none off 16 with
    | .error x => .fault s x
    | .ok ps =>
      if !ps.all fun p => s.readable (.ask s.cur) p.addr then s.awaitReads
      else match readPlaces 0 (s.asker gp) ps s with
        | .error (_, t) => .fault (t.landAll (.ask t.cur))
            { kind := if ps.any fun p => s.readLost p.addr then 12 else 8, seg := some g.toNat, offset := off }
        | .ok (bs, t0) =>
          let t := t0.landAll (.ask t0.cur)
          let w0 := leNat (bs.take 8)
          let w1 := leNat (bs.drop 8)
          if t.badDescriptor w0 w1 then illegal t
          else .ok (t.setMe { gp with segs := gp.segs.put n.toNat (t.ownSegment (segmentOf w0 w1)) })))
def execSegld (m : Bool) (n : BitVec 3) (a : Reg) (g : BitVec 3) (st : State) : Out := issue m (segldBody n a g) st

/-- `tlbinv`: R358. -/
def tlbinvBody (a b : Reg) : Body := supervisorOnly fun s =>
  let v := (s.me.getS a.toNat).toNat
  let w := (s.me.getS b.toNat).toNat
  let scope := bits w 17 16
  if bits w 63 18 ≠ 0 then illegal s
  else match scope with
    | 0 => if bits v 63 56 ≠ 0 ∨ bits v 11 0 ≠ 0 then illegal s else .ok (s.shootDown s.cur 0 (bits w 15 0) (bits v 55 12))
    | 1 => if v ≠ 0 then illegal s else .ok (s.shootDown s.cur 1 (bits w 15 0) 0)
    | 2 => if v ≠ 0 ∨ bits w 15 0 ≠ 0 then illegal s else .ok (s.shootDown s.cur 2 0 0)
    | _ => illegal s
def execTlbinv (m : Bool) (a b : Reg) (st : State) : Out := issue m (tlbinvBody a b) st

/-- `tlbsync`: R358. -/
def tlbsyncBody : Body := supervisorOnly fun s => .wait s .tlbsync
def execTlbsync (m : Bool) (st : State) : Out := issue m tlbsyncBody st

/-- A shootdown completes (R144). -/
def State.tryTlbsync (s : State) (gid : Nat) : Option State :=
  if (s.group gid).wait = some .tlbsync then s.tryShootdown gid fun u => u.finishWait gid else none

/-! Contexts (R359 to R361). -/

/-- BASE of S(sb) as a physical offset, and the key. -/
def areaBase (v : Nat) : Nat := bits v 35 21 * 2 ^ 21

/-- The dies on which a plan holds cores, with how many. -/
def placedOn (cores : List Nat) : List (Nat × Nat) :=
  (List.range 16).filterMap fun d =>
    let n := (cores.filter fun c => dieOfCore c == d).length
    if n = 0 then none else some (d, n)

/-- The save area of a die: at most 2 MiB for each placed core, and 4 MiB (R359). -/
def areaSize (n : Nat) : Nat := n * 2 ^ 21 + 2 ^ 22

/-- A memory with the bytes from lo up replaced at once, in canonical form. -/
def memReplace (m : List Host.Cell) (lo : Nat) (bs : List Byte) : List Host.Cell :=
  m.filter (fun c => decide (c.1 < lo))
    ++ ((List.zip ((List.range bs.length).map (lo + ·)) bs).filter fun c => c.2 != 0)
    ++ m.filter fun c => decide (lo + bs.length ≤ c.1)

/-- The save layout is not architectural: every byte of a die's area takes a free value (log 4). -/
def State.scribble (s : State) (a n : Nat) : State :=
  let out (k : Nat) : Bool := decide (k < a) || decide (a + n ≤ k)
  { s with
    mem := memReplace s.mem a ((List.range n).map fun i => Config.freeByte (s.freeCtr + i))
    bad := s.bad.keep fun k _ => out k, byteKey := s.byteKey.keep fun k _ => out k, freeCtr := s.freeCtr + n }

/-- Copies 16 bytes from a slot's L2 position to a place, uncorrectable bytes as such (R360). -/
def State.spillSector (s : State) (who : Asker) (key src dst : Nat) : State :=
  let s1 := s.writePiece who key dst (s.bytes src 16)
  { s1 with bad := (List.range 16).foldl (fun m i => if s.isBad (src + i) 1 then m.put (dst + i) 1 else m) s1.bad }

/-- A resident slot spills to its position in the spill region (R225, R360); where the region cannot be reached, it stays
(log 30). -/
def State.spillSlot (s : State) (h n k : Nat) : State :=
  match s.pipe? h n with
  | none => s
  | some p => match p.slots.get? k with
    | none => s
    | some sl =>
      let who := s.planAsker h (2816 + p.home % 16)
      let leaves := (List.range (p.slotBytes / 16)).map fun i => (i, s.leafFor who false (p.spillVA k (16 * i)))
      let ok := leaves.all fun x => match x.2 with
        | .ok e => (s.leafDenies { w := true } e).isNone
        | .error _ => false
      if sl.loc = .refill then s.setPipe h n (p.setSlot k fun x => { x with loc := .spill, todo := [] })
      else if sl.loc ≠ .l2 ∨ !ok then s
      else
        let s1 := leaves.foldl (fun st x => match x.2 with
          | .ok e => st.spillSector who (leafKey e) (slotAddr h n sl.pos (16 * x.1)) (s.place e (p.spillVA k (16 * x.1)))
          | .error _ => st) s
        s1.setPipe h n (p.setSlot k fun x => { x with loc := .spill })

/-- Every resident slot of a plan spills, of the pipes with their home on this module. -/
def State.spillPlan (s : State) (h : Nat) : State :=
  (List.range 64).foldl (fun st n => match st.pipe? h n with
    | some p => if (s.homePlace p).isSome then st else p.slots.keys.foldl (fun u k => u.spillSlot h n k) st
    | none => st) s

/-- The places that a plan's resident slots spill to. -/
def State.spillPlaces (s : State) (h : Nat) : List Nat :=
  (List.range 64).flatMap fun n => match s.pipe? h n with
    | none => []
    | some p => if (s.homePlace p).isSome then [] else p.slots.flatMap fun x =>
        if x.2.loc ≠ .l2 then []
        else (List.range (p.slotBytes / 16)).filterMap fun i =>
          match s.leafFor (s.planAsker h (2816 + p.home % 16)) false (p.spillVA x.1 (16 * i)) with
          | .ok e => some (s.place e (p.spillVA x.1 (16 * i)))
          | .error _ => none

/-- Whether a stack that a plan's slots spill to retrains: a save waits for it (R361). -/
def State.spillWaits (s : State) (h : Nat) : Bool :=
  (s.spillPlaces h).any fun a => decide (a < hbmSize) && s.retrains (a / 2 ^ 36)

/-- The records of a stage in its die's queue, those on their way to it last (R251, R360). -/
def State.queuedOn (s : State) (d h x : Nat) : List Nat :=
  (s.die d).runq.getD (stageKey h x) [] ++ s.recordsOf h x (s.die d).firing.length (s.die d).firing

/-- A request enters a stack's deadline queue (R361). -/
def State.deadline (s : State) (gid d a n : Nat) : State :=
  s.setDie d { s.die d with deadline := (s.die d).deadline ++ [(gid, a, n)] }

/-- A stack serves the oldest request of its deadline queue, unless it retrains; one whose queue is empty begins the training that
has waited for it (R361). -/
def State.tryDeadlineServed (s : State) (d : Nat) : Option State :=
  match (s.die d).deadline with
  | [] => none
  | (_, a, n) :: rest =>
    if s.retrains d then none
    else
      let s1 := if s.stackDown d then s else s.scribble a n
      let s2 := s1.setDie d { s1.die d with deadline := rest }
      some (if rest.isEmpty && s.toRetrain d then (s2.stopUnit d .hbm 4).startUnit d .hbm 3 else s2)

/-- Whether a core works for a plan now: the teams resident on it are the plan's. -/
def Core.worksFor (k : Core) (h : Nat) : Bool := k.stage.any fun x => x.1 == h

/-- Whether every team of a plan can stop now (R360), with no multicast tile on its way into its cores but from entries that are
saved with it (log 77). -/
def State.canStop (s : State) (h : Nat) : Bool :=
  (s.coresFor h).all fun c => !(s.core c).worksFor h || ((s.core c).resident.all s.canHold && !s.delivering c (· != h))

/-- What a core's engines and queue hold. -/
def Core.engines (k : Core) : HeldCore := { queues := k.queues, ready := k.ready, streams := k.streams, runq := k.runq }

/-- What a core holds of a plan: its teams and engines, those below them where it is lent, or, where another plan has it on loan,
only what it keeps for its own stage (R315, R360). -/
def State.saveCore (s : State) (h c : Nat) : SavedCore :=
  let k := s.core c
  let own := k.lent.any fun x => x.1 == h
  if k.worksFor h then
    { core := c, stage := (k.stage.map Prod.snd).getD 0, lent := k.lent, lentDone := k.lentDone, moving := k.moving, held := k.engines
      below := if own then k.held else {}, saved := if k.lent.isNone || own then k.saved else [], resident := k.resident
      arborA := k.arborA, arborP := k.arborP }
  else { core := c, stage := (k.lent.map Prod.snd).getD 0, moving := k.moving, held := k.held, saved := k.saved }

/-- Lifts a plan off the module (R360). Each die's save area is a request of its stack's deadline queue (R361; log 86); the group
that issues it waits for them, and for the invalidation of its translations. -/
def State.savePlan (s : State) (h area key : Nat) (cores : List Nat) : State :=
  let mine (t : Nat) : Bool := (s.task? t).any fun r => r.plan == h
  let saved := cores.map (s.saveCore h)
  let s1 := saved.foldl (fun st c => c.resident.foldl State.holdTeam st) s
  let s2 := s1.spillPlan h
  let queues := (Map.keys s2.dies).flatMap fun d =>
    ((List.range 32).map fun x => (d, x, s2.queuedOn d h x)).filter fun q => !q.2.2.isEmpty
  let clusters := s2.clusters.map fun c => (c.1, c.2.runq.filter mine)
  let rec' : SavedPlan :=
    { area := area, key := key, cores := saved, runqs := queues, clusterqs := clusters, mvms := s2.mvms.keep fun _ m => m.plan == h }
  let s3 := { s2 with
    clusters := Map.mapVals (fun c => { c with runq := c.runq.filter fun t => !mine t }) s2.clusters
    dies := Map.mapVals (fun d => { d with
      runq := d.runq.keep fun k _ => k / 32 != h, firing := d.firing.filter fun t => !mine t }) s2.dies
    mvms := s2.mvms.keep fun _ m => m.plan != h }
  let s4 := cores.foldl (State.releaseCore h) (s3.forget fun f => match f with
    | .entry c _ => (s3.core c).worksFor h
    | .mvm op => (s2.mvms.get? op).any fun m => m.plan == h
    | .refill p _ => p == h
    | _ => false)
  let s5 := (placedOn cores).foldl (fun st x => st.deadline s.cur x.1 (x.1 * 2 ^ 36 + area) (areaSize x.2)) s4
  (s5.shootDown s.cur 1 (s.planAsker h).ctx 0).modPlan h fun p => { p with state := .saved, saved := some rec', waitingSince := none }

/-- The checks on S(sa) and S(sb) (R359). -/
def ctxOperandsBad (v w : Nat) : Bool := bits v 63 16 != 0 || bits w 63 36 != 0 || bits w 20 13 != 0

/-- Every area fits below 2^36 (R359). -/
def areaFits (area : Nat) (cores : List Nat) : Bool := (placedOn cores).all fun x => decide (area + areaSize x.2 ≤ 2 ^ 36)

/-- `ctxsave`: R359, R360. R359 does not order the statuses; 4, 5 and 6 go before 7 (log 87). -/
def ctxsaveBody (d a b : Reg) : Body := supervisorOnly (coreOnly (ordered fun s =>
  let h := (s.me.getS a.toNat).toNat
  let w := (s.me.getS b.toNat).toNat
  let cores := s.coresFor h
  if ctxOperandsBad h w then illegal s
  else match s.plan? h with
    | none => s.status d 5
    | some p =>
      if p.state ≠ .running ∨ s.me.plan = h then s.status d 4
      else if !areaFits (areaBase w) cores then s.status d 6
      else if !s.hasKey 63 (bits w 12 0) then s.status d 7
      else if !s.canStop h ∨ s.spillWaits h then .wait s .service
      else .wait (s.savePlan h (areaBase w) (bits w 12 0) cores) (.removal d.toNat)))
def execCtxsave (m : Bool) (d a b : Reg) (st : State) : Out := issue m (ctxsaveBody d a b) st

/-- A core that a saved plan left takes its teams, queues and streams again; one that another plan had lent is lent again (R315,
R360). -/
def State.restoreCore (s : State) (h : Nat) (x : SavedCore) : State :=
  let k := s.core x.core
  let other := x.lent.any fun y => y.1 != h
  let s1 := s.setCore x.core { k with
    stage := some (h, x.stage), lent := if other then some (k.stage.getD (0, 0)) else x.lent, lentDone := x.lentDone
    moving := if other then none else x.moving, held := if other then k.engines else x.below
    queues := x.held.queues, ready := x.held.ready, runq := x.held.runq, saved := x.saved, resident := []
    streams := Map.mapVals (fun y => { y with since := s.cycle }) x.held.streams, arborA := x.arborA, arborP := x.arborP }
  x.resident.foldl (fun st tid => match st.task? tid with
    | some t => st.resumeTeam x.core tid t
    | none => st) s1

/-- Puts a saved plan back, and evaluates its patterns, each once what its die's join unit has noted before is done (R253, R360). -/
def State.restorePlan (s : State) (h : Nat) (x : SavedPlan) : State :=
  let s1 := x.cores.foldl (fun st c => st.restoreCore h c) (s.modPlan h fun p => { p with state := .running, saved := none })
  let s2 := x.runqs.foldl (fun st q => st.toDieQueue q.1 (stageKey h q.2.1) q.2.2) s1
  let s3 := x.clusterqs.foldl (fun st q => st.setCluster q.1 { st.cluster q.1 with runq := (st.cluster q.1).runq ++ q.2 }) s2
  let s4 := { s3 with mvms := x.mvms.foldl (fun (m : Map Mvm) (y : Nat × Mvm) => Map.put y.1 y.2 m) s3.mvms }
  ((s4.patterns.filter fun (q : Nat × Pattern) => q.2.plan == h).map Prod.fst).foldl
    (fun st key => State.evalPattern key 2048 (st.settled (dieOfPattern key))) s4

/-- Whether a core that a saved plan left can take its teams again: it is free, or, where another plan had lent it, idle. -/
def State.canReturn (s : State) (h : Nat) (x : SavedCore) : Bool :=
  let k := s.core x.core
  s.coreFree x.core || ((x.lent.any fun y => y.1 != h) && k.lent.isNone && k.saving.isNone && k.moving.isNone && k.saved.isEmpty
    && k.resident.isEmpty && !k.outOfService)

/-- Whether the cores, slots and L2 quota that a saved plan left are free. -/
def State.placesFree (s : State) (h : Nat) (p : Plan) (x : SavedPlan) : Bool :=
  x.cores.all (fun c => s.canReturn h c && c.resident.all fun tid => match s.task? tid with
      | some t => t.held.keys.all fun g => !s.groups.has g
      | none => true)
    && decide (s.plans.foldl (fun n q => if q.2.state == .saved then n else n + q.2.l2quota) p.l2quota ≤ 96 * 1024)

/-- `ctxrest`: R359, R360. It waits while a stack that it reads an area of retrains (R361). An area or key other than those of the save is an unreadable area (log 31). -/
def ctxrestBody (d a b : Reg) : Body := supervisorOnly (coreOnly (ordered fun s =>
  let h := (s.me.getS a.toNat).toNat
  let w := (s.me.getS b.toNat).toNat
  if ctxOperandsBad h w then illegal s
  else match s.plan? h with
    | none => s.status d 5
    | some p => match p.saved with
      | none => s.status d 4
      | some x =>
        let dies := placedOn (x.cores.map SavedCore.core)
        if s.me.plan = h ∨ p.state ≠ .saved then s.status d 4
        else if areaBase w = x.area ∧ (dies.any fun y => s.retrains y.1) then .wait s .service
        else if areaBase w ≠ x.area ∨ (dies.any fun y => s.isBad (y.1 * 2 ^ 36 + x.area) (areaSize y.2)) then s.status d 6
        else if !s.hasKey 63 (bits w 12 0) then s.status d 7
        else if bits w 12 0 ≠ x.key then s.status d 6
        else if !s.placesFree h p x then s.status d 1
        else (s.restorePlan h x).status d 0))
def execCtxrest (m : Bool) (d a b : Reg) (st : State) : Out := issue m (ctxrestBody d a b) st

/-- R144, R358. -/
def execTlbsyncComplete (gid : Nat) (st : State) : Out := event st (st.tryTlbsync gid)

/-- R353 to R356. -/
def execTrapEntry (gid : Nat) (st : State) : Out := event st (st.tryTrapEntry gid)

/-- R356. -/
def execStepBlockTimeout (gid : Nat) (st : State) : Out := event st (st.tryStepTimeout gid)

end Sys2Proof.Machine
end

