-- ==== Sys2Proof/Machine/Bringup.lean ====
section
/-!
DEFINITION. Bring-up, power and the control processors' surroundings (R365 to R386): the steps of stores to control space,
the ends of trainings and tests, power on and off.
-/

namespace Sys2Proof.Machine

/-- A control processor's store to control space that is a given step; the flash takes one word at a time. -/
def State.isCtlStep (s : State) (act : CtlAct) : Access → Bool
  | .ctlStore a _ v => match ctlAt a with
    | some r => s.ctlAct (a / 2 ^ 24) r v == act && (act != .flash || s.flashBusy.isNone)
    | none => false
  | _ => false

/-- The next access of a control processor, a store to control space, takes effect (R367). -/
def State.tryCtl (s : State) (gid : Nat) (act : CtlAct) : Option State := s.tryPerform gid (s.isCtlStep act)

/-- A register with bits of a mask set. -/
def State.orReg (s : State) (die : Nat) (r : CtlReg) (m : Nat) : State := s.setReg die r (s.reg die r ||| m)

/-- Rails (R370, R375): a rail that is on reports GOOD; a die has its units with rails 0 and 1, its stack with 2 and 3. -/
def State.tryRailGood (s : State) (d r : Nat) : Option State :=
  if 4 ≤ r ∨ !s.runsUnit d .rail r ∨ s.expired d .rail r (2 ^ 20) then none
  else
    let s1 := (s.orReg d .rail (2 ^ (4 + r))).stopUnit d .rail r
    let s2 := if bits (s1.reg d .rail) 5 4 = 3 then s1.setDie d { s1.die d with off := false } else s1
    some (if bits (s1.reg d .rail) 7 6 = 3 then s2.setDie d { s2.die d with stackOff := false } else s2)

/-- A stack is out of service for the rest of the start (R381). -/
def State.dropStack (s : State) (d : Nat) : State := { s with stackOut := s.stackOut ||| 2 ^ d }

/-- A compute die loses its rails for the rest of the start: it fails step 1 as a unit, its stack with it (R371, R386). -/
def State.failDie (s : State) (d : Nat) : State := ((s.setReg d .rail 0).dieDown d).dropStack d

/-- A rail misses its limit: the die's step 1, or the stack's step 5, fails (R371, R375). -/
def State.tryRailExpiry (s : State) (d r : Nat) : Option State :=
  if 4 ≤ r ∨ !s.expired d .rail r (2 ^ 20) then none
  else
    let s1 := s.stopUnit d .rail r
    some (if r < 2 then s1.failDie d else s1.dropStack d)

/-- INIT ends: DONE; the error counts are clear (R375, R385). -/
def State.tryInitDone (s : State) (d : Nat) : Option State :=
  if !s.runsUnit d .hbm 0 || s.expired d .hbm 0 (2 ^ 20) then none
  else some { (s.orReg d .hbm (maskBits 4 4)).stopUnit d .hbm 0 with bankErrors := s.bankErrors.keep fun k _ => k / 1024 != d }

/-- An entry of the previous start's record, of one unit, in the copy that the ROM made of it (R379, R381). -/
def State.copiedEntry (s : State) (step unit : Nat) : Option Nat :=
  ((List.range 64).map fun i => s.num (sramAddr 16 (0x3F000 + 8 * i)) 8).find? fun e => bits e 3 0 == step && bits e 63 48 == unit

/-- Whether R381 runs a unit under its alternative. -/
def takesAlternative (p : Option Nat) : Bool :=
  match p with
  | none => false
  | some e => bits e 11 8 == 3 || ((bits e 11 8 == 0 || bits e 11 8 == 2) && bits e 7 4 == 1)

/-- Whether a rate is the final one of a stack: 12.8 Gb/s, or 9.6 where the stack runs under its alternative (R382, R383). -/
def State.finalRate (s : State) (d rate : Nat) : Bool := rate == 2 || (rate == 1 && takesAlternative (s.copiedEntry 5 d))

/-- Training ends with DONE and LANEFIX (R375, R383, R384). -/
def State.tryTrainDone (s : State) (d lanes : Nat) : Option State :=
  if !s.runsUnit d .hbm 3 || s.expired d .hbm 3 (2 ^ 22) then none
  else
    let v := s.reg d .hbm
    let s1 := (s.setReg d .hbm (putBits v 15 8 lanes ||| maskBits 4 4)).stopUnit d .hbm 3
    some (if s.finalRate d (bits v 2 1) then { s1 with fullMask := s1.fullMask ||| 2 ^ d } else s1)

/-- INIT or training misses its limit: FAIL. A stack that serves goes on at its last rate, and is not trained at its final rate
again; another is out of service (R375, R381, R384). -/
def State.tryTrainExpiry (s : State) (d : Nat) : Option State :=
  if !(s.expired d .hbm 0 (2 ^ 20) || s.expired d .hbm 3 (2 ^ 22)) then none
  else
    let s1 := ((s.orReg d .hbm (maskBits 5 5)).stopUnit d .hbm 0).stopUnit d .hbm 3
    some (if bit (s.reg d .hbm) 16 then { s1 with rateFailed := s1.rateFailed ||| 2 ^ d } else s1.dropStack d)

/-- A mode-register read completes (R385). -/
def State.tryMrDone (s : State) (d : Nat) : Option State :=
  if !s.runsUnit d .mr 0 then none
  else
    let v := s.reg d .mr
    let m := bits v 7 0
    let n := if 64 ≤ m ∧ m < 80 then s.bankErrors.getD (((d * 32 + bits v 37 33) * 2 + bits v 32 32) * 16 + (m - 64)) 0 else 0
    some ((s.setReg d .mr (putBits v 47 40 n ||| maskBits 39 39)).stopUnit d .mr 0)

/-- A word is corrected: its bank's count rises, saturating at 255 (R385). -/
def State.corrected (s : State) (bank : Nat) : State :=
  { s with bankErrors := s.bankErrors.put bank (min 255 (s.bankErrors.getD bank 0 + 1)) }

/-- A link trains when both its ends are set (R376). -/
def State.tryUcieDone (s : State) (d e : Nat) : Option State :=
  let x := ucieEnd d e
  if !s.runsUnit d (.ucie e) 0 || !s.runsUnit x.1 (.ucie x.2) 0 || s.expired d (.ucie e) 0 (2 ^ 21)
      || s.expired x.1 (.ucie x.2) 0 (2 ^ 21) then none
  else some ((((s.orReg d (.ucie e) 2).orReg x.1 (.ucie x.2) 2).stopUnit d (.ucie e) 0).stopUnit x.1 (.ucie x.2) 0)

/-- A unit whose polled limit expires shows FAIL at a bit (R370, R376). -/
def State.tryFail (s : State) (d : Nat) (r : CtlReg) (n : Nat) : Option State :=
  if s.expired d r 0 n then some ((s.orReg d r (maskBits 2 2)).stopUnit d r 0) else none

def State.tryPcieDone (s : State) : Option State :=
  if s.runsUnit 16 .pcie 0 ∧ !s.expired 16 .pcie 0 (2 ^ 24) then some ((s.orReg 16 .pcie 2).stopUnit 16 .pcie 0) else none

/-- The UAL_CTL register of a module port. -/
def ualDie (p : Nat) : Nat := 16 + p / 24
def ualReg (p : Nat) : CtlReg := .ual (p % 24)

/-- A port trains, and its switch reports the port's index; a switch that was lost returns empty (R325, R342, R377). A fenced
port does not train (R382); one that trains when others serve already, to another index than the device id, is retired. -/
def State.tryUalDone (s : State) (p peer : Nat) : Option State :=
  if 48 ≤ p ∨ s.fenced 6 p ∨ !s.runsUnit (ualDie p) (ualReg p) 0 ∨ s.expired (ualDie p) (ualReg p) 0 (2 ^ 20) then none
  else
    let s1 := (s.setReg (ualDie p) (ualReg p) (putBits (s.reg (ualDie p) (ualReg p)) 14 8 peer ||| 2)).stopUnit (ualDie p) (ualReg p) 0
    let u := (s1.ual p).dropStalled
    let s2 := s1.setUal p { u with
      trained := true, everTrained := true, retired := false, peerIdx := peer % 128, lastGood := s.cycle, sentAt := s.cycle
      retrainSince := none, replay := [], resend := [], flights := [], owed := 0, nakAck := none, nakDue := false, failedReplays := 0
      level := if u.everTrained then u.level else 0 }
    let s3 := if (s.switch p).lost then s2.switchReturns p else s2
    some (if s.uals.any fun x => x.2.serve then s3.retireOthers else s3)

/-- A port that does not train is dead (R376). -/
def State.tryUalExpiry (s : State) (p : Nat) : Option State :=
  if 48 ≤ p then none else (s.tryFail (ualDie p) (ualReg p) (2 ^ 20)).map fun u => u.killPort p

/-- The Arbor test ends (R378). -/
def State.tryArbDone (s : State) (bad : Nat) : Option State :=
  if !s.runsUnit 16 .arbCmd 0 then none
  else
    let v := s.reg 16 .arbTest
    let n := (bad % 2 ^ 32) - ((bad % 2 ^ 32) &&& (v % 2 ^ 32))
    some (((s.setReg 16 .arbTest (putBits v 63 32 n)).orReg 16 .arbCmd (2 + if n = 0 then 0 else 4)).stopUnit 16 .arbCmd 0)

/-- Step 10 has ended: every cluster that is not out of service has been tested (R378). -/
def State.coresTested (s : State) : Bool :=
  (List.range 352).all fun c => s.dieOut (c / 22) || s.clusterFenced c || bit (s.reg (c / 22) (.core (c % 22))) 1

/-- A cluster's core test ends; when the last one has, and every stack serves, the module serves (R378, R381, R384). -/
def State.tryCoreDone (s : State) (d c mask : Nat) : Option State :=
  if 22 ≤ c ∨ 16 ≤ d ∨ !s.runsUnit d (.core c) 0 then none
  else
    let m := mask % 256
    let s1 := (s.setReg d (.core c) (putBits (s.reg d (.core c)) 23 16 m ||| (2 + if m = 0 then 0 else 4))).stopUnit d (.core c) 0
    let k := d * 22 + c
    let s2 := if m = 0 then s1 else s1.setCluster k { s1.cluster k with outOfService := true }
    some (if s2.coresTested && s2.stacksServe && !s2.serving then { s2 with serving := true, bootStep := 11 } else s2)

/-- The march test ends: 32 spares replace failing banks; with more, the Orangery is out of service (R378, R382). -/
def State.tryOrgDone (s : State) (d banks : Nat) : Option State :=
  if 16 ≤ d ∨ !s.runsUnit d .orgTest 0 then none
  else
    let s1 := (s.setReg d .orgTest (putBits (s.reg d .orgTest) 47 32 (min banks 32) ||| (2 + if banks ≤ 32 then 0 else 4))).stopUnit d .orgTest 0
    some (if banks ≤ 32 then s1 else s1.setDie d { s1.die d with orangeryOut := true })

/-- The flash word is stored, and its writer goes on (R370). -/
def State.tryWordStored (s : State) : Option State :=
  match s.flashBusy with
  | none => none
  | some (off, v, who) =>
    let s1 := { s.writeNum (flashAddr off) 8 v with flashBusy := none }
    some (if (s1.group who).wait = some .flash then s1.finishWait who else s1)

/-- THROTTLE := n (R386). -/
def State.throttle (s : State) (n : Nat) : State := s.setReg 16 .cap (putBits (s.reg 16 .cap) 19 16 n)

/-- Whether a die above 105 °C forces the throttle. -/
def State.hot (s : State) : Bool := s.dies.any fun d => d.2.overTemp

/-- Every 65,536 cycles THROTTLE moves one step toward the level that holds the module at CAP: `target`, which the
module's power decides (R386). -/
def State.tryCapCheck (s : State) (target : Nat) : Option State :=
  let t := bits (s.reg 16 .cap) 19 16
  if 15 < target ∨ s.cycle < s.powerCheckedAt + 65536 then none
  else some ({ s with powerCheckedAt := s.cycle }.throttle
    (if s.hot then 15 else if t < target then t + 1 else if target < t then t - 1 else t))

/-- A die's temperature passes a mark, in °C (R386). -/
def State.tryTemperature (s : State) (d temp : Nat) : Option State :=
  if 18 ≤ d then none
  else if 115 < temp then
    let s1 := if d < 16 then s.failDie d else s.dieDown d
    some ((s1.setDie d { s1.die d with overTemp := true }).throttle 15)
  else if 105 < temp then some ((s.setDie d { s.die d with overTemp := true }).throttle 15)
  else if (s.die d).overTemp then some (s.setDie d { s.die d with overTemp := false })
  else none

/-! Power on (R371 to R374, R381) and its loss. -/

/-- Flash bytes. -/
def State.flashNum (s : State) (off n : Nat) : Nat := s.num (flashAddr off) n

/-- An entry of the boot record (R380). -/
def bootEntry (unit alt outcome attempt step : Nat) : Nat :=
  unit * 2 ^ 48 + alt * 2 ^ 16 + outcome * 2 ^ 8 + attempt * 2 ^ 4 + step

/-- The previous start's entry of a step as a whole, from the record in flash (R379, R381). -/
def State.previousEntry (s : State) (step : Nat) : Option Nat :=
  ((List.range (min 64 (s.flashNum 0 1))).map fun i => s.flashNum (0x40 + 8 * i) 8).find? fun e =>
    bits e 3 0 == step && bits e 63 48 == 0xFFFF

/-- The image at a flash offset is accepted (R372, R373). -/
def State.imageGood (s : State) (at' : Nat) : Bool :=
  let w0 := s.flashNum at' 8
  let len := bits w0 31 0
  let slot := bits w0 39 32
  let entry := s.flashNum (at' + 16) 8
  let key := s.bytes (flashAddr (at' + 64)) 64
  bits w0 63 40 == 0 && len % 64 == 0 && decide (len ≤ 196608) && decide (slot < 4) && entry % 4 == 0 && decide (entry < len)
    && (List.range 5).all (fun i => s.flashNum (at' + 24 + 8 * i) 8 == 0)
    && shake256 key 32 == s.bytes (fuseAddr (32 * slot)) 32 && !bit (s.num (fuseAddr 128) 1) slot
    && decide (s.num (fuseAddr 136) 8 ≤ s.flashNum (at' + 8) 8)
    && Config.verify key (s.bytes (flashAddr at') (128 + len)) (s.bytes (flashAddr (at' + 128 + len)) 29792)

/-- Power sequencing (R371): the rails of the compute dies that reach GOOD. -/
def State.sequence (s : State) (rails : Nat) : State :=
  (List.range 16).foldl (fun st d =>
    if bit rails d then st.setReg d .rail 0x33 else st.failDie d) s

/-- The boot ROM (R371, R381): control SRAM zeroed, BOOTS raised, the previous record copied, step 4's entry begun. -/
def State.bootRom (s : State) : State :=
  let s1 := { s with mem := s.mem.filter fun c => decide (c.1 < sramAddr 16 0) || decide (sramAddr 17 0 ≤ c.1) }
  let s2 := s1.writeNum (flashAddr 4) 4 ((s.flashNum 4 4 + 1) % 2 ^ 32)
  s2.write (sramAddr 16 0x3F000) (s.bytes (flashAddr 0x40) 512)

/-- Step 4 in the ROM (R371, R373, R381): the image of slot A, or of B, is verified, measured, loaded and entered. -/
def State.bootImage (s : State) (prev : Option Nat) : State :=
  let alt := takesAlternative prev
  let at' := if alt then 0x200000 else 0x10000
  let entry (st : State) (outcome : Nat) : State :=
    (st.writeNum (flashAddr 0x40) 8 (bootEntry 0xFFFF (if alt then 9 else 0) outcome (if alt then 2 else 1) 4)).writeNum (flashAddr 0) 1 1
  let s1 := (entry s 0).extend 0 (s.bytes (fuseAddr 0) 144)
  if !s1.imageGood at' then { entry s1 (if alt then 4 else 2) with poweredOff := true, smbusStep := 4 }
  else
    let len := bits (s1.flashNum at' 8) 31 0
    let s2 := (s1.write (sramAddr 16 0) (s1.bytes (flashAddr (at' + 128)) len)).extend 1 (s1.bytes (flashAddr at') (128 + len))
    let g := s2.group (cpGid 16)
    (s2.setReg 16 .cp 1).setGroup (cpGid 16) { g.afresh with pc := s1.flashNum (at' + 16) 8 }

/-- Power-on reset (R371): `rails` are the compute dies whose rails reach GOOD in time, `failed` the step of 1 to 3 that
fails as a whole, or 0. -/
def State.tryPowerOn (s : State) (rails failed : Nat) : Option State :=
  if s.power ∨ 3 < failed then none
  else
    let s1 := { s with power := true, bootStep := 4 }
    some (if failed ≠ 0 then { s1 with poweredOff := true, smbusStep := failed }
      else ((s1.sequence rails).bootRom).bootImage (s.previousEntry 4))

/-- What a loss of supply leaves: flash and fuses, and what lies outside the module (R332, R381). -/
def keptWithoutPower (a : Nat) : Bool :=
  (decide (flashAddr 0 ≤ a) && decide (a < fuseAddr 1024)) || decide (2 ^ 46 ≤ a)

/-- The module's supply is lost (R381): everything else is as after reset. -/
def State.tryPowerLoss (s : State) : Option State :=
  if !s.power then none
  else some { State.reset with
    tape := s.tape, switches := s.switches, freeCtr := s.freeCtr, hostReply := s.hostReply
    mem := s.mem.filter fun c => keptWithoutPower c.1
    bad := s.bad.keep fun k _ => keptWithoutPower k
    byteKey := s.byteKey.keep fun k _ => keptWithoutPower k
    keys := s.keys.keep fun k _ => decide (k / 8192 < 48) }

/-- Firmware sets the PC of a stopped control processor to its image's ENTRY (R373; log 25). -/
def State.cpEntry (s : State) (die pc : Nat) : Option State :=
  if 18 ≤ die ∨ s.cpRuns die ∨ pc % 4 ≠ 0 then none
  else some (s.setGroup (cpGid die) { (s.group (cpGid die)).afresh with pc := pc })

/-- Firmware draws 64 bytes from the entropy source into its SRAM (R374; log 25). -/
def State.drawEntropy (s : State) (off : Nat) : Option State :=
  if 2 ^ 18 < off + 64 then none
  else some { s.write (sramAddr 16 off) ((List.range 64).map fun i => Config.entropy (s.freeCtr + i)) with freeCtr := s.freeCtr + 64 }

/-- R367, R368, R370. -/
def execControlRegWrite (gid : Nat) (st : State) : Out := event st (st.tryCtl gid .plain)

/-- R370, R375. -/
def execRailEnable (gid : Nat) (st : State) : Out := event st (st.tryCtl gid .rail)

/-- R365, R370. -/
def execCpRun (gid : Nat) (st : State) : Out := event st (st.tryCtl gid .cpRun)

/-- R375. -/
def execHbmInit (gid : Nat) (st : State) : Out := event st (st.tryCtl gid .hbmInit)

/-- R375. -/
def execHbmTrain (gid : Nat) (st : State) : Out := event st (st.tryCtl gid .hbmTrain)

/-- R375. -/
def execHbmServe (gid : Nat) (st : State) : Out := event st (st.tryCtl gid .hbmServe)

/-- R385. -/
def execHbmMrGo (gid : Nat) (st : State) : Out := event st (st.tryCtl gid .mrGo)

/-- R376. -/
def execUcieTrain (gid : Nat) (st : State) : Out := event st (st.tryCtl gid .ucieTrain)

/-- R376. -/
def execPcieTrain (gid : Nat) (st : State) : Out := event st (st.tryCtl gid .pcieTrain)

/-- R376. -/
def execCxlEnable (gid : Nat) (st : State) : Out := event st (st.tryCtl gid .cxl)

/-- R376. -/
def execUalTrain (gid : Nat) (st : State) : Out := event st (st.tryCtl gid .ualTrain)

/-- R376, R377. -/
def execUalServe (gid : Nat) (st : State) : Out := event st (st.tryCtl gid .ualServe)

/-- R378. -/
def execArbTestGo (gid : Nat) (st : State) : Out := event st (st.tryCtl gid .arbGo)

/-- R378. -/
def execCoreTestGo (gid : Nat) (st : State) : Out := event st (st.tryCtl gid .coreGo)

/-- R378. -/
def execOrgTestGo (gid : Nat) (st : State) : Out := event st (st.tryCtl gid .orgGo)

/-- R370. -/
def execFlashProgram (gid : Nat) (st : State) : Out := event st (st.tryCtl gid .flash)

/-- R370. -/
def execCpHaltqRead (gid : Nat) (st : State) : Out := event st (st.tryPerform gid Access.isHaltq)

/-- R375. -/
def execRailGood (d r : Nat) (st : State) : Out := event st (st.tryRailGood d r)

/-- R371, R375. -/
def execRailLimitExpiry (d r : Nat) (st : State) : Out := event st (st.tryRailExpiry d r)

/-- R375. -/
def execHbmInitDone (d : Nat) (st : State) : Out := event st (st.tryInitDone d)

/-- R375, R384. -/
def execHbmTrainDone (d lanes : Nat) (st : State) : Out := event st (st.tryTrainDone d lanes)

/-- R375, R381. -/
def execHbmTrainLimitExpiry (d : Nat) (st : State) : Out := event st (st.tryTrainExpiry d)

/-- R385. -/
def execHbmMrDone (d : Nat) (st : State) : Out := event st (st.tryMrDone d)

/-- R376. -/
def execUcieTrainDone (d e : Nat) (st : State) : Out := event st (st.tryUcieDone d e)

/-- R376. -/
def execUcieTrainLimitExpiry (d e : Nat) (st : State) : Out := event st (st.tryFail d (.ucie e) (2 ^ 21))

/-- R376. -/
def execPcieTrainDone (st : State) : Out := event st st.tryPcieDone

/-- R376. -/
def execPcieTrainLimitExpiry (st : State) : Out := event st (st.tryFail 16 .pcie (2 ^ 24))

/-- R376, R377. -/
def execUalTrainDone (p peer : Nat) (st : State) : Out := event st (st.tryUalDone p peer)

/-- R376. -/
def execUalTrainLimitExpiry (p : Nat) (st : State) : Out := event st (st.tryUalExpiry p)

/-- R378. -/
def execArbTestDone (bad : Nat) (st : State) : Out := event st (st.tryArbDone bad)

/-- R378, R384. -/
def execCoreTestDone (d c mask : Nat) (st : State) : Out := event st (st.tryCoreDone d c mask)

/-- R378. -/
def execOrgTestDone (d banks : Nat) (st : State) : Out := event st (st.tryOrgDone d banks)

/-- R370. -/
def execFlashWordStored (st : State) : Out := event st st.tryWordStored

/-- R371. -/
def execPowerOn (rails failed : Nat) (st : State) : Out := event st (st.tryPowerOn rails failed)

/-- R386. -/
def execPowerCapCheck (target : Nat) (st : State) : Out := event st (st.tryCapCheck target)

/-- R386. -/
def execDieOvertemp (d temp : Nat) (st : State) : Out := event st (st.tryTemperature d temp)

/-- R381. -/
def execPowerLoss (st : State) : Out := event st st.tryPowerLoss

end Sys2Proof.Machine
end

