-- ==== Sys2Proof/Machine/Special.lean ====
section
/-!
DEFINITION. The functions of the special-function unit, exact enough to be rounded once (R123): quotients and roots by
integer arithmetic, the transcendental functions by fixed-point series of 448 fraction bits.
-/

namespace Sys2Proof.Machine

/-- Integer square root by one bit a turn: `r` is the root so far, `b` the place of the next bit. -/
def isqrtFrom (n : Nat) : Nat → Nat → Nat
  | 0, r => if (r + 1) * (r + 1) ≤ n then r + 1 else r
  | b + 1, r =>
    let r' := r + 2 ^ (b + 1)
    isqrtFrom n b (if r' * r' ≤ n then r' else r)

/-- floor of the square root. -/
def isqrt (n : Nat) : Nat := isqrtFrom n ((bitLen n + 1) / 2) 0

/-- The quotient of two nonzero magnitudes, exact but for a sticky remainder. -/
def divNum (neg : Bool) (m1 : Nat) (e1 : Int) (m2 : Nat) (e2 : Int) : Exact :=
  let k := 64 + bitLen m2
  .num neg (m1 * 2 ^ k / m2) (e1 - e2 - k) (m1 * 2 ^ k % m2 != 0)

/-- a / b (R123). -/
def divExact (a b : Fp) : Exact :=
  match a, b with
  | .nan s, y => .nan (s || y.isSNan)
  | x, .nan s => .nan (s || x.isSNan)
  | .inf _, .inf _ => .nan true
  | .inf n1, .fin n2 _ _ => .inf (n1 != n2) false
  | .fin n1 _ _, .inf n2 => .num (n1 != n2) 0 0 false
  | .fin n1 m1 e1, .fin n2 m2 e2 =>
    if m2 = 0 then if m1 = 0 then .nan true else .inf (n1 != n2) true
    else if m1 = 0 then .num (n1 != n2) 0 0 false
    else divNum (n1 != n2) m1 e1 m2 e2

/-- The square root of m × 2^e for m ≠ 0. -/
def sqrtNum (m : Nat) (e : Int) : Exact :=
  let k : Nat := if e % 2 = 0 then 128 else 129
  let x := m * 2 ^ k
  .num false (isqrt x) ((e - k) / 2) (isqrt x * isqrt x != x)

/-- The reciprocal square root of m × 2^e for m ≠ 0. -/
def rsqrtNum (m : Nat) (e : Int) : Exact :=
  let k : Nat := 2 * (64 + bitLen m) + (if e % 2 = 0 then 0 else 1)
  let x := 2 ^ k / m
  .num false (isqrt x) ((-e - k) / 2) (isqrt x * isqrt x * m != 2 ^ k)

/-- Fraction bits of the fixed-point series. -/
def fracBits : Nat := 448

def fixOne : Nat := 2 ^ fracBits

/-- Σ z^(2k+1) / (2k+1) in fixed point, the terms alternating in sign for atan. `p` is the next power of z. -/
def oddSeries (alt : Bool) (z2 : Nat) : Nat → Nat → Nat → Int
  | 0, _, _ => 0
  | n + 1, k, p =>
    let t : Int := (p / (2 * k + 1) : Nat)
    (if alt && k % 2 == 1 then -t else t) + oddSeries alt z2 n (k + 1) (p * z2 / fixOne)

/-- atanh of a fixed-point number of at most 1/3. -/
def fixAtanh (z : Nat) : Nat := (oddSeries false (z * z / fixOne) 150 0 z).toNat

/-- atan(1/d). -/
def fixAtanInv (d : Nat) : Nat := (oddSeries true (fixOne / (d * d)) 110 0 (fixOne / d)).toNat

def fixLn2 : Nat := 2 * fixAtanh (fixOne / 3)

/-- 2π by Machin's formula. -/
def fixTwoPi : Nat := 32 * fixAtanInv 5 - 8 * fixAtanInv 239

/-- Σ y^k / k! in fixed point; `t` is the next term. -/
def expSeries (y : Nat) : Nat → Nat → Nat → Nat
  | 0, _, _ => 0
  | n + 1, k, t => t + expSeries y n (k + 1) (t * y / fixOne / (k + 1))

/-- e^y for a fixed-point y below 1. -/
def fixExp (y : Nat) : Nat := expSeries y 100 0 fixOne

/-- Σ (−1)^k x^(2k) / ((2k + s)!/s!) in fixed point: s = 0 gives cos x, s = 1 gives sin x / x. -/
def circSeries (x2 s : Nat) : Nat → Nat → Int → Int
  | 0, _, _ => 0
  | n + 1, k, t => t + circSeries x2 s n (k + 1) (-(t * x2 / fixOne / (((2 * k + 1 + s) * (2 * k + 2 + s) : Nat) : Int)))

/-- An inexact magnitude of a series: its last 32 bits are given up to the sticky rest. -/
def approx (neg : Bool) (m : Nat) (e : Int) : Exact := .num neg (m / 2 ^ 32) (e + 32) true

/-- 2^(± m × 2^e). -/
def exp2Num (neg : Bool) (m : Nat) (e : Int) : Exact :=
  if m = 0 then .num false 1 0 false
  else if topExp m e ≥ 9 then .num false 1 (if neg then -600 else 600) true
  else
    let x : Int := (shiftInt m (e + fracBits) : Nat)
    let y := if neg then -x else x
    let n := y / fixOne
    let f := (y % fixOne).toNat
    if f = 0 then .num false 1 n false
    else approx false (fixExp (f * fixLn2 / fixOne)) (n - fracBits)

/-- log2 (m × 2^e) for m ≠ 0. -/
def log2Num (m : Nat) (e : Int) : Exact :=
  let ex := topExp m e
  let f := m * fixOne / 2 ^ (bitLen m - 1)
  if f = fixOne then .num (decide (ex < 0)) ex.natAbs 0 false
  else
    let l := 2 * fixAtanh ((f - fixOne) * fixOne / (f + fixOne))
    let t : Int := ex * fixOne + (l * fixOne / fixLn2 : Nat)
    approx (decide (t < 0)) t.natAbs (-(fracBits : Int))

/-- sin(2π t) for t = n / 2^k, 0 < t ≤ 1/8. -/
def sinTurn (neg : Bool) (n k : Nat) : Exact :=
  let x := n * fixTwoPi / 2 ^ k
  let sc := (circSeries (x * x / fixOne) 1 60 0 fixOne).toNat
  approx neg (n * fixTwoPi * sc) (-(k : Int) - 2 * fracBits)

/-- cos(2π t) for t = n / 2^k, 0 < t ≤ 1/8. -/
def cosTurn (neg : Bool) (n k : Nat) : Exact :=
  let x := n * fixTwoPi / 2 ^ k
  approx neg (circSeries (x * x / fixOne) 0 60 0 fixOne).toNat (-(fracBits : Int))

/-- The sine (or, with `isCos`, the cosine) of a quadrant's t = n / 2^k with 0 ≤ t < 1/4. -/
def quadrant (isCos neg zneg : Bool) (n k : Nat) : Exact :=
  if n = 0 then if isCos then .num neg 1 0 false else .num zneg 0 0 false
  else
    let n' := if 8 * n ≤ 2 ^ k then n else 2 ^ (k - 2) - n
    if (8 * n ≤ 2 ^ k) = isCos then cosTurn neg n' k else sinTurn neg n' k

/-- sin(2πa) for a = ± m × 2^e, m ≠ 0; an exact zero has the sign of a. -/
def sinNum (neg : Bool) (m : Nat) (e : Int) : Exact :=
  if -1 ≤ e then .num neg 0 0 false
  else
    let k := (-e).toNat
    let r := m % 2 ^ k
    let q := r / 2 ^ (k - 2)
    quadrant (q % 2 == 1) (neg != decide (2 ≤ q)) neg (r % 2 ^ (k - 2)) k

/-- cos(2πa) for a = ± m × 2^e, m ≠ 0; an exact zero is +0. -/
def cosNum (m : Nat) (e : Int) : Exact :=
  if -1 ≤ e then .num (m * 2 ^ (e + 1).toNat % 2 == 1) 1 0 false
  else
    let k := (-e).toNat
    let r := m % 2 ^ k
    let q := r / 2 ^ (k - 2)
    quadrant (q % 2 == 0) (q == 1 || q == 2) false (r % 2 ^ (k - 2)) k

/-- tanh of ± m × 2^e, m ≠ 0. A small argument gives a value just below it, a large one a value just below 1; in both
cases nearer than any rounding boundary. -/
def tanhNum (neg : Bool) (m : Nat) (e : Int) : Exact :=
  let t := topExp m e
  if t < -20 then .num neg (m * 2 ^ 40 - 1) (e - 40) true
  else if 5 ≤ t then .num neg (2 ^ 40 - 1) (-40) true
  else
    let y := shiftInt m (e + 1 + fracBits)
    let n := y / fixLn2
    let ex := fixExp (y % fixLn2) * 2 ^ n
    approx neg ((ex - fixOne) * 2 ^ fracBits / (ex + fixOne)) (-(fracBits : Int))

/-- The functions of majors 32, fn 0 to 7 (R123). -/
inductive SfuFn where
  | rcp | rsq | sqrt | exp2 | log2 | sin | cos | tanh
  deriving DecidableEq, Repr

/-- f(a), exact, with the special operands of R123. -/
def sfuExact (fn : SfuFn) (a : Fp) : Exact :=
  match fn, a with
  | _, .nan s => .nan s
  | .rcp, x => divExact (.fin false 1 0) x
  | .rsq, .inf n => if n then .nan true else .num false 0 0 false
  | .rsq, .fin n m e => if m = 0 then .inf n true else if n then .nan true else rsqrtNum m e
  | .sqrt, .inf n => if n then .nan true else .inf false false
  | .sqrt, .fin n m e => if m = 0 then .num n 0 0 false else if n then .nan true else sqrtNum m e
  | .exp2, .inf n => if n then .num false 0 0 false else .inf false false
  | .exp2, .fin n m e => exp2Num n m e
  | .log2, .inf n => if n then .nan true else .inf false false
  | .log2, .fin n m e => if m = 0 then .inf true true else if n then .nan true else log2Num m e
  | .sin, .inf _ => .nan true
  | .sin, .fin n m e => if m = 0 then .num n 0 0 false else sinNum n m e
  | .cos, .inf _ => .nan true
  | .cos, .fin _ m e => if m = 0 then .num false 1 0 false else cosNum m e
  | .tanh, .inf n => .num n 1 0 false
  | .tanh, .fin n m e => if m = 0 then .num n 0 0 false else tanhNum n m e

/-- One thread of an SFU instruction (R123). -/
def sfuWord (fn : SfuFn) (r : Rounding) (a : Word) : Word × Flags :=
  let y := roundExact fmtF32 r (sfuExact fn (operandOf fmtF32 r.ftz a.toNat))
  (BitVec.ofNat 32 y.1, y.2)

/-- One thread of vfdiv (R123). -/
def fdivWord (r : Rounding) (a b : Word) : Word × Flags :=
  let y := roundExact fmtF32 r (divExact (operandOf fmtF32 r.ftz a.toNat) (operandOf fmtF32 r.ftz b.toNat))
  (BitVec.ofNat 32 y.1, y.2)

end Sys2Proof.Machine
end

