-- ==== Sys2Proof/Machine/LaneFloat.lean ====
section
/-!
DEFINITION. The lane set's floating-point instructions (R98 to R113), special functions (R123) and conversions (R126 to
R132).
-/

namespace Sys2Proof.Machine

/-- The flags of the active threads, as sets (R94). -/
def Group.flagSets (g : Group) (f : Nat → Flags) : FF := FF.ofThreads fun t => if g.active t then f t else Flags.none

/-- A fixed-latency floating-point instruction: a result and its flags in every active thread. -/
def laneFloat (regs : List Nat) (d : Nat) (f : Group → Nat → Word × Flags) : Body :=
  laneBody (d :: regs) fun g =>
    { g.setV d (fun t => (f g t).1) with ff := g.ff.join (g.flagSets fun t => (f g t).2) }

/-- A special function: the result and its flags are delivered later (R67, R123). -/
def laneSpecial (regs : List Nat) (d : Nat) (f : Group → Nat → Word × Flags) : Body :=
  laneResult (d :: regs) fun g =>
    (g.actives.map fun t => .v d t (f g t).1, g.flagSets fun t => (f g t).2)

/-- V(vd, t) := op on the elements of vd, va and vb (R110). -/
def laneFop (ty : FType) (op : FOp) (d a b : Reg) : Body :=
  laneFloat [a.toNat, b.toNat] d.toNat fun g t =>
    fopWord ty g.rounding op (g.getV a.toNat t) (g.getV b.toNat t) (g.getV d.toNat t)

/-- The .s form: S(vb)[31:0] is b in every thread (R110). -/
def laneFopS (op : FOp) (d a b : Reg) : Body :=
  laneFloat [a.toNat] d.toNat fun g t =>
    fopWord .f32 g.rounding op (g.getV a.toNat t) ((g.getS b.toNat).setWidth 32) (g.getV d.toNat t)

/-- `vfcmp`: the mask of element 0 to S(sd), and of a pair's element 1 to S(sd + 1) (R112). -/
def laneFcmp (ty : FType) (c : FCond) (d a b : Reg) : Body :=
  laneBody [a.toNat, b.toNat] fun g =>
    let one (e : Word → Nat) (t : Nat) := fcmpCode ty.fmt g.rounding.ftz c (e (g.getV a.toNat t)) (e (g.getV b.toNat t))
    let mask (e : Word → Nat) : Mask := maskOf fun t => g.active t && (one e t).1
    if ty.isPair then
      { (g.setS d.toNat (mask elemLo)).setS (d.toNat + 1) (mask elemHi) with
        ff := g.ff.join (g.flagSets fun t => (one elemLo t).2.or (one elemHi t).2) }
    else
      { g.setS d.toNat (mask BitVec.toNat) with ff := g.ff.join (g.flagSets fun t => (one BitVec.toNat t).2) }

/-- `vcvt` and its variants: under .sr every active thread's generator steps once (R128 to R131). -/
def laneCvt (sat sr : Bool) (d a c : Reg) : Body :=
  laneBody [d.toNat, a.toNat] fun g =>
    let r (t : Nat) : Word := srStep (g.gen.getD t (srSeed 0 t))
    let f (t : Nat) := cvtWord ⟨g.rounding, sat, if sr then some (r t) else none⟩ c (g.getV a.toNat t) (g.getV d.toNat t)
    { g.setV d.toNat (fun t => (f t).1) with
      ff := g.ff.join (g.flagSets fun t => (f t).2)
      gen := if sr then lanesOf (fun t => if g.active t then r t else g.gen.getD t (srSeed 0 t)) else g.gen }

/-- `vfadd.f32`: R110. -/
def vfaddF32Body (d a b : Reg) : Body := laneFop .f32 .add d a b
def execVfaddF32 (m : Bool) (d a b : Reg) (st : State) : Out := issue m (vfaddF32Body d a b) st

/-- `vfadd.f16x2`: R110. -/
def vfaddF16x2Body (d a b : Reg) : Body := laneFop .f16x2 .add d a b
def execVfaddF16x2 (m : Bool) (d a b : Reg) (st : State) : Out := issue m (vfaddF16x2Body d a b) st

/-- `vfadd.bf16x2`: R110. -/
def vfaddBf16x2Body (d a b : Reg) : Body := laneFop .bf16x2 .add d a b
def execVfaddBf16x2 (m : Bool) (d a b : Reg) (st : State) : Out := issue m (vfaddBf16x2Body d a b) st

/-- `vfadd.f32.s`: R110. -/
def vfaddF32SBody (d a b : Reg) : Body := laneFopS .add d a b
def execVfaddF32S (m : Bool) (d a b : Reg) (st : State) : Out := issue m (vfaddF32SBody d a b) st

/-- `vfsub.f32`: R110. -/
def vfsubF32Body (d a b : Reg) : Body := laneFop .f32 .sub d a b
def execVfsubF32 (m : Bool) (d a b : Reg) (st : State) : Out := issue m (vfsubF32Body d a b) st

/-- `vfsub.f16x2`: R110. -/
def vfsubF16x2Body (d a b : Reg) : Body := laneFop .f16x2 .sub d a b
def execVfsubF16x2 (m : Bool) (d a b : Reg) (st : State) : Out := issue m (vfsubF16x2Body d a b) st

/-- `vfsub.bf16x2`: R110. -/
def vfsubBf16x2Body (d a b : Reg) : Body := laneFop .bf16x2 .sub d a b
def execVfsubBf16x2 (m : Bool) (d a b : Reg) (st : State) : Out := issue m (vfsubBf16x2Body d a b) st

/-- `vfsub.f32.s`: R110. -/
def vfsubF32SBody (d a b : Reg) : Body := laneFopS .sub d a b
def execVfsubF32S (m : Bool) (d a b : Reg) (st : State) : Out := issue m (vfsubF32SBody d a b) st

/-- `vfmul.f32`: R110. -/
def vfmulF32Body (d a b : Reg) : Body := laneFop .f32 .mul d a b
def execVfmulF32 (m : Bool) (d a b : Reg) (st : State) : Out := issue m (vfmulF32Body d a b) st

/-- `vfmul.f16x2`: R110. -/
def vfmulF16x2Body (d a b : Reg) : Body := laneFop .f16x2 .mul d a b
def execVfmulF16x2 (m : Bool) (d a b : Reg) (st : State) : Out := issue m (vfmulF16x2Body d a b) st

/-- `vfmul.bf16x2`: R110. -/
def vfmulBf16x2Body (d a b : Reg) : Body := laneFop .bf16x2 .mul d a b
def execVfmulBf16x2 (m : Bool) (d a b : Reg) (st : State) : Out := issue m (vfmulBf16x2Body d a b) st

/-- `vfmul.f32.s`: R110. -/
def vfmulF32SBody (d a b : Reg) : Body := laneFopS .mul d a b
def execVfmulF32S (m : Bool) (d a b : Reg) (st : State) : Out := issue m (vfmulF32SBody d a b) st

/-- `vfmin.f32`: R110, R111. -/
def vfminF32Body (d a b : Reg) : Body := laneFop .f32 .min d a b
def execVfminF32 (m : Bool) (d a b : Reg) (st : State) : Out := issue m (vfminF32Body d a b) st

/-- `vfmin.f16x2`: R110, R111. -/
def vfminF16x2Body (d a b : Reg) : Body := laneFop .f16x2 .min d a b
def execVfminF16x2 (m : Bool) (d a b : Reg) (st : State) : Out := issue m (vfminF16x2Body d a b) st

/-- `vfmin.bf16x2`: R110, R111. -/
def vfminBf16x2Body (d a b : Reg) : Body := laneFop .bf16x2 .min d a b
def execVfminBf16x2 (m : Bool) (d a b : Reg) (st : State) : Out := issue m (vfminBf16x2Body d a b) st

/-- `vfmin.f32.s`: R110, R111. -/
def vfminF32SBody (d a b : Reg) : Body := laneFopS .min d a b
def execVfminF32S (m : Bool) (d a b : Reg) (st : State) : Out := issue m (vfminF32SBody d a b) st

/-- `vfmax.f32`: R110, R111. -/
def vfmaxF32Body (d a b : Reg) : Body := laneFop .f32 .max d a b
def execVfmaxF32 (m : Bool) (d a b : Reg) (st : State) : Out := issue m (vfmaxF32Body d a b) st

/-- `vfmax.f16x2`: R110, R111. -/
def vfmaxF16x2Body (d a b : Reg) : Body := laneFop .f16x2 .max d a b
def execVfmaxF16x2 (m : Bool) (d a b : Reg) (st : State) : Out := issue m (vfmaxF16x2Body d a b) st

/-- `vfmax.bf16x2`: R110, R111. -/
def vfmaxBf16x2Body (d a b : Reg) : Body := laneFop .bf16x2 .max d a b
def execVfmaxBf16x2 (m : Bool) (d a b : Reg) (st : State) : Out := issue m (vfmaxBf16x2Body d a b) st

/-- `vfmax.f32.s`: R110, R111. -/
def vfmaxF32SBody (d a b : Reg) : Body := laneFopS .max d a b
def execVfmaxF32S (m : Bool) (d a b : Reg) (st : State) : Out := issue m (vfmaxF32SBody d a b) st

/-- `vfma.f32`: R110. -/
def vfmaF32Body (d a b : Reg) : Body := laneFop .f32 .fma d a b
def execVfmaF32 (m : Bool) (d a b : Reg) (st : State) : Out := issue m (vfmaF32Body d a b) st

/-- `vfma.f16x2`: R110. -/
def vfmaF16x2Body (d a b : Reg) : Body := laneFop .f16x2 .fma d a b
def execVfmaF16x2 (m : Bool) (d a b : Reg) (st : State) : Out := issue m (vfmaF16x2Body d a b) st

/-- `vfma.bf16x2`: R110. -/
def vfmaBf16x2Body (d a b : Reg) : Body := laneFop .bf16x2 .fma d a b
def execVfmaBf16x2 (m : Bool) (d a b : Reg) (st : State) : Out := issue m (vfmaBf16x2Body d a b) st

/-- `vfma.f32.s`: R110. -/
def vfmaF32SBody (d a b : Reg) : Body := laneFopS .fma d a b
def execVfmaF32S (m : Bool) (d a b : Reg) (st : State) : Out := issue m (vfmaF32SBody d a b) st

/-- `vfms.f32`: R110. -/
def vfmsF32Body (d a b : Reg) : Body := laneFop .f32 .fms d a b
def execVfmsF32 (m : Bool) (d a b : Reg) (st : State) : Out := issue m (vfmsF32Body d a b) st

/-- `vfms.f16x2`: R110. -/
def vfmsF16x2Body (d a b : Reg) : Body := laneFop .f16x2 .fms d a b
def execVfmsF16x2 (m : Bool) (d a b : Reg) (st : State) : Out := issue m (vfmsF16x2Body d a b) st

/-- `vfms.bf16x2`: R110. -/
def vfmsBf16x2Body (d a b : Reg) : Body := laneFop .bf16x2 .fms d a b
def execVfmsBf16x2 (m : Bool) (d a b : Reg) (st : State) : Out := issue m (vfmsBf16x2Body d a b) st

/-- `vfms.f32.s`: R110. -/
def vfmsF32SBody (d a b : Reg) : Body := laneFopS .fms d a b
def execVfmsF32S (m : Bool) (d a b : Reg) (st : State) : Out := issue m (vfmsF32SBody d a b) st

/-- `vfnma.f32`: R110. -/
def vfnmaF32Body (d a b : Reg) : Body := laneFop .f32 .nma d a b
def execVfnmaF32 (m : Bool) (d a b : Reg) (st : State) : Out := issue m (vfnmaF32Body d a b) st

/-- `vfnma.f16x2`: R110. -/
def vfnmaF16x2Body (d a b : Reg) : Body := laneFop .f16x2 .nma d a b
def execVfnmaF16x2 (m : Bool) (d a b : Reg) (st : State) : Out := issue m (vfnmaF16x2Body d a b) st

/-- `vfnma.bf16x2`: R110. -/
def vfnmaBf16x2Body (d a b : Reg) : Body := laneFop .bf16x2 .nma d a b
def execVfnmaBf16x2 (m : Bool) (d a b : Reg) (st : State) : Out := issue m (vfnmaBf16x2Body d a b) st

/-- `vfnma.f32.s`: R110. -/
def vfnmaF32SBody (d a b : Reg) : Body := laneFopS .nma d a b
def execVfnmaF32S (m : Bool) (d a b : Reg) (st : State) : Out := issue m (vfnmaF32SBody d a b) st

/-- `vfcmp.eq.f32`: R112. -/
def vfcmpEqF32Body (d a b : Reg) : Body := laneFcmp .f32 .eq d a b
def execVfcmpEqF32 (m : Bool) (d a b : Reg) (st : State) : Out := issue m (vfcmpEqF32Body d a b) st

/-- `vfcmp.eq.f16x2`: R112. -/
def vfcmpEqF16x2Body (d a b : Reg) : Body := laneFcmp .f16x2 .eq d a b
def execVfcmpEqF16x2 (m : Bool) (d a b : Reg) (st : State) : Out := issue m (vfcmpEqF16x2Body d a b) st

/-- `vfcmp.eq.bf16x2`: R112. -/
def vfcmpEqBf16x2Body (d a b : Reg) : Body := laneFcmp .bf16x2 .eq d a b
def execVfcmpEqBf16x2 (m : Bool) (d a b : Reg) (st : State) : Out := issue m (vfcmpEqBf16x2Body d a b) st

/-- `vfcmp.ne.f32`: R112. -/
def vfcmpNeF32Body (d a b : Reg) : Body := laneFcmp .f32 .ne d a b
def execVfcmpNeF32 (m : Bool) (d a b : Reg) (st : State) : Out := issue m (vfcmpNeF32Body d a b) st

/-- `vfcmp.ne.f16x2`: R112. -/
def vfcmpNeF16x2Body (d a b : Reg) : Body := laneFcmp .f16x2 .ne d a b
def execVfcmpNeF16x2 (m : Bool) (d a b : Reg) (st : State) : Out := issue m (vfcmpNeF16x2Body d a b) st

/-- `vfcmp.ne.bf16x2`: R112. -/
def vfcmpNeBf16x2Body (d a b : Reg) : Body := laneFcmp .bf16x2 .ne d a b
def execVfcmpNeBf16x2 (m : Bool) (d a b : Reg) (st : State) : Out := issue m (vfcmpNeBf16x2Body d a b) st

/-- `vfcmp.lt.f32`: R112. -/
def vfcmpLtF32Body (d a b : Reg) : Body := laneFcmp .f32 .lt d a b
def execVfcmpLtF32 (m : Bool) (d a b : Reg) (st : State) : Out := issue m (vfcmpLtF32Body d a b) st

/-- `vfcmp.lt.f16x2`: R112. -/
def vfcmpLtF16x2Body (d a b : Reg) : Body := laneFcmp .f16x2 .lt d a b
def execVfcmpLtF16x2 (m : Bool) (d a b : Reg) (st : State) : Out := issue m (vfcmpLtF16x2Body d a b) st

/-- `vfcmp.lt.bf16x2`: R112. -/
def vfcmpLtBf16x2Body (d a b : Reg) : Body := laneFcmp .bf16x2 .lt d a b
def execVfcmpLtBf16x2 (m : Bool) (d a b : Reg) (st : State) : Out := issue m (vfcmpLtBf16x2Body d a b) st

/-- `vfcmp.le.f32`: R112. -/
def vfcmpLeF32Body (d a b : Reg) : Body := laneFcmp .f32 .le d a b
def execVfcmpLeF32 (m : Bool) (d a b : Reg) (st : State) : Out := issue m (vfcmpLeF32Body d a b) st

/-- `vfcmp.le.f16x2`: R112. -/
def vfcmpLeF16x2Body (d a b : Reg) : Body := laneFcmp .f16x2 .le d a b
def execVfcmpLeF16x2 (m : Bool) (d a b : Reg) (st : State) : Out := issue m (vfcmpLeF16x2Body d a b) st

/-- `vfcmp.le.bf16x2`: R112. -/
def vfcmpLeBf16x2Body (d a b : Reg) : Body := laneFcmp .bf16x2 .le d a b
def execVfcmpLeBf16x2 (m : Bool) (d a b : Reg) (st : State) : Out := issue m (vfcmpLeBf16x2Body d a b) st

/-- `vfcmp.gt.f32`: R112. -/
def vfcmpGtF32Body (d a b : Reg) : Body := laneFcmp .f32 .gt d a b
def execVfcmpGtF32 (m : Bool) (d a b : Reg) (st : State) : Out := issue m (vfcmpGtF32Body d a b) st

/-- `vfcmp.gt.f16x2`: R112. -/
def vfcmpGtF16x2Body (d a b : Reg) : Body := laneFcmp .f16x2 .gt d a b
def execVfcmpGtF16x2 (m : Bool) (d a b : Reg) (st : State) : Out := issue m (vfcmpGtF16x2Body d a b) st

/-- `vfcmp.gt.bf16x2`: R112. -/
def vfcmpGtBf16x2Body (d a b : Reg) : Body := laneFcmp .bf16x2 .gt d a b
def execVfcmpGtBf16x2 (m : Bool) (d a b : Reg) (st : State) : Out := issue m (vfcmpGtBf16x2Body d a b) st

/-- `vfcmp.ge.f32`: R112. -/
def vfcmpGeF32Body (d a b : Reg) : Body := laneFcmp .f32 .ge d a b
def execVfcmpGeF32 (m : Bool) (d a b : Reg) (st : State) : Out := issue m (vfcmpGeF32Body d a b) st

/-- `vfcmp.ge.f16x2`: R112. -/
def vfcmpGeF16x2Body (d a b : Reg) : Body := laneFcmp .f16x2 .ge d a b
def execVfcmpGeF16x2 (m : Bool) (d a b : Reg) (st : State) : Out := issue m (vfcmpGeF16x2Body d a b) st

/-- `vfcmp.ge.bf16x2`: R112. -/
def vfcmpGeBf16x2Body (d a b : Reg) : Body := laneFcmp .bf16x2 .ge d a b
def execVfcmpGeBf16x2 (m : Bool) (d a b : Reg) (st : State) : Out := issue m (vfcmpGeBf16x2Body d a b) st

/-- `vfcmp.un.f32`: R112. -/
def vfcmpUnF32Body (d a b : Reg) : Body := laneFcmp .f32 .un d a b
def execVfcmpUnF32 (m : Bool) (d a b : Reg) (st : State) : Out := issue m (vfcmpUnF32Body d a b) st

/-- `vfcmp.un.f16x2`: R112. -/
def vfcmpUnF16x2Body (d a b : Reg) : Body := laneFcmp .f16x2 .un d a b
def execVfcmpUnF16x2 (m : Bool) (d a b : Reg) (st : State) : Out := issue m (vfcmpUnF16x2Body d a b) st

/-- `vfcmp.un.bf16x2`: R112. -/
def vfcmpUnBf16x2Body (d a b : Reg) : Body := laneFcmp .bf16x2 .un d a b
def execVfcmpUnBf16x2 (m : Bool) (d a b : Reg) (st : State) : Out := issue m (vfcmpUnBf16x2Body d a b) st

/-- `vfclass.f32`: R113. -/
def vfclassF32Body (d a : Reg) : Body := laneBody [d.toNat, a.toNat] fun g => g.setV d.toNat fun t => fclassWord .f32 (g.getV a.toNat t)
def execVfclassF32 (m : Bool) (d a : Reg) (st : State) : Out := issue m (vfclassF32Body d a) st

/-- `vfclass.f16x2`: R113. -/
def vfclassF16x2Body (d a : Reg) : Body := laneBody [d.toNat, a.toNat] fun g => g.setV d.toNat fun t => fclassWord .f16x2 (g.getV a.toNat t)
def execVfclassF16x2 (m : Bool) (d a : Reg) (st : State) : Out := issue m (vfclassF16x2Body d a) st

/-- `vfclass.bf16x2`: R113. -/
def vfclassBf16x2Body (d a : Reg) : Body := laneBody [d.toNat, a.toNat] fun g => g.setV d.toNat fun t => fclassWord .bf16x2 (g.getV a.toNat t)
def execVfclassBf16x2 (m : Bool) (d a : Reg) (st : State) : Out := issue m (vfclassBf16x2Body d a) st

/-- `vrcp`: R123. -/
def vrcpBody (d a : Reg) : Body := laneSpecial [a.toNat] d.toNat fun g t => sfuWord .rcp g.rounding (g.getV a.toNat t)
def execVrcp (m : Bool) (d a : Reg) (st : State) : Out := issue m (vrcpBody d a) st

/-- `vrsq`: R123. -/
def vrsqBody (d a : Reg) : Body := laneSpecial [a.toNat] d.toNat fun g t => sfuWord .rsq g.rounding (g.getV a.toNat t)
def execVrsq (m : Bool) (d a : Reg) (st : State) : Out := issue m (vrsqBody d a) st

/-- `vsqrt`: R123. -/
def vsqrtBody (d a : Reg) : Body := laneSpecial [a.toNat] d.toNat fun g t => sfuWord .sqrt g.rounding (g.getV a.toNat t)
def execVsqrt (m : Bool) (d a : Reg) (st : State) : Out := issue m (vsqrtBody d a) st

/-- `vexp2`: R123. -/
def vexp2Body (d a : Reg) : Body := laneSpecial [a.toNat] d.toNat fun g t => sfuWord .exp2 g.rounding (g.getV a.toNat t)
def execVexp2 (m : Bool) (d a : Reg) (st : State) : Out := issue m (vexp2Body d a) st

/-- `vlog2`: R123. -/
def vlog2Body (d a : Reg) : Body := laneSpecial [a.toNat] d.toNat fun g t => sfuWord .log2 g.rounding (g.getV a.toNat t)
def execVlog2 (m : Bool) (d a : Reg) (st : State) : Out := issue m (vlog2Body d a) st

/-- `vsin`: R123. -/
def vsinBody (d a : Reg) : Body := laneSpecial [a.toNat] d.toNat fun g t => sfuWord .sin g.rounding (g.getV a.toNat t)
def execVsin (m : Bool) (d a : Reg) (st : State) : Out := issue m (vsinBody d a) st

/-- `vcos`: R123. -/
def vcosBody (d a : Reg) : Body := laneSpecial [a.toNat] d.toNat fun g t => sfuWord .cos g.rounding (g.getV a.toNat t)
def execVcos (m : Bool) (d a : Reg) (st : State) : Out := issue m (vcosBody d a) st

/-- `vtanh`: R123. -/
def vtanhBody (d a : Reg) : Body := laneSpecial [a.toNat] d.toNat fun g t => sfuWord .tanh g.rounding (g.getV a.toNat t)
def execVtanh (m : Bool) (d a : Reg) (st : State) : Out := issue m (vtanhBody d a) st

/-- `vfdiv.f32`: R123. -/
def vfdivF32Body (d a b : Reg) : Body := laneSpecial [a.toNat, b.toNat] d.toNat fun g t =>
  fdivWord g.rounding (g.getV a.toNat t) (g.getV b.toNat t)
def execVfdivF32 (m : Bool) (d a b : Reg) (st : State) : Out := issue m (vfdivF32Body d a b) st

/-- `vfdiv.f32.s`: R123. -/
def vfdivF32SBody (d a b : Reg) : Body := laneSpecial [a.toNat] d.toNat fun g t =>
  fdivWord g.rounding (g.getV a.toNat t) ((g.getS b.toNat).setWidth 32)
def execVfdivF32S (m : Bool) (d a b : Reg) (st : State) : Out := issue m (vfdivF32SBody d a b) st

/-- `vcvt`: R127 to R132. -/
def vcvtBody (d a c : Reg) : Body := laneCvt false false d a c
def execVcvt (m : Bool) (d a c : Reg) (st : State) : Out := issue m (vcvtBody d a c) st

/-- `vcvt.sr`: R127 to R132. -/
def vcvtSrBody (d a c : Reg) : Body := laneCvt false true d a c
def execVcvtSr (m : Bool) (d a c : Reg) (st : State) : Out := issue m (vcvtSrBody d a c) st

/-- `vcvt.sat`: R127 to R132. -/
def vcvtSatBody (d a c : Reg) : Body := laneCvt true false d a c
def execVcvtSat (m : Bool) (d a c : Reg) (st : State) : Out := issue m (vcvtSatBody d a c) st

/-- `vcvt.sat.sr`: R127 to R132. -/
def vcvtSatSrBody (d a c : Reg) : Body := laneCvt true true d a c
def execVcvtSatSr (m : Bool) (d a c : Reg) (st : State) : Out := issue m (vcvtSatSrBody d a c) st

end Sys2Proof.Machine
end

