-- ==== Sys2Proof/Machine/CrossLane.lean ====
section
/-!
DEFINITION. The cross-lane instructions (R115 to R122): sources are read in every thread, active or not.
-/

namespace Sys2Proof.Machine

/-- A variable-latency instruction that writes V(vd, t) := V(va, j(t)) in every active thread (R115, R116). -/
def laneFrom (regs : List Nat) (d a : Nat) (j : Group → Nat → Nat) : Body :=
  laneResult (d :: a :: regs) fun g => (g.actives.map fun t => .v d t (g.getV a (j g t)), {})

/-- The width W in threads (R17). -/
def width : Nat := 64

/-- One thread of `vperm8` (R119): each byte's low or high nibble selects a byte of the table. -/
def perm8Word (hi : Bool) (table : Nat) (x : Word) : Word :=
  let pick (b : Nat) : Nat :=
    let byte := x.toNat / 256 ^ b % 256
    let i := if hi then byte / 16 else byte % 16
    table / 256 ^ i % 256
  BitVec.ofNat 32 (pick 0 + 256 * pick 1 + 65536 * pick 2 + 16777216 * pick 3)

/-- `vperm8`: the table is S(vb + 1) : S(vb) (R119). -/
def lanePerm8 (hi : Bool) (d a b : Reg) : Body :=
  laneResult [d.toNat, a.toNat] fun g =>
    let table := (g.getS b.toNat).toNat + 2 ^ 64 * (g.getS (b.toNat + 1)).toNat
    (g.actives.map fun t => .v d.toNat t (perm8Word hi table (g.getV a.toNat t)), {})

/-- The operations of `vlred` and `vscan` (R120). -/
inductive RedOp where
  | add | minS | maxS | minN | maxN | fadd | fmin | fmax
  deriving DecidableEq, Repr

/-- Op(L, H) of R120 and the flags it raises. -/
def RedOp.apply (op : RedOp) (r : Rounding) (x y : Word) : Word × Flags :=
  match op with
  | .add => (x + y, Flags.none)
  | .minS => (Sys2Proof.Machine.minS x y, Flags.none)
  | .maxS => (Sys2Proof.Machine.maxS x y, Flags.none)
  | .minN => (Sys2Proof.Machine.minN x y, Flags.none)
  | .maxN => (Sys2Proof.Machine.maxN x y, Flags.none)
  | .fadd => fopWord .f32 r .add x y 0
  | .fmin => fopWord .f32 r .min x y 0
  | .fmax => fopWord .f32 r .max x y 0

/-- Init(V(va, t)) of R120: floating-point operands are flushed. -/
def RedOp.init (op : RedOp) (r : Rounding) (x : Word) : Word :=
  match op with
  | .fadd | .fmin | .fmax => BitVec.ofNat 32 (flushCode fmtF32 r.ftz x.toNat)
  | _ => x

/-- Comb(L, H) of R120, the lower-indexed value on the left. A value that meets no other passes as it is: so an fadd whose one
value is a NaN delivers that NaN and raises no NV, where R120's table says canonical NaN, with NV for a signalling one. The
pseudocode is followed, which is the model's choice (log 70). -/
def RedOp.comb (op : RedOp) (r : Rounding) (x y : Option Word) : Option Word × Flags :=
  match x, y with
  | none, h => (h, Flags.none)
  | l, none => (l, Flags.none)
  | some l, some h => let z := op.apply r l h; (some z.1, z.2)

/-- One step of `vlred`: neighbours combined, and the flags raised. -/
def RedOp.pairUp (op : RedOp) (r : Rounding) : List (Option Word) → List (Option Word) × Flags
  | x :: y :: rest =>
    let z := op.comb r x y
    let more := op.pairUp r rest
    (z.1 :: more.1, z.2.or more.2)
  | l => (l, Flags.none)

/-- One step of `vscan`: y[t] := Comb(x[t - k], x[t]) from t = k on. -/
def RedOp.shiftUp (op : RedOp) (r : Rounding) (k : Nat) (x : List (Option Word)) : List (Option Word) × Flags :=
  let zs := List.zipWith (op.comb r) x (x.drop k)
  (x.take k ++ zs.map Prod.fst, zs.foldl (fun acc z => acc.or z.2) Flags.none)

/-- Runs a step for each k from 0 to 5: log2 W steps (R120). -/
def logSteps (step : Nat → List (Option Word) → List (Option Word) × Flags) (x : List (Option Word)) :
    List (Option Word) × Flags :=
  (List.range 6).foldl (fun acc k => let y := step k acc.1; (y.1, acc.2.or y.2)) (x, Flags.none)

/-- The active threads' values, the others absent (R120). -/
def Group.present (g : Group) (op : RedOp) (a : Nat) : List (Option Word) :=
  (List.range 64).map fun t => if g.active t then some (op.init g.rounding (g.getV a t)) else none

/-- `vlred` and `vscan`: each active thread takes element `pick t`; all flags go to every active thread (R120). -/
def laneCombine (op : RedOp) (step : Rounding → Nat → List (Option Word) → List (Option Word) × Flags)
    (pick : Nat → Nat) (d a : Reg) : Body :=
  laneResult [d.toNat, a.toNat] fun g =>
    let y := logSteps (step g.rounding) (g.present op a.toNat)
    (g.actives.map fun t => .v d.toNat t ((y.1.getD (pick t) none).getD 0), g.flagSets fun _ => y.2)

def laneReduce (op : RedOp) (d a : Reg) : Body := laneCombine op (fun r _ => op.pairUp r) (fun _ => 0) d a
def laneScan (op : RedOp) (d a : Reg) : Body := laneCombine op (fun r k => op.shiftUp r (2 ^ k)) (fun t => t) d a

/-- The predicate source of a vote (R121). -/
def Group.predicate (g : Group) (p a t : Nat) : Bool :=
  match p with
  | 0 => g.getV a t != 0
  | 1 => g.ff.nv.getLsbD t
  | 2 => g.ff.dz.getLsbD t
  | 3 => g.ff.of.getLsbD t
  | 4 => g.ff.uf.getLsbD t
  | _ => g.ff.nx.getLsbD t

/-- A vote writes S(sd) from the threads that are active and satisfy the predicate (R121, R122). -/
def laneVote (f : Group → (Nat → Bool) → Dword) (d a p : Reg) : Body :=
  laneBody [a.toNat] fun g => g.setS d.toNat (f g (g.predicate p.toNat a.toNat))

/-- `vshfl.idx`: R117. -/
def vshflIdxBody (d a b : Reg) : Body := laneFrom [b.toNat] d.toNat a.toNat fun g t => (g.getV b.toNat t).toNat % width
def execVshflIdx (m : Bool) (d a b : Reg) (st : State) : Out := issue m (vshflIdxBody d a b) st

/-- `vshfl.up`: R117. -/
def vshflUpBody (d a b : Reg) : Body := laneFrom [] d.toNat a.toNat fun g t =>
  let n := (g.getS b.toNat).toNat
  if t < n then t else t - n
def execVshflUp (m : Bool) (d a b : Reg) (st : State) : Out := issue m (vshflUpBody d a b) st

/-- `vshfl.down`: R117. -/
def vshflDownBody (d a b : Reg) : Body := laneFrom [] d.toNat a.toNat fun g t =>
  let n := (g.getS b.toNat).toNat
  if width ≤ t + n then t else t + n
def execVshflDown (m : Bool) (d a b : Reg) (st : State) : Out := issue m (vshflDownBody d a b) st

/-- `vshfl.xor`: R117. -/
def vshflXorBody (d a b : Reg) : Body := laneFrom [] d.toNat a.toNat fun g t =>
  let j := t ^^^ ((g.getS b.toNat).toNat % 128)
  if width ≤ j then t else j
def execVshflXor (m : Bool) (d a b : Reg) (st : State) : Out := issue m (vshflXorBody d a b) st

/-- `vperm8.lo`: R119. -/
def vperm8LoBody (d a b : Reg) : Body := lanePerm8 false d a b
def execVperm8Lo (m : Bool) (d a b : Reg) (st : State) : Out := issue m (vperm8LoBody d a b) st

/-- `vperm8.hi`: R119. -/
def vperm8HiBody (d a b : Reg) : Body := lanePerm8 true d a b
def execVperm8Hi (m : Bool) (d a b : Reg) (st : State) : Out := issue m (vperm8HiBody d a b) st

/-- `vbcast`: R118. -/
def vbcastBody (d a b : Reg) : Body := laneFrom [] d.toNat a.toNat fun g _ => (g.getS b.toNat).toNat % width
def execVbcast (m : Bool) (d a b : Reg) (st : State) : Out := issue m (vbcastBody d a b) st

/-- `vext`: R118. -/
def vextBody (d a b : Reg) : Body := laneResult [a.toNat] fun g =>
  ([.s d.toNat ((g.getV a.toNat ((g.getS b.toNat).toNat % width)).setWidth 64)], {})
def execVext (m : Bool) (d a b : Reg) (st : State) : Out := issue m (vextBody d a b) st

/-- `vlred.add.i32`: R120. -/
def vlredAddI32Body (d a : Reg) : Body := laneReduce .add d a
def execVlredAddI32 (m : Bool) (d a : Reg) (st : State) : Out := issue m (vlredAddI32Body d a) st

/-- `vlred.min.i32`: R120. -/
def vlredMinI32Body (d a : Reg) : Body := laneReduce .minS d a
def execVlredMinI32 (m : Bool) (d a : Reg) (st : State) : Out := issue m (vlredMinI32Body d a) st

/-- `vlred.max.i32`: R120. -/
def vlredMaxI32Body (d a : Reg) : Body := laneReduce .maxS d a
def execVlredMaxI32 (m : Bool) (d a : Reg) (st : State) : Out := issue m (vlredMaxI32Body d a) st

/-- `vlred.min.n32`: R120. -/
def vlredMinN32Body (d a : Reg) : Body := laneReduce .minN d a
def execVlredMinN32 (m : Bool) (d a : Reg) (st : State) : Out := issue m (vlredMinN32Body d a) st

/-- `vlred.max.n32`: R120. -/
def vlredMaxN32Body (d a : Reg) : Body := laneReduce .maxN d a
def execVlredMaxN32 (m : Bool) (d a : Reg) (st : State) : Out := issue m (vlredMaxN32Body d a) st

/-- `vlred.fadd.f32`: R120. -/
def vlredFaddF32Body (d a : Reg) : Body := laneReduce .fadd d a
def execVlredFaddF32 (m : Bool) (d a : Reg) (st : State) : Out := issue m (vlredFaddF32Body d a) st

/-- `vlred.fmin.f32`: R120. -/
def vlredFminF32Body (d a : Reg) : Body := laneReduce .fmin d a
def execVlredFminF32 (m : Bool) (d a : Reg) (st : State) : Out := issue m (vlredFminF32Body d a) st

/-- `vlred.fmax.f32`: R120. -/
def vlredFmaxF32Body (d a : Reg) : Body := laneReduce .fmax d a
def execVlredFmaxF32 (m : Bool) (d a : Reg) (st : State) : Out := issue m (vlredFmaxF32Body d a) st

/-- `vscan.add.i32`: R120. -/
def vscanAddI32Body (d a : Reg) : Body := laneScan .add d a
def execVscanAddI32 (m : Bool) (d a : Reg) (st : State) : Out := issue m (vscanAddI32Body d a) st

/-- `vscan.min.i32`: R120. -/
def vscanMinI32Body (d a : Reg) : Body := laneScan .minS d a
def execVscanMinI32 (m : Bool) (d a : Reg) (st : State) : Out := issue m (vscanMinI32Body d a) st

/-- `vscan.max.i32`: R120. -/
def vscanMaxI32Body (d a : Reg) : Body := laneScan .maxS d a
def execVscanMaxI32 (m : Bool) (d a : Reg) (st : State) : Out := issue m (vscanMaxI32Body d a) st

/-- `vscan.min.n32`: R120. -/
def vscanMinN32Body (d a : Reg) : Body := laneScan .minN d a
def execVscanMinN32 (m : Bool) (d a : Reg) (st : State) : Out := issue m (vscanMinN32Body d a) st

/-- `vscan.max.n32`: R120. -/
def vscanMaxN32Body (d a : Reg) : Body := laneScan .maxN d a
def execVscanMaxN32 (m : Bool) (d a : Reg) (st : State) : Out := issue m (vscanMaxN32Body d a) st

/-- `vscan.fadd.f32`: R120. -/
def vscanFaddF32Body (d a : Reg) : Body := laneScan .fadd d a
def execVscanFaddF32 (m : Bool) (d a : Reg) (st : State) : Out := issue m (vscanFaddF32Body d a) st

/-- `vscan.fmin.f32`: R120. -/
def vscanFminF32Body (d a : Reg) : Body := laneScan .fmin d a
def execVscanFminF32 (m : Bool) (d a : Reg) (st : State) : Out := issue m (vscanFminF32Body d a) st

/-- `vscan.fmax.f32`: R120. -/
def vscanFmaxF32Body (d a : Reg) : Body := laneScan .fmax d a
def execVscanFmaxF32 (m : Bool) (d a : Reg) (st : State) : Out := issue m (vscanFmaxF32Body d a) st

/-- `vote.any`: R122. -/
def voteAnyBody (d a p : Reg) : Body := laneVote (fun g q => boolMask (g.actives.any q)) d a p
def execVoteAny (m : Bool) (d a p : Reg) (st : State) : Out := issue m (voteAnyBody d a p) st

/-- `vote.all`: R122. -/
def voteAllBody (d a p : Reg) : Body := laneVote (fun g q => boolMask (g.actives.all q)) d a p
def execVoteAll (m : Bool) (d a p : Reg) (st : State) : Out := issue m (voteAllBody d a p) st

/-- `vote.ballot`: R122. -/
def voteBallotBody (d a p : Reg) : Body := laneVote (fun g q => maskOf fun t => g.active t && q t) d a p
def execVoteBallot (m : Bool) (d a p : Reg) (st : State) : Out := issue m (voteBallotBody d a p) st

/-- `vfirst`: R122. -/
def vfirstBody (d a p : Reg) : Body := laneVote (fun g q => match g.actives.find? q with
  | some t => BitVec.ofNat 64 t
  | none => BitVec.allOnes 64) d a p
def execVfirst (m : Bool) (d a p : Reg) (st : State) : Out := issue m (vfirstBody d a p) st

end Sys2Proof.Machine
end

