-- ==== Sys2Proof/Machine/LaneInt.lean ====
section
/-!
DEFINITION. The lane set's integer instructions (R105 to R109) and its loads and stores (R145).
-/

namespace Sys2Proof.Machine

/-- V(vd, t) := f(V(vd, t), V(va, t), V(vb, t)) in every active thread (R106). -/
def lane3 (f : Word → Word → Word → Word) (d a b : Reg) : Body :=
  laneBody [d.toNat, a.toNat, b.toNat] fun g =>
    g.setV d.toNat fun t => f (g.getV d.toNat t) (g.getV a.toNat t) (g.getV b.toNat t)

/-- The same with S(vb)[31:0] as the second operand: the .s forms (R106). -/
def lane3s (f : Word → Word → Word → Word) (d a b : Reg) : Body :=
  laneBody [d.toNat, a.toNat] fun g =>
    g.setV d.toNat fun t => f (g.getV d.toNat t) (g.getV a.toNat t) ((g.getS b.toNat).setWidth 32)

/-- V(vd, t) := f(V(va, t)) in every active thread. -/
def lane1 (f : Word → Word) (d a : Nat) : Body :=
  laneBody [d, a] fun g => g.setV d fun t => f (g.getV a t)

/-- S(sd) := the mask of the active threads that satisfy p (R107). -/
def laneMask (regs : List Nat) (d : Nat) (p : Group → Nat → Bool) : Body :=
  laneBody regs fun g => g.setS d (maskOf fun t => g.active t && p g t)

/-- `vadd`: R106. -/
def vaddBody (d a b : Reg) : Body := lane3 (fun _ a b => a + b) d a b
def execVadd (m : Bool) (d a b : Reg) (st : State) : Out := issue m (vaddBody d a b) st

/-- `vadd.s`: R106. -/
def vaddSBody (d a b : Reg) : Body := lane3s (fun _ a b => a + b) d a b
def execVaddS (m : Bool) (d a b : Reg) (st : State) : Out := issue m (vaddSBody d a b) st

/-- `vsub`: R106. -/
def vsubBody (d a b : Reg) : Body := lane3 (fun _ a b => a - b) d a b
def execVsub (m : Bool) (d a b : Reg) (st : State) : Out := issue m (vsubBody d a b) st

/-- `vsub.s`: R106. -/
def vsubSBody (d a b : Reg) : Body := lane3s (fun _ a b => a - b) d a b
def execVsubS (m : Bool) (d a b : Reg) (st : State) : Out := issue m (vsubSBody d a b) st

/-- `vadds.i32`: R106. -/
def vaddsI32Body (d a b : Reg) : Body := lane3 (fun _ a b => addsS a b) d a b
def execVaddsI32 (m : Bool) (d a b : Reg) (st : State) : Out := issue m (vaddsI32Body d a b) st

/-- `vadds.i32.s`: R106. -/
def vaddsI32SBody (d a b : Reg) : Body := lane3s (fun _ a b => addsS a b) d a b
def execVaddsI32S (m : Bool) (d a b : Reg) (st : State) : Out := issue m (vaddsI32SBody d a b) st

/-- `vadds.n32`: R106. -/
def vaddsN32Body (d a b : Reg) : Body := lane3 (fun _ a b => addsN a b) d a b
def execVaddsN32 (m : Bool) (d a b : Reg) (st : State) : Out := issue m (vaddsN32Body d a b) st

/-- `vadds.n32.s`: R106. -/
def vaddsN32SBody (d a b : Reg) : Body := lane3s (fun _ a b => addsN a b) d a b
def execVaddsN32S (m : Bool) (d a b : Reg) (st : State) : Out := issue m (vaddsN32SBody d a b) st

/-- `vsubs.i32`: R106. -/
def vsubsI32Body (d a b : Reg) : Body := lane3 (fun _ a b => subsS a b) d a b
def execVsubsI32 (m : Bool) (d a b : Reg) (st : State) : Out := issue m (vsubsI32Body d a b) st

/-- `vsubs.i32.s`: R106. -/
def vsubsI32SBody (d a b : Reg) : Body := lane3s (fun _ a b => subsS a b) d a b
def execVsubsI32S (m : Bool) (d a b : Reg) (st : State) : Out := issue m (vsubsI32SBody d a b) st

/-- `vsubs.n32`: R106. -/
def vsubsN32Body (d a b : Reg) : Body := lane3 (fun _ a b => subsN a b) d a b
def execVsubsN32 (m : Bool) (d a b : Reg) (st : State) : Out := issue m (vsubsN32Body d a b) st

/-- `vsubs.n32.s`: R106. -/
def vsubsN32SBody (d a b : Reg) : Body := lane3s (fun _ a b => subsN a b) d a b
def execVsubsN32S (m : Bool) (d a b : Reg) (st : State) : Out := issue m (vsubsN32SBody d a b) st

/-- `vmul`: R106. -/
def vmulBody (d a b : Reg) : Body := lane3 (fun _ a b => a * b) d a b
def execVmul (m : Bool) (d a b : Reg) (st : State) : Out := issue m (vmulBody d a b) st

/-- `vmul.s`: R106. -/
def vmulSBody (d a b : Reg) : Body := lane3s (fun _ a b => a * b) d a b
def execVmulS (m : Bool) (d a b : Reg) (st : State) : Out := issue m (vmulSBody d a b) st

/-- `vmulh.i32`: R106. -/
def vmulhI32Body (d a b : Reg) : Body := lane3 (fun _ a b => mulhS a b) d a b
def execVmulhI32 (m : Bool) (d a b : Reg) (st : State) : Out := issue m (vmulhI32Body d a b) st

/-- `vmulh.i32.s`: R106. -/
def vmulhI32SBody (d a b : Reg) : Body := lane3s (fun _ a b => mulhS a b) d a b
def execVmulhI32S (m : Bool) (d a b : Reg) (st : State) : Out := issue m (vmulhI32SBody d a b) st

/-- `vmulh.n32`: R106. -/
def vmulhN32Body (d a b : Reg) : Body := lane3 (fun _ a b => mulhN a b) d a b
def execVmulhN32 (m : Bool) (d a b : Reg) (st : State) : Out := issue m (vmulhN32Body d a b) st

/-- `vmulh.n32.s`: R106. -/
def vmulhN32SBody (d a b : Reg) : Body := lane3s (fun _ a b => mulhN a b) d a b
def execVmulhN32S (m : Bool) (d a b : Reg) (st : State) : Out := issue m (vmulhN32SBody d a b) st

/-- `vmad`: R106. -/
def vmadBody (d a b : Reg) : Body := lane3 (fun d a b => d + a * b) d a b
def execVmad (m : Bool) (d a b : Reg) (st : State) : Out := issue m (vmadBody d a b) st

/-- `vmad.s`: R106. -/
def vmadSBody (d a b : Reg) : Body := lane3s (fun d a b => d + a * b) d a b
def execVmadS (m : Bool) (d a b : Reg) (st : State) : Out := issue m (vmadSBody d a b) st

/-- `vdiv.i32`: R106. -/
def vdivI32Body (d a b : Reg) : Body := lane3 (fun _ a b => divS a b) d a b
def execVdivI32 (m : Bool) (d a b : Reg) (st : State) : Out := issue m (vdivI32Body d a b) st

/-- `vdiv.i32.s`: R106. -/
def vdivI32SBody (d a b : Reg) : Body := lane3s (fun _ a b => divS a b) d a b
def execVdivI32S (m : Bool) (d a b : Reg) (st : State) : Out := issue m (vdivI32SBody d a b) st

/-- `vdiv.n32`: R106. -/
def vdivN32Body (d a b : Reg) : Body := lane3 (fun _ a b => divN a b) d a b
def execVdivN32 (m : Bool) (d a b : Reg) (st : State) : Out := issue m (vdivN32Body d a b) st

/-- `vdiv.n32.s`: R106. -/
def vdivN32SBody (d a b : Reg) : Body := lane3s (fun _ a b => divN a b) d a b
def execVdivN32S (m : Bool) (d a b : Reg) (st : State) : Out := issue m (vdivN32SBody d a b) st

/-- `vrem.i32`: R106. -/
def vremI32Body (d a b : Reg) : Body := lane3 (fun _ a b => remS a b) d a b
def execVremI32 (m : Bool) (d a b : Reg) (st : State) : Out := issue m (vremI32Body d a b) st

/-- `vrem.i32.s`: R106. -/
def vremI32SBody (d a b : Reg) : Body := lane3s (fun _ a b => remS a b) d a b
def execVremI32S (m : Bool) (d a b : Reg) (st : State) : Out := issue m (vremI32SBody d a b) st

/-- `vrem.n32`: R106. -/
def vremN32Body (d a b : Reg) : Body := lane3 (fun _ a b => remN a b) d a b
def execVremN32 (m : Bool) (d a b : Reg) (st : State) : Out := issue m (vremN32Body d a b) st

/-- `vrem.n32.s`: R106. -/
def vremN32SBody (d a b : Reg) : Body := lane3s (fun _ a b => remN a b) d a b
def execVremN32S (m : Bool) (d a b : Reg) (st : State) : Out := issue m (vremN32SBody d a b) st

/-- `vand`: R106. -/
def vandBody (d a b : Reg) : Body := lane3 (fun _ a b => a &&& b) d a b
def execVand (m : Bool) (d a b : Reg) (st : State) : Out := issue m (vandBody d a b) st

/-- `vand.s`: R106. -/
def vandSBody (d a b : Reg) : Body := lane3s (fun _ a b => a &&& b) d a b
def execVandS (m : Bool) (d a b : Reg) (st : State) : Out := issue m (vandSBody d a b) st

/-- `vor`: R106. -/
def vorBody (d a b : Reg) : Body := lane3 (fun _ a b => a ||| b) d a b
def execVor (m : Bool) (d a b : Reg) (st : State) : Out := issue m (vorBody d a b) st

/-- `vor.s`: R106. -/
def vorSBody (d a b : Reg) : Body := lane3s (fun _ a b => a ||| b) d a b
def execVorS (m : Bool) (d a b : Reg) (st : State) : Out := issue m (vorSBody d a b) st

/-- `vxor`: R106. -/
def vxorBody (d a b : Reg) : Body := lane3 (fun _ a b => a ^^^ b) d a b
def execVxor (m : Bool) (d a b : Reg) (st : State) : Out := issue m (vxorBody d a b) st

/-- `vxor.s`: R106. -/
def vxorSBody (d a b : Reg) : Body := lane3s (fun _ a b => a ^^^ b) d a b
def execVxorS (m : Bool) (d a b : Reg) (st : State) : Out := issue m (vxorSBody d a b) st

/-- `vandn`: R106. -/
def vandnBody (d a b : Reg) : Body := lane3 (fun _ a b => andn a b) d a b
def execVandn (m : Bool) (d a b : Reg) (st : State) : Out := issue m (vandnBody d a b) st

/-- `vandn.s`: R106. -/
def vandnSBody (d a b : Reg) : Body := lane3s (fun _ a b => andn a b) d a b
def execVandnS (m : Bool) (d a b : Reg) (st : State) : Out := issue m (vandnSBody d a b) st

/-- `vshl`: R106. -/
def vshlBody (d a b : Reg) : Body := lane3 (fun _ a b => shl a b) d a b
def execVshl (m : Bool) (d a b : Reg) (st : State) : Out := issue m (vshlBody d a b) st

/-- `vshl.s`: R106. -/
def vshlSBody (d a b : Reg) : Body := lane3s (fun _ a b => shl a b) d a b
def execVshlS (m : Bool) (d a b : Reg) (st : State) : Out := issue m (vshlSBody d a b) st

/-- `vshr`: R106. -/
def vshrBody (d a b : Reg) : Body := lane3 (fun _ a b => shr a b) d a b
def execVshr (m : Bool) (d a b : Reg) (st : State) : Out := issue m (vshrBody d a b) st

/-- `vshr.s`: R106. -/
def vshrSBody (d a b : Reg) : Body := lane3s (fun _ a b => shr a b) d a b
def execVshrS (m : Bool) (d a b : Reg) (st : State) : Out := issue m (vshrSBody d a b) st

/-- `vsra`: R106. -/
def vsraBody (d a b : Reg) : Body := lane3 (fun _ a b => sra a b) d a b
def execVsra (m : Bool) (d a b : Reg) (st : State) : Out := issue m (vsraBody d a b) st

/-- `vsra.s`: R106. -/
def vsraSBody (d a b : Reg) : Body := lane3s (fun _ a b => sra a b) d a b
def execVsraS (m : Bool) (d a b : Reg) (st : State) : Out := issue m (vsraSBody d a b) st

/-- `vrol`: R106. -/
def vrolBody (d a b : Reg) : Body := lane3 (fun _ a b => rol a b) d a b
def execVrol (m : Bool) (d a b : Reg) (st : State) : Out := issue m (vrolBody d a b) st

/-- `vrol.s`: R106. -/
def vrolSBody (d a b : Reg) : Body := lane3s (fun _ a b => rol a b) d a b
def execVrolS (m : Bool) (d a b : Reg) (st : State) : Out := issue m (vrolSBody d a b) st

/-- `vmin.i32`: R106. -/
def vminI32Body (d a b : Reg) : Body := lane3 (fun _ a b => minS a b) d a b
def execVminI32 (m : Bool) (d a b : Reg) (st : State) : Out := issue m (vminI32Body d a b) st

/-- `vmin.i32.s`: R106. -/
def vminI32SBody (d a b : Reg) : Body := lane3s (fun _ a b => minS a b) d a b
def execVminI32S (m : Bool) (d a b : Reg) (st : State) : Out := issue m (vminI32SBody d a b) st

/-- `vmax.i32`: R106. -/
def vmaxI32Body (d a b : Reg) : Body := lane3 (fun _ a b => maxS a b) d a b
def execVmaxI32 (m : Bool) (d a b : Reg) (st : State) : Out := issue m (vmaxI32Body d a b) st

/-- `vmax.i32.s`: R106. -/
def vmaxI32SBody (d a b : Reg) : Body := lane3s (fun _ a b => maxS a b) d a b
def execVmaxI32S (m : Bool) (d a b : Reg) (st : State) : Out := issue m (vmaxI32SBody d a b) st

/-- `vmin.n32`: R106. -/
def vminN32Body (d a b : Reg) : Body := lane3 (fun _ a b => minN a b) d a b
def execVminN32 (m : Bool) (d a b : Reg) (st : State) : Out := issue m (vminN32Body d a b) st

/-- `vmin.n32.s`: R106. -/
def vminN32SBody (d a b : Reg) : Body := lane3s (fun _ a b => minN a b) d a b
def execVminN32S (m : Bool) (d a b : Reg) (st : State) : Out := issue m (vminN32SBody d a b) st

/-- `vmax.n32`: R106. -/
def vmaxN32Body (d a b : Reg) : Body := lane3 (fun _ a b => maxN a b) d a b
def execVmaxN32 (m : Bool) (d a b : Reg) (st : State) : Out := issue m (vmaxN32Body d a b) st

/-- `vmax.n32.s`: R106. -/
def vmaxN32SBody (d a b : Reg) : Body := lane3s (fun _ a b => maxN a b) d a b
def execVmaxN32S (m : Bool) (d a b : Reg) (st : State) : Out := issue m (vmaxN32SBody d a b) st

/-- `vabs.i32`: R106. -/
def vabsI32Body (d a : Reg) : Body := lane1 absS d.toNat a.toNat
def execVabsI32 (m : Bool) (d a : Reg) (st : State) : Out := issue m (vabsI32Body d a) st

/-- `vclz`: R106. -/
def vclzBody (d a : Reg) : Body := lane1 clz d.toNat a.toNat
def execVclz (m : Bool) (d a : Reg) (st : State) : Out := issue m (vclzBody d a) st

/-- `vpopc`: R106. -/
def vpopcBody (d a : Reg) : Body := lane1 popc d.toNat a.toNat
def execVpopc (m : Bool) (d a : Reg) (st : State) : Out := issue m (vpopcBody d a) st

/-- `vbrev`: R106. -/
def vbrevBody (d a : Reg) : Body := lane1 brev d.toNat a.toNat
def execVbrev (m : Bool) (d a : Reg) (st : State) : Out := issue m (vbrevBody d a) st

/-- `vcmp.eq`: R107. -/
def vcmpEqBody (d a b : Reg) : Body := laneMask [a.toNat, b.toNat] d.toNat fun g t =>
  Cond.eq.holds (g.getV a.toNat t) (g.getV b.toNat t)
def execVcmpEq (m : Bool) (d a b : Reg) (st : State) : Out := issue m (vcmpEqBody d a b) st

/-- `vcmp.eq.s`: R107. -/
def vcmpEqSBody (d a b : Reg) : Body := laneMask [a.toNat] d.toNat fun g t =>
  Cond.eq.holds (g.getV a.toNat t) ((g.getS b.toNat).setWidth 32)
def execVcmpEqS (m : Bool) (d a b : Reg) (st : State) : Out := issue m (vcmpEqSBody d a b) st

/-- `vcmp.ne`: R107. -/
def vcmpNeBody (d a b : Reg) : Body := laneMask [a.toNat, b.toNat] d.toNat fun g t =>
  Cond.ne.holds (g.getV a.toNat t) (g.getV b.toNat t)
def execVcmpNe (m : Bool) (d a b : Reg) (st : State) : Out := issue m (vcmpNeBody d a b) st

/-- `vcmp.ne.s`: R107. -/
def vcmpNeSBody (d a b : Reg) : Body := laneMask [a.toNat] d.toNat fun g t =>
  Cond.ne.holds (g.getV a.toNat t) ((g.getS b.toNat).setWidth 32)
def execVcmpNeS (m : Bool) (d a b : Reg) (st : State) : Out := issue m (vcmpNeSBody d a b) st

/-- `vcmp.lt`: R107. -/
def vcmpLtBody (d a b : Reg) : Body := laneMask [a.toNat, b.toNat] d.toNat fun g t =>
  Cond.lt.holds (g.getV a.toNat t) (g.getV b.toNat t)
def execVcmpLt (m : Bool) (d a b : Reg) (st : State) : Out := issue m (vcmpLtBody d a b) st

/-- `vcmp.lt.s`: R107. -/
def vcmpLtSBody (d a b : Reg) : Body := laneMask [a.toNat] d.toNat fun g t =>
  Cond.lt.holds (g.getV a.toNat t) ((g.getS b.toNat).setWidth 32)
def execVcmpLtS (m : Bool) (d a b : Reg) (st : State) : Out := issue m (vcmpLtSBody d a b) st

/-- `vcmp.le`: R107. -/
def vcmpLeBody (d a b : Reg) : Body := laneMask [a.toNat, b.toNat] d.toNat fun g t =>
  Cond.le.holds (g.getV a.toNat t) (g.getV b.toNat t)
def execVcmpLe (m : Bool) (d a b : Reg) (st : State) : Out := issue m (vcmpLeBody d a b) st

/-- `vcmp.le.s`: R107. -/
def vcmpLeSBody (d a b : Reg) : Body := laneMask [a.toNat] d.toNat fun g t =>
  Cond.le.holds (g.getV a.toNat t) ((g.getS b.toNat).setWidth 32)
def execVcmpLeS (m : Bool) (d a b : Reg) (st : State) : Out := issue m (vcmpLeSBody d a b) st

/-- `vcmp.gt`: R107. -/
def vcmpGtBody (d a b : Reg) : Body := laneMask [a.toNat, b.toNat] d.toNat fun g t =>
  Cond.gt.holds (g.getV a.toNat t) (g.getV b.toNat t)
def execVcmpGt (m : Bool) (d a b : Reg) (st : State) : Out := issue m (vcmpGtBody d a b) st

/-- `vcmp.gt.s`: R107. -/
def vcmpGtSBody (d a b : Reg) : Body := laneMask [a.toNat] d.toNat fun g t =>
  Cond.gt.holds (g.getV a.toNat t) ((g.getS b.toNat).setWidth 32)
def execVcmpGtS (m : Bool) (d a b : Reg) (st : State) : Out := issue m (vcmpGtSBody d a b) st

/-- `vcmp.ge`: R107. -/
def vcmpGeBody (d a b : Reg) : Body := laneMask [a.toNat, b.toNat] d.toNat fun g t =>
  Cond.ge.holds (g.getV a.toNat t) (g.getV b.toNat t)
def execVcmpGe (m : Bool) (d a b : Reg) (st : State) : Out := issue m (vcmpGeBody d a b) st

/-- `vcmp.ge.s`: R107. -/
def vcmpGeSBody (d a b : Reg) : Body := laneMask [a.toNat] d.toNat fun g t =>
  Cond.ge.holds (g.getV a.toNat t) ((g.getS b.toNat).setWidth 32)
def execVcmpGeS (m : Bool) (d a b : Reg) (st : State) : Out := issue m (vcmpGeSBody d a b) st

/-- `vcmp.lo`: R107. -/
def vcmpLoBody (d a b : Reg) : Body := laneMask [a.toNat, b.toNat] d.toNat fun g t =>
  Cond.lo.holds (g.getV a.toNat t) (g.getV b.toNat t)
def execVcmpLo (m : Bool) (d a b : Reg) (st : State) : Out := issue m (vcmpLoBody d a b) st

/-- `vcmp.lo.s`: R107. -/
def vcmpLoSBody (d a b : Reg) : Body := laneMask [a.toNat] d.toNat fun g t =>
  Cond.lo.holds (g.getV a.toNat t) ((g.getS b.toNat).setWidth 32)
def execVcmpLoS (m : Bool) (d a b : Reg) (st : State) : Out := issue m (vcmpLoSBody d a b) st

/-- `vcmp.ls`: R107. -/
def vcmpLsBody (d a b : Reg) : Body := laneMask [a.toNat, b.toNat] d.toNat fun g t =>
  Cond.ls.holds (g.getV a.toNat t) (g.getV b.toNat t)
def execVcmpLs (m : Bool) (d a b : Reg) (st : State) : Out := issue m (vcmpLsBody d a b) st

/-- `vcmp.ls.s`: R107. -/
def vcmpLsSBody (d a b : Reg) : Body := laneMask [a.toNat] d.toNat fun g t =>
  Cond.ls.holds (g.getV a.toNat t) ((g.getS b.toNat).setWidth 32)
def execVcmpLsS (m : Bool) (d a b : Reg) (st : State) : Out := issue m (vcmpLsSBody d a b) st

/-- `vcmp.hi`: R107. -/
def vcmpHiBody (d a b : Reg) : Body := laneMask [a.toNat, b.toNat] d.toNat fun g t =>
  Cond.hi.holds (g.getV a.toNat t) (g.getV b.toNat t)
def execVcmpHi (m : Bool) (d a b : Reg) (st : State) : Out := issue m (vcmpHiBody d a b) st

/-- `vcmp.hi.s`: R107. -/
def vcmpHiSBody (d a b : Reg) : Body := laneMask [a.toNat] d.toNat fun g t =>
  Cond.hi.holds (g.getV a.toNat t) ((g.getS b.toNat).setWidth 32)
def execVcmpHiS (m : Bool) (d a b : Reg) (st : State) : Out := issue m (vcmpHiSBody d a b) st

/-- `vcmp.hs`: R107. -/
def vcmpHsBody (d a b : Reg) : Body := laneMask [a.toNat, b.toNat] d.toNat fun g t =>
  Cond.hs.holds (g.getV a.toNat t) (g.getV b.toNat t)
def execVcmpHs (m : Bool) (d a b : Reg) (st : State) : Out := issue m (vcmpHsBody d a b) st

/-- `vcmp.hs.s`: R107. -/
def vcmpHsSBody (d a b : Reg) : Body := laneMask [a.toNat] d.toNat fun g t =>
  Cond.hs.holds (g.getV a.toNat t) ((g.getS b.toNat).setWidth 32)
def execVcmpHsS (m : Bool) (d a b : Reg) (st : State) : Out := issue m (vcmpHsSBody d a b) st

/-- `vsel`: R108. -/
def vselBody (d a b : Reg) : Body := laneBody [d.toNat, a.toNat] fun g =>
  g.setV d.toNat fun t => if (g.getS b.toNat).getLsbD t then g.getV a.toNat t else g.getV d.toNat t
def execVsel (m : Bool) (d a b : Reg) (st : State) : Out := issue m (vselBody d a b) st

/-- `vmov`: R108. -/
def vmovBody (d a : Reg) : Body := lane1 (fun x => x) d.toNat a.toNat
def execVmov (m : Bool) (d a : Reg) (st : State) : Out := issue m (vmovBody d a) st

/-- `vmov.s`: R108. -/
def vmovSBody (d b : Reg) : Body := laneBody [d.toNat] fun g => g.setV d.toNat fun _ => (g.getS b.toNat).setWidth 32
def execVmovS (m : Bool) (d b : Reg) (st : State) : Out := issue m (vmovSBody d b) st

/-- `vtid`: R108. -/
def vtidBody (d : Reg) : Body := laneBody [d.toNat] fun g => g.setV d.toNat fun t => BitVec.ofNat 32 t
def execVtid (m : Bool) (d : Reg) (st : State) : Out := issue m (vtidBody d) st

/-- `vaddi` with an immediate or a literal of `limm` (R109, R45). -/
def vaddiLit (d a : Reg) (i : Int) : Body := lane1 (fun x => x + BitVec.ofInt 32 i) d.toNat a.toNat
/-- `vaddi`: R109. -/
def vaddiBody (d a : Reg) (i : BitVec 10) : Body := vaddiLit d a i.toInt
def execVaddi (m : Bool) (d a : Reg) (i : BitVec 10) (st : State) : Out := issue m (vaddiBody d a i) st

/-- `vandi` with an immediate or a literal of `limm` (R109, R45). -/
def vandiLit (d a : Reg) (i : Int) : Body := lane1 (fun x => x &&& BitVec.ofInt 32 i) d.toNat a.toNat
/-- `vandi`: R109. -/
def vandiBody (d a : Reg) (i : BitVec 10) : Body := vandiLit d a i.toInt
def execVandi (m : Bool) (d a : Reg) (i : BitVec 10) (st : State) : Out := issue m (vandiBody d a i) st

/-- `vori` with an immediate or a literal of `limm` (R109, R45). -/
def voriLit (d a : Reg) (i : Int) : Body := lane1 (fun x => x ||| BitVec.ofInt 32 i) d.toNat a.toNat
/-- `vori`: R109. -/
def voriBody (d a : Reg) (i : BitVec 10) : Body := voriLit d a i.toInt
def execVori (m : Bool) (d a : Reg) (i : BitVec 10) (st : State) : Out := issue m (voriBody d a i) st

/-- `vxori` with an immediate or a literal of `limm` (R109, R45). -/
def vxoriLit (d a : Reg) (i : Int) : Body := lane1 (fun x => x ^^^ BitVec.ofInt 32 i) d.toNat a.toNat
/-- `vxori`: R109. -/
def vxoriBody (d a : Reg) (i : BitVec 10) : Body := vxoriLit d a i.toInt
def execVxori (m : Bool) (d a : Reg) (i : BitVec 10) (st : State) : Out := issue m (vxoriBody d a i) st

/-- `vmuli` with an immediate or a literal of `limm` (R109, R45). -/
def vmuliLit (d a : Reg) (i : Int) : Body := lane1 (fun x => x * BitVec.ofInt 32 i) d.toNat a.toNat
/-- `vmuli`: R109. -/
def vmuliBody (d a : Reg) (i : BitVec 10) : Body := vmuliLit d a i.toInt
def execVmuli (m : Bool) (d a : Reg) (i : BitVec 10) (st : State) : Out := issue m (vmuliBody d a i) st

/-- `vmovi` with an immediate or a literal of `limm` (R109, R45). -/
def vmoviLit (d : Reg) (i : Int) : Body := laneBody [d.toNat] fun g => g.setV d.toNat fun _ => BitVec.ofInt 32 i
/-- `vmovi`: R109. -/
def vmoviBody (d : Reg) (i : BitVec 10) : Body := vmoviLit d i.toInt
def execVmovi (m : Bool) (d : Reg) (i : BitVec 10) (st : State) : Out := issue m (vmoviBody d i) st

/-- `vshli`: by imm10[4:0] (R109). -/
def vshliBody (d a : Reg) (c : BitVec 5) : Body := lane1 (fun x => shl x (c.setWidth 32)) d.toNat a.toNat
def execVshli (m : Bool) (d a : Reg) (c : BitVec 5) (st : State) : Out := issue m (vshliBody d a c) st

/-- `vshri`: by imm10[4:0] (R109). -/
def vshriBody (d a : Reg) (c : BitVec 5) : Body := lane1 (fun x => shr x (c.setWidth 32)) d.toNat a.toNat
def execVshri (m : Bool) (d a : Reg) (c : BitVec 5) (st : State) : Out := issue m (vshriBody d a c) st

/-- `vsrai`: by imm10[4:0] (R109). -/
def vsraiBody (d a : Reg) (c : BitVec 5) : Body := lane1 (fun x => sra x (c.setWidth 32)) d.toNat a.toNat
def execVsrai (m : Bool) (d a : Reg) (c : BitVec 5) (st : State) : Out := issue m (vsraiBody d a c) st

/-- `vld` with an immediate or a literal of `limm` (R145, R45). -/
def vldLit (d a : Reg) (g : BitVec 3) (s : Size) (i : Int) : Body := laneLoad s.bytes false d.toNat a.toNat g.toNat i
/-- `vld`: R145. -/
def vldBody (d a : Reg) (g : BitVec 3) (s : Size) (i : BitVec 4) : Body := vldLit d a g s i.toInt
def execVld (m : Bool) (d a : Reg) (g : BitVec 3) (s : Size) (i : BitVec 4) (st : State) : Out := issue m (vldBody d a g s i) st

/-- `vlds` with an immediate or a literal of `limm` (R145, R45). -/
def vldsLit (d a : Reg) (g : BitVec 3) (s : Size) (i : Int) : Body := laneLoad s.bytes true d.toNat a.toNat g.toNat i
/-- `vlds`: R145. -/
def vldsBody (d a : Reg) (g : BitVec 3) (s : Size) (i : BitVec 4) : Body := vldsLit d a g s i.toInt
def execVlds (m : Bool) (d a : Reg) (g : BitVec 3) (s : Size) (i : BitVec 4) (st : State) : Out := issue m (vldsBody d a g s i) st

/-- `vst` with an immediate or a literal of `limm` (R145, R45). -/
def vstLit (d a : Reg) (g : BitVec 3) (s : Size) (i : Int) : Body := laneStore s.bytes d.toNat a.toNat g.toNat i
/-- `vst`: R145. -/
def vstBody (d a : Reg) (g : BitVec 3) (s : Size) (i : BitVec 4) : Body := vstLit d a g s i.toInt
def execVst (m : Bool) (d a : Reg) (g : BitVec 3) (s : Size) (i : BitVec 4) (st : State) : Out := issue m (vstBody d a g s i) st

end Sys2Proof.Machine
end

