-- ==== Sys2Proof/Machine/Scalar.lean ====
section
/-!
DEFINITION. The group set: scalar arithmetic, compares, moves, immediates, masks, flag reads, branches and jumps, and
scalar loads and stores (R75 to R85). Each definition named Body is an instruction's effect; the exec below it issues it.
-/

namespace Sys2Proof.Machine

/-- S(sd) := f(S(sa), S(sb)) (R79). -/
def scalar2 (f : Dword → Dword → Dword) (d a b : Reg) : Body :=
  groupBody fun g => g.setS d.toNat (f (g.getS a.toNat) (g.getS b.toNat))

/-- S(sd) := f(S(sa)). -/
def scalar1 (f : Dword → Dword) (d a : Reg) : Body := groupBody fun g => g.setS d.toNat (f (g.getS a.toNat))

/-- Bits [L-1:0] of a mask, L = min(W, 64) = 64 (R82). -/
def branchOn (c : Dword → Bool) (a : Reg) (o : BitVec 17) : Body := fun s =>
  if c (s.me.getS a.toNat) then .goto s (branchTo s.me.pc o) else .ok s

/-- `nop`: no effect (R78). -/
def nopBody : Body := groupBody fun g => g
def execNop (m : Bool) (st : State) : Out := issue m nopBody st

/-- `yield`: the group becomes the youngest on its core, and its pass-over counts are zero (R65, R78). -/
def yieldBody : Body := fun s => .ok { s.setMe { s.me with age := s.nextAge, passScalar := 0, passVector := 0 } with nextAge := s.nextAge + 1 }
def execYield (m : Bool) (st : State) : Out := issue m yieldBody st

/-- `sadd`: R79. -/
def saddBody (d a b : Reg) : Body := scalar2 (· + ·) d a b
def execSadd (m : Bool) (d a b : Reg) (st : State) : Out := issue m (saddBody d a b) st

/-- `ssub`: R79. -/
def ssubBody (d a b : Reg) : Body := scalar2 (· - ·) d a b
def execSsub (m : Bool) (d a b : Reg) (st : State) : Out := issue m (ssubBody d a b) st

/-- `sadds.i64`: R79. -/
def saddsI64Body (d a b : Reg) : Body := scalar2 addsS d a b
def execSaddsI64 (m : Bool) (d a b : Reg) (st : State) : Out := issue m (saddsI64Body d a b) st

/-- `sadds.n64`: R79. -/
def saddsN64Body (d a b : Reg) : Body := scalar2 addsN d a b
def execSaddsN64 (m : Bool) (d a b : Reg) (st : State) : Out := issue m (saddsN64Body d a b) st

/-- `ssubs.i64`: R79. -/
def ssubsI64Body (d a b : Reg) : Body := scalar2 subsS d a b
def execSsubsI64 (m : Bool) (d a b : Reg) (st : State) : Out := issue m (ssubsI64Body d a b) st

/-- `ssubs.n64`: R79. -/
def ssubsN64Body (d a b : Reg) : Body := scalar2 subsN d a b
def execSsubsN64 (m : Bool) (d a b : Reg) (st : State) : Out := issue m (ssubsN64Body d a b) st

/-- `smul`: R79. -/
def smulBody (d a b : Reg) : Body := scalar2 (· * ·) d a b
def execSmul (m : Bool) (d a b : Reg) (st : State) : Out := issue m (smulBody d a b) st

/-- `smulh.i64`: R79. -/
def smulhI64Body (d a b : Reg) : Body := scalar2 mulhS d a b
def execSmulhI64 (m : Bool) (d a b : Reg) (st : State) : Out := issue m (smulhI64Body d a b) st

/-- `smulh.n64`: R79. -/
def smulhN64Body (d a b : Reg) : Body := scalar2 mulhN d a b
def execSmulhN64 (m : Bool) (d a b : Reg) (st : State) : Out := issue m (smulhN64Body d a b) st

/-- `sdiv.i64`: R79. -/
def sdivI64Body (d a b : Reg) : Body := scalar2 divS d a b
def execSdivI64 (m : Bool) (d a b : Reg) (st : State) : Out := issue m (sdivI64Body d a b) st

/-- `sdiv.n64`: R79. -/
def sdivN64Body (d a b : Reg) : Body := scalar2 divN d a b
def execSdivN64 (m : Bool) (d a b : Reg) (st : State) : Out := issue m (sdivN64Body d a b) st

/-- `srem.i64`: R79. -/
def sremI64Body (d a b : Reg) : Body := scalar2 remS d a b
def execSremI64 (m : Bool) (d a b : Reg) (st : State) : Out := issue m (sremI64Body d a b) st

/-- `srem.n64`: R79. -/
def sremN64Body (d a b : Reg) : Body := scalar2 remN d a b
def execSremN64 (m : Bool) (d a b : Reg) (st : State) : Out := issue m (sremN64Body d a b) st

/-- `sand`: R79. -/
def sandBody (d a b : Reg) : Body := scalar2 (· &&& ·) d a b
def execSand (m : Bool) (d a b : Reg) (st : State) : Out := issue m (sandBody d a b) st

/-- `sor`: R79. -/
def sorBody (d a b : Reg) : Body := scalar2 (· ||| ·) d a b
def execSor (m : Bool) (d a b : Reg) (st : State) : Out := issue m (sorBody d a b) st

/-- `sxor`: R79. -/
def sxorBody (d a b : Reg) : Body := scalar2 (· ^^^ ·) d a b
def execSxor (m : Bool) (d a b : Reg) (st : State) : Out := issue m (sxorBody d a b) st

/-- `sandn`: R79. -/
def sandnBody (d a b : Reg) : Body := scalar2 andn d a b
def execSandn (m : Bool) (d a b : Reg) (st : State) : Out := issue m (sandnBody d a b) st

/-- `sshl`: R79. -/
def sshlBody (d a b : Reg) : Body := scalar2 shl d a b
def execSshl (m : Bool) (d a b : Reg) (st : State) : Out := issue m (sshlBody d a b) st

/-- `sshr`: R79. -/
def sshrBody (d a b : Reg) : Body := scalar2 shr d a b
def execSshr (m : Bool) (d a b : Reg) (st : State) : Out := issue m (sshrBody d a b) st

/-- `ssra`: R79. -/
def ssraBody (d a b : Reg) : Body := scalar2 sra d a b
def execSsra (m : Bool) (d a b : Reg) (st : State) : Out := issue m (ssraBody d a b) st

/-- `srol`: R79. -/
def srolBody (d a b : Reg) : Body := scalar2 rol d a b
def execSrol (m : Bool) (d a b : Reg) (st : State) : Out := issue m (srolBody d a b) st

/-- `smin.i64`: R79. -/
def sminI64Body (d a b : Reg) : Body := scalar2 minS d a b
def execSminI64 (m : Bool) (d a b : Reg) (st : State) : Out := issue m (sminI64Body d a b) st

/-- `smax.i64`: R79. -/
def smaxI64Body (d a b : Reg) : Body := scalar2 maxS d a b
def execSmaxI64 (m : Bool) (d a b : Reg) (st : State) : Out := issue m (smaxI64Body d a b) st

/-- `smin.n64`: R79. -/
def sminN64Body (d a b : Reg) : Body := scalar2 minN d a b
def execSminN64 (m : Bool) (d a b : Reg) (st : State) : Out := issue m (sminN64Body d a b) st

/-- `smax.n64`: R79. -/
def smaxN64Body (d a b : Reg) : Body := scalar2 maxN d a b
def execSmaxN64 (m : Bool) (d a b : Reg) (st : State) : Out := issue m (smaxN64Body d a b) st

/-- `sabs.i64`: R79. -/
def sabsI64Body (d a : Reg) : Body := scalar1 absS d a
def execSabsI64 (m : Bool) (d a : Reg) (st : State) : Out := issue m (sabsI64Body d a) st

/-- `sclz`: R79. -/
def sclzBody (d a : Reg) : Body := scalar1 clz d a
def execSclz (m : Bool) (d a : Reg) (st : State) : Out := issue m (sclzBody d a) st

/-- `spopc`: R79. -/
def spopcBody (d a : Reg) : Body := scalar1 popc d a
def execSpopc (m : Bool) (d a : Reg) (st : State) : Out := issue m (spopcBody d a) st

/-- `sbrev`: R79. -/
def sbrevBody (d a : Reg) : Body := scalar1 brev d a
def execSbrev (m : Bool) (d a : Reg) (st : State) : Out := issue m (sbrevBody d a) st

/-- `scmp.eq`: all ones or zero (R80). -/
def scmpEqBody (d a b : Reg) : Body := scalar2 (fun x y => boolMask (Cond.eq.holds x y)) d a b
def execScmpEq (m : Bool) (d a b : Reg) (st : State) : Out := issue m (scmpEqBody d a b) st

/-- `scmp.ne`: all ones or zero (R80). -/
def scmpNeBody (d a b : Reg) : Body := scalar2 (fun x y => boolMask (Cond.ne.holds x y)) d a b
def execScmpNe (m : Bool) (d a b : Reg) (st : State) : Out := issue m (scmpNeBody d a b) st

/-- `scmp.lt`: all ones or zero (R80). -/
def scmpLtBody (d a b : Reg) : Body := scalar2 (fun x y => boolMask (Cond.lt.holds x y)) d a b
def execScmpLt (m : Bool) (d a b : Reg) (st : State) : Out := issue m (scmpLtBody d a b) st

/-- `scmp.le`: all ones or zero (R80). -/
def scmpLeBody (d a b : Reg) : Body := scalar2 (fun x y => boolMask (Cond.le.holds x y)) d a b
def execScmpLe (m : Bool) (d a b : Reg) (st : State) : Out := issue m (scmpLeBody d a b) st

/-- `scmp.gt`: all ones or zero (R80). -/
def scmpGtBody (d a b : Reg) : Body := scalar2 (fun x y => boolMask (Cond.gt.holds x y)) d a b
def execScmpGt (m : Bool) (d a b : Reg) (st : State) : Out := issue m (scmpGtBody d a b) st

/-- `scmp.ge`: all ones or zero (R80). -/
def scmpGeBody (d a b : Reg) : Body := scalar2 (fun x y => boolMask (Cond.ge.holds x y)) d a b
def execScmpGe (m : Bool) (d a b : Reg) (st : State) : Out := issue m (scmpGeBody d a b) st

/-- `scmp.lo`: all ones or zero (R80). -/
def scmpLoBody (d a b : Reg) : Body := scalar2 (fun x y => boolMask (Cond.lo.holds x y)) d a b
def execScmpLo (m : Bool) (d a b : Reg) (st : State) : Out := issue m (scmpLoBody d a b) st

/-- `scmp.ls`: all ones or zero (R80). -/
def scmpLsBody (d a b : Reg) : Body := scalar2 (fun x y => boolMask (Cond.ls.holds x y)) d a b
def execScmpLs (m : Bool) (d a b : Reg) (st : State) : Out := issue m (scmpLsBody d a b) st

/-- `scmp.hi`: all ones or zero (R80). -/
def scmpHiBody (d a b : Reg) : Body := scalar2 (fun x y => boolMask (Cond.hi.holds x y)) d a b
def execScmpHi (m : Bool) (d a b : Reg) (st : State) : Out := issue m (scmpHiBody d a b) st

/-- `scmp.hs`: all ones or zero (R80). -/
def scmpHsBody (d a b : Reg) : Body := scalar2 (fun x y => boolMask (Cond.hs.holds x y)) d a b
def execScmpHs (m : Bool) (d a b : Reg) (st : State) : Out := issue m (scmpHsBody d a b) st

/-- `smov`: R80. -/
def smovBody (d a : Reg) : Body := scalar1 (fun x => x) d a
def execSmov (m : Bool) (d a : Reg) (st : State) : Out := issue m (smovBody d a) st

/-- `scsel`: bits of a where sd has ones, else of b (R80). -/
def scselBody (d a b : Reg) : Body := groupBody fun g => let k := g.getS d.toNat
    g.setS d.toNat ((g.getS a.toNat &&& k) ||| andn (g.getS b.toNat) k)
def execScsel (m : Bool) (d a b : Reg) (st : State) : Out := issue m (scselBody d a b) st

/-- S(sd) := f(S(sa), i) for an immediate or literal already extended (R81). -/
def scalarImm (f : Dword → Dword → Dword) (d a : Nat) (i : Int) : Body :=
  groupBody fun g => g.setS d (f (g.getS a) (BitVec.ofInt 64 i))

/-- `saddi` with an immediate or a literal of `limm` (R81, R45). -/
def saddiLit (d a : Reg) (i : Int) : Body := scalarImm (· + ·) d.toNat a.toNat i
/-- `saddi`: R81. -/
def saddiBody (d a : Reg) (i : BitVec 10) : Body := saddiLit d a i.toInt
def execSaddi (m : Bool) (d a : Reg) (i : BitVec 10) (st : State) : Out := issue m (saddiBody d a i) st

/-- `sandi` with an immediate or a literal of `limm` (R81, R45). -/
def sandiLit (d a : Reg) (i : Int) : Body := scalarImm (· &&& ·) d.toNat a.toNat i
/-- `sandi`: R81. -/
def sandiBody (d a : Reg) (i : BitVec 10) : Body := sandiLit d a i.toInt
def execSandi (m : Bool) (d a : Reg) (i : BitVec 10) (st : State) : Out := issue m (sandiBody d a i) st

/-- `sori` with an immediate or a literal of `limm` (R81, R45). -/
def soriLit (d a : Reg) (i : Int) : Body := scalarImm (· ||| ·) d.toNat a.toNat i
/-- `sori`: R81. -/
def soriBody (d a : Reg) (i : BitVec 10) : Body := soriLit d a i.toInt
def execSori (m : Bool) (d a : Reg) (i : BitVec 10) (st : State) : Out := issue m (soriBody d a i) st

/-- `sxori` with an immediate or a literal of `limm` (R81, R45). -/
def sxoriLit (d a : Reg) (i : Int) : Body := scalarImm (· ^^^ ·) d.toNat a.toNat i
/-- `sxori`: R81. -/
def sxoriBody (d a : Reg) (i : BitVec 10) : Body := sxoriLit d a i.toInt
def execSxori (m : Bool) (d a : Reg) (i : BitVec 10) (st : State) : Out := issue m (sxoriBody d a i) st

/-- `sshli`: by imm10[5:0] (R81). -/
def sshliBody (d a : Reg) (c : BitVec 6) : Body := scalarImm shl d.toNat a.toNat c.toNat
def execSshli (m : Bool) (d a : Reg) (c : BitVec 6) (st : State) : Out := issue m (sshliBody d a c) st

/-- `sshri`: by imm10[5:0] (R81). -/
def sshriBody (d a : Reg) (c : BitVec 6) : Body := scalarImm shr d.toNat a.toNat c.toNat
def execSshri (m : Bool) (d a : Reg) (c : BitVec 6) (st : State) : Out := issue m (sshriBody d a c) st

/-- `ssrai`: by imm10[5:0] (R81). -/
def ssraiBody (d a : Reg) (c : BitVec 6) : Body := scalarImm sra d.toNat a.toNat c.toNat
def execSsrai (m : Bool) (d a : Reg) (c : BitVec 6) (st : State) : Out := issue m (ssraiBody d a c) st

/-- `smovi` with an immediate or a literal of `limm` (R81, R45). -/
def smoviLit (d : Reg) (i : Int) : Body := scalarImm (fun _ y => y) d.toNat 0 i
/-- `smovi`: R81. -/
def smoviBody (d : Reg) (i : BitVec 10) : Body := smoviLit d i.toInt
def execSmovi (m : Bool) (d : Reg) (i : BitVec 10) (st : State) : Out := issue m (smoviBody d i) st

/-- `mand`: R82. -/
def mandBody (d a b : Reg) : Body := scalar2 (· &&& ·) d a b
def execMand (m : Bool) (d a b : Reg) (st : State) : Out := issue m (mandBody d a b) st

/-- `mor`: R82. -/
def morBody (d a b : Reg) : Body := scalar2 (· ||| ·) d a b
def execMor (m : Bool) (d a b : Reg) (st : State) : Out := issue m (morBody d a b) st

/-- `mxor`: R82. -/
def mxorBody (d a b : Reg) : Body := scalar2 (· ^^^ ·) d a b
def execMxor (m : Bool) (d a b : Reg) (st : State) : Out := issue m (mxorBody d a b) st

/-- `mandn`: R82. -/
def mandnBody (d a b : Reg) : Body := scalar2 andn d a b
def execMandn (m : Bool) (d a b : Reg) (st : State) : Out := issue m (mandnBody d a b) st

/-- `mnot`: R82, with L = 64. -/
def mnotBody (d a : Reg) : Body := scalar1 (fun x => ~~~x) d a
def execMnot (m : Bool) (d a : Reg) (st : State) : Out := issue m (mnotBody d a) st

/-- `mpopc`: R82, with L = 64. -/
def mpopcBody (d a : Reg) : Body := scalar1 popc d a
def execMpopc (m : Bool) (d a : Reg) (st : State) : Out := issue m (mpopcBody d a) st

/-- `mffs`: R82, with L = 64. -/
def mffsBody (d a : Reg) : Body := scalar1 ffs64 d a
def execMffs (m : Bool) (d a : Reg) (st : State) : Out := issue m (mffsBody d a) st

/-- `mfls`: R82, with L = 64. -/
def mflsBody (d a : Reg) : Body := scalar1 fls64 d a
def execMfls (m : Bool) (d a : Reg) (st : State) : Out := issue m (mflsBody d a) st

/-- `mff.nv`: half n = 1 is above W (R82). -/
def mffNvBody (d : Reg) (n : Bool) : Body := groupBody fun g => g.setS d.toNat (if n then 0 else g.ff.get .nv)
def execMffNv (m : Bool) (d : Reg) (n : Bool) (st : State) : Out := issue m (mffNvBody d n) st

/-- `mff.dz`: half n = 1 is above W (R82). -/
def mffDzBody (d : Reg) (n : Bool) : Body := groupBody fun g => g.setS d.toNat (if n then 0 else g.ff.get .dz)
def execMffDz (m : Bool) (d : Reg) (n : Bool) (st : State) : Out := issue m (mffDzBody d n) st

/-- `mff.of`: half n = 1 is above W (R82). -/
def mffOfBody (d : Reg) (n : Bool) : Body := groupBody fun g => g.setS d.toNat (if n then 0 else g.ff.get .of)
def execMffOf (m : Bool) (d : Reg) (n : Bool) (st : State) : Out := issue m (mffOfBody d n) st

/-- `mff.uf`: half n = 1 is above W (R82). -/
def mffUfBody (d : Reg) (n : Bool) : Body := groupBody fun g => g.setS d.toNat (if n then 0 else g.ff.get .uf)
def execMffUf (m : Bool) (d : Reg) (n : Bool) (st : State) : Out := issue m (mffUfBody d n) st

/-- `mff.nx`: half n = 1 is above W (R82). -/
def mffNxBody (d : Reg) (n : Bool) : Body := groupBody fun g => g.setS d.toNat (if n then 0 else g.ff.get .nx)
def execMffNx (m : Bool) (d : Reg) (n : Bool) (st : State) : Out := issue m (mffNxBody d n) st

/-- `mffclr`: clears the five flags of the threads of a mask (R82). -/
def mffclrBody (a : Reg) (n : Bool) : Body := groupBody fun g => if n then g else { g with ff := g.ff.clear (g.getS a.toNat) }
def execMffclr (m : Bool) (a : Reg) (n : Bool) (st : State) : Out := issue m (mffclrBody a n) st

/-- `br`: R83. -/
def brBody (o : BitVec 24) : Body := fun s => .goto s (branchTo s.me.pc o)
def execBr (m : Bool) (o : BitVec 24) (st : State) : Out := issue m (brBody o) st

/-- `call`: R83. -/
def callBody (o : BitVec 24) : Body := fun s => .goto (s.setMe (s.me.setS 125 (BitVec.ofNat 64 (s.me.pc + 4)))) (branchTo s.me.pc o)
def execCall (m : Bool) (o : BitVec 24) (st : State) : Out := issue m (callBody o) st

/-- `bz`: R83. -/
def bzBody (a : Reg) (o : BitVec 17) : Body := branchOn (· == 0) a o
def execBz (m : Bool) (a : Reg) (o : BitVec 17) (st : State) : Out := issue m (bzBody a o) st

/-- `bnz`: R83. -/
def bnzBody (a : Reg) (o : BitVec 17) : Body := branchOn (· != 0) a o
def execBnz (m : Bool) (a : Reg) (o : BitVec 17) (st : State) : Out := issue m (bnzBody a o) st

/-- `bmz`: R83, with L = 64. -/
def bmzBody (a : Reg) (o : BitVec 17) : Body := branchOn (· == 0) a o
def execBmz (m : Bool) (a : Reg) (o : BitVec 17) (st : State) : Out := issue m (bmzBody a o) st

/-- `bmnz`: R83, with L = 64. -/
def bmnzBody (a : Reg) (o : BitVec 17) : Body := branchOn (· != 0) a o
def execBmnz (m : Bool) (a : Reg) (o : BitVec 17) (st : State) : Out := issue m (bmnzBody a o) st

/-- A group that jumps: `jr` and `jalr` clear a control processor's fault state, which stepArmed is there (R369). -/
def Group.jumped (g : Group) : Group := if g.mode = .control then { g with stepArmed := false } else g

/-- A jump to the address in a register; a misaligned one is illegal (R84). -/
def jumpTo (link : Option Nat) (a : Nat) : Body := fun s =>
  let t := (s.me.getS a).toNat
  let g := s.me.jumped
  if t % 4 ≠ 0 then illegal s
  else match link with
    | none => .goto (s.setMe g) t
    | some d => .goto (s.setMe (g.setS d (BitVec.ofNat 64 (g.pc + 4)))) t

/-- `jr`: R84. -/
def jrBody (a : Reg) : Body := jumpTo none a.toNat
def execJr (m : Bool) (a : Reg) (st : State) : Out := issue m (jrBody a) st

/-- `jalr`: R84. -/
def jalrBody (d a : Reg) : Body := jumpTo (some d.toNat) a.toNat
def execJalr (m : Bool) (d a : Reg) (st : State) : Out := issue m (jalrBody d a) st

/-- `sld` with an immediate or a literal of `limm` (R85, R45). -/
def sldLit (d a : Reg) (g : BitVec 3) (s : Size) (i : Int) : Body := scalarLoad s.bytes false d.toNat a.toNat g.toNat i
/-- `sld`: R85. -/
def sldBody (d a : Reg) (g : BitVec 3) (s : Size) (i : BitVec 4) : Body := sldLit d a g s i.toInt
def execSld (m : Bool) (d a : Reg) (g : BitVec 3) (s : Size) (i : BitVec 4) (st : State) : Out := issue m (sldBody d a g s i) st

/-- `slds` with an immediate or a literal of `limm` (R85, R45). -/
def sldsLit (d a : Reg) (g : BitVec 3) (s : Size) (i : Int) : Body := scalarLoad s.bytes true d.toNat a.toNat g.toNat i
/-- `slds`: R85. -/
def sldsBody (d a : Reg) (g : BitVec 3) (s : Size) (i : BitVec 4) : Body := sldsLit d a g s i.toInt
def execSlds (m : Bool) (d a : Reg) (g : BitVec 3) (s : Size) (i : BitVec 4) (st : State) : Out := issue m (sldsBody d a g s i) st

/-- `sst` with an immediate or a literal of `limm` (R85, R45). -/
def sstLit (d a : Reg) (g : BitVec 3) (s : Size) (i : Int) : Body := scalarStore s.bytes d.toNat a.toNat g.toNat i
/-- `sst`: R85. -/
def sstBody (d a : Reg) (g : BitVec 3) (s : Size) (i : BitVec 4) : Body := sstLit d a g s i.toInt
def execSst (m : Bool) (d a : Reg) (g : BitVec 3) (s : Size) (i : BitVec 4) (st : State) : Out := issue m (sstBody d a g s i) st

end Sys2Proof.Machine
end

