-- ==== Sys2Proof/Machine/RunWord.lean ====
section
/-!
DEFINITION. The body of a word that is no prefix, read from its bits as the decoder reads them. The machine issues words
through these functions; Laws/Run.lean proves that what it issues is the meaning of the decoded instruction.
-/

namespace Sys2Proof.Machine

/-- `sysw` to a register whose write is a row of its own is that row's (R347). -/
def bodySysw (r : BitVec 12) (s : Reg) : Body :=
  match r.toNat with
  | 0x001 => srseedWriteBody s
  | 0x0C0 => pavQuotaWriteBody s
  | 0x0C1 => keyLoadBody s
  | 0x0C2 => attestStartBody s
  | 0x0C3 => measExtendBody s
  | 0x084 => fabLostClearBody s
  | 0x085 => devLostClearBody false s
  | 0x086 => devLostClearBody true s
  | _ => syswBody r s

/-- The function codes of the LR majors (R49). -/
def bodyLR (maj : Nat) (fn : Nat) (d a b : Reg) : Decoded Body :=
  match maj with
  | 1 => match fn with
    | 0 => .ok (vaddBody d a b)
    | 1 => .ok (vsubBody d a b)
    | 2 => .ok (vaddsI32Body d a b)
    | 3 => .ok (vaddsN32Body d a b)
    | 4 => .ok (vsubsI32Body d a b)
    | 5 => .ok (vsubsN32Body d a b)
    | _ => .error .reservedFunction
  | 2 => match fn with
    | 0 => .ok (vmulBody d a b)
    | 1 => .ok (vmulhI32Body d a b)
    | 2 => .ok (vmulhN32Body d a b)
    | 3 => .ok (vmadBody d a b)
    | 4 => .ok (vdivI32Body d a b)
    | 5 => .ok (vdivN32Body d a b)
    | 6 => .ok (vremI32Body d a b)
    | 7 => .ok (vremN32Body d a b)
    | _ => .error .reservedFunction
  | 3 => match fn with
    | 0 => .ok (vandBody d a b)
    | 1 => .ok (vorBody d a b)
    | 2 => .ok (vxorBody d a b)
    | 3 => .ok (vandnBody d a b)
    | 4 => .ok (vshlBody d a b)
    | 5 => .ok (vshrBody d a b)
    | 6 => .ok (vsraBody d a b)
    | 7 => .ok (vrolBody d a b)
    | _ => .error .reservedFunction
  | 4 => match fn with
    | 0 => .ok (vminI32Body d a b)
    | 1 => .ok (vmaxI32Body d a b)
    | 2 => .ok (vminN32Body d a b)
    | 3 => .ok (vmaxN32Body d a b)
    | 4 => fields (b == 0) (vabsI32Body d a)
    | 5 => fields (b == 0) (vclzBody d a)
    | 6 => fields (b == 0) (vpopcBody d a)
    | 7 => fields (b == 0) (vbrevBody d a)
    | _ => .error .reservedFunction
  | 5 => match fn with
    | 0 => .ok (vcmpEqBody d a b)
    | 1 => .ok (vcmpNeBody d a b)
    | 2 => .ok (vcmpLtBody d a b)
    | 3 => .ok (vcmpLeBody d a b)
    | 4 => .ok (vcmpGtBody d a b)
    | 5 => .ok (vcmpGeBody d a b)
    | _ => .error .reservedFunction
  | 6 => match fn with
    | 0 => .ok (vcmpLoBody d a b)
    | 1 => .ok (vcmpLsBody d a b)
    | 2 => .ok (vcmpHiBody d a b)
    | 3 => .ok (vcmpHsBody d a b)
    | _ => .error .reservedFunction
  | 7 => match fn with
    | 0 => .ok (vselBody d a b)
    | 1 => fields (b == 0) (vmovBody d a)
    | 2 => fields (a == 0) (vmovSBody d b)
    | 3 => fields (a == 0 && b == 0) (vtidBody d)
    | _ => .error .reservedFunction
  | 8 => match fn with
    | 0 => .ok (vaddSBody d a b)
    | 1 => .ok (vsubSBody d a b)
    | 2 => .ok (vaddsI32SBody d a b)
    | 3 => .ok (vaddsN32SBody d a b)
    | 4 => .ok (vsubsI32SBody d a b)
    | 5 => .ok (vsubsN32SBody d a b)
    | _ => .error .reservedFunction
  | 9 => match fn with
    | 0 => .ok (vmulSBody d a b)
    | 1 => .ok (vmulhI32SBody d a b)
    | 2 => .ok (vmulhN32SBody d a b)
    | 3 => .ok (vmadSBody d a b)
    | 4 => .ok (vdivI32SBody d a b)
    | 5 => .ok (vdivN32SBody d a b)
    | 6 => .ok (vremI32SBody d a b)
    | 7 => .ok (vremN32SBody d a b)
    | _ => .error .reservedFunction
  | 10 => match fn with
    | 0 => .ok (vandSBody d a b)
    | 1 => .ok (vorSBody d a b)
    | 2 => .ok (vxorSBody d a b)
    | 3 => .ok (vandnSBody d a b)
    | 4 => .ok (vshlSBody d a b)
    | 5 => .ok (vshrSBody d a b)
    | 6 => .ok (vsraSBody d a b)
    | 7 => .ok (vrolSBody d a b)
    | _ => .error .reservedFunction
  | 11 => match fn with
    | 0 => .ok (vminI32SBody d a b)
    | 1 => .ok (vmaxI32SBody d a b)
    | 2 => .ok (vminN32SBody d a b)
    | 3 => .ok (vmaxN32SBody d a b)
    | _ => .error .reservedFunction
  | 12 => match fn with
    | 0 => .ok (vcmpEqSBody d a b)
    | 1 => .ok (vcmpNeSBody d a b)
    | 2 => .ok (vcmpLtSBody d a b)
    | 3 => .ok (vcmpLeSBody d a b)
    | 4 => .ok (vcmpGtSBody d a b)
    | 5 => .ok (vcmpGeSBody d a b)
    | _ => .error .reservedFunction
  | 13 => match fn with
    | 0 => .ok (vcmpLoSBody d a b)
    | 1 => .ok (vcmpLsSBody d a b)
    | 2 => .ok (vcmpHiSBody d a b)
    | 3 => .ok (vcmpHsSBody d a b)
    | _ => .error .reservedFunction
  | 24 => match fn with
    | 0 => .ok (vfaddF32Body d a b)
    | 1 => .ok (vfsubF32Body d a b)
    | 2 => .ok (vfmulF32Body d a b)
    | 3 => .ok (vfminF32Body d a b)
    | 4 => .ok (vfmaxF32Body d a b)
    | 5 => .ok (vfmaF32Body d a b)
    | 6 => .ok (vfmsF32Body d a b)
    | 7 => .ok (vfnmaF32Body d a b)
    | _ => .error .reservedFunction
  | 25 => match fn with
    | 0 => .ok (vfaddF16x2Body d a b)
    | 1 => .ok (vfsubF16x2Body d a b)
    | 2 => .ok (vfmulF16x2Body d a b)
    | 3 => .ok (vfminF16x2Body d a b)
    | 4 => .ok (vfmaxF16x2Body d a b)
    | 5 => .ok (vfmaF16x2Body d a b)
    | 6 => .ok (vfmsF16x2Body d a b)
    | 7 => .ok (vfnmaF16x2Body d a b)
    | _ => .error .reservedFunction
  | 26 => match fn with
    | 0 => .ok (vfaddBf16x2Body d a b)
    | 1 => .ok (vfsubBf16x2Body d a b)
    | 2 => .ok (vfmulBf16x2Body d a b)
    | 3 => .ok (vfminBf16x2Body d a b)
    | 4 => .ok (vfmaxBf16x2Body d a b)
    | 5 => .ok (vfmaBf16x2Body d a b)
    | 6 => .ok (vfmsBf16x2Body d a b)
    | 7 => .ok (vfnmaBf16x2Body d a b)
    | _ => .error .reservedFunction
  | 27 => match fn with
    | 0 => .ok (vfaddF32SBody d a b)
    | 1 => .ok (vfsubF32SBody d a b)
    | 2 => .ok (vfmulF32SBody d a b)
    | 3 => .ok (vfminF32SBody d a b)
    | 4 => .ok (vfmaxF32SBody d a b)
    | 5 => .ok (vfmaF32SBody d a b)
    | 6 => .ok (vfmsF32SBody d a b)
    | 7 => .ok (vfnmaF32SBody d a b)
    | _ => .error .reservedFunction
  | 28 => match fn with
    | 0 => .ok (vfcmpEqF32Body d a b)
    | 1 => .ok (vfcmpNeF32Body d a b)
    | 2 => .ok (vfcmpLtF32Body d a b)
    | 3 => .ok (vfcmpLeF32Body d a b)
    | 4 => .ok (vfcmpGtF32Body d a b)
    | 5 => .ok (vfcmpGeF32Body d a b)
    | 6 => .ok (vfcmpUnF32Body d a b)
    | _ => .error .reservedFunction
  | 29 => match fn with
    | 0 => operand (pairReg d) (vfcmpEqF16x2Body d a b)
    | 1 => operand (pairReg d) (vfcmpNeF16x2Body d a b)
    | 2 => operand (pairReg d) (vfcmpLtF16x2Body d a b)
    | 3 => operand (pairReg d) (vfcmpLeF16x2Body d a b)
    | 4 => operand (pairReg d) (vfcmpGtF16x2Body d a b)
    | 5 => operand (pairReg d) (vfcmpGeF16x2Body d a b)
    | 6 => operand (pairReg d) (vfcmpUnF16x2Body d a b)
    | _ => .error .reservedFunction
  | 30 => match fn with
    | 0 => operand (pairReg d) (vfcmpEqBf16x2Body d a b)
    | 1 => operand (pairReg d) (vfcmpNeBf16x2Body d a b)
    | 2 => operand (pairReg d) (vfcmpLtBf16x2Body d a b)
    | 3 => operand (pairReg d) (vfcmpLeBf16x2Body d a b)
    | 4 => operand (pairReg d) (vfcmpGtBf16x2Body d a b)
    | 5 => operand (pairReg d) (vfcmpGeBf16x2Body d a b)
    | 6 => operand (pairReg d) (vfcmpUnBf16x2Body d a b)
    | _ => .error .reservedFunction
  | 31 => match fn with
    | 0 => fields (b == 0) (vfclassF32Body d a)
    | 1 => fields (b == 0) (vfclassF16x2Body d a)
    | 2 => fields (b == 0) (vfclassBf16x2Body d a)
    | _ => .error .reservedFunction
  | 32 => match fn with
    | 0 => fields (b == 0) (vrcpBody d a)
    | 1 => fields (b == 0) (vrsqBody d a)
    | 2 => fields (b == 0) (vsqrtBody d a)
    | 3 => fields (b == 0) (vexp2Body d a)
    | 4 => fields (b == 0) (vlog2Body d a)
    | 5 => fields (b == 0) (vsinBody d a)
    | 6 => fields (b == 0) (vcosBody d a)
    | 7 => fields (b == 0) (vtanhBody d a)
    | _ => .error .reservedFunction
  | 33 => match fn with
    | 0 => .ok (vfdivF32Body d a b)
    | 1 => .ok (vfdivF32SBody d a b)
    | _ => .error .reservedFunction
  | 34 => match fn with
    | 0 => operand (cvtOk false false b) (vcvtBody d a b)
    | 1 => operand (cvtOk false true b) (vcvtSrBody d a b)
    | 2 => operand (cvtOk true false b) (vcvtSatBody d a b)
    | 3 => operand (cvtOk true true b) (vcvtSatSrBody d a b)
    | _ => .error .reservedFunction
  | 35 => match fn with
    | 0 => fields (b == 0) (vqblkE2m1xBody d a)
    | 1 => fields (b == 0) (vqblkE4m3Body d a)
    | 2 => fields (b == 0) (vqblkE5m2Body d a)
    | _ => .error .reservedFunction
  | 36 => match fn with
    | 0 => fields (a == 0 && b == 0) (vpopaBody d)
    | _ => .error .reservedFunction
  | 40 => match fn with
    | 0 => .ok (vshflIdxBody d a b)
    | 1 => .ok (vshflUpBody d a b)
    | 2 => .ok (vshflDownBody d a b)
    | 3 => .ok (vshflXorBody d a b)
    | _ => .error .reservedFunction
  | 41 => match fn with
    | 0 => operand (evenReg b) (vperm8LoBody d a b)
    | 1 => operand (evenReg b) (vperm8HiBody d a b)
    | _ => .error .reservedFunction
  | 42 => match fn with
    | 0 => .ok (vbcastBody d a b)
    | _ => .error .reservedFunction
  | 43 => match fn with
    | 0 => .ok (vextBody d a b)
    | _ => .error .reservedFunction
  | 44 => match fn with
    | 0 => fields (b == 0) (vlredAddI32Body d a)
    | 1 => fields (b == 0) (vlredMinI32Body d a)
    | 2 => fields (b == 0) (vlredMaxI32Body d a)
    | 3 => fields (b == 0) (vlredMinN32Body d a)
    | 4 => fields (b == 0) (vlredMaxN32Body d a)
    | 5 => fields (b == 0) (vlredFaddF32Body d a)
    | 6 => fields (b == 0) (vlredFminF32Body d a)
    | 7 => fields (b == 0) (vlredFmaxF32Body d a)
    | _ => .error .reservedFunction
  | 45 => match fn with
    | 0 => fields (b == 0) (vscanAddI32Body d a)
    | 1 => fields (b == 0) (vscanMinI32Body d a)
    | 2 => fields (b == 0) (vscanMaxI32Body d a)
    | 3 => fields (b == 0) (vscanMinN32Body d a)
    | 4 => fields (b == 0) (vscanMaxN32Body d a)
    | 5 => fields (b == 0) (vscanFaddF32Body d a)
    | 6 => fields (b == 0) (vscanFminF32Body d a)
    | 7 => fields (b == 0) (vscanFmaxF32Body d a)
    | _ => .error .reservedFunction
  | 46 => match fn with
    | 0 => operand (voteOk a b) (voteAnyBody d a b)
    | 1 => operand (voteOk a b) (voteAllBody d a b)
    | 2 => operand (voteOk a b) (voteBallotBody d a b)
    | _ => .error .reservedFunction
  | 47 => match fn with
    | 0 => operand (voteOk a b) (vfirstBody d a b)
    | _ => .error .reservedFunction
  | _ => .error .unassignedMajor

/-- The LI majors (R47). -/
def bodyLI (maj : Nat) (d a : Reg) (i : BitVec 10) : Decoded Body :=
  match maj with
  | 14 => .ok (vaddiBody d a i)
  | 15 => fields (a == 0) (vmoviBody d i)
  | 16 => .ok (vandiBody d a i)
  | 17 => .ok (voriBody d a i)
  | 18 => .ok (vxoriBody d a i)
  | 19 => fields (hiIs 5 0 i) (vshliBody d a (i.setWidth 5))
  | 20 => fields (hiIs 5 0 i) (vshriBody d a (i.setWidth 5))
  | 21 => fields (hiIs 5 0 i) (vsraiBody d a (i.setWidth 5))
  | 22 => .ok (vmuliBody d a i)
  | _ => .error .unassignedMajor

/-- The LM majors (R47, R36). -/
def bodyLM (maj : Nat) (d a : Reg) (g : BitVec 3) (s : Size) (i : BitVec 4) : Decoded Body :=
  match maj with
  | 48 => .ok (vldBody d a g s i)
  | 49 => sizeUpTo 2 s (vldsBody d a g s i)
  | 50 => .ok (vstBody d a g s i)
  | 51 => match i.toNat with
    | 0 => opSize 0 s (vatomAddBody d a g s)
    | 1 => opSize 1 s (vatomSubBody d a g s)
    | 2 => opSize 2 s (vatomMinIBody d a g s)
    | 3 => opSize 3 s (vatomMaxIBody d a g s)
    | 4 => opSize 4 s (vatomMinNBody d a g s)
    | 5 => opSize 5 s (vatomMaxNBody d a g s)
    | 6 => opSize 6 s (vatomAndBody d a g s)
    | 7 => opSize 7 s (vatomOrBody d a g s)
    | 8 => opSize 8 s (vatomXorBody d a g s)
    | 9 => opSize 9 s (vatomXchgBody d a g s)
    | 10 => opSize 10 s (vatomCasBody d a g s)
    | 11 => opSize 11 s (vatomFaddBody d a g s)
    | 12 => opSize 12 s (vatomFminBody d a g s)
    | 13 => opSize 13 s (vatomFmaxBody d a g s)
    | 14 => opSize 14 s (vatomAddBf16x2Body d a g s)
    | _ => .error .reservedOp
  | 52 => match i.toNat with
    | 0 => opSize 0 s (vredAddBody d a g s)
    | 1 => opSize 1 s (vredSubBody d a g s)
    | 2 => opSize 2 s (vredMinIBody d a g s)
    | 3 => opSize 3 s (vredMaxIBody d a g s)
    | 4 => opSize 4 s (vredMinNBody d a g s)
    | 5 => opSize 5 s (vredMaxNBody d a g s)
    | 6 => opSize 6 s (vredAndBody d a g s)
    | 7 => opSize 7 s (vredOrBody d a g s)
    | 8 => opSize 8 s (vredXorBody d a g s)
    | 11 => opSize 11 s (vredFaddBody d a g s)
    | 12 => opSize 12 s (vredFminBody d a g s)
    | 13 => opSize 13 s (vredFmaxBody d a g s)
    | 14 => opSize 14 s (vredAddBf16x2Body d a g s)
    | _ => .error .reservedOp
  | _ => .error .unassignedMajor

/-- The function codes of the GR majors (R50). -/
def bodyGR (maj : Nat) (fn : Nat) (d a b : Reg) : Decoded Body :=
  match maj with
  | 0 => match fn with
    | 0 => fields (d == 0 && a == 0 && b == 0) (nopBody)
    | 1 => fields (d == 0 && a == 0 && b == 0) (yieldBody)
    | 2 => fields (d == 0 && a == 0 && b == 0) (exitBody)
    | _ => .error .reservedFunction
  | 1 => match fn with
    | 0 => .ok (saddBody d a b)
    | 1 => .ok (ssubBody d a b)
    | 2 => .ok (saddsI64Body d a b)
    | 3 => .ok (saddsN64Body d a b)
    | 4 => .ok (ssubsI64Body d a b)
    | 5 => .ok (ssubsN64Body d a b)
    | _ => .error .reservedFunction
  | 2 => match fn with
    | 0 => .ok (smulBody d a b)
    | 1 => .ok (smulhI64Body d a b)
    | 2 => .ok (smulhN64Body d a b)
    | 4 => .ok (sdivI64Body d a b)
    | 5 => .ok (sdivN64Body d a b)
    | 6 => .ok (sremI64Body d a b)
    | 7 => .ok (sremN64Body d a b)
    | _ => .error .reservedFunction
  | 3 => match fn with
    | 0 => .ok (sandBody d a b)
    | 1 => .ok (sorBody d a b)
    | 2 => .ok (sxorBody d a b)
    | 3 => .ok (sandnBody d a b)
    | 4 => .ok (sshlBody d a b)
    | 5 => .ok (sshrBody d a b)
    | 6 => .ok (ssraBody d a b)
    | 7 => .ok (srolBody d a b)
    | _ => .error .reservedFunction
  | 4 => match fn with
    | 0 => .ok (sminI64Body d a b)
    | 1 => .ok (smaxI64Body d a b)
    | 2 => .ok (sminN64Body d a b)
    | 3 => .ok (smaxN64Body d a b)
    | 4 => fields (b == 0) (sabsI64Body d a)
    | 5 => fields (b == 0) (sclzBody d a)
    | 6 => fields (b == 0) (spopcBody d a)
    | 7 => fields (b == 0) (sbrevBody d a)
    | _ => .error .reservedFunction
  | 5 => match fn with
    | 0 => .ok (scmpEqBody d a b)
    | 1 => .ok (scmpNeBody d a b)
    | 2 => .ok (scmpLtBody d a b)
    | 3 => .ok (scmpLeBody d a b)
    | 4 => .ok (scmpGtBody d a b)
    | 5 => .ok (scmpGeBody d a b)
    | _ => .error .reservedFunction
  | 6 => match fn with
    | 0 => .ok (scmpLoBody d a b)
    | 1 => .ok (scmpLsBody d a b)
    | 2 => .ok (scmpHiBody d a b)
    | 3 => .ok (scmpHsBody d a b)
    | _ => .error .reservedFunction
  | 7 => match fn with
    | 0 => fields (b == 0) (smovBody d a)
    | 1 => .ok (scselBody d a b)
    | _ => .error .reservedFunction
  | 16 => match fn with
    | 0 => .ok (mandBody d a b)
    | 1 => .ok (morBody d a b)
    | 2 => .ok (mxorBody d a b)
    | 3 => .ok (mandnBody d a b)
    | 4 => fields (b == 0) (mnotBody d a)
    | 5 => fields (b == 0) (mpopcBody d a)
    | 6 => fields (b == 0) (mffsBody d a)
    | 7 => fields (b == 0) (mflsBody d a)
    | _ => .error .reservedFunction
  | 17 => match fn with
    | 0 => fields (a == 0 && hiIs 1 0 b) (mffNvBody d (b.getLsbD 0))
    | 1 => fields (a == 0 && hiIs 1 0 b) (mffDzBody d (b.getLsbD 0))
    | 2 => fields (a == 0 && hiIs 1 0 b) (mffOfBody d (b.getLsbD 0))
    | 3 => fields (a == 0 && hiIs 1 0 b) (mffUfBody d (b.getLsbD 0))
    | 4 => fields (a == 0 && hiIs 1 0 b) (mffNxBody d (b.getLsbD 0))
    | 5 => fields (d == 0 && hiIs 1 0 b) (mffclrBody a (b.getLsbD 0))
    | _ => .error .reservedFunction
  | 30 => match fn with
    | 0 => fields (d == 0 && b == 0) (jrBody a)
    | 1 => fields (b == 0) (jalrBody d a)
    | _ => .error .reservedFunction
  | 36 => match fn with
    | 0 => fields (hiIs 3 0 d) (hflushBody (d.setWidth 3) a b)
    | 1 => fields (hiIs 3 0 d) (hinvalBody (d.setWidth 3) a b)
    | _ => .error .reservedFunction
  | 38 => match fn with
    | 0 => fields (d == 0 && b == 0) (trapBody a)
    | 1 => fields (d == 0 && b == 0) (tretResumeBody a)
    | 2 => fields (d == 0 && a == 0 && b == 0) (brkBody)
    | _ => .error .reservedFunction
  | 39 => match fn with
    | 0 => fields (hiIs 3 0 d && hiIs 3 0 b) (segldBody (d.setWidth 3) a (b.setWidth 3))
    | 1 => fields (d == 0) (tlbinvBody a b)
    | 2 => fields (d == 0 && a == 0 && b == 0) (tlbsyncBody)
    | 3 => .ok (ctxsaveBody d a b)
    | 4 => .ok (ctxrestBody d a b)
    | _ => .error .reservedFunction
  | 52 => match fn with
    | 0 => .ok (mcreadyBody d a b)
    | _ => .error .reservedFunction
  | 53 => match fn with
    | 0 => .ok (preserveBody d a b)
    | 1 => fields (d == 0 && a == 0) (pcommitBody b)
    | 2 => .ok (pclaimBody d a b)
    | 3 => fields (d == 0 && a == 0) (preleaseBody b)
    | 4 => fields (b == 0) (pqueryBody d a)
    | _ => .error .reservedFunction
  | 54 => match fn with
    | 0 => fields (d == 0) (sendBody a b)
    | 1 => .ok (sendwBody d a b)
    | 2 => fields (b == 0) (pportqBody d a)
    | 3 => fields (d == 0 && b == 0) (jenBody a)
    | 4 => fields (d == 0 && b == 0) (jdisBody a)
    | _ => .error .reservedFunction
  | 55 => match fn with
    | 0 => fields (hiIs 3 0 d) (barArrBody (d.setWidth 3) a b)
    | 1 => fields (hiIs 3 0 d) (barWaitBody (d.setWidth 3) a b)
    | 2 => fields (hiIs 3 0 d && b == 0) (barArwBody (d.setWidth 3) a)
    | 3 => fields (hiIs 5 0 a && b == 0) (abarArrBody d (a.setWidth 5))
    | 4 => fields (d == 0 && hiIs 5 0 a) (abarWaitBody (a.setWidth 5) b)
    | 5 => fields (hiIs 5 0 a) (abarTestBody d (a.setWidth 5) b)
    | _ => .error .reservedFunction
  | 60 => match fn with
    | 0 => fields (hiIs 3 0 b) (planLdBody d a (b.setWidth 3))
    | 1 => .ok (planGoStartBody d a b)
    | 2 => fields (d == 0) (spawnBody a b)
    | _ => .error .reservedFunction
  | 61 => match fn with
    | 0 => .ok (pvallocBody d a b)
    | 1 => fields (b == 0) (pvfreeBody d a)
    | 2 => fields (b == 0) (pvqBody d a)
    | _ => .error .reservedFunction
  | _ => .error .unassignedMajor

/-- The GI majors (R48). -/
def bodyGI (maj : Nat) (d a : Reg) (i : BitVec 10) : Decoded Body :=
  match maj with
  | 8 => .ok (saddiBody d a i)
  | 9 => .ok (sandiBody d a i)
  | 10 => .ok (soriBody d a i)
  | 11 => .ok (sxoriBody d a i)
  | 12 => fields (hiIs 6 0 i) (sshliBody d a (i.setWidth 6))
  | 13 => fields (hiIs 6 0 i) (sshriBody d a (i.setWidth 6))
  | 14 => fields (hiIs 6 0 i) (ssraiBody d a (i.setWidth 6))
  | 15 => fields (a == 0) (smoviBody d i)
  | 50 => if i.getLsbD 9 then fields (hiIs 3 64 i) (kwaitObjBody d a (i.setWidth 3))
    else fields (d == 0 && a == 0 && hiIs 8 0 i) (kwaitBody (i.setWidth 8))
  | 51 => fields (hiIs 3 0 d && a == 0 && hiIs 4 0 i) (qfenceBody (d.setWidth 3) (i.setWidth 4))
  | _ => .error .unassignedMajor

/-- The conditional branches (R48). -/
def bodyGB17 (maj : Nat) (a : Reg) (o : BitVec 17) : Decoded Body :=
  match maj with
  | 26 => .ok (bzBody a o)
  | 27 => .ok (bnzBody a o)
  | 28 => .ok (bmzBody a o)
  | 29 => .ok (bmnzBody a o)
  | _ => .error .unassignedMajor

/-- br and call (R48). -/
def bodyGB24 (maj : Nat) (o : BitVec 24) : Decoded Body :=
  match maj with
  | 24 => .ok (brBody o)
  | 25 => .ok (callBody o)
  | _ => .error .unassignedMajor

/-- The GI-M majors (R48, R36). -/
def bodyGIM (maj : Nat) (d a : Reg) (g : BitVec 3) (s : Size) (i : BitVec 4) : Decoded Body :=
  match maj with
  | 32 => .ok (sldBody d a g s i)
  | 33 => sizeUpTo 4 s (sldsBody d a g s i)
  | 34 => .ok (sstBody d a g s i)
  | 35 => match i.toNat with
    | 0 => opSize 0 s (satomAddBody d a g s)
    | 1 => opSize 1 s (satomSubBody d a g s)
    | 2 => opSize 2 s (satomMinIBody d a g s)
    | 3 => opSize 3 s (satomMaxIBody d a g s)
    | 4 => opSize 4 s (satomMinNBody d a g s)
    | 5 => opSize 5 s (satomMaxNBody d a g s)
    | 6 => opSize 6 s (satomAndBody d a g s)
    | 7 => opSize 7 s (satomOrBody d a g s)
    | 8 => opSize 8 s (satomXorBody d a g s)
    | 9 => opSize 9 s (satomXchgBody d a g s)
    | 10 => opSize 10 s (satomCasBody d a g s)
    | 11 => opSize 11 s (satomFaddBody d a g s)
    | 12 => opSize 12 s (satomFminBody d a g s)
    | 13 => opSize 13 s (satomFmaxBody d a g s)
    | 14 => opSize 14 s (satomAddBf16x2Body d a g s)
    | _ => .error .reservedOp
  | _ => .error .unassignedMajor

/-- The GX majors (R40, R48). -/
def bodyGX (maj : Nat) (k : BitVec 3) (a b c : Reg) : Decoded Body :=
  match maj with
  | 40 => .ok (cpyBody 0 k a b c)
  | 41 => .ok (cpyBody 1 k a b c)
  | 42 => .ok (cpyBody 2 k a b c)
  | 43 => .ok (cpyBody 3 k a b c)
  | 44 => .ok (cpyMcBody 0 k a b c)
  | 45 => .ok (cpyMcBody 1 k a b c)
  | 46 => .ok (cpyMcBody 2 k a b c)
  | 47 => .ok (cpyMcBody 3 k a b c)
  | 48 => fields (hiIs 2 0 c) (cpyRowBody k a b (c.setWidth 2))
  | 49 => fields (a == 0 && b == 0 && hiIs 2 0 c) (cpyCloseBody k (c.setWidth 2))
  | 56 => .ok (mmaBody k a b c)
  | 57 => .ok (mmaSpBody k a b c)
  | 58 => match c.toNat with
    | 0 => fields (a == 0 && b == 0) (mzeroBody k)
    | 1 => fields (a == 0 && b == 0) (mrowsBody k)
    | 2 => fields (b == 0) (mldaccBody k a)
    | 3 => .ok (mstaccBody k a b)
    | _ => .error .reservedFunction
  | 59 => .ok (mvmBody k a b c)
  | _ => .error .unassignedMajor

/-- The GS function codes (R41). -/
def bodyGS (maj : Nat) (fn : Nat) (r : BitVec 12) (s : Reg) : Decoded Body :=
  match maj with
  | 37 => match fn with
    | 0 => .ok (sysrBody r s)
    | 1 => .ok (bodySysw r s)
    | _ => .error .reservedFunction
  | _ => .error .unassignedMajor

/-- The body of a word; the prefixes have none here. -/
def bodyWord (w : Word) : Decoded Body :=
  let maj := (w.extractLsb' 24 6).toNat
  let f := if w.getLsbD 31 then groupFormat maj else laneFormat maj
  let fn := (w.extractLsb' 21 3).toNat
  let d := w.extractLsb' 14 7
  let a := w.extractLsb' 7 7
  let b := w.extractLsb' 0 7
  let d' := w.extractLsb' 17 7
  let a' := w.extractLsb' 10 7
  match f with
  | none => .error .unassignedMajor
  | some .lr => bodyLR maj fn d a b
  | some .gr => bodyGR maj fn d a b
  | some .li => bodyLI maj d' a' (w.extractLsb' 0 10)
  | some .gi => bodyGI maj d' a' (w.extractLsb' 0 10)
  | some .lm => match Size.ofCode (w.extractLsb' 4 3) with
    | none => .error .reservedSize
    | some s => bodyLM maj d' a' (w.extractLsb' 7 3) s (w.extractLsb' 0 4)
  | some .gim => match Size.ofCode (w.extractLsb' 4 3) with
    | none => .error .reservedSize
    | some s => bodyGIM maj d' a' (w.extractLsb' 7 3) s (w.extractLsb' 0 4)
  | some .gb17 => bodyGB17 maj d' (w.extractLsb' 0 17)
  | some .gb24 => bodyGB24 maj (w.extractLsb' 0 24)
  | some .gx => bodyGX maj (w.extractLsb' 21 3) d a b
  | some .gs => bodyGS maj (w.extractLsb' 0 5).toNat (w.extractLsb' 12 12) (w.extractLsb' 5 7)
  | some .rep => .error .prefixMarker
  | some .limm => .error .prefixMarker

end Sys2Proof.Machine
end

