-- ==== Sys2Proof/Machine/Prefix.lean ====
section
/-!
DEFINITION. The prefixes `rep` and `limm` (R42 to R46, R86 to R88): each issues its target word, the one behind it, after a scalar cycle of its own (R44, R109).
-/

namespace Sys2Proof.Machine

/-- The format of a word. -/
def wordFormat (w : Word) : Option Format :=
  let maj := (w.extractLsb' 24 6).toNat
  if w.getLsbD 31 then groupFormat maj else laneFormat maj

/-- The repeatable targets (R46): every assigned lane-set major; 1 to 17 and 32 to 34 of the group set. R193 calls `rep`
legal before the instruction, `satom` too, whose major is 35: R46's list stands, which is the model's choice (log 57). -/
def repeatable (w : Word) : Bool :=
  let maj := (w.extractLsb' 24 6).toNat
  if w.getLsbD 31 then (decide (1 ≤ maj) && decide (maj ≤ 17)) || (decide (32 ≤ maj) && decide (maj ≤ 34))
  else (laneFormat maj).isSome

/-- Whether a word's format has a third register field (R43). -/
def hasThird (w : Word) : Bool :=
  match wordFormat w with
  | some .lr => true
  | some .gr => true
  | _ => false

/-- The places of the register fields d and a in a word's format (R34, R37, R38). -/
def fieldPlaces (w : Word) : Nat × Nat := if hasThird w then (14, 7) else (17, 10)

/-- The word that repetition i issues; none if a field passes 127 (R44). -/
def stepWord (w : Word) (i sd sa sb : Nat) : Option Word :=
  let p := fieldPlaces w
  let x := w.toNat
  let passes (lo st : Nat) : Bool := decide (127 < x / 2 ^ lo % 128 + i * st)
  if passes p.1 sd || passes p.2 sa || (hasThird w && passes 0 sb) then none
  else some (BitVec.ofNat 32 (x + i * (sd * 2 ^ p.1 + sa * 2 ^ p.2 + sb)))

/-- The accesses that a repetition has added carry its number (R352). -/
def State.markRep (s : State) (i had : Nat) : State :=
  s.setMe { s.me with out := s.me.out.take had ++ (s.me.out.drop had).map fun p => { p with rep := i } }

/-- The prefix's own cycle (R44, R109): its target is fetched, once, and held; a target that cannot be fetched, or that is none
for this prefix, faults at the prefix (R42, R43, R52). -/
def State.fetchTarget (s : State) (ok : Word → Bool) : Out :=
  let pc := wrap64 (s.me.pc + 4)
  match s.fetchWord s.cur pc with
  | .error t => .next (s.takeTrap s.cur (some t))
  | .ok w =>
    let u := s.afterFetch s.cur pc
    let v := u.setMe { u.me with target := some w }
    if ok w then .next v else .next (applyEff false (illegal v))

/-- Whether a word is an instruction that the group may have behind a prefix (R30, R52). -/
def Group.mayFollow (g : Group) (w : Word) : Bool :=
  (match bodyWord w with
   | .ok _ => true
   | .error _ => false)
  && !(g.mode == .control && !w.getLsbD 31)

/-- What a repetition's body answers, of n repetitions with repetition i issuing: the group stays at the prefix with
REPCNT counting the rest, or goes on behind the target with its switch marker (R44, R86). -/
def applyRep (m : Bool) (n i had : Nat) (e : Eff) : State :=
  match e with
  | .ok s =>
    let s1 := s.markRep i had
    if i + 1 = n then
      let s2 := s1.setMe { s1.me with repcnt := 0 }
      s2.retire m (s2.me.pc + 8)
    else
      (s1.setMe { s1.me with repcnt := n - i - 1 }).again
  | e => applyEff m e

/-- Whether a word is a target for a `rep` of `count` repetitions with this third step, the first of them REPCNT's (R43, R46, R87). -/
def Group.repTarget (g : Group) (count : Nat) (b : BitVec 2) (w : Word) : Bool :=
  repeatable w && (hasThird w || b == 0) && decide (g.repcnt ≤ count) && g.mayFollow w

/-- `rep` (R42 to R44, R46, R52, R86, R87): its own cycle, or, once that has passed, one repetition, the one REPCNT says. -/
def execRep (n : BitVec 6) (d a b : BitVec 2) (st : State) : Out :=
  let count := n.toNat + 1
  if !st.groups.has st.cur then .fault .noIssuingGroup
  else match st.me.target with
    | none => st.fetchTarget (st.me.repTarget count b)
    | some w =>
      let g := st.me
      let i := if g.repcnt = 0 then 0 else count - g.repcnt
      let s1 := st.setMe { g with repcnt := count - i }
      match stepWord w i d.toNat a.toNat b.toNat with
      | none => .next (applyEff false (illegal s1))
      | some x => match bodyWord x with
        | .error _ => .next (applyEff false (illegal s1))
        | .ok body => .next (applyRep (w.getLsbD 30) count i g.out.length (body s1))

/-- The body of a `limm` target with its literal (R45, R46); none where the word is no target of `limm`. -/
def literalBody (p : BitVec 24) (w : Word) : Option Body :=
  let maj := (w.extractLsb' 24 6).toNat
  let d := w.extractLsb' 17 7
  let a := w.extractLsb' 10 7
  let g := w.extractLsb' 7 3
  let i10 := literal10 p (w.extractLsb' 0 10)
  let i4 := literal4 p (w.extractLsb' 0 4)
  let sized (f : Size → Body) : Option Body := (Size.ofCode (w.extractLsb' 4 3)).map f
  if w.getLsbD 31 then
    match maj with
    | 8 => some (saddiLit d a i10)
    | 9 => some (sandiLit d a i10)
    | 10 => some (soriLit d a i10)
    | 11 => some (sxoriLit d a i10)
    | 15 => some (smoviLit d i10)
    | 32 => sized fun s => sldLit d a g s i4
    | 33 => sized fun s => sldsLit d a g s i4
    | 34 => sized fun s => sstLit d a g s i4
    | _ => none
  else
    match maj with
    | 14 => some (vaddiLit d a i10)
    | 15 => some (vmoviLit d i10)
    | 16 => some (vandiLit d a i10)
    | 17 => some (voriLit d a i10)
    | 18 => some (vxoriLit d a i10)
    | 22 => some (vmuliLit d a i10)
    | 48 => sized fun s => vldLit d a g s i4
    | 49 => sized fun s => vldsLit d a g s i4
    | 50 => sized fun s => vstLit d a g s i4
    | _ => none

/-- `limm` (R42, R43, R45, R46, R88): its own cycle, or, once that has passed, its target with the literal. -/
def execLimm (p : BitVec 24) (st : State) : Out :=
  if !st.groups.has st.cur then .fault .noIssuingGroup
  else match st.me.target with
    | none => st.fetchTarget fun w => (literalBody p w).isSome && st.me.mayFollow w
    | some w => match literalBody p w with
      | none => .next (applyEff false (illegal st))
      | some body => .next (match body st with
        | .ok s => s.retire (w.getLsbD 30) (s.me.pc + 8)
        | e => applyEff (w.getLsbD 30) e)

/-- The meaning of a word of the group State.cur names: a prefix, or its body; a word that is no instruction raises the
illegal-instruction fault (R52). A REPCNT that is left over is no `rep`'s (R87). R52 does not say whether a nonzero reserved
bit of a prefix goes before a target that cannot be fetched: the model raises the illegal instruction without fetching the
target, which is its choice (log 57). -/
def runWord (w : Word) (s : State) : Out :=
  let illegalWord : Out := issue false illegal s
  match wordFormat w with
  | some .rep =>
    if w.getLsbD 30 || w.extractLsb' 0 12 != 0 then illegalWord
    else execRep (w.extractLsb' 18 6) (w.extractLsb' 16 2) (w.extractLsb' 14 2) (w.extractLsb' 12 2) s
  | some .limm => if w.getLsbD 30 || s.me.repcnt != 0 then illegalWord else execLimm (w.extractLsb' 0 24) s
  | _ => match bodyWord w with
    | .ok b => if s.me.repcnt ≠ 0 then illegalWord else issue (w.getLsbD 30) b s
    | .error _ => illegalWord

end Sys2Proof.Machine
end

