-- ==== Sys2Proof/Machine/Dispatch.lean ====
section
/-! DEFINITION. The meaning of every instruction: one arm per row of the opcode table. -/

namespace Sys2Proof.Machine

def exec (i : Instr) (s : State) : Host.Outcome State Fault Refusal :=
  match i with
  | .vadd m d a b => Sys2Proof.Machine.execVadd m d a b s
  | .vsub m d a b => Sys2Proof.Machine.execVsub m d a b s
  | .vaddsI32 m d a b => Sys2Proof.Machine.execVaddsI32 m d a b s
  | .vaddsN32 m d a b => Sys2Proof.Machine.execVaddsN32 m d a b s
  | .vsubsI32 m d a b => Sys2Proof.Machine.execVsubsI32 m d a b s
  | .vsubsN32 m d a b => Sys2Proof.Machine.execVsubsN32 m d a b s
  | .vaddS m d a b => Sys2Proof.Machine.execVaddS m d a b s
  | .vsubS m d a b => Sys2Proof.Machine.execVsubS m d a b s
  | .vaddsI32S m d a b => Sys2Proof.Machine.execVaddsI32S m d a b s
  | .vaddsN32S m d a b => Sys2Proof.Machine.execVaddsN32S m d a b s
  | .vsubsI32S m d a b => Sys2Proof.Machine.execVsubsI32S m d a b s
  | .vsubsN32S m d a b => Sys2Proof.Machine.execVsubsN32S m d a b s
  | .vmul m d a b => Sys2Proof.Machine.execVmul m d a b s
  | .vmulhI32 m d a b => Sys2Proof.Machine.execVmulhI32 m d a b s
  | .vmulhN32 m d a b => Sys2Proof.Machine.execVmulhN32 m d a b s
  | .vmad m d a b => Sys2Proof.Machine.execVmad m d a b s
  | .vdivI32 m d a b => Sys2Proof.Machine.execVdivI32 m d a b s
  | .vdivN32 m d a b => Sys2Proof.Machine.execVdivN32 m d a b s
  | .vremI32 m d a b => Sys2Proof.Machine.execVremI32 m d a b s
  | .vremN32 m d a b => Sys2Proof.Machine.execVremN32 m d a b s
  | .vmulS m d a b => Sys2Proof.Machine.execVmulS m d a b s
  | .vmulhI32S m d a b => Sys2Proof.Machine.execVmulhI32S m d a b s
  | .vmulhN32S m d a b => Sys2Proof.Machine.execVmulhN32S m d a b s
  | .vmadS m d a b => Sys2Proof.Machine.execVmadS m d a b s
  | .vdivI32S m d a b => Sys2Proof.Machine.execVdivI32S m d a b s
  | .vdivN32S m d a b => Sys2Proof.Machine.execVdivN32S m d a b s
  | .vremI32S m d a b => Sys2Proof.Machine.execVremI32S m d a b s
  | .vremN32S m d a b => Sys2Proof.Machine.execVremN32S m d a b s
  | .vand m d a b => Sys2Proof.Machine.execVand m d a b s
  | .vor m d a b => Sys2Proof.Machine.execVor m d a b s
  | .vxor m d a b => Sys2Proof.Machine.execVxor m d a b s
  | .vandn m d a b => Sys2Proof.Machine.execVandn m d a b s
  | .vshl m d a b => Sys2Proof.Machine.execVshl m d a b s
  | .vshr m d a b => Sys2Proof.Machine.execVshr m d a b s
  | .vsra m d a b => Sys2Proof.Machine.execVsra m d a b s
  | .vrol m d a b => Sys2Proof.Machine.execVrol m d a b s
  | .vandS m d a b => Sys2Proof.Machine.execVandS m d a b s
  | .vorS m d a b => Sys2Proof.Machine.execVorS m d a b s
  | .vxorS m d a b => Sys2Proof.Machine.execVxorS m d a b s
  | .vandnS m d a b => Sys2Proof.Machine.execVandnS m d a b s
  | .vshlS m d a b => Sys2Proof.Machine.execVshlS m d a b s
  | .vshrS m d a b => Sys2Proof.Machine.execVshrS m d a b s
  | .vsraS m d a b => Sys2Proof.Machine.execVsraS m d a b s
  | .vrolS m d a b => Sys2Proof.Machine.execVrolS m d a b s
  | .vminI32 m d a b => Sys2Proof.Machine.execVminI32 m d a b s
  | .vmaxI32 m d a b => Sys2Proof.Machine.execVmaxI32 m d a b s
  | .vminN32 m d a b => Sys2Proof.Machine.execVminN32 m d a b s
  | .vmaxN32 m d a b => Sys2Proof.Machine.execVmaxN32 m d a b s
  | .vabsI32 m d a => Sys2Proof.Machine.execVabsI32 m d a s
  | .vclz m d a => Sys2Proof.Machine.execVclz m d a s
  | .vpopc m d a => Sys2Proof.Machine.execVpopc m d a s
  | .vbrev m d a => Sys2Proof.Machine.execVbrev m d a s
  | .vminI32S m d a b => Sys2Proof.Machine.execVminI32S m d a b s
  | .vmaxI32S m d a b => Sys2Proof.Machine.execVmaxI32S m d a b s
  | .vminN32S m d a b => Sys2Proof.Machine.execVminN32S m d a b s
  | .vmaxN32S m d a b => Sys2Proof.Machine.execVmaxN32S m d a b s
  | .vcmpEq m d a b => Sys2Proof.Machine.execVcmpEq m d a b s
  | .vcmpNe m d a b => Sys2Proof.Machine.execVcmpNe m d a b s
  | .vcmpLt m d a b => Sys2Proof.Machine.execVcmpLt m d a b s
  | .vcmpLe m d a b => Sys2Proof.Machine.execVcmpLe m d a b s
  | .vcmpGt m d a b => Sys2Proof.Machine.execVcmpGt m d a b s
  | .vcmpGe m d a b => Sys2Proof.Machine.execVcmpGe m d a b s
  | .vcmpLo m d a b => Sys2Proof.Machine.execVcmpLo m d a b s
  | .vcmpLs m d a b => Sys2Proof.Machine.execVcmpLs m d a b s
  | .vcmpHi m d a b => Sys2Proof.Machine.execVcmpHi m d a b s
  | .vcmpHs m d a b => Sys2Proof.Machine.execVcmpHs m d a b s
  | .vcmpEqS m d a b => Sys2Proof.Machine.execVcmpEqS m d a b s
  | .vcmpNeS m d a b => Sys2Proof.Machine.execVcmpNeS m d a b s
  | .vcmpLtS m d a b => Sys2Proof.Machine.execVcmpLtS m d a b s
  | .vcmpLeS m d a b => Sys2Proof.Machine.execVcmpLeS m d a b s
  | .vcmpGtS m d a b => Sys2Proof.Machine.execVcmpGtS m d a b s
  | .vcmpGeS m d a b => Sys2Proof.Machine.execVcmpGeS m d a b s
  | .vcmpLoS m d a b => Sys2Proof.Machine.execVcmpLoS m d a b s
  | .vcmpLsS m d a b => Sys2Proof.Machine.execVcmpLsS m d a b s
  | .vcmpHiS m d a b => Sys2Proof.Machine.execVcmpHiS m d a b s
  | .vcmpHsS m d a b => Sys2Proof.Machine.execVcmpHsS m d a b s
  | .vsel m d a b => Sys2Proof.Machine.execVsel m d a b s
  | .vmov m d a => Sys2Proof.Machine.execVmov m d a s
  | .vmovS m d b => Sys2Proof.Machine.execVmovS m d b s
  | .vtid m d => Sys2Proof.Machine.execVtid m d s
  | .vaddi m d a im => Sys2Proof.Machine.execVaddi m d a im s
  | .vmovi m d im => Sys2Proof.Machine.execVmovi m d im s
  | .vandi m d a im => Sys2Proof.Machine.execVandi m d a im s
  | .vori m d a im => Sys2Proof.Machine.execVori m d a im s
  | .vxori m d a im => Sys2Proof.Machine.execVxori m d a im s
  | .vshli m d a c => Sys2Proof.Machine.execVshli m d a c s
  | .vshri m d a c => Sys2Proof.Machine.execVshri m d a c s
  | .vsrai m d a c => Sys2Proof.Machine.execVsrai m d a c s
  | .vmuli m d a im => Sys2Proof.Machine.execVmuli m d a im s
  | .vfaddF32 m d a b => Sys2Proof.Machine.execVfaddF32 m d a b s
  | .vfsubF32 m d a b => Sys2Proof.Machine.execVfsubF32 m d a b s
  | .vfmulF32 m d a b => Sys2Proof.Machine.execVfmulF32 m d a b s
  | .vfminF32 m d a b => Sys2Proof.Machine.execVfminF32 m d a b s
  | .vfmaxF32 m d a b => Sys2Proof.Machine.execVfmaxF32 m d a b s
  | .vfmaF32 m d a b => Sys2Proof.Machine.execVfmaF32 m d a b s
  | .vfmsF32 m d a b => Sys2Proof.Machine.execVfmsF32 m d a b s
  | .vfnmaF32 m d a b => Sys2Proof.Machine.execVfnmaF32 m d a b s
  | .vfaddF16x2 m d a b => Sys2Proof.Machine.execVfaddF16x2 m d a b s
  | .vfsubF16x2 m d a b => Sys2Proof.Machine.execVfsubF16x2 m d a b s
  | .vfmulF16x2 m d a b => Sys2Proof.Machine.execVfmulF16x2 m d a b s
  | .vfminF16x2 m d a b => Sys2Proof.Machine.execVfminF16x2 m d a b s
  | .vfmaxF16x2 m d a b => Sys2Proof.Machine.execVfmaxF16x2 m d a b s
  | .vfmaF16x2 m d a b => Sys2Proof.Machine.execVfmaF16x2 m d a b s
  | .vfmsF16x2 m d a b => Sys2Proof.Machine.execVfmsF16x2 m d a b s
  | .vfnmaF16x2 m d a b => Sys2Proof.Machine.execVfnmaF16x2 m d a b s
  | .vfaddBf16x2 m d a b => Sys2Proof.Machine.execVfaddBf16x2 m d a b s
  | .vfsubBf16x2 m d a b => Sys2Proof.Machine.execVfsubBf16x2 m d a b s
  | .vfmulBf16x2 m d a b => Sys2Proof.Machine.execVfmulBf16x2 m d a b s
  | .vfminBf16x2 m d a b => Sys2Proof.Machine.execVfminBf16x2 m d a b s
  | .vfmaxBf16x2 m d a b => Sys2Proof.Machine.execVfmaxBf16x2 m d a b s
  | .vfmaBf16x2 m d a b => Sys2Proof.Machine.execVfmaBf16x2 m d a b s
  | .vfmsBf16x2 m d a b => Sys2Proof.Machine.execVfmsBf16x2 m d a b s
  | .vfnmaBf16x2 m d a b => Sys2Proof.Machine.execVfnmaBf16x2 m d a b s
  | .vfaddF32S m d a b => Sys2Proof.Machine.execVfaddF32S m d a b s
  | .vfsubF32S m d a b => Sys2Proof.Machine.execVfsubF32S m d a b s
  | .vfmulF32S m d a b => Sys2Proof.Machine.execVfmulF32S m d a b s
  | .vfminF32S m d a b => Sys2Proof.Machine.execVfminF32S m d a b s
  | .vfmaxF32S m d a b => Sys2Proof.Machine.execVfmaxF32S m d a b s
  | .vfmaF32S m d a b => Sys2Proof.Machine.execVfmaF32S m d a b s
  | .vfmsF32S m d a b => Sys2Proof.Machine.execVfmsF32S m d a b s
  | .vfnmaF32S m d a b => Sys2Proof.Machine.execVfnmaF32S m d a b s
  | .vfcmpEqF32 m d a b => Sys2Proof.Machine.execVfcmpEqF32 m d a b s
  | .vfcmpNeF32 m d a b => Sys2Proof.Machine.execVfcmpNeF32 m d a b s
  | .vfcmpLtF32 m d a b => Sys2Proof.Machine.execVfcmpLtF32 m d a b s
  | .vfcmpLeF32 m d a b => Sys2Proof.Machine.execVfcmpLeF32 m d a b s
  | .vfcmpGtF32 m d a b => Sys2Proof.Machine.execVfcmpGtF32 m d a b s
  | .vfcmpGeF32 m d a b => Sys2Proof.Machine.execVfcmpGeF32 m d a b s
  | .vfcmpUnF32 m d a b => Sys2Proof.Machine.execVfcmpUnF32 m d a b s
  | .vfcmpEqF16x2 m d a b => Sys2Proof.Machine.execVfcmpEqF16x2 m d a b s
  | .vfcmpNeF16x2 m d a b => Sys2Proof.Machine.execVfcmpNeF16x2 m d a b s
  | .vfcmpLtF16x2 m d a b => Sys2Proof.Machine.execVfcmpLtF16x2 m d a b s
  | .vfcmpLeF16x2 m d a b => Sys2Proof.Machine.execVfcmpLeF16x2 m d a b s
  | .vfcmpGtF16x2 m d a b => Sys2Proof.Machine.execVfcmpGtF16x2 m d a b s
  | .vfcmpGeF16x2 m d a b => Sys2Proof.Machine.execVfcmpGeF16x2 m d a b s
  | .vfcmpUnF16x2 m d a b => Sys2Proof.Machine.execVfcmpUnF16x2 m d a b s
  | .vfcmpEqBf16x2 m d a b => Sys2Proof.Machine.execVfcmpEqBf16x2 m d a b s
  | .vfcmpNeBf16x2 m d a b => Sys2Proof.Machine.execVfcmpNeBf16x2 m d a b s
  | .vfcmpLtBf16x2 m d a b => Sys2Proof.Machine.execVfcmpLtBf16x2 m d a b s
  | .vfcmpLeBf16x2 m d a b => Sys2Proof.Machine.execVfcmpLeBf16x2 m d a b s
  | .vfcmpGtBf16x2 m d a b => Sys2Proof.Machine.execVfcmpGtBf16x2 m d a b s
  | .vfcmpGeBf16x2 m d a b => Sys2Proof.Machine.execVfcmpGeBf16x2 m d a b s
  | .vfcmpUnBf16x2 m d a b => Sys2Proof.Machine.execVfcmpUnBf16x2 m d a b s
  | .vfclassF32 m d a => Sys2Proof.Machine.execVfclassF32 m d a s
  | .vfclassF16x2 m d a => Sys2Proof.Machine.execVfclassF16x2 m d a s
  | .vfclassBf16x2 m d a => Sys2Proof.Machine.execVfclassBf16x2 m d a s
  | .vrcp m d a => Sys2Proof.Machine.execVrcp m d a s
  | .vrsq m d a => Sys2Proof.Machine.execVrsq m d a s
  | .vsqrt m d a => Sys2Proof.Machine.execVsqrt m d a s
  | .vexp2 m d a => Sys2Proof.Machine.execVexp2 m d a s
  | .vlog2 m d a => Sys2Proof.Machine.execVlog2 m d a s
  | .vsin m d a => Sys2Proof.Machine.execVsin m d a s
  | .vcos m d a => Sys2Proof.Machine.execVcos m d a s
  | .vtanh m d a => Sys2Proof.Machine.execVtanh m d a s
  | .vfdivF32 m d a b => Sys2Proof.Machine.execVfdivF32 m d a b s
  | .vfdivF32S m d a b => Sys2Proof.Machine.execVfdivF32S m d a b s
  | .vcvt m d a c => Sys2Proof.Machine.execVcvt m d a c s
  | .vcvtSr m d a c => Sys2Proof.Machine.execVcvtSr m d a c s
  | .vcvtSat m d a c => Sys2Proof.Machine.execVcvtSat m d a c s
  | .vcvtSatSr m d a c => Sys2Proof.Machine.execVcvtSatSr m d a c s
  | .vqblkE2m1x m d a => Sys2Proof.Machine.execVqblkE2m1x m d a s
  | .vqblkE4m3 m d a => Sys2Proof.Machine.execVqblkE4m3 m d a s
  | .vqblkE5m2 m d a => Sys2Proof.Machine.execVqblkE5m2 m d a s
  | .vpopa m d => Sys2Proof.Machine.execVpopa m d s
  | .vshflIdx m d a b => Sys2Proof.Machine.execVshflIdx m d a b s
  | .vshflUp m d a b => Sys2Proof.Machine.execVshflUp m d a b s
  | .vshflDown m d a b => Sys2Proof.Machine.execVshflDown m d a b s
  | .vshflXor m d a b => Sys2Proof.Machine.execVshflXor m d a b s
  | .vperm8Lo m d a b => Sys2Proof.Machine.execVperm8Lo m d a b s
  | .vperm8Hi m d a b => Sys2Proof.Machine.execVperm8Hi m d a b s
  | .vbcast m d a b => Sys2Proof.Machine.execVbcast m d a b s
  | .vext m d a b => Sys2Proof.Machine.execVext m d a b s
  | .vlredAddI32 m d a => Sys2Proof.Machine.execVlredAddI32 m d a s
  | .vlredMinI32 m d a => Sys2Proof.Machine.execVlredMinI32 m d a s
  | .vlredMaxI32 m d a => Sys2Proof.Machine.execVlredMaxI32 m d a s
  | .vlredMinN32 m d a => Sys2Proof.Machine.execVlredMinN32 m d a s
  | .vlredMaxN32 m d a => Sys2Proof.Machine.execVlredMaxN32 m d a s
  | .vlredFaddF32 m d a => Sys2Proof.Machine.execVlredFaddF32 m d a s
  | .vlredFminF32 m d a => Sys2Proof.Machine.execVlredFminF32 m d a s
  | .vlredFmaxF32 m d a => Sys2Proof.Machine.execVlredFmaxF32 m d a s
  | .vscanAddI32 m d a => Sys2Proof.Machine.execVscanAddI32 m d a s
  | .vscanMinI32 m d a => Sys2Proof.Machine.execVscanMinI32 m d a s
  | .vscanMaxI32 m d a => Sys2Proof.Machine.execVscanMaxI32 m d a s
  | .vscanMinN32 m d a => Sys2Proof.Machine.execVscanMinN32 m d a s
  | .vscanMaxN32 m d a => Sys2Proof.Machine.execVscanMaxN32 m d a s
  | .vscanFaddF32 m d a => Sys2Proof.Machine.execVscanFaddF32 m d a s
  | .vscanFminF32 m d a => Sys2Proof.Machine.execVscanFminF32 m d a s
  | .vscanFmaxF32 m d a => Sys2Proof.Machine.execVscanFmaxF32 m d a s
  | .voteAny m d a p => Sys2Proof.Machine.execVoteAny m d a p s
  | .voteAll m d a p => Sys2Proof.Machine.execVoteAll m d a p s
  | .voteBallot m d a p => Sys2Proof.Machine.execVoteBallot m d a p s
  | .vfirst m d a p => Sys2Proof.Machine.execVfirst m d a p s
  | .vld m d a g sz im => Sys2Proof.Machine.execVld m d a g sz im s
  | .vlds m d a g sz im => Sys2Proof.Machine.execVlds m d a g sz im s
  | .vst m d a g sz im => Sys2Proof.Machine.execVst m d a g sz im s
  | .vatomAdd m d a g sz => Sys2Proof.Machine.execVatomAdd m d a g sz s
  | .vatomSub m d a g sz => Sys2Proof.Machine.execVatomSub m d a g sz s
  | .vatomMinI m d a g sz => Sys2Proof.Machine.execVatomMinI m d a g sz s
  | .vatomMaxI m d a g sz => Sys2Proof.Machine.execVatomMaxI m d a g sz s
  | .vatomMinN m d a g sz => Sys2Proof.Machine.execVatomMinN m d a g sz s
  | .vatomMaxN m d a g sz => Sys2Proof.Machine.execVatomMaxN m d a g sz s
  | .vatomAnd m d a g sz => Sys2Proof.Machine.execVatomAnd m d a g sz s
  | .vatomOr m d a g sz => Sys2Proof.Machine.execVatomOr m d a g sz s
  | .vatomXor m d a g sz => Sys2Proof.Machine.execVatomXor m d a g sz s
  | .vatomXchg m d a g sz => Sys2Proof.Machine.execVatomXchg m d a g sz s
  | .vatomCas m d a g sz => Sys2Proof.Machine.execVatomCas m d a g sz s
  | .vatomFadd m d a g sz => Sys2Proof.Machine.execVatomFadd m d a g sz s
  | .vatomFmin m d a g sz => Sys2Proof.Machine.execVatomFmin m d a g sz s
  | .vatomFmax m d a g sz => Sys2Proof.Machine.execVatomFmax m d a g sz s
  | .vatomAddBf16x2 m d a g sz => Sys2Proof.Machine.execVatomAddBf16x2 m d a g sz s
  | .vredAdd m d a g sz => Sys2Proof.Machine.execVredAdd m d a g sz s
  | .vredSub m d a g sz => Sys2Proof.Machine.execVredSub m d a g sz s
  | .vredMinI m d a g sz => Sys2Proof.Machine.execVredMinI m d a g sz s
  | .vredMaxI m d a g sz => Sys2Proof.Machine.execVredMaxI m d a g sz s
  | .vredMinN m d a g sz => Sys2Proof.Machine.execVredMinN m d a g sz s
  | .vredMaxN m d a g sz => Sys2Proof.Machine.execVredMaxN m d a g sz s
  | .vredAnd m d a g sz => Sys2Proof.Machine.execVredAnd m d a g sz s
  | .vredOr m d a g sz => Sys2Proof.Machine.execVredOr m d a g sz s
  | .vredXor m d a g sz => Sys2Proof.Machine.execVredXor m d a g sz s
  | .vredFadd m d a g sz => Sys2Proof.Machine.execVredFadd m d a g sz s
  | .vredFmin m d a g sz => Sys2Proof.Machine.execVredFmin m d a g sz s
  | .vredFmax m d a g sz => Sys2Proof.Machine.execVredFmax m d a g sz s
  | .vredAddBf16x2 m d a g sz => Sys2Proof.Machine.execVredAddBf16x2 m d a g sz s
  | .nop m => Sys2Proof.Machine.execNop m s
  | .yield m => Sys2Proof.Machine.execYield m s
  | .exit m => Sys2Proof.Machine.execExit m s
  | .sadd m d a b => Sys2Proof.Machine.execSadd m d a b s
  | .ssub m d a b => Sys2Proof.Machine.execSsub m d a b s
  | .saddsI64 m d a b => Sys2Proof.Machine.execSaddsI64 m d a b s
  | .saddsN64 m d a b => Sys2Proof.Machine.execSaddsN64 m d a b s
  | .ssubsI64 m d a b => Sys2Proof.Machine.execSsubsI64 m d a b s
  | .ssubsN64 m d a b => Sys2Proof.Machine.execSsubsN64 m d a b s
  | .smul m d a b => Sys2Proof.Machine.execSmul m d a b s
  | .smulhI64 m d a b => Sys2Proof.Machine.execSmulhI64 m d a b s
  | .smulhN64 m d a b => Sys2Proof.Machine.execSmulhN64 m d a b s
  | .sdivI64 m d a b => Sys2Proof.Machine.execSdivI64 m d a b s
  | .sdivN64 m d a b => Sys2Proof.Machine.execSdivN64 m d a b s
  | .sremI64 m d a b => Sys2Proof.Machine.execSremI64 m d a b s
  | .sremN64 m d a b => Sys2Proof.Machine.execSremN64 m d a b s
  | .sand m d a b => Sys2Proof.Machine.execSand m d a b s
  | .sor m d a b => Sys2Proof.Machine.execSor m d a b s
  | .sxor m d a b => Sys2Proof.Machine.execSxor m d a b s
  | .sandn m d a b => Sys2Proof.Machine.execSandn m d a b s
  | .sshl m d a b => Sys2Proof.Machine.execSshl m d a b s
  | .sshr m d a b => Sys2Proof.Machine.execSshr m d a b s
  | .ssra m d a b => Sys2Proof.Machine.execSsra m d a b s
  | .srol m d a b => Sys2Proof.Machine.execSrol m d a b s
  | .sminI64 m d a b => Sys2Proof.Machine.execSminI64 m d a b s
  | .smaxI64 m d a b => Sys2Proof.Machine.execSmaxI64 m d a b s
  | .sminN64 m d a b => Sys2Proof.Machine.execSminN64 m d a b s
  | .smaxN64 m d a b => Sys2Proof.Machine.execSmaxN64 m d a b s
  | .sabsI64 m d a => Sys2Proof.Machine.execSabsI64 m d a s
  | .sclz m d a => Sys2Proof.Machine.execSclz m d a s
  | .spopc m d a => Sys2Proof.Machine.execSpopc m d a s
  | .sbrev m d a => Sys2Proof.Machine.execSbrev m d a s
  | .scmpEq m d a b => Sys2Proof.Machine.execScmpEq m d a b s
  | .scmpNe m d a b => Sys2Proof.Machine.execScmpNe m d a b s
  | .scmpLt m d a b => Sys2Proof.Machine.execScmpLt m d a b s
  | .scmpLe m d a b => Sys2Proof.Machine.execScmpLe m d a b s
  | .scmpGt m d a b => Sys2Proof.Machine.execScmpGt m d a b s
  | .scmpGe m d a b => Sys2Proof.Machine.execScmpGe m d a b s
  | .scmpLo m d a b => Sys2Proof.Machine.execScmpLo m d a b s
  | .scmpLs m d a b => Sys2Proof.Machine.execScmpLs m d a b s
  | .scmpHi m d a b => Sys2Proof.Machine.execScmpHi m d a b s
  | .scmpHs m d a b => Sys2Proof.Machine.execScmpHs m d a b s
  | .smov m d a => Sys2Proof.Machine.execSmov m d a s
  | .scsel m d a b => Sys2Proof.Machine.execScsel m d a b s
  | .saddi m d a im => Sys2Proof.Machine.execSaddi m d a im s
  | .sandi m d a im => Sys2Proof.Machine.execSandi m d a im s
  | .sori m d a im => Sys2Proof.Machine.execSori m d a im s
  | .sxori m d a im => Sys2Proof.Machine.execSxori m d a im s
  | .sshli m d a c => Sys2Proof.Machine.execSshli m d a c s
  | .sshri m d a c => Sys2Proof.Machine.execSshri m d a c s
  | .ssrai m d a c => Sys2Proof.Machine.execSsrai m d a c s
  | .smovi m d im => Sys2Proof.Machine.execSmovi m d im s
  | .mand m d a b => Sys2Proof.Machine.execMand m d a b s
  | .mor m d a b => Sys2Proof.Machine.execMor m d a b s
  | .mxor m d a b => Sys2Proof.Machine.execMxor m d a b s
  | .mandn m d a b => Sys2Proof.Machine.execMandn m d a b s
  | .mnot m d a => Sys2Proof.Machine.execMnot m d a s
  | .mpopc m d a => Sys2Proof.Machine.execMpopc m d a s
  | .mffs m d a => Sys2Proof.Machine.execMffs m d a s
  | .mfls m d a => Sys2Proof.Machine.execMfls m d a s
  | .mffNv m d n => Sys2Proof.Machine.execMffNv m d n s
  | .mffDz m d n => Sys2Proof.Machine.execMffDz m d n s
  | .mffOf m d n => Sys2Proof.Machine.execMffOf m d n s
  | .mffUf m d n => Sys2Proof.Machine.execMffUf m d n s
  | .mffNx m d n => Sys2Proof.Machine.execMffNx m d n s
  | .mffclr m a n => Sys2Proof.Machine.execMffclr m a n s
  | .rep n d a b => Sys2Proof.Machine.execRep n d a b s
  | .limm p => Sys2Proof.Machine.execLimm p s
  | .br m o => Sys2Proof.Machine.execBr m o s
  | .call m o => Sys2Proof.Machine.execCall m o s
  | .bz m a o => Sys2Proof.Machine.execBz m a o s
  | .bnz m a o => Sys2Proof.Machine.execBnz m a o s
  | .bmz m a o => Sys2Proof.Machine.execBmz m a o s
  | .bmnz m a o => Sys2Proof.Machine.execBmnz m a o s
  | .jr m a => Sys2Proof.Machine.execJr m a s
  | .jalr m d a => Sys2Proof.Machine.execJalr m d a s
  | .sld m d a g sz im => Sys2Proof.Machine.execSld m d a g sz im s
  | .slds m d a g sz im => Sys2Proof.Machine.execSlds m d a g sz im s
  | .sst m d a g sz im => Sys2Proof.Machine.execSst m d a g sz im s
  | .satomAdd m d a g sz => Sys2Proof.Machine.execSatomAdd m d a g sz s
  | .satomSub m d a g sz => Sys2Proof.Machine.execSatomSub m d a g sz s
  | .satomMinI m d a g sz => Sys2Proof.Machine.execSatomMinI m d a g sz s
  | .satomMaxI m d a g sz => Sys2Proof.Machine.execSatomMaxI m d a g sz s
  | .satomMinN m d a g sz => Sys2Proof.Machine.execSatomMinN m d a g sz s
  | .satomMaxN m d a g sz => Sys2Proof.Machine.execSatomMaxN m d a g sz s
  | .satomAnd m d a g sz => Sys2Proof.Machine.execSatomAnd m d a g sz s
  | .satomOr m d a g sz => Sys2Proof.Machine.execSatomOr m d a g sz s
  | .satomXor m d a g sz => Sys2Proof.Machine.execSatomXor m d a g sz s
  | .satomXchg m d a g sz => Sys2Proof.Machine.execSatomXchg m d a g sz s
  | .satomCas m d a g sz => Sys2Proof.Machine.execSatomCas m d a g sz s
  | .satomFadd m d a g sz => Sys2Proof.Machine.execSatomFadd m d a g sz s
  | .satomFmin m d a g sz => Sys2Proof.Machine.execSatomFmin m d a g sz s
  | .satomFmax m d a g sz => Sys2Proof.Machine.execSatomFmax m d a g sz s
  | .satomAddBf16x2 m d a g sz => Sys2Proof.Machine.execSatomAddBf16x2 m d a g sz s
  | .hflush m g a b => Sys2Proof.Machine.execHflush m g a b s
  | .hinval m g a b => Sys2Proof.Machine.execHinval m g a b s
  | .sysr m r sz => Sys2Proof.Machine.execSysr m r sz s
  | .sysw m r sz => Sys2Proof.Machine.execSysw m r sz s
  | .trap m a => Sys2Proof.Machine.execTrap m a s
  | .tretResume m a => Sys2Proof.Machine.execTretResume m a s
  | .tretEndReturn m a => Sys2Proof.Machine.execTretEndReturn m a s
  | .tretEndDiscard m a => Sys2Proof.Machine.execTretEndDiscard m a s
  | .brk m => Sys2Proof.Machine.execBrk m s
  | .segld m n a g => Sys2Proof.Machine.execSegld m n a g s
  | .tlbinv m a b => Sys2Proof.Machine.execTlbinv m a b s
  | .tlbsync m => Sys2Proof.Machine.execTlbsync m s
  | .ctxsave m d a b => Sys2Proof.Machine.execCtxsave m d a b s
  | .ctxrest m d a b => Sys2Proof.Machine.execCtxrest m d a b s
  | .cpy m q k a b c => Sys2Proof.Machine.execCpy m q k a b c s
  | .cpyMc m q k a b c => Sys2Proof.Machine.execCpyMc m q k a b c s
  | .cpyRow m k a b q => Sys2Proof.Machine.execCpyRow m k a b q s
  | .cpyClose m k q => Sys2Proof.Machine.execCpyClose m k q s
  | .kwait m k => Sys2Proof.Machine.execKwait m k s
  | .kwaitObj m d a g => Sys2Proof.Machine.execKwaitObj m d a g s
  | .qfence m k q => Sys2Proof.Machine.execQfence m k q s
  | .mcready m d a b => Sys2Proof.Machine.execMcready m d a b s
  | .preserve m d a b => Sys2Proof.Machine.execPreserve m d a b s
  | .pcommit m b => Sys2Proof.Machine.execPcommit m b s
  | .pclaim m d a b => Sys2Proof.Machine.execPclaim m d a b s
  | .prelease m b => Sys2Proof.Machine.execPrelease m b s
  | .pquery m d a => Sys2Proof.Machine.execPquery m d a s
  | .send m a b => Sys2Proof.Machine.execSend m a b s
  | .sendw m d a b => Sys2Proof.Machine.execSendw m d a b s
  | .pportq m d a => Sys2Proof.Machine.execPportq m d a s
  | .jen m a => Sys2Proof.Machine.execJen m a s
  | .jdis m a => Sys2Proof.Machine.execJdis m a s
  | .barArr m g a b => Sys2Proof.Machine.execBarArr m g a b s
  | .barWait m g a b => Sys2Proof.Machine.execBarWait m g a b s
  | .barArw m g a => Sys2Proof.Machine.execBarArw m g a s
  | .abarArr m d n => Sys2Proof.Machine.execAbarArr m d n s
  | .abarWait m n b => Sys2Proof.Machine.execAbarWait m n b s
  | .abarTest m d n b => Sys2Proof.Machine.execAbarTest m d n b s
  | .mma m t a b c => Sys2Proof.Machine.execMma m t a b c s
  | .mmaSp m t a b c => Sys2Proof.Machine.execMmaSp m t a b c s
  | .mzero m t => Sys2Proof.Machine.execMzero m t s
  | .mrows m t => Sys2Proof.Machine.execMrows m t s
  | .mldacc m t a => Sys2Proof.Machine.execMldacc m t a s
  | .mstacc m t a b => Sys2Proof.Machine.execMstacc m t a b s
  | .mvm m k a b c => Sys2Proof.Machine.execMvm m k a b c s
  | .planLd m d a g => Sys2Proof.Machine.execPlanLd m d a g s
  | .planGoStart m d a b => Sys2Proof.Machine.execPlanGoStart m d a b s
  | .planGoDrainFinish m d a b => Sys2Proof.Machine.execPlanGoDrainFinish m d a b s
  | .planGoDrainDiscard m d a b => Sys2Proof.Machine.execPlanGoDrainDiscard m d a b s
  | .planGoRemove m d a b => Sys2Proof.Machine.execPlanGoRemove m d a b s
  | .spawn m a b => Sys2Proof.Machine.execSpawn m a b s
  | .pvalloc m d a b => Sys2Proof.Machine.execPvalloc m d a b s
  | .pvfree m d a => Sys2Proof.Machine.execPvfree m d a s
  | .pvq m d a => Sys2Proof.Machine.execPvq m d a s
  | .loadResultReturn gid n k => Sys2Proof.Machine.execLoadResultReturn gid n k s
  | .storePerformed gid => Sys2Proof.Machine.execStorePerformed gid s
  | .retryHintExpiry gid => Sys2Proof.Machine.execRetryHintExpiry gid s
  | .sliceRedirect gid => Sys2Proof.Machine.execSliceRedirect gid s
  | .sliceRetire d slices heirs => Sys2Proof.Machine.execSliceRetire d slices heirs s
  | .sliceStubRemove d => Sys2Proof.Machine.execSliceStubRemove d s
  | .orangeryRefreshAdvance => Sys2Proof.Machine.execOrangeryRefreshAdvance s
  | .tlbsyncComplete gid => Sys2Proof.Machine.execTlbsyncComplete gid s
  | .hostSyncPerformed gid => Sys2Proof.Machine.execHostSyncPerformed gid s
  | .hostBelvedereWrite off len value => Sys2Proof.Machine.execHostBelvedereWrite off len value s
  | .hostBelvedereRead off len => Sys2Proof.Machine.execHostBelvedereRead off len s
  | .atomicRequestAtHome gid => Sys2Proof.Machine.execAtomicRequestAtHome gid s
  | .atomicReply gid n k => Sys2Proof.Machine.execAtomicReply gid n k s
  | .barrierWake gid => Sys2Proof.Machine.execBarrierWake gid s
  | .arborRelease h n => Sys2Proof.Machine.execArborRelease h n s
  | .copyEntryStart core q => Sys2Proof.Machine.execCopyEntryStart core q s
  | .copyPiece core q off => Sys2Proof.Machine.execCopyPiece core q off s
  | .copyEntryComplete core q => Sys2Proof.Machine.execCopyEntryComplete core q s
  | .kwaitObjWake gid => Sys2Proof.Machine.execKwaitObjWake gid s
  | .fenceEntryHead core q => Sys2Proof.Machine.execFenceEntryHead core q s
  | .multicastSort core q => Sys2Proof.Machine.execMulticastSort core q s
  | .multicastResort core q => Sys2Proof.Machine.execMulticastResort core q s
  | .multicastAck core q im => Sys2Proof.Machine.execMulticastAck core q im s
  | .holdingBufferDrain cl n off => Sys2Proof.Machine.execHoldingBufferDrain cl n off s
  | .bulkStreamClose core q => Sys2Proof.Machine.execBulkStreamClose core q s
  | .bulkStreamTimeout core q => Sys2Proof.Machine.execBulkStreamTimeout core q s
  | .pipeRefillStart h n => Sys2Proof.Machine.execPipeRefillStart h n s
  | .pipeRefillComplete h n => Sys2Proof.Machine.execPipeRefillComplete h n s
  | .preserveUnblock gid => Sys2Proof.Machine.execPreserveUnblock gid s
  | .pipeHeadRise d => Sys2Proof.Machine.execPipeHeadRise d s
  | .messageAdmission gid => Sys2Proof.Machine.execMessageAdmission gid s
  | .waiterAdmission d => Sys2Proof.Machine.execWaiterAdmission d s
  | .messageReturn task => Sys2Proof.Machine.execMessageReturn task s
  | .runQueueEntryFree d => Sys2Proof.Machine.execRunQueueEntryFree d s
  | .taskRecordEntry d => Sys2Proof.Machine.execTaskRecordEntry d s
  | .sendwComplete gid => Sys2Proof.Machine.execSendwComplete gid s
  | .hostDoorbellWrite off len value => Sys2Proof.Machine.execHostDoorbellWrite off len value s
  | .hostDoorbellRead off => Sys2Proof.Machine.execHostDoorbellRead off s
  | .faultEventAdmit h => Sys2Proof.Machine.execFaultEventAdmit h s
  | .taskDispatch core => Sys2Proof.Machine.execTaskDispatch core s
  | .taskStart task => Sys2Proof.Machine.execTaskStart task s
  | .groupExitDrained gid => Sys2Proof.Machine.execGroupExitDrained gid s
  | .queueOverflow core => Sys2Proof.Machine.execQueueOverflow core s
  | .queueUnderflow core => Sys2Proof.Machine.execQueueUnderflow core s
  | .priorityRecompute d => Sys2Proof.Machine.execPriorityRecompute d s
  | .preemptTick d => Sys2Proof.Machine.execPreemptTick d s
  | .rebalanceTick h d => Sys2Proof.Machine.execRebalanceTick h d s
  | .coreMoveLoad core n => Sys2Proof.Machine.execCoreMoveLoad core n s
  | .deadlockDetect h => Sys2Proof.Machine.execDeadlockDetect h s
  | .drainQuiescence h => Sys2Proof.Machine.execDrainQuiescence h s
  | .gangStateObserve gid => Sys2Proof.Machine.execGangStateObserve gid s
  | .gangTimeout gid => Sys2Proof.Machine.execGangTimeout gid s
  | .flitReceive p seq vc ack nak cvc credit rest fwd => Sys2Proof.Machine.execFlitReceive p seq vc ack nak cvc credit rest fwd s
  | .idleFlit p => Sys2Proof.Machine.execIdleFlit p s
  | .retrainComplete p => Sys2Proof.Machine.execRetrainComplete p s
  | .retrainLimitExpiry p => Sys2Proof.Machine.execRetrainLimitExpiry p s
  | .retrainBucketDecay p => Sys2Proof.Machine.execRetrainBucketDecay p s
  | .forwardStallRelease p vc => Sys2Proof.Machine.execForwardStallRelease p vc s
  | .linkSilenceTimeout p => Sys2Proof.Machine.execLinkSilenceTimeout p s
  | .fatalErrorNotice sw => Sys2Proof.Machine.execFatalErrorNotice sw s
  | .portDownNotice dev sw => Sys2Proof.Machine.execPortDownNotice dev sw s
  | .matrixCommandStart task => Sys2Proof.Machine.execMatrixCommandStart task s
  | .operandFetchComplete core => Sys2Proof.Machine.execOperandFetchComplete core s
  | .multiplyStart task => Sys2Proof.Machine.execMultiplyStart task s
  | .multiplyComplete task => Sys2Proof.Machine.execMultiplyComplete task s
  | .mrowsRowEnter task => Sys2Proof.Machine.execMrowsRowEnter task s
  | .mvmComplete op => Sys2Proof.Machine.execMvmComplete op s
  | .trapEntry gid => Sys2Proof.Machine.execTrapEntry gid s
  | .stepBlockTimeout gid => Sys2Proof.Machine.execStepBlockTimeout gid s
  | .srseedWrite m sz => Sys2Proof.Machine.execSrseedWrite m sz s
  | .keyLoad m sz => Sys2Proof.Machine.execKeyLoad m sz s
  | .keyClear m sz => Sys2Proof.Machine.execKeyClear m sz s
  | .keyOpDone => Sys2Proof.Machine.execKeyOpDone s
  | .measExtend m sz => Sys2Proof.Machine.execMeasExtend m sz s
  | .measExtendDone => Sys2Proof.Machine.execMeasExtendDone s
  | .attestStart m sz => Sys2Proof.Machine.execAttestStart m sz s
  | .attestDone ok => Sys2Proof.Machine.execAttestDone ok s
  | .pavQuotaWrite m sz => Sys2Proof.Machine.execPavQuotaWrite m sz s
  | .pavQuotaDone => Sys2Proof.Machine.execPavQuotaDone s
  | .fabLostClear m sz => Sys2Proof.Machine.execFabLostClear m sz s
  | .devLostClear m h sz => Sys2Proof.Machine.execDevLostClear m h sz s
  | .controlRegWrite gid => Sys2Proof.Machine.execControlRegWrite gid s
  | .railEnable gid => Sys2Proof.Machine.execRailEnable gid s
  | .railGood d r => Sys2Proof.Machine.execRailGood d r s
  | .railLimitExpiry d r => Sys2Proof.Machine.execRailLimitExpiry d r s
  | .cpRun gid => Sys2Proof.Machine.execCpRun gid s
  | .cpHaltqRead gid => Sys2Proof.Machine.execCpHaltqRead gid s
  | .hbmInit gid => Sys2Proof.Machine.execHbmInit gid s
  | .hbmInitDone d => Sys2Proof.Machine.execHbmInitDone d s
  | .hbmTrain gid => Sys2Proof.Machine.execHbmTrain gid s
  | .hbmTrainDone d lanes => Sys2Proof.Machine.execHbmTrainDone d lanes s
  | .hbmTrainLimitExpiry d => Sys2Proof.Machine.execHbmTrainLimitExpiry d s
  | .hbmServe gid => Sys2Proof.Machine.execHbmServe gid s
  | .hbmMrGo gid => Sys2Proof.Machine.execHbmMrGo gid s
  | .hbmMrDone d => Sys2Proof.Machine.execHbmMrDone d s
  | .ucieTrain gid => Sys2Proof.Machine.execUcieTrain gid s
  | .ucieTrainDone d e => Sys2Proof.Machine.execUcieTrainDone d e s
  | .ucieTrainLimitExpiry d e => Sys2Proof.Machine.execUcieTrainLimitExpiry d e s
  | .pcieTrain gid => Sys2Proof.Machine.execPcieTrain gid s
  | .pcieTrainDone => Sys2Proof.Machine.execPcieTrainDone s
  | .pcieTrainLimitExpiry => Sys2Proof.Machine.execPcieTrainLimitExpiry s
  | .cxlEnable gid => Sys2Proof.Machine.execCxlEnable gid s
  | .ualTrain gid => Sys2Proof.Machine.execUalTrain gid s
  | .ualTrainDone p peer => Sys2Proof.Machine.execUalTrainDone p peer s
  | .ualTrainLimitExpiry p => Sys2Proof.Machine.execUalTrainLimitExpiry p s
  | .ualServe gid => Sys2Proof.Machine.execUalServe gid s
  | .arbTestGo gid => Sys2Proof.Machine.execArbTestGo gid s
  | .arbTestDone bad => Sys2Proof.Machine.execArbTestDone bad s
  | .coreTestGo gid => Sys2Proof.Machine.execCoreTestGo gid s
  | .coreTestDone d c mask => Sys2Proof.Machine.execCoreTestDone d c mask s
  | .orgTestGo gid => Sys2Proof.Machine.execOrgTestGo gid s
  | .orgTestDone d banks => Sys2Proof.Machine.execOrgTestDone d banks s
  | .flashProgram gid => Sys2Proof.Machine.execFlashProgram gid s
  | .flashWordStored => Sys2Proof.Machine.execFlashWordStored s
  | .powerOn rails failed => Sys2Proof.Machine.execPowerOn rails failed s
  | .powerCapCheck target => Sys2Proof.Machine.execPowerCapCheck target s
  | .dieOvertemp d temp => Sys2Proof.Machine.execDieOvertemp d temp s
  | .powerLoss => Sys2Proof.Machine.execPowerLoss s
  | .granuleZeroed sw n => Sys2Proof.Machine.execGranuleZeroed sw n s
  | .hostWriteCombineDrain n => Sys2Proof.Machine.execHostWriteCombineDrain n s
  | .memberLostNotice h dev => Sys2Proof.Machine.execMemberLostNotice h dev s
  | .sliceAdd d slice entries => Sys2Proof.Machine.execSliceAdd d slice entries s

end Sys2Proof.Machine
end

