-- ==== Sys2Proof/Machine/Schedule.lean ====
section
/-!
DEFINITION. What moves the machine: the issue of a group's next instruction (R62 to R65), the turns of the tape, the
order in which things move when the tape is empty (log 1), and how a word comes to be the next one issued (log 6).
-/

namespace Sys2Proof.Machine

/-! Issue. -/

/-- Blocks whose condition the instruction itself tests: it goes on once it would no longer block. -/
def Wait.retries : Wait → Bool
  | .outstanding => true
  | .places => true
  | .arbor _ => true
  | .tokens _ => true
  | .room => true
  | .queue _ _ => true
  | .accRow => true
  | .home => true
  | .withdrawn => true
  | .service => true
  | _ => false

/-- Whether the words that a group would fetch to issue can be: its next one, and the target of a prefix (R375, R384; log 73). -/
def State.canFetch (s : State) (gid : Nat) : Bool :=
  let g := s.group gid
  let target := s.fetchReady gid (wrap64 (g.pc + 4))
  match g.word with
  | none => s.fetchReady gid g.pc && (!isPrefixWord (s.wordAt gid g.pc) || target)
  | some w => !isPrefixWord w.toNat || g.target.isSome || target

/-- Whether a group may issue now (R63): resident, not parked, blocked, halted or at its end, with no trap due, its task begun
and not being saved, its die, or its control processor, running, and its words within reach. -/
def State.eligible (s : State) (gid : Nat) : Bool :=
  let g := s.group gid
  s.groups.has gid && g.wait.isNone && !g.parked && !g.halted && !g.exited && g.due.isNone
    && g.late.isEmpty && g.lateExtra == 0 && !g.stepDue && !(s.die (dieOfGid gid)).off && s.canFetch gid
    && (if isCp gid then s.cpRuns (dieOfGid gid)
        else (s.core (coreOfGid gid)).saving.isNone && !((s.task? g.task).any Task.starting))

/-- Whether a group's next word is of the group set: a prefix is, and once it has had its own cycle its target is the next
(R31, R44, R62, R64). A word that cannot be fetched goes to the vector pipe (log 74). -/
def State.nextIsGroup (s : State) (gid : Nat) : Bool :=
  let g := s.group gid
  match g.target, g.word with
  | some w, _ => w.getLsbD 31
  | none, some w => w.getLsbD 31
  | none, none => bit (s.wordAt gid g.pc) 31

/-- Whether two groups of a core meet at a pipe: the scalar pipe, or the vector pipe of their slots (R18, R64). -/
def samePipe (scalar : Bool) (a b : Nat) : Bool :=
  coreOfGid a == coreOfGid b && (scalar || slotOfGid a % 4 == slotOfGid b % 4)

/-- Whether group k meets group gid at the pipe of gid's next instruction, and may be chosen there in this cycle; `held` are
the groups that a timing condition keeps from issuing (log 5). -/
def State.rivals (s : State) (gid : Nat) (held : List Nat) (k : Nat) : Bool :=
  let scalar := s.nextIsGroup gid
  k != gid && !isCp k && !isCp gid && samePipe scalar k gid && s.eligible k && !held.contains k && s.nextIsGroup k == scalar

/-- A pipe's order of choice (R64, R65): a full pass-over count, then priority, then age. -/
def precedes (scalar : Bool) (x y : Group) : Bool :=
  let full (g : Group) : Bool := 64 ≤ (if scalar then g.passScalar else g.passVector)
  if full x != full y then full x
  else if !full x && x.prio != y.prio then decide (y.prio < x.prio)
  else decide (x.age < y.age)

/-- Whether a group's pipe chooses it in this cycle (R64). -/
def State.choosable (s : State) (gid : Nat) (held : List Nat) : Bool :=
  s.eligible gid && !held.contains gid
    && (Map.keys s.groups).all fun k => !s.rivals gid held k || precedes (s.nextIsGroup gid) (s.group gid) (s.group k)

/-- A pipe has chosen a group: its pass-over count there returns to zero, and that of every other eligible group rises
(R64). -/
def State.chosen (s : State) (gid : Nat) (held : List Nat) : State :=
  let scalar := s.nextIsGroup gid
  { s with
    cur := gid
    groups := Map.mapKeyed (fun k (g : Group) =>
      if k = gid then (if scalar then { g with passScalar := 0 } else { g with passVector := 0 })
      else if s.rivals gid held k then
        (if scalar then { g with passScalar := min 64 (g.passScalar + 1) } else { g with passVector := min 64 (g.passVector + 1) })
      else g) s.groups }

/-- A group issues its next instruction: the word at its PC, or the fault of its fetch (R31, R349). A blocked or repeated
instruction is not fetched again (R62, R87). -/
def State.issueNext (s : State) (gid : Nat) (held : List Nat) : Out :=
  let u := s.chosen gid held
  let pc := (s.group gid).pc
  match (s.group gid).word with
  | some w => runWord w u
  | none => match u.fetchWord gid pc with
    | .error t => .next (u.takeTrap gid (some t))
    | .ok w => let v := u.afterFetch gid pc; runWord w (v.setMe { v.me with word := some w })

/-- The issue of a group that its pipe does not choose changes nothing (log 1). -/
def State.issueTurn (s : State) (gid : Nat) (held : List Nat) : Out :=
  if s.choosable gid held then s.issueNext gid held else .next s

/-- A blocked group whose instruction would no longer block on the same condition is eligible again (R63). -/
def State.tryResume (s : State) (gid : Nat) : Option State :=
  let g := s.group gid
  match g.wait, g.word with
  | some w, some x =>
    if !w.retries || (s.core (coreOfGid gid)).saving.isSome then none
    else match runWord x { s.unblock gid with cur := gid } with
      | .next t => if (t.group gid).wait = some w then none else some (s.unblock gid)
      | _ => none
  | _, _ => none

/-! Requests on ports (R327, R330). -/

/-- The places that what a group asks of another owner's units lies at: of its `pportq` to other modules the next one in its program
order (R159, R261). A wait for service may be for any of them. -/
def State.askWants (s : State) (gid : Nat) : List Nat :=
  let g := s.group gid
  let commit (h : Nat) : List Nat := match s.plan? h with
    | some p => (match s.commitWord (s.planAsker h) p.commitVA with | .ok x => [x.1] | .error _ => [])
    | none => []
  (g.asked.map fun d => peerAddr d 0).toList ++ ((g.nextQuery.bind Pending.remote).map fun d => peerAddr d 0).toList
    ++ match g.wait with
      | some .home => (s.pipes.filter fun p => p.1 / 64 == g.plan).filterMap fun p => s.homePlace p.2
      | some (.pipeFree n _ _) => ((s.pipe? g.plan n).bind s.homePlace).toList
      | some (.gang h _) => commit h
      | some .service => (List.range 48).map (pavAddr · 0) ++ (List.range 128).map (peerAddr · 0)
      | _ => []

/-- Where a pipe's refills have still to read. -/
def Pipe.refills (p : Pipe) : List Nat :=
  List.flatMap (fun (x : Nat × Slot) => if x.2.loc = .refill then x.2.todo.map fun r => p.spillVA x.1 r.1 else []) p.slots

/-- The places that a group's next access reads or writes. -/
def State.nextPlaces (s : State) (gid : Nat) : List Nat :=
  match (s.group gid).nextAccess with
  | some x => s.placesOf x.2.2
  | none => []

/-- The remote places that a request is for, or may be for. -/
def State.wants (s : State) (f : Flight) : List Nat :=
  (match f with
   | .access gid line => (s.nextPlaces gid).filter fun a => a / 64 == line
   | .entry c q => ((s.head? c q).map (s.entryWants c q)).getD []
   | .mvm op => s.mvmWants op
   | .ask gid => s.askWants gid
   | .refill h n => match s.pipe? h n with
     | none => []
     | some p => p.refills.filterMap fun va => match s.leafFor (s.planAsker h (2816 + p.home % 16)) false va with
         | .ok e => some (s.place e va)
         | .error _ => none
   | .event h => match s.plan? h with
     | none => []
     | some p => (if p.pending.isEmpty then [] else [peerAddr (bits p.faultPort 29 23) 0])
         ++ (match s.commitWord (s.planAsker h) p.commitVA with | .ok x => [x.1] | .error _ => [])
   | .notice dev => if s.lostOut.contains dev then [peerAddr dev 0] else []
   | .quota => if bits s.pavQuota.toNat 21 20 = 1 then [pavAddr (bits s.pavQuota.toNat 47 42) 0] else []
   | .key => if bits s.keyCtl.toNat 37 36 = 1 ∧ bits s.keyCtl.toNat 43 38 < 48 then [pavAddr (bits s.keyCtl.toNat 43 38) 0] else []).filter fun a => isRemote a && !s.addrLost a

/-- A request goes out to one of the owners that it is for, on a port that leads there, if it is on none and a credit allows it (R326,
R327, R330). -/
def State.tryLaunch (s : State) (f : Flight) (p o : Nat) : Option State :=
  if (s.flightPort f o).isNone && s.maySend p 0 && s.leadsTo p o && ofOwner o (s.wants f) then some (s.launch f p o) else none

/-! What comes from outside. -/

/-- A TLB takes the valid leaf of a page under a group's context, where it has room: the L1 TLB of its core from the L2 TLB or
a walk, the L2 TLB of its die from a walk (R143). -/
def State.tlbFill (s : State) (gid va : Nat) (l2 : Bool) : Option State :=
  let a := s.askerAt gid
  let unit := if l2 then l2Unit a.unit else a.unit
  let full := if l2 then 16384 else 256
  if !s.groups.has gid || isCp gid || decide (2 ^ 56 ≤ va) || (s.tlbLeaf unit a.ctx (va / 4096)).isSome
      || decide (full ≤ (s.tlb.filter fun e => e.unit == unit).length) then none
  else match (if l2 then s.walk a.root va else s.leaf? a va) with
    | .ok e => some { s with tlb := s.tlb ++ [⟨unit, a.ctx, va / 4096, e⟩] }
    | .error _ => none

/-- Bytes become uncorrectable (R156). -/
def State.strike (s : State) (a n : Nat) : State :=
  { s with bad := (List.range n).foldl (fun (m : Map Nat) i => m.put (a + i) 1) s.bad }

/-- A refill piece of a pipe of a plan, with event 5 for one that cannot be read (R226, R316). -/
def State.refillTurn (s : State) (h n k off : Nat) : Option State := s.tryRefillPiece h n k off (State.refillFault h n k)

/-- A core holds every die's present slice map (R155). -/
def State.ackMaps (s : State) (c : Nat) : State :=
  if (s.core c).maps = [] ∧ (List.range 16).all (fun d => (s.die d).mapGen == 0) then s
  else (List.range 16).foldl (fun st d => st.loadMap c d) s

/-- Another module's store or atomic takes its place (R327, R329, R331): in HBM4E of this module, whose edge may hold no key, or in
a slot of a pipe, which it reaches on a port; or in a peer's HBM4E, or in Pavilion memory, whose switch may refuse it. The module
that makes it holds the home's key at its own edge (R362; log 97). -/
def State.remoteWrite (s : State) (via tenant key a : Nat) (bs : List Byte) : Option State :=
  if 16 < a % 16 + bs.length ∨ s.addrLost a ∨ !s.serves a then none
  else if a < hbmSize then
    (if s.hasKey 63 key then (s.arrives via 0).map fun t => t.writePiece { tenant := tenant } key a bs else none)
  else if isPav a ∨ isPeer a then
    (if s.edgeDenied { tenant := tenant } key a then some (s.violate tenant a)
     else some (s.writeTagged a bs (s.keyTag (keyTable a) key)))
  else if 2 ^ 52 ≤ a then (s.arrives via 0).map fun t => t.write a bs
  else none

/-- Whether a switch can come from one state to another by what it does for other modules (R334, R337): allocations of free
granules within their tenants' limits, freed granules that are still to be zeroed, new limits and violation counts. -/
def Switch.follows (x w : Switch) : Bool :=
  let gone := x.allocs.filter fun a => !w.allocs.contains a
  let came := w.allocs.filter fun a => !x.allocs.contains a
  let within (a : PavAlloc) (n : Nat) : Bool := decide (a.start ≤ n) && decide (n < a.start + a.len)
  w.lost == x.lost && x.dirty.all w.dirty.contains
    && w.dirty.all (fun n => x.dirty.contains n || gone.any (within · n))
    && gone.all (fun a => (List.range a.len).all fun i => w.dirty.contains (a.start + i))
    && came.all (fun a => decide (1 ≤ a.len) && decide (a.len ≤ x.freeFrom a.start) && decide (w.used a.tenant ≤ w.limit.getD a.tenant 0)
        && came.all fun b => a == b || decide (a.start + a.len ≤ b.start) || decide (b.start + b.len ≤ a.start))

/-- Firmware has loaded or cleared an entry of another owner's key table (R362). -/
def State.remoteKey (s : State) (table id : Nat) (key : Option Key) : Option State :=
  if 8192 ≤ id ∨ 192 ≤ table ∨ (48 ≤ table ∧ table < 64) ∨ table = 64 + s.device then none
  else some { s with keys := match key with
    | some k => s.keys.put (table * 8192 + id) k
    | none => s.keys.del (table * 8192 + id) }

/-! Dies that are off (R375, R386; log 96). -/

/-- The die of a unit that makes requests: a core, or 2,816 + d for one of die d that belongs to no core. -/
def dieOfUnit (unit : Nat) : Nat := if unit < 2816 then dieOfCore unit else unit - 2816

/-- The dies of a task, of a matrix-vector product, and of the home of a pipe of this module. -/
def State.taskDies (s : State) (task : Nat) : List Nat := ((s.task? task).map Task.die).toList
def State.mvmDies (s : State) (op : Nat) : List Nat := ((s.mvms.get? op).map fun m => dieOfUnit m.who.unit).toList
def State.pipeDies (s : State) (h n : Nat) : List Nat :=
  ((s.pipe? h n).bind fun p => if p.homeKind == 0 && p.home / 16 == s.device then some (p.home % 16) else none).toList

/-- The dies of the join units that a group's send, a task's return and a plan's event go to. -/
def State.sendDies (s : State) (gid : Nat) : List Nat :=
  match (s.group gid).wait with
  | some (.sending id _ _) => [dieOfPort (portKey id)]
  | _ => []
def State.returnDies (s : State) (task : Nat) : List Nat :=
  match s.task? task with
  | none => []
  | some t => t.items.filterMap fun i => match i with
    | .message key _ => some (dieOfPort key)
    | _ => none
def State.eventDies (s : State) (h : Nat) : List Nat :=
  match s.plan? h with
  | none => []
  | some p => if portDevice p.faultPort = s.device then [dieOfPort (portKey p.faultPort)] else []

/-- The dies whose units take part in a step of the opcode table that has no word; those of bring-up, of the fabric and of the system
engines are not among them. -/
def State.stepDies (s : State) : Instr → List Nat
  | .loadResultReturn gid _ _ => [dieOfGid gid]
  | .storePerformed gid => [dieOfGid gid]
  | .retryHintExpiry gid => [dieOfGid gid]
  | .sliceRedirect gid => [dieOfGid gid]
  | .sliceRetire d _ _ => [d]
  | .sliceStubRemove d => [d]
  | .sliceAdd d _ _ => [d]
  | .tlbsyncComplete gid => [dieOfGid gid]
  | .hostSyncPerformed gid => [dieOfGid gid]
  | .atomicRequestAtHome gid => [dieOfGid gid]
  | .atomicReply gid _ _ => [dieOfGid gid]
  | .barrierWake gid => [dieOfGid gid]
  | .copyEntryStart core _ => [dieOfCore core]
  | .copyPiece core _ _ => [dieOfCore core]
  | .copyEntryComplete core _ => [dieOfCore core]
  | .kwaitObjWake gid => [dieOfGid gid]
  | .fenceEntryHead core _ => [dieOfCore core]
  | .multicastSort core _ => [dieOfCore core]
  | .multicastResort core _ => [dieOfCore core]
  | .multicastAck core _ _ => [dieOfCore core]
  | .holdingBufferDrain cl _ _ => [cl / 22]
  | .bulkStreamClose core _ => [dieOfCore core]
  | .bulkStreamTimeout core _ => [dieOfCore core]
  | .pipeRefillStart h n => s.pipeDies h n
  | .pipeRefillComplete h n => s.pipeDies h n
  | .preserveUnblock gid => [dieOfGid gid]
  | .pipeHeadRise d => [d]
  | .messageAdmission gid => dieOfGid gid :: s.sendDies gid
  | .waiterAdmission d => [d]
  | .messageReturn task => s.taskDies task ++ s.returnDies task
  | .runQueueEntryFree d => [d]
  | .taskRecordEntry d => [d]
  | .sendwComplete gid => [dieOfGid gid]
  | .hostDoorbellWrite off _ _ => [dieOfPort (off / 32)]
  | .hostDoorbellRead off => [dieOfPort (off / 32)]
  | .faultEventAdmit h => s.eventDies h
  | .taskDispatch core => [dieOfCore core]
  | .taskStart task => s.taskDies task
  | .groupExitDrained gid => [dieOfGid gid]
  | .queueOverflow core => [dieOfCore core]
  | .queueUnderflow core => [dieOfCore core]
  | .priorityRecompute d => [d]
  | .preemptTick d => [d]
  | .rebalanceTick _ d => [d]
  | .coreMoveLoad core _ => [dieOfCore core]
  | .gangStateObserve gid => [dieOfGid gid]
  | .gangTimeout gid => [dieOfGid gid]
  | .matrixCommandStart task => s.taskDies task
  | .operandFetchComplete core => [dieOfCore core]
  | .multiplyStart task => s.taskDies task
  | .multiplyComplete task => s.taskDies task
  | .mrowsRowEnter task => s.taskDies task
  | .mvmComplete op => s.mvmDies op
  | .trapEntry gid => [dieOfGid gid]
  | .stepBlockTimeout gid => [dieOfGid gid]
  | .controlRegWrite gid => [dieOfGid gid]
  | .railEnable gid => [dieOfGid gid]
  | .cpRun gid => [dieOfGid gid]
  | .cpHaltqRead gid => [dieOfGid gid]
  | .hbmInit gid => [dieOfGid gid]
  | .hbmTrain gid => [dieOfGid gid]
  | .hbmServe gid => [dieOfGid gid]
  | .hbmMrGo gid => [dieOfGid gid]
  | .ucieTrain gid => [dieOfGid gid]
  | .pcieTrain gid => [dieOfGid gid]
  | .cxlEnable gid => [dieOfGid gid]
  | .ualTrain gid => [dieOfGid gid]
  | .ualServe gid => [dieOfGid gid]
  | .arbTestGo gid => [dieOfGid gid]
  | .coreTestGo gid => [dieOfGid gid]
  | .orgTestGo gid => [dieOfGid gid]
  | .flashProgram gid => [dieOfGid gid]
  | _ => []

/-- The dies whose units a request comes from. -/
def State.requestDies (s : State) : Flight → List Nat
  | .access gid _ => [dieOfGid gid]
  | .entry core _ => [dieOfCore core]
  | .mvm op => s.mvmDies op
  | .ask gid => [dieOfGid gid]
  | .refill h n => s.pipeDies h n
  | _ => []

/-- The dies whose units take part in a turn. -/
def State.turnDies (s : State) : Turn → List Nat
  | .issue gid _ => [dieOfGid gid]
  | .resume gid => [dieOfGid gid]
  | .hostAccess gid _ => [dieOfGid gid]
  | .event e => s.stepDies e
  | .requestSent f _ _ => s.requestDies f
  | .tlbFill gid _ _ => [dieOfGid gid]
  | .hostCacheFill c _ => if c < 2816 then [dieOfCore c] else []
  | .refuse gid _ => [dieOfGid gid]
  | .mapAck c => [dieOfCore c]
  | .matrixPiece task _ _ _ => s.taskDies task
  | .mvmPiece op _ _ => s.mvmDies op
  | .refillPiece pipe _ _ => s.pipeDies (pipe / 64) (pipe % 64)
  | .drainPiece cl _ => [cl / 22]
  | .remotePipe _ h n _ => s.pipeDies h n
  | .remoteSend _ port _ _ _ _ => [dieOfPort port]
  | .remoteWithdraw _ port _ => [dieOfPort port]
  | .answer gid _ _ => [dieOfGid gid]
  | .admitted gid _ => [dieOfGid gid]
  | .withdraw gid => [dieOfGid gid]
  | .deadlineServed d => [d]
  | _ => []

/-- The dies that are not off. -/
def State.diesOn (s : State) : List Nat := (List.range 18).filter fun d => !(s.die d).off

/-- Whether none of these dies is off. -/
def State.allOn (s : State) (dies : List Nat) : Bool := dies.all fun d => !(s.die d).off

/-- Whether the units that a turn needs have power: the cores, the L2, the copy engines and the join unit of a die that is off do
nothing (R375, R386). -/
def State.powered (s : State) (t : Turn) : Bool := s.allOn (s.turnDies t)

/-- One turn of the tape. A turn that the state does not allow changes nothing (log 1). -/
def State.turn (s : State) (t : Turn) : Out :=
  if !s.powered t then .next s
  else match t with
  | .issue gid held => s.issueTurn gid held
  | .resume gid => event s (s.tryResume gid)
  | .hostAccess gid n => event s (s.tryHostAccess gid n)
  | .event e => if (encode e).isNone then exec e s else .next s
  | .requestSent f p o => event s (s.tryLaunch f p o)
  | .idle n => .next { s with cycle := s.cycle + n }
  | .tlbFill gid va l2 => event s (s.tlbFill gid va l2)
  | .tlbEvict n => .next { s with tlb := dropAt s.tlb n }
  | .hostCacheFill c sector => if isHost (sector * 16) ∧ c ≤ 2816 ∧ !s.hostPortOut then .next (s.hostFill c sector) else .next s
  | .hostCacheDrop c sector => .next (s.hostDrop c sector)
  | .hostWrite a bs => if a + bs.length ≤ 2 ^ 46 then .next (s.write (hostAddr a) bs) else .next s
  | .eccStrike a n => .next (s.strike a n)
  | .refuse gid n => event s (s.tryRefuse gid n)
  | .mapAck c => .next (s.ackMaps c)
  | .matrixPiece task cmd stage off => event s (s.tryMatrixPiece task cmd stage off)
  | .mvmPiece op which off => event s (s.tryMvmPiece op which off)
  | .refillPiece pipe slot off => event s (s.refillTurn (pipe / 64) (pipe % 64) slot off)
  | .drainPiece cl tile => event s (s.tryDrain cl tile 0)
  | .remotePipe via h n op => event s (s.remotePipe via h n op)
  | .remoteWrite via tenant key a bs => event s (s.remoteWrite via tenant key a bs)
  | .remoteSend via port tenant sender m blocking => event s (s.remoteSend via port tenant sender m blocking)
  | .remoteWithdraw via port sender => event s (s.remoteWithdraw via port sender)
  | .answer gid k v => event s (s.tryAnswer gid k v)
  | .admitted gid ticket => event s (s.tryAdmitted gid ticket)
  | .withdraw gid => event s (s.tryWithdrawn gid)
  | .remoteSwitch sw w => if (s.switch sw).follows w then .next (s.setSwitch sw w) else .next s
  | .remoteKey table id key => event s (s.remoteKey table id key)
  | .lostSent dev => event s (s.tryLostSent dev)
  | .deviceBack dev => .next { s with notices := s.notices.keep fun k _ => k / 48 != dev }
  | .cpEntry d pc => event s (s.cpEntry d pc)
  | .entropy off => event s (s.drawEntropy off)
  | .corrected bank => .next (s.corrected bank)
  | .deadlineServed d => event s (s.tryDeadlineServed d)

/-- A port as cycles pass: its bucket's level falls (R325); one that has to die does (R341); another sends a flit every 16 cycles
(R323). -/
def State.portTick (s : State) (p : Nat) : State :=
  if s.portDies p then s.killPort p
  else
    let u := (s.ual p).decayed s.cycle
    s.setUal p (if s.portOpen p then (List.range (min 1024 ((s.cycle - u.sentAt) / 16))).foldl (fun v _ => v.fill (v.sentAt + 16)) u else u)

/-- A module cycle passes (R348): ports send and age, and each plan's waiting time is kept (R320). -/
def State.tick (s : State) : State :=
  let u := { s with cycle := s.cycle + 1 }
  ((Map.keys u.uals).foldl State.portTick u).trackWaiting

/-! The order in which things move when the tape is empty (log 1). -/

/-- The requests that may still have to go out. -/
def State.flightsOf (s : State) : List Flight :=
  (Map.keys s.groups).flatMap (fun g => Flight.ask g :: ((s.nextPlaces g).map fun a => Flight.access g (a / 64)).eraseDups)
    ++ (Map.keys s.cores).flatMap (fun c => (List.range 5).map (Flight.entry c))
    ++ (Map.keys s.mvms).map Flight.mvm ++ (Map.keys s.pipes).map (fun k => Flight.refill (k / 64) (k % 64))
    ++ (Map.keys s.plans).map Flight.event ++ s.lostOut.map Flight.notice ++ [Flight.quota, Flight.key]

/-- The next request to go out on a port, and what has been heard on one. -/
def State.autoLink (s : State) : Option State :=
  (if s.uals.isEmpty then none
   else (s.flightsOf.filter fun f => s.allOn (s.requestDies f)).findSome? fun f => ((s.wants f).map ownerOf).eraseDups.findSome? fun o =>
     (Map.keys s.uals).findSome? fun p => s.tryLaunch f p o)
    <|> s.lostOut.findSome? fun d => s.tryLostSent d

/-- What a group's own units can do next. -/
def State.autoGroup (s : State) (gid : Nat) : Option State :=
  let g := s.group gid
  s.tryTrapEntry gid <|> s.tryStepTimeout gid <|> s.tryWoken gid <|> s.tryRemoval gid <|> s.tryResume gid
    <|> s.trySliceRedirect gid <|> s.tryPerform gid (fun _ => true) <|> s.tryHostAccess gid 0
    <|> (List.range g.out.length).findSome? (fun n => match g.out[n]? with
        | some p => s.tryDeliver gid n (p.writes.length + 320) p.atomic
        | none => none)
    <|> s.tryRetry gid <|> s.tryAdmission gid <|> s.trySendwComplete gid
    <|> s.tryPreserveUnblock gid <|> s.tryTlbsync gid <|> s.tryGangObserve gid <|> s.tryGangTimeout gid
    <|> s.tryExitDrained gid

/-- The next steps of a queue's head: the writes of what it has read, then its next linear byte. -/
def State.nextPieces (s : State) (c q : Nat) : List Nat :=
  match s.head? c q with
  | none => []
  | some e => match e.kind with
    | .fetch id stages => stages.filterMap fun k => match ((s.task? e.task).bind fun t => t.cmd? id).map fun d => (d.stage k).todo with
        | some ((a, _) :: _) => some (k * 2 ^ 24 + a)
        | _ => none
    | _ => (List.range e.moving.length).map (writeBase + ·) ++ (e.todo.map Prod.fst).take 1

/-- What a queue's head can do next. -/
def State.autoQueue (s : State) (c q : Nat) : Option State :=
  s.tryStreamTimeout c q <|> s.tryEntryStart c q <|> s.tryFenceHead c q <|> s.tryStreamClose c q <|> s.tryCastSort c q
    <|> s.tryCastResort c q <|> (s.nextPieces c q).findSome? (s.tryPiece c q)
    <|> (match (s.head? c q).map Entry.kind with
      | some (.multicast _ rs) => rs.findSome? fun i => s.tryCastAck c q i
      | _ => none)
    <|> s.tryEntryComplete c q

/-- What a core's engines and its scheduler can do next. -/
def State.autoCore (s : State) (c : Nat) : Option State :=
  (List.range 5).findSome? (fun q => s.autoQueue c q) <|> s.tryFetchComplete c <|> s.tryMoveLoad c 0 <|> s.tryDispatch c
    <|> s.tryOverflow c <|> s.tryUnderflow c

/-- What a cluster's holding buffer can do next. -/
def State.autoCluster (s : State) (cl : Nat) : Option State :=
  let ps := (s.cluster cl).parked
  (List.range ps.length).findSome? fun n => match (ps[n]?).bind ParkedTile.drain with
    | some d => ((List.range d.counts.length).map (writeBase + ·) ++ (d.todo.map Prod.fst).take 1 ++ [0]).findSome? (s.tryDrain cl n)
    | none => s.tryDrain cl n 0

/-- What a task's matrix unit and its return can do next. -/
def State.autoTask (s : State) (t : Nat) : Option State :=
  s.tryTaskStart t <|> s.tryCmdStart t
    <|> (((s.active? t).map Task.going).getD []).findSome? (fun c => (List.range 5).findSome? fun k =>
        s.tryMatrixPiece t c.id k ((c.stage k).todo.headD (0, 0)).1)
    <|> s.tryMultiplyStart t <|> s.tryMultiplyComplete t <|> s.tryRowEnter t <|> s.tryReturn t

/-- What a matrix-vector product can do next. -/
def State.autoMvm (s : State) (op : Nat) : Option State :=
  (match s.mvms.get? op with
   | none => none
   | some m => [(0, m.a.todo), (1, m.ap.todo), (2, m.b.todo), (3, m.bp.todo), (4, m.todo)].findSome? fun x =>
       (x.2.head?).bind fun r => s.tryMvmPiece op x.1 r.1)
    <|> s.tryMvmComplete op

/-- What a plan's pipes, events and rebalancers can do next. -/
def State.autoPlan (s : State) (h : Nat) (p : Plan) : Option State :=
  (p.arbors.findSome? fun e => s.tryArborRelease h e.number) <|> (if s.allOn (s.eventDies h) then s.tryEventAdmit h else none)
    <|> ((List.range p.npipes).filter fun n => s.allOn (s.pipeDies h n)).findSome? (fun n => s.tryRefillStart h n
        <|> (match (s.pipe? h n).bind fun q => q.slots.find? fun x => x.2.loc == .refill && !x.2.todo.isEmpty with
          | some x => s.refillTurn h n x.1 (x.2.todo.headD (0, 0)).1
          | none => none)
        <|> s.tryRefillComplete h n)
    <|> s.tryQuiescence h <|> s.tryDeadlock h <|> (s.diesOn.filter (· < 16)).findSome? (fun d => s.tryRebalance h d)

/-- What a die's join unit and its control processor's tasks can do next. -/
def State.autoDie (s : State) (d : Nat) : Option State :=
  s.tryWaiterAdmission d <|> s.tryHeadRise d <|> s.tryRecordEntry d <|> s.tryEntryFree d <|> s.tryRecompute d
    <|> s.tryPreemptTick d <|> s.trySliceStubRemove d <|> s.tryDeadlineServed d

/-- What the system engines and the units of bring-up can do next, each without a failure. -/
def State.autoModule (s : State) : Option State :=
  (if s.power || s.poweredOff then none else s.tryPowerOn 0xFFFF 0)
    <|> s.tryKeyDone <|> s.tryMeasDone <|> s.tryAttestDone 1 <|> s.tryQuotaDone <|> s.tryWordStored
    <|> (s.switches.findSome? fun w => w.2.dirty.findSome? fun n => s.tryZeroed w.1 n)
    <|> (List.range 18).findSome? (fun d => (List.range 4).findSome? (fun r => s.tryRailGood d r) <|> s.tryInitDone d
        <|> s.tryTrainDone d 0 <|> s.tryMrDone d <|> (List.range 4).findSome? (fun e => s.tryUcieDone d e)
        <|> s.tryOrgDone d 0 <|> (List.range 22).findSome? (fun c => s.tryCoreDone d c 0))
    <|> s.tryPcieDone <|> s.tryArbDone 0 <|> s.autoLink

/-- The group that issues next: every pipe chooses one (R64), and the pipes' choices take turns. -/
def State.nextIssuer (s : State) : Option Nat :=
  let first := (Map.keys s.groups).filter fun k => s.choosable k []
  first[s.cycle % max 1 first.length]?

/-- The first step that a unit can take. -/
def State.autoUnit (s : State) : Option State :=
  s.autoModule
    <|> s.diesOn.findSome? (fun d => s.autoDie d)
    <|> ((Map.keys s.groups).filter fun g => s.allOn (dieOfGid g :: s.sendDies g)).findSome? (fun g => s.autoGroup g)
    <|> ((Map.keys s.clusters).filter fun c => s.allOn [c / 22]).findSome? (fun c => s.autoCluster c)
    <|> ((Map.keys s.cores).filter fun c => s.allOn [dieOfCore c]).findSome? (fun c => s.autoCore c)
    <|> ((Map.keys s.tasks).filter fun t => s.allOn (s.taskDies t ++ s.returnDies t)).findSome? (fun t => s.autoTask t)
    <|> ((Map.keys s.mvms).filter fun o => s.allOn (s.mvmDies o)).findSome? (fun o => s.autoMvm o)
    <|> s.plans.findSome? (fun p => s.autoPlan p.1 p.2)

/-- What moves next when the tape is empty: a unit, else a group, else a held store of host memory, else a cycle alone. -/
def State.auto (s : State) : Out :=
  match s.autoUnit with
  | some t => .next t
  | none => match s.nextIssuer with
    | some k => s.issueNext k []
    | none => event s (s.tryCombineDrain 0)

/-- The agent that the tape names moves, or, with an empty tape, the next in order. -/
def State.move (s : State) : Out :=
  match s.tape with
  | t :: rest => { s with tape := rest }.turn t
  | [] => s.auto

/-- A step that goes on ends with a tick. -/
def thenTick : Out → Out
  | .next s => .next s.tick
  | .fault f => .fault f
  | .refused r => .refused r

/-! Placing a word (log 6). -/

/-- The tables and the page that a placed word lies in: five levels of tables from physical page 1 up, one page of code at
virtual and physical page 6, under key id 0 and context 0. -/
def placeTables (m : List Host.Cell) : List Host.Cell :=
  let entry (level next flags : Nat) (m : List Host.Cell) : List Host.Cell :=
    memWrite m (level * 4096) (leBytes 8 (next * 2 ^ 30 + flags))
  memWrite (entry 1 2 1 (entry 2 3 1 (entry 3 4 1 (entry 4 5 1 m)))) (5 * 4096 + 48) (leBytes 8 (6 * 2 ^ 30 + 2 ^ 7 + 0xB))

/-- A group of a core in user mode, and the turn that issues its next instruction: the word w, which is one word of 32
bits, at the PC of the group. Its stack is in service. -/
def State.withWord (s : State) (w : Nat) : State :=
  { s with
    tape := [.issue 0 ((Map.keys s.groups).filter (· != 0))]
    cores := s.cores.put 0 { s.core 0 with saving := none }
    tlb := s.tlb.filter fun e => e.ctx != 0
    mem := memWrite (memWrite (memWrite (placeTables s.mem) (6 * 4096) (leBytes 8 w)) (6 * 4096 + 8) (leBytes 8 0))
      (flashAddr 0x240) [s.byte (flashAddr 0x240) &&& 0xFE]
    stackOut := s.stackOut - s.stackOut % 2
    busy := Map.del (busyKey 0 .hbm 3) s.busy
    bad := clearBad s.bad 4096 (6 * 4096)
    byteKey := s.byteKey.keep fun k _ => !(decide (4096 ≤ k) && decide (k < 7 * 4096))
    keys := s.keys.put (63 * 8192) (List.replicate 64 0)
    dies := s.dies.put 0 { s.die 0 with off := false, stackOff := false }
    tasks := s.tasks.put 0 { plan := 0, stage := 0, die := 0, running := true, groups := [0], live := [0] }
    groups := s.groups.put 0 { pc := 6 * 4096, budget := 128, ptRoot := 0x1000 } }

end Sys2Proof.Machine
end

