-- ==== Sys2Proof/Machine/Step.lean ====
section
/-!
DEFINITION. The step of the machine, and the placing of an instruction where the next step fetches it.
-/

namespace Sys2Proof.Machine

/-- One step: one agent moves (log 1), and a module cycle passes. -/
def step (s : State) : Host.Outcome State Fault Refusal := thenTick s.move

/-- The state whose next step fetches and issues the word of an instruction (log 6); every instruction is one word of 32
bits (R31). -/
def State.withFetchWord (s : State) (nbits w : Nat) : State := s.withWord (w % 2 ^ nbits % 2 ^ 32)

end Sys2Proof.Machine
end

