-- ==== Sys2Proof/WellFormed.lean ====
section
/-!
DEFINITION. Which terms of the syntax are instructions: what an instruction's own form demands of its operands
(R35, R36, R112, R119, R121, R132), and that a `sysw` names no register whose write is a row of its own (R347).
-/

namespace Sys2Proof

/-- Registers of `sysw` whose write is a row of its own (R131, R340, R342, R362, R363, R364). -/
def ownRow (r : BitVec 12) : Bool :=
  match r.toNat with
  | 0x001 => true
  | 0x0C0 => true
  | 0x0C1 => true
  | 0x0C2 => true
  | 0x0C3 => true
  | 0x084 => true
  | 0x085 => true
  | 0x086 => true
  | _ => false

/-- Whether a term is an instruction of the machine. -/
def Instr.wellFormed (i : Instr) : Bool :=
  match i with
  | .vadd _ _ _ _ => true
  | .vsub _ _ _ _ => true
  | .vaddsI32 _ _ _ _ => true
  | .vaddsN32 _ _ _ _ => true
  | .vsubsI32 _ _ _ _ => true
  | .vsubsN32 _ _ _ _ => true
  | .vaddS _ _ _ _ => true
  | .vsubS _ _ _ _ => true
  | .vaddsI32S _ _ _ _ => true
  | .vaddsN32S _ _ _ _ => true
  | .vsubsI32S _ _ _ _ => true
  | .vsubsN32S _ _ _ _ => true
  | .vmul _ _ _ _ => true
  | .vmulhI32 _ _ _ _ => true
  | .vmulhN32 _ _ _ _ => true
  | .vmad _ _ _ _ => true
  | .vdivI32 _ _ _ _ => true
  | .vdivN32 _ _ _ _ => true
  | .vremI32 _ _ _ _ => true
  | .vremN32 _ _ _ _ => true
  | .vmulS _ _ _ _ => true
  | .vmulhI32S _ _ _ _ => true
  | .vmulhN32S _ _ _ _ => true
  | .vmadS _ _ _ _ => true
  | .vdivI32S _ _ _ _ => true
  | .vdivN32S _ _ _ _ => true
  | .vremI32S _ _ _ _ => true
  | .vremN32S _ _ _ _ => true
  | .vand _ _ _ _ => true
  | .vor _ _ _ _ => true
  | .vxor _ _ _ _ => true
  | .vandn _ _ _ _ => true
  | .vshl _ _ _ _ => true
  | .vshr _ _ _ _ => true
  | .vsra _ _ _ _ => true
  | .vrol _ _ _ _ => true
  | .vandS _ _ _ _ => true
  | .vorS _ _ _ _ => true
  | .vxorS _ _ _ _ => true
  | .vandnS _ _ _ _ => true
  | .vshlS _ _ _ _ => true
  | .vshrS _ _ _ _ => true
  | .vsraS _ _ _ _ => true
  | .vrolS _ _ _ _ => true
  | .vminI32 _ _ _ _ => true
  | .vmaxI32 _ _ _ _ => true
  | .vminN32 _ _ _ _ => true
  | .vmaxN32 _ _ _ _ => true
  | .vabsI32 _ _ _ => true
  | .vclz _ _ _ => true
  | .vpopc _ _ _ => true
  | .vbrev _ _ _ => true
  | .vminI32S _ _ _ _ => true
  | .vmaxI32S _ _ _ _ => true
  | .vminN32S _ _ _ _ => true
  | .vmaxN32S _ _ _ _ => true
  | .vcmpEq _ _ _ _ => true
  | .vcmpNe _ _ _ _ => true
  | .vcmpLt _ _ _ _ => true
  | .vcmpLe _ _ _ _ => true
  | .vcmpGt _ _ _ _ => true
  | .vcmpGe _ _ _ _ => true
  | .vcmpLo _ _ _ _ => true
  | .vcmpLs _ _ _ _ => true
  | .vcmpHi _ _ _ _ => true
  | .vcmpHs _ _ _ _ => true
  | .vcmpEqS _ _ _ _ => true
  | .vcmpNeS _ _ _ _ => true
  | .vcmpLtS _ _ _ _ => true
  | .vcmpLeS _ _ _ _ => true
  | .vcmpGtS _ _ _ _ => true
  | .vcmpGeS _ _ _ _ => true
  | .vcmpLoS _ _ _ _ => true
  | .vcmpLsS _ _ _ _ => true
  | .vcmpHiS _ _ _ _ => true
  | .vcmpHsS _ _ _ _ => true
  | .vsel _ _ _ _ => true
  | .vmov _ _ _ => true
  | .vmovS _ _ _ => true
  | .vtid _ _ => true
  | .vaddi _ _ _ _ => true
  | .vmovi _ _ _ => true
  | .vandi _ _ _ _ => true
  | .vori _ _ _ _ => true
  | .vxori _ _ _ _ => true
  | .vshli _ _ _ _ => true
  | .vshri _ _ _ _ => true
  | .vsrai _ _ _ _ => true
  | .vmuli _ _ _ _ => true
  | .vfaddF32 _ _ _ _ => true
  | .vfsubF32 _ _ _ _ => true
  | .vfmulF32 _ _ _ _ => true
  | .vfminF32 _ _ _ _ => true
  | .vfmaxF32 _ _ _ _ => true
  | .vfmaF32 _ _ _ _ => true
  | .vfmsF32 _ _ _ _ => true
  | .vfnmaF32 _ _ _ _ => true
  | .vfaddF16x2 _ _ _ _ => true
  | .vfsubF16x2 _ _ _ _ => true
  | .vfmulF16x2 _ _ _ _ => true
  | .vfminF16x2 _ _ _ _ => true
  | .vfmaxF16x2 _ _ _ _ => true
  | .vfmaF16x2 _ _ _ _ => true
  | .vfmsF16x2 _ _ _ _ => true
  | .vfnmaF16x2 _ _ _ _ => true
  | .vfaddBf16x2 _ _ _ _ => true
  | .vfsubBf16x2 _ _ _ _ => true
  | .vfmulBf16x2 _ _ _ _ => true
  | .vfminBf16x2 _ _ _ _ => true
  | .vfmaxBf16x2 _ _ _ _ => true
  | .vfmaBf16x2 _ _ _ _ => true
  | .vfmsBf16x2 _ _ _ _ => true
  | .vfnmaBf16x2 _ _ _ _ => true
  | .vfaddF32S _ _ _ _ => true
  | .vfsubF32S _ _ _ _ => true
  | .vfmulF32S _ _ _ _ => true
  | .vfminF32S _ _ _ _ => true
  | .vfmaxF32S _ _ _ _ => true
  | .vfmaF32S _ _ _ _ => true
  | .vfmsF32S _ _ _ _ => true
  | .vfnmaF32S _ _ _ _ => true
  | .vfcmpEqF32 _ _ _ _ => true
  | .vfcmpNeF32 _ _ _ _ => true
  | .vfcmpLtF32 _ _ _ _ => true
  | .vfcmpLeF32 _ _ _ _ => true
  | .vfcmpGtF32 _ _ _ _ => true
  | .vfcmpGeF32 _ _ _ _ => true
  | .vfcmpUnF32 _ _ _ _ => true
  | .vfcmpEqF16x2 _ d _ _ => pairReg d
  | .vfcmpNeF16x2 _ d _ _ => pairReg d
  | .vfcmpLtF16x2 _ d _ _ => pairReg d
  | .vfcmpLeF16x2 _ d _ _ => pairReg d
  | .vfcmpGtF16x2 _ d _ _ => pairReg d
  | .vfcmpGeF16x2 _ d _ _ => pairReg d
  | .vfcmpUnF16x2 _ d _ _ => pairReg d
  | .vfcmpEqBf16x2 _ d _ _ => pairReg d
  | .vfcmpNeBf16x2 _ d _ _ => pairReg d
  | .vfcmpLtBf16x2 _ d _ _ => pairReg d
  | .vfcmpLeBf16x2 _ d _ _ => pairReg d
  | .vfcmpGtBf16x2 _ d _ _ => pairReg d
  | .vfcmpGeBf16x2 _ d _ _ => pairReg d
  | .vfcmpUnBf16x2 _ d _ _ => pairReg d
  | .vfclassF32 _ _ _ => true
  | .vfclassF16x2 _ _ _ => true
  | .vfclassBf16x2 _ _ _ => true
  | .vrcp _ _ _ => true
  | .vrsq _ _ _ => true
  | .vsqrt _ _ _ => true
  | .vexp2 _ _ _ => true
  | .vlog2 _ _ _ => true
  | .vsin _ _ _ => true
  | .vcos _ _ _ => true
  | .vtanh _ _ _ => true
  | .vfdivF32 _ _ _ _ => true
  | .vfdivF32S _ _ _ _ => true
  | .vcvt _ _ _ b => cvtOk false false b
  | .vcvtSr _ _ _ b => cvtOk false true b
  | .vcvtSat _ _ _ b => cvtOk true false b
  | .vcvtSatSr _ _ _ b => cvtOk true true b
  | .vqblkE2m1x _ _ _ => true
  | .vqblkE4m3 _ _ _ => true
  | .vqblkE5m2 _ _ _ => true
  | .vpopa _ _ => true
  | .vshflIdx _ _ _ _ => true
  | .vshflUp _ _ _ _ => true
  | .vshflDown _ _ _ _ => true
  | .vshflXor _ _ _ _ => true
  | .vperm8Lo _ _ _ b => evenReg b
  | .vperm8Hi _ _ _ b => evenReg b
  | .vbcast _ _ _ _ => true
  | .vext _ _ _ _ => true
  | .vlredAddI32 _ _ _ => true
  | .vlredMinI32 _ _ _ => true
  | .vlredMaxI32 _ _ _ => true
  | .vlredMinN32 _ _ _ => true
  | .vlredMaxN32 _ _ _ => true
  | .vlredFaddF32 _ _ _ => true
  | .vlredFminF32 _ _ _ => true
  | .vlredFmaxF32 _ _ _ => true
  | .vscanAddI32 _ _ _ => true
  | .vscanMinI32 _ _ _ => true
  | .vscanMaxI32 _ _ _ => true
  | .vscanMinN32 _ _ _ => true
  | .vscanMaxN32 _ _ _ => true
  | .vscanFaddF32 _ _ _ => true
  | .vscanFminF32 _ _ _ => true
  | .vscanFmaxF32 _ _ _ => true
  | .voteAny _ _ a b => voteOk a b
  | .voteAll _ _ a b => voteOk a b
  | .voteBallot _ _ a b => voteOk a b
  | .vfirst _ _ a b => voteOk a b
  | .vld _ _ _ _ _ _ => true
  | .vlds _ _ _ _ s _ => decide (s.bytes ≤ 2)
  | .vst _ _ _ _ _ _ => true
  | .vatomAdd _ _ _ _ s => opSizeOk 0 s
  | .vatomSub _ _ _ _ s => opSizeOk 1 s
  | .vatomMinI _ _ _ _ s => opSizeOk 2 s
  | .vatomMaxI _ _ _ _ s => opSizeOk 3 s
  | .vatomMinN _ _ _ _ s => opSizeOk 4 s
  | .vatomMaxN _ _ _ _ s => opSizeOk 5 s
  | .vatomAnd _ _ _ _ s => opSizeOk 6 s
  | .vatomOr _ _ _ _ s => opSizeOk 7 s
  | .vatomXor _ _ _ _ s => opSizeOk 8 s
  | .vatomXchg _ _ _ _ s => opSizeOk 9 s
  | .vatomCas _ _ _ _ s => opSizeOk 10 s
  | .vatomFadd _ _ _ _ s => opSizeOk 11 s
  | .vatomFmin _ _ _ _ s => opSizeOk 12 s
  | .vatomFmax _ _ _ _ s => opSizeOk 13 s
  | .vatomAddBf16x2 _ _ _ _ s => opSizeOk 14 s
  | .vredAdd _ _ _ _ s => opSizeOk 0 s
  | .vredSub _ _ _ _ s => opSizeOk 1 s
  | .vredMinI _ _ _ _ s => opSizeOk 2 s
  | .vredMaxI _ _ _ _ s => opSizeOk 3 s
  | .vredMinN _ _ _ _ s => opSizeOk 4 s
  | .vredMaxN _ _ _ _ s => opSizeOk 5 s
  | .vredAnd _ _ _ _ s => opSizeOk 6 s
  | .vredOr _ _ _ _ s => opSizeOk 7 s
  | .vredXor _ _ _ _ s => opSizeOk 8 s
  | .vredFadd _ _ _ _ s => opSizeOk 11 s
  | .vredFmin _ _ _ _ s => opSizeOk 12 s
  | .vredFmax _ _ _ _ s => opSizeOk 13 s
  | .vredAddBf16x2 _ _ _ _ s => opSizeOk 14 s
  | .nop _ => true
  | .yield _ => true
  | .exit _ => true
  | .sadd _ _ _ _ => true
  | .ssub _ _ _ _ => true
  | .saddsI64 _ _ _ _ => true
  | .saddsN64 _ _ _ _ => true
  | .ssubsI64 _ _ _ _ => true
  | .ssubsN64 _ _ _ _ => true
  | .smul _ _ _ _ => true
  | .smulhI64 _ _ _ _ => true
  | .smulhN64 _ _ _ _ => true
  | .sdivI64 _ _ _ _ => true
  | .sdivN64 _ _ _ _ => true
  | .sremI64 _ _ _ _ => true
  | .sremN64 _ _ _ _ => true
  | .sand _ _ _ _ => true
  | .sor _ _ _ _ => true
  | .sxor _ _ _ _ => true
  | .sandn _ _ _ _ => true
  | .sshl _ _ _ _ => true
  | .sshr _ _ _ _ => true
  | .ssra _ _ _ _ => true
  | .srol _ _ _ _ => true
  | .sminI64 _ _ _ _ => true
  | .smaxI64 _ _ _ _ => true
  | .sminN64 _ _ _ _ => true
  | .smaxN64 _ _ _ _ => true
  | .sabsI64 _ _ _ => true
  | .sclz _ _ _ => true
  | .spopc _ _ _ => true
  | .sbrev _ _ _ => true
  | .scmpEq _ _ _ _ => true
  | .scmpNe _ _ _ _ => true
  | .scmpLt _ _ _ _ => true
  | .scmpLe _ _ _ _ => true
  | .scmpGt _ _ _ _ => true
  | .scmpGe _ _ _ _ => true
  | .scmpLo _ _ _ _ => true
  | .scmpLs _ _ _ _ => true
  | .scmpHi _ _ _ _ => true
  | .scmpHs _ _ _ _ => true
  | .smov _ _ _ => true
  | .scsel _ _ _ _ => true
  | .saddi _ _ _ _ => true
  | .sandi _ _ _ _ => true
  | .sori _ _ _ _ => true
  | .sxori _ _ _ _ => true
  | .sshli _ _ _ _ => true
  | .sshri _ _ _ _ => true
  | .ssrai _ _ _ _ => true
  | .smovi _ _ _ => true
  | .mand _ _ _ _ => true
  | .mor _ _ _ _ => true
  | .mxor _ _ _ _ => true
  | .mandn _ _ _ _ => true
  | .mnot _ _ _ => true
  | .mpopc _ _ _ => true
  | .mffs _ _ _ => true
  | .mfls _ _ _ => true
  | .mffNv _ _ _ => true
  | .mffDz _ _ _ => true
  | .mffOf _ _ _ => true
  | .mffUf _ _ _ => true
  | .mffNx _ _ _ => true
  | .mffclr _ _ _ => true
  | .rep _ _ _ _ => true
  | .limm _ => true
  | .br _ _ => true
  | .call _ _ => true
  | .bz _ _ _ => true
  | .bnz _ _ _ => true
  | .bmz _ _ _ => true
  | .bmnz _ _ _ => true
  | .jr _ _ => true
  | .jalr _ _ _ => true
  | .sld _ _ _ _ _ _ => true
  | .slds _ _ _ _ s _ => decide (s.bytes ≤ 4)
  | .sst _ _ _ _ _ _ => true
  | .satomAdd _ _ _ _ s => opSizeOk 0 s
  | .satomSub _ _ _ _ s => opSizeOk 1 s
  | .satomMinI _ _ _ _ s => opSizeOk 2 s
  | .satomMaxI _ _ _ _ s => opSizeOk 3 s
  | .satomMinN _ _ _ _ s => opSizeOk 4 s
  | .satomMaxN _ _ _ _ s => opSizeOk 5 s
  | .satomAnd _ _ _ _ s => opSizeOk 6 s
  | .satomOr _ _ _ _ s => opSizeOk 7 s
  | .satomXor _ _ _ _ s => opSizeOk 8 s
  | .satomXchg _ _ _ _ s => opSizeOk 9 s
  | .satomCas _ _ _ _ s => opSizeOk 10 s
  | .satomFadd _ _ _ _ s => opSizeOk 11 s
  | .satomFmin _ _ _ _ s => opSizeOk 12 s
  | .satomFmax _ _ _ _ s => opSizeOk 13 s
  | .satomAddBf16x2 _ _ _ _ s => opSizeOk 14 s
  | .hflush _ _ _ _ => true
  | .hinval _ _ _ _ => true
  | .sysr _ _ _ => true
  | .sysw _ r _ => !ownRow r
  | .trap _ _ => true
  | .tretResume _ _ => true
  | .tretEndReturn _ _ => true
  | .tretEndDiscard _ _ => true
  | .brk _ => true
  | .segld _ _ _ _ => true
  | .tlbinv _ _ _ => true
  | .tlbsync _ => true
  | .ctxsave _ _ _ _ => true
  | .ctxrest _ _ _ _ => true
  | .cpy _ _ _ _ _ _ => true
  | .cpyMc _ _ _ _ _ _ => true
  | .cpyRow _ _ _ _ _ => true
  | .cpyClose _ _ _ => true
  | .kwait _ _ => true
  | .kwaitObj _ _ _ _ => true
  | .qfence _ _ _ => true
  | .mcready _ _ _ _ => true
  | .preserve _ _ _ _ => true
  | .pcommit _ _ => true
  | .pclaim _ _ _ _ => true
  | .prelease _ _ => true
  | .pquery _ _ _ => true
  | .send _ _ _ => true
  | .sendw _ _ _ _ => true
  | .pportq _ _ _ => true
  | .jen _ _ => true
  | .jdis _ _ => true
  | .barArr _ _ _ _ => true
  | .barWait _ _ _ _ => true
  | .barArw _ _ _ => true
  | .abarArr _ _ _ => true
  | .abarWait _ _ _ => true
  | .abarTest _ _ _ _ => true
  | .mma _ _ _ _ _ => true
  | .mmaSp _ _ _ _ _ => true
  | .mzero _ _ => true
  | .mrows _ _ => true
  | .mldacc _ _ _ => true
  | .mstacc _ _ _ _ => true
  | .mvm _ _ _ _ _ => true
  | .planLd _ _ _ _ => true
  | .planGoStart _ _ _ _ => true
  | .planGoDrainFinish _ _ _ _ => true
  | .planGoDrainDiscard _ _ _ _ => true
  | .planGoRemove _ _ _ _ => true
  | .spawn _ _ _ => true
  | .pvalloc _ _ _ _ => true
  | .pvfree _ _ _ => true
  | .pvq _ _ _ => true
  | .loadResultReturn _ _ _ => true
  | .storePerformed _ => true
  | .retryHintExpiry _ => true
  | .sliceRedirect _ => true
  | .sliceRetire _ _ _ => true
  | .sliceStubRemove _ => true
  | .orangeryRefreshAdvance => true
  | .tlbsyncComplete _ => true
  | .hostSyncPerformed _ => true
  | .hostBelvedereWrite _ _ _ => true
  | .hostBelvedereRead _ _ => true
  | .atomicRequestAtHome _ => true
  | .atomicReply _ _ _ => true
  | .barrierWake _ => true
  | .arborRelease _ _ => true
  | .copyEntryStart _ _ => true
  | .copyPiece _ _ _ => true
  | .copyEntryComplete _ _ => true
  | .kwaitObjWake _ => true
  | .fenceEntryHead _ _ => true
  | .multicastSort _ _ => true
  | .multicastResort _ _ => true
  | .multicastAck _ _ _ => true
  | .holdingBufferDrain _ _ _ => true
  | .bulkStreamClose _ _ => true
  | .bulkStreamTimeout _ _ => true
  | .pipeRefillStart _ _ => true
  | .pipeRefillComplete _ _ => true
  | .preserveUnblock _ => true
  | .pipeHeadRise _ => true
  | .messageAdmission _ => true
  | .waiterAdmission _ => true
  | .messageReturn _ => true
  | .runQueueEntryFree _ => true
  | .taskRecordEntry _ => true
  | .sendwComplete _ => true
  | .hostDoorbellWrite _ _ _ => true
  | .hostDoorbellRead _ => true
  | .faultEventAdmit _ => true
  | .taskDispatch _ => true
  | .taskStart _ => true
  | .groupExitDrained _ => true
  | .queueOverflow _ => true
  | .queueUnderflow _ => true
  | .priorityRecompute _ => true
  | .preemptTick _ => true
  | .rebalanceTick _ _ => true
  | .coreMoveLoad _ _ => true
  | .deadlockDetect _ => true
  | .drainQuiescence _ => true
  | .gangStateObserve _ => true
  | .gangTimeout _ => true
  | .flitReceive _ _ _ _ _ _ _ _ _ => true
  | .idleFlit _ => true
  | .retrainComplete _ => true
  | .retrainLimitExpiry _ => true
  | .retrainBucketDecay _ => true
  | .forwardStallRelease _ _ => true
  | .linkSilenceTimeout _ => true
  | .fatalErrorNotice _ => true
  | .portDownNotice _ _ => true
  | .matrixCommandStart _ => true
  | .operandFetchComplete _ => true
  | .multiplyStart _ => true
  | .multiplyComplete _ => true
  | .mrowsRowEnter _ => true
  | .mvmComplete _ => true
  | .trapEntry _ => true
  | .stepBlockTimeout _ => true
  | .srseedWrite _ _ => true
  | .keyLoad _ _ => true
  | .keyClear _ _ => true
  | .keyOpDone => true
  | .measExtend _ _ => true
  | .measExtendDone => true
  | .attestStart _ _ => true
  | .attestDone _ => true
  | .pavQuotaWrite _ _ => true
  | .pavQuotaDone => true
  | .fabLostClear _ _ => true
  | .devLostClear _ _ _ => true
  | .controlRegWrite _ => true
  | .railEnable _ => true
  | .railGood _ _ => true
  | .railLimitExpiry _ _ => true
  | .cpRun _ => true
  | .cpHaltqRead _ => true
  | .hbmInit _ => true
  | .hbmInitDone _ => true
  | .hbmTrain _ => true
  | .hbmTrainDone _ _ => true
  | .hbmTrainLimitExpiry _ => true
  | .hbmServe _ => true
  | .hbmMrGo _ => true
  | .hbmMrDone _ => true
  | .ucieTrain _ => true
  | .ucieTrainDone _ _ => true
  | .ucieTrainLimitExpiry _ _ => true
  | .pcieTrain _ => true
  | .pcieTrainDone => true
  | .pcieTrainLimitExpiry => true
  | .cxlEnable _ => true
  | .ualTrain _ => true
  | .ualTrainDone _ _ => true
  | .ualTrainLimitExpiry _ => true
  | .ualServe _ => true
  | .arbTestGo _ => true
  | .arbTestDone _ => true
  | .coreTestGo _ => true
  | .coreTestDone _ _ _ => true
  | .orgTestGo _ => true
  | .orgTestDone _ _ => true
  | .flashProgram _ => true
  | .flashWordStored => true
  | .powerOn _ _ => true
  | .powerCapCheck _ => true
  | .dieOvertemp _ _ => true
  | .powerLoss => true
  | .granuleZeroed _ _ => true
  | .hostWriteCombineDrain _ => true
  | .memberLostNotice _ _ => true
  | .sliceAdd _ _ _ => true

end Sys2Proof
end

