-- ==== Sys2Proof/Laws/Encoding.lean ====
section
/-!
SUPPORT. What each field of each word format reads (R31, R34, R37, R38): the places of a word that the decoder reads, in
the words that the encoder builds.
-/

namespace Sys2Proof

theorem extract_hi {v w : Nat} (x : BitVec v) (y : BitVec w) (k n : Nat) (h : w ≤ k) :
    (x ++ y).extractLsb' k n = x.extractLsb' (k - w) n := BitVec.extractLsb'_append_eq_of_le h

theorem extract_lo {v w : Nat} (x : BitVec v) (y : BitVec w) (k n : Nat) (h : k + n ≤ w) :
    (x ++ y).extractLsb' k n = y.extractLsb' k n := BitVec.extractLsb'_append_eq_of_add_le h

theorem extract_all {n : Nat} (x : BitVec n) : x.extractLsb' 0 n = x := by simp

/-- A size code reads back as its size (R35). -/
theorem Size.ofCode_code (s : Size) : Size.ofCode s.code = some s := by cases s <;> rfl

theorem bit_hi {v w : Nat} (x : BitVec v) (y : BitVec w) (k : Nat) (h : w ≤ k) :
    (x ++ y).getLsbD k = x.getLsbD (k - w) := by
  simp [BitVec.getLsbD_append, Nat.not_lt.mpr h]

/-! Format R. -/

theorem wordR_set (set m : Bool) (maj : BitVec 6) (fn : BitVec 3) (d a b : Reg) : (wordR set m maj fn d a b).getLsbD 31 = set := by
  rw [wordR, bit_hi _ _ _ (by decide), bit_hi _ _ _ (by decide), bit_hi _ _ _ (by decide), bit_hi _ _ _ (by decide), topByte, bit_hi _ _ _ (by decide), bit_hi _ _ _ (by decide)]
  cases set <;> rfl
theorem wordR_marker (set m : Bool) (maj : BitVec 6) (fn : BitVec 3) (d a b : Reg) : (wordR set m maj fn d a b).getLsbD 30 = m := by
  rw [wordR, bit_hi _ _ _ (by decide), bit_hi _ _ _ (by decide), bit_hi _ _ _ (by decide), bit_hi _ _ _ (by decide), topByte, bit_hi _ _ _ (by decide)]
  cases set <;> cases m <;> rfl
theorem wordR_major (set m : Bool) (maj : BitVec 6) (fn : BitVec 3) (d a b : Reg) : (wordR set m maj fn d a b).extractLsb' 24 6 = maj := by
  rw [wordR, extract_hi _ _ _ _ (by decide), extract_hi _ _ _ _ (by decide), extract_hi _ _ _ _ (by decide), extract_hi _ _ _ _ (by decide), topByte, extract_lo _ _ _ _ (by decide)]
  exact extract_all _
theorem wordR_b (set m : Bool) (maj : BitVec 6) (fn : BitVec 3) (d a b : Reg) : (wordR set m maj fn d a b).extractLsb' 0 7 = b := by
  rw [wordR, extract_lo _ _ _ _ (by decide)]
  exact extract_all _
theorem wordR_a (set m : Bool) (maj : BitVec 6) (fn : BitVec 3) (d a b : Reg) : (wordR set m maj fn d a b).extractLsb' 7 7 = a := by
  rw [wordR, extract_hi _ _ _ _ (by decide), extract_lo _ _ _ _ (by decide)]
  exact extract_all _
theorem wordR_d (set m : Bool) (maj : BitVec 6) (fn : BitVec 3) (d a b : Reg) : (wordR set m maj fn d a b).extractLsb' 14 7 = d := by
  rw [wordR, extract_hi _ _ _ _ (by decide), extract_hi _ _ _ _ (by decide), extract_lo _ _ _ _ (by decide)]
  exact extract_all _
theorem wordR_fn (set m : Bool) (maj : BitVec 6) (fn : BitVec 3) (d a b : Reg) : (wordR set m maj fn d a b).extractLsb' 21 3 = fn := by
  rw [wordR, extract_hi _ _ _ _ (by decide), extract_hi _ _ _ _ (by decide), extract_hi _ _ _ _ (by decide), extract_lo _ _ _ _ (by decide)]
  exact extract_all _

/-! Format I. -/

theorem wordI_set (set m : Bool) (maj : BitVec 6) (d a : Reg) (i : BitVec 10) : (wordI set m maj d a i).getLsbD 31 = set := by
  rw [wordI, bit_hi _ _ _ (by decide), bit_hi _ _ _ (by decide), bit_hi _ _ _ (by decide), topByte, bit_hi _ _ _ (by decide), bit_hi _ _ _ (by decide)]
  cases set <;> rfl
theorem wordI_marker (set m : Bool) (maj : BitVec 6) (d a : Reg) (i : BitVec 10) : (wordI set m maj d a i).getLsbD 30 = m := by
  rw [wordI, bit_hi _ _ _ (by decide), bit_hi _ _ _ (by decide), bit_hi _ _ _ (by decide), topByte, bit_hi _ _ _ (by decide)]
  cases set <;> cases m <;> rfl
theorem wordI_major (set m : Bool) (maj : BitVec 6) (d a : Reg) (i : BitVec 10) : (wordI set m maj d a i).extractLsb' 24 6 = maj := by
  rw [wordI, extract_hi _ _ _ _ (by decide), extract_hi _ _ _ _ (by decide), extract_hi _ _ _ _ (by decide), topByte, extract_lo _ _ _ _ (by decide)]
  exact extract_all _
theorem wordI_i (set m : Bool) (maj : BitVec 6) (d a : Reg) (i : BitVec 10) : (wordI set m maj d a i).extractLsb' 0 10 = i := by
  rw [wordI, extract_lo _ _ _ _ (by decide)]
  exact extract_all _
theorem wordI_a (set m : Bool) (maj : BitVec 6) (d a : Reg) (i : BitVec 10) : (wordI set m maj d a i).extractLsb' 10 7 = a := by
  rw [wordI, extract_hi _ _ _ _ (by decide), extract_lo _ _ _ _ (by decide)]
  exact extract_all _
theorem wordI_d (set m : Bool) (maj : BitVec 6) (d a : Reg) (i : BitVec 10) : (wordI set m maj d a i).extractLsb' 17 7 = d := by
  rw [wordI, extract_hi _ _ _ _ (by decide), extract_hi _ _ _ _ (by decide), extract_lo _ _ _ _ (by decide)]
  exact extract_all _

/-! Format M. -/

theorem wordM_set (set m : Bool) (maj : BitVec 6) (d a : Reg) (g : BitVec 3) (s : Size) (i : BitVec 4) : (wordM set m maj d a g s i).getLsbD 31 = set := by
  rw [wordM, bit_hi _ _ _ (by decide), bit_hi _ _ _ (by decide), bit_hi _ _ _ (by decide), bit_hi _ _ _ (by decide), bit_hi _ _ _ (by decide), topByte, bit_hi _ _ _ (by decide), bit_hi _ _ _ (by decide)]
  cases set <;> rfl
theorem wordM_marker (set m : Bool) (maj : BitVec 6) (d a : Reg) (g : BitVec 3) (s : Size) (i : BitVec 4) : (wordM set m maj d a g s i).getLsbD 30 = m := by
  rw [wordM, bit_hi _ _ _ (by decide), bit_hi _ _ _ (by decide), bit_hi _ _ _ (by decide), bit_hi _ _ _ (by decide), bit_hi _ _ _ (by decide), topByte, bit_hi _ _ _ (by decide)]
  cases set <;> cases m <;> rfl
theorem wordM_major (set m : Bool) (maj : BitVec 6) (d a : Reg) (g : BitVec 3) (s : Size) (i : BitVec 4) : (wordM set m maj d a g s i).extractLsb' 24 6 = maj := by
  rw [wordM, extract_hi _ _ _ _ (by decide), extract_hi _ _ _ _ (by decide), extract_hi _ _ _ _ (by decide), extract_hi _ _ _ _ (by decide), extract_hi _ _ _ _ (by decide), topByte, extract_lo _ _ _ _ (by decide)]
  exact extract_all _
theorem wordM_i (set m : Bool) (maj : BitVec 6) (d a : Reg) (g : BitVec 3) (s : Size) (i : BitVec 4) : (wordM set m maj d a g s i).extractLsb' 0 4 = i := by
  rw [wordM, extract_lo _ _ _ _ (by decide)]
  exact extract_all _
theorem wordM_s (set m : Bool) (maj : BitVec 6) (d a : Reg) (g : BitVec 3) (s : Size) (i : BitVec 4) : (wordM set m maj d a g s i).extractLsb' 4 3 = s.code := by
  rw [wordM, extract_hi _ _ _ _ (by decide), extract_lo _ _ _ _ (by decide)]
  exact extract_all _
theorem wordM_g (set m : Bool) (maj : BitVec 6) (d a : Reg) (g : BitVec 3) (s : Size) (i : BitVec 4) : (wordM set m maj d a g s i).extractLsb' 7 3 = g := by
  rw [wordM, extract_hi _ _ _ _ (by decide), extract_hi _ _ _ _ (by decide), extract_lo _ _ _ _ (by decide)]
  exact extract_all _
theorem wordM_a (set m : Bool) (maj : BitVec 6) (d a : Reg) (g : BitVec 3) (s : Size) (i : BitVec 4) : (wordM set m maj d a g s i).extractLsb' 10 7 = a := by
  rw [wordM, extract_hi _ _ _ _ (by decide), extract_hi _ _ _ _ (by decide), extract_hi _ _ _ _ (by decide), extract_lo _ _ _ _ (by decide)]
  exact extract_all _
theorem wordM_d (set m : Bool) (maj : BitVec 6) (d a : Reg) (g : BitVec 3) (s : Size) (i : BitVec 4) : (wordM set m maj d a g s i).extractLsb' 17 7 = d := by
  rw [wordM, extract_hi _ _ _ _ (by decide), extract_hi _ _ _ _ (by decide), extract_hi _ _ _ _ (by decide), extract_hi _ _ _ _ (by decide), extract_lo _ _ _ _ (by decide)]
  exact extract_all _

/-! Format B17. -/

theorem wordB17_set (m : Bool) (maj : BitVec 6) (a : Reg) (o : BitVec 17) : (wordB17 m maj a o).getLsbD 31 = true := by
  rw [wordB17, bit_hi _ _ _ (by decide), bit_hi _ _ _ (by decide), topByte, bit_hi _ _ _ (by decide), bit_hi _ _ _ (by decide)]
  rfl
theorem wordB17_marker (m : Bool) (maj : BitVec 6) (a : Reg) (o : BitVec 17) : (wordB17 m maj a o).getLsbD 30 = m := by
  rw [wordB17, bit_hi _ _ _ (by decide), bit_hi _ _ _ (by decide), topByte, bit_hi _ _ _ (by decide)]
  cases m <;> rfl
theorem wordB17_major (m : Bool) (maj : BitVec 6) (a : Reg) (o : BitVec 17) : (wordB17 m maj a o).extractLsb' 24 6 = maj := by
  rw [wordB17, extract_hi _ _ _ _ (by decide), extract_hi _ _ _ _ (by decide), topByte, extract_lo _ _ _ _ (by decide)]
  exact extract_all _
theorem wordB17_o (m : Bool) (maj : BitVec 6) (a : Reg) (o : BitVec 17) : (wordB17 m maj a o).extractLsb' 0 17 = o := by
  rw [wordB17, extract_lo _ _ _ _ (by decide)]
  exact extract_all _
theorem wordB17_a (m : Bool) (maj : BitVec 6) (a : Reg) (o : BitVec 17) : (wordB17 m maj a o).extractLsb' 17 7 = a := by
  rw [wordB17, extract_hi _ _ _ _ (by decide), extract_lo _ _ _ _ (by decide)]
  exact extract_all _

/-! Format B24. -/

theorem wordB24_set (m : Bool) (maj : BitVec 6) (o : BitVec 24) : (wordB24 m maj o).getLsbD 31 = true := by
  rw [wordB24, bit_hi _ _ _ (by decide), topByte, bit_hi _ _ _ (by decide), bit_hi _ _ _ (by decide)]
  rfl
theorem wordB24_marker (m : Bool) (maj : BitVec 6) (o : BitVec 24) : (wordB24 m maj o).getLsbD 30 = m := by
  rw [wordB24, bit_hi _ _ _ (by decide), topByte, bit_hi _ _ _ (by decide)]
  cases m <;> rfl
theorem wordB24_major (m : Bool) (maj : BitVec 6) (o : BitVec 24) : (wordB24 m maj o).extractLsb' 24 6 = maj := by
  rw [wordB24, extract_hi _ _ _ _ (by decide), topByte, extract_lo _ _ _ _ (by decide)]
  exact extract_all _
theorem wordB24_o (m : Bool) (maj : BitVec 6) (o : BitVec 24) : (wordB24 m maj o).extractLsb' 0 24 = o := by
  rw [wordB24, extract_lo _ _ _ _ (by decide)]
  exact extract_all _

/-! Format X. -/

theorem wordX_set (m : Bool) (maj : BitVec 6) (k : BitVec 3) (a b c : Reg) : (wordX m maj k a b c).getLsbD 31 = true := by
  rw [wordX, bit_hi _ _ _ (by decide), bit_hi _ _ _ (by decide), bit_hi _ _ _ (by decide), bit_hi _ _ _ (by decide), topByte, bit_hi _ _ _ (by decide), bit_hi _ _ _ (by decide)]
  rfl
theorem wordX_marker (m : Bool) (maj : BitVec 6) (k : BitVec 3) (a b c : Reg) : (wordX m maj k a b c).getLsbD 30 = m := by
  rw [wordX, bit_hi _ _ _ (by decide), bit_hi _ _ _ (by decide), bit_hi _ _ _ (by decide), bit_hi _ _ _ (by decide), topByte, bit_hi _ _ _ (by decide)]
  cases m <;> rfl
theorem wordX_major (m : Bool) (maj : BitVec 6) (k : BitVec 3) (a b c : Reg) : (wordX m maj k a b c).extractLsb' 24 6 = maj := by
  rw [wordX, extract_hi _ _ _ _ (by decide), extract_hi _ _ _ _ (by decide), extract_hi _ _ _ _ (by decide), extract_hi _ _ _ _ (by decide), topByte, extract_lo _ _ _ _ (by decide)]
  exact extract_all _
theorem wordX_c (m : Bool) (maj : BitVec 6) (k : BitVec 3) (a b c : Reg) : (wordX m maj k a b c).extractLsb' 0 7 = c := by
  rw [wordX, extract_lo _ _ _ _ (by decide)]
  exact extract_all _
theorem wordX_b (m : Bool) (maj : BitVec 6) (k : BitVec 3) (a b c : Reg) : (wordX m maj k a b c).extractLsb' 7 7 = b := by
  rw [wordX, extract_hi _ _ _ _ (by decide), extract_lo _ _ _ _ (by decide)]
  exact extract_all _
theorem wordX_a (m : Bool) (maj : BitVec 6) (k : BitVec 3) (a b c : Reg) : (wordX m maj k a b c).extractLsb' 14 7 = a := by
  rw [wordX, extract_hi _ _ _ _ (by decide), extract_hi _ _ _ _ (by decide), extract_lo _ _ _ _ (by decide)]
  exact extract_all _
theorem wordX_k (m : Bool) (maj : BitVec 6) (k : BitVec 3) (a b c : Reg) : (wordX m maj k a b c).extractLsb' 21 3 = k := by
  rw [wordX, extract_hi _ _ _ _ (by decide), extract_hi _ _ _ _ (by decide), extract_hi _ _ _ _ (by decide), extract_lo _ _ _ _ (by decide)]
  exact extract_all _

/-! Format S. -/

theorem wordS_set (m : Bool) (r : BitVec 12) (s : Reg) (fn : BitVec 5) : (wordS m r s fn).getLsbD 31 = true := by
  rw [wordS, bit_hi _ _ _ (by decide), bit_hi _ _ _ (by decide), bit_hi _ _ _ (by decide), topByte, bit_hi _ _ _ (by decide), bit_hi _ _ _ (by decide)]
  rfl
theorem wordS_marker (m : Bool) (r : BitVec 12) (s : Reg) (fn : BitVec 5) : (wordS m r s fn).getLsbD 30 = m := by
  rw [wordS, bit_hi _ _ _ (by decide), bit_hi _ _ _ (by decide), bit_hi _ _ _ (by decide), topByte, bit_hi _ _ _ (by decide)]
  cases m <;> rfl
theorem wordS_major (m : Bool) (r : BitVec 12) (s : Reg) (fn : BitVec 5) : (wordS m r s fn).extractLsb' 24 6 = 37#6 := by
  rw [wordS, extract_hi _ _ _ _ (by decide), extract_hi _ _ _ _ (by decide), extract_hi _ _ _ _ (by decide), topByte, extract_lo _ _ _ _ (by decide)]
  exact extract_all _
theorem wordS_fn (m : Bool) (r : BitVec 12) (s : Reg) (fn : BitVec 5) : (wordS m r s fn).extractLsb' 0 5 = fn := by
  rw [wordS, extract_lo _ _ _ _ (by decide)]
  exact extract_all _
theorem wordS_s (m : Bool) (r : BitVec 12) (s : Reg) (fn : BitVec 5) : (wordS m r s fn).extractLsb' 5 7 = s := by
  rw [wordS, extract_hi _ _ _ _ (by decide), extract_lo _ _ _ _ (by decide)]
  exact extract_all _
theorem wordS_r (m : Bool) (r : BitVec 12) (s : Reg) (fn : BitVec 5) : (wordS m r s fn).extractLsb' 12 12 = r := by
  rw [wordS, extract_hi _ _ _ _ (by decide), extract_hi _ _ _ _ (by decide), extract_lo _ _ _ _ (by decide)]
  exact extract_all _

/-! Format Rep. -/

theorem wordRep_set (n : BitVec 6) (d a b : BitVec 2) : (wordRep n d a b).getLsbD 31 = true := by
  rw [wordRep, bit_hi _ _ _ (by decide), bit_hi _ _ _ (by decide), bit_hi _ _ _ (by decide), bit_hi _ _ _ (by decide), bit_hi _ _ _ (by decide), topByte, bit_hi _ _ _ (by decide), bit_hi _ _ _ (by decide)]
  rfl
theorem wordRep_marker (n : BitVec 6) (d a b : BitVec 2) : (wordRep n d a b).getLsbD 30 = false := by
  rw [wordRep, bit_hi _ _ _ (by decide), bit_hi _ _ _ (by decide), bit_hi _ _ _ (by decide), bit_hi _ _ _ (by decide), bit_hi _ _ _ (by decide), topByte, bit_hi _ _ _ (by decide)]
  rfl
theorem wordRep_major (n : BitVec 6) (d a b : BitVec 2) : (wordRep n d a b).extractLsb' 24 6 = 22#6 := by
  rw [wordRep, extract_hi _ _ _ _ (by decide), extract_hi _ _ _ _ (by decide), extract_hi _ _ _ _ (by decide), extract_hi _ _ _ _ (by decide), extract_hi _ _ _ _ (by decide), topByte, extract_lo _ _ _ _ (by decide)]
  exact extract_all _
theorem wordRep_low (n : BitVec 6) (d a b : BitVec 2) : (wordRep n d a b).extractLsb' 0 12 = 0#12 := by
  rw [wordRep, extract_lo _ _ _ _ (by decide)]
  exact extract_all _
theorem wordRep_b (n : BitVec 6) (d a b : BitVec 2) : (wordRep n d a b).extractLsb' 12 2 = b := by
  rw [wordRep, extract_hi _ _ _ _ (by decide), extract_lo _ _ _ _ (by decide)]
  exact extract_all _
theorem wordRep_a (n : BitVec 6) (d a b : BitVec 2) : (wordRep n d a b).extractLsb' 14 2 = a := by
  rw [wordRep, extract_hi _ _ _ _ (by decide), extract_hi _ _ _ _ (by decide), extract_lo _ _ _ _ (by decide)]
  exact extract_all _
theorem wordRep_d (n : BitVec 6) (d a b : BitVec 2) : (wordRep n d a b).extractLsb' 16 2 = d := by
  rw [wordRep, extract_hi _ _ _ _ (by decide), extract_hi _ _ _ _ (by decide), extract_hi _ _ _ _ (by decide), extract_lo _ _ _ _ (by decide)]
  exact extract_all _
theorem wordRep_n (n : BitVec 6) (d a b : BitVec 2) : (wordRep n d a b).extractLsb' 18 6 = n := by
  rw [wordRep, extract_hi _ _ _ _ (by decide), extract_hi _ _ _ _ (by decide), extract_hi _ _ _ _ (by decide), extract_hi _ _ _ _ (by decide), extract_lo _ _ _ _ (by decide)]
  exact extract_all _

/-! Format Limm. -/

theorem wordLimm_set (p : BitVec 24) : (wordLimm p).getLsbD 31 = true := by
  rw [wordLimm, bit_hi _ _ _ (by decide), topByte, bit_hi _ _ _ (by decide), bit_hi _ _ _ (by decide)]
  rfl
theorem wordLimm_marker (p : BitVec 24) : (wordLimm p).getLsbD 30 = false := by
  rw [wordLimm, bit_hi _ _ _ (by decide), topByte, bit_hi _ _ _ (by decide)]
  rfl
theorem wordLimm_major (p : BitVec 24) : (wordLimm p).extractLsb' 24 6 = 23#6 := by
  rw [wordLimm, extract_hi _ _ _ _ (by decide), topByte, extract_lo _ _ _ _ (by decide)]
  exact extract_all _
theorem wordLimm_p (p : BitVec 24) : (wordLimm p).extractLsb' 0 24 = p := by
  rw [wordLimm, extract_lo _ _ _ _ (by decide)]
  exact extract_all _

/-! What the decoder does with a word of each format. -/

theorem decode_lr (m : Bool) (maj : BitVec 6) (fn : BitVec 3) (d a b : Reg) (h : laneFormat maj.toNat = some .lr) : decode (wordR false m maj fn d a b) = decodeLR maj.toNat fn.toNat m d a b := by
  simp only [decode, wordR_set, wordR_marker, wordR_major, wordR_fn, wordR_d, wordR_a, wordR_b, h, if_false, Bool.false_eq_true]
theorem decode_gr (m : Bool) (maj : BitVec 6) (fn : BitVec 3) (d a b : Reg) (h : groupFormat maj.toNat = some .gr) : decode (wordR true m maj fn d a b) = decodeGR maj.toNat fn.toNat m d a b := by
  simp only [decode, wordR_set, wordR_marker, wordR_major, wordR_fn, wordR_d, wordR_a, wordR_b, h, if_true]
theorem decode_li (m : Bool) (maj : BitVec 6) (d a : Reg) (i : BitVec 10) (h : laneFormat maj.toNat = some .li) : decode (wordI false m maj d a i) = decodeLI maj.toNat m d a i := by
  simp only [decode, wordI_set, wordI_marker, wordI_major, wordI_d, wordI_a, wordI_i, h, if_false, Bool.false_eq_true]
theorem decode_gi (m : Bool) (maj : BitVec 6) (d a : Reg) (i : BitVec 10) (h : groupFormat maj.toNat = some .gi) : decode (wordI true m maj d a i) = decodeGI maj.toNat m d a i := by
  simp only [decode, wordI_set, wordI_marker, wordI_major, wordI_d, wordI_a, wordI_i, h, if_true]
theorem decode_lm (m : Bool) (maj : BitVec 6) (d a : Reg) (g : BitVec 3) (s : Size) (i : BitVec 4) (h : laneFormat maj.toNat = some .lm) : decode (wordM false m maj d a g s i) = decodeLM maj.toNat m d a g s i := by
  simp only [decode, wordM_set, wordM_marker, wordM_major, wordM_d, wordM_a, wordM_g, wordM_s, wordM_i, h, if_false, Bool.false_eq_true, Size.ofCode_code]
theorem decode_gim (m : Bool) (maj : BitVec 6) (d a : Reg) (g : BitVec 3) (s : Size) (i : BitVec 4) (h : groupFormat maj.toNat = some .gim) : decode (wordM true m maj d a g s i) = decodeGIM maj.toNat m d a g s i := by
  simp only [decode, wordM_set, wordM_marker, wordM_major, wordM_d, wordM_a, wordM_g, wordM_s, wordM_i, h, if_true, Size.ofCode_code]
theorem decode_gb17 (m : Bool) (maj : BitVec 6) (a : Reg) (o : BitVec 17) (h : groupFormat maj.toNat = some .gb17) : decode (wordB17 m maj a o) = decodeGB17 maj.toNat m a o := by
  simp only [decode, wordB17_set, wordB17_marker, wordB17_major, wordB17_a, wordB17_o, h, if_true]
theorem decode_gb24 (m : Bool) (maj : BitVec 6) (o : BitVec 24) (h : groupFormat maj.toNat = some .gb24) : decode (wordB24 m maj o) = decodeGB24 maj.toNat m o := by
  simp only [decode, wordB24_set, wordB24_marker, wordB24_major, wordB24_o, h, if_true]
theorem decode_gx (m : Bool) (maj : BitVec 6) (k : BitVec 3) (a b c : Reg) (h : groupFormat maj.toNat = some .gx) : decode (wordX m maj k a b c) = decodeGX maj.toNat m k a b c := by
  simp only [decode, wordX_set, wordX_marker, wordX_major, wordX_k, wordX_a, wordX_b, wordX_c, h, if_true]
theorem decode_gs (m : Bool) (r : BitVec 12) (s : Reg) (fn : BitVec 5) : decode (wordS m r s fn) = decodeGS 37 fn.toNat m r s := by
  simp only [decode, wordS_set, wordS_marker, wordS_major, wordS_r, wordS_s, wordS_fn, show groupFormat (37#6).toNat = some .gs from rfl, if_true]
  rfl
theorem decode_rep (n : BitVec 6) (d a b : BitVec 2) : decode (wordRep n d a b) = .ok (.rep n d a b) := by
  simp only [decode, wordRep_set, wordRep_marker, wordRep_major, wordRep_n, wordRep_d, wordRep_a, wordRep_b, wordRep_low, show groupFormat (22#6).toNat = some .rep from rfl, if_true]
  rfl
theorem decode_limm (p : BitVec 24) : decode (wordLimm p) = .ok (.limm p) := by
  simp only [decode, wordLimm_set, wordLimm_marker, wordLimm_major, wordLimm_p, show groupFormat (23#6).toNat = some .limm from rfl, if_true]
  rfl

end Sys2Proof
end

