-- ==== Sys2Proof/Laws/PerInstr.lean ====
section
/-!
SUPPORT. Per-instruction laws of the encoding: each constructor's word decodes to the instruction again (R31 to R51).
-/

namespace Sys2Proof.Laws.RoundTrip

/-- The word of a well-formed instruction decodes to the instruction, or to the row that stands for the rows that share
the word. -/
def Statement (i : Instr) : Prop :=
  ∀ w, encode i = some w → i.wellFormed = true → decode w = .ok (canonical i)

/-- A guarded form: the guard holds of a well-formed instruction. -/
theorem operand_ok {α : Type} {c : Bool} {i : α} (h : c = true) : operand c i = .ok i := by simp [operand, h]
theorem opSize_ok {α : Type} {op : Nat} {s : Size} {i : α} (h : opSizeOk op s = true) : opSize op s i = .ok i := by
  simp [opSize, h]
theorem sizeUpTo_ok {α : Type} {n : Nat} {s : Size} {i : α} (h : decide (s.bytes ≤ n) = true) : sizeUpTo n s i = .ok i := by
  simp [sizeUpTo, of_decide_eq_true h]

theorem fields_ok {α : Type} {c : Bool} {i : α} (h : c = true) : fields c i = .ok i := by simp [fields, h]

/-- A narrow field widened and narrowed again. -/
theorem small_hi {k w : Nat} (x : BitVec k) : hiIs k 0 (x.setWidth w) = true := by
  have h : (x.setWidth w).toNat < 2 ^ k := by
    rw [BitVec.toNat_setWidth]; exact Nat.lt_of_le_of_lt (Nat.mod_le _ _) x.isLt
  simp only [hiIs, Nat.div_eq_of_lt h, beq_self_eq_true]
theorem small_back {k w : Nat} (x : BitVec k) (h : k ≤ w) : (x.setWidth w).setWidth k = x := by
  rw [BitVec.setWidth_setWidth_of_le _ h, BitVec.setWidth_eq]
theorem two_bits (q : BitVec 2) : q = 0 ∨ q = 1 ∨ q = 2 ∨ q = 3 := by revert q; decide
theorem three_bits (q : BitVec 3) : q = 0 ∨ q = 1 ∨ q = 2 ∨ q = 3 ∨ q = 4 ∨ q = 5 ∨ q = 6 ∨ q = 7 := by revert q; decide

theorem vadd (m : Bool) (d a b : Reg) : Statement (.vadd m d a b) := fun _ h hw => by cases h; exact (decode_lr _ _ _ _ _ _ rfl).trans rfl
theorem vsub (m : Bool) (d a b : Reg) : Statement (.vsub m d a b) := fun _ h hw => by cases h; exact (decode_lr _ _ _ _ _ _ rfl).trans rfl
theorem vaddsI32 (m : Bool) (d a b : Reg) : Statement (.vaddsI32 m d a b) := fun _ h hw => by cases h; exact (decode_lr _ _ _ _ _ _ rfl).trans rfl
theorem vaddsN32 (m : Bool) (d a b : Reg) : Statement (.vaddsN32 m d a b) := fun _ h hw => by cases h; exact (decode_lr _ _ _ _ _ _ rfl).trans rfl
theorem vsubsI32 (m : Bool) (d a b : Reg) : Statement (.vsubsI32 m d a b) := fun _ h hw => by cases h; exact (decode_lr _ _ _ _ _ _ rfl).trans rfl
theorem vsubsN32 (m : Bool) (d a b : Reg) : Statement (.vsubsN32 m d a b) := fun _ h hw => by cases h; exact (decode_lr _ _ _ _ _ _ rfl).trans rfl
theorem vaddS (m : Bool) (d a b : Reg) : Statement (.vaddS m d a b) := fun _ h hw => by cases h; exact (decode_lr _ _ _ _ _ _ rfl).trans rfl
theorem vsubS (m : Bool) (d a b : Reg) : Statement (.vsubS m d a b) := fun _ h hw => by cases h; exact (decode_lr _ _ _ _ _ _ rfl).trans rfl
theorem vaddsI32S (m : Bool) (d a b : Reg) : Statement (.vaddsI32S m d a b) := fun _ h hw => by cases h; exact (decode_lr _ _ _ _ _ _ rfl).trans rfl
theorem vaddsN32S (m : Bool) (d a b : Reg) : Statement (.vaddsN32S m d a b) := fun _ h hw => by cases h; exact (decode_lr _ _ _ _ _ _ rfl).trans rfl
theorem vsubsI32S (m : Bool) (d a b : Reg) : Statement (.vsubsI32S m d a b) := fun _ h hw => by cases h; exact (decode_lr _ _ _ _ _ _ rfl).trans rfl
theorem vsubsN32S (m : Bool) (d a b : Reg) : Statement (.vsubsN32S m d a b) := fun _ h hw => by cases h; exact (decode_lr _ _ _ _ _ _ rfl).trans rfl
theorem vmul (m : Bool) (d a b : Reg) : Statement (.vmul m d a b) := fun _ h hw => by cases h; exact (decode_lr _ _ _ _ _ _ rfl).trans rfl
theorem vmulhI32 (m : Bool) (d a b : Reg) : Statement (.vmulhI32 m d a b) := fun _ h hw => by cases h; exact (decode_lr _ _ _ _ _ _ rfl).trans rfl
theorem vmulhN32 (m : Bool) (d a b : Reg) : Statement (.vmulhN32 m d a b) := fun _ h hw => by cases h; exact (decode_lr _ _ _ _ _ _ rfl).trans rfl
theorem vmad (m : Bool) (d a b : Reg) : Statement (.vmad m d a b) := fun _ h hw => by cases h; exact (decode_lr _ _ _ _ _ _ rfl).trans rfl
theorem vdivI32 (m : Bool) (d a b : Reg) : Statement (.vdivI32 m d a b) := fun _ h hw => by cases h; exact (decode_lr _ _ _ _ _ _ rfl).trans rfl
theorem vdivN32 (m : Bool) (d a b : Reg) : Statement (.vdivN32 m d a b) := fun _ h hw => by cases h; exact (decode_lr _ _ _ _ _ _ rfl).trans rfl
theorem vremI32 (m : Bool) (d a b : Reg) : Statement (.vremI32 m d a b) := fun _ h hw => by cases h; exact (decode_lr _ _ _ _ _ _ rfl).trans rfl
theorem vremN32 (m : Bool) (d a b : Reg) : Statement (.vremN32 m d a b) := fun _ h hw => by cases h; exact (decode_lr _ _ _ _ _ _ rfl).trans rfl
theorem vmulS (m : Bool) (d a b : Reg) : Statement (.vmulS m d a b) := fun _ h hw => by cases h; exact (decode_lr _ _ _ _ _ _ rfl).trans rfl
theorem vmulhI32S (m : Bool) (d a b : Reg) : Statement (.vmulhI32S m d a b) := fun _ h hw => by cases h; exact (decode_lr _ _ _ _ _ _ rfl).trans rfl
theorem vmulhN32S (m : Bool) (d a b : Reg) : Statement (.vmulhN32S m d a b) := fun _ h hw => by cases h; exact (decode_lr _ _ _ _ _ _ rfl).trans rfl
theorem vmadS (m : Bool) (d a b : Reg) : Statement (.vmadS m d a b) := fun _ h hw => by cases h; exact (decode_lr _ _ _ _ _ _ rfl).trans rfl
theorem vdivI32S (m : Bool) (d a b : Reg) : Statement (.vdivI32S m d a b) := fun _ h hw => by cases h; exact (decode_lr _ _ _ _ _ _ rfl).trans rfl
theorem vdivN32S (m : Bool) (d a b : Reg) : Statement (.vdivN32S m d a b) := fun _ h hw => by cases h; exact (decode_lr _ _ _ _ _ _ rfl).trans rfl
theorem vremI32S (m : Bool) (d a b : Reg) : Statement (.vremI32S m d a b) := fun _ h hw => by cases h; exact (decode_lr _ _ _ _ _ _ rfl).trans rfl
theorem vremN32S (m : Bool) (d a b : Reg) : Statement (.vremN32S m d a b) := fun _ h hw => by cases h; exact (decode_lr _ _ _ _ _ _ rfl).trans rfl
theorem vand (m : Bool) (d a b : Reg) : Statement (.vand m d a b) := fun _ h hw => by cases h; exact (decode_lr _ _ _ _ _ _ rfl).trans rfl
theorem vor (m : Bool) (d a b : Reg) : Statement (.vor m d a b) := fun _ h hw => by cases h; exact (decode_lr _ _ _ _ _ _ rfl).trans rfl
theorem vxor (m : Bool) (d a b : Reg) : Statement (.vxor m d a b) := fun _ h hw => by cases h; exact (decode_lr _ _ _ _ _ _ rfl).trans rfl
theorem vandn (m : Bool) (d a b : Reg) : Statement (.vandn m d a b) := fun _ h hw => by cases h; exact (decode_lr _ _ _ _ _ _ rfl).trans rfl
theorem vshl (m : Bool) (d a b : Reg) : Statement (.vshl m d a b) := fun _ h hw => by cases h; exact (decode_lr _ _ _ _ _ _ rfl).trans rfl
theorem vshr (m : Bool) (d a b : Reg) : Statement (.vshr m d a b) := fun _ h hw => by cases h; exact (decode_lr _ _ _ _ _ _ rfl).trans rfl
theorem vsra (m : Bool) (d a b : Reg) : Statement (.vsra m d a b) := fun _ h hw => by cases h; exact (decode_lr _ _ _ _ _ _ rfl).trans rfl
theorem vrol (m : Bool) (d a b : Reg) : Statement (.vrol m d a b) := fun _ h hw => by cases h; exact (decode_lr _ _ _ _ _ _ rfl).trans rfl
theorem vandS (m : Bool) (d a b : Reg) : Statement (.vandS m d a b) := fun _ h hw => by cases h; exact (decode_lr _ _ _ _ _ _ rfl).trans rfl
theorem vorS (m : Bool) (d a b : Reg) : Statement (.vorS m d a b) := fun _ h hw => by cases h; exact (decode_lr _ _ _ _ _ _ rfl).trans rfl
theorem vxorS (m : Bool) (d a b : Reg) : Statement (.vxorS m d a b) := fun _ h hw => by cases h; exact (decode_lr _ _ _ _ _ _ rfl).trans rfl
theorem vandnS (m : Bool) (d a b : Reg) : Statement (.vandnS m d a b) := fun _ h hw => by cases h; exact (decode_lr _ _ _ _ _ _ rfl).trans rfl
theorem vshlS (m : Bool) (d a b : Reg) : Statement (.vshlS m d a b) := fun _ h hw => by cases h; exact (decode_lr _ _ _ _ _ _ rfl).trans rfl
theorem vshrS (m : Bool) (d a b : Reg) : Statement (.vshrS m d a b) := fun _ h hw => by cases h; exact (decode_lr _ _ _ _ _ _ rfl).trans rfl
theorem vsraS (m : Bool) (d a b : Reg) : Statement (.vsraS m d a b) := fun _ h hw => by cases h; exact (decode_lr _ _ _ _ _ _ rfl).trans rfl
theorem vrolS (m : Bool) (d a b : Reg) : Statement (.vrolS m d a b) := fun _ h hw => by cases h; exact (decode_lr _ _ _ _ _ _ rfl).trans rfl
theorem vminI32 (m : Bool) (d a b : Reg) : Statement (.vminI32 m d a b) := fun _ h hw => by cases h; exact (decode_lr _ _ _ _ _ _ rfl).trans rfl
theorem vmaxI32 (m : Bool) (d a b : Reg) : Statement (.vmaxI32 m d a b) := fun _ h hw => by cases h; exact (decode_lr _ _ _ _ _ _ rfl).trans rfl
theorem vminN32 (m : Bool) (d a b : Reg) : Statement (.vminN32 m d a b) := fun _ h hw => by cases h; exact (decode_lr _ _ _ _ _ _ rfl).trans rfl
theorem vmaxN32 (m : Bool) (d a b : Reg) : Statement (.vmaxN32 m d a b) := fun _ h hw => by cases h; exact (decode_lr _ _ _ _ _ _ rfl).trans rfl
theorem vabsI32 (m : Bool) (d a : Reg) : Statement (.vabsI32 m d a) := fun _ h hw => by cases h; exact (decode_lr _ _ _ _ _ _ rfl).trans rfl
theorem vclz (m : Bool) (d a : Reg) : Statement (.vclz m d a) := fun _ h hw => by cases h; exact (decode_lr _ _ _ _ _ _ rfl).trans rfl
theorem vpopc (m : Bool) (d a : Reg) : Statement (.vpopc m d a) := fun _ h hw => by cases h; exact (decode_lr _ _ _ _ _ _ rfl).trans rfl
theorem vbrev (m : Bool) (d a : Reg) : Statement (.vbrev m d a) := fun _ h hw => by cases h; exact (decode_lr _ _ _ _ _ _ rfl).trans rfl
theorem vminI32S (m : Bool) (d a b : Reg) : Statement (.vminI32S m d a b) := fun _ h hw => by cases h; exact (decode_lr _ _ _ _ _ _ rfl).trans rfl
theorem vmaxI32S (m : Bool) (d a b : Reg) : Statement (.vmaxI32S m d a b) := fun _ h hw => by cases h; exact (decode_lr _ _ _ _ _ _ rfl).trans rfl
theorem vminN32S (m : Bool) (d a b : Reg) : Statement (.vminN32S m d a b) := fun _ h hw => by cases h; exact (decode_lr _ _ _ _ _ _ rfl).trans rfl
theorem vmaxN32S (m : Bool) (d a b : Reg) : Statement (.vmaxN32S m d a b) := fun _ h hw => by cases h; exact (decode_lr _ _ _ _ _ _ rfl).trans rfl
theorem vcmpEq (m : Bool) (d a b : Reg) : Statement (.vcmpEq m d a b) := fun _ h hw => by cases h; exact (decode_lr _ _ _ _ _ _ rfl).trans rfl
theorem vcmpNe (m : Bool) (d a b : Reg) : Statement (.vcmpNe m d a b) := fun _ h hw => by cases h; exact (decode_lr _ _ _ _ _ _ rfl).trans rfl
theorem vcmpLt (m : Bool) (d a b : Reg) : Statement (.vcmpLt m d a b) := fun _ h hw => by cases h; exact (decode_lr _ _ _ _ _ _ rfl).trans rfl
theorem vcmpLe (m : Bool) (d a b : Reg) : Statement (.vcmpLe m d a b) := fun _ h hw => by cases h; exact (decode_lr _ _ _ _ _ _ rfl).trans rfl
theorem vcmpGt (m : Bool) (d a b : Reg) : Statement (.vcmpGt m d a b) := fun _ h hw => by cases h; exact (decode_lr _ _ _ _ _ _ rfl).trans rfl
theorem vcmpGe (m : Bool) (d a b : Reg) : Statement (.vcmpGe m d a b) := fun _ h hw => by cases h; exact (decode_lr _ _ _ _ _ _ rfl).trans rfl
theorem vcmpLo (m : Bool) (d a b : Reg) : Statement (.vcmpLo m d a b) := fun _ h hw => by cases h; exact (decode_lr _ _ _ _ _ _ rfl).trans rfl
theorem vcmpLs (m : Bool) (d a b : Reg) : Statement (.vcmpLs m d a b) := fun _ h hw => by cases h; exact (decode_lr _ _ _ _ _ _ rfl).trans rfl
theorem vcmpHi (m : Bool) (d a b : Reg) : Statement (.vcmpHi m d a b) := fun _ h hw => by cases h; exact (decode_lr _ _ _ _ _ _ rfl).trans rfl
theorem vcmpHs (m : Bool) (d a b : Reg) : Statement (.vcmpHs m d a b) := fun _ h hw => by cases h; exact (decode_lr _ _ _ _ _ _ rfl).trans rfl
theorem vcmpEqS (m : Bool) (d a b : Reg) : Statement (.vcmpEqS m d a b) := fun _ h hw => by cases h; exact (decode_lr _ _ _ _ _ _ rfl).trans rfl
theorem vcmpNeS (m : Bool) (d a b : Reg) : Statement (.vcmpNeS m d a b) := fun _ h hw => by cases h; exact (decode_lr _ _ _ _ _ _ rfl).trans rfl
theorem vcmpLtS (m : Bool) (d a b : Reg) : Statement (.vcmpLtS m d a b) := fun _ h hw => by cases h; exact (decode_lr _ _ _ _ _ _ rfl).trans rfl
theorem vcmpLeS (m : Bool) (d a b : Reg) : Statement (.vcmpLeS m d a b) := fun _ h hw => by cases h; exact (decode_lr _ _ _ _ _ _ rfl).trans rfl
theorem vcmpGtS (m : Bool) (d a b : Reg) : Statement (.vcmpGtS m d a b) := fun _ h hw => by cases h; exact (decode_lr _ _ _ _ _ _ rfl).trans rfl
theorem vcmpGeS (m : Bool) (d a b : Reg) : Statement (.vcmpGeS m d a b) := fun _ h hw => by cases h; exact (decode_lr _ _ _ _ _ _ rfl).trans rfl
theorem vcmpLoS (m : Bool) (d a b : Reg) : Statement (.vcmpLoS m d a b) := fun _ h hw => by cases h; exact (decode_lr _ _ _ _ _ _ rfl).trans rfl
theorem vcmpLsS (m : Bool) (d a b : Reg) : Statement (.vcmpLsS m d a b) := fun _ h hw => by cases h; exact (decode_lr _ _ _ _ _ _ rfl).trans rfl
theorem vcmpHiS (m : Bool) (d a b : Reg) : Statement (.vcmpHiS m d a b) := fun _ h hw => by cases h; exact (decode_lr _ _ _ _ _ _ rfl).trans rfl
theorem vcmpHsS (m : Bool) (d a b : Reg) : Statement (.vcmpHsS m d a b) := fun _ h hw => by cases h; exact (decode_lr _ _ _ _ _ _ rfl).trans rfl
theorem vsel (m : Bool) (d a b : Reg) : Statement (.vsel m d a b) := fun _ h hw => by cases h; exact (decode_lr _ _ _ _ _ _ rfl).trans rfl
theorem vmov (m : Bool) (d a : Reg) : Statement (.vmov m d a) := fun _ h hw => by cases h; exact (decode_lr _ _ _ _ _ _ rfl).trans rfl
theorem vmovS (m : Bool) (d b : Reg) : Statement (.vmovS m d b) := fun _ h hw => by cases h; exact (decode_lr _ _ _ _ _ _ rfl).trans rfl
theorem vtid (m : Bool) (d : Reg) : Statement (.vtid m d) := fun _ h hw => by cases h; exact (decode_lr _ _ _ _ _ _ rfl).trans rfl
theorem vaddi (m : Bool) (d a : Reg) (i : BitVec 10) : Statement (.vaddi m d a i) := fun _ h hw => by cases h; exact (decode_li _ _ _ _ _ rfl).trans rfl
theorem vmovi (m : Bool) (d : Reg) (i : BitVec 10) : Statement (.vmovi m d i) := fun _ h hw => by cases h; exact (decode_li _ _ _ _ _ rfl).trans rfl
theorem vandi (m : Bool) (d a : Reg) (i : BitVec 10) : Statement (.vandi m d a i) := fun _ h hw => by cases h; exact (decode_li _ _ _ _ _ rfl).trans rfl
theorem vori (m : Bool) (d a : Reg) (i : BitVec 10) : Statement (.vori m d a i) := fun _ h hw => by cases h; exact (decode_li _ _ _ _ _ rfl).trans rfl
theorem vxori (m : Bool) (d a : Reg) (i : BitVec 10) : Statement (.vxori m d a i) := fun _ h hw => by cases h; exact (decode_li _ _ _ _ _ rfl).trans rfl
theorem vshli (m : Bool) (d a : Reg) (c : BitVec 5) : Statement (.vshli m d a c) := fun _ h _ => by
  cases h
  refine (decode_li _ _ _ _ _ rfl).trans ?_
  exact (fields_ok (by simp [small_hi])).trans (by simp [canonical])
theorem vshri (m : Bool) (d a : Reg) (c : BitVec 5) : Statement (.vshri m d a c) := fun _ h _ => by
  cases h
  refine (decode_li _ _ _ _ _ rfl).trans ?_
  exact (fields_ok (by simp [small_hi])).trans (by simp [canonical])
theorem vsrai (m : Bool) (d a : Reg) (c : BitVec 5) : Statement (.vsrai m d a c) := fun _ h _ => by
  cases h
  refine (decode_li _ _ _ _ _ rfl).trans ?_
  exact (fields_ok (by simp [small_hi])).trans (by simp [canonical])
theorem vmuli (m : Bool) (d a : Reg) (i : BitVec 10) : Statement (.vmuli m d a i) := fun _ h hw => by cases h; exact (decode_li _ _ _ _ _ rfl).trans rfl
theorem vfaddF32 (m : Bool) (d a b : Reg) : Statement (.vfaddF32 m d a b) := fun _ h hw => by cases h; exact (decode_lr _ _ _ _ _ _ rfl).trans rfl
theorem vfsubF32 (m : Bool) (d a b : Reg) : Statement (.vfsubF32 m d a b) := fun _ h hw => by cases h; exact (decode_lr _ _ _ _ _ _ rfl).trans rfl
theorem vfmulF32 (m : Bool) (d a b : Reg) : Statement (.vfmulF32 m d a b) := fun _ h hw => by cases h; exact (decode_lr _ _ _ _ _ _ rfl).trans rfl
theorem vfminF32 (m : Bool) (d a b : Reg) : Statement (.vfminF32 m d a b) := fun _ h hw => by cases h; exact (decode_lr _ _ _ _ _ _ rfl).trans rfl
theorem vfmaxF32 (m : Bool) (d a b : Reg) : Statement (.vfmaxF32 m d a b) := fun _ h hw => by cases h; exact (decode_lr _ _ _ _ _ _ rfl).trans rfl
theorem vfmaF32 (m : Bool) (d a b : Reg) : Statement (.vfmaF32 m d a b) := fun _ h hw => by cases h; exact (decode_lr _ _ _ _ _ _ rfl).trans rfl
theorem vfmsF32 (m : Bool) (d a b : Reg) : Statement (.vfmsF32 m d a b) := fun _ h hw => by cases h; exact (decode_lr _ _ _ _ _ _ rfl).trans rfl
theorem vfnmaF32 (m : Bool) (d a b : Reg) : Statement (.vfnmaF32 m d a b) := fun _ h hw => by cases h; exact (decode_lr _ _ _ _ _ _ rfl).trans rfl
theorem vfaddF16x2 (m : Bool) (d a b : Reg) : Statement (.vfaddF16x2 m d a b) := fun _ h hw => by cases h; exact (decode_lr _ _ _ _ _ _ rfl).trans rfl
theorem vfsubF16x2 (m : Bool) (d a b : Reg) : Statement (.vfsubF16x2 m d a b) := fun _ h hw => by cases h; exact (decode_lr _ _ _ _ _ _ rfl).trans rfl
theorem vfmulF16x2 (m : Bool) (d a b : Reg) : Statement (.vfmulF16x2 m d a b) := fun _ h hw => by cases h; exact (decode_lr _ _ _ _ _ _ rfl).trans rfl
theorem vfminF16x2 (m : Bool) (d a b : Reg) : Statement (.vfminF16x2 m d a b) := fun _ h hw => by cases h; exact (decode_lr _ _ _ _ _ _ rfl).trans rfl
theorem vfmaxF16x2 (m : Bool) (d a b : Reg) : Statement (.vfmaxF16x2 m d a b) := fun _ h hw => by cases h; exact (decode_lr _ _ _ _ _ _ rfl).trans rfl
theorem vfmaF16x2 (m : Bool) (d a b : Reg) : Statement (.vfmaF16x2 m d a b) := fun _ h hw => by cases h; exact (decode_lr _ _ _ _ _ _ rfl).trans rfl
theorem vfmsF16x2 (m : Bool) (d a b : Reg) : Statement (.vfmsF16x2 m d a b) := fun _ h hw => by cases h; exact (decode_lr _ _ _ _ _ _ rfl).trans rfl
theorem vfnmaF16x2 (m : Bool) (d a b : Reg) : Statement (.vfnmaF16x2 m d a b) := fun _ h hw => by cases h; exact (decode_lr _ _ _ _ _ _ rfl).trans rfl
theorem vfaddBf16x2 (m : Bool) (d a b : Reg) : Statement (.vfaddBf16x2 m d a b) := fun _ h hw => by cases h; exact (decode_lr _ _ _ _ _ _ rfl).trans rfl
theorem vfsubBf16x2 (m : Bool) (d a b : Reg) : Statement (.vfsubBf16x2 m d a b) := fun _ h hw => by cases h; exact (decode_lr _ _ _ _ _ _ rfl).trans rfl
theorem vfmulBf16x2 (m : Bool) (d a b : Reg) : Statement (.vfmulBf16x2 m d a b) := fun _ h hw => by cases h; exact (decode_lr _ _ _ _ _ _ rfl).trans rfl
theorem vfminBf16x2 (m : Bool) (d a b : Reg) : Statement (.vfminBf16x2 m d a b) := fun _ h hw => by cases h; exact (decode_lr _ _ _ _ _ _ rfl).trans rfl
theorem vfmaxBf16x2 (m : Bool) (d a b : Reg) : Statement (.vfmaxBf16x2 m d a b) := fun _ h hw => by cases h; exact (decode_lr _ _ _ _ _ _ rfl).trans rfl
theorem vfmaBf16x2 (m : Bool) (d a b : Reg) : Statement (.vfmaBf16x2 m d a b) := fun _ h hw => by cases h; exact (decode_lr _ _ _ _ _ _ rfl).trans rfl
theorem vfmsBf16x2 (m : Bool) (d a b : Reg) : Statement (.vfmsBf16x2 m d a b) := fun _ h hw => by cases h; exact (decode_lr _ _ _ _ _ _ rfl).trans rfl
theorem vfnmaBf16x2 (m : Bool) (d a b : Reg) : Statement (.vfnmaBf16x2 m d a b) := fun _ h hw => by cases h; exact (decode_lr _ _ _ _ _ _ rfl).trans rfl
theorem vfaddF32S (m : Bool) (d a b : Reg) : Statement (.vfaddF32S m d a b) := fun _ h hw => by cases h; exact (decode_lr _ _ _ _ _ _ rfl).trans rfl
theorem vfsubF32S (m : Bool) (d a b : Reg) : Statement (.vfsubF32S m d a b) := fun _ h hw => by cases h; exact (decode_lr _ _ _ _ _ _ rfl).trans rfl
theorem vfmulF32S (m : Bool) (d a b : Reg) : Statement (.vfmulF32S m d a b) := fun _ h hw => by cases h; exact (decode_lr _ _ _ _ _ _ rfl).trans rfl
theorem vfminF32S (m : Bool) (d a b : Reg) : Statement (.vfminF32S m d a b) := fun _ h hw => by cases h; exact (decode_lr _ _ _ _ _ _ rfl).trans rfl
theorem vfmaxF32S (m : Bool) (d a b : Reg) : Statement (.vfmaxF32S m d a b) := fun _ h hw => by cases h; exact (decode_lr _ _ _ _ _ _ rfl).trans rfl
theorem vfmaF32S (m : Bool) (d a b : Reg) : Statement (.vfmaF32S m d a b) := fun _ h hw => by cases h; exact (decode_lr _ _ _ _ _ _ rfl).trans rfl
theorem vfmsF32S (m : Bool) (d a b : Reg) : Statement (.vfmsF32S m d a b) := fun _ h hw => by cases h; exact (decode_lr _ _ _ _ _ _ rfl).trans rfl
theorem vfnmaF32S (m : Bool) (d a b : Reg) : Statement (.vfnmaF32S m d a b) := fun _ h hw => by cases h; exact (decode_lr _ _ _ _ _ _ rfl).trans rfl
theorem vfcmpEqF32 (m : Bool) (d a b : Reg) : Statement (.vfcmpEqF32 m d a b) := fun _ h hw => by cases h; exact (decode_lr _ _ _ _ _ _ rfl).trans rfl
theorem vfcmpNeF32 (m : Bool) (d a b : Reg) : Statement (.vfcmpNeF32 m d a b) := fun _ h hw => by cases h; exact (decode_lr _ _ _ _ _ _ rfl).trans rfl
theorem vfcmpLtF32 (m : Bool) (d a b : Reg) : Statement (.vfcmpLtF32 m d a b) := fun _ h hw => by cases h; exact (decode_lr _ _ _ _ _ _ rfl).trans rfl
theorem vfcmpLeF32 (m : Bool) (d a b : Reg) : Statement (.vfcmpLeF32 m d a b) := fun _ h hw => by cases h; exact (decode_lr _ _ _ _ _ _ rfl).trans rfl
theorem vfcmpGtF32 (m : Bool) (d a b : Reg) : Statement (.vfcmpGtF32 m d a b) := fun _ h hw => by cases h; exact (decode_lr _ _ _ _ _ _ rfl).trans rfl
theorem vfcmpGeF32 (m : Bool) (d a b : Reg) : Statement (.vfcmpGeF32 m d a b) := fun _ h hw => by cases h; exact (decode_lr _ _ _ _ _ _ rfl).trans rfl
theorem vfcmpUnF32 (m : Bool) (d a b : Reg) : Statement (.vfcmpUnF32 m d a b) := fun _ h hw => by cases h; exact (decode_lr _ _ _ _ _ _ rfl).trans rfl
theorem vfcmpEqF16x2 (m : Bool) (d a b : Reg) : Statement (.vfcmpEqF16x2 m d a b) := fun _ h hw => by cases h; exact (decode_lr _ _ _ _ _ _ rfl).trans (operand_ok hw)
theorem vfcmpNeF16x2 (m : Bool) (d a b : Reg) : Statement (.vfcmpNeF16x2 m d a b) := fun _ h hw => by cases h; exact (decode_lr _ _ _ _ _ _ rfl).trans (operand_ok hw)
theorem vfcmpLtF16x2 (m : Bool) (d a b : Reg) : Statement (.vfcmpLtF16x2 m d a b) := fun _ h hw => by cases h; exact (decode_lr _ _ _ _ _ _ rfl).trans (operand_ok hw)
theorem vfcmpLeF16x2 (m : Bool) (d a b : Reg) : Statement (.vfcmpLeF16x2 m d a b) := fun _ h hw => by cases h; exact (decode_lr _ _ _ _ _ _ rfl).trans (operand_ok hw)
theorem vfcmpGtF16x2 (m : Bool) (d a b : Reg) : Statement (.vfcmpGtF16x2 m d a b) := fun _ h hw => by cases h; exact (decode_lr _ _ _ _ _ _ rfl).trans (operand_ok hw)
theorem vfcmpGeF16x2 (m : Bool) (d a b : Reg) : Statement (.vfcmpGeF16x2 m d a b) := fun _ h hw => by cases h; exact (decode_lr _ _ _ _ _ _ rfl).trans (operand_ok hw)
theorem vfcmpUnF16x2 (m : Bool) (d a b : Reg) : Statement (.vfcmpUnF16x2 m d a b) := fun _ h hw => by cases h; exact (decode_lr _ _ _ _ _ _ rfl).trans (operand_ok hw)
theorem vfcmpEqBf16x2 (m : Bool) (d a b : Reg) : Statement (.vfcmpEqBf16x2 m d a b) := fun _ h hw => by cases h; exact (decode_lr _ _ _ _ _ _ rfl).trans (operand_ok hw)
theorem vfcmpNeBf16x2 (m : Bool) (d a b : Reg) : Statement (.vfcmpNeBf16x2 m d a b) := fun _ h hw => by cases h; exact (decode_lr _ _ _ _ _ _ rfl).trans (operand_ok hw)
theorem vfcmpLtBf16x2 (m : Bool) (d a b : Reg) : Statement (.vfcmpLtBf16x2 m d a b) := fun _ h hw => by cases h; exact (decode_lr _ _ _ _ _ _ rfl).trans (operand_ok hw)
theorem vfcmpLeBf16x2 (m : Bool) (d a b : Reg) : Statement (.vfcmpLeBf16x2 m d a b) := fun _ h hw => by cases h; exact (decode_lr _ _ _ _ _ _ rfl).trans (operand_ok hw)
theorem vfcmpGtBf16x2 (m : Bool) (d a b : Reg) : Statement (.vfcmpGtBf16x2 m d a b) := fun _ h hw => by cases h; exact (decode_lr _ _ _ _ _ _ rfl).trans (operand_ok hw)
theorem vfcmpGeBf16x2 (m : Bool) (d a b : Reg) : Statement (.vfcmpGeBf16x2 m d a b) := fun _ h hw => by cases h; exact (decode_lr _ _ _ _ _ _ rfl).trans (operand_ok hw)
theorem vfcmpUnBf16x2 (m : Bool) (d a b : Reg) : Statement (.vfcmpUnBf16x2 m d a b) := fun _ h hw => by cases h; exact (decode_lr _ _ _ _ _ _ rfl).trans (operand_ok hw)
theorem vfclassF32 (m : Bool) (d a : Reg) : Statement (.vfclassF32 m d a) := fun _ h hw => by cases h; exact (decode_lr _ _ _ _ _ _ rfl).trans rfl
theorem vfclassF16x2 (m : Bool) (d a : Reg) : Statement (.vfclassF16x2 m d a) := fun _ h hw => by cases h; exact (decode_lr _ _ _ _ _ _ rfl).trans rfl
theorem vfclassBf16x2 (m : Bool) (d a : Reg) : Statement (.vfclassBf16x2 m d a) := fun _ h hw => by cases h; exact (decode_lr _ _ _ _ _ _ rfl).trans rfl
theorem vrcp (m : Bool) (d a : Reg) : Statement (.vrcp m d a) := fun _ h hw => by cases h; exact (decode_lr _ _ _ _ _ _ rfl).trans rfl
theorem vrsq (m : Bool) (d a : Reg) : Statement (.vrsq m d a) := fun _ h hw => by cases h; exact (decode_lr _ _ _ _ _ _ rfl).trans rfl
theorem vsqrt (m : Bool) (d a : Reg) : Statement (.vsqrt m d a) := fun _ h hw => by cases h; exact (decode_lr _ _ _ _ _ _ rfl).trans rfl
theorem vexp2 (m : Bool) (d a : Reg) : Statement (.vexp2 m d a) := fun _ h hw => by cases h; exact (decode_lr _ _ _ _ _ _ rfl).trans rfl
theorem vlog2 (m : Bool) (d a : Reg) : Statement (.vlog2 m d a) := fun _ h hw => by cases h; exact (decode_lr _ _ _ _ _ _ rfl).trans rfl
theorem vsin (m : Bool) (d a : Reg) : Statement (.vsin m d a) := fun _ h hw => by cases h; exact (decode_lr _ _ _ _ _ _ rfl).trans rfl
theorem vcos (m : Bool) (d a : Reg) : Statement (.vcos m d a) := fun _ h hw => by cases h; exact (decode_lr _ _ _ _ _ _ rfl).trans rfl
theorem vtanh (m : Bool) (d a : Reg) : Statement (.vtanh m d a) := fun _ h hw => by cases h; exact (decode_lr _ _ _ _ _ _ rfl).trans rfl
theorem vfdivF32 (m : Bool) (d a b : Reg) : Statement (.vfdivF32 m d a b) := fun _ h hw => by cases h; exact (decode_lr _ _ _ _ _ _ rfl).trans rfl
theorem vfdivF32S (m : Bool) (d a b : Reg) : Statement (.vfdivF32S m d a b) := fun _ h hw => by cases h; exact (decode_lr _ _ _ _ _ _ rfl).trans rfl
theorem vcvt (m : Bool) (d a c : Reg) : Statement (.vcvt m d a c) := fun _ h hw => by cases h; exact (decode_lr _ _ _ _ _ _ rfl).trans (operand_ok hw)
theorem vcvtSr (m : Bool) (d a c : Reg) : Statement (.vcvtSr m d a c) := fun _ h hw => by cases h; exact (decode_lr _ _ _ _ _ _ rfl).trans (operand_ok hw)
theorem vcvtSat (m : Bool) (d a c : Reg) : Statement (.vcvtSat m d a c) := fun _ h hw => by cases h; exact (decode_lr _ _ _ _ _ _ rfl).trans (operand_ok hw)
theorem vcvtSatSr (m : Bool) (d a c : Reg) : Statement (.vcvtSatSr m d a c) := fun _ h hw => by cases h; exact (decode_lr _ _ _ _ _ _ rfl).trans (operand_ok hw)
theorem vqblkE2m1x (m : Bool) (d a : Reg) : Statement (.vqblkE2m1x m d a) := fun _ h hw => by cases h; exact (decode_lr _ _ _ _ _ _ rfl).trans rfl
theorem vqblkE4m3 (m : Bool) (d a : Reg) : Statement (.vqblkE4m3 m d a) := fun _ h hw => by cases h; exact (decode_lr _ _ _ _ _ _ rfl).trans rfl
theorem vqblkE5m2 (m : Bool) (d a : Reg) : Statement (.vqblkE5m2 m d a) := fun _ h hw => by cases h; exact (decode_lr _ _ _ _ _ _ rfl).trans rfl
theorem vpopa (m : Bool) (d : Reg) : Statement (.vpopa m d) := fun _ h hw => by cases h; exact (decode_lr _ _ _ _ _ _ rfl).trans rfl
theorem vshflIdx (m : Bool) (d a b : Reg) : Statement (.vshflIdx m d a b) := fun _ h hw => by cases h; exact (decode_lr _ _ _ _ _ _ rfl).trans rfl
theorem vshflUp (m : Bool) (d a b : Reg) : Statement (.vshflUp m d a b) := fun _ h hw => by cases h; exact (decode_lr _ _ _ _ _ _ rfl).trans rfl
theorem vshflDown (m : Bool) (d a b : Reg) : Statement (.vshflDown m d a b) := fun _ h hw => by cases h; exact (decode_lr _ _ _ _ _ _ rfl).trans rfl
theorem vshflXor (m : Bool) (d a b : Reg) : Statement (.vshflXor m d a b) := fun _ h hw => by cases h; exact (decode_lr _ _ _ _ _ _ rfl).trans rfl
theorem vperm8Lo (m : Bool) (d a b : Reg) : Statement (.vperm8Lo m d a b) := fun _ h hw => by cases h; exact (decode_lr _ _ _ _ _ _ rfl).trans (operand_ok hw)
theorem vperm8Hi (m : Bool) (d a b : Reg) : Statement (.vperm8Hi m d a b) := fun _ h hw => by cases h; exact (decode_lr _ _ _ _ _ _ rfl).trans (operand_ok hw)
theorem vbcast (m : Bool) (d a b : Reg) : Statement (.vbcast m d a b) := fun _ h hw => by cases h; exact (decode_lr _ _ _ _ _ _ rfl).trans rfl
theorem vext (m : Bool) (d a b : Reg) : Statement (.vext m d a b) := fun _ h hw => by cases h; exact (decode_lr _ _ _ _ _ _ rfl).trans rfl
theorem vlredAddI32 (m : Bool) (d a : Reg) : Statement (.vlredAddI32 m d a) := fun _ h hw => by cases h; exact (decode_lr _ _ _ _ _ _ rfl).trans rfl
theorem vlredMinI32 (m : Bool) (d a : Reg) : Statement (.vlredMinI32 m d a) := fun _ h hw => by cases h; exact (decode_lr _ _ _ _ _ _ rfl).trans rfl
theorem vlredMaxI32 (m : Bool) (d a : Reg) : Statement (.vlredMaxI32 m d a) := fun _ h hw => by cases h; exact (decode_lr _ _ _ _ _ _ rfl).trans rfl
theorem vlredMinN32 (m : Bool) (d a : Reg) : Statement (.vlredMinN32 m d a) := fun _ h hw => by cases h; exact (decode_lr _ _ _ _ _ _ rfl).trans rfl
theorem vlredMaxN32 (m : Bool) (d a : Reg) : Statement (.vlredMaxN32 m d a) := fun _ h hw => by cases h; exact (decode_lr _ _ _ _ _ _ rfl).trans rfl
theorem vlredFaddF32 (m : Bool) (d a : Reg) : Statement (.vlredFaddF32 m d a) := fun _ h hw => by cases h; exact (decode_lr _ _ _ _ _ _ rfl).trans rfl
theorem vlredFminF32 (m : Bool) (d a : Reg) : Statement (.vlredFminF32 m d a) := fun _ h hw => by cases h; exact (decode_lr _ _ _ _ _ _ rfl).trans rfl
theorem vlredFmaxF32 (m : Bool) (d a : Reg) : Statement (.vlredFmaxF32 m d a) := fun _ h hw => by cases h; exact (decode_lr _ _ _ _ _ _ rfl).trans rfl
theorem vscanAddI32 (m : Bool) (d a : Reg) : Statement (.vscanAddI32 m d a) := fun _ h hw => by cases h; exact (decode_lr _ _ _ _ _ _ rfl).trans rfl
theorem vscanMinI32 (m : Bool) (d a : Reg) : Statement (.vscanMinI32 m d a) := fun _ h hw => by cases h; exact (decode_lr _ _ _ _ _ _ rfl).trans rfl
theorem vscanMaxI32 (m : Bool) (d a : Reg) : Statement (.vscanMaxI32 m d a) := fun _ h hw => by cases h; exact (decode_lr _ _ _ _ _ _ rfl).trans rfl
theorem vscanMinN32 (m : Bool) (d a : Reg) : Statement (.vscanMinN32 m d a) := fun _ h hw => by cases h; exact (decode_lr _ _ _ _ _ _ rfl).trans rfl
theorem vscanMaxN32 (m : Bool) (d a : Reg) : Statement (.vscanMaxN32 m d a) := fun _ h hw => by cases h; exact (decode_lr _ _ _ _ _ _ rfl).trans rfl
theorem vscanFaddF32 (m : Bool) (d a : Reg) : Statement (.vscanFaddF32 m d a) := fun _ h hw => by cases h; exact (decode_lr _ _ _ _ _ _ rfl).trans rfl
theorem vscanFminF32 (m : Bool) (d a : Reg) : Statement (.vscanFminF32 m d a) := fun _ h hw => by cases h; exact (decode_lr _ _ _ _ _ _ rfl).trans rfl
theorem vscanFmaxF32 (m : Bool) (d a : Reg) : Statement (.vscanFmaxF32 m d a) := fun _ h hw => by cases h; exact (decode_lr _ _ _ _ _ _ rfl).trans rfl
theorem voteAny (m : Bool) (d a p : Reg) : Statement (.voteAny m d a p) := fun _ h hw => by cases h; exact (decode_lr _ _ _ _ _ _ rfl).trans (operand_ok hw)
theorem voteAll (m : Bool) (d a p : Reg) : Statement (.voteAll m d a p) := fun _ h hw => by cases h; exact (decode_lr _ _ _ _ _ _ rfl).trans (operand_ok hw)
theorem voteBallot (m : Bool) (d a p : Reg) : Statement (.voteBallot m d a p) := fun _ h hw => by cases h; exact (decode_lr _ _ _ _ _ _ rfl).trans (operand_ok hw)
theorem vfirst (m : Bool) (d a p : Reg) : Statement (.vfirst m d a p) := fun _ h hw => by cases h; exact (decode_lr _ _ _ _ _ _ rfl).trans (operand_ok hw)
theorem vld (m : Bool) (d a : Reg) (g : BitVec 3) (s : Size) (i : BitVec 4) : Statement (.vld m d a g s i) := fun _ h hw => by cases h; exact (decode_lm _ _ _ _ _ _ _ rfl).trans rfl
theorem vlds (m : Bool) (d a : Reg) (g : BitVec 3) (s : Size) (i : BitVec 4) : Statement (.vlds m d a g s i) := fun _ h hw => by cases h; exact (decode_lm _ _ _ _ _ _ _ rfl).trans (sizeUpTo_ok hw)
theorem vst (m : Bool) (d a : Reg) (g : BitVec 3) (s : Size) (i : BitVec 4) : Statement (.vst m d a g s i) := fun _ h hw => by cases h; exact (decode_lm _ _ _ _ _ _ _ rfl).trans rfl
theorem vatomAdd (m : Bool) (d a : Reg) (g : BitVec 3) (s : Size) : Statement (.vatomAdd m d a g s) := fun _ h hw => by cases h; exact (decode_lm _ _ _ _ _ _ _ rfl).trans (opSize_ok hw)
theorem vatomSub (m : Bool) (d a : Reg) (g : BitVec 3) (s : Size) : Statement (.vatomSub m d a g s) := fun _ h hw => by cases h; exact (decode_lm _ _ _ _ _ _ _ rfl).trans (opSize_ok hw)
theorem vatomMinI (m : Bool) (d a : Reg) (g : BitVec 3) (s : Size) : Statement (.vatomMinI m d a g s) := fun _ h hw => by cases h; exact (decode_lm _ _ _ _ _ _ _ rfl).trans (opSize_ok hw)
theorem vatomMaxI (m : Bool) (d a : Reg) (g : BitVec 3) (s : Size) : Statement (.vatomMaxI m d a g s) := fun _ h hw => by cases h; exact (decode_lm _ _ _ _ _ _ _ rfl).trans (opSize_ok hw)
theorem vatomMinN (m : Bool) (d a : Reg) (g : BitVec 3) (s : Size) : Statement (.vatomMinN m d a g s) := fun _ h hw => by cases h; exact (decode_lm _ _ _ _ _ _ _ rfl).trans (opSize_ok hw)
theorem vatomMaxN (m : Bool) (d a : Reg) (g : BitVec 3) (s : Size) : Statement (.vatomMaxN m d a g s) := fun _ h hw => by cases h; exact (decode_lm _ _ _ _ _ _ _ rfl).trans (opSize_ok hw)
theorem vatomAnd (m : Bool) (d a : Reg) (g : BitVec 3) (s : Size) : Statement (.vatomAnd m d a g s) := fun _ h hw => by cases h; exact (decode_lm _ _ _ _ _ _ _ rfl).trans (opSize_ok hw)
theorem vatomOr (m : Bool) (d a : Reg) (g : BitVec 3) (s : Size) : Statement (.vatomOr m d a g s) := fun _ h hw => by cases h; exact (decode_lm _ _ _ _ _ _ _ rfl).trans (opSize_ok hw)
theorem vatomXor (m : Bool) (d a : Reg) (g : BitVec 3) (s : Size) : Statement (.vatomXor m d a g s) := fun _ h hw => by cases h; exact (decode_lm _ _ _ _ _ _ _ rfl).trans (opSize_ok hw)
theorem vatomXchg (m : Bool) (d a : Reg) (g : BitVec 3) (s : Size) : Statement (.vatomXchg m d a g s) := fun _ h hw => by cases h; exact (decode_lm _ _ _ _ _ _ _ rfl).trans (opSize_ok hw)
theorem vatomCas (m : Bool) (d a : Reg) (g : BitVec 3) (s : Size) : Statement (.vatomCas m d a g s) := fun _ h hw => by cases h; exact (decode_lm _ _ _ _ _ _ _ rfl).trans (opSize_ok hw)
theorem vatomFadd (m : Bool) (d a : Reg) (g : BitVec 3) (s : Size) : Statement (.vatomFadd m d a g s) := fun _ h hw => by cases h; exact (decode_lm _ _ _ _ _ _ _ rfl).trans (opSize_ok hw)
theorem vatomFmin (m : Bool) (d a : Reg) (g : BitVec 3) (s : Size) : Statement (.vatomFmin m d a g s) := fun _ h hw => by cases h; exact (decode_lm _ _ _ _ _ _ _ rfl).trans (opSize_ok hw)
theorem vatomFmax (m : Bool) (d a : Reg) (g : BitVec 3) (s : Size) : Statement (.vatomFmax m d a g s) := fun _ h hw => by cases h; exact (decode_lm _ _ _ _ _ _ _ rfl).trans (opSize_ok hw)
theorem vatomAddBf16x2 (m : Bool) (d a : Reg) (g : BitVec 3) (s : Size) : Statement (.vatomAddBf16x2 m d a g s) := fun _ h hw => by cases h; exact (decode_lm _ _ _ _ _ _ _ rfl).trans (opSize_ok hw)
theorem vredAdd (m : Bool) (d a : Reg) (g : BitVec 3) (s : Size) : Statement (.vredAdd m d a g s) := fun _ h hw => by cases h; exact (decode_lm _ _ _ _ _ _ _ rfl).trans (opSize_ok hw)
theorem vredSub (m : Bool) (d a : Reg) (g : BitVec 3) (s : Size) : Statement (.vredSub m d a g s) := fun _ h hw => by cases h; exact (decode_lm _ _ _ _ _ _ _ rfl).trans (opSize_ok hw)
theorem vredMinI (m : Bool) (d a : Reg) (g : BitVec 3) (s : Size) : Statement (.vredMinI m d a g s) := fun _ h hw => by cases h; exact (decode_lm _ _ _ _ _ _ _ rfl).trans (opSize_ok hw)
theorem vredMaxI (m : Bool) (d a : Reg) (g : BitVec 3) (s : Size) : Statement (.vredMaxI m d a g s) := fun _ h hw => by cases h; exact (decode_lm _ _ _ _ _ _ _ rfl).trans (opSize_ok hw)
theorem vredMinN (m : Bool) (d a : Reg) (g : BitVec 3) (s : Size) : Statement (.vredMinN m d a g s) := fun _ h hw => by cases h; exact (decode_lm _ _ _ _ _ _ _ rfl).trans (opSize_ok hw)
theorem vredMaxN (m : Bool) (d a : Reg) (g : BitVec 3) (s : Size) : Statement (.vredMaxN m d a g s) := fun _ h hw => by cases h; exact (decode_lm _ _ _ _ _ _ _ rfl).trans (opSize_ok hw)
theorem vredAnd (m : Bool) (d a : Reg) (g : BitVec 3) (s : Size) : Statement (.vredAnd m d a g s) := fun _ h hw => by cases h; exact (decode_lm _ _ _ _ _ _ _ rfl).trans (opSize_ok hw)
theorem vredOr (m : Bool) (d a : Reg) (g : BitVec 3) (s : Size) : Statement (.vredOr m d a g s) := fun _ h hw => by cases h; exact (decode_lm _ _ _ _ _ _ _ rfl).trans (opSize_ok hw)
theorem vredXor (m : Bool) (d a : Reg) (g : BitVec 3) (s : Size) : Statement (.vredXor m d a g s) := fun _ h hw => by cases h; exact (decode_lm _ _ _ _ _ _ _ rfl).trans (opSize_ok hw)
theorem vredFadd (m : Bool) (d a : Reg) (g : BitVec 3) (s : Size) : Statement (.vredFadd m d a g s) := fun _ h hw => by cases h; exact (decode_lm _ _ _ _ _ _ _ rfl).trans (opSize_ok hw)
theorem vredFmin (m : Bool) (d a : Reg) (g : BitVec 3) (s : Size) : Statement (.vredFmin m d a g s) := fun _ h hw => by cases h; exact (decode_lm _ _ _ _ _ _ _ rfl).trans (opSize_ok hw)
theorem vredFmax (m : Bool) (d a : Reg) (g : BitVec 3) (s : Size) : Statement (.vredFmax m d a g s) := fun _ h hw => by cases h; exact (decode_lm _ _ _ _ _ _ _ rfl).trans (opSize_ok hw)
theorem vredAddBf16x2 (m : Bool) (d a : Reg) (g : BitVec 3) (s : Size) : Statement (.vredAddBf16x2 m d a g s) := fun _ h hw => by cases h; exact (decode_lm _ _ _ _ _ _ _ rfl).trans (opSize_ok hw)
theorem nop (m : Bool) : Statement (.nop m) := fun _ h hw => by cases h; exact (decode_gr _ _ _ _ _ _ rfl).trans rfl
theorem yield (m : Bool) : Statement (.yield m) := fun _ h hw => by cases h; exact (decode_gr _ _ _ _ _ _ rfl).trans rfl
theorem exit (m : Bool) : Statement (.exit m) := fun _ h hw => by cases h; exact (decode_gr _ _ _ _ _ _ rfl).trans rfl
theorem sadd (m : Bool) (d a b : Reg) : Statement (.sadd m d a b) := fun _ h hw => by cases h; exact (decode_gr _ _ _ _ _ _ rfl).trans rfl
theorem ssub (m : Bool) (d a b : Reg) : Statement (.ssub m d a b) := fun _ h hw => by cases h; exact (decode_gr _ _ _ _ _ _ rfl).trans rfl
theorem saddsI64 (m : Bool) (d a b : Reg) : Statement (.saddsI64 m d a b) := fun _ h hw => by cases h; exact (decode_gr _ _ _ _ _ _ rfl).trans rfl
theorem saddsN64 (m : Bool) (d a b : Reg) : Statement (.saddsN64 m d a b) := fun _ h hw => by cases h; exact (decode_gr _ _ _ _ _ _ rfl).trans rfl
theorem ssubsI64 (m : Bool) (d a b : Reg) : Statement (.ssubsI64 m d a b) := fun _ h hw => by cases h; exact (decode_gr _ _ _ _ _ _ rfl).trans rfl
theorem ssubsN64 (m : Bool) (d a b : Reg) : Statement (.ssubsN64 m d a b) := fun _ h hw => by cases h; exact (decode_gr _ _ _ _ _ _ rfl).trans rfl
theorem smul (m : Bool) (d a b : Reg) : Statement (.smul m d a b) := fun _ h hw => by cases h; exact (decode_gr _ _ _ _ _ _ rfl).trans rfl
theorem smulhI64 (m : Bool) (d a b : Reg) : Statement (.smulhI64 m d a b) := fun _ h hw => by cases h; exact (decode_gr _ _ _ _ _ _ rfl).trans rfl
theorem smulhN64 (m : Bool) (d a b : Reg) : Statement (.smulhN64 m d a b) := fun _ h hw => by cases h; exact (decode_gr _ _ _ _ _ _ rfl).trans rfl
theorem sdivI64 (m : Bool) (d a b : Reg) : Statement (.sdivI64 m d a b) := fun _ h hw => by cases h; exact (decode_gr _ _ _ _ _ _ rfl).trans rfl
theorem sdivN64 (m : Bool) (d a b : Reg) : Statement (.sdivN64 m d a b) := fun _ h hw => by cases h; exact (decode_gr _ _ _ _ _ _ rfl).trans rfl
theorem sremI64 (m : Bool) (d a b : Reg) : Statement (.sremI64 m d a b) := fun _ h hw => by cases h; exact (decode_gr _ _ _ _ _ _ rfl).trans rfl
theorem sremN64 (m : Bool) (d a b : Reg) : Statement (.sremN64 m d a b) := fun _ h hw => by cases h; exact (decode_gr _ _ _ _ _ _ rfl).trans rfl
theorem sand (m : Bool) (d a b : Reg) : Statement (.sand m d a b) := fun _ h hw => by cases h; exact (decode_gr _ _ _ _ _ _ rfl).trans rfl
theorem sor (m : Bool) (d a b : Reg) : Statement (.sor m d a b) := fun _ h hw => by cases h; exact (decode_gr _ _ _ _ _ _ rfl).trans rfl
theorem sxor (m : Bool) (d a b : Reg) : Statement (.sxor m d a b) := fun _ h hw => by cases h; exact (decode_gr _ _ _ _ _ _ rfl).trans rfl
theorem sandn (m : Bool) (d a b : Reg) : Statement (.sandn m d a b) := fun _ h hw => by cases h; exact (decode_gr _ _ _ _ _ _ rfl).trans rfl
theorem sshl (m : Bool) (d a b : Reg) : Statement (.sshl m d a b) := fun _ h hw => by cases h; exact (decode_gr _ _ _ _ _ _ rfl).trans rfl
theorem sshr (m : Bool) (d a b : Reg) : Statement (.sshr m d a b) := fun _ h hw => by cases h; exact (decode_gr _ _ _ _ _ _ rfl).trans rfl
theorem ssra (m : Bool) (d a b : Reg) : Statement (.ssra m d a b) := fun _ h hw => by cases h; exact (decode_gr _ _ _ _ _ _ rfl).trans rfl
theorem srol (m : Bool) (d a b : Reg) : Statement (.srol m d a b) := fun _ h hw => by cases h; exact (decode_gr _ _ _ _ _ _ rfl).trans rfl
theorem sminI64 (m : Bool) (d a b : Reg) : Statement (.sminI64 m d a b) := fun _ h hw => by cases h; exact (decode_gr _ _ _ _ _ _ rfl).trans rfl
theorem smaxI64 (m : Bool) (d a b : Reg) : Statement (.smaxI64 m d a b) := fun _ h hw => by cases h; exact (decode_gr _ _ _ _ _ _ rfl).trans rfl
theorem sminN64 (m : Bool) (d a b : Reg) : Statement (.sminN64 m d a b) := fun _ h hw => by cases h; exact (decode_gr _ _ _ _ _ _ rfl).trans rfl
theorem smaxN64 (m : Bool) (d a b : Reg) : Statement (.smaxN64 m d a b) := fun _ h hw => by cases h; exact (decode_gr _ _ _ _ _ _ rfl).trans rfl
theorem sabsI64 (m : Bool) (d a : Reg) : Statement (.sabsI64 m d a) := fun _ h hw => by cases h; exact (decode_gr _ _ _ _ _ _ rfl).trans rfl
theorem sclz (m : Bool) (d a : Reg) : Statement (.sclz m d a) := fun _ h hw => by cases h; exact (decode_gr _ _ _ _ _ _ rfl).trans rfl
theorem spopc (m : Bool) (d a : Reg) : Statement (.spopc m d a) := fun _ h hw => by cases h; exact (decode_gr _ _ _ _ _ _ rfl).trans rfl
theorem sbrev (m : Bool) (d a : Reg) : Statement (.sbrev m d a) := fun _ h hw => by cases h; exact (decode_gr _ _ _ _ _ _ rfl).trans rfl
theorem scmpEq (m : Bool) (d a b : Reg) : Statement (.scmpEq m d a b) := fun _ h hw => by cases h; exact (decode_gr _ _ _ _ _ _ rfl).trans rfl
theorem scmpNe (m : Bool) (d a b : Reg) : Statement (.scmpNe m d a b) := fun _ h hw => by cases h; exact (decode_gr _ _ _ _ _ _ rfl).trans rfl
theorem scmpLt (m : Bool) (d a b : Reg) : Statement (.scmpLt m d a b) := fun _ h hw => by cases h; exact (decode_gr _ _ _ _ _ _ rfl).trans rfl
theorem scmpLe (m : Bool) (d a b : Reg) : Statement (.scmpLe m d a b) := fun _ h hw => by cases h; exact (decode_gr _ _ _ _ _ _ rfl).trans rfl
theorem scmpGt (m : Bool) (d a b : Reg) : Statement (.scmpGt m d a b) := fun _ h hw => by cases h; exact (decode_gr _ _ _ _ _ _ rfl).trans rfl
theorem scmpGe (m : Bool) (d a b : Reg) : Statement (.scmpGe m d a b) := fun _ h hw => by cases h; exact (decode_gr _ _ _ _ _ _ rfl).trans rfl
theorem scmpLo (m : Bool) (d a b : Reg) : Statement (.scmpLo m d a b) := fun _ h hw => by cases h; exact (decode_gr _ _ _ _ _ _ rfl).trans rfl
theorem scmpLs (m : Bool) (d a b : Reg) : Statement (.scmpLs m d a b) := fun _ h hw => by cases h; exact (decode_gr _ _ _ _ _ _ rfl).trans rfl
theorem scmpHi (m : Bool) (d a b : Reg) : Statement (.scmpHi m d a b) := fun _ h hw => by cases h; exact (decode_gr _ _ _ _ _ _ rfl).trans rfl
theorem scmpHs (m : Bool) (d a b : Reg) : Statement (.scmpHs m d a b) := fun _ h hw => by cases h; exact (decode_gr _ _ _ _ _ _ rfl).trans rfl
theorem smov (m : Bool) (d a : Reg) : Statement (.smov m d a) := fun _ h hw => by cases h; exact (decode_gr _ _ _ _ _ _ rfl).trans rfl
theorem scsel (m : Bool) (d a b : Reg) : Statement (.scsel m d a b) := fun _ h hw => by cases h; exact (decode_gr _ _ _ _ _ _ rfl).trans rfl
theorem saddi (m : Bool) (d a : Reg) (i : BitVec 10) : Statement (.saddi m d a i) := fun _ h hw => by cases h; exact (decode_gi _ _ _ _ _ rfl).trans rfl
theorem sandi (m : Bool) (d a : Reg) (i : BitVec 10) : Statement (.sandi m d a i) := fun _ h hw => by cases h; exact (decode_gi _ _ _ _ _ rfl).trans rfl
theorem sori (m : Bool) (d a : Reg) (i : BitVec 10) : Statement (.sori m d a i) := fun _ h hw => by cases h; exact (decode_gi _ _ _ _ _ rfl).trans rfl
theorem sxori (m : Bool) (d a : Reg) (i : BitVec 10) : Statement (.sxori m d a i) := fun _ h hw => by cases h; exact (decode_gi _ _ _ _ _ rfl).trans rfl
theorem sshli (m : Bool) (d a : Reg) (c : BitVec 6) : Statement (.sshli m d a c) := fun _ h _ => by
  cases h
  refine (decode_gi _ _ _ _ _ rfl).trans ?_
  exact (fields_ok (by simp [small_hi])).trans (by simp [canonical])
theorem sshri (m : Bool) (d a : Reg) (c : BitVec 6) : Statement (.sshri m d a c) := fun _ h _ => by
  cases h
  refine (decode_gi _ _ _ _ _ rfl).trans ?_
  exact (fields_ok (by simp [small_hi])).trans (by simp [canonical])
theorem ssrai (m : Bool) (d a : Reg) (c : BitVec 6) : Statement (.ssrai m d a c) := fun _ h _ => by
  cases h
  refine (decode_gi _ _ _ _ _ rfl).trans ?_
  exact (fields_ok (by simp [small_hi])).trans (by simp [canonical])
theorem smovi (m : Bool) (d : Reg) (i : BitVec 10) : Statement (.smovi m d i) := fun _ h hw => by cases h; exact (decode_gi _ _ _ _ _ rfl).trans rfl
theorem mand (m : Bool) (d a b : Reg) : Statement (.mand m d a b) := fun _ h hw => by cases h; exact (decode_gr _ _ _ _ _ _ rfl).trans rfl
theorem mor (m : Bool) (d a b : Reg) : Statement (.mor m d a b) := fun _ h hw => by cases h; exact (decode_gr _ _ _ _ _ _ rfl).trans rfl
theorem mxor (m : Bool) (d a b : Reg) : Statement (.mxor m d a b) := fun _ h hw => by cases h; exact (decode_gr _ _ _ _ _ _ rfl).trans rfl
theorem mandn (m : Bool) (d a b : Reg) : Statement (.mandn m d a b) := fun _ h hw => by cases h; exact (decode_gr _ _ _ _ _ _ rfl).trans rfl
theorem mnot (m : Bool) (d a : Reg) : Statement (.mnot m d a) := fun _ h hw => by cases h; exact (decode_gr _ _ _ _ _ _ rfl).trans rfl
theorem mpopc (m : Bool) (d a : Reg) : Statement (.mpopc m d a) := fun _ h hw => by cases h; exact (decode_gr _ _ _ _ _ _ rfl).trans rfl
theorem mffs (m : Bool) (d a : Reg) : Statement (.mffs m d a) := fun _ h hw => by cases h; exact (decode_gr _ _ _ _ _ _ rfl).trans rfl
theorem mfls (m : Bool) (d a : Reg) : Statement (.mfls m d a) := fun _ h hw => by cases h; exact (decode_gr _ _ _ _ _ _ rfl).trans rfl
theorem mffNv (m : Bool) (d : Reg) (n : Bool) : Statement (.mffNv m d n) := fun _ h _ => by
  cases h
  cases n <;> exact (decode_gr _ _ _ _ _ _ rfl).trans rfl
theorem mffDz (m : Bool) (d : Reg) (n : Bool) : Statement (.mffDz m d n) := fun _ h _ => by
  cases h
  cases n <;> exact (decode_gr _ _ _ _ _ _ rfl).trans rfl
theorem mffOf (m : Bool) (d : Reg) (n : Bool) : Statement (.mffOf m d n) := fun _ h _ => by
  cases h
  cases n <;> exact (decode_gr _ _ _ _ _ _ rfl).trans rfl
theorem mffUf (m : Bool) (d : Reg) (n : Bool) : Statement (.mffUf m d n) := fun _ h _ => by
  cases h
  cases n <;> exact (decode_gr _ _ _ _ _ _ rfl).trans rfl
theorem mffNx (m : Bool) (d : Reg) (n : Bool) : Statement (.mffNx m d n) := fun _ h _ => by
  cases h
  cases n <;> exact (decode_gr _ _ _ _ _ _ rfl).trans rfl
theorem mffclr (m : Bool) (a : Reg) (n : Bool) : Statement (.mffclr m a n) := fun _ h _ => by
  cases h
  cases n <;> exact (decode_gr _ _ _ _ _ _ rfl).trans rfl
theorem rep (n : BitVec 6) (d a b : BitVec 2) : Statement (.rep n d a b) := fun _ h hw => by cases h; exact (decode_rep _ _ _ _).trans rfl
theorem limm (p : BitVec 24) : Statement (.limm p) := fun _ h hw => by cases h; exact (decode_limm _).trans rfl
theorem br (m : Bool) (o : BitVec 24) : Statement (.br m o) := fun _ h hw => by cases h; exact (decode_gb24 _ _ _ rfl).trans rfl
theorem call (m : Bool) (o : BitVec 24) : Statement (.call m o) := fun _ h hw => by cases h; exact (decode_gb24 _ _ _ rfl).trans rfl
theorem bz (m : Bool) (a : Reg) (o : BitVec 17) : Statement (.bz m a o) := fun _ h hw => by cases h; exact (decode_gb17 _ _ _ _ rfl).trans rfl
theorem bnz (m : Bool) (a : Reg) (o : BitVec 17) : Statement (.bnz m a o) := fun _ h hw => by cases h; exact (decode_gb17 _ _ _ _ rfl).trans rfl
theorem bmz (m : Bool) (a : Reg) (o : BitVec 17) : Statement (.bmz m a o) := fun _ h hw => by cases h; exact (decode_gb17 _ _ _ _ rfl).trans rfl
theorem bmnz (m : Bool) (a : Reg) (o : BitVec 17) : Statement (.bmnz m a o) := fun _ h hw => by cases h; exact (decode_gb17 _ _ _ _ rfl).trans rfl
theorem jr (m : Bool) (a : Reg) : Statement (.jr m a) := fun _ h hw => by cases h; exact (decode_gr _ _ _ _ _ _ rfl).trans rfl
theorem jalr (m : Bool) (d a : Reg) : Statement (.jalr m d a) := fun _ h hw => by cases h; exact (decode_gr _ _ _ _ _ _ rfl).trans rfl
theorem sld (m : Bool) (d a : Reg) (g : BitVec 3) (s : Size) (i : BitVec 4) : Statement (.sld m d a g s i) := fun _ h hw => by cases h; exact (decode_gim _ _ _ _ _ _ _ rfl).trans rfl
theorem slds (m : Bool) (d a : Reg) (g : BitVec 3) (s : Size) (i : BitVec 4) : Statement (.slds m d a g s i) := fun _ h hw => by cases h; exact (decode_gim _ _ _ _ _ _ _ rfl).trans (sizeUpTo_ok hw)
theorem sst (m : Bool) (d a : Reg) (g : BitVec 3) (s : Size) (i : BitVec 4) : Statement (.sst m d a g s i) := fun _ h hw => by cases h; exact (decode_gim _ _ _ _ _ _ _ rfl).trans rfl
theorem satomAdd (m : Bool) (d a : Reg) (g : BitVec 3) (s : Size) : Statement (.satomAdd m d a g s) := fun _ h hw => by cases h; exact (decode_gim _ _ _ _ _ _ _ rfl).trans (opSize_ok hw)
theorem satomSub (m : Bool) (d a : Reg) (g : BitVec 3) (s : Size) : Statement (.satomSub m d a g s) := fun _ h hw => by cases h; exact (decode_gim _ _ _ _ _ _ _ rfl).trans (opSize_ok hw)
theorem satomMinI (m : Bool) (d a : Reg) (g : BitVec 3) (s : Size) : Statement (.satomMinI m d a g s) := fun _ h hw => by cases h; exact (decode_gim _ _ _ _ _ _ _ rfl).trans (opSize_ok hw)
theorem satomMaxI (m : Bool) (d a : Reg) (g : BitVec 3) (s : Size) : Statement (.satomMaxI m d a g s) := fun _ h hw => by cases h; exact (decode_gim _ _ _ _ _ _ _ rfl).trans (opSize_ok hw)
theorem satomMinN (m : Bool) (d a : Reg) (g : BitVec 3) (s : Size) : Statement (.satomMinN m d a g s) := fun _ h hw => by cases h; exact (decode_gim _ _ _ _ _ _ _ rfl).trans (opSize_ok hw)
theorem satomMaxN (m : Bool) (d a : Reg) (g : BitVec 3) (s : Size) : Statement (.satomMaxN m d a g s) := fun _ h hw => by cases h; exact (decode_gim _ _ _ _ _ _ _ rfl).trans (opSize_ok hw)
theorem satomAnd (m : Bool) (d a : Reg) (g : BitVec 3) (s : Size) : Statement (.satomAnd m d a g s) := fun _ h hw => by cases h; exact (decode_gim _ _ _ _ _ _ _ rfl).trans (opSize_ok hw)
theorem satomOr (m : Bool) (d a : Reg) (g : BitVec 3) (s : Size) : Statement (.satomOr m d a g s) := fun _ h hw => by cases h; exact (decode_gim _ _ _ _ _ _ _ rfl).trans (opSize_ok hw)
theorem satomXor (m : Bool) (d a : Reg) (g : BitVec 3) (s : Size) : Statement (.satomXor m d a g s) := fun _ h hw => by cases h; exact (decode_gim _ _ _ _ _ _ _ rfl).trans (opSize_ok hw)
theorem satomXchg (m : Bool) (d a : Reg) (g : BitVec 3) (s : Size) : Statement (.satomXchg m d a g s) := fun _ h hw => by cases h; exact (decode_gim _ _ _ _ _ _ _ rfl).trans (opSize_ok hw)
theorem satomCas (m : Bool) (d a : Reg) (g : BitVec 3) (s : Size) : Statement (.satomCas m d a g s) := fun _ h hw => by cases h; exact (decode_gim _ _ _ _ _ _ _ rfl).trans (opSize_ok hw)
theorem satomFadd (m : Bool) (d a : Reg) (g : BitVec 3) (s : Size) : Statement (.satomFadd m d a g s) := fun _ h hw => by cases h; exact (decode_gim _ _ _ _ _ _ _ rfl).trans (opSize_ok hw)
theorem satomFmin (m : Bool) (d a : Reg) (g : BitVec 3) (s : Size) : Statement (.satomFmin m d a g s) := fun _ h hw => by cases h; exact (decode_gim _ _ _ _ _ _ _ rfl).trans (opSize_ok hw)
theorem satomFmax (m : Bool) (d a : Reg) (g : BitVec 3) (s : Size) : Statement (.satomFmax m d a g s) := fun _ h hw => by cases h; exact (decode_gim _ _ _ _ _ _ _ rfl).trans (opSize_ok hw)
theorem satomAddBf16x2 (m : Bool) (d a : Reg) (g : BitVec 3) (s : Size) : Statement (.satomAddBf16x2 m d a g s) := fun _ h hw => by cases h; exact (decode_gim _ _ _ _ _ _ _ rfl).trans (opSize_ok hw)
theorem hflush (m : Bool) (g : BitVec 3) (a b : Reg) : Statement (.hflush m g a b) := fun _ h _ => by
  cases h
  refine (decode_gr _ _ _ _ _ _ rfl).trans ?_
  exact (fields_ok (by simp [small_hi])).trans (by simp [canonical])
theorem hinval (m : Bool) (g : BitVec 3) (a b : Reg) : Statement (.hinval m g a b) := fun _ h _ => by
  cases h
  refine (decode_gr _ _ _ _ _ _ rfl).trans ?_
  exact (fields_ok (by simp [small_hi])).trans (by simp [canonical])
theorem sysr (m : Bool) (r : BitVec 12) (s : Reg) : Statement (.sysr m r s) := fun _ h hw => by cases h; exact (decode_gs _ _ _ _).trans rfl
theorem sysw (m : Bool) (r : BitVec 12) (s : Reg) : Statement (.sysw m r s) := fun _ h hw => by
  cases h
  refine (decode_gs _ _ _ _).trans (congrArg Except.ok ?_)
  have h2 : ownRow r = false := by simpa [Instr.wellFormed] using hw
  unfold ownRow at h2
  unfold syswInstr
  split at h2 <;> simp_all [canonical]
theorem trap (m : Bool) (a : Reg) : Statement (.trap m a) := fun _ h hw => by cases h; exact (decode_gr _ _ _ _ _ _ rfl).trans rfl
theorem tretResume (m : Bool) (a : Reg) : Statement (.tretResume m a) := fun _ h hw => by cases h; exact (decode_gr _ _ _ _ _ _ rfl).trans rfl
theorem tretEndReturn (m : Bool) (a : Reg) : Statement (.tretEndReturn m a) := fun _ h hw => by cases h; exact (decode_gr _ _ _ _ _ _ rfl).trans rfl
theorem tretEndDiscard (m : Bool) (a : Reg) : Statement (.tretEndDiscard m a) := fun _ h hw => by cases h; exact (decode_gr _ _ _ _ _ _ rfl).trans rfl
theorem brk (m : Bool) : Statement (.brk m) := fun _ h hw => by cases h; exact (decode_gr _ _ _ _ _ _ rfl).trans rfl
theorem segld (m : Bool) (n : BitVec 3) (a : Reg) (g : BitVec 3) : Statement (.segld m n a g) := fun _ h _ => by
  cases h
  refine (decode_gr _ _ _ _ _ _ rfl).trans ?_
  exact (fields_ok (by simp [small_hi])).trans (by simp [canonical])
theorem tlbinv (m : Bool) (a b : Reg) : Statement (.tlbinv m a b) := fun _ h hw => by cases h; exact (decode_gr _ _ _ _ _ _ rfl).trans rfl
theorem tlbsync (m : Bool) : Statement (.tlbsync m) := fun _ h hw => by cases h; exact (decode_gr _ _ _ _ _ _ rfl).trans rfl
theorem ctxsave (m : Bool) (d a b : Reg) : Statement (.ctxsave m d a b) := fun _ h hw => by cases h; exact (decode_gr _ _ _ _ _ _ rfl).trans rfl
theorem ctxrest (m : Bool) (d a b : Reg) : Statement (.ctxrest m d a b) := fun _ h hw => by cases h; exact (decode_gr _ _ _ _ _ _ rfl).trans rfl
theorem cpy (m : Bool) (q : BitVec 2) (k : BitVec 3) (a b c : Reg) : Statement (.cpy m q k a b c) := fun _ h _ => by
  cases h
  rcases two_bits q with rfl | rfl | rfl | rfl <;> exact (decode_gx _ _ _ _ _ _ rfl).trans rfl
theorem cpyMc (m : Bool) (q : BitVec 2) (k : BitVec 3) (a b c : Reg) : Statement (.cpyMc m q k a b c) := fun _ h _ => by
  cases h
  rcases two_bits q with rfl | rfl | rfl | rfl <;> exact (decode_gx _ _ _ _ _ _ rfl).trans rfl
theorem cpyRow (m : Bool) (k : BitVec 3) (a b : Reg) (q : BitVec 2) : Statement (.cpyRow m k a b q) := fun _ h _ => by
  cases h
  refine (decode_gx _ _ _ _ _ _ rfl).trans ?_
  exact (fields_ok (by simp [small_hi])).trans (by simp [canonical])
theorem cpyClose (m : Bool) (k : BitVec 3) (q : BitVec 2) : Statement (.cpyClose m k q) := fun _ h _ => by
  cases h
  refine (decode_gx _ _ _ _ _ _ rfl).trans ?_
  exact (fields_ok (by simp [small_hi])).trans (by simp [canonical])
theorem kwait (m : Bool) (k : BitVec 8) : Statement (.kwait m k) := fun _ h _ => by
  cases h
  refine (decode_gi _ _ _ _ _ rfl).trans ?_
  have h9 : (k.setWidth 10).getLsbD 9 = false := by simp
  simp [decodeGI, h9, fields, small_hi, canonical]
theorem kwaitObj (m : Bool) (d a : Reg) (g : BitVec 3) : Statement (.kwaitObj m d a g) := fun _ h _ => by
  cases h
  rcases three_bits g with rfl | rfl | rfl | rfl | rfl | rfl | rfl | rfl <;> exact (decode_gi _ _ _ _ _ rfl).trans rfl
theorem qfence (m : Bool) (k : BitVec 3) (q : BitVec 4) : Statement (.qfence m k q) := fun _ h _ => by
  cases h
  refine (decode_gi _ _ _ _ _ rfl).trans ?_
  exact (fields_ok (by simp [small_hi])).trans (by simp [canonical])
theorem mcready (m : Bool) (d a b : Reg) : Statement (.mcready m d a b) := fun _ h hw => by cases h; exact (decode_gr _ _ _ _ _ _ rfl).trans rfl
theorem preserve (m : Bool) (d a b : Reg) : Statement (.preserve m d a b) := fun _ h hw => by cases h; exact (decode_gr _ _ _ _ _ _ rfl).trans rfl
theorem pcommit (m : Bool) (b : Reg) : Statement (.pcommit m b) := fun _ h hw => by cases h; exact (decode_gr _ _ _ _ _ _ rfl).trans rfl
theorem pclaim (m : Bool) (d a b : Reg) : Statement (.pclaim m d a b) := fun _ h hw => by cases h; exact (decode_gr _ _ _ _ _ _ rfl).trans rfl
theorem prelease (m : Bool) (b : Reg) : Statement (.prelease m b) := fun _ h hw => by cases h; exact (decode_gr _ _ _ _ _ _ rfl).trans rfl
theorem pquery (m : Bool) (d a : Reg) : Statement (.pquery m d a) := fun _ h hw => by cases h; exact (decode_gr _ _ _ _ _ _ rfl).trans rfl
theorem send (m : Bool) (a b : Reg) : Statement (.send m a b) := fun _ h hw => by cases h; exact (decode_gr _ _ _ _ _ _ rfl).trans rfl
theorem sendw (m : Bool) (d a b : Reg) : Statement (.sendw m d a b) := fun _ h hw => by cases h; exact (decode_gr _ _ _ _ _ _ rfl).trans rfl
theorem pportq (m : Bool) (d a : Reg) : Statement (.pportq m d a) := fun _ h hw => by cases h; exact (decode_gr _ _ _ _ _ _ rfl).trans rfl
theorem jen (m : Bool) (a : Reg) : Statement (.jen m a) := fun _ h hw => by cases h; exact (decode_gr _ _ _ _ _ _ rfl).trans rfl
theorem jdis (m : Bool) (a : Reg) : Statement (.jdis m a) := fun _ h hw => by cases h; exact (decode_gr _ _ _ _ _ _ rfl).trans rfl
theorem barArr (m : Bool) (g : BitVec 3) (a b : Reg) : Statement (.barArr m g a b) := fun _ h _ => by
  cases h
  refine (decode_gr _ _ _ _ _ _ rfl).trans ?_
  exact (fields_ok (by simp [small_hi])).trans (by simp [canonical])
theorem barWait (m : Bool) (g : BitVec 3) (a b : Reg) : Statement (.barWait m g a b) := fun _ h _ => by
  cases h
  refine (decode_gr _ _ _ _ _ _ rfl).trans ?_
  exact (fields_ok (by simp [small_hi])).trans (by simp [canonical])
theorem barArw (m : Bool) (g : BitVec 3) (a : Reg) : Statement (.barArw m g a) := fun _ h _ => by
  cases h
  refine (decode_gr _ _ _ _ _ _ rfl).trans ?_
  exact (fields_ok (by simp [small_hi])).trans (by simp [canonical])
theorem abarArr (m : Bool) (d : Reg) (n : BitVec 5) : Statement (.abarArr m d n) := fun _ h _ => by
  cases h
  refine (decode_gr _ _ _ _ _ _ rfl).trans ?_
  exact (fields_ok (by simp [small_hi])).trans (by simp [canonical])
theorem abarWait (m : Bool) (n : BitVec 5) (b : Reg) : Statement (.abarWait m n b) := fun _ h _ => by
  cases h
  refine (decode_gr _ _ _ _ _ _ rfl).trans ?_
  exact (fields_ok (by simp [small_hi])).trans (by simp [canonical])
theorem abarTest (m : Bool) (d : Reg) (n : BitVec 5) (b : Reg) : Statement (.abarTest m d n b) := fun _ h _ => by
  cases h
  refine (decode_gr _ _ _ _ _ _ rfl).trans ?_
  exact (fields_ok (by simp [small_hi])).trans (by simp [canonical])
theorem mma (m : Bool) (t : BitVec 3) (a b c : Reg) : Statement (.mma m t a b c) := fun _ h hw => by cases h; exact (decode_gx _ _ _ _ _ _ rfl).trans rfl
theorem mmaSp (m : Bool) (t : BitVec 3) (a b c : Reg) : Statement (.mmaSp m t a b c) := fun _ h hw => by cases h; exact (decode_gx _ _ _ _ _ _ rfl).trans rfl
theorem mzero (m : Bool) (t : BitVec 3) : Statement (.mzero m t) := fun _ h hw => by cases h; exact (decode_gx _ _ _ _ _ _ rfl).trans rfl
theorem mrows (m : Bool) (t : BitVec 3) : Statement (.mrows m t) := fun _ h hw => by cases h; exact (decode_gx _ _ _ _ _ _ rfl).trans rfl
theorem mldacc (m : Bool) (t : BitVec 3) (a : Reg) : Statement (.mldacc m t a) := fun _ h hw => by cases h; exact (decode_gx _ _ _ _ _ _ rfl).trans rfl
theorem mstacc (m : Bool) (t : BitVec 3) (a b : Reg) : Statement (.mstacc m t a b) := fun _ h hw => by cases h; exact (decode_gx _ _ _ _ _ _ rfl).trans rfl
theorem mvm (m : Bool) (k : BitVec 3) (a b c : Reg) : Statement (.mvm m k a b c) := fun _ h hw => by cases h; exact (decode_gx _ _ _ _ _ _ rfl).trans rfl
theorem planLd (m : Bool) (d a : Reg) (g : BitVec 3) : Statement (.planLd m d a g) := fun _ h _ => by
  cases h
  refine (decode_gr _ _ _ _ _ _ rfl).trans ?_
  exact (fields_ok (by simp [small_hi])).trans (by simp [canonical])
theorem planGoStart (m : Bool) (d a b : Reg) : Statement (.planGoStart m d a b) := fun _ h hw => by cases h; exact (decode_gr _ _ _ _ _ _ rfl).trans rfl
theorem planGoDrainFinish (m : Bool) (d a b : Reg) : Statement (.planGoDrainFinish m d a b) := fun _ h hw => by cases h; exact (decode_gr _ _ _ _ _ _ rfl).trans rfl
theorem planGoDrainDiscard (m : Bool) (d a b : Reg) : Statement (.planGoDrainDiscard m d a b) := fun _ h hw => by cases h; exact (decode_gr _ _ _ _ _ _ rfl).trans rfl
theorem planGoRemove (m : Bool) (d a b : Reg) : Statement (.planGoRemove m d a b) := fun _ h hw => by cases h; exact (decode_gr _ _ _ _ _ _ rfl).trans rfl
theorem spawn (m : Bool) (a b : Reg) : Statement (.spawn m a b) := fun _ h hw => by cases h; exact (decode_gr _ _ _ _ _ _ rfl).trans rfl
theorem pvalloc (m : Bool) (d a b : Reg) : Statement (.pvalloc m d a b) := fun _ h hw => by cases h; exact (decode_gr _ _ _ _ _ _ rfl).trans rfl
theorem pvfree (m : Bool) (d a : Reg) : Statement (.pvfree m d a) := fun _ h hw => by cases h; exact (decode_gr _ _ _ _ _ _ rfl).trans rfl
theorem pvq (m : Bool) (d a : Reg) : Statement (.pvq m d a) := fun _ h hw => by cases h; exact (decode_gr _ _ _ _ _ _ rfl).trans rfl
theorem loadResultReturn (gid n k : Nat) : Statement (.loadResultReturn gid n k) := fun _ h _ => by cases h
theorem storePerformed (gid : Nat) : Statement (.storePerformed gid) := fun _ h _ => by cases h
theorem retryHintExpiry (gid : Nat) : Statement (.retryHintExpiry gid) := fun _ h _ => by cases h
theorem sliceRedirect (gid : Nat) : Statement (.sliceRedirect gid) := fun _ h _ => by cases h
theorem sliceRetire (d slices heirs : Nat) : Statement (.sliceRetire d slices heirs) := fun _ h _ => by cases h
theorem sliceStubRemove (d : Nat) : Statement (.sliceStubRemove d) := fun _ h _ => by cases h
theorem orangeryRefreshAdvance : Statement (.orangeryRefreshAdvance) := fun _ h _ => by cases h
theorem tlbsyncComplete (gid : Nat) : Statement (.tlbsyncComplete gid) := fun _ h _ => by cases h
theorem hostSyncPerformed (gid : Nat) : Statement (.hostSyncPerformed gid) := fun _ h _ => by cases h
theorem hostBelvedereWrite (off len value : Nat) : Statement (.hostBelvedereWrite off len value) := fun _ h _ => by cases h
theorem hostBelvedereRead (off len : Nat) : Statement (.hostBelvedereRead off len) := fun _ h _ => by cases h
theorem atomicRequestAtHome (gid : Nat) : Statement (.atomicRequestAtHome gid) := fun _ h _ => by cases h
theorem atomicReply (gid n k : Nat) : Statement (.atomicReply gid n k) := fun _ h _ => by cases h
theorem barrierWake (gid : Nat) : Statement (.barrierWake gid) := fun _ h _ => by cases h
theorem arborRelease (h n : Nat) : Statement (.arborRelease h n) := fun _ h _ => by cases h
theorem copyEntryStart (core q : Nat) : Statement (.copyEntryStart core q) := fun _ h _ => by cases h
theorem copyPiece (core q off : Nat) : Statement (.copyPiece core q off) := fun _ h _ => by cases h
theorem copyEntryComplete (core q : Nat) : Statement (.copyEntryComplete core q) := fun _ h _ => by cases h
theorem kwaitObjWake (gid : Nat) : Statement (.kwaitObjWake gid) := fun _ h _ => by cases h
theorem fenceEntryHead (core q : Nat) : Statement (.fenceEntryHead core q) := fun _ h _ => by cases h
theorem multicastSort (core q : Nat) : Statement (.multicastSort core q) := fun _ h _ => by cases h
theorem multicastResort (core q : Nat) : Statement (.multicastResort core q) := fun _ h _ => by cases h
theorem multicastAck (core q i : Nat) : Statement (.multicastAck core q i) := fun _ h _ => by cases h
theorem holdingBufferDrain (cl n off : Nat) : Statement (.holdingBufferDrain cl n off) := fun _ h _ => by cases h
theorem bulkStreamClose (core q : Nat) : Statement (.bulkStreamClose core q) := fun _ h _ => by cases h
theorem bulkStreamTimeout (core q : Nat) : Statement (.bulkStreamTimeout core q) := fun _ h _ => by cases h
theorem pipeRefillStart (h n : Nat) : Statement (.pipeRefillStart h n) := fun _ h _ => by cases h
theorem pipeRefillComplete (h n : Nat) : Statement (.pipeRefillComplete h n) := fun _ h _ => by cases h
theorem preserveUnblock (gid : Nat) : Statement (.preserveUnblock gid) := fun _ h _ => by cases h
theorem pipeHeadRise (d : Nat) : Statement (.pipeHeadRise d) := fun _ h _ => by cases h
theorem messageAdmission (gid : Nat) : Statement (.messageAdmission gid) := fun _ h _ => by cases h
theorem waiterAdmission (d : Nat) : Statement (.waiterAdmission d) := fun _ h _ => by cases h
theorem messageReturn (task : Nat) : Statement (.messageReturn task) := fun _ h _ => by cases h
theorem runQueueEntryFree (d : Nat) : Statement (.runQueueEntryFree d) := fun _ h _ => by cases h
theorem taskRecordEntry (d : Nat) : Statement (.taskRecordEntry d) := fun _ h _ => by cases h
theorem sendwComplete (gid : Nat) : Statement (.sendwComplete gid) := fun _ h _ => by cases h
theorem hostDoorbellWrite (off len value : Nat) : Statement (.hostDoorbellWrite off len value) := fun _ h _ => by cases h
theorem hostDoorbellRead (off : Nat) : Statement (.hostDoorbellRead off) := fun _ h _ => by cases h
theorem faultEventAdmit (h : Nat) : Statement (.faultEventAdmit h) := fun _ h _ => by cases h
theorem taskDispatch (core : Nat) : Statement (.taskDispatch core) := fun _ h _ => by cases h
theorem taskStart (task : Nat) : Statement (.taskStart task) := fun _ h _ => by cases h
theorem groupExitDrained (gid : Nat) : Statement (.groupExitDrained gid) := fun _ h _ => by cases h
theorem queueOverflow (core : Nat) : Statement (.queueOverflow core) := fun _ h _ => by cases h
theorem queueUnderflow (core : Nat) : Statement (.queueUnderflow core) := fun _ h _ => by cases h
theorem priorityRecompute (d : Nat) : Statement (.priorityRecompute d) := fun _ h _ => by cases h
theorem preemptTick (d : Nat) : Statement (.preemptTick d) := fun _ h _ => by cases h
theorem rebalanceTick (h d : Nat) : Statement (.rebalanceTick h d) := fun _ h _ => by cases h
theorem coreMoveLoad (core n : Nat) : Statement (.coreMoveLoad core n) := fun _ h _ => by cases h
theorem deadlockDetect (h : Nat) : Statement (.deadlockDetect h) := fun _ h _ => by cases h
theorem drainQuiescence (h : Nat) : Statement (.drainQuiescence h) := fun _ h _ => by cases h
theorem gangStateObserve (gid : Nat) : Statement (.gangStateObserve gid) := fun _ h _ => by cases h
theorem gangTimeout (gid : Nat) : Statement (.gangTimeout gid) := fun _ h _ => by cases h
theorem flitReceive (p seq vc ack : Nat) (nak : Bool) (cvc credit rest fwd : Nat) :
    Statement (.flitReceive p seq vc ack nak cvc credit rest fwd) := fun _ h _ => by cases h
theorem idleFlit (p : Nat) : Statement (.idleFlit p) := fun _ h _ => by cases h
theorem retrainComplete (p : Nat) : Statement (.retrainComplete p) := fun _ h _ => by cases h
theorem retrainLimitExpiry (p : Nat) : Statement (.retrainLimitExpiry p) := fun _ h _ => by cases h
theorem retrainBucketDecay (p : Nat) : Statement (.retrainBucketDecay p) := fun _ h _ => by cases h
theorem forwardStallRelease (p vc : Nat) : Statement (.forwardStallRelease p vc) := fun _ h _ => by cases h
theorem linkSilenceTimeout (p : Nat) : Statement (.linkSilenceTimeout p) := fun _ h _ => by cases h
theorem fatalErrorNotice (sw : Nat) : Statement (.fatalErrorNotice sw) := fun _ h _ => by cases h
theorem portDownNotice (dev sw : Nat) : Statement (.portDownNotice dev sw) := fun _ h _ => by cases h
theorem matrixCommandStart (task : Nat) : Statement (.matrixCommandStart task) := fun _ h _ => by cases h
theorem operandFetchComplete (core : Nat) : Statement (.operandFetchComplete core) := fun _ h _ => by cases h
theorem multiplyStart (task : Nat) : Statement (.multiplyStart task) := fun _ h _ => by cases h
theorem multiplyComplete (task : Nat) : Statement (.multiplyComplete task) := fun _ h _ => by cases h
theorem mrowsRowEnter (task : Nat) : Statement (.mrowsRowEnter task) := fun _ h _ => by cases h
theorem mvmComplete (op : Nat) : Statement (.mvmComplete op) := fun _ h _ => by cases h
theorem trapEntry (gid : Nat) : Statement (.trapEntry gid) := fun _ h _ => by cases h
theorem stepBlockTimeout (gid : Nat) : Statement (.stepBlockTimeout gid) := fun _ h _ => by cases h
theorem srseedWrite (m : Bool) (s : Reg) : Statement (.srseedWrite m s) := fun _ h hw => by cases h; exact (decode_gs _ _ _ _).trans rfl
theorem keyLoad (m : Bool) (s : Reg) : Statement (.keyLoad m s) := fun _ h hw => by cases h; exact (decode_gs _ _ _ _).trans rfl
theorem keyClear (m : Bool) (s : Reg) : Statement (.keyClear m s) := fun _ h hw => by cases h; exact (decode_gs _ _ _ _).trans rfl
theorem keyOpDone : Statement (.keyOpDone) := fun _ h _ => by cases h
theorem measExtend (m : Bool) (s : Reg) : Statement (.measExtend m s) := fun _ h hw => by cases h; exact (decode_gs _ _ _ _).trans rfl
theorem measExtendDone : Statement (.measExtendDone) := fun _ h _ => by cases h
theorem attestStart (m : Bool) (s : Reg) : Statement (.attestStart m s) := fun _ h hw => by cases h; exact (decode_gs _ _ _ _).trans rfl
theorem attestDone (ok : Nat) : Statement (.attestDone ok) := fun _ h _ => by cases h
theorem pavQuotaWrite (m : Bool) (s : Reg) : Statement (.pavQuotaWrite m s) := fun _ h hw => by cases h; exact (decode_gs _ _ _ _).trans rfl
theorem pavQuotaDone : Statement (.pavQuotaDone) := fun _ h _ => by cases h
theorem fabLostClear (m : Bool) (s : Reg) : Statement (.fabLostClear m s) := fun _ h hw => by cases h; exact (decode_gs _ _ _ _).trans rfl
theorem devLostClear (m h : Bool) (s : Reg) : Statement (.devLostClear m h s) := fun _ h _ => by
  cases h
  cases h <;> exact (decode_gs _ _ _ _).trans rfl
theorem controlRegWrite (gid : Nat) : Statement (.controlRegWrite gid) := fun _ h _ => by cases h
theorem railEnable (gid : Nat) : Statement (.railEnable gid) := fun _ h _ => by cases h
theorem railGood (d r : Nat) : Statement (.railGood d r) := fun _ h _ => by cases h
theorem railLimitExpiry (d r : Nat) : Statement (.railLimitExpiry d r) := fun _ h _ => by cases h
theorem cpRun (gid : Nat) : Statement (.cpRun gid) := fun _ h _ => by cases h
theorem cpHaltqRead (gid : Nat) : Statement (.cpHaltqRead gid) := fun _ h _ => by cases h
theorem hbmInit (gid : Nat) : Statement (.hbmInit gid) := fun _ h _ => by cases h
theorem hbmInitDone (d : Nat) : Statement (.hbmInitDone d) := fun _ h _ => by cases h
theorem hbmTrain (gid : Nat) : Statement (.hbmTrain gid) := fun _ h _ => by cases h
theorem hbmTrainDone (d lanes : Nat) : Statement (.hbmTrainDone d lanes) := fun _ h _ => by cases h
theorem hbmTrainLimitExpiry (d : Nat) : Statement (.hbmTrainLimitExpiry d) := fun _ h _ => by cases h
theorem hbmServe (gid : Nat) : Statement (.hbmServe gid) := fun _ h _ => by cases h
theorem hbmMrGo (gid : Nat) : Statement (.hbmMrGo gid) := fun _ h _ => by cases h
theorem hbmMrDone (d : Nat) : Statement (.hbmMrDone d) := fun _ h _ => by cases h
theorem ucieTrain (gid : Nat) : Statement (.ucieTrain gid) := fun _ h _ => by cases h
theorem ucieTrainDone (d e : Nat) : Statement (.ucieTrainDone d e) := fun _ h _ => by cases h
theorem ucieTrainLimitExpiry (d e : Nat) : Statement (.ucieTrainLimitExpiry d e) := fun _ h _ => by cases h
theorem pcieTrain (gid : Nat) : Statement (.pcieTrain gid) := fun _ h _ => by cases h
theorem pcieTrainDone : Statement (.pcieTrainDone) := fun _ h _ => by cases h
theorem pcieTrainLimitExpiry : Statement (.pcieTrainLimitExpiry) := fun _ h _ => by cases h
theorem cxlEnable (gid : Nat) : Statement (.cxlEnable gid) := fun _ h _ => by cases h
theorem ualTrain (gid : Nat) : Statement (.ualTrain gid) := fun _ h _ => by cases h
theorem ualTrainDone (p peer : Nat) : Statement (.ualTrainDone p peer) := fun _ h _ => by cases h
theorem ualTrainLimitExpiry (p : Nat) : Statement (.ualTrainLimitExpiry p) := fun _ h _ => by cases h
theorem ualServe (gid : Nat) : Statement (.ualServe gid) := fun _ h _ => by cases h
theorem arbTestGo (gid : Nat) : Statement (.arbTestGo gid) := fun _ h _ => by cases h
theorem arbTestDone (bad : Nat) : Statement (.arbTestDone bad) := fun _ h _ => by cases h
theorem coreTestGo (gid : Nat) : Statement (.coreTestGo gid) := fun _ h _ => by cases h
theorem coreTestDone (d c mask : Nat) : Statement (.coreTestDone d c mask) := fun _ h _ => by cases h
theorem orgTestGo (gid : Nat) : Statement (.orgTestGo gid) := fun _ h _ => by cases h
theorem orgTestDone (d banks : Nat) : Statement (.orgTestDone d banks) := fun _ h _ => by cases h
theorem flashProgram (gid : Nat) : Statement (.flashProgram gid) := fun _ h _ => by cases h
theorem flashWordStored : Statement (.flashWordStored) := fun _ h _ => by cases h
theorem powerOn (rails failed : Nat) : Statement (.powerOn rails failed) := fun _ h _ => by cases h
theorem powerCapCheck (target : Nat) : Statement (.powerCapCheck target) := fun _ h _ => by cases h
theorem dieOvertemp (d temp : Nat) : Statement (.dieOvertemp d temp) := fun _ h _ => by cases h
theorem powerLoss : Statement (.powerLoss) := fun _ h _ => by cases h
theorem granuleZeroed (sw n : Nat) : Statement (.granuleZeroed sw n) := fun _ h _ => by cases h
theorem hostWriteCombineDrain (n : Nat) : Statement (.hostWriteCombineDrain n) := fun _ h _ => by cases h
theorem memberLostNotice (h dev : Nat) : Statement (.memberLostNotice h dev) := fun _ h _ => by cases h
theorem sliceAdd (d slice entries : Nat) : Statement (.sliceAdd d slice entries) := fun _ h _ => by cases h

end Sys2Proof.Laws.RoundTrip
end

