-- ==== Sys2Proof/Rules/Tables.lean ====
section
/-!
DEFINITION. Terms of the statements: the result tables of R79 to R82 and R106 to R109 as the spec writes them, on
integers, apart from the machine's own arithmetic; and what it means that a group has issued an instruction completely.
-/

namespace Sys2Proof.Rules

open Sys2Proof.Machine

/-- Si: a pattern read as a two's-complement integer (R77, R106). -/
def si {w : Nat} (x : BitVec w) : Int := if x.getLsbD (w - 1) then (x.toNat : Int) - (2 ^ w : Nat) else x.toNat

/-- A pattern read as an unsigned integer. -/
def un {w : Nat} (x : BitVec w) : Int := x.toNat

/-- r[w-1:0]: an integer as it is stored (R77). -/
def low (w : Nat) (r : Int) : BitVec w := BitVec.ofInt w r

/-- Clamp(x, lo, hi) (R77). -/
def clamp (x lo hi : Int) : Int := max lo (min x hi)

/-- The operations of the tables of R79 and R106. -/
inductive Op where
  | add | sub | addsS | addsN | subsS | subsN | mul | mulhS | mulhN | divS | divN | remS | remN
  | and | or | xor | andn | shl | shr | sra | rol | minS | maxS | minN | maxN | abs | clz | popc | brev
  deriving DecidableEq, Repr

/-- r of the tables of R79 (w = 64) and R106 (w = 32). Shift counts are b[5:0] and b[4:0]. -/
def Op.result {w : Nat} (op : Op) (a b : BitVec w) : BitVec w :=
  let k := b.toNat % w
  match op with
  | .add => low w (un a + un b)
  | .sub => low w (un a - un b)
  | .addsS => low w (clamp (si a + si b) (-2 ^ (w - 1)) (2 ^ (w - 1) - 1))
  | .addsN => low w (clamp (un a + un b) 0 (2 ^ w - 1))
  | .subsS => low w (clamp (si a - si b) (-2 ^ (w - 1)) (2 ^ (w - 1) - 1))
  | .subsN => low w (clamp (un a - un b) 0 (2 ^ w - 1))
  | .mul => low w (un a * un b)
  | .mulhS => low w (si a * si b / 2 ^ w)
  | .mulhN => low w (un a * un b / 2 ^ w)
  | .divS => if un b = 0 then low w (2 ^ w - 1) else low w ((si a).tdiv (si b))
  | .divN => if un b = 0 then low w (2 ^ w - 1) else low w (un a / un b)
  | .remS => if un b = 0 then a else low w (si a - si b * (si a).tdiv (si b))
  | .remN => if un b = 0 then a else low w (un a - un b * (un a / un b))
  | .and => a &&& b
  | .or => a ||| b
  | .xor => a ^^^ b
  | .andn => a &&& ~~~b
  | .shl => low w (un a * 2 ^ k)
  | .shr => low w (un a / 2 ^ k)
  | .sra => low w (si a / 2 ^ k)
  | .rol => low w (un a * 2 ^ k + un a / 2 ^ (w - k))
  | .minS => if si a ≤ si b then a else b
  | .maxS => if si a ≤ si b then b else a
  | .minN => if un a ≤ un b then a else b
  | .maxN => if un a ≤ un b then b else a
  | .abs => low w (si a).natAbs
  | .clz => low w ((List.range w).takeWhile fun i => !a.getLsbD (w - 1 - i)).length
  | .popc => low w ((List.range w).countP fun i => a.getLsbD i)
  | .brev => a.reverse

/-- The conditions of R80 and R107: the first six between Si(a) and Si(b), the last four unsigned. -/
inductive Rel where
  | eq | ne | lt | le | gt | ge | lo | ls | hi | hs
  deriving DecidableEq, Repr

/-- Whether a condition holds (R80, R107). -/
def Rel.test {w : Nat} (c : Rel) (a b : BitVec w) : Bool :=
  match c with
  | .eq => decide (si a = si b)
  | .ne => decide (si a ≠ si b)
  | .lt => decide (si a < si b)
  | .le => decide (si a ≤ si b)
  | .gt => decide (si a > si b)
  | .ge => decide (si a ≥ si b)
  | .lo => decide (un a < un b)
  | .ls => decide (un a ≤ un b)
  | .hi => decide (un a > un b)
  | .hs => decide (un a ≥ un b)

/-- All ones or zero (R80). -/
def allOrNone (c : Bool) : Dword := if c then BitVec.allOnes 64 else 0

/-- A mask with bit t for thread t (R107). -/
def threadMask (p : Nat → Bool) : Mask := (BitVec.ofBoolListLE ((List.range 64).map p)).setWidth 64

/-- The machine with the group that issues replaced by `g`, which has issued its instruction completely: PC goes to
`pc`, INSTRET counts it (R348), a marker M parks the group while a variable-latency result is outstanding (R68), an armed
single step falls due (R356), and no word of it is held any more (R62). Everything else of the machine is as it was. -/
def finished (s : State) (m : Bool) (pc : Nat) (g : Group) : State :=
  let h : Group := { g with
    pc := pc % 2 ^ 64, instret := (g.instret + 1) % 2 ^ 64, parked := m && g.out.any Pending.result, wait := none
    word := none, target := none, reads := {}
    stepDue := g.stepArmed && decide (g.mode ≠ .control), stepSince := 0 }
  { s with groups := s.groups.put s.cur h }

/-- A machine in which the group that issues is there. -/
def Issuing (s : State) : Prop := s.groups.has s.cur = true

/-- A group that may issue a lane-set instruction naming these vector registers: no control processor's (R30), and every
register below the role budget (R21). -/
def LaneReady (s : State) (regs : List Reg) : Prop :=
  Issuing s ∧ s.me.mode ≠ .control ∧ ∀ r ∈ regs, r.toNat < s.me.budget

/-- The machine v after an instruction of its issuing group has issued completely and goes on at the next one. -/
def done (m : Bool) (v : State) : State := finished v m (v.me.pc + 4) v.me

/-- The machine with the group that issues blocked on `w` at its instruction, whose marker is m (R63). -/
def blocked (s : State) (m : Bool) (w : Wait) : State :=
  let h : Group := { s.me with
    wait := some w, waitMark := m, stepSince := if s.me.stepSince = 0 then s.cycle + 1 else s.me.stepSince }
  { s with groups := s.groups.put s.cur h }

/-- The active threads in ascending order. -/
def active (g : Group) : List Nat := (List.range 64).filter fun t => g.xm.getLsbD t

/-- A group with an instruction appended to those whose accesses or results are outstanding, in the order of issue. -/
def queued (g : Group) (p : Pending) : Group :=
  { g with out := g.out ++ [{ p with pc := g.pc, words := g.words, no := g.issueNo }], issueNo := g.issueNo + 1 }

/-- u is the state after what the issuing group's earlier instructions have still to do in memory is done, where all of it can
be done at once: an instruction that acts at once takes its place behind them (R159). -/
def Settles (s u : State) : Prop := s.canSettle s.cur = true ∧ u = s.performAll s.cur

/-- Fewer than 32 variable-latency results are outstanding (R71). -/
def HasRoom (s : State) : Prop := (s.me.out.filter Pending.result).length < 32

end Sys2Proof.Rules
end

