-- ==== Sys2Proof/Rules/Access.lean ====
section
/-!
DEFINITION. Terms of the statements: loads, stores, atomics and host synchronisation at issue (R85, R145, R149, R184 to
R191), and barriers (R194 to R200).
-/

namespace Sys2Proof.Rules

open Sys2Proof.Machine

/-- The segment an instruction names. -/
def segOf (s : State) (g : BitVec 3) : Segment := s.me.seg s.cur g.toNat

/-- Registers r and the following ones that hold a datum of n bytes are below the budget, and a group of more than one is
aligned (R35, R146). -/
def DatumReady (s : State) (r : Reg) (n : Nat) : Prop :=
  r.toNat % vregs n = 0 ∧ ∀ k, k < vregs n → r.toNat + k < s.me.budget

/-- A lane load at issue: R145. `P t` are the pieces that thread t's access makes where it passes the checks of R146. -/
inductive LaneLoad : Instr → Bool → Reg → Reg → BitVec 3 → Size → BitVec 4 → Bool → Prop where
  | vld (m : Bool) (d a : Reg) (g : BitVec 3) (z : Size) (e : BitVec 4) : LaneLoad (.vld m d a g z e) m d a g z e false
  | vlds (m : Bool) (d a : Reg) (g : BitVec 3) (z : Size) (e : BitVec 4) : LaneLoad (.vlds m d a g z e) m d a g z e true

/-- A scalar load at issue: R85. -/
inductive ScalarLoad : Instr → Bool → Reg → Reg → BitVec 3 → Size → BitVec 4 → Bool → Prop where
  | sld (m : Bool) (d a : Reg) (g : BitVec 3) (z : Size) (e : BitVec 4) : ScalarLoad (.sld m d a g z e) m d a g z e false
  | slds (m : Bool) (d a : Reg) (g : BitVec 3) (z : Size) (e : BitVec 4) : ScalarLoad (.slds m d a g z e) m d a g z e true

/-- The offset of thread t's access: Zext(V(va, t), 32) + e × n, exact (R145). -/
def laneOff (s : State) (a : Reg) (t n : Nat) (e : BitVec 4) : Int := un (s.me.getV a.toNat t) + si e * n

/-- The offset of a scalar access: (S(sa) + e × n) mod 2^64 (R85). -/
def scalarOff (s : State) (a : Reg) (n : Nat) (e : BitVec 4) : Int := (un (s.me.getS a.toNat) + si e * n) % 2 ^ 64

/-- Every active thread's access of n bytes passes the checks of R146, with these pieces. -/
def Checked (s : State) (g : BitVec 3) (need : Need) (off : Nat → Int) (n : Nat) (P : Nat → List Piece) : Prop :=
  ∀ t ∈ active s.me, s.checkAccess s.cur (s.asker s.me) g.toNat (segOf s g) need (some t) (off t) n = .ok (P t)

/-- The segment is no control processor's control space, whose registers are read and written whole (R366, R370). -/
def NoRegisters (s : State) (g : BitVec 3) : Prop := (segOf s g).space ≠ 10 ∧ (segOf s g).space ≠ 11

/-- A scalar access passes them. -/
def ScalarChecked (s : State) (g : BitVec 3) (need : Need) (off : Int) (n : Nat) (ps : List Piece) : Prop :=
  s.checkAccess s.cur (s.asker s.me) g.toNat (segOf s g) need none off n = .ok ps

/-- The bytes of the datum of n bytes in thread t's registers from r: little-endian words, cut to n (R35). -/
def laneBytes (s : State) (r : Reg) (t n : Nat) : List Byte :=
  ((List.range (vregs n)).flatMap fun k => leBytes 4 (s.me.getV (r.toNat + k) t).toNat).take n

/-- The bytes of the datum of n bytes in scalar registers from r (R85). -/
def scalarBytes (s : State) (r : Reg) (n : Nat) : List Byte :=
  (leBytes 8 (s.me.getS r.toNat).toNat ++ leBytes 8 (s.me.getS (r.toNat + 1)).toNat).take n

/-- The stores of a datum: each piece takes its own bytes. -/
def stores (bs : List Byte) (ps : List Piece) : List Access := ps.map fun p => .store p ((bs.drop p.pos).take p.len)

/-- The instruction has issued, and its accesses are outstanding; no byte of memory and no register has changed. -/
def QueuesAccess (i : Instr) (m : Bool) (s : State) (p : Pending) : Prop :=
  exec i s = .next (finished s m (s.me.pc + 4) (queued s.me { p with pc := s.me.pc }))
    ∧ ∀ a, (finished s m (s.me.pc + 4) (queued s.me { p with pc := s.me.pc })).byte a = s.byte a

/-- The lane atomics and reductions: their operation, and whether they return the old value (R188, R190). -/
inductive LaneAtomic : Instr → Bool → Reg → Reg → BitVec 3 → Size → AtomOp → Bool → Prop where
  | vatomAdd (m : Bool) (d a : Reg) (g : BitVec 3) (z : Size) : LaneAtomic (.vatomAdd m d a g z) m d a g z .add true
  | vatomSub (m : Bool) (d a : Reg) (g : BitVec 3) (z : Size) : LaneAtomic (.vatomSub m d a g z) m d a g z .sub true
  | vatomMinI (m : Bool) (d a : Reg) (g : BitVec 3) (z : Size) : LaneAtomic (.vatomMinI m d a g z) m d a g z .minS true
  | vatomMaxI (m : Bool) (d a : Reg) (g : BitVec 3) (z : Size) : LaneAtomic (.vatomMaxI m d a g z) m d a g z .maxS true
  | vatomMinN (m : Bool) (d a : Reg) (g : BitVec 3) (z : Size) : LaneAtomic (.vatomMinN m d a g z) m d a g z .minN true
  | vatomMaxN (m : Bool) (d a : Reg) (g : BitVec 3) (z : Size) : LaneAtomic (.vatomMaxN m d a g z) m d a g z .maxN true
  | vatomAnd (m : Bool) (d a : Reg) (g : BitVec 3) (z : Size) : LaneAtomic (.vatomAnd m d a g z) m d a g z .and true
  | vatomOr (m : Bool) (d a : Reg) (g : BitVec 3) (z : Size) : LaneAtomic (.vatomOr m d a g z) m d a g z .or true
  | vatomXor (m : Bool) (d a : Reg) (g : BitVec 3) (z : Size) : LaneAtomic (.vatomXor m d a g z) m d a g z .xor true
  | vatomXchg (m : Bool) (d a : Reg) (g : BitVec 3) (z : Size) : LaneAtomic (.vatomXchg m d a g z) m d a g z .xchg true
  | vatomCas (m : Bool) (d a : Reg) (g : BitVec 3) (z : Size) : LaneAtomic (.vatomCas m d a g z) m d a g z .cas true
  | vatomFadd (m : Bool) (d a : Reg) (g : BitVec 3) (z : Size) : LaneAtomic (.vatomFadd m d a g z) m d a g z .fadd true
  | vatomFmin (m : Bool) (d a : Reg) (g : BitVec 3) (z : Size) : LaneAtomic (.vatomFmin m d a g z) m d a g z .fmin true
  | vatomFmax (m : Bool) (d a : Reg) (g : BitVec 3) (z : Size) : LaneAtomic (.vatomFmax m d a g z) m d a g z .fmax true
  | vatomAddBf16x2 (m : Bool) (d a : Reg) (g : BitVec 3) (z : Size) : LaneAtomic (.vatomAddBf16x2 m d a g z) m d a g z .addBf16x2 true
  | vredAdd (m : Bool) (d a : Reg) (g : BitVec 3) (z : Size) : LaneAtomic (.vredAdd m d a g z) m d a g z .add false
  | vredSub (m : Bool) (d a : Reg) (g : BitVec 3) (z : Size) : LaneAtomic (.vredSub m d a g z) m d a g z .sub false
  | vredMinI (m : Bool) (d a : Reg) (g : BitVec 3) (z : Size) : LaneAtomic (.vredMinI m d a g z) m d a g z .minS false
  | vredMaxI (m : Bool) (d a : Reg) (g : BitVec 3) (z : Size) : LaneAtomic (.vredMaxI m d a g z) m d a g z .maxS false
  | vredMinN (m : Bool) (d a : Reg) (g : BitVec 3) (z : Size) : LaneAtomic (.vredMinN m d a g z) m d a g z .minN false
  | vredMaxN (m : Bool) (d a : Reg) (g : BitVec 3) (z : Size) : LaneAtomic (.vredMaxN m d a g z) m d a g z .maxN false
  | vredAnd (m : Bool) (d a : Reg) (g : BitVec 3) (z : Size) : LaneAtomic (.vredAnd m d a g z) m d a g z .and false
  | vredOr (m : Bool) (d a : Reg) (g : BitVec 3) (z : Size) : LaneAtomic (.vredOr m d a g z) m d a g z .or false
  | vredXor (m : Bool) (d a : Reg) (g : BitVec 3) (z : Size) : LaneAtomic (.vredXor m d a g z) m d a g z .xor false
  | vredFadd (m : Bool) (d a : Reg) (g : BitVec 3) (z : Size) : LaneAtomic (.vredFadd m d a g z) m d a g z .fadd false
  | vredFmin (m : Bool) (d a : Reg) (g : BitVec 3) (z : Size) : LaneAtomic (.vredFmin m d a g z) m d a g z .fmin false
  | vredFmax (m : Bool) (d a : Reg) (g : BitVec 3) (z : Size) : LaneAtomic (.vredFmax m d a g z) m d a g z .fmax false
  | vredAddBf16x2 (m : Bool) (d a : Reg) (g : BitVec 3) (z : Size) : LaneAtomic (.vredAddBf16x2 m d a g z) m d a g z .addBf16x2 false

/-- The scalar atomics (R190). -/
inductive ScalarAtomic : Instr → Bool → Reg → Reg → BitVec 3 → Size → AtomOp → Prop where
  | satomAdd (m : Bool) (d a : Reg) (g : BitVec 3) (z : Size) : ScalarAtomic (.satomAdd m d a g z) m d a g z .add
  | satomSub (m : Bool) (d a : Reg) (g : BitVec 3) (z : Size) : ScalarAtomic (.satomSub m d a g z) m d a g z .sub
  | satomMinI (m : Bool) (d a : Reg) (g : BitVec 3) (z : Size) : ScalarAtomic (.satomMinI m d a g z) m d a g z .minS
  | satomMaxI (m : Bool) (d a : Reg) (g : BitVec 3) (z : Size) : ScalarAtomic (.satomMaxI m d a g z) m d a g z .maxS
  | satomMinN (m : Bool) (d a : Reg) (g : BitVec 3) (z : Size) : ScalarAtomic (.satomMinN m d a g z) m d a g z .minN
  | satomMaxN (m : Bool) (d a : Reg) (g : BitVec 3) (z : Size) : ScalarAtomic (.satomMaxN m d a g z) m d a g z .maxN
  | satomAnd (m : Bool) (d a : Reg) (g : BitVec 3) (z : Size) : ScalarAtomic (.satomAnd m d a g z) m d a g z .and
  | satomOr (m : Bool) (d a : Reg) (g : BitVec 3) (z : Size) : ScalarAtomic (.satomOr m d a g z) m d a g z .or
  | satomXor (m : Bool) (d a : Reg) (g : BitVec 3) (z : Size) : ScalarAtomic (.satomXor m d a g z) m d a g z .xor
  | satomXchg (m : Bool) (d a : Reg) (g : BitVec 3) (z : Size) : ScalarAtomic (.satomXchg m d a g z) m d a g z .xchg
  | satomCas (m : Bool) (d a : Reg) (g : BitVec 3) (z : Size) : ScalarAtomic (.satomCas m d a g z) m d a g z .cas
  | satomFadd (m : Bool) (d a : Reg) (g : BitVec 3) (z : Size) : ScalarAtomic (.satomFadd m d a g z) m d a g z .fadd
  | satomFmin (m : Bool) (d a : Reg) (g : BitVec 3) (z : Size) : ScalarAtomic (.satomFmin m d a g z) m d a g z .fmin
  | satomFmax (m : Bool) (d a : Reg) (g : BitVec 3) (z : Size) : ScalarAtomic (.satomFmax m d a g z) m d a g z .fmax
  | satomAddBf16x2 (m : Bool) (d a : Reg) (g : BitVec 3) (z : Size) : ScalarAtomic (.satomAddBf16x2 m d a g z) m d a g z .addBf16x2

/-- The registers of a lane atomic are in range and aligned as R188 says, `cas` with twice as many. -/
def AtomReady (s : State) (op : AtomOp) (d a : Reg) (n : Nat) : Prop :=
  let k := vregs n * (if op = .cas then 2 else 1)
  a.toNat < s.me.budget ∧ (n = 8 → d.toNat % k = 0) ∧ (op = .cas → d.toNat ≤ 126) ∧ ∀ j, j < k → d.toNat + j < s.me.budget

/-- Thread t's operands x and y (R188). -/
def atomXY (s : State) (d : Reg) (t n : Nat) : Nat × Nat :=
  (leNat (laneBytes s d t n), leNat (((List.range (vregs n)).flatMap fun k =>
    leBytes 4 (s.me.getV (d.toNat + vregs n + k) t).toNat).take n))

/-- The requests of a lane atomic (R184): one for each distinct target among the active threads, in the order of its lowest
thread, with the operands of all its threads in ascending order; P t are the pieces that thread t's n bytes lie in. -/
def requestsOf (s : State) (op : AtomOp) (d a : Reg) (g : BitVec 3) (n : Nat) (P : Nat → List Piece) : List Access :=
  let place (t : Nat) : Nat := s.target s.cur (segOf s g) t (s.me.getV a.toNat t).toNat
  let lowest (t : Nat) : Bool := (active s.me).all fun u => decide (t ≤ u) || decide (place u ≠ place t)
  ((active s.me).filter lowest).map fun t =>
    .atomic op n (P t) (((active s.me).filter fun u => place u = place t).map fun u => (u, (atomXY s d u n).1, (atomXY s d u n).2))

/-- `hflush` and `hinval`, and the access each makes (R149). -/
inductive HostSync : Instr → Bool → BitVec 3 → Reg → Reg → (List Nat → Access) → Prop where
  | hflush (m : Bool) (g : BitVec 3) (a b : Reg) : HostSync (.hflush m g a b) m g a b .hostFlush
  | hinval (m : Bool) (g : BitVec 3) (a b : Reg) : HostSync (.hinval m g a b) m g a b .hostInvalidate

/-- The virtual line addresses of a range of len bytes from x. -/
def linesOf (x len : Nat) : List Nat := (List.range ((x + len - 1) / 64 - x / 64 + 1)).map fun k => x / 64 * 64 + 64 * k

/-- A barrier word that passes the checks of R196: in scratchpad, at a multiple of 16, within limit and rights, readable,
its reserved bits zero, and for an arrival with one still expected. `x` is its place. -/
structure GoodBarrier (s : State) (g : BitVec 3) (a : Reg) (arrival : Bool) (x : Nat) : Prop where
  space : (segOf s g).space = 1
  aligned : (s.me.getS a.toNat).toNat % 16 = 0
  inside : (s.me.getS a.toNat).toNat + 16 ≤ (segOf s g).limit
  mayRead : (segOf s g).r = true
  mayWrite : arrival = true → (segOf s g).w = true
  place : x = scratchAddr (coreOfGid s.cur) ((segOf s g).base + (s.me.getS a.toNat).toNat)
  correct : ∀ p ∈ s.bad, p.1 < x ∨ x + 16 ≤ p.1
  upper : s.num x 8 < 2 ^ 48 ∧ s.num (x + 8) 8 = 0
  expected : arrival = true → s.num x 8 % 2 ^ 16 < s.num x 8 / 2 ^ 16 % 2 ^ 16

/-- A write of len bytes at a reaches a barrier word at x, or a byte-count object there, in the scratchpad (R195, R214). -/
def Reaches16 (a len x : Nat) : Prop := 2 ^ 40 ≤ a ∧ a < 2 ^ 41 ∧ x < a + len ∧ a < x + 16
def Reaches8 (a len x : Nat) : Prop := 2 ^ 40 ≤ a ∧ a < 2 ^ 41 ∧ x < a + len ∧ a < x + 8

/-- The barrier word at x, or the byte-count object, can be read and has its reserved bits zero (R194, R206). -/
def ReadableBarrier (s : State) (x : Nat) : Prop :=
  (∀ p ∈ s.bad, p.1 < x ∨ x + 16 ≤ p.1) ∧ s.num x 8 < 2 ^ 48 ∧ s.num (x + 8) 8 = 0
def ReadableObject (s : State) (x : Nat) : Prop := (∀ p ∈ s.bad, p.1 < x ∨ x + 8 ≤ p.1) ∧ s.num x 8 < 2 ^ 33

/-- PHASE of a barrier word (R194). -/
def phaseOf (s : State) (x : Nat) : Nat := s.num x 8 / 2 ^ 32 % 2 ^ 16

/-- Bytes 0 to 7 of a barrier word after an arrival (R195): the last expected one zeroes ARRIVED and steps PHASE. -/
def arrived (w : Nat) : Nat :=
  if w % 2 ^ 16 + 1 = w / 2 ^ 16 % 2 ^ 16 then w / 2 ^ 16 % 2 ^ 16 * 2 ^ 16 + (w / 2 ^ 32 + 1) % 2 ^ 16 * 2 ^ 32 else w + 1

/-- The machine with an arrival made at x. -/
def arrivedAt (s : State) (x : Nat) : State := s.writeNum x 8 (arrived (s.num x 8))

/-- A member entry of the group's plan for an Arbor number (R198): its local count. -/
def ArborMember (s : State) (n : BitVec 5) (count : Nat) : Prop :=
  ∃ p t e, s.plan? s.me.plan = some p ∧ s.task? s.me.task = some t ∧ e.count = count
    ∧ p.arbors.find? (fun e => e.number == n.toNat && bit e.stages t.stage) = some e

/-- A core's arrivals and phase of an Arbor number (R199). -/
def arborA (s : State) (n : BitVec 5) : Nat := (s.core (coreOfGid s.cur)).arborA.getD n.toNat 0
def arborP (s : State) (n : BitVec 5) : Nat := (s.core (coreOfGid s.cur)).arborP.getD n.toNat 0

/-- A result known at issue, to be written to S(d) later. -/
def sResult (s : State) (d : Reg) (v : Dword) : Group :=
  queued s.me { pc := s.me.pc, writes := [.s d.toNat v], result := true }

/-- What a group blocks on at a barrier word: its place, the phase, whether the group has arrived, and what names the word in a
fault (R195). -/
def barrierWait (u : State) (g : BitVec 3) (a : Reg) (x : Nat) (arrived : Bool) : Wait :=
  .barrier x (phaseOf u x) arrived g.toNat (u.me.getS a.toNat).toNat

/-- The barrier instructions (R195, R200): instruction, state before, state after. u is the state with the group's own
earlier accesses performed. An arrival returns the phase it found; a wait goes on at once where the phase has moved, and
blocks where it has not. -/
inductive BarrierRule : Instr → State → State → Prop where
  | barArr (s u v : State) (m : Bool) (g : BitVec 3) (a b : Reg) (x : Nat) : Issuing s → HasRoom s → Settles s u → HasRoom u →
      GoodBarrier u g a true x → v = arrivedAt u x →
      BarrierRule (.barArr m g a b) s (finished v m (v.me.pc + 4) (sResult v b (BitVec.ofNat 64 (phaseOf u x))))
  | barWait (s u : State) (m : Bool) (g : BitVec 3) (a b : Reg) (x : Nat) : Issuing s → Settles s u →
      GoodBarrier u g a false x → phaseOf u x ≠ (u.me.getS b.toNat).toNat % 2 ^ 16 → BarrierRule (.barWait m g a b) s (done m u)
  | barWaitBlocks (s u : State) (m : Bool) (g : BitVec 3) (a b : Reg) (x : Nat) : Issuing s → Settles s u →
      GoodBarrier u g a false x → phaseOf u x = (u.me.getS b.toNat).toNat % 2 ^ 16 →
      BarrierRule (.barWait m g a b) s (blocked u m (barrierWait u g a x false))
  | barArw (s u : State) (m : Bool) (g : BitVec 3) (a : Reg) (x : Nat) : Issuing s → Settles s u →
      GoodBarrier u g a true x → u.num x 8 % 2 ^ 16 + 1 = u.num x 8 / 2 ^ 16 % 2 ^ 16 →
      BarrierRule (.barArw m g a) s (done m (arrivedAt u x))
  | barArwBlocks (s u : State) (m : Bool) (g : BitVec 3) (a : Reg) (x : Nat) : Issuing s → Settles s u →
      GoodBarrier u g a true x → u.num x 8 % 2 ^ 16 + 1 ≠ u.num x 8 / 2 ^ 16 % 2 ^ 16 →
      BarrierRule (.barArw m g a) s
        (blocked (arrivedAt u x) m (barrierWait u g a x true))
  | abarArr (s u : State) (m : Bool) (d : Reg) (n : BitVec 5) (e : Nat) : Issuing s → HasRoom s → Settles s u → HasRoom u →
      u.me.mode ≠ .control → ArborMember u n e → arborA u n < e →
      BarrierRule (.abarArr m d n) s
        (let c := coreOfGid u.cur
         let v := u.setCore c { u.core c with arborA := (u.core c).arborA.put n.toNat (arborA u n + 1) }
         finished v m (v.me.pc + 4) (sResult v d (BitVec.ofNat 64 (arborP u n))))
  | abarArrBlocks (s u : State) (m : Bool) (d : Reg) (n : BitVec 5) (e : Nat) : Issuing s → HasRoom s → Settles s u →
      u.me.mode ≠ .control → ArborMember u n e → e ≤ arborA u n →
      BarrierRule (.abarArr m d n) s (blocked u m (.arbor n.toNat))
  | abarWait (s u : State) (m : Bool) (n : BitVec 5) (b : Reg) (e : Nat) : Issuing s → Settles s u →
      u.me.mode ≠ .control → ArborMember u n e → arborP u n ≠ (u.me.getS b.toNat).toNat % 2 ^ 8 →
      BarrierRule (.abarWait m n b) s (done m u)
  | abarWaitBlocks (s u : State) (m : Bool) (n : BitVec 5) (b : Reg) (e : Nat) : Issuing s → Settles s u →
      u.me.mode ≠ .control → ArborMember u n e → arborP u n = (u.me.getS b.toNat).toNat % 2 ^ 8 →
      BarrierRule (.abarWait m n b) s (blocked u m (.arbor n.toNat))
  | abarTest (s u : State) (m : Bool) (d : Reg) (n : BitVec 5) (b : Reg) (e : Nat) : Issuing s → HasRoom s → Settles s u → HasRoom u →
      u.me.mode ≠ .control → ArborMember u n e →
      BarrierRule (.abarTest m d n b) s
        (finished u m (u.me.pc + 4) (sResult u d (allOrNone (arborP u n != (u.me.getS b.toNat).toNat % 2 ^ 8))))

end Sys2Proof.Rules
end

