-- ==== Sys2Proof/Rules/Memory.lean ====
section
/-!
DEFINITION. Terms of the statements: accesses that take their places, results that come back, the memory units, and the
host (R137, R147 to R155, R158 to R162, R179, R180, R185, R186, R195, R199).
-/

namespace Sys2Proof.Rules

open Sys2Proof.Machine

/-- The next access of a group in its program order is `a`, of an outstanding instruction p with accesses `more` after it: no
older one has an access left or awaits another module's answer (R261), no retry hint holds the group, and its home serves it now (R137, R154, R155, R159, R327). Accesses
to host memory hold no place in that order (R180). -/
structure NextAccess (s : State) (gid : Nat) (pre post : List Pending) (p : Pending) (a : Access) (more : List Access) : Prop where
  out : (s.group gid).out = pre ++ p :: post
  todo : p.todo = a :: more
  older : ∀ q ∈ pre, q.todo = [] ∧ q.remote = none
  asked : p.remote = none
  ordinary : a.isHostData = false
  hint : (s.group gid).retryAt = none
  place : s.canPlace gid a = true

/-- The only access a group has outstanding is one to host memory, and the host's port is in service (R149, R180, R381). -/
structure HostAccess (s : State) (gid : Nat) (pre post : List Pending) (p : Pending) (a : Access) : Prop where
  out : (s.group gid).out = pre ++ p :: post
  todo : p.todo = [a]
  alone : ∀ q ∈ pre ++ post, q.todo = []
  data : a.isHostData = true
  place : s.canPlace gid a = true

/-- An outstanding instruction after one of its accesses: with none left its results are formed. -/
def afterAccess (p : Pending) (more : List Access) : Pending := if more = [] then { p with todo := more }.settle else { p with todo := more }

/-- The state u with the outstanding instructions of a group replaced. -/
def withOut (u : State) (gid : Nat) (out : List Pending) : State := u.setGroup gid { u.group gid with out := out }

/-- The responses to an access's requests have arrived in u; one to the module's own memory has none (R324), and the request for a
line goes on while some of the accesses `more` to come are to it (R331). -/
def landed (s u : State) (gid : Nat) (a : Access) (more : List Access) : State :=
  if a.line?.isSome && more.any (fun b => b.line? == a.line?) then u
  else (s.placesOf a).foldl (fun st x => st.land (.access gid (x / 64)) x) u

/-- The threads that requests which are still on ports have served, after a load of q with accesses `more` to come (R74, R331). -/
def servedBy (p : Pending) (q : Piece) (more : List Access) : List (Nat × Nat) :=
  if isRemote q.addr = false then p.served
  else if more.any (fun b => b.line? == some (q.addr / 64)) then (q.addr / 64, q.thread) :: p.served
  else p.served.filter fun x => x.1 != q.addr / 64

/-- A group after a late fault of kind k at the offset and the thread of a piece (R74): the first one stands. -/
def failedAt (p : Pending) (k : Nat) (q : Piece) (unknown : Bool) : Pending :=
  { p with failed := some (k, unknown), failOff := q.off, failThread := q.thread }

/-- A result that comes back: outstanding instruction n of a group has no access left and awaits no answer, and its results are
those of atomics or not. -/
structure Returns (s : State) (gid n : Nat) (p : Pending) (atomic : Bool) : Prop where
  here : (s.group gid).out[n]? = some p
  done : p.todo = [] ∧ p.remote = none
  kind : p.atomic = atomic

/-- With its last registers and flags written, an instruction is no longer outstanding: its late fault is reported, and a
parked or blocked group goes on (R68, R71, R74). -/
def ended (s : State) (gid n : Nat) (p : Pending) : State :=
  let g := s.group gid
  let d := p.writes.foldl Group.deliver { g with out := dropAt g.out n }
  let h := ({ d with ff := d.ff.join p.ff }).report p
  s.setGroup gid { h with
    parked := h.parked && h.out.any Pending.result
    wait := if h.wait = some .outstanding ∧ (h.out.filter Pending.result).length < 32 then none else h.wait }

/-- All of a result is to be written at once: step number k lies beyond its registers and flags, or there are none left. -/
def AllWritten (p : Pending) (k : Nat) : Prop := p.writes.length + 320 ≤ k ∨ (p.writes = [] ∧ p.ff = {})

/-- The steps of memory and its units. -/
inductive MemoryStep : Instr → State → State → Prop where
  /-- R147, R162: a load takes its place and reads its bytes -/
  | load (s : State) (gid n k : Nat) (pre post : List Pending) (p : Pending) (q : Piece) (more : List Access) :
      NextAccess s gid pre post p (.load q) more → p.result = true → s.addrLost q.addr = false →
      s.readsBad (s.askerAt gid) q.key q.addr q.len = false →
      MemoryStep (.loadResultReturn gid n k) s (withOut (landed s (s.afterRead (s.askerAt gid) q.key q.addr) gid (.load q) more) gid
        (pre ++ afterAccess { p with served := servedBy p q more, got := (q.thread, q.pos, s.readPiece (s.askerAt gid) q.key q.addr q.len) :: p.got } more :: post))
  /-- R180: one from host memory -/
  | loadHost (s : State) (gid n k : Nat) (pre post : List Pending) (p : Pending) (q : Piece) : HostAccess s gid pre post p (.load q) →
      p.result = true → s.isBad q.addr q.len = false →
      MemoryStep (.loadResultReturn gid n k) s (withOut s gid
        (pre ++ afterAccess { p with got := (q.thread, q.pos, s.readPiece (s.askerAt gid) q.key q.addr q.len) :: p.got } [] :: post))
  /-- R74: uncorrectable bytes fail the load with kind 8 -/
  | loadBad (s : State) (gid n k : Nat) (pre post : List Pending) (p : Pending) (q : Piece) (more : List Access) :
      NextAccess s gid pre post p (.load q) more → p.result = true → s.addrLost q.addr = false →
      s.readsBad (s.askerAt gid) q.key q.addr q.len = true → p.failed = none →
      MemoryStep (.loadResultReturn gid n k) s (withOut (landed s s gid (.load q) more) gid
        (pre ++ afterAccess { failedAt p 8 q false with served := servedBy p q more } more :: post))
  /-- R74, R331, R344: a load of a lost region fails with kind 12, and every thread that its request serves gets zero -/
  | loadLost (s : State) (gid n k : Nat) (pre post : List Pending) (p : Pending) (q : Piece) (more : List Access) :
      NextAccess s gid pre post p (.load q) more → p.result = true → s.addrLost q.addr = true → p.failed = none →
      MemoryStep (.loadResultReturn gid n k) s (withOut s gid
        (pre ++ afterAccess { failedAt p 12 q false with
          lostThreads := q.thread :: ((p.served.filter fun x => x.1 == q.addr / 64).map Prod.snd ++ p.lostThreads)
          served := p.served.filter fun x => x.1 != q.addr / 64 } more :: post))
  /-- R261: a `pportq` takes its place, and reads the status word of a port of the own tenant -/
  | query (s : State) (gid n k id d : Nat) (pre post : List Pending) (p : Pending) (x : Port) (more : List Access) :
      NextAccess s gid pre post p (.portQuery id d) more → s.ports.get? (id / 2 ^ 19 % 2 ^ 4 * 8192 + id % 2 ^ 13) = some x →
      (s.plan? x.plan).map Plan.tenant = some (s.askerAt gid).tenant →
      MemoryStep (.loadResultReturn gid n k) s (withOut s gid
        (pre ++ afterAccess { p with writes := [scalarResult d (s.portStatus x)] } more :: post))
  /-- R261: zero of a port that is another tenant's, or that is not there -/
  | queryNone (s : State) (gid n k id d : Nat) (pre post : List Pending) (p : Pending) (more : List Access) :
      NextAccess s gid pre post p (.portQuery id d) more →
      (∀ x, s.ports.get? (id / 2 ^ 19 % 2 ^ 4 * 8192 + id % 2 ^ 13) = some x →
        (s.plan? x.plan).map Plan.tenant ≠ some (s.askerAt gid).tenant) →
      MemoryStep (.loadResultReturn gid n k) s (withOut s gid
        (pre ++ afterAccess { p with writes := [scalarResult d 0] } more :: post))
  /-- R70: a register of a result is written, the others stay to be written -/
  | write (s : State) (gid n k : Nat) (p : Pending) (w : RegWrite) : (∀ x ∈ (s.group gid).out, x.todo = []) →
      Returns s gid n p false → p.writes[k]? = some w →
      MemoryStep (.loadResultReturn gid n k) s (s.setGroup gid { (s.group gid).deliver w with
        out := setAt (s.group gid).out n fun x => { x with writes := dropAt x.writes k } })
  /-- R71: flag f of thread t alone joins FF -/
  | flag (s : State) (gid n f t : Nat) (p : Pending) : (∀ x ∈ (s.group gid).out, x.todo = []) →
      Returns s gid n p false → f < 5 → t < 64 → p.ff.meet (FF.single f t) ≠ {} →
      MemoryStep (.loadResultReturn gid n (p.writes.length + (64 * f + t))) s (s.setGroup gid { s.group gid with
        ff := (s.group gid).ff.join (FF.single f t)
        out := setAt (s.group gid).out n fun x => { x with ff := x.ff.less (FF.single f t) } })
  /-- R68, R71, R94: all is written -/
  | written (s : State) (gid n k : Nat) (p : Pending) : (∀ x ∈ (s.group gid).out, x.todo = []) →
      Returns s gid n p false → AllWritten p k → (s.group gid).exited = false →
      MemoryStep (.loadResultReturn gid n k) s (ended s gid n p)
  /-- R161: a store takes its place; with its last one the instruction is done -/
  | store (s : State) (gid : Nat) (pre post : List Pending) (p : Pending) (q : Piece) (bs : List Byte) :
      NextAccess s gid pre post p (.store q bs) [] → s.addrLost q.addr = false → p.result = false → p.atomic = false →
      p.remote = none → p.failed = none →
      MemoryStep (.storePerformed gid) s (withOut (landed s (s.writePiece (s.askerAt gid) q.key q.addr bs) gid (.store q bs) []) gid
        (pre ++ post))
  | storeMore (s : State) (gid : Nat) (pre post : List Pending) (p : Pending) (q : Piece) (bs : List Byte) (a : Access)
      (more : List Access) : NextAccess s gid pre post p (.store q bs) (a :: more) → s.addrLost q.addr = false →
      MemoryStep (.storePerformed gid) s (withOut (landed s (s.writePiece (s.askerAt gid) q.key q.addr bs) gid (.store q bs) (a :: more)) gid
        (pre ++ { p with todo := a :: more } :: post))
  /-- R149, R180: one to host memory goes to the write-combining buffers -/
  | storeHost (s : State) (gid : Nat) (pre post : List Pending) (p : Pending) (q : Piece) (bs : List Byte) :
      HostAccess s gid pre post p (.store q bs) → p.result = false → p.atomic = false → p.remote = none → p.failed = none →
      MemoryStep (.storePerformed gid) s (withOut (s.writePiece (s.askerAt gid) q.key q.addr bs) gid (pre ++ post))
  /-- R181, R344: a store to a lost region ends with a late fault of kind 12, its outcome unknown -/
  | storeLost (s : State) (gid : Nat) (pre post : List Pending) (p : Pending) (q : Piece) (bs : List Byte) :
      NextAccess s gid pre post p (.store q bs) [] → s.addrLost q.addr = true → p.result = false → p.atomic = false →
      p.remote = none → p.failed = none →
      MemoryStep (.storePerformed gid) s (s.setGroup gid
        ({ s.group gid with out := pre ++ post }.report (failedAt { p with todo := [] } 12 q true).settle))
  /-- R154: a hint has passed; the request is made again -/
  | retry (s : State) (gid t : Nat) : (s.group gid).retryAt = some t → t ≤ s.cycle →
      MemoryStep (.retryHintExpiry gid) s (s.setGroup gid { s.group gid with retryAt := none })
  /-- R155: a request hashed under an older map meets the stub, and its core takes the present map -/
  | redirect (s : State) (gid a : Nat) (x : Nat × Nat × Access) : (s.group gid).nextAccess = some x → s.placesOf x.2.2 = [a] →
      unitOf gid < 2816 → a < 2 ^ 40 →
      mapSlice (s.mapCopy (unitOf gid) (a / 2 ^ 36)).2 (sliceIndex (a % 2 ^ 36)) ∈ (s.die (a / 2 ^ 36)).stubs →
      MemoryStep (.sliceRedirect gid) s (s.setCore (unitOf gid) { s.core (unitOf gid) with
        maps := (s.core (unitOf gid)).maps.put (a / 2 ^ 36) ((s.die (a / 2 ^ 36)).mapGen, (s.die (a / 2 ^ 36)).sliceMap) })
  /-- R155: the entries of the slices that retire go to others in use, in the next generation, and the retired ones answer as
  stubs -/
  | sliceRetire (s : State) (d slices heirs : Nat) (gone moved : List Nat) (map : Map Nat) : d < 16 → 0 < slices → slices < 2 ^ 96 →
      (s.die d).stubs = [] → gone = (List.range 96).filter slices.testBit →
      (∀ i ∈ gone, entriesOf (s.die d).sliceMap i ≠ []) →
      moved = (List.range 256).filter (fun i => gone.contains (mapSlice (s.die d).sliceMap i)) →
      map = reassign moved heirs (s.die d).sliceMap →
      (∀ i ∈ moved, mapSlice map i ∉ gone ∧ entriesOf (s.die d).sliceMap (mapSlice map i) ≠ []) →
      MemoryStep (.sliceRetire d slices heirs) s (s.setDie d { s.die d with
        sliceMap := map, mapGen := ((s.die d).mapGen + 1) % 2 ^ 16, stubs := gone })
  /-- R155: every core has acknowledged, but for those of a die that is off (log 96) -/
  | stubRemove (s : State) (d : Nat) : (s.die d).stubs ≠ [] →
      (∀ c, c < 2816 → (s.die (c / 176)).off = true ∨ (s.mapCopy c d).1 = (s.die d).mapGen) →
      MemoryStep (.sliceStubRemove d) s (s.setDie d { s.die d with stubs := [] })
  /-- R155: with no plan on the die, entries go to an added slice -/
  | sliceAdd (s : State) (d a mask : Nat) (es : List Nat) : d < 16 → a < 96 → s.planOn d = false → (s.die d).stubs = [] →
      es = (List.range 256).filter (fun i => mask.testBit i) → es ≠ [] →
      MemoryStep (.sliceAdd d a mask) s (s.setDie d { s.die d with
        sliceMap := es.foldl (fun m i => Map.put i a m) (s.die d).sliceMap, mapGen := ((s.die d).mapGen + 1) % 2 ^ 16 })
  /-- R137: cycles pass to the next multiple of 128 -/
  | refresh (s : State) : MemoryStep .orangeryRefreshAdvance s { s with cycle := s.cycle - s.cycle % 128 + 128 }
  /-- R149: every store held for the lines reaches host memory -/
  | flush (s : State) (gid : Nat) (pre post : List Pending) (p : Pending) (lines : List Nat) :
      NextAccess s gid pre post p (.hostFlush lines) [] → p.result = false → p.atomic = false → p.remote = none → p.failed = none →
      MemoryStep (.hostSyncPerformed gid) s (withOut
        { (s.writeCombine.filter fun e => lines.contains (e.1 / 64)).foldl (fun st e => st.write e.1 e.2) s with
          writeCombine := s.writeCombine.filter fun e => !lines.contains (e.1 / 64) } gid (pre ++ post))
  /-- R149: held copies of the lines are dropped, in every L1 and in the host read cache -/
  | invalidate (s : State) (gid : Nat) (pre post : List Pending) (p : Pending) (lines : List Nat) :
      NextAccess s gid pre post p (.hostInvalidate lines) [] → p.result = false → p.atomic = false → p.remote = none →
      p.failed = none →
      MemoryStep (.hostSyncPerformed gid) s
        (withOut { s with hostCopies := s.hostCopies.keep fun k _ => !lines.contains (k % 2 ^ 43 / 4) } gid (pre ++ post))
  /-- R179 -/
  | hostWrite (s : State) (off len x : Nat) : s.hostPortOut = false → off + len ≤ 2 ^ 22 →
      MemoryStep (.hostBelvedereWrite off len x) s (s.write (belvedereAddr off) (leBytes len x))
  | hostRead (s : State) (off len : Nat) : s.hostPortOut = false → off + len ≤ 2 ^ 22 →
      MemoryStep (.hostBelvedereRead off len) s
        { s with hostReply := (List.range len).map fun i => s.byte (belvedereAddr off + i) }
  /-- R149: a held store reaches host memory, no older one to its line being held -/
  | drain (s : State) (pre post : List (Nat × List Byte)) (e : Nat × List Byte) : s.hostPortOut = false →
      s.writeCombine = pre ++ e :: post → (∀ x ∈ pre, x.1 / 64 ≠ e.1 / 64) →
      MemoryStep (.hostWriteCombineDrain pre.length) s { s.write e.1 e.2 with writeCombine := pre ++ post }
  /-- R185, R186: the operations of a request's threads one after another, and the old value for each -/
  | atomic (s : State) (gid n : Nat) (pre post : List Pending) (p : Pending) (op : AtomOp) (ps : List Piece)
      (xs : List (Nat × Nat × Nat)) (more : List Access) (r : List (Nat × Nat) × Nat) :
      NextAccess s gid pre post p (.atomic op n ps xs) more → p.atomic = true →
      (∀ q ∈ ps, s.addrLost q.addr = false ∧ s.edgeDenied (s.askerAt gid) q.key q.addr = false ∧ s.isBad q.addr q.len = false) →
      r = atomRun op n (leNat (s.readPieces (s.askerAt gid) ps)) xs →
      MemoryStep (.atomicRequestAtHome gid) s
        (withOut (landed s (s.writePieces (s.askerAt gid) ps (leBytes n r.2)) gid (.atomic op n ps xs) more) gid
          (pre ++ afterAccess { p with got := r.1.map (fun o => (o.1, 0, leBytes n o.2)) ++ p.got } more :: post))
  /-- R186: the replies -/
  | reply (s : State) (gid n k : Nat) (p : Pending) (w : RegWrite) : Returns s gid n p true → p.writes[k]? = some w →
      MemoryStep (.atomicReply gid n k) s (s.setGroup gid { (s.group gid).deliver w with
        out := setAt (s.group gid).out n fun x => { x with writes := dropAt x.writes k } })
  | replied (s : State) (gid n k : Nat) (p : Pending) : Returns s gid n p true → AllWritten p k → (s.group gid).exited = false →
      MemoryStep (.atomicReply gid n k) s (ended s gid n p)
  /-- R192, R316: a late fault of a reduction whose group has exited goes to its plan's event 3 -/
  | repliedLate (s : State) (gid n k kind : Nat) (unknown : Bool) (p : Pending) : Returns s gid n p true → AllWritten p k →
      (s.group gid).exited = true → p.failed = some (kind, unknown) →
      MemoryStep (.atomicReply gid n k) s ((s.setGroup gid { s.group gid with out := dropAt (s.group gid).out n }).planEvent
        (s.group gid).plan 3 kind p.failOff (((s.task? (s.group gid).task).map Task.stage).getD 0))
  /-- R195, R197: a write has moved the phase of the word that a group waits for, and it goes on -/
  | barrierWake (s : State) (gid v : Nat) (arrived : Option Nat) : (s.group gid).wait = some (.woken none v none arrived) →
      MemoryStep (.barrierWake gid) s (s.finishWait gid)
  /-- R3, R196: a write has left a word that the instruction faults on -/
  | barrierFault (s : State) (gid v : Nat) (d : Option Nat) (t : TrapInfo) (arrived : Option Nat) : (s.group gid).wait = some (.woken d v (some t) arrived) →
      MemoryStep (.barrierWake gid) s (s.takeTrap gid (some t))
  /-- R199: once every member core has its count, each returns to zero arrivals and steps its phase, and groups blocked
  there test again -/
  | arborRelease (s : State) (h n : Nat) (p : Plan) (e : ArborEntry) (cs : List Nat) : s.plan? h = some p →
      p.arbors.find? (fun e => e.number == n) = some e → cs = s.memberCores h e → cs ≠ [] →
      (∀ c ∈ cs, (s.core c).arborA.getD n 0 = e.count) →
      MemoryStep (.arborRelease h n) s (cs.foldl (fun (st : State) c =>
          { st with groups := Map.mapKeyed (fun gid g =>
              if coreOfGid gid = c ∧ g.wait = some (.arbor n) then { g with wait := none } else g) st.groups })
        (cs.foldl (fun st c => st.setCore c { st.core c with
          arborA := (st.core c).arborA.put n 0, arborP := (st.core c).arborP.put n (((st.core c).arborP.getD n 0 + 1) % 2 ^ 8) }) s))

end Sys2Proof.Rules
end

