-- ==== Sys2Proof/Rules/Bringup.lean ====
section
/-!
DEFINITION. Terms of the statements: control space, bring-up and power (R365 to R386): stores of a control processor to
registers, and the ends of what they start.
-/

namespace Sys2Proof.Rules

open Sys2Proof.Machine

/-- The next access of a control processor's group is a store of v to a register of a die's control space, the last of its
instruction. -/
structure CtlStore (s : State) (gid : Nat) (pre post : List Pending) (die : Nat) (r : CtlReg) (v : Nat) : Prop where
  next : ∃ p a n, NextAccess s gid pre post p (.ctlStore a n v) [] ∧ p.result = false ∧ p.atomic = false ∧ p.failed = none ∧ p.remote = none
    ∧ ctlAt a = some r ∧ a / 2 ^ 24 = die

/-- The register's present value. -/
def old (s : State) (die : Nat) (r : CtlReg) : Nat := s.reg die r

/-- The state with a unit of a register started (the clock of its limit runs from now). -/
def started (s : State) (die : Nat) (r : CtlReg) (v unit : Nat) : State := (s.setReg die r v).startUnit die r unit

/-- A register with its unit stopped. -/
def stopped (s : State) (die : Nat) (r : CtlReg) (v unit : Nat) : State := (s.setReg die r v).stopUnit die r unit

/-- A control processor that goes on at a new PC holds nothing of the instruction it was in (R373). -/
def afresh (g : Group) : Group :=
  { g with mode := .control, word := none, target := none, reads := {}, wait := none, parked := false, repcnt := 0, due := none }

/-- A stack's register takes a store: no training runs or is to run (R361, R384). -/
def StackQuiet (s : State) (die : Nat) : Prop := s.runsUnit die .hbm 3 = false ∧ s.runsUnit die .hbm 4 = false

/-- The stores to control space (R367, R370, R375 to R378, R385): each takes its place, and what it starts begins. -/
inductive CtlRule : Instr → State → State → Prop where
  /-- R377: the device id; trained ports whose switch reports another are retired -/
  | devId (s : State) (gid : Nat) (pre post : List Pending) (v : Nat) : CtlStore s gid pre post 16 .devId v → v < 2 ^ 7 →
      CtlRule (.controlRegWrite gid) s (withOut (s.setReg 16 .devId v).retireOthers gid (pre ++ post))
  /-- the flash page -/
  | page (s : State) (gid : Nat) (pre post : List Pending) (die v : Nat) : CtlStore s gid pre post die .page v → v < 2 ^ 4 →
      CtlRule (.controlRegWrite gid) s (withOut (s.setReg die .page v) gid (pre ++ post))
  /-- CAP in its range; THROTTLE is read only -/
  | cap (s : State) (gid : Nat) (pre post : List Pending) (die v : Nat) : CtlStore s gid pre post die .cap v →
      2000 ≤ v % 2 ^ 16 → v % 2 ^ 16 ≤ 5200 →
      CtlRule (.controlRegWrite gid) s
        (withOut (s.setReg die .cap (bits (old s die .cap) 19 16 * 2 ^ 16 + v % 2 ^ 16)) gid (pre ++ post))
  /-- a stopped processor's SRAM -/
  | sram (s : State) (gid : Nat) (pre post : List Pending) (die o v : Nat) : CtlStore s gid pre post die (.sram o) v →
      s.cpRuns die = false →
      CtlRule (.controlRegWrite gid) s (withOut (s.write (sramAddr die o) (leBytes 8 v)) gid (pre ++ post))
  /-- RUN to 0 stops a processor -/
  | cpStop (s : State) (gid : Nat) (pre post : List Pending) (die : Nat) : CtlStore s gid pre post die .cp 0 →
      CtlRule (.controlRegWrite gid) s (withOut (s.setReg die .cp 0) gid (pre ++ post))
  | rail (s : State) (gid : Nat) (pre post : List Pending) (die v : Nat) : CtlStore s gid pre post die .rail v →
      CtlRule (.railEnable gid) s (withOut (s.writeRail die v) gid (pre ++ post))
  /-- R365, R373: RUN from 0 to 1; nothing is left of the instruction that the processor was stopped in -/
  | cpRun (s : State) (gid : Nat) (pre post : List Pending) (die : Nat) : CtlStore s gid pre post die .cp 1 →
      s.cpRuns die = false →
      CtlRule (.cpRun gid) s (withOut ((s.setReg die .cp 1).setGroup (cpGid die)
        { afresh (s.group (cpGid die)) with halted := false, stepArmed := false }) gid (pre ++ post))
  /-- R375: INIT, training and SERVE; INIT and TRAIN read as zero -/
  | hbmInit (s : State) (gid : Nat) (pre post : List Pending) (die v : Nat) : CtlStore s gid pre post die .hbm v →
      StackQuiet s die → bit v 0 = true → bit v 3 = false →
      CtlRule (.hbmInit gid) s (withOut ((started s die .hbm
        (bits v 16 16 * 2 ^ 16 + bits (old s die .hbm) 15 8 * 2 ^ 8 + bits v 2 1 * 2) 0).stepBegins 5) gid (pre ++ post))
  | hbmTrain (s : State) (gid : Nat) (pre post : List Pending) (die v : Nat) : CtlStore s gid pre post die .hbm v →
      StackQuiet s die → bit v 0 = false → bit v 3 = true → (s.die die).deadline = [] →
      CtlRule (.hbmTrain gid) s (withOut (started s die .hbm
        (bits v 16 16 * 2 ^ 16 + bits (old s die .hbm) 15 8 * 2 ^ 8 + bits v 2 1 * 2) 3) gid (pre ++ post))
  /-- R361: it waits for the deadline queue of the stack to empty -/
  | hbmTrainWaits (s : State) (gid : Nat) (pre post : List Pending) (die v : Nat) : CtlStore s gid pre post die .hbm v →
      StackQuiet s die → bit v 0 = false → bit v 3 = true → (s.die die).deadline ≠ [] →
      CtlRule (.hbmTrain gid) s (withOut (started s die .hbm
        (bits v 16 16 * 2 ^ 16 + bits (old s die .hbm) 15 8 * 2 ^ 8 + bits v 2 1 * 2) 4) gid (pre ++ post))
  | hbmServe (s : State) (gid : Nat) (pre post : List Pending) (die v : Nat) : CtlStore s gid pre post die .hbm v →
      StackQuiet s die → bit v 0 = false → bit v 3 = false → bit v 16 = true → bit (old s die .hbm) 16 = false →
      CtlRule (.hbmServe gid) s (withOut (s.setReg die .hbm
        (2 ^ 16 + bits (old s die .hbm) 15 8 * 2 ^ 8 + bits v 5 4 * 2 ^ 4 + bits v 2 1 * 2)) gid (pre ++ post))
  /-- R385: GO, unless a read runs -/
  | mrGo (s : State) (gid : Nat) (pre post : List Pending) (die v : Nat) : CtlStore s gid pre post die .mr v → bit v 38 = true →
      (bit (old s die .mr) 38 = false ∨ bit (old s die .mr) 39 = true) →
      CtlRule (.hbmMrGo gid) s (withOut (started s die .mr
        (bits v 47 40 * 2 ^ 40 + bits v 38 32 * 2 ^ 32 + bits v 7 0) 0) gid (pre ++ post))
  /-- R376: a link's training -/
  | ucie (s : State) (gid : Nat) (pre post : List Pending) (die e v : Nat) : CtlStore s gid pre post die (.ucie e) v →
      bit v 0 = true → bit (old s die (.ucie e)) 0 = false →
      CtlRule (.ucieTrain gid) s (withOut ((started s die (.ucie e) (bits v 5 3 * 2 ^ 3 + 1) 0).stepBegins 6) gid (pre ++ post))
  | pcie (s : State) (gid : Nat) (pre post : List Pending) (die v : Nat) : CtlStore s gid pre post die .pcie v →
      bit v 0 = true → bit v 6 = bit (old s die .pcie) 6 →
      CtlRule (.pcieTrain gid) s (withOut
        ((started s die .pcie (bits v 6 6 * 2 ^ 6 + bits v 4 3 * 2 ^ 3 + 1) 0).stepBegins 7) gid (pre ++ post))
  | cxl (s : State) (gid : Nat) (pre post : List Pending) (die v : Nat) : CtlStore s gid pre post die .pcie v →
      bit v 0 = false → bit v 6 = true → bit (old s die .pcie) 6 = false →
      CtlRule (.cxlEnable gid) s (withOut (s.setReg die .pcie (2 ^ 6 + bits v 4 1 * 2)) gid (pre ++ post))
  /-- R376, R377, R382: a port's training, as which begins fenced ports are retired; SERVE with the device's own index, and with another, which retires the port -/
  | ual (s : State) (gid : Nat) (pre post : List Pending) (die p v : Nat) : CtlStore s gid pre post die (.ual p) v →
      bit v 0 = true → bit v 3 = false →
      CtlRule (.ualTrain gid) s (withOut
        (let u := ((started s die (.ual p) (bits (old s die (.ual p)) 14 8 * 2 ^ 8 + 1) 0).stepBegins 8).retireFenced
         u.setUal ((die - 16) * 24 + p) { u.ual ((die - 16) * 24 + p) with serve := false }) gid (pre ++ post))
  | ualServe (s : State) (gid : Nat) (pre post : List Pending) (die p v : Nat) : CtlStore s gid pre post die (.ual p) v →
      bit v 0 = false → bit v 3 = true → bit (old s die (.ual p)) 3 = false → (s.ual ((die - 16) * 24 + p)).trained = true →
      (s.ual ((die - 16) * 24 + p)).peerIdx = s.device →
      CtlRule (.ualServe gid) s (withOut
        ((s.setReg die (.ual p) (bits (old s die (.ual p)) 14 8 * 2 ^ 8 + bits v 3 1 * 2)).setUal ((die - 16) * 24 + p)
          { s.ual ((die - 16) * 24 + p) with serve := true }) gid (pre ++ post))
  | ualRetires (s : State) (gid : Nat) (pre post : List Pending) (die p v : Nat) : CtlStore s gid pre post die (.ual p) v →
      bit v 0 = false → bit v 3 = true → bit (old s die (.ual p)) 3 = false → (s.ual ((die - 16) * 24 + p)).trained = true →
      (s.ual ((die - 16) * 24 + p)).peerIdx ≠ s.device →
      CtlRule (.ualServe gid) s (withOut
        ((s.setReg die (.ual p) (bits (old s die (.ual p)) 14 8 * 2 ^ 8 + bits v 3 1 * 2)).setUal ((die - 16) * 24 + p)
          { s.ual ((die - 16) * 24 + p) with serve := false, trained := false, retired := true }) gid (pre ++ post))
  /-- R378: the tests -/
  | arb (s : State) (gid : Nat) (pre post : List Pending) (die v : Nat) : CtlStore s gid pre post die .arbCmd v → bit v 0 = true →
      CtlRule (.arbTestGo gid) s (withOut ((started s die .arbCmd 1 0).stepBegins 9) gid (pre ++ post))
  | core (s : State) (gid : Nat) (pre post : List Pending) (die c v : Nat) : CtlStore s gid pre post die (.core c) v → bit v 0 = true →
      CtlRule (.coreTestGo gid) s (withOut
        ((started s die (.core c) (bits v 8 8 * 2 ^ 8 + bits v 3 3 * 2 ^ 3 + 1) 0).stepBegins 10) gid (pre ++ post))
  | org (s : State) (gid : Nat) (pre post : List Pending) (die v : Nat) : CtlStore s gid pre post die .orgTest v → bit v 0 = true →
      CtlRule (.orgTestGo gid) s (withOut
        ((started s die .orgTest (bits (old s die .orgTest) 47 32 * 2 ^ 32 + 1) 0).stepBegins 11) gid (pre ++ post))
  /-- R370: a word of the page of flash is programmed -/
  | flash (s : State) (gid : Nat) (pre post : List Pending) (die o v : Nat) : CtlStore s gid pre post die (.flash o) v →
      s.flashBusy = none →
      CtlRule (.flashProgram gid) s (withOut { s with flashBusy := some (old s 16 .page * 2 ^ 20 + o, v, gid) } gid (pre ++ post))
  /-- R370: a load of CP_HALTQ takes its oldest entry -/
  | haltq (s : State) (gid : Nat) (pre post : List Pending) (p : Pending) (a n : Nat) (more : List Access) :
      NextAccess s gid pre post p (.ctlLoad a n) more → p.result = true → ctlAt a = some .haltq →
      CtlRule (.cpHaltqRead gid) s (withOut
        (s.setDie (a / 2 ^ 24) { s.die (a / 2 ^ 24) with haltq := (s.die (a / 2 ^ 24)).haltq.drop 1 }) gid
        (pre ++ afterAccess { p with got := (0, 0, leBytes n ((s.die (a / 2 ^ 24)).haltq.headD 0)) :: p.got } more :: post))

/-- A unit that runs has missed its limit of n cycles. -/
def Missed (s : State) (die : Nat) (r : CtlReg) (unit n : Nat) : Prop :=
  ∃ t, s.busy.get? (busyKey die r unit) = some t ∧ t + n ≤ s.cycle

/-- A unit of a register runs. -/
def Runs (s : State) (die : Nat) (r : CtlReg) (unit : Nat) : Prop := s.runsUnit die r unit = true

/-- A unit that runs is within its limit of n cycles: after it, FAIL shows and nothing else (R370, R375, R376). -/
def InTime (s : State) (die : Nat) (r : CtlReg) (unit n : Nat) : Prop :=
  ∃ t, s.busy.get? (busyKey die r unit) = some t ∧ s.cycle < t + n

/-- A compute die fails step 1 as a unit: its rails are off, it serves nothing, its processor stops, and its stack is out of
service (R371, R375). -/
def dieFailed (s : State) (d : Nat) : State :=
  let u := ((s.setReg d .rail 0).setDie d { s.die d with off := true }).setReg d .cp 0
  { u with stackOut := u.stackOut ||| 2 ^ d }

/-- A rate is the final one of a stack: 12.8 Gb/s, or 9.6 under its alternative (R382, R383). -/
def FinalRate (s : State) (d rate : Nat) : Prop := rate = 2 ∨ (rate = 1 ∧ takesAlternative (s.copiedEntry 5 d) = true)

/-- THROTTLE := n (R386). -/
def throttled (s : State) (n : Nat) : State := s.setReg 16 .cap (putBits (old s 16 .cap) 19 16 n)

/-- A module that powers on: step 4 has begun on the dies whose rails came up (R371). -/
def poweredOn (s : State) (rails : Nat) : State := ({ s with power := true, bootStep := 4 }.sequence rails).bootRom

/-- A port's training ends in time: it is not fenced, its switch is not lost, and it has not trained before (R325, R376, R382). -/
structure PortTrains (s : State) (p peer : Nat) : Prop where
  port : p < 48 ∧ peer < 128 ∧ s.fenced 6 p = false
  inTime : InTime s (16 + p / 24) (.ual (p % 24)) 0 (2 ^ 20)
  fresh : (s.switch p).lost = false ∧ (s.ual p).everTrained = false

/-- The port has trained: it shows its index, and nothing is on it; what waited at it has left its buffer (R326). -/
def portTrained (s : State) (p peer : Nat) : State :=
  (stopped s (16 + p / 24) (.ual (p % 24)) (putBits (old s (16 + p / 24) (.ual (p % 24))) 14 8 peer ||| 2) 0).setUal p
    { s.ual p with trained := true, everTrained := true, retired := false, peerIdx := peer, lastGood := s.cycle, sentAt := s.cycle
                   retrainSince := none, replay := [], resend := [], flights := [], stalled := [], owed := 0, nakAck := none, nakDue := false
                   freed := (s.ual p).freed.putD 0 0 (((s.ual p).freed.getD 0 0 + (s.ual p).stalled.length) % 2 ^ 12)
                   failedReplays := 0, level := 0 }

/-- A cluster's core test runs; the machine after it has passed, and after the cores of a mask have failed it (R378). -/
def Tests (s : State) (d c : Nat) : Prop := d < 16 ∧ c < 22 ∧ Runs s d (.core c) 0
def corePassed (s : State) (d c : Nat) : State := stopped s d (.core c) (putBits (old s d (.core c)) 23 16 0 ||| 2) 0
def coreFailed (s : State) (d c mask : Nat) : State :=
  (stopped s d (.core c) (putBits (old s d (.core c)) 23 16 mask ||| 6) 0).setCluster (d * 22 + c)
    { s.cluster (d * 22 + c) with outOfService := true }

/-- The ends of trainings, tests and other units, power on and off. -/
inductive BringupStep : Instr → State → State → Prop where
  /-- R370, R375: a rail reports GOOD; rails 0 and 1 together bring the die up, rails 2 and 3 its stack -/
  | railGood (s : State) (d r : Nat) : r < 4 → InTime s d .rail r (2 ^ 20) → bits (old s d .rail ||| 2 ^ (4 + r)) 5 4 ≠ 3 →
      bits (old s d .rail ||| 2 ^ (4 + r)) 7 6 ≠ 3 →
      BringupStep (.railGood d r) s (stopped s d .rail (old s d .rail ||| 2 ^ (4 + r)) r)
  | railUp (s : State) (d r : Nat) : r < 4 → InTime s d .rail r (2 ^ 20) → bits (old s d .rail ||| 2 ^ (4 + r)) 5 4 = 3 →
      bits (old s d .rail ||| 2 ^ (4 + r)) 7 6 ≠ 3 →
      BringupStep (.railGood d r) s
        ((stopped s d .rail (old s d .rail ||| 2 ^ (4 + r)) r).setDie d { s.die d with off := false })
  | stackUp (s : State) (d r : Nat) : r < 4 → InTime s d .rail r (2 ^ 20) → bits (old s d .rail ||| 2 ^ (4 + r)) 5 4 = 3 →
      bits (old s d .rail ||| 2 ^ (4 + r)) 7 6 = 3 →
      BringupStep (.railGood d r) s
        ((stopped s d .rail (old s d .rail ||| 2 ^ (4 + r)) r).setDie d { s.die d with off := false, stackOff := false })
  /-- R371, R375: without rail 0 or 1 the die is off, without rail 2 or 3 its stack is out of service -/
  | railMissed (s : State) (d r : Nat) : r < 2 → Missed s d .rail r (2 ^ 20) →
      BringupStep (.railLimitExpiry d r) s (dieFailed (s.stopUnit d .rail r) d)
  | stackMissed (s : State) (d r : Nat) : 2 ≤ r → r < 4 → Missed s d .rail r (2 ^ 20) →
      BringupStep (.railLimitExpiry d r) s { s.stopUnit d .rail r with stackOut := s.stackOut ||| 2 ^ d }
  /-- R375, R385: INIT ends, the error counts of the stack are zero -/
  | initDone (s : State) (d : Nat) : InTime s d .hbm 0 (2 ^ 20) →
      BringupStep (.hbmInitDone d) s
        { stopped s d .hbm (old s d .hbm ||| 2 ^ 4) 0 with bankErrors := s.bankErrors.keep fun k _ => k / 1024 != d }
  /-- R375, R383: training at a first rate, and at the final one -/
  | trainDone (s : State) (d lanes : Nat) : InTime s d .hbm 3 (2 ^ 22) → ¬ FinalRate s d (bits (old s d .hbm) 2 1) →
      BringupStep (.hbmTrainDone d lanes) s (stopped s d .hbm (putBits (old s d .hbm) 15 8 lanes ||| 2 ^ 4) 3)
  | trainDoneFull (s : State) (d lanes : Nat) : InTime s d .hbm 3 (2 ^ 22) → FinalRate s d (bits (old s d .hbm) 2 1) →
      BringupStep (.hbmTrainDone d lanes) s
        { stopped s d .hbm (putBits (old s d .hbm) 15 8 lanes ||| 2 ^ 4) 3 with fullMask := s.fullMask ||| 2 ^ d }
  /-- R375, R381, R384: FAIL; a stack that does not serve is out of service, one that serves goes on at its last rate -/
  | trainMissed (s : State) (d : Nat) : (Missed s d .hbm 0 (2 ^ 20) ∨ Missed s d .hbm 3 (2 ^ 22)) → bit (old s d .hbm) 16 = false →
      BringupStep (.hbmTrainLimitExpiry d) s
        { (stopped s d .hbm (old s d .hbm ||| 2 ^ 5) 0).stopUnit d .hbm 3 with stackOut := s.stackOut ||| 2 ^ d }
  | trainMissedServing (s : State) (d : Nat) : (Missed s d .hbm 0 (2 ^ 20) ∨ Missed s d .hbm 3 (2 ^ 22)) →
      bit (old s d .hbm) 16 = true →
      BringupStep (.hbmTrainLimitExpiry d) s
        { (stopped s d .hbm (old s d .hbm ||| 2 ^ 5) 0).stopUnit d .hbm 3 with rateFailed := s.rateFailed ||| 2 ^ d }
  /-- R385: mode registers 64 to 79 give the error counts of the banks of a pseudo channel -/
  | mrDone (s : State) (d : Nat) : Runs s d .mr 0 → 64 ≤ bits (old s d .mr) 7 0 → bits (old s d .mr) 7 0 < 80 →
      BringupStep (.hbmMrDone d) s (stopped s d .mr (putBits (old s d .mr) 47 40
        (s.bankErrors.getD (d * 1024 + bits (old s d .mr) 37 32 * 16 + (bits (old s d .mr) 7 0 - 64)) 0) ||| 2 ^ 39) 0)
  /-- R376: a link trains once both its ends are set -/
  | ucieDone (s : State) (d e f g : Nat) : ucieEnd d e = (f, g) → (f, g) ≠ (d, e) → InTime s d (.ucie e) 0 (2 ^ 21) → InTime s f (.ucie g) 0 (2 ^ 21) →
      BringupStep (.ucieTrainDone d e) s ((((s.orReg d (.ucie e) 2).orReg f (.ucie g) 2).stopUnit d (.ucie e) 0).stopUnit f (.ucie g) 0)
  | ucieMissed (s : State) (d e : Nat) : Missed s d (.ucie e) 0 (2 ^ 21) →
      BringupStep (.ucieTrainLimitExpiry d e) s (stopped s d (.ucie e) (old s d (.ucie e) ||| 2 ^ 2) 0)
  | pcieDone (s : State) : InTime s 16 .pcie 0 (2 ^ 24) → BringupStep .pcieTrainDone s (stopped s 16 .pcie (old s 16 .pcie ||| 2) 0)
  | pcieMissed (s : State) : Missed s 16 .pcie 0 (2 ^ 24) →
      BringupStep .pcieTrainLimitExpiry s (stopped s 16 .pcie (old s 16 .pcie ||| 2 ^ 2) 0)
  /-- R325, R377: a port trains and reports its index; its replay buffer and notices of failure are clear -/
  | ualDone (s : State) (p peer : Nat) : PortTrains s p peer → (∀ x ∈ s.uals, x.2.serve = false) →
      BringupStep (.ualTrainDone p peer) s (portTrained s p peer)
  /-- R377: once ports serve, one that reports another index than the device id is retired -/
  | ualDoneServing (s : State) (p peer : Nat) (x : Nat × UalPort) : PortTrains s p peer → x ∈ s.uals → x.2.serve = true →
      BringupStep (.ualTrainDone p peer) s (portTrained s p peer).retireOthers
  /-- R376: one that misses its limit is dead -/
  | ualMissed (s : State) (p : Nat) : p < 48 → Missed s (16 + p / 24) (.ual (p % 24)) 0 (2 ^ 20) →
      BringupStep (.ualTrainLimitExpiry p) s
        ((stopped s (16 + p / 24) (.ual (p % 24)) (old s (16 + p / 24) (.ual (p % 24)) ||| 2 ^ 2) 0).killPort p)
  /-- R378: numbers in `bad` that were not masked have failed -/
  | arbDone (s : State) (bad n : Nat) : Runs s 16 .arbCmd 0 → n = bad % 2 ^ 32 - (bad % 2 ^ 32 &&& old s 16 .arbTest % 2 ^ 32) → n ≠ 0 →
      BringupStep (.arbTestDone bad) s
        (stopped (s.setReg 16 .arbTest (putBits (old s 16 .arbTest) 63 32 n)) 16 .arbCmd (old s 16 .arbCmd ||| 6) 0)
  | arbGood (s : State) : Runs s 16 .arbCmd 0 →
      BringupStep (.arbTestDone 0) s
        (stopped (s.setReg 16 .arbTest (putBits (old s 16 .arbTest) 63 32 0)) 16 .arbCmd (old s 16 .arbCmd ||| 2) 0)
  /-- R378, R384: a cluster's test; with the last one, the stacks serving, the module serves -/
  | coreFails (s u : State) (d c mask : Nat) : Tests s d c → mask < 2 ^ 8 → mask ≠ 0 → u = coreFailed s d c mask →
      (s.serving = true ∨ u.coresTested = false ∨ u.stacksServe = false) → BringupStep (.coreTestDone d c mask) s u
  | coreFailsLast (s u : State) (d c mask : Nat) : Tests s d c → mask < 2 ^ 8 → mask ≠ 0 → u = coreFailed s d c mask →
      s.serving = false → u.coresTested = true → u.stacksServe = true →
      BringupStep (.coreTestDone d c mask) s { u with serving := true, bootStep := 11 }
  | coreDone (s u : State) (d c : Nat) : Tests s d c → s.serving = false → u = corePassed s d c → u.coresTested = true →
      u.stacksServe = true → BringupStep (.coreTestDone d c 0) s { u with serving := true, bootStep := 11 }
  | coreDoneEarly (s u : State) (d c : Nat) : Tests s d c → u = corePassed s d c →
      (s.serving = true ∨ u.coresTested = false ∨ u.stacksServe = false) → BringupStep (.coreTestDone d c 0) s u
  /-- R378, R382: up to 32 failing banks are replaced -/
  | orgDone (s : State) (d banks : Nat) : d < 16 → Runs s d .orgTest 0 → banks ≤ 32 →
      BringupStep (.orgTestDone d banks) s (stopped s d .orgTest (putBits (old s d .orgTest) 47 32 banks ||| 2) 0)
  | orgFails (s : State) (d banks : Nat) : d < 16 → Runs s d .orgTest 0 → 32 < banks →
      BringupStep (.orgTestDone d banks) s
        ((stopped s d .orgTest (putBits (old s d .orgTest) 47 32 32 ||| 6) 0).setDie d { s.die d with orangeryOut := true })
  /-- R370: the word is in flash; its writer goes on -/
  | stored (s : State) (off v gid : Nat) : s.flashBusy = some (off, v, gid) → (s.group gid).wait = some .flash →
      BringupStep .flashWordStored s ({ s.write (flashAddr off) (leBytes 8 v) with flashBusy := none }.finishWait gid)
  /-- R386: every 65,536 cycles THROTTLE moves one step toward the level that holds the module at CAP -/
  | capUp (s : State) (target : Nat) : target ≤ 15 → s.powerCheckedAt + 65536 ≤ s.cycle → s.hot = false →
      bits (old s 16 .cap) 19 16 < target →
      BringupStep (.powerCapCheck target) s (throttled { s with powerCheckedAt := s.cycle } (bits (old s 16 .cap) 19 16 + 1))
  | capDown (s : State) (target : Nat) : target ≤ 15 → s.powerCheckedAt + 65536 ≤ s.cycle → s.hot = false →
      target < bits (old s 16 .cap) 19 16 →
      BringupStep (.powerCapCheck target) s (throttled { s with powerCheckedAt := s.cycle } (bits (old s 16 .cap) 19 16 - 1))
  | capHot (s : State) (target : Nat) : target ≤ 15 → s.powerCheckedAt + 65536 ≤ s.cycle → s.hot = true →
      BringupStep (.powerCapCheck target) s (throttled { s with powerCheckedAt := s.cycle } 15)
  /-- R386: above 105 °C full throttle, above 115 °C the die fails step 1 as a unit too -/
  | hot (s : State) (d temp : Nat) : d < 18 → 105 < temp → temp ≤ 115 →
      BringupStep (.dieOvertemp d temp) s (throttled (s.setDie d { s.die d with overTemp := true }) 15)
  | tooHot (s : State) (d temp : Nat) : d < 16 → 115 < temp →
      BringupStep (.dieOvertemp d temp) s
        (throttled ((dieFailed s d).setDie d { (dieFailed s d).die d with overTemp := true }) 15)
  | tooHotLink (s u : State) (d temp : Nat) : 16 ≤ d → d < 18 → 115 < temp →
      u = (s.setDie d { s.die d with off := true }).setReg d .cp 0 →
      BringupStep (.dieOvertemp d temp) s (throttled (u.setDie d { u.die d with overTemp := true }) 15)
  | cooled (s : State) (d temp : Nat) : d < 18 → temp ≤ 105 → (s.die d).overTemp = true →
      BringupStep (.dieOvertemp d temp) s (s.setDie d { s.die d with overTemp := false })
  /-- R371: a step that fails as a whole turns the module off, its number shown -/
  | powerFails (s : State) (rails failed : Nat) : s.power = false → 0 < failed → failed ≤ 3 →
      BringupStep (.powerOn rails failed) s { s with power := true, bootStep := 4, poweredOff := true, smbusStep := failed }
  /-- R371 to R373: with no previous failure slot A's image is measured, loaded and entered -/
  | powerOn (s u v : State) (rails len : Nat) : s.power = false → u = poweredOn s rails →
      s.previousEntry 4 = none →
      v = ((u.writeNum (flashAddr 0x40) 8 (bootEntry 0xFFFF 0 0 1 4)).writeNum (flashAddr 0) 1 1).extend 0 (u.bytes (fuseAddr 0) 144) →
      v.imageGood 0x10000 = true → len = v.flashNum 0x10000 8 % 2 ^ 32 →
      BringupStep (.powerOn rails 0) s
        (let w := (v.write (sramAddr 16 0) (v.bytes (flashAddr (0x10000 + 128)) len)).extend 1 (v.bytes (flashAddr 0x10000) (128 + len))
         (w.setReg 16 .cp 1).setGroup (cpGid 16) { afresh (w.group (cpGid 16)) with pc := v.flashNum (0x10000 + 16) 8 })
  /-- R381: what a loss of supply keeps: flash and fuses, and what lies outside the module -/
  | powerLoss (s : State) : s.power = true →
      BringupStep .powerLoss s { State.reset with
        tape := s.tape, switches := s.switches, freeCtr := s.freeCtr, hostReply := s.hostReply
        mem := s.mem.filter fun c => keptWithoutPower c.1
        bad := s.bad.filter fun c => keptWithoutPower c.1
        byteKey := s.byteKey.filter fun c => keptWithoutPower c.1
        keys := s.keys.filter fun c => decide (c.1 / 8192 < 48) }

end Sys2Proof.Rules
end

