-- ==== Sys2Proof/Rules/Floats.lean ====
section
/-!
DEFINITION. Terms of the statements: the values of floating-point codes (R95), what it is to round an exact value (R99 to R101),
the operations of R110 on integers that stand for exact values, the sums of R274 and the blocks of R294.
-/

namespace Sys2Proof.Rules

open Sys2Proof.Machine

/-- The three formats of lane arithmetic (R98). -/
def laneFormats : List FloatFmt := [fmtF32, fmtF16, fmtBF16]

/-- A code of a format: a sign bit, the exponent and the mantissa (R95). -/
def CodeOf (f : FloatFmt) (c : Nat) : Prop := c < 2 ^ (f.ebits + f.mbits + 1)

/-- The sign and the magnitude of a code (R95). -/
def negOf (f : FloatFmt) (c : Nat) : Bool := c / 2 ^ (f.ebits + f.mbits) % 2 == 1
def magOf (f : FloatFmt) (c : Nat) : Nat := c % 2 ^ (f.ebits + f.mbits)

/-- NaN codes, signalling ones, infinities and finite codes of a format with infinities (R95). -/
def IsNan (f : FloatFmt) (c : Nat) : Prop := (2 ^ f.ebits - 1) * 2 ^ f.mbits < magOf f c
def IsSig (f : FloatFmt) (c : Nat) : Prop := IsNan f c ∧ magOf f c / 2 ^ (f.mbits - 1) % 2 = 0
def IsInf (f : FloatFmt) (c : Nat) : Prop := magOf f c = (2 ^ f.ebits - 1) * 2 ^ f.mbits
def IsFinite (f : FloatFmt) (c : Nat) : Prop := magOf f c < (2 ^ f.ebits - 1) * 2 ^ f.mbits

/-- The magnitude of a finite code in units of the smallest subnormal, 2^(1 − bias − m) (R95). -/
def grid (f : FloatFmt) (mag : Nat) : Nat :=
  if mag / 2 ^ f.mbits = 0 then mag % 2 ^ f.mbits else (2 ^ f.mbits + mag % 2 ^ f.mbits) * 2 ^ (mag / 2 ^ f.mbits - 1)

/-- An operand under FTZ: a subnormal is a zero of its sign (R101). -/
def flushed (f : FloatFmt) (ftz : Bool) (c : Nat) : Nat :=
  if ftz = true ∧ magOf f c < 2 ^ f.mbits then 2 ^ (f.ebits + f.mbits) * (if negOf f c then 1 else 0) else c

/-- The value of an operand, in units of the smallest subnormal. -/
def units (f : FloatFmt) (ftz : Bool) (c : Nat) : Int :=
  if negOf f c then - (grid f (magOf f (flushed f ftz c)) : Int) else grid f (magOf f (flushed f ftz c))

/-- How a magnitude is rounded: to nearest, toward zero, away from zero (R92). -/
inductive Way where
  | near | zero | away
  deriving DecidableEq, Repr

def wayOf (rm : Nat) (neg : Bool) : Way :=
  match rm with
  | 0 => .near
  | 1 => .zero
  | 2 => if neg then .zero else .away
  | _ => if neg then .away else .zero

/-- A magnitude x / one, in units of the smallest subnormal, overflows: rounded with an unbounded exponent it lies above the
largest finite value, so that it is at least, or rounds to, the value that the next code would have (R100). -/
def Overflows (f : FloatFmt) (w : Way) (x one : Nat) : Prop :=
  match w with
  | .near => if f.maxCode % 2 = 0 then (grid f f.maxCode + grid f (f.maxCode + 1)) * one < 2 * x
      else (grid f f.maxCode + grid f (f.maxCode + 1)) * one ≤ 2 * x
  | .zero => grid f (f.maxCode + 1) * one ≤ x
  | .away => grid f f.maxCode * one < x

/-- It is tiny: rounded with an unbounded exponent it lies below the smallest normal, 2^m units (R101). -/
def Tiny (f : FloatFmt) (w : Way) (x one : Nat) : Prop :=
  match w with
  | .near => 4 * x < (2 ^ (f.mbits + 2) - 1) * one
  | .zero => x < 2 ^ f.mbits * one
  | .away => 2 * x ≤ (2 ^ (f.mbits + 1) - 1) * one

/-- k is the finite magnitude code that x / one rounds to (R99). -/
def Nearest (f : FloatFmt) (w : Way) (x one k : Nat) : Prop :=
  k ≤ f.maxCode ∧ ∀ z, z ≤ f.maxCode →
    match w with
    | .near => let d (y : Nat) : Nat := ((grid f y * one : Nat) - (x : Int)).natAbs
               d k < d z ∨ k = z ∨ (d k = d z ∧ k % 2 = 0)
    | .zero => grid f k * one ≤ x ∧ (grid f z * one ≤ x → z ≤ k)
    | .away => x ≤ grid f k * one ∧ (x ≤ grid f z * one → k ≤ z)

/-- The code and flags that a nonzero x / one of a sign is delivered as (R99 to R102). -/
inductive Delivers (f : FloatFmt) (r : Rounding) (neg : Bool) (x one : Nat) : Nat × Flags → Prop where
  | over (k : Nat) : Overflows f (wayOf r.rm neg) x one → k = (if wayOf r.rm neg = .zero then f.maxCode else f.infCode) →
      Delivers f r neg x one (withSign f neg k, { of := true, nx := true })
  | flush : ¬ Overflows f (wayOf r.rm neg) x one → r.ftz = true → Tiny f (wayOf r.rm neg) x one →
      Delivers f r neg x one (withSign f neg 0, { uf := true, nx := true })
  | finite (k : Nat) (uf nx : Bool) : ¬ Overflows f (wayOf r.rm neg) x one → (r.ftz = true → ¬ Tiny f (wayOf r.rm neg) x one) →
      Nearest f (wayOf r.rm neg) x one k → (nx = true ↔ grid f k * one ≠ x) → (uf = true ↔ nx = true ∧ Tiny f (wayOf r.rm neg) x one) →
      Delivers f r neg x one (withSign f neg k, { uf := uf, nx := nx })

/-- A result y for the exact value x / one, whose zero has the sign z (R99, R104). -/
def Results (f : FloatFmt) (r : Rounding) (x : Int) (one : Nat) (z : Bool) (y : Nat × Flags) : Prop :=
  (x = 0 → y = (withSign f z 0, {})) ∧ (x ≠ 0 → Delivers f r (decide (x < 0)) x.natAbs one y)

/-- The sign of an exactly zero sum of two terms: that of both where both are zeros of one sign, else − under RM = 3 alone
(R104). -/
def zeroSign (rm : Nat) (n1 n2 : Bool) (x1 : Int) : Bool := if x1 = 0 ∧ n1 = n2 then n1 else rm == 3

/-- The finite operations of R110: the exact value in units of the smallest subnormal over `one`, and the sign of a zero. -/
inductive Computes (f : FloatFmt) (r : Rounding) (a b c : Nat) : FOp → Int → Nat → Bool → Prop where
  | add : Computes f r a b c .add (units f r.ftz a + units f r.ftz b) 1 (zeroSign r.rm (negOf f a) (negOf f b) (units f r.ftz a))
  | sub : Computes f r a b c .sub (units f r.ftz a - units f r.ftz b) 1 (zeroSign r.rm (negOf f a) (!negOf f b) (units f r.ftz a))
  | mul : Computes f r a b c .mul (units f r.ftz a * units f r.ftz b) (2 ^ (f.bias + f.mbits - 1)) (negOf f a != negOf f b)
  | fma : Computes f r a b c .fma (units f r.ftz a * units f r.ftz b + units f r.ftz c * 2 ^ (f.bias + f.mbits - 1))
      (2 ^ (f.bias + f.mbits - 1)) (zeroSign r.rm (negOf f a != negOf f b) (negOf f c) (units f r.ftz a * units f r.ftz b))
  | fms : Computes f r a b c .fms (units f r.ftz a * units f r.ftz b - units f r.ftz c * 2 ^ (f.bias + f.mbits - 1))
      (2 ^ (f.bias + f.mbits - 1)) (zeroSign r.rm (negOf f a != negOf f b) (!negOf f c) (units f r.ftz a * units f r.ftz b))
  | nma : Computes f r a b c .nma (units f r.ftz c * 2 ^ (f.bias + f.mbits - 1) - units f r.ftz a * units f r.ftz b)
      (2 ^ (f.bias + f.mbits - 1)) (zeroSign r.rm (negOf f a == negOf f b) (negOf f c) (units f r.ftz a * units f r.ftz b))

/-- The operands an operation of R110 reads. -/
def readsOf (op : FOp) (a b c : Nat) : List Nat :=
  match op with
  | .fma | .fms | .nma => [a, b, c]
  | _ => [a, b]

/-- The product of two operands is invalid: one is zero and the other infinite (R102). -/
def BadProduct (f : FloatFmt) (ftz : Bool) (a b : Nat) : Prop :=
  (IsInf f a ∧ IsFinite f b ∧ units f ftz b = 0) ∨ (IsFinite f a ∧ units f ftz a = 0 ∧ IsInf f b)

/-- Whether an operation multiplies, and whether it rounds (R110). -/
def FOp.multiplies (op : FOp) : Bool := op == .mul || op == .fma || op == .fms || op == .nma
def FOp.rounds (op : FOp) : Bool := op != .min && op != .max

/-- An operation on operands that are no NaN has an infinite term of sign s (R102, R104, R110). -/
inductive InfiniteTerm (f : FloatFmt) (a b c : Nat) : FOp → Bool → Prop where
  | addLeft : IsInf f a → InfiniteTerm f a b c .add (negOf f a)
  | addRight : IsInf f b → InfiniteTerm f a b c .add (negOf f b)
  | subLeft : IsInf f a → InfiniteTerm f a b c .sub (negOf f a)
  | subRight : IsInf f b → InfiniteTerm f a b c .sub (!negOf f b)
  | mul : (IsInf f a ∨ IsInf f b) → InfiniteTerm f a b c .mul (negOf f a != negOf f b)
  | fma : (IsInf f a ∨ IsInf f b) → InfiniteTerm f a b c .fma (negOf f a != negOf f b)
  | fmaAddend : IsInf f c → InfiniteTerm f a b c .fma (negOf f c)
  | fms : (IsInf f a ∨ IsInf f b) → InfiniteTerm f a b c .fms (negOf f a != negOf f b)
  | fmsAddend : IsInf f c → InfiniteTerm f a b c .fms (!negOf f c)
  | nma : (IsInf f a ∨ IsInf f b) → InfiniteTerm f a b c .nma (negOf f a == negOf f b)
  | nmaAddend : IsInf f c → InfiniteTerm f a b c .nma (negOf f c)

/-- What a rounding operation of R110 delivers where an operand is a NaN or infinite (R102 to R104). -/
inductive Special (f : FloatFmt) (ftz : Bool) (a b c : Nat) (op : FOp) : Nat × Flags → Prop where
  | nan (y : Nat) (nv : Bool) : FOp.rounds op = true → y ∈ readsOf op a b c → IsNan f y →
      (nv = true ↔ (∃ z ∈ readsOf op a b c, IsSig f z) ∨ (FOp.multiplies op = true ∧ BadProduct f ftz a b)) →
      Special f ftz a b c op (f.nanCode, { nv := nv })
  | product : FOp.multiplies op = true → BadProduct f ftz a b → Special f ftz a b c op (f.nanCode, { nv := true })
  | cancel : (∀ y ∈ readsOf op a b c, ¬ IsNan f y) → (FOp.multiplies op = true → ¬ BadProduct f ftz a b) → InfiniteTerm f a b c op true →
      InfiniteTerm f a b c op false → Special f ftz a b c op (f.nanCode, { nv := true })
  | infinite (s : Bool) : (∀ y ∈ readsOf op a b c, ¬ IsNan f y) → (FOp.multiplies op = true → ¬ BadProduct f ftz a b) →
      InfiniteTerm f a b c op s → ¬ InfiniteTerm f a b c op (!s) → Special f ftz a b c op (withSign f s f.infCode, {})

/-- How two operands that are no NaN compare: −∞, the finite values in order, +∞ (R112). -/
def ordered (f : FloatFmt) (ftz : Bool) (a b : Nat) : Ordering :=
  let rank (c : Nat) : Int := if magOf f c = (2 ^ f.ebits - 1) * 2 ^ f.mbits then (if negOf f c then -1 else 1) else 0
  if rank a < rank b then .lt else if rank b < rank a then .gt
  else if rank a ≠ 0 then .eq else compare (units f ftz a) (units f ftz b)

/-- Whether a condition of R112 holds of an ordered pair. -/
def FCond.test (c : FCond) (o : Ordering) : Bool :=
  match c with
  | .eq => o == .eq
  | .ne => o != .eq
  | .lt => o == .lt
  | .le => o != .gt
  | .gt => o == .gt
  | .ge => o != .lt
  | .un => false

/-- The lesser of two operands that are no NaN, −0 below +0 (R111). -/
def lesser (f : FloatFmt) (ftz : Bool) (a b : Nat) : Bool :=
  ordered f ftz a b == .lt || (ordered f ftz a b == .eq && negOf f a && !negOf f b)

/-- What `vfmin` (or, with `big`, `vfmax`) delivers (R111). -/
inductive Extreme (f : FloatFmt) (ftz big : Bool) (a b : Nat) : Nat × Flags → Prop where
  | numbers : ¬ IsNan f a → ¬ IsNan f b → Extreme f ftz big a b (flushed f ftz (if lesser f ftz a b == big then b else a), {})
  | left (nv : Bool) : IsNan f a → ¬ IsNan f b → (nv = true ↔ IsSig f a) → Extreme f ftz big a b (flushed f ftz b, { nv := nv })
  | right (nv : Bool) : ¬ IsNan f a → IsNan f b → (nv = true ↔ IsSig f b) → Extreme f ftz big a b (flushed f ftz a, { nv := nv })
  | both (nv : Bool) : IsNan f a → IsNan f b → (nv = true ↔ IsSig f a ∨ IsSig f b) →
      Extreme f ftz big a b (f.nanCode, { nv := nv })

/-- What a compare answers (R112): whether its condition holds, and its flags. -/
inductive Compares (f : FloatFmt) (ftz : Bool) (c : FCond) (a b : Nat) : Bool × Flags → Prop where
  | numbers : ¬ IsNan f a → ¬ IsNan f b → Compares f ftz c a b (FCond.test c (ordered f ftz a b), {})
  | nan (nv : Bool) : (IsNan f a ∨ IsNan f b) →
      (nv = true ↔ IsSig f a ∨ IsSig f b ∨ c = .lt ∨ c = .le ∨ c = .gt ∨ c = .ge) →
      Compares f ftz c a b (decide (c = .ne ∨ c = .un), { nv := nv })

/-- The class bit of a code (R113). -/
inductive ClassOf (f : FloatFmt) (c : Nat) : Nat → Prop where
  | quiet : IsNan f c → ¬ IsSig f c → ClassOf f c 9
  | signalling : IsSig f c → ClassOf f c 8
  | inf : IsInf f c → ClassOf f c (if negOf f c then 0 else 7)
  | normal : IsFinite f c → 2 ^ f.mbits ≤ magOf f c → ClassOf f c (if negOf f c then 1 else 6)
  | subnormal : 0 < magOf f c → magOf f c < 2 ^ f.mbits → ClassOf f c (if negOf f c then 2 else 5)
  | zero : magOf f c = 0 → ClassOf f c (if negOf f c then 3 else 4)

/-- The special operands of R123: the function, the operand's code under FTZ = 0, the result's code and its flags. -/
inductive SpecialValue : SfuFn → Nat → Nat → Flags → Prop where
  | rcpZero (s : Bool) : SpecialValue .rcp (withSign fmtF32 s 0) (withSign fmtF32 s 0x7F800000) { dz := true }
  | rcpInf (s : Bool) : SpecialValue .rcp (withSign fmtF32 s 0x7F800000) (withSign fmtF32 s 0) {}
  | rsqZero (s : Bool) : SpecialValue .rsq (withSign fmtF32 s 0) (withSign fmtF32 s 0x7F800000) { dz := true }
  | rsqInf : SpecialValue .rsq 0x7F800000 0 {}
  | sqrtZero (s : Bool) : SpecialValue .sqrt (withSign fmtF32 s 0) (withSign fmtF32 s 0) {}
  | sqrtInf : SpecialValue .sqrt 0x7F800000 0x7F800000 {}
  | exp2Zero (s : Bool) : SpecialValue .exp2 (withSign fmtF32 s 0) 0x3F800000 {}
  | exp2Inf (s : Bool) : SpecialValue .exp2 (withSign fmtF32 s 0x7F800000) (if s then 0 else 0x7F800000) {}
  | log2Zero (s : Bool) : SpecialValue .log2 (withSign fmtF32 s 0) 0xFF800000 { dz := true }
  | log2Inf : SpecialValue .log2 0x7F800000 0x7F800000 {}
  | log2One : SpecialValue .log2 0x3F800000 0 {}
  | negative (fn : SfuFn) (c : Nat) : (fn = .rsq ∨ fn = .sqrt ∨ fn = .log2) → 0x80000000 < c → c ≤ 0xFF800000 →
      SpecialValue fn c 0x7FC00000 { nv := true }
  | circleInf (fn : SfuFn) (s : Bool) : (fn = .sin ∨ fn = .cos) → SpecialValue fn (withSign fmtF32 s 0x7F800000) 0x7FC00000 { nv := true }
  | sinZero (s : Bool) : SpecialValue .sin (withSign fmtF32 s 0) (withSign fmtF32 s 0) {}
  | cosZero (s : Bool) : SpecialValue .cos (withSign fmtF32 s 0) 0x3F800000 {}
  | sinLarge (s : Bool) (c : Nat) : 0x4A800000 ≤ c → c < 0x7F800000 → SpecialValue .sin (withSign fmtF32 s c) (withSign fmtF32 s 0) {}
  | tanhZero (s : Bool) : SpecialValue .tanh (withSign fmtF32 s 0) (withSign fmtF32 s 0) {}
  | tanhInf (s : Bool) : SpecialValue .tanh (withSign fmtF32 s 0x7F800000) (withSign fmtF32 s 0x3F800000) {}

/-- A quotient of FP32 codes of which one is a NaN, infinite or a divisor of zero (R123). -/
inductive SpecialQuotient (ftz : Bool) (a b : Nat) : Nat × Flags → Prop where
  | nan (nv : Bool) : (IsNan fmtF32 a ∨ IsNan fmtF32 b) → (nv = true ↔ IsSig fmtF32 a ∨ IsSig fmtF32 b) →
      SpecialQuotient ftz a b (fmtF32.nanCode, { nv := nv })
  | zeros : IsFinite fmtF32 a → IsFinite fmtF32 b → units fmtF32 ftz a = 0 → units fmtF32 ftz b = 0 →
      SpecialQuotient ftz a b (fmtF32.nanCode, { nv := true })
  | infinities : IsInf fmtF32 a → IsInf fmtF32 b → SpecialQuotient ftz a b (fmtF32.nanCode, { nv := true })
  | byZero : IsFinite fmtF32 a → IsFinite fmtF32 b → units fmtF32 ftz a ≠ 0 → units fmtF32 ftz b = 0 →
      SpecialQuotient ftz a b (withSign fmtF32 (negOf fmtF32 a != negOf fmtF32 b) fmtF32.infCode, { dz := true })
  | ofInfinity : IsInf fmtF32 a → IsFinite fmtF32 b →
      SpecialQuotient ftz a b (withSign fmtF32 (negOf fmtF32 a != negOf fmtF32 b) fmtF32.infCode, {})
  | byInfinity : IsFinite fmtF32 a → IsInf fmtF32 b →
      SpecialQuotient ftz a b (withSign fmtF32 (negOf fmtF32 a != negOf fmtF32 b) 0, {})

/-- FP32 to E8M0, the source flushed before (R128). -/
inductive Exponent (c : Nat) : Nat × Flags → Prop where
  | normal (nx : Bool) : IsFinite fmtF32 c → 2 ^ 23 ≤ magOf fmtF32 c → (nx = true ↔ magOf fmtF32 c % 2 ^ 23 ≠ 0) →
      Exponent c (magOf fmtF32 c / 2 ^ 23, { nx := nx })
  | small (nx : Bool) : magOf fmtF32 c < 2 ^ 23 → (nx = true ↔ magOf fmtF32 c ≠ 2 ^ 22) → Exponent c (0, { nx := nx })
  | none : ¬ IsFinite fmtF32 c → Exponent c (0xFF, { nv := true })

/-- n is the magnitude that x / one rounds to as an integer (R92, R129). -/
def Rounds (w : Way) (x one n : Nat) : Prop :=
  match w with
  | .near => let d : Nat := ((n * one : Nat) - (x : Int)).natAbs
             2 * d < one ∨ (2 * d = one ∧ n % 2 = 0)
  | .zero => n * one ≤ x ∧ x < (n + 1) * one
  | .away => n * one < x + one ∧ x ≤ n * one

/-- A finite FP32 value of `x` units as an integer of a range (R129). -/
inductive Integer (rm : Nat) (sat : Bool) (lo hi x : Int) : Int × Flags → Prop where
  | inside (n : Nat) (v : Int) (nx : Bool) : Rounds (wayOf rm (decide (x < 0))) x.natAbs (2 ^ 149) n →
      v = (if x < 0 then - (n : Int) else n) → lo ≤ v → v ≤ hi → (nx = true ↔ n * 2 ^ 149 ≠ x.natAbs) → Integer rm sat lo hi x (v, { nx := nx })
  | outside (n : Nat) (v : Int) : Rounds (wayOf rm (decide (x < 0))) x.natAbs (2 ^ 149) n →
      v = (if x < 0 then - (n : Int) else n) → (v < lo ∨ hi < v) → Integer rm sat lo hi x (if v < lo then lo else hi, { nv := !sat, nx := sat })

/-! Acc16 (R274). -/

/-- A pair of finite factors whose product is a multiple of 2^q. -/
def FiniteTerm (q : Int) (p : Fp × Fp) : Prop := ∃ n m e n' m' e', p = (.fin n m e, .fin n' m' e') ∧ q ≤ e + e'

/-- The product of such a pair in units of 2^q. -/
def termUnits (q : Int) : Fp × Fp → Int
  | (.fin n m e, .fin n' m' e') =>
    let v : Nat := m * m' * 2 ^ (e + e' - q).toNat
    if n != n' then - (v : Int) else v
  | _ => 0

/-- The product is −0 (R274). -/
def termNegZero : Fp × Fp → Bool
  | (.fin n m _, .fin n' m' _) => n != n' && m * m' == 0
  | _ => false

/-- The sign of the infinite product of a pair without NaNs. -/
def termInf : Fp × Fp → Option Bool
  | (.inf n, .inf n') => some (n != n')
  | (.inf n, .fin n' m _) => if m = 0 then none else some (n != n')
  | (.fin n m _, .inf n') => if m = 0 then none else some (n != n')
  | _ => none

/-- One factor of the pair is zero and the other infinite. -/
def BadTerm (p : Fp × Fp) : Prop := ∃ n n' e, p = (.inf n, .fin n' 0 e) ∨ p = (.fin n' 0 e, .inf n)

/-- The first rows of R274, in their order: what Acc16 gives where its sum is no finite number. -/
inductive SpecialSum (c : Nat) (ps : List (Fp × Fp)) : Nat → Prop where
  | nan : (IsNan fmtF32 c ∨ ∃ p ∈ ps, ∃ s, p.1 = .nan s ∨ p.2 = .nan s) → SpecialSum c ps 0x7FC00000
  | product (p : Fp × Fp) : p ∈ ps → BadTerm p → SpecialSum c ps 0x7FC00000
  | both : (∀ s : Bool, (IsInf fmtF32 c ∧ negOf fmtF32 c = s) ∨ ∃ p ∈ ps, termInf p = some s) → SpecialSum c ps 0x7FC00000
  | infinite (s : Bool) : ¬ IsNan fmtF32 c → (∀ p ∈ ps, (∀ s, p.1 ≠ .nan s ∧ p.2 ≠ .nan s) ∧ ¬ BadTerm p) →
      ((IsInf fmtF32 c ∧ negOf fmtF32 c = s) ∨ ∃ p ∈ ps, termInf p = some s) →
      ¬ ((IsInf fmtF32 c ∧ negOf fmtF32 c = !s) ∨ ∃ p ∈ ps, termInf p = some (!s)) →
      SpecialSum c ps (withSign fmtF32 s 0x7F800000)

/-! Quantised blocks (R294), of FP32 codes that are all finite. -/

/-- The element formats of `vqblk`: its function, the format, emax, and the exponent k by which its smallest subnormal is 2^(k + S)
units of an input's value under the scale S. -/
inductive BlockFormat : Nat → FloatFmt → Nat → Nat → Prop where
  | e2m1x : BlockFormat 0 fmtE2M1 2 21
  | e4m3 : BlockFormat 1 fmtE4M3 8 13
  | e5m2 : BlockFormat 2 fmtE5M2 15 6

/-- The scale of a block whose greatest magnitude is u ≠ 0 smallest subnormals of FP32. -/
def BlockScale (emax u S : Nat) : Prop :=
  (S ≤ 254 ∧ 2 ^ (S + emax + 22) ≤ u ∧ u < 2 ^ (S + emax + 23)) ∨ (S = 0 ∧ u < 2 ^ (emax + 22))
    ∨ (S = 254 ∧ 2 ^ (emax + 276) ≤ u)

/-- The code of a value of x units over `one`, to nearest, ties to the even code, saturated, a zero magnitude as code 0. -/
def NearestCode (f : FloatFmt) (x : Int) (one c : Nat) : Prop :=
  ∃ k, Nearest f .near x.natAbs one k ∧ c = if k = 0 then 0 else withSign f (decide (x < 0)) k

/-- The value of a code in the units of its inputs. -/
def codeUnits (f : FloatFmt) (one c : Nat) : Int := units f false c * one

/-- What the codes of a block of E2M1X miss its values by: |y − v(q)| of each (R294). -/
def missed (xs : List Int) (S : Nat) (qs : List Nat) (i : Nat) : Nat :=
  (xs.getD i 0 - codeUnits fmtE2M1 (2 ^ (21 + S)) (qs.getD i 0)).natAbs

/-- b is the block of these inputs, in units of 2^-149 (R294). -/
inductive Quantised (fn : Nat) (xs : List Int) : Block → Prop where
  | zero : (∀ x ∈ xs, x = 0) → Quantised fn xs ⟨0x7F, 0, xs.map fun _ => 0⟩
  | plain (f : FloatFmt) (emax k u S : Nat) (qs : List Nat) : fn ≠ 0 → BlockFormat fn f emax k → (∃ x ∈ xs, x.natAbs = u) →
      (∀ x ∈ xs, x.natAbs ≤ u) → u ≠ 0 → BlockScale emax u S → qs.length = xs.length →
      (∀ i, i < xs.length → NearestCode f (xs.getD i 0) (2 ^ (k + S)) (qs.getD i 0)) → Quantised fn xs ⟨S, 0, qs⟩
  | extended (u S X i : Nat) (qs cs : List Nat) : fn = 0 → (∃ x ∈ xs, x.natAbs = u) → (∀ x ∈ xs, x.natAbs ≤ u) → u ≠ 0 →
      BlockScale 2 u S → qs.length = xs.length →
      (∀ j, j < xs.length → NearestCode fmtE2M1 (xs.getD j 0) (2 ^ (21 + S)) (qs.getD j 0)) →
      i < xs.length → (∀ j, j < xs.length → missed xs S qs j ≤ missed xs S qs i ∧ (j < i → missed xs S qs j < missed xs S qs i)) →
      (missed xs S qs i = 0 → X = 0) → (missed xs S qs i ≠ 0 → NearestCode fmtE4M3 (xs.getD i 0) (2 ^ (13 + S)) X) →
      cs.length = xs.length →
      (∀ j, j < xs.length → cs.getD j 0 =
        if X ≠ 0 ∧ (xs.getD j 0 - codeUnits fmtE4M3 (2 ^ (13 + S)) X).natAbs < missed xs S qs j then 8 else qs.getD j 0) →
      Quantised fn xs ⟨S, X, cs⟩

end Sys2Proof.Rules
end

