-- ==== Sys2Proof/Rules/Conversions.lean ====
section
/-!
DEFINITION. Terms of the statements: what `vcvt` delivers on one thread's values (R126 to R130), what a vector register holds of a
packed pair (R98), and the roots and the exact values of R123.
-/

namespace Sys2Proof.Rules

open Sys2Proof.Machine

/-- The floating formats of `vcvt` beside FP32: the number F, the format, the width of an element, and the format's smallest
subnormal in units of that of FP32 (R126, R127). -/
inductive Narrow : Nat → FloatFmt → Nat → Nat → Prop where
  | f16 : Narrow 0 fmtF16 16 (2 ^ 125)
  | bf16 : Narrow 1 fmtBF16 16 (2 ^ 16)
  | e4m3 : Narrow 2 fmtE4M3 8 (2 ^ 140)
  | e5m2 : Narrow 3 fmtE5M2 8 (2 ^ 133)
  | e2m1 : Narrow 4 fmtE2M1 4 (2 ^ 148)

/-- The magnitude that a format's overflow row delivers, and its flags (R128). -/
inductive Overflown (F : Nat) (f : FloatFmt) (sat : Bool) (w : Way) : Nat → Flags → Prop where
  | sat : sat = true → Overflown F f sat w f.maxCode { nx := true }
  | e4m3 : sat = false → F = 2 → Overflown F f sat w 0x7F { of := true, nx := true }
  | e2m1 : sat = false → F = 4 → Overflown F f sat w f.maxCode { of := true, nx := true }
  | largest : sat = false → F ≠ 2 → F ≠ 4 → w = .zero → Overflown F f sat w f.maxCode { of := true, nx := true }
  | infinite : sat = false → F ≠ 2 → F ≠ 4 → w ≠ .zero → Overflown F f sat w f.infCode { of := true, nx := true }

/-- The code and flags of an infinity or a NaN (R128). -/
inductive Unbounded (F : Nat) (f : FloatFmt) (sat : Bool) (c : Nat) : Nat × Flags → Prop where
  | nan (nv : Bool) : IsNan fmtF32 c → F ≠ 4 → (nv = true ↔ IsSig fmtF32 c) → Unbounded F f sat c (f.nanCode, { nv := nv })
  | e2m1Nan : IsNan fmtF32 c → F = 4 → Unbounded F f sat c (0, { nv := true })
  | sat : IsInf fmtF32 c → sat = true → Unbounded F f sat c (withSign f (negOf fmtF32 c) f.maxCode, { nx := true })
  | e4m3 : IsInf fmtF32 c → sat = false → F = 2 → Unbounded F f sat c (0x7F, { nv := true })
  | e2m1 : IsInf fmtF32 c → sat = false → F = 4 → Unbounded F f sat c (withSign f (negOf fmtF32 c) f.maxCode, { of := true, nx := true })
  | infinite : IsInf fmtF32 c → sat = false → F ≠ 2 → F ≠ 4 → Unbounded F f sat c (withSign f (negOf fmtF32 c) f.infCode, {})

/-- A sign put on what the overflow row delivers; E4M3's has none without `.sat`: 0x7F is its NaN. -/
def overSign (F : Nat) (f : FloatFmt) (sat neg : Bool) (k : Nat) : Nat := if F = 2 ∧ sat = false then k else withSign f neg k

/-- The code and flags that a nonzero finite magnitude x / one narrows to, by FPCTL.RM (R99 to R101, R128). -/
inductive Rounded (F : Nat) (f : FloatFmt) (sat : Bool) (r : Rounding) (neg : Bool) (x one : Nat) : Nat × Flags → Prop where
  | over (k : Nat) (fl : Flags) : Overflows f (wayOf r.rm neg) x one → Overflown F f sat (wayOf r.rm neg) k fl →
      Rounded F f sat r neg x one (overSign F f sat neg k, fl)
  | flush : ¬ Overflows f (wayOf r.rm neg) x one → r.ftz = true → F < 2 → Tiny f (wayOf r.rm neg) x one →
      Rounded F f sat r neg x one (withSign f neg 0, { uf := true, nx := true })
  | finite (k : Nat) (uf nx : Bool) : ¬ Overflows f (wayOf r.rm neg) x one → ¬ (r.ftz = true ∧ F < 2 ∧ Tiny f (wayOf r.rm neg) x one) →
      Nearest f (wayOf r.rm neg) x one k → (nx = true ↔ grid f k * one ≠ x) → (uf = true ↔ nx = true ∧ Tiny f (wayOf r.rm neg) x one) →
      Rounded F f sat r neg x one (withSign f neg k, { uf := uf, nx := nx })

/-- The magnitude code j that x / one rounds to with a draw g, k being the one that it truncates to, in an unbounded exponent range
(R130). -/
def Drawn (f : FloatFmt) (g x one k j : Nat) : Prop :=
  grid f k * one ≤ x ∧ x < grid f (k + 1) * one
    ∧ j = if 2 ^ 32 ≤ (x - grid f k * one) * 2 ^ 32 / ((grid f (k + 1) - grid f k) * one) + g then k + 1 else k

/-- The magnitude is tiny, tested with the same draw at the spacing below the smallest normal (R101; log 71). -/
def TinyDrawn (f : FloatFmt) (g x one : Nat) : Prop :=
  x < 2 ^ f.mbits * one ∧ (2 * x < (2 ^ (f.mbits + 1) - 1) * one
    ∨ (2 * x - (2 ^ (f.mbits + 1) - 1) * one) * 2 ^ 32 / one + g < 2 ^ 32)

/-- The code and flags that it narrows to with a draw g (R130). -/
inductive Stochastic (F : Nat) (f : FloatFmt) (sat ftz : Bool) (g : Nat) (neg : Bool) (x one : Nat) : Nat × Flags → Prop where
  | over (k j m : Nat) (fl : Flags) : Drawn f g x one k j → f.maxCode < j → Overflown F f sat .near m fl →
      Stochastic F f sat ftz g neg x one (overSign F f sat neg m, fl)
  | flush (k j : Nat) : Drawn f g x one k j → j ≤ f.maxCode → ftz = true → F < 2 → TinyDrawn f g x one →
      Stochastic F f sat ftz g neg x one (withSign f neg 0, { uf := true, nx := true })
  | finite (k j : Nat) (uf nx : Bool) : Drawn f g x one k j → j ≤ f.maxCode → ¬ (ftz = true ∧ F < 2 ∧ TinyDrawn f g x one) →
      (nx = true ↔ grid f k * one ≠ x) → (uf = true ↔ nx = true ∧ TinyDrawn f g x one) →
      Stochastic F f sat ftz g neg x one (withSign f neg j, { uf := uf, nx := nx })

/-- The code and flags that an FP32 code narrows to: without a draw, or with one. -/
inductive Narrowed (F : Nat) (f : FloatFmt) (one : Nat) (sat : Bool) (r : Rounding) (draw : Option Nat) (c : Nat) : Nat × Flags → Prop where
  | unbounded (y : Nat × Flags) : Unbounded F f sat c y → Narrowed F f one sat r draw c y
  | zero : IsFinite fmtF32 c → units fmtF32 r.ftz c = 0 → Narrowed F f one sat r draw c (withSign f (negOf fmtF32 c) 0, {})
  | rounded (y : Nat × Flags) : IsFinite fmtF32 c → units fmtF32 r.ftz c ≠ 0 → draw = none →
      Rounded F f sat r (negOf fmtF32 c) (units fmtF32 r.ftz c).natAbs one y → Narrowed F f one sat r draw c y
  | stochastic (g : Nat) (y : Nat × Flags) : IsFinite fmtF32 c → units fmtF32 r.ftz c ≠ 0 → draw = some g →
      Stochastic F f sat r.ftz g (negOf fmtF32 c) (units fmtF32 r.ftz c).natAbs one y → Narrowed F f one sat r draw c y

/-- An FP32 code as an integer of a range, in any case (R129). -/
inductive ToInteger (rm : Nat) (ftz sat : Bool) (lo hi : Int) (c : Nat) : Int × Flags → Prop where
  | nan : IsNan fmtF32 c → ToInteger rm ftz sat lo hi c (0, { nv := true })
  | infinite : IsInf fmtF32 c → ToInteger rm ftz sat lo hi c (if negOf fmtF32 c then lo else hi, { nv := !sat, nx := sat })
  | finite (y : Int × Flags) : IsFinite fmtF32 c → Integer rm sat lo hi (units fmtF32 ftz c) y → ToInteger rm ftz sat lo hi c y

/-- Position p of a register, in elements of w bits (R126). -/
def position (w p : Nat) (x : Word) : Nat := x.toNat / 2 ^ (w * p) % 2 ^ w

/-- y is d with position p replaced by a code, its other bits kept (R128). -/
def Replaces (w p : Nat) (d : Word) (code : Nat) (y : Word) : Prop :=
  position w p y = code ∧ ∀ i, i < 32 → (i < w * p ∨ w * p + w ≤ i) → y.getLsbD i = d.getLsbD i

/-- A conversion code's fields: D, F and P (R127). -/
def cvtCode (D F P : Nat) : Reg := BitVec.ofNat 7 (D * 64 + F * 8 + P)

/-- Conversions from FP32: `a` the source, `d` the destination as read at issue, y what is written (R128 to R130). -/
inductive FromF32 (r : Rounding) (sat : Bool) (draw : Option Nat) (a d : Word) : Nat → Nat → Word × Flags → Prop where
  | float (F P w one code : Nat) (f : FloatFmt) (y : Word) (fl : Flags) : Narrow F f w one → P < 32 / w →
      Narrowed F f one sat r draw a.toNat (code, fl) → Replaces w P d code y → FromF32 r sat draw a d F P (y, fl)
  | exponent (P code : Nat) (y : Word) (fl : Flags) : P < 4 → Exponent (flushed fmtF32 r.ftz a.toNat) (code, fl) → Replaces 8 P d code y →
      FromF32 r sat draw a d 5 P (y, fl)
  | signed (P : Nat) (v : Int) (fl : Flags) : (P = 0 ∨ P = 2) →
      ToInteger (if P = 0 then r.rm else 1) r.ftz sat (-(2 ^ 31)) (2 ^ 31 - 1) a.toNat (v, fl) →
      FromF32 r sat draw a d 6 P (BitVec.ofInt 32 v, fl)
  | natural (P : Nat) (v : Int) (fl : Flags) : (P = 1 ∨ P = 3) →
      ToInteger (if P = 1 then r.rm else 1) r.ftz sat 0 (2 ^ 32 - 1) a.toNat (v, fl) → FromF32 r sat draw a d 6 P (BitVec.ofInt 32 v, fl)
  | byte (P : Nat) (v : Int) (y : Word) (fl : Flags) : P < 4 → ToInteger r.rm r.ftz sat (-(2 ^ 7)) (2 ^ 7 - 1) a.toNat (v, fl) →
      Replaces 8 P d (BitVec.ofInt 8 v).toNat y → FromF32 r sat draw a d 7 P (y, fl)
  | naturalByte (P : Nat) (v : Int) (y : Word) (fl : Flags) : P < 4 → ToInteger r.rm r.ftz sat 0 (2 ^ 8 - 1) a.toNat (v, fl) →
      Replaces 8 P d (BitVec.ofInt 8 v).toNat y → FromF32 r sat draw a d 7 (P + 4) (y, fl)

/-- A NaN code of one of the formats of `vcvt`; a signalling one; an infinity. -/
def NarrowNan (F : Nat) (f : FloatFmt) (c : Nat) : Prop := (F = 2 ∧ magOf f c = 0x7F) ∨ (F ≠ 2 ∧ F ≠ 4 ∧ IsNan f c)
def NarrowSig (F : Nat) (f : FloatFmt) (c : Nat) : Prop := F ≠ 2 ∧ F ≠ 4 ∧ IsSig f c
def NarrowInf (F : Nat) (f : FloatFmt) (c : Nat) : Prop := F ≠ 2 ∧ F ≠ 4 ∧ IsInf f c

/-- Conversions to FP32 of the code or integer in `a`: a result code and flags (R128). FTZ flushes FP16 and BF16 inputs and FP32
results. -/
inductive ToF32 (r : Rounding) (a : Word) : Nat → Nat → Nat × Flags → Prop where
  | nan (F P w one : Nat) (f : FloatFmt) (nv : Bool) : Narrow F f w one → P < 32 / w → NarrowNan F f (position w P a) →
      (nv = true ↔ NarrowSig F f (position w P a)) → ToF32 r a F P (fmtF32.nanCode, { nv := nv })
  | infinite (F P w one : Nat) (f : FloatFmt) : Narrow F f w one → P < 32 / w → NarrowInf F f (position w P a) →
      ToF32 r a F P (withSign fmtF32 (negOf f (position w P a)) fmtF32.infCode, {})
  | finite (F P w one : Nat) (f : FloatFmt) (y : Nat × Flags) : Narrow F f w one → P < 32 / w → ¬ NarrowNan F f (position w P a) →
      ¬ NarrowInf F f (position w P a) →
      Results fmtF32 r (units f (r.ftz && decide (F < 2)) (position w P a) * one) 1 (negOf f (position w P a)) y → ToF32 r a F P y
  | noExponent (P : Nat) : P < 4 → position 8 P a = 0xFF → ToF32 r a 5 P (fmtF32.nanCode, {})
  | exponent (P : Nat) (y : Nat × Flags) : P < 4 → position 8 P a ≠ 0xFF →
      Results fmtF32 r (2 ^ (position 8 P a + 22)) 1 false y → ToF32 r a 5 P y
  | signed (y : Nat × Flags) : Results fmtF32 r (a.toInt * 2 ^ 149) 1 false y → ToF32 r a 6 0 y
  | natural (y : Nat × Flags) : Results fmtF32 r (a.toNat * 2 ^ 149) 1 false y → ToF32 r a 6 1 y
  | byte (P : Nat) (y : Nat × Flags) : P < 4 → Results fmtF32 r ((BitVec.ofNat 8 (position 8 P a)).toInt * 2 ^ 149) 1 false y →
      ToF32 r a 7 P y
  | naturalByte (P : Nat) (y : Nat × Flags) : P < 4 → Results fmtF32 r (position 8 P a * 2 ^ 149) 1 false y → ToF32 r a 7 (P + 4) y

/-- The conversion codes that are not reserved (R127). -/
def codesFrom : List (Nat × Nat) :=
  [(0, 2), (1, 2), (2, 4), (3, 4), (4, 8), (5, 4), (6, 4), (7, 8)].flatMap fun x => (List.range x.2).map fun p => (x.1, p)
def codesInto : List (Nat × Nat) :=
  [(0, 2), (1, 2), (2, 4), (3, 4), (4, 8), (5, 4), (6, 2), (7, 8)].flatMap fun x => (List.range x.2).map fun p => (x.1, p)

/-! Packed pairs (R98). -/

/-- The types with two elements in a register, and their format. -/
inductive PairType : FType → FloatFmt → Prop where
  | f16 : PairType .f16x2 fmtF16
  | bf16 : PairType .bf16x2 fmtBF16

/-- y has these two elements. -/
def Halves (y : Word) (lo hi : Nat) : Prop := y.toNat % 2 ^ 16 = lo ∧ y.toNat / 2 ^ 16 = hi

/-! Special functions (R123). -/

/-- k is the code whose value y, in units of 2^-149, is the rounded root of y² × q = p. -/
def RootOf (w : Way) (p q k : Nat) : Prop :=
  0 < k ∧ match w with
    | .near => (grid fmtF32 (k - 1) + grid fmtF32 k) ^ 2 * q < 4 * p ∧ 4 * p < (grid fmtF32 k + grid fmtF32 (k + 1)) ^ 2 * q
    | .zero => grid fmtF32 k ^ 2 * q ≤ p ∧ p < grid fmtF32 (k + 1) ^ 2 * q
    | .away => grid fmtF32 (k - 1) ^ 2 * q < p ∧ p ≤ grid fmtF32 k ^ 2 * q

/-- The sine and the cosine of q quarter turns: a code, s being the sign of the operand. -/
inductive QuarterTurns (q : Int) (s : Bool) : SfuFn → Nat → Prop where
  | sinZero : q % 2 = 0 → QuarterTurns q s .sin (withSign fmtF32 s 0)
  | sinOne : q % 4 = 1 → QuarterTurns q s .sin 0x3F800000
  | sinMinusOne : q % 4 = 3 → QuarterTurns q s .sin 0xBF800000
  | cosZero : q % 2 = 1 → QuarterTurns q s .cos 0
  | cosOne : q % 4 = 0 → QuarterTurns q s .cos 0x3F800000
  | cosMinusOne : q % 4 = 2 → QuarterTurns q s .cos 0xBF800000

end Sys2Proof.Rules
end

