-- ==== Sys2Proof/Rules/Engines.lean ====
section
/-!
DEFINITION. Terms of the statements: the copy and pipe instructions at issue, and the steps of the copy engine, the
holding buffer, bulk streams and pipe homes (R202 to R237). In each rule u is the state with the group's own earlier
accesses performed (R159).
-/

namespace Sys2Proof.Rules

open Sys2Proof.Machine

/-- The issuing group's core, and a scalar register as a number. -/
def myCore (s : State) : Nat := coreOfGid s.cur
def sReg (s : State) (r : Reg) : Nat := (s.me.getS r.toNat).toNat

/-- A byte-count object operand: register field 0 names none (R40). -/
def objectOf (s : State) (c : Reg) : Option Nat := if c = 0 then none else some (sReg s c)

/-- The queue has room for one more of its 32 entries, and the token for one more of its 255 operations (R202, R207). -/
def MayEnter (s : State) (q k : Nat) : Prop := ((s.core (myCore s)).queue q).length < 32 ∧ (s.me.token k).pend < 255

/-- The state with an entry put at the end of a queue of the issuing core, and PEND[k] counted up (R202, R207). -/
def entered (s : State) (q : Nat) (k : BitVec 3) (e : Entry) : State :=
  let g := s.me.setToken k.toNat { s.me.token k.toNat with pend := (s.me.token k.toNat).pend + 1 }
  let c := s.core (myCore s)
  { (s.setMe g).setCore (myCore s) { c with queues := c.queues.putD [] q (c.queue q ++ [{ e with id := s.nextTicket }]) } with
    nextTicket := s.nextTicket + 1 }

/-- An entry that moves nothing itself. -/
def plainEntry (s : State) (kind : EntryKind) (k : BitVec 3) : Entry :=
  { kind := kind, owner := s.cur, token := some k.toNat, dst := {}, src := {}, rows := 0, rb := 0, obj := none
    task := s.me.task, plan := s.me.plan }

/-- The tokens of a mask are complete (R213). -/
def TokensDone (s : State) (mask : BitVec 8) : Prop := ∀ k, k < 8 → mask.getLsbD k = true → (s.me.token k).pend = 0

/-- A byte-count object that passes the checks of R214, at place x. -/
structure GoodObject (s : State) (g : BitVec 3) (a : Reg) (x : Nat) : Prop where
  space : (segOf s g).space = 1
  aligned : sReg s a % 8 = 0
  inside : sReg s a + 8 ≤ (segOf s g).limit
  mayRead : (segOf s g).r = true
  place : x = scratchAddr (myCore s) ((segOf s g).base + sReg s a)
  correct : ∀ p ∈ s.bad, p.1 < x ∨ x + 8 ≤ p.1
  upper : s.num x 8 < 2 ^ 33

/-- The copy instructions at issue. -/
inductive CopyRule : Instr → State → State → Prop where
  /-- R208: an entry, once the checks of R209 pass with records d and r -/
  | cpy (s u : State) (m : Bool) (q : BitVec 2) (k : BitVec 3) (a b c : Reg) (d r : Rec) : Issuing s → Settles s u →
      s.me.mode ≠ .control → MayEnter u q.toNat k.toNat →
      u.copyCheck (sReg u a) (sReg u b) (objectOf u c) (fun _ _ => none) = .ok (d, r) →
      CopyRule (.cpy m q k a b c) s
        (done m (entered u q.toNat k (u.entryOf .copy k (sReg u a) (sReg u b) d r (objectOf u c))))
  /-- R202, R207: without room it waits -/
  | cpyWaits (s u : State) (m : Bool) (q : BitVec 2) (k : BitVec 3) (a b c : Reg) : Issuing s → Settles s u →
      s.me.mode ≠ .control → ¬ MayEnter u q.toNat k.toNat → CopyRule (.cpy m q k a b c) s (blocked u m .room)
  /-- R220: the source a record of the global space, and no stream of another group open on the queue -/
  | cpyRow (s u : State) (m : Bool) (k : BitVec 3) (a b : Reg) (q : BitVec 2) (d r : Rec) : Issuing s → Settles s u →
      s.me.mode ≠ .control → MayEnter u q.toNat k.toNat →
      u.copyCheck (sReg u a) (sReg u b) none (fun _ _ => none) = .ok (d, r) → r.kind = 0 → r.space = 2 →
      (∀ x, (u.core (myCore u)).streams.get? q.toNat = some x → x.owner = u.cur) →
      CopyRule (.cpyRow m k a b q) s (done m (entered u q.toNat k (u.entryOf .row k (sReg u a) (sReg u b) d r none)))
  /-- R221 -/
  | cpyClose (s u : State) (m : Bool) (k : BitVec 3) (q : BitVec 2) : Issuing s → Settles s u →
      s.me.mode ≠ .control → MayEnter u q.toNat k.toNat →
      CopyRule (.cpyClose m k q) s (done m (entered u q.toNat k (plainEntry u .close k)))
  /-- R217: the receivers are other cores of the cluster, the channel bits 11 to 8 of S(sa) -/
  | cpyMc (s u : State) (m : Bool) (q : BitVec 2) (k : BitVec 3) (a b c : Reg) (r : Rec) (rs : List Nat) : Issuing s →
      Settles s u → s.me.mode ≠ .control → MayEnter u q.toNat k.toNat → sReg u a < 2 ^ 12 →
      rs = ((List.range 8).filter fun i => (sReg u a).testBit i).map (fun i => myCore u / 8 * 8 + i) → rs ≠ [] → myCore u ∉ rs →
      u.copyRecords [sReg u b] (objectOf u c) = .ok [r] → u.recSpaceOk r = true → r.rows * r.rb ≤ 2 ^ 24 →
      u.recSegment false r = none → u.recPipe false r = none →
      CopyRule (.cpyMc m q k a b c) s (done m (entered u q.toNat k
        { kind := .multicast (sReg u a / 2 ^ 8 % 16) rs, who := u.asker u.me, owner := u.cur, token := some k.toNat, dst := {}
          src := u.sideOf (sReg u b) r, rows := r.rows, rb := r.rb, obj := (objectOf u c).map u.teamAddr, task := u.me.task
          plan := u.me.plan }))
  /-- R215: one entry of the fence in each queue of the mask, counted once -/
  | qfence (s u : State) (m : Bool) (k : BitVec 3) (q : BitVec 4) (qs : List Nat) : Issuing s → Settles s u →
      s.me.mode ≠ .control → qs = (List.range 4).filter (fun n => q.getLsbD n) → qs ≠ [] →
      (∀ n ∈ qs, MayEnter u n k.toNat) →
      CopyRule (.qfence m k q) s
        (done m (qs.foldl (fun st n => st.enter (myCore u) n (plainEntry u (.fence u.nextTicket) k))
          { u.setMe (u.me.setToken k.toNat { u.me.token k.toNat with pend := (u.me.token k.toNat).pend + 1 }) with
            nextTicket := u.nextTicket + 1 }))
  /-- R213: every token complete and no fault slot full -/
  | kwait (s u : State) (m : Bool) (k : BitVec 8) : Issuing s → Settles s u → s.me.mode ≠ .control → TokensDone u k →
      (∀ n, n < 8 → k.getLsbD n = true → (u.me.token n).fault = none) → CopyRule (.kwait m k) s (done m u)
  | kwaitBlocks (s u : State) (m : Bool) (k : BitVec 8) : Issuing s → Settles s u → s.me.mode ≠ .control →
      ¬ TokensDone u k → CopyRule (.kwait m k) s (blocked u m (.tokens k.toNat))
  /-- R214: FAULT gives 1, a zero count 0 -/
  | kwaitObj (s u : State) (m : Bool) (d a : Reg) (g : BitVec 3) (x : Nat) : Issuing s → HasRoom s → Settles s u → HasRoom u →
      s.me.mode ≠ .control → GoodObject u g a x → (u.num x 8 ≥ 2 ^ 32 ∨ u.num x 8 = 0) →
      CopyRule (.kwaitObj m d a g) s (finished u m (u.me.pc + 4) (sResult u d (if u.num x 8 ≥ 2 ^ 32 then 1 else 0)))
  | kwaitObjBlocks (s u : State) (m : Bool) (d a : Reg) (g : BitVec 3) (x : Nat) : Issuing s → HasRoom s → Settles s u → HasRoom u →
      s.me.mode ≠ .control → GoodObject u g a x → u.num x 8 < 2 ^ 32 → u.num x 8 ≠ 0 →
      CopyRule (.kwaitObj m d a g) s (blocked u m (.object x d.toNat g.toNat (sReg u a)))
  /-- R216: the readiness is posted on the core -/
  | mcready (s u : State) (m : Bool) (d a b : Reg) (r : Rec) : Issuing s → Settles s u → s.me.mode ≠ .control →
      sReg u d < 16 → (u.core (myCore u)).ready.get? (sReg u d) = none →
      u.copyRecords [sReg u a] (objectOf u b) = .ok [r] → r.kind = 0 → r.space = 1 → u.recSpaceOk r = true →
      r.rows * r.rb ≤ 2 ^ 24 → (1 < r.rows → r.rb ≤ r.pitch) → u.recSegment true r = none →
      CopyRule (.mcready m d a b) s (done m (u.setCore (myCore u) { u.core (myCore u) with
        ready := (u.core (myCore u)).ready.put (sReg u d)
          ⟨u.cur, u.sideOf (sReg u a) r, r.rows, r.rb, (objectOf u b).map u.teamAddr⟩ }))

/-- An entry that has started: every byte is to be moved, and it has the next place in the order of starts (R202, R218). -/
def begun (s : State) (core q : Nat) (e : Entry) : State :=
  { s.setHead core q { e with started := true, startNo := s.nextTicket, todo := [(0, e.rows * e.rb)] } with
    nextTicket := s.nextTicket + 1 }

/-- A started copy at the head of a queue, which has not failed. -/
def Copying (s : State) (core q : Nat) (e : Entry) : Prop :=
  s.head? core q = some e ∧ e.started = true ∧ e.stopped = false ∧ e.kind = .copy ∧ e.late = []

/-- Bytes of a queue's head to be read from linear byte off on: those of its range, within its row and a sector of the source (R168). -/
def readLen (s : State) (core q off hi : Nat) (e : Entry) : Nat :=
  min (s.sideRoom (e.as core q) false e.src (off / e.rb) (off % e.rb)) (min (hi - off) (e.rb - off % e.rb))

/-- A multicast on channel ch to the cores rs, at the head of a queue and not sorted yet (R217). -/
def Unsorted (s : State) (core q : Nat) (e : Entry) (ch : Nat) (rs : List Nat) : Prop :=
  s.head? core q = some e ∧ e.kind = .multicast ch rs ∧ e.stopped = false ∧ e.sorted = false

/-- The receivers that are Ready: a readiness is posted, and no earlier tile of the channel is still to reach them (log 9). The
others are Late (R217, R218). -/
def castReady (s : State) (core : Nat) (e : Entry) (ch : Nat) (rs : List Nat) : List Nat :=
  rs.filter fun i => ((s.core i).ready.get? ch).isSome && !s.earlierTile (core / 8) ch i e.startNo
def castLate (s : State) (core : Nat) (e : Entry) (ch : Nat) (rs : List Nat) : List Nat :=
  rs.filter fun i => !(castReady s core e ch rs).contains i

/-- The holding buffer takes the tile, where a receiver is Late: it holds 1,024 units of 64 bytes (R218). -/
def CastFits (s : State) (core : Nat) (e : Entry) (ch : Nat) (rs : List Nat) : Prop :=
  castLate s core e ch rs = [] ∨ (e.rows * e.rb + 63) / 64 ≤ (s.cluster (core / 8)).freeUnits

/-- The machine with the tile parked for its Late receivers, where there are any: the bytes are still to come. -/
def castParked (s : State) (core : Nat) (e : Entry) (ch : Nat) (late : List Nat) : State :=
  if late.isEmpty then s
  else s.setCluster (core / 8) { s.cluster (core / 8) with parked := (s.cluster (core / 8)).parked ++ [
    { id := e.id, startNo := e.startNo, channel := ch, late := late, rows := e.rows, rb := e.rb, fmt := e.src.fmt, plan := e.plan
      bytes := List.replicate (e.rows * e.rb) 0 }] }

/-- The multicast is sorted: it is to write the records of the readinesses that take its tile, and the parked tile (R217, R219). -/
def castSorted (s : State) (core q : Nat) (e : Entry) (ch : Nat) (rs : List Nat) : State :=
  (castParked s core e ch (castLate s core e ch rs)).setHead core q
    { e with sorted := true, late := castLate s core e ch rs
             ready := (castReady s core e ch rs).filterMap fun i => ((s.core i).ready.get? ch).bind fun x =>
               if x.takes e.rows e.rb e.src.fmt then some (i, x.dst, x.obj) else none }

/-- The steps of the copy engine. -/
inductive CopyStep : Instr → State → State → Prop where
  /-- R202: the head of a queue starts, with all of its bytes to move -/
  | start (s : State) (core q : Nat) (e : Entry) : s.head? core q = some e → e.started = false → e.kind = .copy →
      CopyStep (.copyEntryStart core q) s (begun s core q e)
  /-- R220: a `cpy.row` entry on a queue whose stream is open -/
  | startRow (s : State) (core q : Nat) (e : Entry) (x : Stream) : s.head? core q = some e → e.started = false →
      e.kind = .row → (s.core core).streams.get? q = some x → x.timedOut = false →
      CopyStep (.copyEntryStart core q) s (begun s core q e)
  /-- R168: a piece of n bytes, within its row and a sector of the source, is read; it is still to be written -/
  | piece (s s1 : State) (core q off hi : Nat) (e : Entry) (bs : List Byte) : Copying s core q e → off < 2 ^ 32 →
      rangeEnd off e.todo = some hi → s.sideOpen (e.as core q) false e.src (off / e.rb) (off % e.rb) = true →
      s.readSide (e.as core q) e.src (off / e.rb) (off % e.rb) (readLen s core q off hi e) = .ok (s1, bs) →
      CopyStep (.copyPiece core q off) s (s1.setHead core q
        { e with todo := takeRange off (readLen s core q off hi e) e.todo, moving := e.moving ++ [⟨0, off, bs, 0⟩] })
  /-- R168: what has been read of a piece is written, as far as a sector of the destination goes; without an object nothing is
  counted -/
  | pieceWritten (s s1 : State) (core q i n : Nat) (e : Entry) (m : Moving) : Copying s core q e → e.obj = none →
      e.moving[i]? = some m → m.dest = 0 → m.bytes ≠ [] →
      n = min m.bytes.length (s.sideRoom (e.as core q) true e.dst (m.lin / e.rb) (m.lin % e.rb)) → n = m.bytes.length →
      s.sideOpen (e.as core q) true e.dst (m.lin / e.rb) (m.lin % e.rb) = true →
      s.writeSide (e.as core q) e.dst (m.lin / e.rb) (m.lin % e.rb) m.bytes = .ok s1 →
      CopyStep (.copyPiece core q (2 ^ 32 + i)) s (s1.setHead core q { e with moving := dropAt e.moving i })
  /-- R206, R173: with an object, the bytes written are still to be counted -/
  | pieceToCount (s s1 : State) (core q i n x : Nat) (e : Entry) (m : Moving) : Copying s core q e → e.obj = some x →
      e.moving[i]? = some m → m.dest = 0 → m.bytes ≠ [] →
      n = min m.bytes.length (s.sideRoom (e.as core q) true e.dst (m.lin / e.rb) (m.lin % e.rb)) → n = m.bytes.length →
      s.sideOpen (e.as core q) true e.dst (m.lin / e.rb) (m.lin % e.rb) = true →
      s.writeSide (e.as core q) e.dst (m.lin / e.rb) (m.lin % e.rb) m.bytes = .ok s1 →
      CopyStep (.copyPiece core q (2 ^ 32 + i)) s
        (s1.setHead core q { e with moving := dropAt e.moving i ++ [⟨0, m.lin, [], m.bytes.length⟩] })
  | pieceCounted (s : State) (core q i : Nat) (e : Entry) (m : Moving) : Copying s core q e → e.moving[i]? = some m →
      m.dest = 0 → m.bytes = [] →
      CopyStep (.copyPiece core q (2 ^ 32 + i)) s ((s.setHead core q { e with moving := dropAt e.moving i }).countDown e.obj m.count)
  /-- R211: a piece that fails stops the entry -/
  | pieceFails (s : State) (core q off hi k : Nat) (e : Entry) : Copying s core q e → off < 2 ^ 32 →
      rangeEnd off e.todo = some hi → s.sideOpen (e.as core q) false e.src (off / e.rb) (off % e.rb) = true →
      s.readSide (e.as core q) e.src (off / e.rb) (off % e.rb) (readLen s core q off hi e) = .error k →
      CopyStep (.copyPiece core q off) s (s.stopEntry core q e k (e.src.failing (off / e.rb) (off % e.rb)))
  /-- R207, R208: the entry leaves its queue, its token counts down -/
  | complete (s : State) (core q : Nat) (e : Entry) : s.head? core q = some e → e.started = true → e.kind = .copy →
      (e.stopped = true ∨ (e.todo = [] ∧ e.moving = [])) → s.matrixTeam core = none →
      CopyStep (.copyEntryComplete core q) s ((s.dropHead core q).tokenDown e.owner e.task e.token)
  /-- R214: a group in `kwait.obj` that a write has woken, its object at zero or with FAULT, goes on with 0 or 1 -/
  | objectWake (s : State) (gid d v : Nat) (arrived : Option Nat) : (s.group gid).wait = some (.woken (some d) v none arrived) →
      CopyStep (.kwaitObjWake gid) s ((s.setGroup gid ((s.group gid).setS d (BitVec.ofNat 64 v))).finishWait gid)
  /-- R214: one that a write has woken with a word that it may not find takes the fault -/
  | objectWakeFault (s : State) (gid v : Nat) (d : Option Nat) (t : TrapInfo) (arrived : Option Nat) :
      (s.group gid).wait = some (.woken d v (some t) arrived) →
      CopyStep (.kwaitObjWake gid) s (s.takeTrap gid (some t))
  /-- R215: a fence of one queue ends at its head -/
  | fenceHead (s : State) (core q n : Nat) (e : Entry) : s.head? core q = some e → e.kind = .fence n → e.started = false →
      q < 4 → (∀ j, j < 4 → j ≠ q → ∀ x ∈ (s.core core).queue j, x.kind ≠ .fence n) → s.matrixTeam core = none →
      CopyStep (.fenceEntryHead core q) s
        (((s.setHead core q { e with started := true }).dropHead core q).tokenDown e.owner e.task e.token)
  /-- R217: a started multicast whose receivers are all ready, or whose tile the holding buffer takes, is sorted -/
  | sort (s : State) (core q ch : Nat) (e : Entry) (rs : List Nat) : Unsorted s core q e ch rs → e.started = true →
      e.tried = false → CastFits s core e ch rs → CopyStep (.multicastSort core q) s (castSorted s core q e ch rs)
  /-- R217: without room in the holding buffer it waits at the head -/
  | sortWaits (s : State) (core q ch : Nat) (e : Entry) (rs : List Nat) : Unsorted s core q e ch rs → e.started = true →
      e.tried = false → ¬ CastFits s core e ch rs → CopyStep (.multicastSort core q) s (s.setHead core q { e with tried := true })
  /-- R217: once it is taken, or every receiver is ready, it is sorted -/
  | resort (s : State) (core q ch : Nat) (e : Entry) (rs : List Nat) : Unsorted s core q e ch rs → e.tried = true →
      CastFits s core e ch rs → CopyStep (.multicastResort core q) s (castSorted s core q e ch rs)
  /-- R217: a Late receiver's acknowledgement, for which the parked copy answers, counts the whole tile down -/
  | ackLate (s : State) (core q i ch : Nat) (e : Entry) (rs : List Nat) : s.head? core q = some e → e.kind = .multicast ch rs →
      e.sorted = true → e.stopped = false → e.todo = [] → i ∈ rs → i ∉ e.acks → (∀ m ∈ e.moving, m.dest ≠ i + 1) → i ∈ e.late →
      CopyStep (.multicastAck core q i) s
        ((s.setHead core q { e with acks := e.acks ++ [i] }).countDown e.obj (e.rows * e.rb))
  /-- R216, R217: that of one sorted Ready, its tile written and counted, consumes its readiness too -/
  | ack (s : State) (core q i ch : Nat) (e : Entry) (rs : List Nat) (x : Readiness) : s.head? core q = some e →
      e.kind = .multicast ch rs → e.sorted = true → e.stopped = false → e.todo = [] → i ∈ rs → i ∉ e.acks →
      (∀ m ∈ e.moving, m.dest ≠ i + 1) → i ∉ e.late → (s.core i).ready.get? ch = some x → x.takes e.rows e.rb e.src.fmt = true →
      CopyStep (.multicastAck core q i) s
        (let s1 := s.setHead core q { e with acks := e.acks ++ [i] }
         (s1.setCore i { s1.core i with ready := Map.del ch (s1.core i).ready }).countDown e.obj (e.rows * e.rb))
  /-- R218: the drain of a parked tile starts with the first waiting receiver that is ready and whose turn it is -/
  | drainStart (s : State) (cl n off i : Nat) (p : ParkedTile) (x : Readiness) : (s.cluster cl).parked[n]? = some p →
      p.drain = none → p.full = true →
      p.late.find? (fun j => ((s.core j).ready.get? p.channel).isSome && !s.earlierTile cl p.channel j p.startNo) = some i →
      (s.core i).ready.get? p.channel = some x → x.takes p.rows p.rb p.fmt = true →
      CopyStep (.holdingBufferDrain cl n off) s
        (s.setParked cl n { p with drain := some { core := i, dst := x.dst, obj := x.obj, todo := [(0, p.rows * p.rb)] } })
  /-- R218: a parked tile whose piece at `off` is written to the receiver it drains to -/
  | drain (s s1 : State) (cl n off hi k : Nat) (p : ParkedTile) (d : Drain) : (s.cluster cl).parked[n]? = some p →
      p.drain = some d → off < 2 ^ 32 → d.obj = none → rangeEnd off d.todo = some hi →
      k = min (s.sideRoom ⟨{}, p.plan, 0, d.core, .entry d.core 0⟩ true d.dst (off / p.rb) (off % p.rb)) (min (hi - off) (p.rb - off % p.rb)) →
      s.writeSide ⟨{}, p.plan, 0, d.core, .entry d.core 0⟩ d.dst (off / p.rb) (off % p.rb) ((p.bytes.drop off).take k) = .ok s1 →
      CopyStep (.holdingBufferDrain cl n off) s
        (s1.setParked cl n { p with drain := some { d with todo := takeRange off k d.todo } })
  /-- R216, R218: a drained receiver leaves the tile's list, and its readiness is consumed -/
  | drained (s : State) (cl n off : Nat) (p : ParkedTile) (d : Drain) (x : Readiness) : (s.cluster cl).parked[n]? = some p →
      p.drain = some d → off < 2 ^ 32 → d.todo = [] → d.counts = [] → (s.core d.core).ready.get? p.channel = some x →
      x.takes p.rows p.rb p.fmt = true →
      CopyStep (.holdingBufferDrain cl n off) s
        (let s1 := s.setParked cl n { p with drain := none, late := p.late.filter (· != d.core) }
         s1.setCore d.core { s1.core d.core with ready := Map.del p.channel (s1.core d.core).ready })
  /-- R221: the bank is released, and the close completes -/
  | close (s : State) (core q : Nat) (e : Entry) : s.head? core q = some e → e.kind = .close →
      s.matrixTeam core = none →
      CopyStep (.bulkStreamClose core q) s
        (let s1 := s.dropHead core q
         (s1.setCore core { s1.core core with streams := Map.del q (s1.core core).streams }).tokenDown e.owner e.task e.token)
  /-- R221, R222: open for more than LIMIT cycles, the stream has timed out; nothing runs on its queue -/
  | timeout (s : State) (core q : Nat) (x : Stream) : (s.core core).streams.get? q = some x → x.timedOut = false →
      x.since + s.bulkLimit.toNat % 2 ^ 20 < s.cycle → s.head? core q = none →
      CopyStep (.bulkStreamTimeout core q) s
        (s.setCore core { s.core core with streams := (s.core core).streams.put q { x with timedOut := true } })
  /-- R221: the running `cpy.row` entry stops with kind 13 -/
  | timeoutStops (s : State) (core q : Nat) (x : Stream) (e : Entry) : (s.core core).streams.get? q = some x →
      x.timedOut = false → x.since + s.bulkLimit.toNat % 2 ^ 20 < s.cycle → s.head? core q = some e → e.kind = .row →
      e.started = true → e.stopped = false →
      CopyStep (.bulkStreamTimeout core q) s
        ((s.setCore core { s.core core with streams := (s.core core).streams.put q { x with timedOut := true } }).stopEntry
          core q e 13 e.src.recBase)

/-- The pipe that S(sa) selects is there, its number n in bits 5 to 0 and the cursor c in bits 9 and 8, every other bit
zero, and its home is reachable (R230, R237). -/
def Selects (s : State) (a : Reg) (n c : Nat) (p : Pipe) : Prop :=
  n < 64 ∧ c < 4 ∧ sReg s a = n + 256 * c ∧ s.pipes.get? (s.me.plan * 64 + n) = some p ∧ s.homeLost p = false

/-- S(sb) is the team offset of a record slot: a multiple of 32 within the team's region (R209, R231). -/
def RecordPlace (s : State) (b : Reg) : Prop := sReg s b % 32 = 0 ∧ sReg s b + 32 ≤ s.myTask.scratchSize

/-- A group's request to the pipe's home has gone out and is answered; nothing changes where the home is in the module (R230). -/
def Reaches (u v : State) (p : Pipe) : Prop := u.homeReached p = true ∧ v = u.fromHome p

/-- S(sb) names a record of a slot: a KIND 1 record of direction dir whose pipe and live slot k are there (R232, R234). -/
def NamesSlot (s : State) (b : Reg) (dir : Bool) (r : Rec) (p : Pipe) (k : Nat) (sl : Slot) : Prop :=
  RecordPlace s b ∧ (∀ x ∈ s.bad, x.1 < s.teamAddr (sReg s b) ∨ s.teamAddr (sReg s b) + 32 ≤ x.1)
    ∧ r = s.recAt (sReg s b) ∧ r.slotOk = true ∧ r.dir = dir
    ∧ s.pipes.get? (s.me.plan * 64 + r.pipe) = some p ∧ s.homeLost p = false ∧ p.liveSeq r.seq = some k
    ∧ p.slots.get? k = some sl

/-- A scalar result written at issue. -/
def withS (v : State) (d : Reg) (x : Dword) : State := v.setMe (v.me.setS d.toNat x)

/-- The pipe instructions (R230 to R237). -/
inductive PipeRule : Instr → State → State → Prop where
  /-- R231: slot RES is reserved, its record written, and S(sd) := RES mod 2^32 -/
  | preserve (s u v : State) (m : Bool) (d a b : Reg) (n c : Nat) (p : Pipe) : Issuing s → HasRoom s → Settles s u →
      s.me.mode ≠ .control → Selects u a n c p → Reaches u v p → RecordPlace u b → p.producer = u.myTask.stage → u.draining = false →
      0 < p.free →
      PipeRule (.preserve m d a b) s (done m (withS ((v.setPipe u.me.plan n (p.reserve u.me.task)).writeRec
        (u.teamAddr (sReg u b)) (p.record n p.res none)) d (BitVec.ofNat 64 (p.res % 2 ^ 32))))
  /-- R231: with FREE = 0 it blocks -/
  | preserveBlocks (s u v : State) (m : Bool) (d a b : Reg) (n c : Nat) (p : Pipe) : Issuing s → HasRoom s → Settles s u →
      s.me.mode ≠ .control → Selects u a n c p → Reaches u v p → RecordPlace u b → p.producer = u.myTask.stage → u.draining = false →
      p.free = 0 → PipeRule (.preserve m d a b) s (blocked v m (.pipeFree n d.toNat (u.teamAddr (sReg u b))))
  /-- R232: the task's own Reserved slot becomes Committed -/
  | pcommit (s u v : State) (m : Bool) (b : Reg) (r : Rec) (p : Pipe) (k : Nat) (sl : Slot) : Issuing s → Settles s u →
      s.me.mode ≠ .control → NamesSlot u b false r p k sl → Reaches u v p → sl.st = .reserved → sl.owner = u.me.task →
      PipeRule (.pcommit m b) s (done m (v.setPipe u.me.plan r.pipe (p.setSlot k fun x => { x with st := .committed })))
  /-- R233: the next claimable slot is claimed, its record written, and S(sd) is its number -/
  | pclaim (s u v : State) (m : Bool) (d a b : Reg) (n c k : Nat) (p : Pipe) : Issuing s → HasRoom s → Settles s u →
      s.me.mode ≠ .control → Selects u a n c p → Reaches u v p → RecordPlace u b → p.consumers[c]? = some u.myTask.stage →
      p.next? c = some k →
      PipeRule (.pclaim m d a b) s (done m (withS ((v.setPipe u.me.plan n (p.claim c k u.me.task)).writeRec
        (u.teamAddr (sReg u b)) (p.record n k (some c))) d (BitVec.ofNat 64 (k % 2 ^ 32))))
  /-- R233: with nothing to claim S(sd) is all ones -/
  | pclaimNone (s u v : State) (m : Bool) (d a b : Reg) (n c : Nat) (p : Pipe) : Issuing s → HasRoom s → Settles s u →
      s.me.mode ≠ .control → Selects u a n c p → Reaches u v p → RecordPlace u b → p.consumers[c]? = some u.myTask.stage →
      p.next? c = none → PipeRule (.pclaim m d a b) s (done m (withS v d (BitVec.allOnes 64)))
  /-- R234 -/
  | prelease (s u v : State) (m : Bool) (b : Reg) (r : Rec) (p : Pipe) (k : Nat) (sl : Slot) : Issuing s → Settles s u →
      s.me.mode ≠ .control → NamesSlot u b true r p k sl → Reaches u v p → sl.cs[r.cursor]? = some (.claimed u.me.task) →
      PipeRule (.prelease m b) s (done m (v.setPipe u.me.plan r.pipe (p.release r.cursor k)))
  /-- R235: FREE, AVAIL, the resident and spilled counts, and CL -/
  | pquery (s u v : State) (m : Bool) (d a : Reg) (n c : Nat) (p : Pipe) : Issuing s → HasRoom s → Settles s u → s.me.mode ≠ .control →
      Selects u a n c p → Reaches u v p → c < p.consumers.length →
      PipeRule (.pquery m d a) s (done m (withS v d (BitVec.ofNat 64 (p.free + 2 ^ 8 * p.avail c + 2 ^ 16 * p.residentCount
        + 2 ^ 24 * p.spilledCount + 2 ^ 32 * (p.cl.getD c 0 % 2 ^ 32)))))

/-- The steps of a pipe's home. -/
inductive PipeStep : Instr → State → State → Prop where
  /-- R226, R360: the lowest committed spilled slot of a plan that is not Saved starts its refill into a free position -/
  | refillStart (s : State) (h n k : Nat) (p : Pipe) : s.planSaved h = false → s.pipes.get? (h * 64 + n) = some p → p.refillable = some k →
      PipeStep (.pipeRefillStart h n) s (s.setPipe h n (p.setSlot k fun sl =>
        { sl with loc := .refill, pos := p.freePos, todo := [(0, p.slotBytes)] }))
  /-- R226: with every byte copied the slot is in L2 -/
  | refillComplete (s : State) (h n : Nat) (p : Pipe) (x : Nat × Slot) : s.pipes.get? (h * 64 + n) = some p →
      p.slots.find? (fun x => x.2.loc == .refill && x.2.todo.isEmpty) = some x →
      PipeStep (.pipeRefillComplete h n) s (s.setPipe h n (p.setSlot x.1 fun sl => { sl with loc := .l2 }))
  /-- R231: a blocked `preserve` is performed when FREE rises, and its group goes on -/
  | unblock (s : State) (gid n d place : Nat) (p : Pipe) : (s.group gid).wait = some (.pipeFree n d place) →
      s.pipes.get? ((s.group gid).plan * 64 + n) = some p → 0 < p.free →
      PipeStep (.preserveUnblock gid) s ((s.asGroup gid fun u => u.preserveNow n d place p).finishWait gid)

end Sys2Proof.Rules
end

