-- ==== Sys2Proof/Rules/Fabric.lean ====
section
/-!
DEFINITION. Terms of the statements: Pavilion allocation, UALink ports and loss (R322 to R344).
-/

namespace Sys2Proof.Rules

open Sys2Proof.Machine

/-- n granules from g up are free at a switch: neither allocated nor waiting to be zeroed (R334). -/
def FreeRun (x : Switch) (g n : Nat) : Prop := g + n ≤ 2 ^ 18 ∧ ∀ r ∈ x.taken, r.1 + r.2 ≤ g ∨ g + n ≤ r.1

/-- g is the lowest granule with n free ones from it up (R337). -/
def LowestRun (x : Switch) (g n : Nat) : Prop := FreeRun x g n ∧ ∀ k, k < g → ¬ FreeRun x k n

/-- LARGEST: the granules of the longest free run (R338). -/
def LargestRun (x : Switch) (n : Nat) : Prop :=
  (n = 0 ∨ ∃ g, FreeRun x g n) ∧ ∀ g k, 0 < k → FreeRun x g k → k ≤ n

/-- No allocation is empty. -/
def Granular (x : Switch) : Prop := ∀ r ∈ x.taken, 0 < r.2

/-- A tenant stays within its limit with n granules more (R337). -/
def Within (x : Switch) (tenant n : Nat) : Prop := x.used tenant + n ≤ x.limit.getD tenant 0

/-- The granules that S(sa) bytes take: 2 MiB each, rounded up (R337). -/
def granulesOf (s : State) (a : Reg) : Nat := (sReg s a + 2 ^ 21 - 1) / 2 ^ 21

/-- An instruction that ends in one result in S(sd). -/
def oneResult (v : State) (m : Bool) (d : Reg) (n : Nat) : State := finished v m (v.me.pc + 4) (sResult v d (BitVec.ofNat 64 n))

/-- A Pavilion instruction may issue on a core: it has room for its result (R71, R337). -/
def PavReady (s : State) : Prop := Issuing s ∧ s.me.mode ≠ .control ∧ HasRoom s

/-- It has issued: what it asks of its switch is outstanding, as a variable-latency result (R337). -/
def pavIssued (s : State) (m : Bool) (op : PavOp) : State :=
  finished s m (s.me.pc + 4) (queued s.me { pc := s.me.pc, todo := [.pavilion op], result := true })

/-- A valid size for `pvalloc`: S(sd) is no mask register, 1 byte to 2^39 (R337). -/
def AllocOperands (u : State) (d a : Reg) : Prop := d ≠ 127 ∧ 0 < sReg u a ∧ sReg u a ≤ 2 ^ 39

/-- The Pavilion instructions at issue (R337, R339). -/
inductive PavRule : Instr → State → State → Prop where
  /-- one switch, named by S(sb) -/
  | pvalloc (s : State) (m : Bool) (d a b : Reg) (w : Nat) : PavReady s → AllocOperands s d a → sReg s b = w → w < 48 →
      PavRule (.pvalloc m d a b) s (pavIssued s m (.alloc (granulesOf s a) [w] 3 d.toNat))
  /-- bit 6 of S(sb): the 48 switches in turn from the device's own number on -/
  | pvallocAny (s : State) (m : Bool) (d a b : Reg) : PavReady s → AllocOperands s d a → 64 ≤ sReg s b → sReg s b < 128 →
      PavRule (.pvalloc m d a b) s
        (pavIssued s m (.alloc (granulesOf s a) ((List.range 48).map fun i => (s.device + i) % 48) 3 d.toNat))
  /-- a size of zero or above 2^39: address 0 and status 4, at once -/
  | pvallocSize (s : State) (m : Bool) (d a b : Reg) : PavReady s → d ≠ 127 → (sReg s a = 0 ∨ 2 ^ 39 < sReg s a) →
      (sReg s b < 48 ∨ (64 ≤ sReg s b ∧ sReg s b < 128)) →
      PavRule (.pvalloc m d a b) s (finished s m (s.me.pc + 4) (queued s.me
        { pc := s.me.pc, result := true, writes := [.s d.toNat 0, .s (d.toNat + 1) 4] }))
  /-- an address in the window of a switch -/
  | pvfree (s : State) (m : Bool) (d a : Reg) (w off : Nat) : PavReady s → w < 48 → off < 2 ^ 39 →
      sReg s a = 0x00C0000000000000 + w * 2 ^ 39 + off → PavRule (.pvfree m d a) s (pavIssued s m (.free w off d.toNat))
  /-- outside the window no allocation starts: status 5 -/
  | pvfreeOutside (s : State) (m : Bool) (d a : Reg) : PavReady s →
      (sReg s a < 0x00C0000000000000 ∨ 0x00C0000000000000 + 48 * 2 ^ 39 ≤ sReg s a) →
      PavRule (.pvfree m d a) s (oneResult s m d 5)
  | pvq (s : State) (m : Bool) (d a : Reg) (w : Nat) : PavReady s → sReg s a = w → w < 48 →
      PavRule (.pvq m d a) s (pavIssued s m (.query w d.toNat))

/-- A Pavilion instruction of a group is its next access, and its switch can answer (R327, R344). -/
def AtSwitch (s : State) (gid : Nat) (pre post : List Pending) (p : Pending) (op : PavOp) : Prop :=
  NextAccess s gid pre post p (.pavilion op) [] ∧ p.result = true ∧ p.dest = .none ∧ p.failed = none

/-- The switch has answered: u is the machine after, and `ws` are the registers that the result is for. -/
def pavAnswered (s u : State) (gid : Nat) (pre post : List Pending) (p : Pending) (op : PavOp) (ws : List RegWrite) : State :=
  withOut (landed s u gid (.pavilion op) []) gid (pre ++ afterAccess { p with writes := ws } [] :: post)

/-- The results of `pvalloc`: an address in S(sd), a status in S(sd + 1). -/
def allocResult (d address status : Nat) : List RegWrite :=
  [.s d (BitVec.ofNat 64 address), .s (d + 1) (BitVec.ofNat 64 status)]

/-- The tenant of a group's requests (R329). -/
def tenantAt (s : State) (gid : Nat) : Nat := s.tenantOf (s.group gid)

/-- The switches that a `pvalloc` still has to try: `w` is the first that is not lost, and `rest` follow it. -/
def FirstSwitch (s : State) (ws : List Nat) (w : Nat) (rest : List Nat) : Prop :=
  ∃ lost, ws = lost ++ w :: rest ∧ (∀ v ∈ lost, s.fabLost.getLsbD v = true) ∧ s.fabLost.getLsbD w = false

/-- What a switch has not free for n granules of a tenant: status 1 over the tenant's limit, 2 without a run of them (R337). -/
def Refuses (x : Switch) (tenant n status : Nat) : Prop :=
  (¬ Within x tenant n ∧ status = 1) ∨ (Within x tenant n ∧ (∀ g, ¬ FreeRun x g n) ∧ status = 2)

/-- The Pavilion instructions at their switch (R334, R337, R338). -/
inductive PavStep : Instr → State → State → Prop where
  /-- the lowest run of the granules, its address in the window, status 0 -/
  | alloc (s : State) (gid n k m last d w g : Nat) (pre post : List Pending) (p : Pending) (ws rest : List Nat) :
      AtSwitch s gid pre post p (.alloc m ws last d) → FirstSwitch s ws w rest → 0 < m → Granular (s.switch w) →
      Within (s.switch w) (tenantAt s gid) m → LowestRun (s.switch w) g m →
      PavStep (.loadResultReturn gid n k) s (pavAnswered s
        (s.setSwitch w { s.switch w with allocs := (s.switch w).allocs ++ [⟨g, m, tenantAt s gid⟩] }) gid pre post p
        (.alloc m ws last d) (allocResult d (0x00C0000000000000 + w * 2 ^ 39 + g * 2 ^ 21) 0))
  /-- one that cannot give them sends it on to the next -/
  | allocNext (s : State) (gid n k m last d w st : Nat) (pre post : List Pending) (p : Pending) (ws rest : List Nat) :
      AtSwitch s gid pre post p (.alloc m ws last d) → FirstSwitch s ws w rest → 0 < m → Granular (s.switch w) →
      Refuses (s.switch w) (tenantAt s gid) m st → (∃ v ∈ rest, s.fabLost.getLsbD v = false) →
      PavStep (.loadResultReturn gid n k) s (withOut (landed s s gid (.pavilion (.alloc m ws last d)) []) gid
        (pre ++ { p with todo := [.pavilion (.alloc m rest st d)] } :: post))
  /-- the last one gives its status -/
  | allocFails (s : State) (gid n k m last d w st : Nat) (pre post : List Pending) (p : Pending) (ws rest : List Nat) :
      AtSwitch s gid pre post p (.alloc m ws last d) → FirstSwitch s ws w rest → 0 < m → Granular (s.switch w) →
      Refuses (s.switch w) (tenantAt s gid) m st → (∀ v ∈ rest, s.fabLost.getLsbD v = true) →
      PavStep (.loadResultReturn gid n k) s
        (pavAnswered s s gid pre post p (.alloc m ws last d) (allocResult d 0 st))
  /-- with all of them lost: the status so far, 3 at first -/
  | allocLost (s : State) (gid n k m last d : Nat) (pre post : List Pending) (p : Pending) (ws : List Nat) :
      AtSwitch s gid pre post p (.alloc m ws last d) → (∀ v ∈ ws, s.fabLost.getLsbD v = true) →
      PavStep (.loadResultReturn gid n k) s
        (pavAnswered s s gid pre post p (.alloc m ws last d) (allocResult d 0 last))
  /-- the tenant's allocation that starts at the address is freed: its granules are zeroed before they are free -/
  | free (s : State) (gid n k d w : Nat) (x : PavAlloc) (pre post : List Pending) (p : Pending) :
      AtSwitch s gid pre post p (.free w (x.start * 2 ^ 21) d) → s.fabLost.getLsbD w = false → x ∈ (s.switch w).allocs →
      x.tenant = tenantAt s gid → (∀ y ∈ (s.switch w).allocs, y.tenant = tenantAt s gid → y.start = x.start → y = x) →
      PavStep (.loadResultReturn gid n k) s (pavAnswered s (s.setSwitch w { s.switch w with
          allocs := (s.switch w).allocs.filter (· != x)
          dirty := (s.switch w).dirty ++ (List.range x.len).map (x.start + ·) }) gid pre post p
        (.free w (x.start * 2 ^ 21) d) [.s d 0])
  /-- no allocation of the tenant starts there: status 5 -/
  | freeNone (s : State) (gid n k d w off : Nat) (pre post : List Pending) (p : Pending) :
      AtSwitch s gid pre post p (.free w off d) → s.fabLost.getLsbD w = false →
      (∀ y ∈ (s.switch w).allocs, y.tenant = tenantAt s gid → y.start * 2 ^ 21 ≠ off) →
      PavStep (.loadResultReturn gid n k) s (pavAnswered s s gid pre post p (.free w off d) [.s d 5])
  /-- a lost switch: status 3 -/
  | freeLost (s : State) (gid n k d w off : Nat) (pre post : List Pending) (p : Pending) :
      AtSwitch s gid pre post p (.free w off d) → s.fabLost.getLsbD w = true →
      PavStep (.loadResultReturn gid n k) s (pavAnswered s s gid pre post p (.free w off d) [.s d 3])
  /-- LIMIT, USED, LARGEST and the violations -/
  | query (s : State) (gid n k d w m : Nat) (pre post : List Pending) (p : Pending) :
      AtSwitch s gid pre post p (.query w d) → s.fabLost.getLsbD w = false → Granular (s.switch w) → LargestRun (s.switch w) m →
      PavStep (.loadResultReturn gid n k) s (pavAnswered s s gid pre post p (.query w d)
        [.s d (BitVec.ofNat 64 ((s.switch w).limit.getD (tenantAt s gid) 0 + (s.switch w).used (tenantAt s gid) * 2 ^ 20
          + m * 2 ^ 40 + (s.switch w).viol.getD (tenantAt s gid) 0 * 2 ^ 60))])
  /-- a lost switch: all ones -/
  | queryLost (s : State) (gid n k d w : Nat) (pre post : List Pending) (p : Pending) :
      AtSwitch s gid pre post p (.query w d) → s.fabLost.getLsbD w = true →
      PavStep (.loadResultReturn gid n k) s
        (pavAnswered s s gid pre post p (.query w d) [.s d (BitVec.allOnes 64)])

/-- A port that receives and sends: up, heard within 65,536 cycles, and not retraining (R323, R324, R341), whatever device id its
switch reports (R377). -/
def Receives (s : State) (p : Nat) : Prop :=
  p < 48 ∧ s.portUp p = true ∧ (s.ual p).retrainSince = none ∧ s.cycle < (s.ual p).lastGood + 65536

/-- A flit of 64 bytes with a good CRC, given by its fields k and the rest of it, reaches a port; h is its header (R323). -/
def GoodFlit (s : State) (p : Nat) (k : FlitHeader) (rest : Nat) (h : FlitHeader) : Prop :=
  Receives s p ∧ flitGood (leBytes 64 (flitNumber k rest)) = true ∧ h = flitHeader (flitNumber k rest % 2 ^ 64)

/-- What a good flit does whatever it carries: the port has heard its switch (R341). -/
def heard (s : State) (p : Nat) : UalPort := { s.ual p with lastGood := s.cycle }

/-- A port after the expected flit: the next SEQ is expected. -/
def taken (s : State) (p : Nat) : UalPort := { heard s p with rxSeq := ((s.ual p).rxSeq + 1) % 2 ^ 12 }

/-- The counts of freed buffer entries with one more of channel c (R326). -/
def freedOne (u : UalPort) (c : Nat) : Map Nat := u.freed.putD 0 c ((u.freed.getD c 0 + 1) % 2 ^ 12)

/-- The port after a packet that a notice came in: the next SEQ is expected, and its entry of the response channel is free (R324,
R326, R327). -/
def noticed (s : State) (p : Nat) : State := s.setUal p { taken s p with freed := freedOne (s.ual p) 2 }

/-- Header fields that have no news of ACK or credits, and no NAK (R323, R326). -/
structure QuietHeader (u : UalPort) (h : FlitHeader) : Prop where
  noAck : (∀ x ∈ u.replay, x.1 ≠ h.ack) ∧ ∀ x ∈ u.resend, x.1 ≠ h.ack
  noCredit : h.cvc < 3 → h.credit = u.last.getD h.cvc 0

/-- The header of the flit that a port sends next under a SEQ on a VC: the credit of channel CVC, the last SEQ received in order,
and a NAK that is due (R323, R324, R326). -/
def nextHeader (u : UalPort) (seq vc : Nat) : FlitHeader :=
  { credit := (1024 + u.freed.getD u.cvc 0) % 2 ^ 12, cvc := u.cvc, ack := (u.rxSeq + 2 ^ 12 - 1) % 2 ^ 12, nak := u.nakDue
    vc := vc, seq := seq }

/-- Header fields that fit their places (R323). -/
def HeaderFits (h : FlitHeader) : Prop := h.credit < 2 ^ 12 ∧ h.cvc < 4 ∧ h.ack < 2 ^ 12 ∧ h.vc < 4 ∧ h.seq < 2 ^ 12

/-- The steps of the fabric. -/
inductive FabricStep : Instr → State → State → Prop where
  /-- R324: a flit with a bad CRC is dropped, and a NAK is due -/
  | flitBad (s : State) (p rest fwd : Nat) (k : FlitHeader) : Receives s p → flitGood (leBytes 64 (flitNumber k rest)) = false →
      FabricStep (.flitReceive p k.seq k.vc k.ack k.nak k.cvc k.credit rest fwd) s (s.setUal p { s.ual p with nakDue := true })
  /-- R323, R326, R327: the expected request is served, its buffer entry is free again, and a response is owed -/
  | flit (s : State) (p rest : Nat) (k h : FlitHeader) : GoodFlit s p k rest h → h.seq = (s.ual p).rxSeq → h.vc = 0 → h.nak = false →
      QuietHeader (s.ual p) h → (s.ual p).stalled = [] →
      FabricStep (.flitReceive p k.seq k.vc k.ack k.nak k.cvc k.credit rest 0) s
        (s.setUal p { taken s p with freed := freedOne (s.ual p) 0, owed := (s.ual p).owed + 1 })
  /-- R327: a forwarded request is served, whatever waits -/
  | flitForwarded (s : State) (p rest fwd : Nat) (k h : FlitHeader) : GoodFlit s p k rest h → h.seq = (s.ual p).rxSeq → h.vc = 1 →
      h.nak = false → QuietHeader (s.ual p) h →
      FabricStep (.flitReceive p k.seq k.vc k.ack k.nak k.cvc k.credit rest fwd) s
        (s.setUal p { taken s p with freed := freedOne (s.ual p) 1, owed := (s.ual p).owed + 1 })
  /-- R327: a response is sunk, whatever waits -/
  | flitSunk (s : State) (p rest : Nat) (k h : FlitHeader) : GoodFlit s p k rest h → h.seq = (s.ual p).rxSeq → h.vc = 2 →
      h.nak = false → QuietHeader (s.ual p) h →
      FabricStep (.flitReceive p k.seq k.vc k.ack k.nak k.cvc k.credit rest 0) s
        (s.setUal p { taken s p with freed := freedOne (s.ual p) 2 })
  /-- R327, R328: one that answers a forwarded request frees its buffer, and the request that it served has its response -/
  | flitAnswers (s v : State) (p q rest fwd : Nat) (k h : FlitHeader) (pre post : List (Nat × Option Nat)) : GoodFlit s p k rest h →
      h.seq = (s.ual p).rxSeq → h.vc = 2 → h.nak = false → QuietHeader (s.ual p) h → fwd ≠ 0 →
      s.forwards = pre ++ (p, some q) :: post → (∀ x ∈ pre, x.1 ≠ p) →
      v = s.setUal p { taken s p with freed := freedOne (s.ual p) 2 } →
      FabricStep (.flitReceive p k.seq k.vc k.ack k.nak k.cvc k.credit rest fwd) s
        ({ v with forwards := pre ++ post }.setUal q { v.ual q with owed := (v.ual q).owed + 1 })
  /-- R328: a request that must be forwarded takes one of the 32 forward buffers and a credit, and goes on -/
  | flitForwards (s v : State) (p rest fwd : Nat) (k h : FlitHeader) : GoodFlit s p k rest h → h.seq = (s.ual p).rxSeq → h.vc = 0 →
      h.nak = false → QuietHeader (s.ual p) h → (s.ual p).stalled = [] → fwd ≠ 0 → v = s.setUal p (taken s p) →
      s.forwards.length < 32 → v.maySend (fwd - 1) 1 = true →
      FabricStep (.flitReceive p k.seq k.vc k.ack k.nak k.cvc k.credit rest fwd) s (v.serveRequest p fwd)
  /-- R327, R328: one that finds no room, or another waiting, takes the stall slot, or waits behind it in the buffer of 1,024 -/
  | flitStalls (s v : State) (p rest fwd : Nat) (k h : FlitHeader) : GoodFlit s p k rest h → h.seq = (s.ual p).rxSeq → h.vc = 0 →
      h.nak = false → QuietHeader (s.ual p) h → v = s.setUal p (taken s p) → (s.ual p).stalled.length < 2 ^ 10 →
      ((s.ual p).stalled ≠ [] ∨ (fwd ≠ 0 ∧ (32 ≤ s.forwards.length ∨ v.maySend (fwd - 1) 1 = false))) →
      FabricStep (.flitReceive p k.seq k.vc k.ack k.nak k.cvc k.credit rest fwd) s
        (s.setUal p { taken s p with stalled := (s.ual p).stalled ++ [fwd] })
  /-- R323: an idle flit takes no entry -/
  | flitIdle (s : State) (p rest fwd : Nat) (k h : FlitHeader) : GoodFlit s p k rest h → h.seq = (s.ual p).rxSeq → h.vc = 3 →
      h.nak = false → QuietHeader (s.ual p) h → FabricStep (.flitReceive p k.seq k.vc k.ack k.nak k.cvc k.credit rest fwd) s (s.setUal p (taken s p))
  /-- R324: a flit out of sequence is dropped -/
  | flitOutOfSequence (s : State) (p rest fwd : Nat) (k h : FlitHeader) : GoodFlit s p k rest h → h.seq ≠ (s.ual p).rxSeq →
      h.nak = false → QuietHeader (s.ual p) h →
      FabricStep (.flitReceive p k.seq k.vc k.ack k.nak k.cvc k.credit rest fwd) s (s.setUal p { heard s p with nakDue := true })
  /-- R323: what ACK names, and all before it, leaves the replay buffer -/
  | flitAck (s : State) (p rest fwd c : Nat) (k h : FlitHeader) (pre post : List (Nat × Nat)) : GoodFlit s p k rest h →
      h.seq = (s.ual p).rxSeq → h.vc = 3 → h.nak = false → (s.ual p).resend = [] → (s.ual p).replay = pre ++ (h.ack, c) :: post →
      (∀ x ∈ pre, x.1 ≠ h.ack) → (h.cvc < 3 → h.credit = (s.ual p).last.getD h.cvc 0) →
      FabricStep (.flitReceive p k.seq k.vc k.ack k.nak k.cvc k.credit rest fwd) s (s.setUal p { taken s p with replay := post })
  /-- R326: a credit count that is 1 to 2047 newer becomes LAST -/
  | flitCredit (s : State) (p rest fwd : Nat) (k h : FlitHeader) : GoodFlit s p k rest h → h.seq = (s.ual p).rxSeq → h.vc = 3 →
      h.nak = false → h.cvc < 3 → (∀ x ∈ (s.ual p).replay, x.1 ≠ h.ack) → (s.ual p).resend = [] →
      1 ≤ (h.credit + 2 ^ 12 - (s.ual p).last.getD h.cvc 0) % 2 ^ 12 →
      (h.credit + 2 ^ 12 - (s.ual p).last.getD h.cvc 0) % 2 ^ 12 ≤ 2047 →
      FabricStep (.flitReceive p k.seq k.vc k.ack k.nak k.cvc k.credit rest fwd) s (s.setUal p { taken s p with last := (s.ual p).last.putD 0 h.cvc (h.credit % 2 ^ 12) })
  /-- R324: a NAK has the flits after ACK sent again -/
  | flitNak (s : State) (p rest fwd : Nat) (k h : FlitHeader) : GoodFlit s p k rest h → h.seq = (s.ual p).rxSeq → h.vc = 3 →
      h.nak = true → QuietHeader (s.ual p) h → (s.ual p).nakAck ≠ some h.ack →
      FabricStep (.flitReceive p k.seq k.vc k.ack k.nak k.cvc k.credit rest fwd) s
        (s.setUal p { taken s p with resend := (s.ual p).replay, nakAck := some h.ack, failedReplays := 0 })
  /-- R324, R325: after the third failed replay of one flit the port retrains -/
  | flitRetrains (s : State) (p rest fwd : Nat) (k h : FlitHeader) : GoodFlit s p k rest h → h.seq = (s.ual p).rxSeq → h.vc = 3 →
      h.nak = true → QuietHeader (s.ual p) h → (s.ual p).nakAck = some h.ack → (s.ual p).failedReplays = 2 →
      0 < (s.ual p).level → (s.ual p).level < 7 → s.cycle < (s.ual p).decayAt + 2 ^ 31 →
      FabricStep (.flitReceive p k.seq k.vc k.ack k.nak k.cvc k.credit rest fwd) s
        (s.setUal p { taken s p with resend := (s.ual p).replay, nakAck := none, failedReplays := 0
                                     level := (s.ual p).level + 1, retrainSince := some s.cycle })
  /-- R325: with the bucket full, it is retired -/
  | flitRetires (s : State) (p rest fwd : Nat) (k h : FlitHeader) : GoodFlit s p k rest h → h.seq = (s.ual p).rxSeq → h.vc = 3 →
      h.nak = true → QuietHeader (s.ual p) h → (s.ual p).nakAck = some h.ack → (s.ual p).failedReplays = 2 →
      (s.ual p).level = 7 → s.cycle < (s.ual p).decayAt + 2 ^ 31 →
      FabricStep (.flitReceive p k.seq k.vc k.ack k.nak k.cvc k.credit rest fwd) s ((s.setUal p (taken s p)).killPort p)
  /-- R326, R327: a response that is owed goes out where a credit of its channel is there -/
  | response (s : State) (p : Nat) : Receives s p → (s.ual p).resend = [] → (s.ual p).replay.length < 2 ^ 10 → (s.ual p).owed ≠ 0 →
      0 < ((s.ual p).last.getD 2 0 + 2 ^ 12 - (s.ual p).sent.getD 2 0) % 2 ^ 12 →
      FabricStep (.idleFlit p) s (s.setUal p { s.ual p with
        header := (nextHeader (s.ual p) (s.ual p).txSeq 2).word, txSeq := ((s.ual p).txSeq + 1) % 2 ^ 12
        replay := (s.ual p).replay ++ [((s.ual p).txSeq, 2)], cvc := ((s.ual p).cvc + 1) % 3, nakDue := false, sentAt := s.cycle
        sent := (s.ual p).sent.putD 0 2 (((s.ual p).sent.getD 2 0 + 1) % 2 ^ 12), owed := (s.ual p).owed - 1 })
  /-- R323: with nothing to send, a port sends an idle flit under the next SEQ -/
  | idle (s : State) (p : Nat) : Receives s p → (s.ual p).resend = [] → (s.ual p).replay.length < 2 ^ 10 →
      ((s.ual p).owed = 0 ∨ ((s.ual p).last.getD 2 0 + 2 ^ 12 - (s.ual p).sent.getD 2 0) % 2 ^ 12 = 0) →
      FabricStep (.idleFlit p) s (s.setUal p { s.ual p with
        header := (nextHeader (s.ual p) (s.ual p).txSeq 3).word, txSeq := ((s.ual p).txSeq + 1) % 2 ^ 12
        replay := (s.ual p).replay ++ [((s.ual p).txSeq, 3)], cvc := ((s.ual p).cvc + 1) % 3, nakDue := false, sentAt := s.cycle })
  /-- R324: a flit of a replay goes out under its own SEQ -/
  | replay (s : State) (p q c : Nat) (rest : List (Nat × Nat)) : Receives s p → (s.ual p).resend = (q, c) :: rest →
      FabricStep (.idleFlit p) s (s.setUal p { s.ual p with
        header := (nextHeader (s.ual p) q c).word, resend := rest, cvc := ((s.ual p).cvc + 1) % 3, nakDue := false
        sentAt := s.cycle })
  /-- R324, R325: retraining ends in time, and the replay goes on from ACK + 1 -/
  | retrained (s : State) (p t : Nat) : (s.ual p).retrainSince = some t → s.cycle < t + 2 ^ 20 →
      FabricStep (.retrainComplete p) s
        (s.setUal p { s.ual p with retrainSince := none, lastGood := s.cycle, resend := (s.ual p).replay })
  /-- R325: a retraining that has not ended after 2^20 cycles kills the port -/
  | retrainFails (s : State) (p t : Nat) : (s.ual p).retrainSince = some t → t + 2 ^ 20 ≤ s.cycle →
      FabricStep (.retrainLimitExpiry p) s (s.killPort p)
  /-- R325: every 2^31 cycles the bucket falls by one -/
  | decay (s : State) (p n : Nat) : 0 < (s.ual p).level → 0 < n → n ≤ (s.ual p).level →
      (s.ual p).decayAt + n * 2 ^ 31 ≤ s.cycle → (n = (s.ual p).level ∨ s.cycle < (s.ual p).decayAt + (n + 1) * 2 ^ 31) →
      FabricStep (.retrainBucketDecay p) s
        (s.setUal p { s.ual p with level := (s.ual p).level - n, decayAt := (s.ual p).decayAt + n * 2 ^ 31 })
  /-- R328: with a forward buffer and a credit free, the stalled request proceeds, and those behind it as far as they can -/
  | stallRelease (s : State) (p f : Nat) (rest : List Nat) : (s.ual p).stalled = f :: rest →
      (f = 0 ∨ (s.forwards.length < 32 ∧ s.maySend (f - 1) 1 = true)) →
      FabricStep (.forwardStallRelease p 0) s (State.serveStalled p rest (s.serveRequest p f))
  /-- R341: a trained port that has heard nothing good for 65,536 cycles is dead -/
  | silence (s : State) (p : Nat) : p < 48 → (s.ual p).retired = false → (s.ual p).trained = true → (s.ual p).retrainSince = none →
      (s.ual p).lastGood + 65536 ≤ s.cycle → FabricStep (.linkSilenceTimeout p) s (s.killPort p)
  /-- R377, R382, R386: so is a trained port that is fenced, or whose link die is off -/
  | fencedPort (s : State) (p : Nat) : p < 48 → (s.ual p).retired = false → (s.ual p).trained = true →
      (s.fenced 6 p = true ∨ (s.die (16 + p / 24)).off = true) → FabricStep (.linkSilenceTimeout p) s (s.killPort p)
  /-- R325, R341: the switch of a retired port is declared lost -/
  | retiredPort (s : State) (p : Nat) : p < 48 → (s.ual p).retired = true →
      (s.fabLost.getLsbD p = false ∨ (s.ual p).flights ≠ []) → FabricStep (.linkSilenceTimeout p) s (s.killPort p)
  /-- R341: a fatal error loses the switch -/
  | fatal (s : State) (w : Nat) : Receives s w → (s.ual w).peerIdx = s.device → FabricStep (.fatalErrorNotice w) s ((noticed s w).declareSwitch w)
  /-- R341: a notice of a port down is kept; the device is lost once every live port has it -/
  | portDown (s v : State) (dev w : Nat) : dev < 128 → dev ≠ s.device → Receives s w → (s.ual w).peerIdx = s.device →
      v = noticed s w →
      FabricStep (.portDownNotice dev w) s { v with notices := v.notices.put (dev * 48 + w) 1 }.judgeDevices
  /-- R334: a freed granule is zeroed, and free -/
  | zeroed (s : State) (w n : Nat) : n ∈ (s.switch w).dirty →
      FabricStep (.granuleZeroed w n) s
        ((s.setSwitch w { s.switch w with dirty := (s.switch w).dirty.filter (· != n) }).zeroSpan
          (pavAddr w (n * 2 ^ 21)) (pavAddr w ((n + 1) * 2 ^ 21)))
  /-- R327, R340: the command's request is on a port; the switch takes the tenant's limit, and the status is 0 -/
  | quotaDone (s t : State) (w : Nat) : bits s.pavQuota.toNat 21 20 = 1 → w = bits s.pavQuota.toNat 47 42 →
      s.fabLost.getLsbD w = false → s.answered .quota (pavAddr w 0) = true → t = s.land .quota (pavAddr w 0) →
      FabricStep .pavQuotaDone s { t.setSwitch w { t.switch w with
          limit := (t.switch w).limit.putD 0 (bits s.pavQuota.toNat 63 48) (bits s.pavQuota.toNat 19 0) } with
        pavQuota := s.pavQuota &&& ~~~ 0x300000 }
  /-- R340: a lost switch gives status 2 -/
  | quotaLost (s : State) : bits s.pavQuota.toNat 21 20 = 1 → s.fabLost.getLsbD (bits s.pavQuota.toNat 47 42) = true →
      FabricStep .pavQuotaDone s { s with pavQuota := s.pavQuota &&& ~~~ 0x300000 ||| 0x200000 }

end Sys2Proof.Rules
end

