-- ==== Sys2Proof/Rules/Lane.lean ====
section
/-!
DEFINITION. Terms of the statements: what each lane-set instruction of fixed latency writes (R106 to R113, R121, R122).
-/

namespace Sys2Proof.Rules

open Sys2Proof.Machine

/-- S(r)[31:0] (R106). -/
def sLow (g : Group) (r : Reg) : Word := (g.getS r.toNat).setWidth 32

/-- The instruction, its marker, the vector registers it names, its destination, and r in thread t: R106. -/
inductive LaneTable : Instr → Bool → List Reg → Reg → (Group → Nat → Word) → Prop where
  | vadd (m : Bool) (d a b : Reg) : LaneTable (.vadd m d a b) m [d, a, b] d fun g t => Op.add.result (g.getV a.toNat t) (g.getV b.toNat t)
  | vaddS (m : Bool) (d a b : Reg) : LaneTable (.vaddS m d a b) m [d, a] d fun g t => Op.add.result (g.getV a.toNat t) (sLow g b)
  | vsub (m : Bool) (d a b : Reg) : LaneTable (.vsub m d a b) m [d, a, b] d fun g t => Op.sub.result (g.getV a.toNat t) (g.getV b.toNat t)
  | vsubS (m : Bool) (d a b : Reg) : LaneTable (.vsubS m d a b) m [d, a] d fun g t => Op.sub.result (g.getV a.toNat t) (sLow g b)
  | vaddsI32 (m : Bool) (d a b : Reg) : LaneTable (.vaddsI32 m d a b) m [d, a, b] d fun g t => Op.addsS.result (g.getV a.toNat t) (g.getV b.toNat t)
  | vaddsI32S (m : Bool) (d a b : Reg) : LaneTable (.vaddsI32S m d a b) m [d, a] d fun g t => Op.addsS.result (g.getV a.toNat t) (sLow g b)
  | vaddsN32 (m : Bool) (d a b : Reg) : LaneTable (.vaddsN32 m d a b) m [d, a, b] d fun g t => Op.addsN.result (g.getV a.toNat t) (g.getV b.toNat t)
  | vaddsN32S (m : Bool) (d a b : Reg) : LaneTable (.vaddsN32S m d a b) m [d, a] d fun g t => Op.addsN.result (g.getV a.toNat t) (sLow g b)
  | vsubsI32 (m : Bool) (d a b : Reg) : LaneTable (.vsubsI32 m d a b) m [d, a, b] d fun g t => Op.subsS.result (g.getV a.toNat t) (g.getV b.toNat t)
  | vsubsI32S (m : Bool) (d a b : Reg) : LaneTable (.vsubsI32S m d a b) m [d, a] d fun g t => Op.subsS.result (g.getV a.toNat t) (sLow g b)
  | vsubsN32 (m : Bool) (d a b : Reg) : LaneTable (.vsubsN32 m d a b) m [d, a, b] d fun g t => Op.subsN.result (g.getV a.toNat t) (g.getV b.toNat t)
  | vsubsN32S (m : Bool) (d a b : Reg) : LaneTable (.vsubsN32S m d a b) m [d, a] d fun g t => Op.subsN.result (g.getV a.toNat t) (sLow g b)
  | vmul (m : Bool) (d a b : Reg) : LaneTable (.vmul m d a b) m [d, a, b] d fun g t => Op.mul.result (g.getV a.toNat t) (g.getV b.toNat t)
  | vmulS (m : Bool) (d a b : Reg) : LaneTable (.vmulS m d a b) m [d, a] d fun g t => Op.mul.result (g.getV a.toNat t) (sLow g b)
  | vmulhI32 (m : Bool) (d a b : Reg) : LaneTable (.vmulhI32 m d a b) m [d, a, b] d fun g t => Op.mulhS.result (g.getV a.toNat t) (g.getV b.toNat t)
  | vmulhI32S (m : Bool) (d a b : Reg) : LaneTable (.vmulhI32S m d a b) m [d, a] d fun g t => Op.mulhS.result (g.getV a.toNat t) (sLow g b)
  | vmulhN32 (m : Bool) (d a b : Reg) : LaneTable (.vmulhN32 m d a b) m [d, a, b] d fun g t => Op.mulhN.result (g.getV a.toNat t) (g.getV b.toNat t)
  | vmulhN32S (m : Bool) (d a b : Reg) : LaneTable (.vmulhN32S m d a b) m [d, a] d fun g t => Op.mulhN.result (g.getV a.toNat t) (sLow g b)
  | vdivI32 (m : Bool) (d a b : Reg) : LaneTable (.vdivI32 m d a b) m [d, a, b] d fun g t => Op.divS.result (g.getV a.toNat t) (g.getV b.toNat t)
  | vdivI32S (m : Bool) (d a b : Reg) : LaneTable (.vdivI32S m d a b) m [d, a] d fun g t => Op.divS.result (g.getV a.toNat t) (sLow g b)
  | vdivN32 (m : Bool) (d a b : Reg) : LaneTable (.vdivN32 m d a b) m [d, a, b] d fun g t => Op.divN.result (g.getV a.toNat t) (g.getV b.toNat t)
  | vdivN32S (m : Bool) (d a b : Reg) : LaneTable (.vdivN32S m d a b) m [d, a] d fun g t => Op.divN.result (g.getV a.toNat t) (sLow g b)
  | vremI32 (m : Bool) (d a b : Reg) : LaneTable (.vremI32 m d a b) m [d, a, b] d fun g t => Op.remS.result (g.getV a.toNat t) (g.getV b.toNat t)
  | vremI32S (m : Bool) (d a b : Reg) : LaneTable (.vremI32S m d a b) m [d, a] d fun g t => Op.remS.result (g.getV a.toNat t) (sLow g b)
  | vremN32 (m : Bool) (d a b : Reg) : LaneTable (.vremN32 m d a b) m [d, a, b] d fun g t => Op.remN.result (g.getV a.toNat t) (g.getV b.toNat t)
  | vremN32S (m : Bool) (d a b : Reg) : LaneTable (.vremN32S m d a b) m [d, a] d fun g t => Op.remN.result (g.getV a.toNat t) (sLow g b)
  | vand (m : Bool) (d a b : Reg) : LaneTable (.vand m d a b) m [d, a, b] d fun g t => Op.and.result (g.getV a.toNat t) (g.getV b.toNat t)
  | vandS (m : Bool) (d a b : Reg) : LaneTable (.vandS m d a b) m [d, a] d fun g t => Op.and.result (g.getV a.toNat t) (sLow g b)
  | vor (m : Bool) (d a b : Reg) : LaneTable (.vor m d a b) m [d, a, b] d fun g t => Op.or.result (g.getV a.toNat t) (g.getV b.toNat t)
  | vorS (m : Bool) (d a b : Reg) : LaneTable (.vorS m d a b) m [d, a] d fun g t => Op.or.result (g.getV a.toNat t) (sLow g b)
  | vxor (m : Bool) (d a b : Reg) : LaneTable (.vxor m d a b) m [d, a, b] d fun g t => Op.xor.result (g.getV a.toNat t) (g.getV b.toNat t)
  | vxorS (m : Bool) (d a b : Reg) : LaneTable (.vxorS m d a b) m [d, a] d fun g t => Op.xor.result (g.getV a.toNat t) (sLow g b)
  | vandn (m : Bool) (d a b : Reg) : LaneTable (.vandn m d a b) m [d, a, b] d fun g t => Op.andn.result (g.getV a.toNat t) (g.getV b.toNat t)
  | vandnS (m : Bool) (d a b : Reg) : LaneTable (.vandnS m d a b) m [d, a] d fun g t => Op.andn.result (g.getV a.toNat t) (sLow g b)
  | vshl (m : Bool) (d a b : Reg) : LaneTable (.vshl m d a b) m [d, a, b] d fun g t => Op.shl.result (g.getV a.toNat t) (g.getV b.toNat t)
  | vshlS (m : Bool) (d a b : Reg) : LaneTable (.vshlS m d a b) m [d, a] d fun g t => Op.shl.result (g.getV a.toNat t) (sLow g b)
  | vshr (m : Bool) (d a b : Reg) : LaneTable (.vshr m d a b) m [d, a, b] d fun g t => Op.shr.result (g.getV a.toNat t) (g.getV b.toNat t)
  | vshrS (m : Bool) (d a b : Reg) : LaneTable (.vshrS m d a b) m [d, a] d fun g t => Op.shr.result (g.getV a.toNat t) (sLow g b)
  | vsra (m : Bool) (d a b : Reg) : LaneTable (.vsra m d a b) m [d, a, b] d fun g t => Op.sra.result (g.getV a.toNat t) (g.getV b.toNat t)
  | vsraS (m : Bool) (d a b : Reg) : LaneTable (.vsraS m d a b) m [d, a] d fun g t => Op.sra.result (g.getV a.toNat t) (sLow g b)
  | vrol (m : Bool) (d a b : Reg) : LaneTable (.vrol m d a b) m [d, a, b] d fun g t => Op.rol.result (g.getV a.toNat t) (g.getV b.toNat t)
  | vrolS (m : Bool) (d a b : Reg) : LaneTable (.vrolS m d a b) m [d, a] d fun g t => Op.rol.result (g.getV a.toNat t) (sLow g b)
  | vminI32 (m : Bool) (d a b : Reg) : LaneTable (.vminI32 m d a b) m [d, a, b] d fun g t => Op.minS.result (g.getV a.toNat t) (g.getV b.toNat t)
  | vminI32S (m : Bool) (d a b : Reg) : LaneTable (.vminI32S m d a b) m [d, a] d fun g t => Op.minS.result (g.getV a.toNat t) (sLow g b)
  | vmaxI32 (m : Bool) (d a b : Reg) : LaneTable (.vmaxI32 m d a b) m [d, a, b] d fun g t => Op.maxS.result (g.getV a.toNat t) (g.getV b.toNat t)
  | vmaxI32S (m : Bool) (d a b : Reg) : LaneTable (.vmaxI32S m d a b) m [d, a] d fun g t => Op.maxS.result (g.getV a.toNat t) (sLow g b)
  | vminN32 (m : Bool) (d a b : Reg) : LaneTable (.vminN32 m d a b) m [d, a, b] d fun g t => Op.minN.result (g.getV a.toNat t) (g.getV b.toNat t)
  | vminN32S (m : Bool) (d a b : Reg) : LaneTable (.vminN32S m d a b) m [d, a] d fun g t => Op.minN.result (g.getV a.toNat t) (sLow g b)
  | vmaxN32 (m : Bool) (d a b : Reg) : LaneTable (.vmaxN32 m d a b) m [d, a, b] d fun g t => Op.maxN.result (g.getV a.toNat t) (g.getV b.toNat t)
  | vmaxN32S (m : Bool) (d a b : Reg) : LaneTable (.vmaxN32S m d a b) m [d, a] d fun g t => Op.maxN.result (g.getV a.toNat t) (sLow g b)
  | vmad (m : Bool) (d a b : Reg) : LaneTable (.vmad m d a b) m [d, a, b] d fun g t =>
      low 32 (un (g.getV d.toNat t) + un (g.getV a.toNat t) * un (g.getV b.toNat t))
  | vmadS (m : Bool) (d a b : Reg) : LaneTable (.vmadS m d a b) m [d, a] d fun g t =>
      low 32 (un (g.getV d.toNat t) + un (g.getV a.toNat t) * un (sLow g b))
  | vabsI32 (m : Bool) (d a : Reg) : LaneTable (.vabsI32 m d a) m [d, a] d fun g t => Op.abs.result (g.getV a.toNat t) 0
  | vclz (m : Bool) (d a : Reg) : LaneTable (.vclz m d a) m [d, a] d fun g t => Op.clz.result (g.getV a.toNat t) 0
  | vpopc (m : Bool) (d a : Reg) : LaneTable (.vpopc m d a) m [d, a] d fun g t => Op.popc.result (g.getV a.toNat t) 0
  | vbrev (m : Bool) (d a : Reg) : LaneTable (.vbrev m d a) m [d, a] d fun g t => Op.brev.result (g.getV a.toNat t) 0

/-- The same for the moves of R108 and the immediates of R109. -/
inductive LaneMove : Instr → Bool → List Reg → Reg → (Group → Nat → Word) → Prop where
  | vsel (m : Bool) (d a b : Reg) : LaneMove (.vsel m d a b) m [d, a] d fun g t =>
      if (g.getS b.toNat).getLsbD t then g.getV a.toNat t else g.getV d.toNat t
  | vmov (m : Bool) (d a : Reg) : LaneMove (.vmov m d a) m [d, a] d fun g t => g.getV a.toNat t
  | vmovS (m : Bool) (d b : Reg) : LaneMove (.vmovS m d b) m [d] d fun g _ => sLow g b
  | vtid (m : Bool) (d : Reg) : LaneMove (.vtid m d) m [d] d fun _ t => BitVec.ofNat 32 t
  | vaddi (m : Bool) (d a : Reg) (i : BitVec 10) : LaneMove (.vaddi m d a i) m [d, a] d fun g t =>
      Op.add.result (g.getV a.toNat t) (i.signExtend 32)
  | vandi (m : Bool) (d a : Reg) (i : BitVec 10) : LaneMove (.vandi m d a i) m [d, a] d fun g t =>
      Op.and.result (g.getV a.toNat t) (i.signExtend 32)
  | vori (m : Bool) (d a : Reg) (i : BitVec 10) : LaneMove (.vori m d a i) m [d, a] d fun g t =>
      Op.or.result (g.getV a.toNat t) (i.signExtend 32)
  | vxori (m : Bool) (d a : Reg) (i : BitVec 10) : LaneMove (.vxori m d a i) m [d, a] d fun g t =>
      Op.xor.result (g.getV a.toNat t) (i.signExtend 32)
  | vmuli (m : Bool) (d a : Reg) (i : BitVec 10) : LaneMove (.vmuli m d a i) m [d, a] d fun g t =>
      Op.mul.result (g.getV a.toNat t) (i.signExtend 32)
  | vmovi (m : Bool) (d : Reg) (i : BitVec 10) : LaneMove (.vmovi m d i) m [d] d fun _ _ => i.signExtend 32
  | vshli (m : Bool) (d a : Reg) (c : BitVec 5) : LaneMove (.vshli m d a c) m [d, a] d fun g t =>
      Op.shl.result (g.getV a.toNat t) (c.setWidth 32)
  | vshri (m : Bool) (d a : Reg) (c : BitVec 5) : LaneMove (.vshri m d a c) m [d, a] d fun g t =>
      Op.shr.result (g.getV a.toNat t) (c.setWidth 32)
  | vsrai (m : Bool) (d a : Reg) (c : BitVec 5) : LaneMove (.vsrai m d a c) m [d, a] d fun g t =>
      Op.sra.result (g.getV a.toNat t) (c.setWidth 32)

/-- The same for a floating-point instruction, with the flags it raises in thread t: R110 and the conversions of R128 to
R131. `fopWord` and `cvtWord` are the machine's element arithmetic. -/
inductive LaneFloat : Instr → Bool → List Reg → Reg → (Group → Nat → Word × Flags) → Prop where
  | vfaddF32 (m : Bool) (d a b : Reg) : LaneFloat (.vfaddF32 m d a b) m [d, a, b] d fun g t =>
      fopWord .f32 g.rounding .add (g.getV a.toNat t) (g.getV b.toNat t) (g.getV d.toNat t)
  | vfaddF32S (m : Bool) (d a b : Reg) : LaneFloat (.vfaddF32S m d a b) m [d, a] d fun g t =>
      fopWord .f32 g.rounding .add (g.getV a.toNat t) (sLow g b) (g.getV d.toNat t)
  | vfsubF32 (m : Bool) (d a b : Reg) : LaneFloat (.vfsubF32 m d a b) m [d, a, b] d fun g t =>
      fopWord .f32 g.rounding .sub (g.getV a.toNat t) (g.getV b.toNat t) (g.getV d.toNat t)
  | vfsubF32S (m : Bool) (d a b : Reg) : LaneFloat (.vfsubF32S m d a b) m [d, a] d fun g t =>
      fopWord .f32 g.rounding .sub (g.getV a.toNat t) (sLow g b) (g.getV d.toNat t)
  | vfmulF32 (m : Bool) (d a b : Reg) : LaneFloat (.vfmulF32 m d a b) m [d, a, b] d fun g t =>
      fopWord .f32 g.rounding .mul (g.getV a.toNat t) (g.getV b.toNat t) (g.getV d.toNat t)
  | vfmulF32S (m : Bool) (d a b : Reg) : LaneFloat (.vfmulF32S m d a b) m [d, a] d fun g t =>
      fopWord .f32 g.rounding .mul (g.getV a.toNat t) (sLow g b) (g.getV d.toNat t)
  | vfminF32 (m : Bool) (d a b : Reg) : LaneFloat (.vfminF32 m d a b) m [d, a, b] d fun g t =>
      fopWord .f32 g.rounding .min (g.getV a.toNat t) (g.getV b.toNat t) (g.getV d.toNat t)
  | vfminF32S (m : Bool) (d a b : Reg) : LaneFloat (.vfminF32S m d a b) m [d, a] d fun g t =>
      fopWord .f32 g.rounding .min (g.getV a.toNat t) (sLow g b) (g.getV d.toNat t)
  | vfmaxF32 (m : Bool) (d a b : Reg) : LaneFloat (.vfmaxF32 m d a b) m [d, a, b] d fun g t =>
      fopWord .f32 g.rounding .max (g.getV a.toNat t) (g.getV b.toNat t) (g.getV d.toNat t)
  | vfmaxF32S (m : Bool) (d a b : Reg) : LaneFloat (.vfmaxF32S m d a b) m [d, a] d fun g t =>
      fopWord .f32 g.rounding .max (g.getV a.toNat t) (sLow g b) (g.getV d.toNat t)
  | vfmaF32 (m : Bool) (d a b : Reg) : LaneFloat (.vfmaF32 m d a b) m [d, a, b] d fun g t =>
      fopWord .f32 g.rounding .fma (g.getV a.toNat t) (g.getV b.toNat t) (g.getV d.toNat t)
  | vfmaF32S (m : Bool) (d a b : Reg) : LaneFloat (.vfmaF32S m d a b) m [d, a] d fun g t =>
      fopWord .f32 g.rounding .fma (g.getV a.toNat t) (sLow g b) (g.getV d.toNat t)
  | vfmsF32 (m : Bool) (d a b : Reg) : LaneFloat (.vfmsF32 m d a b) m [d, a, b] d fun g t =>
      fopWord .f32 g.rounding .fms (g.getV a.toNat t) (g.getV b.toNat t) (g.getV d.toNat t)
  | vfmsF32S (m : Bool) (d a b : Reg) : LaneFloat (.vfmsF32S m d a b) m [d, a] d fun g t =>
      fopWord .f32 g.rounding .fms (g.getV a.toNat t) (sLow g b) (g.getV d.toNat t)
  | vfnmaF32 (m : Bool) (d a b : Reg) : LaneFloat (.vfnmaF32 m d a b) m [d, a, b] d fun g t =>
      fopWord .f32 g.rounding .nma (g.getV a.toNat t) (g.getV b.toNat t) (g.getV d.toNat t)
  | vfnmaF32S (m : Bool) (d a b : Reg) : LaneFloat (.vfnmaF32S m d a b) m [d, a] d fun g t =>
      fopWord .f32 g.rounding .nma (g.getV a.toNat t) (sLow g b) (g.getV d.toNat t)
  | vfaddF16x2 (m : Bool) (d a b : Reg) : LaneFloat (.vfaddF16x2 m d a b) m [d, a, b] d fun g t =>
      fopWord .f16x2 g.rounding .add (g.getV a.toNat t) (g.getV b.toNat t) (g.getV d.toNat t)
  | vfsubF16x2 (m : Bool) (d a b : Reg) : LaneFloat (.vfsubF16x2 m d a b) m [d, a, b] d fun g t =>
      fopWord .f16x2 g.rounding .sub (g.getV a.toNat t) (g.getV b.toNat t) (g.getV d.toNat t)
  | vfmulF16x2 (m : Bool) (d a b : Reg) : LaneFloat (.vfmulF16x2 m d a b) m [d, a, b] d fun g t =>
      fopWord .f16x2 g.rounding .mul (g.getV a.toNat t) (g.getV b.toNat t) (g.getV d.toNat t)
  | vfminF16x2 (m : Bool) (d a b : Reg) : LaneFloat (.vfminF16x2 m d a b) m [d, a, b] d fun g t =>
      fopWord .f16x2 g.rounding .min (g.getV a.toNat t) (g.getV b.toNat t) (g.getV d.toNat t)
  | vfmaxF16x2 (m : Bool) (d a b : Reg) : LaneFloat (.vfmaxF16x2 m d a b) m [d, a, b] d fun g t =>
      fopWord .f16x2 g.rounding .max (g.getV a.toNat t) (g.getV b.toNat t) (g.getV d.toNat t)
  | vfmaF16x2 (m : Bool) (d a b : Reg) : LaneFloat (.vfmaF16x2 m d a b) m [d, a, b] d fun g t =>
      fopWord .f16x2 g.rounding .fma (g.getV a.toNat t) (g.getV b.toNat t) (g.getV d.toNat t)
  | vfmsF16x2 (m : Bool) (d a b : Reg) : LaneFloat (.vfmsF16x2 m d a b) m [d, a, b] d fun g t =>
      fopWord .f16x2 g.rounding .fms (g.getV a.toNat t) (g.getV b.toNat t) (g.getV d.toNat t)
  | vfnmaF16x2 (m : Bool) (d a b : Reg) : LaneFloat (.vfnmaF16x2 m d a b) m [d, a, b] d fun g t =>
      fopWord .f16x2 g.rounding .nma (g.getV a.toNat t) (g.getV b.toNat t) (g.getV d.toNat t)
  | vfaddBf16x2 (m : Bool) (d a b : Reg) : LaneFloat (.vfaddBf16x2 m d a b) m [d, a, b] d fun g t =>
      fopWord .bf16x2 g.rounding .add (g.getV a.toNat t) (g.getV b.toNat t) (g.getV d.toNat t)
  | vfsubBf16x2 (m : Bool) (d a b : Reg) : LaneFloat (.vfsubBf16x2 m d a b) m [d, a, b] d fun g t =>
      fopWord .bf16x2 g.rounding .sub (g.getV a.toNat t) (g.getV b.toNat t) (g.getV d.toNat t)
  | vfmulBf16x2 (m : Bool) (d a b : Reg) : LaneFloat (.vfmulBf16x2 m d a b) m [d, a, b] d fun g t =>
      fopWord .bf16x2 g.rounding .mul (g.getV a.toNat t) (g.getV b.toNat t) (g.getV d.toNat t)
  | vfminBf16x2 (m : Bool) (d a b : Reg) : LaneFloat (.vfminBf16x2 m d a b) m [d, a, b] d fun g t =>
      fopWord .bf16x2 g.rounding .min (g.getV a.toNat t) (g.getV b.toNat t) (g.getV d.toNat t)
  | vfmaxBf16x2 (m : Bool) (d a b : Reg) : LaneFloat (.vfmaxBf16x2 m d a b) m [d, a, b] d fun g t =>
      fopWord .bf16x2 g.rounding .max (g.getV a.toNat t) (g.getV b.toNat t) (g.getV d.toNat t)
  | vfmaBf16x2 (m : Bool) (d a b : Reg) : LaneFloat (.vfmaBf16x2 m d a b) m [d, a, b] d fun g t =>
      fopWord .bf16x2 g.rounding .fma (g.getV a.toNat t) (g.getV b.toNat t) (g.getV d.toNat t)
  | vfmsBf16x2 (m : Bool) (d a b : Reg) : LaneFloat (.vfmsBf16x2 m d a b) m [d, a, b] d fun g t =>
      fopWord .bf16x2 g.rounding .fms (g.getV a.toNat t) (g.getV b.toNat t) (g.getV d.toNat t)
  | vfnmaBf16x2 (m : Bool) (d a b : Reg) : LaneFloat (.vfnmaBf16x2 m d a b) m [d, a, b] d fun g t =>
      fopWord .bf16x2 g.rounding .nma (g.getV a.toNat t) (g.getV b.toNat t) (g.getV d.toNat t)
  | vcvt (m : Bool) (d a c : Reg) : LaneFloat (.vcvt m d a c) m [d, a] d fun g t =>
      cvtWord ⟨g.rounding, false, none⟩ c (g.getV a.toNat t) (g.getV d.toNat t)
  | vcvtSat (m : Bool) (d a c : Reg) : LaneFloat (.vcvtSat m d a c) m [d, a] d fun g t =>
      cvtWord ⟨g.rounding, true, none⟩ c (g.getV a.toNat t) (g.getV d.toNat t)

/-- The same for a result without flags: `vfclass` (R113). -/
inductive LaneClass : Instr → Bool → List Reg → Reg → (Group → Nat → Word) → Prop where
  | vfclassF32 (m : Bool) (d a : Reg) : LaneClass (.vfclassF32 m d a) m [d, a] d fun g t => fclassWord .f32 (g.getV a.toNat t)
  | vfclassF16x2 (m : Bool) (d a : Reg) : LaneClass (.vfclassF16x2 m d a) m [d, a] d fun g t => fclassWord .f16x2 (g.getV a.toNat t)
  | vfclassBf16x2 (m : Bool) (d a : Reg) : LaneClass (.vfclassBf16x2 m d a) m [d, a] d fun g t => fclassWord .bf16x2 (g.getV a.toNat t)

/-- The stochastic conversions (R128, R131): the marker, the destination, the source, the conversion code, and whether
they saturate. -/
inductive StochasticConvert : Instr → Bool → Reg → Reg → Reg → Bool → Prop where
  | vcvtSr (m : Bool) (d a c : Reg) : StochasticConvert (.vcvtSr m d a c) m d a c false
  | vcvtSatSr (m : Bool) (d a c : Reg) : StochasticConvert (.vcvtSatSr m d a c) m d a c true

/-- An instruction that writes the mask of the active threads that satisfy a condition to S(d): R107. -/
inductive LaneCompare : Instr → Bool → List Reg → Reg → (Group → Nat → Bool) → Prop where
  | vcmpEq (m : Bool) (d a b : Reg) : LaneCompare (.vcmpEq m d a b) m [a, b] d fun g t =>
      Rel.eq.test (g.getV a.toNat t) (g.getV b.toNat t)
  | vcmpEqS (m : Bool) (d a b : Reg) : LaneCompare (.vcmpEqS m d a b) m [a] d fun g t =>
      Rel.eq.test (g.getV a.toNat t) (sLow g b)
  | vcmpNe (m : Bool) (d a b : Reg) : LaneCompare (.vcmpNe m d a b) m [a, b] d fun g t =>
      Rel.ne.test (g.getV a.toNat t) (g.getV b.toNat t)
  | vcmpNeS (m : Bool) (d a b : Reg) : LaneCompare (.vcmpNeS m d a b) m [a] d fun g t =>
      Rel.ne.test (g.getV a.toNat t) (sLow g b)
  | vcmpLt (m : Bool) (d a b : Reg) : LaneCompare (.vcmpLt m d a b) m [a, b] d fun g t =>
      Rel.lt.test (g.getV a.toNat t) (g.getV b.toNat t)
  | vcmpLtS (m : Bool) (d a b : Reg) : LaneCompare (.vcmpLtS m d a b) m [a] d fun g t =>
      Rel.lt.test (g.getV a.toNat t) (sLow g b)
  | vcmpLe (m : Bool) (d a b : Reg) : LaneCompare (.vcmpLe m d a b) m [a, b] d fun g t =>
      Rel.le.test (g.getV a.toNat t) (g.getV b.toNat t)
  | vcmpLeS (m : Bool) (d a b : Reg) : LaneCompare (.vcmpLeS m d a b) m [a] d fun g t =>
      Rel.le.test (g.getV a.toNat t) (sLow g b)
  | vcmpGt (m : Bool) (d a b : Reg) : LaneCompare (.vcmpGt m d a b) m [a, b] d fun g t =>
      Rel.gt.test (g.getV a.toNat t) (g.getV b.toNat t)
  | vcmpGtS (m : Bool) (d a b : Reg) : LaneCompare (.vcmpGtS m d a b) m [a] d fun g t =>
      Rel.gt.test (g.getV a.toNat t) (sLow g b)
  | vcmpGe (m : Bool) (d a b : Reg) : LaneCompare (.vcmpGe m d a b) m [a, b] d fun g t =>
      Rel.ge.test (g.getV a.toNat t) (g.getV b.toNat t)
  | vcmpGeS (m : Bool) (d a b : Reg) : LaneCompare (.vcmpGeS m d a b) m [a] d fun g t =>
      Rel.ge.test (g.getV a.toNat t) (sLow g b)
  | vcmpLo (m : Bool) (d a b : Reg) : LaneCompare (.vcmpLo m d a b) m [a, b] d fun g t =>
      Rel.lo.test (g.getV a.toNat t) (g.getV b.toNat t)
  | vcmpLoS (m : Bool) (d a b : Reg) : LaneCompare (.vcmpLoS m d a b) m [a] d fun g t =>
      Rel.lo.test (g.getV a.toNat t) (sLow g b)
  | vcmpLs (m : Bool) (d a b : Reg) : LaneCompare (.vcmpLs m d a b) m [a, b] d fun g t =>
      Rel.ls.test (g.getV a.toNat t) (g.getV b.toNat t)
  | vcmpLsS (m : Bool) (d a b : Reg) : LaneCompare (.vcmpLsS m d a b) m [a] d fun g t =>
      Rel.ls.test (g.getV a.toNat t) (sLow g b)
  | vcmpHi (m : Bool) (d a b : Reg) : LaneCompare (.vcmpHi m d a b) m [a, b] d fun g t =>
      Rel.hi.test (g.getV a.toNat t) (g.getV b.toNat t)
  | vcmpHiS (m : Bool) (d a b : Reg) : LaneCompare (.vcmpHiS m d a b) m [a] d fun g t =>
      Rel.hi.test (g.getV a.toNat t) (sLow g b)
  | vcmpHs (m : Bool) (d a b : Reg) : LaneCompare (.vcmpHs m d a b) m [a, b] d fun g t =>
      Rel.hs.test (g.getV a.toNat t) (g.getV b.toNat t)
  | vcmpHsS (m : Bool) (d a b : Reg) : LaneCompare (.vcmpHsS m d a b) m [a] d fun g t =>
      Rel.hs.test (g.getV a.toNat t) (sLow g b)

/-- An FP32 compare, and a packed one whose two element masks go to S(d) and S(d + 1): R112. The last term gives element
e's condition and flags in thread t. -/
inductive FloatCompare : Instr → Bool → List Reg → Reg → Bool → (Group → Nat → Nat → Bool × Flags) → Prop where
  | vfcmpEqF32 (m : Bool) (d a b : Reg) : FloatCompare (.vfcmpEqF32 m d a b) m [a, b] d false fun g t _ =>
      fcmpCode fmtF32 g.rounding.ftz .eq (g.getV a.toNat t).toNat (g.getV b.toNat t).toNat
  | vfcmpNeF32 (m : Bool) (d a b : Reg) : FloatCompare (.vfcmpNeF32 m d a b) m [a, b] d false fun g t _ =>
      fcmpCode fmtF32 g.rounding.ftz .ne (g.getV a.toNat t).toNat (g.getV b.toNat t).toNat
  | vfcmpLtF32 (m : Bool) (d a b : Reg) : FloatCompare (.vfcmpLtF32 m d a b) m [a, b] d false fun g t _ =>
      fcmpCode fmtF32 g.rounding.ftz .lt (g.getV a.toNat t).toNat (g.getV b.toNat t).toNat
  | vfcmpLeF32 (m : Bool) (d a b : Reg) : FloatCompare (.vfcmpLeF32 m d a b) m [a, b] d false fun g t _ =>
      fcmpCode fmtF32 g.rounding.ftz .le (g.getV a.toNat t).toNat (g.getV b.toNat t).toNat
  | vfcmpGtF32 (m : Bool) (d a b : Reg) : FloatCompare (.vfcmpGtF32 m d a b) m [a, b] d false fun g t _ =>
      fcmpCode fmtF32 g.rounding.ftz .gt (g.getV a.toNat t).toNat (g.getV b.toNat t).toNat
  | vfcmpGeF32 (m : Bool) (d a b : Reg) : FloatCompare (.vfcmpGeF32 m d a b) m [a, b] d false fun g t _ =>
      fcmpCode fmtF32 g.rounding.ftz .ge (g.getV a.toNat t).toNat (g.getV b.toNat t).toNat
  | vfcmpUnF32 (m : Bool) (d a b : Reg) : FloatCompare (.vfcmpUnF32 m d a b) m [a, b] d false fun g t _ =>
      fcmpCode fmtF32 g.rounding.ftz .un (g.getV a.toNat t).toNat (g.getV b.toNat t).toNat
  | vfcmpEqF16x2 (m : Bool) (d a b : Reg) : FloatCompare (.vfcmpEqF16x2 m d a b) m [a, b] d true fun g t e =>
      fcmpCode fmtF16 g.rounding.ftz .eq ((g.getV a.toNat t).toNat / 2 ^ (16 * e) % 2 ^ 16) ((g.getV b.toNat t).toNat / 2 ^ (16 * e) % 2 ^ 16)
  | vfcmpNeF16x2 (m : Bool) (d a b : Reg) : FloatCompare (.vfcmpNeF16x2 m d a b) m [a, b] d true fun g t e =>
      fcmpCode fmtF16 g.rounding.ftz .ne ((g.getV a.toNat t).toNat / 2 ^ (16 * e) % 2 ^ 16) ((g.getV b.toNat t).toNat / 2 ^ (16 * e) % 2 ^ 16)
  | vfcmpLtF16x2 (m : Bool) (d a b : Reg) : FloatCompare (.vfcmpLtF16x2 m d a b) m [a, b] d true fun g t e =>
      fcmpCode fmtF16 g.rounding.ftz .lt ((g.getV a.toNat t).toNat / 2 ^ (16 * e) % 2 ^ 16) ((g.getV b.toNat t).toNat / 2 ^ (16 * e) % 2 ^ 16)
  | vfcmpLeF16x2 (m : Bool) (d a b : Reg) : FloatCompare (.vfcmpLeF16x2 m d a b) m [a, b] d true fun g t e =>
      fcmpCode fmtF16 g.rounding.ftz .le ((g.getV a.toNat t).toNat / 2 ^ (16 * e) % 2 ^ 16) ((g.getV b.toNat t).toNat / 2 ^ (16 * e) % 2 ^ 16)
  | vfcmpGtF16x2 (m : Bool) (d a b : Reg) : FloatCompare (.vfcmpGtF16x2 m d a b) m [a, b] d true fun g t e =>
      fcmpCode fmtF16 g.rounding.ftz .gt ((g.getV a.toNat t).toNat / 2 ^ (16 * e) % 2 ^ 16) ((g.getV b.toNat t).toNat / 2 ^ (16 * e) % 2 ^ 16)
  | vfcmpGeF16x2 (m : Bool) (d a b : Reg) : FloatCompare (.vfcmpGeF16x2 m d a b) m [a, b] d true fun g t e =>
      fcmpCode fmtF16 g.rounding.ftz .ge ((g.getV a.toNat t).toNat / 2 ^ (16 * e) % 2 ^ 16) ((g.getV b.toNat t).toNat / 2 ^ (16 * e) % 2 ^ 16)
  | vfcmpUnF16x2 (m : Bool) (d a b : Reg) : FloatCompare (.vfcmpUnF16x2 m d a b) m [a, b] d true fun g t e =>
      fcmpCode fmtF16 g.rounding.ftz .un ((g.getV a.toNat t).toNat / 2 ^ (16 * e) % 2 ^ 16) ((g.getV b.toNat t).toNat / 2 ^ (16 * e) % 2 ^ 16)
  | vfcmpEqBf16x2 (m : Bool) (d a b : Reg) : FloatCompare (.vfcmpEqBf16x2 m d a b) m [a, b] d true fun g t e =>
      fcmpCode fmtBF16 g.rounding.ftz .eq ((g.getV a.toNat t).toNat / 2 ^ (16 * e) % 2 ^ 16) ((g.getV b.toNat t).toNat / 2 ^ (16 * e) % 2 ^ 16)
  | vfcmpNeBf16x2 (m : Bool) (d a b : Reg) : FloatCompare (.vfcmpNeBf16x2 m d a b) m [a, b] d true fun g t e =>
      fcmpCode fmtBF16 g.rounding.ftz .ne ((g.getV a.toNat t).toNat / 2 ^ (16 * e) % 2 ^ 16) ((g.getV b.toNat t).toNat / 2 ^ (16 * e) % 2 ^ 16)
  | vfcmpLtBf16x2 (m : Bool) (d a b : Reg) : FloatCompare (.vfcmpLtBf16x2 m d a b) m [a, b] d true fun g t e =>
      fcmpCode fmtBF16 g.rounding.ftz .lt ((g.getV a.toNat t).toNat / 2 ^ (16 * e) % 2 ^ 16) ((g.getV b.toNat t).toNat / 2 ^ (16 * e) % 2 ^ 16)
  | vfcmpLeBf16x2 (m : Bool) (d a b : Reg) : FloatCompare (.vfcmpLeBf16x2 m d a b) m [a, b] d true fun g t e =>
      fcmpCode fmtBF16 g.rounding.ftz .le ((g.getV a.toNat t).toNat / 2 ^ (16 * e) % 2 ^ 16) ((g.getV b.toNat t).toNat / 2 ^ (16 * e) % 2 ^ 16)
  | vfcmpGtBf16x2 (m : Bool) (d a b : Reg) : FloatCompare (.vfcmpGtBf16x2 m d a b) m [a, b] d true fun g t e =>
      fcmpCode fmtBF16 g.rounding.ftz .gt ((g.getV a.toNat t).toNat / 2 ^ (16 * e) % 2 ^ 16) ((g.getV b.toNat t).toNat / 2 ^ (16 * e) % 2 ^ 16)
  | vfcmpGeBf16x2 (m : Bool) (d a b : Reg) : FloatCompare (.vfcmpGeBf16x2 m d a b) m [a, b] d true fun g t e =>
      fcmpCode fmtBF16 g.rounding.ftz .ge ((g.getV a.toNat t).toNat / 2 ^ (16 * e) % 2 ^ 16) ((g.getV b.toNat t).toNat / 2 ^ (16 * e) % 2 ^ 16)
  | vfcmpUnBf16x2 (m : Bool) (d a b : Reg) : FloatCompare (.vfcmpUnBf16x2 m d a b) m [a, b] d true fun g t e =>
      fcmpCode fmtBF16 g.rounding.ftz .un ((g.getV a.toNat t).toNat / 2 ^ (16 * e) % 2 ^ 16) ((g.getV b.toNat t).toNat / 2 ^ (16 * e) % 2 ^ 16)

/-- The predicate source p of R121: 0 is V(va, t) ≠ 0, 1 to 5 the thread's sticky flags. -/
def predicate (g : Group) (p a : Reg) (t : Nat) : Bool :=
  if p = 0 then decide (g.getV a.toNat t ≠ 0)
  else if p = 1 then g.ff.nv.getLsbD t
  else if p = 2 then g.ff.dz.getLsbD t
  else if p = 3 then g.ff.of.getLsbD t
  else if p = 4 then g.ff.uf.getLsbD t
  else g.ff.nx.getLsbD t

/-- The active threads that satisfy a predicate, in ascending order. -/
def voters (g : Group) (q : Nat → Bool) : List Nat := (List.range 64).filter fun t => g.xm.getLsbD t && q t

/-- The votes (R122), with the value they write to S(d). -/
inductive Vote : Instr → Bool → List Reg → Reg → (Group → Dword) → Prop where
  | voteAny (m : Bool) (d a p : Reg) : Vote (.voteAny m d a p) m [a] d fun g => allOrNone (voters g (predicate g p a) != [])
  | voteAll (m : Bool) (d a p : Reg) : Vote (.voteAll m d a p) m [a] d fun g =>
      allOrNone (voters g (predicate g p a) == voters g fun _ => true)
  | voteBallot (m : Bool) (d a p : Reg) : Vote (.voteBallot m d a p) m [a] d fun g =>
      threadMask fun t => g.xm.getLsbD t && predicate g p a t
  | vfirst (m : Bool) (d a p : Reg) : Vote (.vfirst m d a p) m [a] d fun g =>
      match (voters g (predicate g p a)).head? with
      | some t => BitVec.ofNat 64 t
      | none => BitVec.allOnes 64

/-- The instruction has issued; V(d, t) holds f t in every active thread t, and nothing else of the machine has changed
but what `finished` says: no inactive thread, no other register, no flag, no other group, no byte of memory (R105). -/
def WritesLanes (i : Instr) (m : Bool) (s : State) (d : Nat) (f : Nat → Word) : Prop :=
  ∃ g, exec i s = .next (finished s m (s.me.pc + 4) g) ∧ g = { s.me with v := g.v }
    ∧ (∀ r t, t < 64 → g.getV r t = if r = d ∧ s.me.xm.getLsbD t = true then f t else s.me.getV r t)
    ∧ ∀ a, (finished s m (s.me.pc + 4) g).byte a = s.byte a

/-- The sticky sets g are the sets f with the flags h t added in every active thread t (R94). -/
def FlagsRaised (xm : Mask) (f g : FF) (h : Nat → Flags) : Prop :=
  ∀ t, t < 64 →
    g.nv.getLsbD t = (f.nv.getLsbD t || (xm.getLsbD t && (h t).nv))
    ∧ g.dz.getLsbD t = (f.dz.getLsbD t || (xm.getLsbD t && (h t).dz))
    ∧ g.of.getLsbD t = (f.of.getLsbD t || (xm.getLsbD t && (h t).of))
    ∧ g.uf.getLsbD t = (f.uf.getLsbD t || (xm.getLsbD t && (h t).uf))
    ∧ g.nx.getLsbD t = (f.nx.getLsbD t || (xm.getLsbD t && (h t).nx))

end Sys2Proof.Rules
end

