-- ==== Sys2Proof/Rules/Results.lean ====
section
/-!
DEFINITION. Terms of the statements: the lane-set instructions of variable latency, whose results are delivered later:
special functions (R123), shuffles (R116 to R119), reductions and scans (R120).
-/

namespace Sys2Proof.Rules

open Sys2Proof.Machine

/-- The instruction, its marker, the vector registers it names, its destination, and the result and flags of thread t. The
function values of R123 are the machine's `sfuWord` and `fdivWord`. -/
inductive SpecialFunction : Instr → Bool → List Reg → Reg → (Group → Nat → Word × Flags) → Prop where
  | vrcp (m : Bool) (d a : Reg) : SpecialFunction (.vrcp m d a) m [d, a] d fun g t => sfuWord .rcp g.rounding (g.getV a.toNat t)
  | vrsq (m : Bool) (d a : Reg) : SpecialFunction (.vrsq m d a) m [d, a] d fun g t => sfuWord .rsq g.rounding (g.getV a.toNat t)
  | vsqrt (m : Bool) (d a : Reg) : SpecialFunction (.vsqrt m d a) m [d, a] d fun g t => sfuWord .sqrt g.rounding (g.getV a.toNat t)
  | vexp2 (m : Bool) (d a : Reg) : SpecialFunction (.vexp2 m d a) m [d, a] d fun g t => sfuWord .exp2 g.rounding (g.getV a.toNat t)
  | vlog2 (m : Bool) (d a : Reg) : SpecialFunction (.vlog2 m d a) m [d, a] d fun g t => sfuWord .log2 g.rounding (g.getV a.toNat t)
  | vsin (m : Bool) (d a : Reg) : SpecialFunction (.vsin m d a) m [d, a] d fun g t => sfuWord .sin g.rounding (g.getV a.toNat t)
  | vcos (m : Bool) (d a : Reg) : SpecialFunction (.vcos m d a) m [d, a] d fun g t => sfuWord .cos g.rounding (g.getV a.toNat t)
  | vtanh (m : Bool) (d a : Reg) : SpecialFunction (.vtanh m d a) m [d, a] d fun g t => sfuWord .tanh g.rounding (g.getV a.toNat t)
  | vfdivF32 (m : Bool) (d a b : Reg) : SpecialFunction (.vfdivF32 m d a b) m [d, a, b] d fun g t =>
      fdivWord g.rounding (g.getV a.toNat t) (g.getV b.toNat t)
  | vfdivF32S (m : Bool) (d a b : Reg) : SpecialFunction (.vfdivF32S m d a b) m [d, a] d fun g t =>
      fdivWord g.rounding (g.getV a.toNat t) (sLow g b)

/-- One byte of a 16-byte table in two scalar registers (R119). -/
def tableByte (g : Group) (b : Reg) (i : Nat) : Nat :=
  if i < 8 then (g.getS b.toNat).toNat / 256 ^ i % 256 else (g.getS (b.toNat + 1)).toNat / 256 ^ (i - 8) % 256

/-- `vperm8` of a word: byte k of the result is the table's byte at the low or high nibble of byte k (R119). -/
def permuted (g : Group) (b : Reg) (hi : Bool) (x : Word) : Word :=
  let sel (k : Nat) : Nat := if hi then x.toNat / 256 ^ k % 256 / 16 else x.toNat / 256 ^ k % 256 % 16
  BitVec.ofNat 32 ((List.range 4).foldl (fun n k => n + tableByte g b (sel k) * 256 ^ k) 0)

/-- The same for the instructions that move words between threads without flags (R115 to R119). A source is read in every
thread, active or not. -/
inductive Shuffle : Instr → Bool → List Reg → Reg → (Group → Nat → Word) → Prop where
  | vshflIdx (m : Bool) (d a b : Reg) : Shuffle (.vshflIdx m d a b) m [d, a, b] d fun g t =>
      g.getV a.toNat ((g.getV b.toNat t).toNat % 64)
  | vshflUp (m : Bool) (d a b : Reg) : Shuffle (.vshflUp m d a b) m [d, a] d fun g t =>
      g.getV a.toNat (if t < (g.getS b.toNat).toNat then t else t - (g.getS b.toNat).toNat)
  | vshflDown (m : Bool) (d a b : Reg) : Shuffle (.vshflDown m d a b) m [d, a] d fun g t =>
      g.getV a.toNat (if 64 ≤ t + (g.getS b.toNat).toNat then t else t + (g.getS b.toNat).toNat)
  | vshflXor (m : Bool) (d a b : Reg) : Shuffle (.vshflXor m d a b) m [d, a] d fun g t =>
      g.getV a.toNat (if 64 ≤ t ^^^ ((g.getS b.toNat).toNat % 128) then t else t ^^^ ((g.getS b.toNat).toNat % 128))
  | vperm8Lo (m : Bool) (d a b : Reg) : Shuffle (.vperm8Lo m d a b) m [d, a] d fun g t => permuted g b false (g.getV a.toNat t)
  | vperm8Hi (m : Bool) (d a b : Reg) : Shuffle (.vperm8Hi m d a b) m [d, a] d fun g t => permuted g b true (g.getV a.toNat t)
  | vbcast (m : Bool) (d a b : Reg) : Shuffle (.vbcast m d a b) m [d, a] d fun g _ =>
      g.getV a.toNat ((g.getS b.toNat).toNat % 64)

/-- The instruction has issued; the words f t of the active threads t, and the flags h t, are outstanding, to be written to
V(d) later; nothing else of the machine has changed but what `finished` says. -/
def QueuesLanes (i : Instr) (m : Bool) (s : State) (d : Nat) (f : Nat → Word) (h : Nat → Flags) : Prop :=
  ∃ ff, FlagsRaised s.me.xm {} ff h ∧ exec i s = .next (finished s m (s.me.pc + 4) (queued s.me
    { pc := s.me.pc, writes := (active s.me).map fun t => .v d t (f t), ff := ff, result := true }))

/-- Step k of `vlred` or `vscan` at position t, and the flags its Op raises (R120). Positions from 64 on are absent. -/
def combStep (scan : Bool) (op : RedOp) (r : Rounding) (k : Nat) (x : Nat → Option Word) (t : Nat) : Option Word × Flags :=
  if scan then (if 2 ^ k ≤ t then op.comb r (x (t - 2 ^ k)) (x t) else (x t, {}))
  else if t % 2 ^ (k + 1) = 0 then op.comb r (x t) (if t + 2 ^ k < 64 then x (t + 2 ^ k) else none)
  else (x t, {})

/-- The values before step k (R120): at first those of the active threads, flushed for the operations on FP32. -/
def combValue (scan : Bool) (op : RedOp) (g : Group) (a : Nat) : Nat → Nat → Option Word
  | 0, t => if g.xm.getLsbD t then some (op.init g.rounding (g.getV a t)) else none
  | k + 1, t => (combStep scan op g.rounding k (combValue scan op g a k) t).1

/-- Every flag that some Op of the six steps raises (R120). -/
def combFlags (scan : Bool) (op : RedOp) (g : Group) (a : Nat) : Flags :=
  (List.range 6).foldl (fun f k => (List.range 64).foldl (fun f' t =>
    f'.or (combStep scan op g.rounding k (combValue scan op g a k) t).2) f) {}

/-- The reductions and scans of R120: whether it scans, and its operation. -/
inductive Combine : Instr → Bool → Reg → Reg → Bool → RedOp → Prop where
  | vlredAddI32 (m : Bool) (d a : Reg) : Combine (.vlredAddI32 m d a) m d a false .add
  | vlredMinI32 (m : Bool) (d a : Reg) : Combine (.vlredMinI32 m d a) m d a false .minS
  | vlredMaxI32 (m : Bool) (d a : Reg) : Combine (.vlredMaxI32 m d a) m d a false .maxS
  | vlredMinN32 (m : Bool) (d a : Reg) : Combine (.vlredMinN32 m d a) m d a false .minN
  | vlredMaxN32 (m : Bool) (d a : Reg) : Combine (.vlredMaxN32 m d a) m d a false .maxN
  | vlredFaddF32 (m : Bool) (d a : Reg) : Combine (.vlredFaddF32 m d a) m d a false .fadd
  | vlredFminF32 (m : Bool) (d a : Reg) : Combine (.vlredFminF32 m d a) m d a false .fmin
  | vlredFmaxF32 (m : Bool) (d a : Reg) : Combine (.vlredFmaxF32 m d a) m d a false .fmax
  | vscanAddI32 (m : Bool) (d a : Reg) : Combine (.vscanAddI32 m d a) m d a true .add
  | vscanMinI32 (m : Bool) (d a : Reg) : Combine (.vscanMinI32 m d a) m d a true .minS
  | vscanMaxI32 (m : Bool) (d a : Reg) : Combine (.vscanMaxI32 m d a) m d a true .maxS
  | vscanMinN32 (m : Bool) (d a : Reg) : Combine (.vscanMinN32 m d a) m d a true .minN
  | vscanMaxN32 (m : Bool) (d a : Reg) : Combine (.vscanMaxN32 m d a) m d a true .maxN
  | vscanFaddF32 (m : Bool) (d a : Reg) : Combine (.vscanFaddF32 m d a) m d a true .fadd
  | vscanFminF32 (m : Bool) (d a : Reg) : Combine (.vscanFminF32 m d a) m d a true .fmin
  | vscanFmaxF32 (m : Bool) (d a : Reg) : Combine (.vscanFmaxF32 m d a) m d a true .fmax

/-- An integer operation of R120 on two words. -/
def RedOp.int (op : RedOp) (x y : Word) : Word :=
  match op with
  | .add => Op.add.result x y
  | .minS => Op.minS.result x y
  | .maxS => Op.maxS.result x y
  | .minN => Op.minN.result x y
  | _ => Op.maxN.result x y

/-- Whether an operation of R120 is one of the five on integers. -/
def RedOp.isInt (op : RedOp) : Bool :=
  match op with
  | .fadd | .fmin | .fmax => false
  | _ => true

/-- The values of a register in these threads, combined from left to right. -/
def combined (op : RedOp) (g : Group) (a : Nat) : List Nat → Word
  | [] => 0
  | t :: rest => rest.foldl (fun x u => RedOp.int op x (g.getV a u)) (g.getV a t)

end Sys2Proof.Rules
end

