-- ==== Sys2Proof/Rules/Matrix.lean ====
section
/-!
DEFINITION. Terms of the statements: the matrix instructions at issue, block quantisation, and the steps of the matrix unit
and of a product at a stack (R265 to R297).
-/

namespace Sys2Proof.Rules

open Sys2Proof.Machine

/-- A group of a matrix team whose fault slot is empty (R22, R280). -/
def MatrixGroup (s : State) : Prop := s.me.mode ≠ .control ∧ s.myTask.tiles ≠ 0 ∧ s.me.matFault = none

/-- It may enter a command on tile t: the command queue has room for one of 8, and the team has that tile (R278). -/
def MayCommand (s : State) (t : BitVec 3) : Prop := MatrixGroup s ∧ s.myTask.cmds.length < 8 ∧ t.toNat < s.myTask.tiles

/-- K of a multiply (R282, R287): 64 for FP16 and BF16, 128 for FP8, 256 for E2M1X; twice that for `mma.sp`. -/
def depthOf (sparse : Bool) (fmt : Nat) : Nat := denseK fmt * (if sparse then 2 else 1)

/-- The records a multiply names: A unless the latch supplies it, B, and the metadata of a sparse A (R284, R287). -/
def multiplyRecs {α : Type} (sparse : Bool) (b : Reg) (x y z : α) : List α :=
  (if b = 0 then [] else [x]) ++ [y] ++ (if sparse && b != 0 then [z] else [])

/-- The stages of a multiply: A and its plane, B and its plane, the metadata (R277, R286). -/
def stageA (s : State) (b : Reg) (rA : Rec) : Stage := if b = 0 then {} else Stage.start (s.sideOf (sReg s b) rA) 64 rA.rb
def stageAPlane (s : State) (b : Reg) (fb : FormatBlock) (k : Nat) : Stage := if b = 0 then {} else s.planeStage fb.a 64 k
def stageB (s : State) (c : Reg) (rB : Rec) : Stage := Stage.start (s.sideOf (sReg s c) rB) 64 rB.rb
def stageMeta (s : State) (sparse : Bool) (b : Reg) (fb : FormatBlock) (rM : Rec) : Stage :=
  if sparse && b != 0 then Stage.start (s.sideOf fb.mdrec rM) 64 rM.rb else {}

/-- The checks of a multiply all pass (R271, R282 to R288). -/
structure Multiplies (s : State) (sparse : Bool) (a b c : Reg) (fb : FormatBlock) (rA rB rM : Rec) : Prop where
  full : s.me.xm = BitVec.allOnes 64
  block : s.readBlock (sReg s a) = .ok fb
  pitches : pitchOk fb.a (depthOf sparse fb.a.fmt) = true ∧ pitchOk fb.b (depthOf sparse fb.a.fmt) = true
  limits : s.me.planeLimit fb.a 64 (depthOf sparse fb.a.fmt) = none ∧ s.me.planeLimit fb.b 64 (depthOf sparse fb.a.fmt) = none
  rights : s.me.planeRead fb.a = none ∧ s.me.planeRead fb.b = none
  mdrec : fb.mdrec % (if sparse then 32 else 2 ^ 19) = 0 ∧ fb.mdrec < 2 ^ 19
  records : s.copyRecords (multiplyRecs sparse b (sReg s b) (sReg s c) fb.mdrec) none = .ok (multiplyRecs sparse b rA rB rM)
  shapeA : b ≠ 0 → rA.rows = 64 ∧ rA.cols = denseK fb.a.fmt ∧ recFmtOk rA.fmt fb.a.fmt = true
    ∧ ((rA.kind = 1 ∧ rA.dir = true) ∨ (rA.kind = 0 ∧ s.recSpaceOk rA = true ∧ (rA.space = 1 ∨ rA.space = 2)))
  shapeB : rB.rows = 64 ∧ rB.cols = depthOf sparse fb.a.fmt ∧ recFmtOk rB.fmt fb.b.fmt = true ∧ rB.kind = 0
    ∧ s.recSpaceOk rB = true ∧ 1 ≤ rB.space ∧ rB.space ≤ 3
  shapeM : sparse = true → b ≠ 0 → metaShape rM (depthOf sparse fb.a.fmt) = true ∧ s.recSpaceOk rM = true
  latch : b = 0 → ∃ l, s.myTask.latch = some l ∧ l.sparse = sparse ∧ l.half = fb.half
  pipe : b ≠ 0 → s.recPipe false rA = none
  segments : ∀ r ∈ multiplyRecs sparse b rA rB rM, s.recSegment false r = none
  pages : ∀ x ∈ [stageA s b rA, stageB s c rB, stageAPlane s b fb (depthOf sparse fb.a.fmt),
    s.planeStage fb.b 64 (depthOf sparse fb.a.fmt)], s.translateSide x.side x.rows x.rb = none

/-- The command a multiply enters, and what it latches: A, unless the latch supplied it (R284 to R286). -/
def multiplyCmd (s : State) (sparse : Bool) (t : BitVec 3) (b c : Reg) (fb : FormatBlock) (rA rB rM : Rec) : State :=
  let k := depthOf sparse fb.a.fmt
  let fetches := routes 0 (stageA s b rA) (stageAPlane s b fb k) ++ routes 2 (stageB s c rB) (s.planeStage fb.b 64 k)
  s.enterCmd
    { s.newCmd (if sparse then .mmaSp else .mma) t with
      fa := fb.a, fb := fb.b, k := k, fetches := fetches
      stages := (List.zip (List.range 5) [stageA s b rA, stageAPlane s b fb k, stageB s c rB, s.planeStage fb.b 64 k,
        stageMeta s sparse b fb rM]).map fun x => { x.2 with direct := !fetches.any fun f => f.contains x.1 }
      latchOf := if b = 0 then s.myTask.latch.map LatchIssue.cmd else none }
    (if b = 0 then none else some ⟨0, sparse, fb.half⟩)

/-- The record of a tile move at S(sa): FP32 or raw words, 64 by 64, in scratchpad, of a pitch of at least 256 (R291). -/
def TileRecord (s : State) (a : Reg) (dst : Bool) (obj : Option Nat) (r : Rec) : Prop :=
  s.copyRecords [sReg s a] obj = .ok [r] ∧ r.kind = 0 ∧ r.space = 1 ∧ s.recSpaceOk r = true ∧ (r.fmt = 10 ∨ r.fmt = 2)
    ∧ r.rows = 64 ∧ r.cols = 64 ∧ 256 ≤ r.pitch ∧ s.recSegment dst r = none

/-- The side of the scale plane of an `mvm`'s matrix, where it has one. -/
def matrixPlane (s : State) (fb : FormatBlock) (k : Nat) : Side := if fb.b.smode = 1 then s.planeSide fb.b k else {}

/-- The checks of `mvm` pass with these records (R295, R297). -/
structure Products (s : State) (k : BitVec 3) (a b c : Reg) (fb : FormatBlock) (rA rB rD : Rec) : Prop where
  room : (s.me.token k.toNat).pend < 255
  block : s.readBlock (sReg s a) = .ok fb
  records : s.copyRecords [sReg s b, sReg s c, fb.mdrec] none = .ok [rA, rB, rD]
  vector : rA.kind = 0 ∧ rA.space = 1 ∧ rA.rows = 1 ∧ rA.cols % 32 = 0 ∧ recFmtOk rA.fmt fb.a.fmt = true
  matrix : rB.kind = 0 ∧ rB.space = 2 ∧ rB.cols = rA.cols ∧ recFmtOk rB.fmt fb.b.fmt = true
  result : rD.kind = 0 ∧ rD.space = 1 ∧ (rD.fmt = 10 ∨ rD.fmt = 2) ∧ rD.rows = 1 ∧ rD.cols = rB.rows
  spaces : s.recSpaceOk rA = true ∧ s.recSpaceOk rB = true ∧ s.recSpaceOk rD = true
  pitches : pitchOk fb.a rA.cols = true ∧ pitchOk fb.b rA.cols = true
  segments : s.recSegment false rA = none ∧ s.recSegment false rB = none ∧ s.recSegment true rD = none
  limits : s.me.planeLimit fb.a 1 rA.cols = none ∧ s.me.planeLimit fb.b rB.rows rA.cols = none
  rights : s.me.planeRead fb.a = none ∧ s.me.planeRead fb.b = none
  pages : s.translateSide (s.sideOf (sReg s c) rB) rB.rows rB.rb = none
    ∧ s.translateSide (matrixPlane s fb rA.cols) rB.rows (fb.b.packed rA.cols) = none
  layout : s.stackLayout rB (s.sideOf (sReg s c) rB)
    (if (matrixPlane s fb rA.cols).space = 2 then s.sideLeaves (matrixPlane s fb rA.cols) rB.rows (fb.b.packed rA.cols) else []) = true

/-- The matrix instructions at issue. -/
inductive MatrixRule : Instr → State → State → Prop where
  | mma (s u : State) (m : Bool) (t : BitVec 3) (a b c : Reg) (fb : FormatBlock) (rA rB rM : Rec) : Issuing s →
      Settles s u → MayCommand u t → Multiplies u false a b c fb rA rB rM →
      MatrixRule (.mma m t a b c) s (done m (multiplyCmd u false t b c fb rA rB rM))
  | mmaSp (s u : State) (m : Bool) (t : BitVec 3) (a b c : Reg) (fb : FormatBlock) (rA rB rM : Rec) : Issuing s →
      Settles s u → MayCommand u t → Multiplies u true a b c fb rA rB rM →
      MatrixRule (.mmaSp m t a b c) s (done m (multiplyCmd u true t b c fb rA rB rM))
  | mzero (s u : State) (m : Bool) (t : BitVec 3) : Issuing s → Settles s u → MayCommand u t →
      MatrixRule (.mzero m t) s (done m (u.enterCmd (u.newCmd .mzero t) none))
  | mrows (s u : State) (m : Bool) (t : BitVec 3) : Issuing s → Settles s u → MayCommand u t →
      MatrixRule (.mrows m t) s (done m (u.enterCmd (u.newCmd .mrows t) none))
  /-- R278: with eight commands queued it waits -/
  | waits (s u : State) (m : Bool) (t : BitVec 3) : Issuing s → Settles s u → s.me.mode ≠ .control →
      8 ≤ u.myTask.cmds.length → MatrixRule (.mzero m t) s (blocked u m .room)
  | mldacc (s u : State) (m : Bool) (t : BitVec 3) (a : Reg) (r : Rec) : Issuing s → Settles s u → MayCommand u t →
      TileRecord u a false none r →
      MatrixRule (.mldacc m t a) s (done m (u.enterCmd { u.newCmd .mldacc t with
        side := u.sideOf (sReg u a) r, stages := [{ Stage.start (u.sideOf (sReg u a) r) 64 256 with direct := false }] } none))
  | mstacc (s u : State) (m : Bool) (t : BitVec 3) (a b : Reg) (r : Rec) : Issuing s → Settles s u → MayCommand u t →
      TileRecord u a true (objectOf u b) r →
      MatrixRule (.mstacc m t a b) s (done m (u.enterCmd { u.newCmd .mstacc t with
        side := u.sideOf (sReg u a) r, obj := (objectOf u b).map u.teamAddr } none))
  /-- R292: the oldest row leaves the accumulator queue; its element t is thread t's result -/
  | vpopa (s : State) (m : Bool) (d : Reg) (r : Lanes) (rest : List Lanes) : Issuing s → HasRoom s → MatrixGroup s →
      d.toNat < s.me.budget → s.myTask.accq = r :: rest →
      MatrixRule (.vpopa m d) s (let v := s.modTask s.me.task fun t => { t with accq := rest }
        finished v m (s.me.pc + 4) (queued s.me
          { pc := s.me.pc, writes := (active s.me).map fun t => .v d.toNat t (r.getD t 0), result := true }))
  /-- R292: with no row it blocks -/
  | vpopaBlocks (s : State) (m : Bool) (d : Reg) : Issuing s → HasRoom s → MatrixGroup s → d.toNat < s.me.budget →
      s.myTask.accq = [] → MatrixRule (.vpopa m d) s (blocked s m .accRow)
  /-- R295, R296: the product starts, counted by its token; the vector, the matrix and their planes are still to be read, and
  the result to be written -/
  | mvm (s u : State) (m : Bool) (k : BitVec 3) (a b c : Reg) (fb : FormatBlock) (rA rB rD : Rec) : Issuing s →
      Settles s u → MatrixGroup u → Products u k a b c fb rA rB rD →
      MatrixRule (.mvm m k a b c) s
        (let v := u.setMe (u.me.setToken k.toNat { u.me.token k.toNat with pend := (u.me.token k.toNat).pend + 1 })
         done m { v with
           nextTicket := v.nextTicket + 1
           mvms := v.mvms.put v.nextTicket
             { owner := u.cur, task := u.me.task, plan := u.me.plan, who := u.asker u.me, token := k.toNat, k := rA.cols
               n := rB.rows, fa := fb.a, fb := fb.b, a := Stage.start (u.sideOf (sReg u b) rA) 1 rA.rb
               ap := u.planeStage fb.a 1 rA.cols, b := Stage.start (u.sideOf (sReg u c) rB) rB.rows rB.rb
               bp := u.planeStage fb.b rB.rows rA.cols, dst := u.sideOf fb.mdrec rD, todo := [(0, 4 * rB.rows)] } })

/-- The block quantisations of R293: the marker, destination and source, and the number of the format. -/
inductive Quantise : Instr → Bool → Reg → Reg → Nat → Prop where
  | vqblkE2m1x (m : Bool) (d a : Reg) : Quantise (.vqblkE2m1x m d a) m d a 0
  | vqblkE4m3 (m : Bool) (d a : Reg) : Quantise (.vqblkE4m3 m d a) m d a 1
  | vqblkE5m2 (m : Bool) (d a : Reg) : Quantise (.vqblkE5m2 m d a) m d a 2

/-- The input of thread t of a quantisation: an inactive thread counts as +0 (R293). -/
def quantIn (g : Group) (a : Reg) (t : Nat) : Fp :=
  if g.xm.getLsbD t then unpack fmtF32 (g.getV a.toNat t).toNat else .fin false 0 0

/-- The block of thread t: threads 0 to 31, or 32 to 63. `quantise` is the machine's choice of scale and codes. -/
def quantBlock (g : Group) (a : Reg) (fn t : Nat) : Block :=
  quantise fn ((List.range 32).map fun i => quantIn g a (32 * (t / 32) + i))

/-- The flags of thread t: invalid for an infinity or a NaN, inexact where the delivered value differs (R294). -/
def quantFlags (g : Group) (a : Reg) (fn t : Nat) : Flags :=
  { nv := match quantIn g a t with | .fin _ _ _ => false | _ => true
    nx := differs (quantIn g a t) ((quantBlock g a fn t).value fn (t % 32)) }

/-- The command of a task whose turn it is: no started command names its tile (R278). -/
def NextCommand (s : State) (task : Nat) (t : Task) (c : MatrixCmd) (rest : List MatrixCmd) : Prop :=
  s.task? task = some t ∧ t.running = true ∧ t.cmds = c :: rest ∧ ∀ x ∈ t.going, x.tile ≠ c.tile

/-- The next multiply of a team, with its operands staged or given up (R286, R289). -/
def NextMultiply (s : State) (task : Nat) (t : Task) (c : MatrixCmd) : Prop :=
  s.task? task = some t ∧ t.running = true ∧ t.nextMultiply = some c ∧ c.multiplying = false ∧ c.fetches = []
    ∧ ∀ i, i < 5 → c.settled i = true

/-- What a multiply fails with: what its latched A was not staged for, what its own operands met, or the first byte of its
metadata that breaks R288 (R280, R285). -/
def multiplyFault (t : Task) (c : MatrixCmd) : Option (Nat × Nat) :=
  let a := t.operandA c
  match (if c.latchOf = none then none else a.failed), c.failed, (if c.op = .mmaSp then metaBad a.metaTile (c.k / 8) else none) with
  | some f, _, _ => some f
  | none, some f, _ => some f
  | none, none, some x => some (1, a.metaSide.failing x.1 x.2)
  | none, none, none => none

/-- A multiply's own A is kept while a command still to come uses it; what none uses is dropped (R285). -/
def latchKept (c : MatrixCmd) (y : Task) : Task :=
  { y with latched := if c.latchOf = none ∧ y.usesLatch c.id = true then y.latched.put c.id c.latched
                      else y.latched.keep fun id _ => y.usesLatch id }

/-- The steps of the matrix unit. -/
inductive MatrixStep : Instr → State → State → Prop where
  /-- R278, R291: `mzero` zeroes its tile -/
  | startZero (s : State) (task : Nat) (t : Task) (c : MatrixCmd) (rest : List MatrixCmd) : NextCommand s task t c rest →
      c.op = .mzero →
      MatrixStep (.matrixCommandStart task) s
        (((s.modTask task fun y => { y with cmds := rest, going := y.going ++ [c] }).modTask task fun y =>
          { y with acc := y.acc.put c.tile (List.replicate 4096 0) }).finishCmd task c)
  /-- R278: a multiply or `mrows` leaves the queue -/
  | start (s : State) (task : Nat) (t : Task) (c : MatrixCmd) (rest : List MatrixCmd) : NextCommand s task t c rest →
      (c.op = .mma ∨ c.op = .mmaSp ∨ c.op = .mrows) →
      MatrixStep (.matrixCommandStart task) s (s.modTask task fun y => { y with cmds := rest, going := y.going ++ [c] })
  /-- R291: a tile move enters q3 -/
  | startMove (s : State) (task : Nat) (t : Task) (c : MatrixCmd) (rest : List MatrixCmd) : NextCommand s task t c rest →
      (c.op = .mldacc ∨ c.op = .mstacc) → ((s.core t.core).queue 3).length < 32 →
      MatrixStep (.matrixCommandStart task) s ((s.modTask task fun y => { y with cmds := rest, going := y.going ++ [c] }).enter
        t.core 3 { kind := .tileMove c.id, who := c.who, owner := c.owner, token := none, dst := c.side, src := c.side
                   rows := 64, rb := 256, obj := c.obj, task := task, plan := t.plan })
  /-- R286: a staged operand's entry leaves q3, and waiting fetches enter -/
  | fetched (s : State) (core id : Nat) (stages : List Nat) (e : Entry) : s.head? core 3 = some e → e.started = true →
      e.kind = .fetch id stages → s.fetchDone e.task id stages = true →
      MatrixStep (.operandFetchComplete core) s ((s.dropHead core 3).refetch core)
  /-- R291: `mldacc` puts what it read into its tile -/
  | loaded (s : State) (core id : Nat) (e : Entry) (t : Task) (c : MatrixCmd) : s.head? core 3 = some e → e.started = true →
      e.kind = .tileMove id → e.todo = [] → e.moving = [] → s.task? e.task = some t → t.cmd? id = some c → c.op = .mldacc →
      c.failed = none →
      MatrixStep (.operandFetchComplete core) s (((s.dropHead core 3).modTask e.task fun y =>
        { y with acc := y.acc.put c.tile (wordsOf 4096 (c.stage 0).bytes) }).finishCmd e.task c)
  /-- R291: `mstacc` has written its tile -/
  | stored (s : State) (core id : Nat) (e : Entry) (t : Task) (c : MatrixCmd) : s.head? core 3 = some e → e.started = true →
      e.kind = .tileMove id → e.todo = [] → e.moving = [] → s.task? e.task = some t → t.cmd? id = some c → c.op = .mstacc →
      MatrixStep (.operandFetchComplete core) s ((s.dropHead core 3).finishCmd e.task c)
  /-- R285, R289: the multiplier takes the next multiply once its operands are staged, and what it latches is kept -/
  | multiply (s : State) (task : Nat) (t : Task) (c : MatrixCmd) : NextMultiply s task t c → multiplyFault t c = none →
      MatrixStep (.multiplyStart task) s ((s.modTask task (latchKept c)).modTask task fun y =>
        y.modCmd c.id fun x => { x with multiplying := true })
  /-- R280, R285, R288: one that cannot be multiplied ends with its fault -/
  | multiplyFails (s : State) (task : Nat) (t : Task) (c : MatrixCmd) (f : Nat × Nat) : NextMultiply s task t c →
      multiplyFault t c = some f →
      MatrixStep (.multiplyStart task) s ((s.modTask task (latchKept c)).finishCmd task { c with failed := some f })
  /-- R273, R283: the tile takes every value of the product -/
  | multiplied (s : State) (task : Nat) (t : Task) (c : MatrixCmd) : s.task? task = some t → t.running = true →
      t.going.find? (fun c => c.multiplying) = some c →
      MatrixStep (.multiplyComplete task) s ((s.modTask task fun y =>
        { y with acc := y.acc.put c.tile (multiplyTile (t.acc.getD c.tile []) c.k (c.term (t.operandA c))) }).finishCmd task c)
  /-- R290, R291: the next row of the tile enters the accumulator queue of 16 rows -/
  | row (s : State) (task : Nat) (t : Task) (c : MatrixCmd) : s.task? task = some t → t.running = true →
      t.going.find? (fun c => c.op == .mrows) = some c → t.accq.length < 16 → c.row ≠ 63 →
      MatrixStep (.mrowsRowEnter task) s (s.modTask task fun y =>
        { y.modCmd c.id (fun x => { x with row := c.row + 1 }) with
          accq := y.accq ++ [((t.acc.getD c.tile []).drop (64 * c.row)).take 64] })
  /-- R291: with the last row the command completes -/
  | lastRow (s : State) (task : Nat) (t : Task) (c : MatrixCmd) : s.task? task = some t → t.running = true →
      t.going.find? (fun c => c.op == .mrows) = some c → t.accq.length < 16 → c.row = 63 →
      MatrixStep (.mrowsRowEnter task) s ((s.modTask task fun y =>
        { y.modCmd c.id (fun x => { x with row := 64 }) with
          accq := y.accq ++ [((t.acc.getD c.tile []).drop (64 * 63)).take 64] }).finishCmd task c)
  /-- R296: with its result written the product completes and its token counts down -/
  | mvmDone (s : State) (op : Nat) (x : Mvm) : s.mvms.get? op = some x → (x.stopped = true ∨ x.todo = []) →
      (∀ t, s.task? x.task = some t → t.running = true) →
      MatrixStep (.mvmComplete op) s
        ({ s with mvms := Map.del op s.mvms }.tokenDown x.owner x.task (some x.token))

end Sys2Proof.Rules
end

