-- ==== Sys2Proof/Rules/Join.lean ====
section
/-!
DEFINITION. Terms of the statements: the send instructions, pattern control, and the steps of a join unit (R239 to R264,
R316).
-/

namespace Sys2Proof.Rules

open Sys2Proof.Machine

/-- A port-id operand whose reserved bits are zero (R240, R259): id is its low half. -/
def PortId (s : State) (a : Reg) (id : Nat) : Prop :=
  id = sReg s a % 2 ^ 32 ∧ sReg s a < 2 ^ 48 ∧ id < 2 ^ 30 ∧ id / 2 ^ 13 % 2 ^ 6 = 0

/-- The device, die and port number of a port id (R240), and the port's key: die × 8,192 + port. -/
def idDevice (id : Nat) : Nat := id / 2 ^ 23 % 2 ^ 7
def idDie (id : Nat) : Nat := id / 2 ^ 19 % 2 ^ 4
def idKey (id : Nat) : Nat := idDie id * 8192 + id % 2 ^ 13

/-- The message an instruction sends: the doublewords S(sb) and S(sb + 1), and the tag in bits 47 to 32 of S(sa) (R243,
R259). -/
def messageOf (s : State) (a b : Reg) : Message :=
  { lo := s.me.getS b.toNat, hi := s.me.getS (b.toNat + 1), tag := sReg s a / 2 ^ 32 % 2 ^ 16 }

/-- The tenant of a port's plan is that of the issuing group's plan. -/
def SameTenant (s : State) (g : Group) (p : Port) : Prop := (s.plan? p.plan).map Plan.tenant = some (s.tenantOf g)

/-- The instructions of the join class at issue. -/
inductive JoinRule : Instr → State → State → Prop where
  /-- R259: a send to this module goes to its join unit; the group blocks until it is admitted -/
  | send (s u : State) (m : Bool) (a b : Reg) (id : Nat) : Issuing s → Settles s u → PortId u a id → b ≠ 127 →
      idDevice id = u.device → JoinRule (.send m a b) s (blocked u m (.sending id (messageOf u a b) none))
  /-- R259, R260: `sendw` awaits the consumption too -/
  | sendw (s u : State) (m : Bool) (d a b : Reg) (id : Nat) : Issuing s → HasRoom s → Settles s u → PortId u a id → b ≠ 127 →
      idDevice id = u.device → JoinRule (.sendw m d a b) s (blocked u m (.sending id (messageOf u a b) (some d.toNat)))
  /-- R264: one to another module of the pod waits for its answer -/
  | sendRemote (s u : State) (m : Bool) (a b : Reg) (id : Nat) : Issuing s → Settles s u → PortId u a id → b ≠ 127 →
      idDevice id ≠ u.device → u.inPod = true → u.devGone (idDevice id) = false →
      JoinRule (.send m a b) s (blocked u m (.remote id none))
  | sendwRemote (s u : State) (m : Bool) (d a b : Reg) (id : Nat) : Issuing s → HasRoom s → Settles s u → PortId u a id → b ≠ 127 →
      idDevice id ≠ u.device → u.inPod = true → u.devGone (idDevice id) = false →
      JoinRule (.sendw m d a b) s (blocked u m (.remote id (some d.toNat)))
  /-- R74, R264: one to a module that is gone is lost, whether it had an effect is unknown; the register of `sendw` is zero -/
  | sendLost (s u : State) (m : Bool) (a b : Reg) (id : Nat) : Issuing s → Settles s u → PortId u a id → b ≠ 127 →
      idDevice id ≠ u.device → u.inPod = true → u.devGone (idDevice id) = true →
      JoinRule (.send m a b) s (done m (u.setMe (u.me.lose true)))
  | sendwLost (s u : State) (m : Bool) (d a b : Reg) (id : Nat) : Issuing s → HasRoom s → Settles s u → PortId u a id → b ≠ 127 →
      idDevice id ≠ u.device → u.inPod = true → u.devGone (idDevice id) = true →
      JoinRule (.sendw m d a b) s (done m (u.setMe ((u.me.setS d.toNat 0).lose true)))
  /-- R259: outside a pod a device that is not the own one is a permission fault -/
  | sendNowhere (s u : State) (m : Bool) (a b : Reg) (id : Nat) : Issuing s → Settles s u → PortId u a id → b ≠ 127 →
      idDevice id ≠ u.device → u.inPod = false →
      JoinRule (.send m a b) s (u.takeTrap u.cur (some { kind := 6 }))
  /-- R261: a question to this module takes its place among the group's accesses, and never blocks -/
  | pportq (s : State) (m : Bool) (d a : Reg) (id : Nat) : Issuing s → HasRoom s → PortId s a id → idDevice id = s.device →
      JoinRule (.pportq m d a) s (finished s m (s.me.pc + 4) (queued s.me
        { pc := s.me.pc, todo := [.portQuery id d.toNat], result := true }))
  /-- R261, R264: one to another module of the pod is outstanding until the answer comes -/
  | pportqRemote (s : State) (m : Bool) (d a : Reg) (id : Nat) : Issuing s → HasRoom s →
      PortId s a id → idDevice id ≠ s.device → s.inPod = true → s.devGone (idDevice id) = false →
      JoinRule (.pportq m d a) s (finished s m (s.me.pc + 4) (queued s.me
        { pc := s.me.pc, writes := [.s d.toNat 0], result := true, remote := some (idDevice id) }))
  | pportqLost (s : State) (m : Bool) (d a : Reg) (id : Nat) : Issuing s → HasRoom s →
      PortId s a id → idDevice id ≠ s.device → s.inPod = true → s.devGone (idDevice id) = true →
      JoinRule (.pportq m d a) s (done m (s.setMe ((s.me.setS d.toNat 0).lose false)))
  /-- R261: outside a pod no other module has the port -/
  | pportqNowhere (s : State) (m : Bool) (d a : Reg) (id : Nat) : Issuing s → HasRoom s →
      PortId s a id → idDevice id ≠ s.device → s.inPod = false →
      JoinRule (.pportq m d a) s (finished s m (s.me.pc + 4) (sResult s d 0))
  /-- R253, R262: after what its die's join unit has noted before, an enabled pattern fires as long as it is fireable -/
  | jen (s u : State) (m : Bool) (a : Reg) (p : Pattern) : Issuing s → Settles s u → s.me.mode ≠ .user →
      sReg u a < 2 ^ 13 → u.patterns.has (sReg u a) = true → (u.die (sReg u a / 512)).off = false →
      (u.settled (sReg u a / 512)).patterns.get? (sReg u a) = some p → p.disabled = true →
      JoinRule (.jen m a) s (done m (((u.settled (sReg u a / 512)).modPattern (sReg u a)
        fun q => { q with disabled := false }).evalPattern (sReg u a) 65536))
  /-- R262: enabling an enabled pattern changes nothing -/
  | jenAgain (s u : State) (m : Bool) (a : Reg) (p : Pattern) : Issuing s → Settles s u → s.me.mode ≠ .user →
      sReg u a < 2 ^ 13 → u.patterns.has (sReg u a) = true → (u.die (sReg u a / 512)).off = false →
      (u.settled (sReg u a / 512)).patterns.get? (sReg u a) = some p → p.disabled = false →
      JoinRule (.jen m a) s (done m (u.settled (sReg u a / 512)))
  /-- R262: a disabled pattern is no longer Held -/
  | jdis (s u : State) (m : Bool) (a : Reg) : Issuing s → Settles s u → s.me.mode ≠ .user →
      sReg u a < 2 ^ 13 → u.patterns.has (sReg u a) = true → (u.die (sReg u a / 512)).off = false →
      JoinRule (.jdis m a) s (done m ((u.settled (sReg u a / 512)).modPattern (sReg u a)
        fun q => { q with disabled := true, heldSince := none }))

/-- A die's join unit has noted no event that comes first: no admission is due, no head has risen, no entry has come free (R239,
R252, R253). -/
def NoneDue (s : State) (d : Nat) : Prop := (s.die d).dueAdmits = [] ∧ (s.die d).joinDue = []

/-- A message port of the sender's tenant that takes a send: open, with room and no waiter (R244, R247). -/
def TakesSend (s : State) (gid id : Nat) (p : Port) : Prop :=
  s.ports.get? (idKey id) = some p ∧ SameTenant s (s.group gid) p ∧ p.opened = true ∧ p.isHead = false
    ∧ p.msgs.length < p.depth ∧ p.waiters = []

/-- Of the Held patterns of a stage on a die that can fire, the one of highest PRIO, then the one Held longest (R250, R253). -/
def firstHeld (s : State) (d key : Nat) : Option (Nat × Pattern) :=
  bestOf (fun a b => decide (b.2.prio < a.2.prio) || (a.2.prio == b.2.prio
      && decide (a.2.heldSince.getD 0 < b.2.heldSince.getD 0)))
    (s.patterns.filter fun q => q.1 / 512 == d && q.2.plan * 32 + q.2.stage == key && q.2.heldSince.isSome
      && s.fireable q.1 q.2)

/-- The steps of a join unit. -/
inductive JoinStep : Instr → State → State → Prop where
  /-- R247, R259: the message joins its port's tail, the sender goes on, and the port is evaluated -/
  | admitted (s : State) (gid id : Nat) (msg : Message) (p : Port) : s.groups.has gid = true →
      (s.group gid).wait = some (.sending id msg none) → NoneDue s (idDie id) → TakesSend s gid id p →
      JoinStep (.messageAdmission gid) s ((s.finishWait gid).takeMessage (idKey id) { msg with ticket := 0 })
  /-- R247, R259, R260: of `sendw` the message goes in under a new ticket, whose consumption the group awaits -/
  | admittedTicket (s : State) (gid id r : Nat) (msg : Message) (p : Port) : s.groups.has gid = true →
      (s.group gid).wait = some (.sending id msg (some r)) → NoneDue s (idDie id) → TakesSend s gid id p →
      JoinStep (.messageAdmission gid) s
        (({ s with tickets := s.tickets.put s.nextTicket (.awaited gid), nextTicket := s.nextTicket + 1 }.setGroup gid
          { s.group gid with wait := some (.ticket s.nextTicket r) }).takeMessage (idKey id) { msg with ticket := s.nextTicket })
  /-- R244: a full port takes the sender on its waiter list -/
  | waits (s : State) (gid id : Nat) (msg : Message) (d : Option Nat) (p : Port) : s.groups.has gid = true →
      (s.group gid).wait = some (.sending id msg d) → NoneDue s (idDie id) → s.ports.get? (idKey id) = some p →
      SameTenant s (s.group gid) p → p.opened = true → p.isHead = false → p.depth ≤ p.msgs.length → p.fault = false →
      JoinStep (.messageAdmission gid) s
        ((s.modPort (idKey id) fun q => { q with waiters := q.waiters ++ [⟨gid, msg, d.isNone⟩] }).setGroup gid
          { s.group gid with wait := some (.waiter (idKey id) d) })
  /-- R247, R316: at a full fault port it overflows -/
  | overflows (s : State) (gid id : Nat) (msg : Message) (d : Option Nat) (p : Port) : s.groups.has gid = true →
      (s.group gid).wait = some (.sending id msg d) → NoneDue s (idDie id) → s.ports.get? (idKey id) = some p →
      SameTenant s (s.group gid) p → p.opened = true → p.isHead = false → p.depth ≤ p.msgs.length → p.fault = true →
      JoinStep (.messageAdmission gid) s ((s.unblock gid).takeTrap gid (some { kind := 9, src := 4, value := id }))
  /-- R247, R259: so is one to a closed port, or to another tenant's -/
  | refusedPort (s : State) (gid id : Nat) (msg : Message) (d : Option Nat) (p : Port) : s.groups.has gid = true →
      (s.group gid).wait = some (.sending id msg d) → NoneDue s (idDie id) → s.ports.get? (idKey id) = some p →
      (p.opened = false ∨ (s.plan? p.plan).map Plan.tenant ≠ some (s.tenantOf (s.group gid))) →
      JoinStep (.messageAdmission gid) s ((s.unblock gid).takeTrap gid (some { kind := 6 }))
  /-- R245, R259: a pipe head takes no send -/
  | refusedHead (s : State) (gid id : Nat) (msg : Message) (d : Option Nat) (p : Port) : s.groups.has gid = true →
      (s.group gid).wait = some (.sending id msg d) → NoneDue s (idDie id) → s.ports.get? (idKey id) = some p →
      SameTenant s (s.group gid) p → p.opened = true → p.isHead = true →
      JoinStep (.messageAdmission gid) s ((s.unblock gid).takeTrap gid (some { kind := 10 }))
  /-- R259: a send to a port that is not there is a permission fault of the sender -/
  | refused (s : State) (gid id : Nat) (msg : Message) (d : Option Nat) : s.groups.has gid = true →
      (s.group gid).wait = some (.sending id msg d) → NoneDue s (idDie id) → s.ports.get? (idKey id) = none →
      JoinStep (.messageAdmission gid) s ((s.unblock gid).takeTrap gid (some { kind := 6 }))
  /-- R253: the oldest waiter of the port that is due first is admitted -/
  | waiter (s s1 : State) (d key : Nat) (rest : List Nat) (p : Port) (w : Waiter) (ws : List Waiter) :
      (s.die d).dueAdmits = key :: rest → s1 = s.setDie d { s.die d with dueAdmits := rest } →
      s1.ports.get? key = some p → p.waiters = w :: ws →
      JoinStep (.waiterAdmission d) s ((s1.modPort key fun q => { q with waiters := ws }).admitFrom key w.gid w.msg
        (if w.blocking then none else some ((s1.waitReg w.gid).getD 0)))
  /-- R245, R252: a pipe head that has risen is evaluated -/
  | headRise (s : State) (d key : Nat) (rest : List JoinDue) : (s.die d).joinDue = .rise key :: rest →
      (s.die d).dueAdmits = [] →
      JoinStep (.pipeHeadRise d) s ((s.setDie d { s.die d with joinDue := rest }).evalPort key)
  /-- R250, R253: a queue entry comes free, and the first Held pattern of its stage fires once; ROT of its slot-0 port follows -/
  | entryFires (s u : State) (d key : Nat) (rest : List JoinDue) (w : Nat × Pattern) : (s.die d).joinDue = .free key :: rest →
      (s.die d).dueAdmits = [] → u = s.setDie d { s.die d with joinDue := rest } → firstHeld u d key = some w →
      JoinStep (.runQueueEntryFree d) s
        ((u.fire w.1 w.2).modPort (w.2.ports.headD 0) fun q => { q with rot := w.1 % 512 })
  /-- R250: with no pattern of the stage Held, nothing does -/
  | entryFree (s u : State) (d key : Nat) (rest : List JoinDue) : (s.die d).joinDue = .free key :: rest →
      (s.die d).dueAdmits = [] → u = s.setDie d { s.die d with joinDue := rest } → firstHeld u d key = none →
      JoinStep (.runQueueEntryFree d) s u
  /-- R251: the record of a firing fills its entry at the queue's tail -/
  | recordEntry (s : State) (d t : Nat) (rest : List Nat) (r : Task) : (s.die d).firing = t :: rest → s.task? t = some r →
      JoinStep (.taskRecordEntry d) s (s.setDie d { s.die d with
        firing := rest
        runq := (s.die d).runq.put (r.plan * 32 + r.stage) ((s.die d).runq.getD (r.plan * 32 + r.stage) [] ++ [t]) })
  /-- R259: a consumed message answers its `sendw` with die × 512 + pattern index -/
  | consumed (s : State) (gid n r who die index : Nat) : (s.group gid).wait = some (.ticket n r) →
      s.tickets.get? n = some (.consumed who die index) →
      JoinStep (.sendwComplete gid) s (({ s with tickets := Map.del n s.tickets }.setGroup gid
        ((s.group gid).setS r (BitVec.ofNat 64 (die * 512 + index)))).finishWait gid)
  /-- R259: a discarded one with all ones -/
  | discarded (s : State) (gid n r who : Nat) : (s.group gid).wait = some (.ticket n r) →
      s.tickets.get? n = some (.discarded who) →
      JoinStep (.sendwComplete gid) s (({ s with tickets := Map.del n s.tickets }.setGroup gid
        ((s.group gid).setS r (BitVec.allOnes 64))).finishWait gid)
  /-- R258: the next message of an ended task goes back to its port -/
  | giveBack (s : State) (t key : Nat) (x : Task) (msg : Message) (rest : List Item) : s.task? t = some x →
      x.returning = true → x.items = .message key msg :: rest → Item.message key msg ∉ rest → NoneDue s (key / 8192) →
      (s.die (key / 8192)).returnsUsed < s.returnPool (key / 8192) →
      JoinStep (.messageReturn t) s ((s.modTask t fun y => { y with items := rest }).giveBackMessage x.plan key msg)
  /-- R258: with none left the record is freed -/
  | freed (s : State) (t : Nat) (x : Task) : s.task? t = some x → x.returning = true → (∀ i ∈ x.items, ∀ k msg, i ≠ .message k msg) →
      JoinStep (.messageReturn t) s { s with tasks := Map.del t s.tasks }
  /-- R246: a whole aligned doorbell write, its reserved bits zero, is a message to its port -/
  | doorbell (s : State) (off value : Nat) (p : Port) : s.hostPortOut = false → off < 2 ^ 22 → off % 32 = 0 → NoneDue s (off / 32 / 8192) →
      s.ports.get? (off / 32) = some p → p.isHead = false → p.opened = true → p.msgs.length < p.depth → p.waiters = [] →
      value / 2 ^ 144 % 2 ^ 112 = 0 →
      JoinStep (.hostDoorbellWrite off 32 value) s (s.takeMessage (off / 32) { lo := BitVec.ofNat 64 value
                                                                               hi := BitVec.ofNat 64 (value / 2 ^ 64)
                                                                               tag := value / 2 ^ 128 % 2 ^ 16 })
  /-- R246: a full port drops it and counts -/
  | doorbellDrops (s : State) (off len value : Nat) (p : Port) : s.hostPortOut = false → off < 2 ^ 22 → NoneDue s (off / 32 / 8192) →
      s.ports.get? (off / 32) = some p → p.isHead = false → p.depth ≤ p.msgs.length →
      JoinStep (.hostDoorbellWrite off len value) s
        (s.modPort (off / 32) fun q => { q with drops := min 65535 (q.drops + 1) })
  /-- R246: a host read of a doorbell is its port's status word, or zero -/
  | doorbellRead (s : State) (off : Nat) (p : Port) : s.hostPortOut = false → off < 2 ^ 22 → off % 32 = 0 →
      s.ports.get? (off / 32) = some p →
      JoinStep (.hostDoorbellRead off) s { s with hostReply := leBytes 8 (s.portStatus p) }
  | doorbellReadNone (s : State) (off : Nat) : s.hostPortOut = false → off < 2 ^ 22 → off % 32 = 0 →
      s.ports.get? (off / 32) = none →
      JoinStep (.hostDoorbellRead off) s { s with hostReply := leBytes 8 0 }
  /-- R316: a plan's pending event is a message to its fault port -/
  | eventAdmit (s : State) (h code : Nat) (p : Plan) (e : PlanEvent) (rest : Map PlanEvent) (x : Port) :
      s.plan? h = some p → p.pending = (code, e) :: rest → p.faultPort ≠ 0 → idDevice p.faultPort = s.device →
      NoneDue s (idDie p.faultPort) → s.ports.get? (idKey p.faultPort) = some x → x.isHead = false → x.opened = true →
      x.msgs.length < x.depth → x.waiters = [] →
      JoinStep (.faultEventAdmit h) s ((s.modPlan h fun q => { q with pending := rest }).takeMessage (idKey p.faultPort)
        { lo := BitVec.ofNat 64 (e.detail % 2 ^ 32 * 2 ^ 32 + h % 2 ^ 16 * 2 ^ 16 + e.stage % 256 * 2 ^ 8 + code)
          hi := BitVec.ofNat 64 e.detail2, tag := e.merged })
  /-- R264, R316: for a fault port of another module its request's answer brings the event in -/
  | eventSent (s : State) (h code : Nat) (p : Plan) (e : PlanEvent) (rest : Map PlanEvent) : s.plan? h = some p →
      p.pending = (code, e) :: rest → p.faultPort ≠ 0 → idDevice p.faultPort ≠ s.device →
      s.answered (.event h) (peerAddr (idDevice p.faultPort) 0) = true →
      JoinStep (.faultEventAdmit h) s ((s.modPlan h fun q => { q with pending := rest }).land (.event h)
        (peerAddr (idDevice p.faultPort) 0))

end Sys2Proof.Rules
end

