-- ==== Sys2Proof/Rules/Tasks.lean ====
section
/-!
DEFINITION. Terms of the statements: tasks and plans (R78, R298 to R321): `spawn`, `exit`, the plan instructions, and the
steps of the schedulers.
-/

namespace Sys2Proof.Rules

open Sys2Proof.Machine

/-- The group is blocked in `exit`. -/
def blockedExit (s : State) (m : Bool) : State := blocked s m .exitDrain

/-- The status that a plan instruction writes to S(sd). -/
def withStatus (v : State) (d : Reg) (n : Nat) : State := withS v d (BitVec.ofNat 64 n)

/-- S(sa) is a plan's handle and S(sb) the action (R308). -/
def PlanAction (s : State) (a b : Reg) (h act : Nat) : Prop := sReg s a = h ∧ h < 2 ^ 16 ∧ sReg s b = act

/-- The place of a plan record, whose alignment counts: of a private segment its offset (R298). -/
abbrev recordPlace (u : State) (a : Reg) (g : BitVec 3) : Nat :=
  if (segOf u g).space = 0 then sReg u a else u.target u.cur (segOf u g) 0 (sReg u a)

/-- A record without a nonzero reserved field (R3). -/
abbrev NoReserved (h : Header) (x : Arrays) : Prop := h.reserved = false ∧ x.reserved = false

/-- A plan record in reach (R298, R305): at a multiple of 64, its header and its whole length within a readable segment,
and its owner's answers in reach. `h` is its header and `x` its arrays; v is the machine after they
are read. -/
structure PlanRecord (s : State) (a : Reg) (g : BitVec 3) (h : Header) (x : Arrays) (v : State) : Prop where
  aligned : recordPlace s a g % 64 = 0
  inside : sReg s a + 64 ≤ (segOf s g).limit ∧ sReg s a + h.size ≤ (segOf s g).limit
  mayRead : (segOf s g).r = true
  bytes : ∃ bs l u, s.readRecord 0 (segOf s g) (sReg s a) 64 = .ok (bs, u) ∧ h = ⟨dwordsOf 8 bs⟩
    ∧ State.readArrays (segOf s g) (sReg s a) h.arrays u = .ok (l, v) ∧ x = arraysOf l
  commit : s.commitHeard h = true

/-- `plan.ld` has written n to S(sd), with the answers of other owners in. -/
def planAnswer (m : Bool) (v : State) (d : Reg) (n : Nat) : State := done m (withStatus (v.landAll (.ask v.cur)) d n)

/-- The handle a new plan gets: the lowest from 1 that is free (R304). -/
def newHandle (s : State) : Nat := freeKey s.plans 1 65535

/-- The stage x that a `spawn` may make a task of: of the issuing plan, on this module, in a plan that is not draining; S(sa) has
no reserved bit set and S(sb + 1) is a register (R309). -/
structure MaySpawn (u : State) (a b : Reg) (x : Nat) (p : Plan) (d : StageDesc) : Prop where
  registers : b ≠ 127
  stage : x < 32 ∧ sReg u a % 2 ^ 32 = x ∧ sReg u a < 2 ^ 48
  plan : u.plan? u.me.plan = some p
  desc : p.stages[x]? = some d
  here : d.sdev = u.device
  notDraining : p.state ≠ .draining

/-- The issuing core holds stage x of the group's plan, and is not to move. -/
abbrev OwnQueue (u : State) (x : Nat) : Prop :=
  (u.core (myCore u)).stage = some (u.me.plan, x) ∧ (u.core (myCore u)).moving = none

/-- The issuing core's cluster, and whether its queue has n free entries. -/
abbrev myCluster (u : State) : Nat := myCore u / 8
abbrev myRoom (u : State) (n : Nat) : Prop := (u.cluster (myCluster u)).runq.length + n ≤ 64

/-- The die of the stage's queue that a record enters. -/
abbrev spawnDie (u : State) (d : StageDesc) : Nat :=
  if d.dieMask.testBit (dieOfCore (myCore u)) then dieOfCore (myCore u) else lowestDie d.dieMask

/-- The record of a `spawn`. -/
def spawnTask (u : State) (a b : Reg) (x die : Nat) : Task :=
  { plan := u.me.plan, stage := x, die := die, arg := some (messageOf u a b) }

/-- The eight youngest records of a core queue, or all of fewer, and what stays. -/
def youngest (q : List Nat) : List Nat := q.drop (q.length - 8)
def older (q : List Nat) : List Nat := q.take (q.length - 8)

/-- The issuing core without its eight youngest records. -/
def keepsOlder (u : State) : State :=
  u.setCore (myCore u) { u.core (myCore u) with runq := older (u.core (myCore u)).runq }

/-- A new record at the tail of the issuing core's queue. -/
def spawnedHere (v : State) (t : Task) : State :=
  (v.newTask t).setCore (myCore v) { v.core (myCore v) with runq := (v.core (myCore v)).runq ++ [v.nextTask] }

/-- The four mnemonics of `plan.go`, which are one word: S(sb) selects the action (R306). -/
inductive PlanGo : Instr → Bool → Reg → Reg → Reg → Prop where
  | start (m : Bool) (d a b : Reg) : PlanGo (.planGoStart m d a b) m d a b
  | drainFinish (m : Bool) (d a b : Reg) : PlanGo (.planGoDrainFinish m d a b) m d a b
  | drainDiscard (m : Bool) (d a b : Reg) : PlanGo (.planGoDrainDiscard m d a b) m d a b
  | remove (m : Bool) (d a b : Reg) : PlanGo (.planGoRemove m d a b) m d a b

/-- A state of a plan that does not allow an action of `plan.go` (R304). -/
abbrev NotValid (p : Plan) (act : Nat) : Prop :=
  (act = 0 ∧ p.state ≠ .installed) ∨ ((act = 1 ∨ act = 2) ∧ p.state ≠ .running)
    ∨ (act = 3 ∧ (p.state = .running ∨ p.state = .draining ∨ p.state = .committing))

/-- The instructions of the task class at issue. -/
inductive TaskRule : Instr → State → State → Prop where
  /-- R78: `exit` blocks for its drain -/
  | exit (s : State) (m : Bool) : Issuing s → s.me.mode ≠ .control → s.me.matFault = none →
      TaskRule (.exit m) s (blockedExit s m)
  /-- R309, R312: a record for the own core's stage enters the core queue -/
  | spawnHere (s u : State) (m : Bool) (a b : Reg) (x : Nat) (p : Plan) (d : StageDesc) : Issuing s → Settles s u →
      s.me.mode ≠ .control → MaySpawn u a b x p d → OwnQueue u x → (u.core (myCore u)).runq.length < 16 →
      TaskRule (.spawn m a b) s (done m (spawnedHere u (spawnTask u a b x (dieOfCore (myCore u)))))
  /-- R312: the eight youngest records of a full core queue move to the cluster queue first -/
  | spawnOverflows (s u v : State) (m : Bool) (a b : Reg) (x : Nat) (p : Plan) (d : StageDesc) : Issuing s → Settles s u →
      s.me.mode ≠ .control → MaySpawn u a b x p d → OwnQueue u x → (u.core (myCore u)).runq.length = 16 → myRoom u 8 →
      v = (keepsOlder u).setCluster (myCluster u)
        { u.cluster (myCluster u) with runq := (u.cluster (myCluster u)).runq ++ youngest (u.core (myCore u)).runq } →
      TaskRule (.spawn m a b) s (done m (spawnedHere v (spawnTask u a b x (dieOfCore (myCore u)))))
  /-- R312: to the die queue, where the cluster queue has fewer than eight free entries -/
  | spawnOverflowsFar (s u v : State) (m : Bool) (a b : Reg) (x : Nat) (p : Plan) (d : StageDesc) : Issuing s → Settles s u →
      s.me.mode ≠ .control → MaySpawn u a b x p d → OwnQueue u x → (u.core (myCore u)).runq.length = 16 → ¬ myRoom u 8 →
      8 ≤ u.dieFree (dieOfCore (myCore u)) (u.me.plan * 32 + x) →
      v = (keepsOlder u).toDieQueue (dieOfCore (myCore u)) (u.me.plan * 32 + x) (youngest (u.core (myCore u)).runq) →
      TaskRule (.spawn m a b) s (done m (spawnedHere v (spawnTask u a b x (dieOfCore (myCore u)))))
  /-- R309: a record for another stage, or of a core that is to move, enters the stage's die queue on the own die, or on the
  lowest die of its DIEMASK where the own die is not in it -/
  | spawnAway (s u : State) (m : Bool) (a b : Reg) (x : Nat) (p : Plan) (d : StageDesc) : Issuing s → Settles s u →
      s.me.mode ≠ .control → MaySpawn u a b x p d → ¬ OwnQueue u x → 0 < u.dieFree (spawnDie u d) (u.me.plan * 32 + x) →
      TaskRule (.spawn m a b) s (done m
        ((u.newTask (spawnTask u a b x (spawnDie u d))).toDieQueue (spawnDie u d) (u.me.plan * 32 + x) [u.nextTask]))
  /-- R309, R312: the group blocks while there is no room on the path -/
  | spawnWaits (s u : State) (m : Bool) (a b : Reg) (x : Nat) (p : Plan) (d : StageDesc) : Issuing s → Settles s u →
      s.me.mode ≠ .control → MaySpawn u a b x p d →
      ((OwnQueue u x ∧ (u.core (myCore u)).runq.length = 16 ∧ ¬ myRoom u 8 ∧ u.dieFree (dieOfCore (myCore u)) (u.me.plan * 32 + x) < 8)
        ∨ (¬ OwnQueue u x ∧ u.dieFree (spawnDie u d) (u.me.plan * 32 + x) = 0)) →
      TaskRule (.spawn m a b) s (blocked u m (.queue u.me.plan x))
  /-- R305: a record that every check passes is installed, and S(sd) is its handle -/
  | planLd (s u v w y : State) (m : Bool) (d a : Reg) (g : BitVec 3) (h : Header) (x : Arrays)
      (imgs : List (List Nat × List Byte)) : Issuing s → HasRoom s → Settles s u → s.me.mode ≠ .user → u.level ≠ 0 →
      PlanRecord u a g h x v → NoReserved h x → v.awaitsTest (planRecord (newHandle v) h x) = false →
      v.rejects (planRecord (newHandle v) h x) = none → State.readImages (v.recordAsker h) 0 x.images v = .ok (imgs, w) →
      w.commitAdd h 1 = .ok y →
      TaskRule (.planLd m d a g) s
        (planAnswer m (y.installPlan (newHandle v) (planRecord (newHandle v) h x) imgs) d (newHandle v))
  /-- R305: one that fails a check is rejected with REASON k and index i -/
  | planLdRejects (s u v y : State) (m : Bool) (d a : Reg) (g : BitVec 3) (h : Header) (x : Arrays) (k i : Nat) :
      Issuing s → HasRoom s → Settles s u → s.me.mode ≠ .user → u.level ≠ 0 → PlanRecord u a g h x v → NoReserved h x →
      v.awaitsTest (planRecord (newHandle v) h x) = false → v.rejects (planRecord (newHandle v) h x) = some (k, i) →
      v.commitAdd h 256 = .ok y →
      TaskRule (.planLd m d a g) s (planAnswer m y d (2 ^ 63 + k * 2 ^ 32 + i * 2 ^ 16))
  /-- R305: a header or an array entry i that cannot be read is REASON 12, and an image likewise -/
  | planLdHeader (s u v : State) (m : Bool) (d a : Reg) (g : BitVec 3) (i : Nat) : Issuing s → HasRoom s → Settles s u →
      s.me.mode ≠ .user → u.level ≠ 0 → recordPlace u a g % 64 = 0 → sReg u a + 64 ≤ (segOf u g).limit → (segOf u g).r = true →
      u.readRecord 0 (segOf u g) (sReg u a) 64 = .error (some i, v) →
      TaskRule (.planLd m d a g) s (planAnswer m v d (2 ^ 63 + 12 * 2 ^ 32))
  | planLdArray (s u v w y : State) (m : Bool) (d a : Reg) (g : BitVec 3) (bs : List Byte) (h : Header) (i : Nat) : Issuing s →
      HasRoom s → Settles s u → s.me.mode ≠ .user → u.level ≠ 0 → recordPlace u a g % 64 = 0 →
      u.readRecord 0 (segOf u g) (sReg u a) 64 = .ok (bs, v) → sReg u a + 64 ≤ (segOf u g).limit → (segOf u g).r = true →
      h = ⟨dwordsOf 8 bs⟩ → sReg u a + h.size ≤ (segOf u g).limit → u.commitHeard h = true →
      State.readArrays (segOf u g) (sReg u a) h.arrays v = .error (some i, w) → w.commitAdd h 256 = .ok y →
      TaskRule (.planLd m d a g) s (planAnswer m y d (2 ^ 63 + 12 * 2 ^ 32 + i * 2 ^ 16))
  | planLdImage (s u v w y : State) (m : Bool) (d a : Reg) (g : BitVec 3) (h : Header) (x : Arrays) (i : Nat) : Issuing s → HasRoom s →
      Settles s u → s.me.mode ≠ .user → u.level ≠ 0 → PlanRecord u a g h x v → NoReserved h x →
      v.awaitsTest (planRecord (newHandle v) h x) = false → v.rejects (planRecord (newHandle v) h x) = none →
      State.readImages (v.recordAsker h) 0 x.images v = .error (some i, w) → w.commitAdd h 256 = .ok y →
      TaskRule (.planLd m d a g) s (planAnswer m y d (2 ^ 63 + 12 * 2 ^ 32 + i * 2 ^ 16))
  /-- R384: before service it blocks -/
  | planLdWaits (s u : State) (m : Bool) (d a : Reg) (g : BitVec 3) : Issuing s → HasRoom s → Settles s u → s.me.mode ≠ .user →
      u.level = 0 → TaskRule (.planLd m d a g) s (blocked u m .service)
  /-- R306: an installed plan that is no gang starts on the cores placed for it, with status 0 -/
  | start (i : Instr) (s u : State) (m : Bool) (d a b : Reg) (h : Nat) (p : Plan) (l : List (Nat × Nat)) : PlanGo i m d a b → Issuing s → HasRoom s → Settles s u →
      s.me.mode ≠ .user → PlanAction u a b h 0 → u.plan? h = some p → p.state = .installed → p.gang = false →
      u.placement h p = some l →
      TaskRule i s (done m (withStatus ((u.placeCores h l).beginPlan h) d 0))
  /-- R306: too few cores give status 1 -/
  | startFails (i : Instr) (s u : State) (m : Bool) (d a b : Reg) (h : Nat) (p : Plan) : PlanGo i m d a b → Issuing s → HasRoom s → Settles s u →
      s.me.mode ≠ .user → PlanAction u a b h 0 → u.plan? h = some p → p.state = .installed → u.placement h p = none →
      TaskRule i s (done m (withStatus u d 1))
  /-- R304, R321: a gang plan's start commits, and its group waits for the outcome; no core is placed yet -/
  | startGang (i : Instr) (s u : State) (m : Bool) (d a b : Reg) (h : Nat) (p : Plan) (l : List (Nat × Nat)) : PlanGo i m d a b → Issuing s → HasRoom s →
      Settles s u → s.me.mode ≠ .user → PlanAction u a b h 0 → u.plan? h = some p → p.state = .installed → p.gang = true →
      u.placement h p = some l →
      TaskRule i s (blocked
        (u.modPlan h fun q => { q with state := .committing, gangSince := u.cycle }) m (.gang h d.toNat))
  /-- R318 -/
  | drainFinish (i : Instr) (s u : State) (m : Bool) (d a b : Reg) (h : Nat) (p : Plan) : PlanGo i m d a b → Issuing s → HasRoom s → Settles s u →
      s.me.mode ≠ .user → PlanAction u a b h 1 → u.plan? h = some p → p.state = .running →
      TaskRule i s (done m (withStatus (u.beginDrain h false) d 0))
  /-- R319 -/
  | drainDiscard (i : Instr) (s u : State) (m : Bool) (d a b : Reg) (h : Nat) (p : Plan) : PlanGo i m d a b → Issuing s → HasRoom s → Settles s u →
      s.me.mode ≠ .user → PlanAction u a b h 2 → u.plan? h = some p → p.state = .running →
      (u.discardDrain h).groups.has u.cur = true →
      TaskRule i s (done m (withStatus (u.discardDrain h) d 0))
  /-- R319: of a group of the plan itself, the task ends with the others -/
  | drainOwn (i : Instr) (s u : State) (m : Bool) (d a b : Reg) (h : Nat) (p : Plan) : PlanGo i m d a b → Issuing s → HasRoom s → Settles s u →
      s.me.mode ≠ .user → PlanAction u a b h 2 → u.plan? h = some p → p.state = .running →
      (u.discardDrain h).groups.has u.cur = false →
      TaskRule i s (u.discardDrain h)
  /-- R307: the plan is taken out, and the group waits for the invalidation of its translations -/
  | remove (i : Instr) (s u : State) (m : Bool) (d a b : Reg) (h : Nat) (p : Plan) : PlanGo i m d a b → Issuing s → HasRoom s → Settles s u →
      s.me.mode ≠ .user → PlanAction u a b h 3 → u.plan? h = some p →
      (p.state = .installed ∨ p.state = .aborted ∨ p.state = .quiescent ∨ p.state = .saved) →
      TaskRule i s (blocked (u.removePlan h) m (.removal d.toNat))
  /-- R304: an action that the plan's state does not allow gives status 4 -/
  | wrongState (i : Instr) (s u : State) (m : Bool) (d a b : Reg) (h act : Nat) (p : Plan) : PlanGo i m d a b → Issuing s → HasRoom s →
      Settles s u → s.me.mode ≠ .user → PlanAction u a b h act → u.plan? h = some p → NotValid p act →
      TaskRule i s (done m (withStatus u d 4))
  /-- R308: a handle that names no plan gives status 5 -/
  | noPlan (i : Instr) (s u : State) (m : Bool) (d a b : Reg) (h act : Nat) : PlanGo i m d a b → Issuing s → HasRoom s → Settles s u →
      s.me.mode ≠ .user → PlanAction u a b h act → act ≤ 3 → u.plan? h = none → TaskRule i s (done m (withStatus u d 5))

/-- The core holds a stage and may dispatch for it: no move, save or return is under way (R310, R315, R317). -/
def MayDispatch (s : State) (c h x : Nat) : Prop :=
  (s.core c).stage = some (h, x) ∧ (s.core c).moving = none ∧ (s.core c).saving = none ∧ (s.core c).lentDone = false

/-- A group blocked in `exit` has drained, with no fault stored (R78, R213, R280); its task is not being ended otherwise (R354). -/
def Exits (s : State) (gid : Nat) (t : Task) : Prop :=
  t.ending = none ∧ (s.group gid).wait = some .exitDrain ∧ s.task? (s.group gid).task = some t ∧ s.drained gid = true
    ∧ (∀ k, k < 8 → ((s.group gid).token k).fault = none) ∧ (s.group gid).matFault = none

/-- A group has exited: its streams are closed, and it is no longer among its task's live groups. -/
def exited (s : State) (gid : Nat) (t : Task) : State :=
  ((s.closeStreams gid).setGroup gid { s.group gid with wait := none, exited := true }).setTask (s.group gid).task
    { t with live := t.live.filter (· != gid) }

/-- A die's tick of pre-emption is due, and no core of it waits for its teams to be saved (R315). -/
def PreemptDue (s : State) (d : Nat) : Prop := d < 16 ∧ (s.die d).preemptedAt + 1024 ≤ s.cycle ∧ s.trySaved d = none

/-- What a tick begins with: lent cores that idle return. -/
def idleReturned (s : State) (d : Nat) : State :=
  (coresOf d).foldl (fun st c => st.returnIdle d c) (s.setDie d { s.die d with preemptedAt := s.cycle })

/-- The starved stage of greatest effective priority, the lowest of equal ones (R315). -/
def firstStarved (u : State) (d : Nat) : Option (Nat × Nat) :=
  bestOf (fun (a b : Nat × Nat) => decide (b.2 < a.2) || (a.2 == b.2 && decide (a.1 < b.1)))
    ((u.effsOn d).filter fun e => u.starved d e.1)

/-- Whether core a is further beyond its quantum than core b. -/
def longerRun (u : State) (a b : Nat) : Bool :=
  decide ((u.overQuantum a).1 * (u.overQuantum b).2 > (u.overQuantum b).1 * (u.overQuantum a).2)

/-- The core that is lent to a stage of effective priority e: of the least priority, the furthest beyond its quantum, the lowest
(R315). -/
def firstLendable (u : State) (d e : Nat) : Option (Nat × Nat) :=
  bestOf (fun (a b : Nat × Nat) => decide (a.2 < b.2) || (a.2 == b.2 &&
    (longerRun u a.1 b.1 || (!longerRun u b.1 a.1 && decide (a.1 < b.1))))) (u.lendable d e)

/-- The stages of a plan that hold a core of a die (R317). -/
def stagesOn (s : State) (h d : Nat) (p : Plan) : List Nat :=
  (List.range p.stages.length).filter fun x => !(s.shareOf h x d).isEmpty

/-- The recipient of a move: below MAX with work to do and no donation within HYST ticks, of the highest pressure (R317). -/
def recipient (s : State) (h d n : Nat) (p : Plan) : Option Nat :=
  bestOf (fun a b => decide (s.press h p b < s.press h p a) || (s.press h p a == s.press h p b && decide (a < b)))
    ((stagesOn s h d p).filter fun x => decide ((s.shareOf h x d).length < (p.stages.getD x {}).maxS) && s.hasWork h x d
      && !within p.donated d x n p.hyst)

/-- The donor: above MIN and no reception within HYST ticks, of the lowest pressure (R317). -/
def donor (s : State) (h d n : Nat) (p : Plan) : Option Nat :=
  bestOf (fun a b => decide (s.press h p a < s.press h p b) || (s.press h p a == s.press h p b && decide (a < b)))
    ((stagesOn s h d p).filter fun x => decide ((p.stages.getD x {}).minS < (s.shareOf h x d).length)
      && !within p.received d x n p.hyst)

/-- Tick n of the rebalancer is due for a plan on a die (R317). -/
def RebalanceDue (s : State) (h d n : Nat) (p : Plan) : Prop :=
  s.plan? h = some p ∧ p.interval ≠ 0 ∧ d < 16 ∧ n = p.ticks.getD d 0 + 1 ∧ p.startedAt + n * p.interval ≤ s.cycle

/-- No move is under way on a die: no core of the plan there is on its way to another stage. -/
def NoMove (s : State) (h d : Nat) (p : Plan) : Prop :=
  ∀ x, (x < p.stages.length ∨ x = 0) → ∀ c ∈ s.shareOf h x d, (s.core c).moving = none

/-- A `plan.go` waits for the outcome of a gang plan's start, and the answer to its access to the commit word has come: the word w
at a, under a key (R321); u is the machine with the answer taken in. -/
structure GangWaits (s u : State) (gid h d : Nat) (p : Plan) (a key w : Nat) : Prop where
  waits : (s.group gid).wait = some (.gang h d)
  plan : s.plan? h = some p
  reached : s.commitReached (.ask gid) (s.planAsker h) p.commitVA = true
  word : s.commitValue (s.planAsker h) p.commitVA = .ok (a, key, w)
  answer : u = s.land (.ask gid) a

/-- The steps of tasks and plans. -/
inductive TaskStep : Instr → State → State → Prop where
  /-- R310: a core that may dispatch admits and dispatches the first record of its queue: its own, with no saved task, or lent,
  with no task yet -/
  | dispatch (s : State) (c h x tid base : Nat) (rest slots : List Nat) (t : Task) (p : Plan) (d : StageDesc) :
      MayDispatch s c h x → ((s.core c).lent = none → (s.core c).saved = []) →
      ((s.core c).lent ≠ none → (s.core c).resident = []) → (s.core c).runq = tid :: rest → s.task? tid = some t → s.plan? h = some p → p.stages[x]? = some d →
      s.admits c h x = some (slots, base) → (p.state = .running ∨ p.state = .draining) →
      TaskStep (.taskDispatch c) s ((s.setCore c { s.core c with runq := rest }).dispatch c tid t p d slots base)
  /-- R315: a saved task comes first -/
  | resume (s : State) (c h x tid : Nat) (rest : List Nat) (t : Task) : MayDispatch s c h x → (s.core c).lent = none → (s.core c).saved = tid :: rest → s.task? tid = some t →
      (∀ g ∈ t.held.keys, s.groups.has g = false) →
      TaskStep (.taskDispatch c) s (((s.setCore c { s.core c with saved := rest }).resumeTeam c tid t).progress h)
  /-- R65, R176, R257: with its prefetches performed a task starts, and its groups are younger than every group that has started -/
  | start (s : State) (tid : Nat) (t : Task) : s.task? tid = some t → t.starting = true → t.running = true →
      t.prefFailed = none → (∀ e ∈ (s.core t.core).queue 4, ∀ i, e.kind ≠ .prefetch tid i) →
      TaskStep (.taskStart tid) s ((s.setTask tid { t with starting := false }).ageTeam t)
  /-- R257: where a prefetch has failed, the group that receives delivery takes the fault before its first instruction -/
  | startFaults (s : State) (tid g k pos off : Nat) (t : Task) : s.task? tid = some t → t.starting = true → t.running = true →
      t.prefFailed = some (k, pos, off) → (∀ e ∈ (s.core t.core).queue 4, ∀ i, e.kind ≠ .prefetch tid i) →
      s.deliveryGroup t = some g →
      TaskStep (.taskStart tid) s (((s.setTask tid { t with starting := false }).ageTeam t).takeTrap g
        (some { kind := k, src := 3, pos := pos, offset := off }))
  /-- R78: a drained group has exited; others of its team go on, and its slot and budget stay taken (R13, R24) -/
  | exit (s : State) (gid other : Nat) (t : Task) (rest : List Nat) : Exits s gid t → t.live.filter (· != gid) = other :: rest →
      TaskStep (.groupExitDrained gid) s (exited s gid t)
  /-- R311: with the last group the task exits, once the team's accesses and commands are done -/
  | exitTask (s : State) (gid : Nat) (t : Task) : Exits s gid t → t.live.filter (· != gid) = [] → t.cmds = [] → t.going = [] →
      (∀ g ∈ t.groups, (s.group g).out = []) →
      TaskStep (.groupExitDrained gid) s ((exited s gid t).taskExit (s.group gid).task { t with live := [] })
  /-- R78: the last group does not wait for its team's reductions and matrix commands: it has exited -/
  | exitLast (s : State) (gid : Nat) (t : Task) : Exits s gid t → t.live.filter (· != gid) = [] → s.teamQuiet t = false →
      TaskStep (.groupExitDrained gid) s (exited s gid t)
  /-- R281, R311: the task exits when those are done -/
  | exitTaskLater (s : State) (gid : Nat) (t : Task) : s.task? (s.group gid).task = some t → (s.group gid).wait = none →
      (s.group gid).exited = true → t.ending = none → t.live = [] → t.cmds = [] → t.going = [] → (∀ g ∈ t.groups, (s.group g).out = []) →
      TaskStep (.groupExitDrained gid) s (s.taskExit (s.group gid).task t)
  /-- R312: of a full core queue that a `spawn` waits for, the eight youngest records move to the cluster queue -/
  | overflow (s : State) (c h x gid : Nat) (g : Group) : (s.core c).stage = some (h, x) → (gid, g) ∈ s.groups →
      coreOfGid gid = c → g.wait = some (.queue h x) → (s.core c).runq.length = 16 → (s.core c).lentDone = false →
      (s.cluster (c / 8)).runq.length ≤ 56 →
      TaskStep (.queueOverflow c) s ((s.setCore c { s.core c with runq := (s.core c).runq.take 8 }).setCluster (c / 8)
        { s.cluster (c / 8) with runq := (s.cluster (c / 8)).runq ++ (s.core c).runq.drop 8 })
  /-- R312, R317: the queue of a core that is to move empties so too -/
  | overflowMove (s : State) (c h x r : Nat) : (s.core c).stage = some (h, x) → (s.core c).moving = some r →
      (s.core c).runq ≠ [] → (s.core c).lentDone = false →
      (s.cluster (c / 8)).runq.length + (youngest (s.core c).runq).length ≤ 64 →
      TaskStep (.queueOverflow c) s ((s.setCore c { s.core c with runq := older (s.core c).runq }).setCluster (c / 8)
        { s.cluster (c / 8) with runq := (s.cluster (c / 8)).runq ++ youngest (s.core c).runq })
  /-- R312: a core takes up to eight records of its stage from the cluster queue -/
  | underflow (s : State) (c h x tid : Nat) (more : List Nat) : (s.core c).stage = some (h, x) → (s.core c).moving = none →
      (s.core c).lent = none → (s.core c).lentDone = false → (s.core c).runq.length < 8 →
      s.recordsOf h x 8 (s.cluster (c / 8)).runq = tid :: more →
      TaskStep (.queueUnderflow c) s
        ((s.setCluster (c / 8) { s.cluster (c / 8) with
            runq := (s.cluster (c / 8)).runq.filter fun t => !(tid :: more).contains t }).setCore c
          { s.core c with runq := (s.core c).runq ++ tid :: more })
  /-- R314: every 1,024 cycles, or after a firing -/
  | recompute (s : State) (d : Nat) : d < 16 → ((s.die d).effDue = true ∨ (s.die d).effAt + 1024 ≤ s.cycle) →
      TaskStep (.priorityRecompute d) s (s.setDie d { s.die d with
        effDue := false, effAt := s.cycle, eff := s.effPrios.filter fun e => s.stageOnDie d e.1 })
  /-- R315, R361: the first core whose teams are to be saved and can be, the die's stack not retraining: they are saved, and the core is lent -/
  | lends (s : State) (d c h x : Nat) : d < 16 → s.retrains d = false → c ∈ coresOf d → (s.core c).saving = some (h, x) →
      (∀ t ∈ (s.core c).resident, s.canHold t = true) → (∀ k ∈ coresOf d, k < c → (s.core k).saving = none) →
      TaskStep (.preemptTick d) s (s.lend c h x)
  /-- R315: a tick chooses for the first starved stage a core, whose groups stop, and which is lent once they are saved -/
  | preempts (s u v : State) (d : Nat) (w c : Nat × Nat) : PreemptDue s d → u = idleReturned s d →
      firstStarved u d = some w → firstLendable u d w.2 = some c →
      v = u.setCore c.1 { u.core c.1 with saving := some (w.1 / 32, w.1 % 32) } →
      TaskStep (.preemptTick d) s ((v.trySaved d).getD v)
  /-- R315: a tick at which no stage is starved, or no core can be lent to the first that is -/
  | preempt (s u : State) (d : Nat) : PreemptDue s d → u = idleReturned s d →
      (∀ w, firstStarved u d = some w → firstLendable u d w.2 = none) → TaskStep (.preemptTick d) s u
  /-- R317: a tick moves one core from the donor to the recipient, where their pressures differ by more than THRESH -/
  | rebalance (s u : State) (h d n r o : Nat) (p : Plan) : RebalanceDue s h d n p → p.state = .running → NoMove s h d p →
      recipient s h d n p = some r → donor s h d n p = some o → r ≠ o → (p.thresh * occScale : Nat) < s.press h p r - s.press h p o →
      u = s.modPlan h (fun q => { q with ticks := q.ticks.put d n }) →
      TaskStep (.rebalanceTick h d) s (u.beginMove h d o r n)
  /-- R317: a tick without both, or at which a move is under way, moves none -/
  | rebalanceIdle (s : State) (h d n : Nat) (p : Plan) : RebalanceDue s h d n p →
      (p.state ≠ .running ∨ (∃ x, x < p.stages.length ∧ ∃ c ∈ s.shareOf h x d, (s.core c).moving ≠ none)
        ∨ recipient s h d n p = none ∨ donor s h d n p = none
        ∨ (∃ r o, recipient s h d n p = some r ∧ donor s h d n p = some o
          ∧ (r = o ∨ s.press h p r - s.press h p o ≤ (p.thresh * occScale : Nat)))) →
      TaskStep (.rebalanceTick h d) s (s.modPlan h fun q => { q with ticks := q.ticks.put d n })
  /-- R317: a drained core is loaded with the stage it goes to in n cycles -/
  | moveLoad (s : State) (c n h x r : Nat) : (s.core c).moving = some r → (s.core c).stage = some (h, x) →
      (s.core c).lent = none → (s.core c).runq = [] → (s.core c).resident = [] → (∀ q ∈ (s.core c).queues, q.2 = []) →
      TaskStep (.coreMoveLoad c n) s
        { s.setCore c { s.core c with moving := none, stage := some (h, r), moveL := n } with cycle := s.cycle + n }
  /-- R320: a plan waiting without progress for LIMIT cycles sends event 1 once, and its drain may start -/
  | deadlock (s : State) (h t : Nat) (p : Plan) : s.plan? h = some p → p.waitingSince = some t → p.deadlockSent = false →
      s.deadlockCycles.toNat % 2 ^ 32 ≠ 0 → max t p.lastRise + s.deadlockCycles.toNat % 2 ^ 32 ≤ s.cycle →
      TaskStep (.deadlockDetect h) s
        (((s.modPlan h fun q => { q with deadlockSent := true }).planEvent h 1 (p.progress % 2 ^ 32)
          ((s.groups.filter fun g => g.2.plan == h && g.2.wait.isSome).length
            + (s.tasks.filter fun q => q.2.plan == h && !q.2.running && !q.2.returning && q.2.held.isEmpty).length * 2 ^ 32)
          0xFF).selectedDrain h)
  /-- R318: a draining plan with no task queued or resident and nothing fireable is quiescent -/
  | quiescence (s : State) (h : Nat) (p : Plan) : s.plan? h = some p → p.state = .draining → (∀ t ∈ s.tasks, t.2.plan = h → t.2.returning = true) →
      (∀ q ∈ s.patterns, q.2.plan = h → s.fireable q.1 q.2 = false) →
      TaskStep (.drainQuiescence h) s
        ((s.modPlan h fun q => { q with state := .quiescent }).planEvent h 2 p.discarded 0 0xFF)
  /-- R304, R321: a committed gang plan starts on the cores placed for it, with status 0 -/
  | gangStarts (s u : State) (gid h d a key w : Nat) (p : Plan) (l : List (Nat × Nat)) : GangWaits s u gid h d p a key w →
      w / 2 ^ 16 % 4 = 1 → u.placement h p = some l → p.memberGone = false →
      TaskStep (.gangStateObserve gid) s (((u.placeCores h l).beginPlan h).endGang gid d 0)
  /-- R321: where a member has been lost since the commit, the selected drain starts then -/
  | gangStartsShort (s u : State) (gid h d a key w : Nat) (p : Plan) (l : List (Nat × Nat)) : GangWaits s u gid h d p a key w →
      w / 2 ^ 16 % 4 = 1 → u.placement h p = some l → p.memberGone = true →
      TaskStep (.gangStateObserve gid) s ((((u.placeCores h l).beginPlan h).endGang gid d 0).selectedDrain h)
  /-- R321: an aborted one ends with status 2 -/
  | gangAborts (s u : State) (gid h d a key w : Nat) (p : Plan) : GangWaits s u gid h d p a key w → w / 2 ^ 16 % 4 = 2 →
      TaskStep (.gangStateObserve gid) s ((u.abortPlan h).endGang gid d 2)
  /-- R321: where the word's switch is lost it ends with status 3 -/
  | gangLoses (s : State) (gid h d : Nat) (p : Plan) : (s.group gid).wait = some (.gang h d) → s.plan? h = some p →
      s.commitWord (s.planAsker h) p.commitVA = .error 12 →
      TaskStep (.gangStateObserve gid) s (((s.landAll (.ask gid)).abortPlan h).endGang gid d 3)
  /-- R3: a word with a nonzero reserved field faults, and has no other effect: the plan stays installed -/
  | gangFaults (s u : State) (gid h d a key : Nat) (p : Plan) : (s.group gid).wait = some (.gang h d) → s.plan? h = some p →
      s.commitReached (.ask gid) (s.planAsker h) p.commitVA = true → s.commitWord (s.planAsker h) p.commitVA = .ok (a, key) →
      s.readsBad (s.planAsker h) key a 8 = false → 2 ^ 18 ≤ leNat (s.readPiece (s.planAsker h) key a 8) →
      u = (s.landAll (.ask gid)).modPlan h (fun q => { q with state := .installed }) →
      TaskStep (.gangStateObserve gid) s ((u.unblock gid).takeTrap gid (some { kind := 1 }))
  /-- R321: the coordinator commits once every member has installed, and aborts once one has rejected -/
  | gangDecides (s u : State) (gid h d a key w v : Nat) (p : Plan) : GangWaits s u gid h d p a key w →
      w / 2 ^ 16 % 4 = 0 → p.coord = s.device →
      ((w / 2 ^ 8 % 2 ^ 8 ≠ 0 ∧ v = 2) ∨ (w / 2 ^ 8 % 2 ^ 8 = 0 ∧ w % 2 ^ 8 = p.members + 1 ∧ v = 1)) →
      TaskStep (.gangStateObserve gid) s (u.writePiece (u.planAsker h) key a (leBytes 8 (w + v * 2 ^ 16)))
  /-- R321: the coordinator's TIMEOUT aborts a pending commit -/
  | gangTimeout (s u : State) (gid h d a key w : Nat) (p : Plan) : GangWaits s u gid h d p a key w →
      p.coord = s.device → p.gangSince + p.timeout ≤ s.cycle → w / 2 ^ 16 % 4 = 0 →
      TaskStep (.gangTimeout gid) s (u.writePiece (u.planAsker h) key a (leBytes 8 (w + 2 * 2 ^ 16)))
  /-- R307, R321: a running or draining gang plan that has lost a member sends event 4, and its drain may start; u has heard of the
  loss -/
  | memberLost (s u : State) (h dev : Nat) (p : Plan) : s.noticeFrom dev = some u → u.plan? h = some p → dev ∈ p.peers u.device →
      (p.state = .running ∨ p.state = .draining ∨ p.state = .quiescent) →
      TaskStep (.memberLostNotice h dev) s ((u.planEvent h 4 dev 0 0xFF).selectedDrain h)
  /-- R321: while the commit is pending it is aborted -/
  | memberLostEarly (s u v : State) (h dev a key w : Nat) (p : Plan) : s.noticeFrom dev = some u → u.plan? h = some p →
      dev ∈ p.peers u.device → (p.state = .installed ∨ p.state = .committing) →
      u.commitReached (.event h) (u.planAsker h) p.commitVA = true →
      u.commitValue (u.planAsker h) p.commitVA = .ok (a, key, w) → w / 2 ^ 16 % 4 = 0 → v = u.land (.event h) a →
      TaskStep (.memberLostNotice h dev) s (v.writePiece (v.planAsker h) key a (leBytes 8 (w + 2 * 2 ^ 16)))

end Sys2Proof.Rules
end

