-- ==== Sys2Proof/Rules/Traps.lean ====
section
/-!
DEFINITION. Terms of the statements: traps, the return from them and the debug step (R350 to R356), segments and
translations (R357, R358), contexts (R359, R360).
-/

namespace Sys2Proof.Rules

open Sys2Proof.Machine

/-- Traps enter the handler: EN is 1 and VEC is not 0 (R350, R355). -/
def Enabled (s : State) : Prop := s.trapBase.getLsbD 0 = true ∧ s.trapVec.toNat / 4 % 2 ^ 54 ≠ 0

/-- The place of the frame of a core's group: BASE × 2^20 + ((c × 8 + k) × 32 + s) × 1,024 of its die's stack (R350). -/
def framePlace (s : State) (gid : Nat) : Nat :=
  gid / 32 / 176 * 2 ^ 36 + (s.trapBase.toNat / 2 ^ 20 % 2 ^ 16 * 2 ^ 20 + (gid / 32 % 176 * 32 + gid % 32) * 1024) % 2 ^ 36

/-- d is the state with the group's results written and its accesses performed (R353 step 2); t is d after the trap of the
group is entered, with its record's KIND, FPC, RESUME, OFFSET and LATE (R351 to R353). -/
structure Entered (d t : State) (gid kind fpc resume off : Nat) (late : Bool) : Prop where
  mode : (t.group gid).mode = .supervisor
  pc : (t.group gid).pc = d.trapVec.toNat / 4 % 2 ^ 54 * 4
  repcnt : (t.group gid).repcnt = 0
  s0 : (t.group gid).getS 0 = 0
  s1 : (t.group gid).getS 1 = BitVec.ofNat 64 kind
  s2 : (t.group gid).getS 2 = BitVec.ofNat 64 resume
  s3 : (t.group gid).getS 3 = BitVec.ofNat 64 off
  /-- no other scalar register, no vector register, flag, control register, segment, token or matrix fault slot -/
  scalars : ∀ r, 4 ≤ r → (t.group gid).getS r = (d.group gid).getS r
  kept : ∃ h : Group, h = t.group gid ∧ h = { d.group gid with
    s := h.s, mode := h.mode, pc := h.pc, repcnt := h.repcnt, late := h.late, lateExtra := h.lateExtra, wait := h.wait
    parked := h.parked, stepDue := h.stepDue, stepArmed := h.stepArmed, stepSince := h.stepSince
    word := h.word, target := h.target, reads := h.reads, due := h.due }
  blocked : (t.group gid).wait = none ∧ (t.group gid).parked = false ∧ (t.group gid).due = none
  others : ∀ g, g ≠ gid → t.group g = d.group g
  recordResume : t.num (framePlace d gid) 8 = resume % 2 ^ 56
  recordFpc : t.num (framePlace d gid + 8) 8 = fpc % 2 ^ 56
  recordKind : t.num (framePlace d gid + 16) 1 = kind % 2 ^ 8
  recordFlags : t.num (framePlace d gid + 17) 1 % 8 / 4 = 0 ∧ (t.num (framePlace d gid + 17) 1 % 2 = 1 ↔ late = true)
  recordOffset : t.num (framePlace d gid + 24) 8 = off % 2 ^ 64
  recordCycles : t.num (framePlace d gid + 56) 8 = d.cycle % 2 ^ 64
  saved : ∀ r, r < 4 → t.num (framePlace d gid + 64 + 8 * r) 8 = ((d.group gid).getS r).toNat
  lateEntries : ∀ n e, n < 32 → (d.group gid).late[n]? = some e → t.num (framePlace d gid + 96 + 16 * n) 8 = e.pc % 2 ^ 56
    ∧ t.num (framePlace d gid + 104 + 16 * n) 1 = e.kind % 2 ^ 8
  /-- no byte of memory outside the frame -/
  memory : ∀ a, (a < framePlace d gid ∨ framePlace d gid + 96 + 16 * min 32 (d.group gid).late.length ≤ a) → t.byte a = d.byte a

/-- The rest of the record of cause x, beside KIND, FPC and RESUME: the other fields of STATUS, OFFSET, WORDS, INFO and RECS, with n
late entries written (R352). `sup` is SUP. -/
structure Recorded (d t : State) (gid : Nat) (x : TrapInfo) (words n : Nat) (sup : Bool) : Prop where
  flags : t.num (framePlace d gid + 17) 1 = natOf x.late + 2 * natOf x.fetch + 4 * natOf sup + 16 * (x.seg.getD 0 % 8)
    + 128 * natOf x.seg.isSome
  thread : t.num (framePlace d gid + 18) 1 = x.thread.getD 0 % 128 + 128 * natOf x.thread.isSome
  repcnt : t.num (framePlace d gid + 19) 1 = (d.group gid).repcnt % 128
  waits : t.num (framePlace d gid + 20) 1 = x.wait % 4 + 4 * (n % 64)
  lextra : t.num (framePlace d gid + 21) 1 = (d.group gid).lateExtra % 256
  reserved : t.num (framePlace d gid + 22) 2 = 0
  offset : t.num (framePlace d gid + 24) 8 = x.offset % 2 ^ 64
  words : t.num (framePlace d gid + 32) 8 = words % 2 ^ 64
  src : t.num (framePlace d gid + 40) 1 = x.src % 8
  slot : t.num (framePlace d gid + 41) 1 = x.token % 8 + 8 * (x.queue % 4) + 32 * (x.tile % 8)
  pos : t.num (framePlace d gid + 42) 2 = x.pos % 8
  value : t.num (framePlace d gid + 44) 4 = x.value % 2 ^ 32
  records : t.num (framePlace d gid + 48) 4 = x.dstRec % 2 ^ 32 ∧ t.num (framePlace d gid + 52) 4 = x.srcRec % 2 ^ 32

/-- The first word of the instruction that a group is at, and the target of a prefix: as the group holds them, else as they stand in
memory. -/
def firstWord (d : State) (gid : Nat) : Nat := ((d.group gid).word.map BitVec.toNat).getD (d.wordAt gid (d.group gid).pc)
def secondWord (d : State) (gid : Nat) : Nat := ((d.group gid).target.map BitVec.toNat).getD (d.wordAt gid ((d.group gid).pc + 4))

/-- `limm` and `rep` (R42, R48). -/
def Prefix (w : Nat) : Prop := w / 2 ^ 24 % 2 ^ 8 = 0x96 ∨ w / 2 ^ 24 % 2 ^ 8 = 0x97

/-- WORDS of a record of an early cause or a step (R352): the prefix in the upper half, the instruction in the lower, which is zero
after a fault on a fetch; so is the upper where no prefix was fetched. -/
inductive WordsOf (d : State) (gid : Nat) : Bool → Nat → Prop where
  | plain : ¬ Prefix (firstWord d gid) → WordsOf d gid false (firstWord d gid)
  | prefixed : Prefix (firstWord d gid) → WordsOf d gid false (firstWord d gid * 2 ^ 32 + secondWord d gid)
  | unfetched : (d.group gid).word = none → WordsOf d gid true 0
  | target (w : Word) : (d.group gid).word = some w → Prefix w.toNat → (d.group gid).target = none → WordsOf d gid true (w.toNat * 2 ^ 32)

/-- d is the state in which a trap of a core's group is entered: all that it has outstanding is drained; its frame's memory is
served or EN is 0, and its task is not being ended (R353 to R355). -/
def Enters (s d : State) (gid : Nat) : Prop :=
  isCp gid = false ∧ s.groupEnds gid = false ∧ s.canEnter gid = true ∧ d = s.drainGroup gid

/-- The block of a group that a trap interrupts without taking anything back: none, or a wait that it may take again. -/
def Plainly (w : Option Wait) : Prop :=
  w = none ∨ w = some .outstanding ∨ w = some .room ∨ (∃ k, w = some (.tokens k)) ∨ (∃ n, w = some (.arbor n))
    ∨ ∃ x p seg off, w = some (.barrier x p false seg off)

/-- The record's cause x where a trap of cause c interrupts a wait (R197, R260, R352): WAIT, VALUE and SRC 5 inside that of a
`bar.arw` or a `sendw`. -/
inductive Interrupts (c : TrapInfo) : Option Wait → TrapInfo → Prop where
  | plain (w : Option Wait) : Plainly w → Interrupts c w c
  | barrier (addr phase seg off : Nat) :
      Interrupts c (some (.barrier addr phase true seg off)) { c with wait := 1, value := phase, src := 5 }
  | woken (d : Option Nat) (v : Nat) (e : Option TrapInfo) (phase : Nat) :
      Interrupts c (some (.woken d v e (some phase))) { c with wait := 1, value := phase, src := 5 }
  | ticket (n d : Nat) : Interrupts c (some (.ticket n d)) { c with wait := 2, value := n, src := 5 }
  | remote (id n d : Nat) : Interrupts c (some (.remoteTicket id n d)) { c with wait := 2, value := n, src := 5 }

/-- The frame that `tret` reads: its doublewords under key id 0 (R350, R352). -/
def frameDword (s : State) (i : Nat) : Nat := leNat (s.readPiece {} 0 (s.frameAddr s.cur + 8 * i) 8)

/-- A frame that passes `tret`'s checks, its memory served; `word` is the word at RESUME (R354). -/
structure GoodFrame (s : State) (resume repcnt wait value word : Nat) : Prop where
  served : s.frameServed s.cur = true
  correct : s.isBad (s.frameAddr s.cur) 96 = false
  point : frameDword s 0 = resume ∧ resume < 2 ^ 56 ∧ resume % 4 = 0
  fpc : frameDword s 1 < 2 ^ 56
  status : bits (frameDword s 2) 30 24 = repcnt ∧ repcnt ≤ 64 ∧ bits (frameDword s 2) 33 32 = wait
  waitsOn : bits (frameDword s 5) 63 32 = value
  reserved : bits (frameDword s 2) 63 48 = 0 ∧ bit (frameDword s 2) 31 = false ∧ bit (frameDword s 2) 11 = false
    ∧ bits (frameDword s 5) 31 19 = 0 ∧ bits (frameDword s 5) 7 3 = 0
  atPoint : word = s.wordAt s.cur resume
  /-- WAIT 1 stands at a `bar.arw`, WAIT 2 at a `sendw` -/
  waits : wait = 0 ∨ (wait = 1 ∧ ∃ m g a, encode (.barArw m g a) = some (BitVec.ofNat 32 word))
    ∨ (wait = 2 ∧ ∃ m d a b, encode (.sendw m d a b) = some (BitVec.ofNat 32 word))

/-- A core whose requests for its group's frame meet a redirect stub holds the present map (R155, R350). -/
def frameReached (u : State) : State := u.redirectRange (unitOf u.cur) (u.frameAddr u.cur) 96

/-- r is u with what the frame of its issuing group holds put back: s0 to s3 and REPCNT, in user mode (R354). -/
structure Restored (u r : State) (repcnt : Nat) : Prop where
  restored : ∀ n, n < 4 → r.me.getS n = BitVec.ofNat 64 (frameDword u (8 + n))
  scalars : ∀ n, 4 ≤ n → r.me.getS n = u.me.getS n
  kept : ∃ h : Group, h = r.me ∧ h = { u.me with s := h.s, mode := .user, repcnt := repcnt }
  others : r = (frameReached u).setMe r.me

/-- Inside which wait the issuing group of r goes on, by WAIT and VALUE of its frame and the word at RESUME; v is the machine
then (R197, R260, R354). -/
inductive Inside (r : State) (word value : Nat) : Nat → State → Option Wait → Prop where
  | plain : Inside r word value 0 r none
  /-- the phase of `bar.arw` is tested at once -/
  | waits (m : Bool) (g : BitVec 3) (a : Reg) (addr : Nat) : encode (.barArw m g a) = some (BitVec.ofNat 32 word) →
      (r.me.seg r.cur g.toNat).space = 1 → addr = r.target r.cur (r.me.seg r.cur g.toNat) 0 (sReg r a) → r.barrierBad addr = none →
      barPhase (r.num addr 8) = value % 2 ^ 16 →
      Inside r word value 1 r (some (.barrier addr (value % 2 ^ 16) true g.toNat (sReg r a)))
  | passed (m : Bool) (g : BitVec 3) (a : Reg) (addr : Nat) : encode (.barArw m g a) = some (BitVec.ofNat 32 word) →
      (r.me.seg r.cur g.toNat).space = 1 → addr = r.target r.cur (r.me.seg r.cur g.toNat) 0 (sReg r a) → r.barrierBad addr = none →
      barPhase (r.num addr 8) ≠ value % 2 ^ 16 → Inside r word value 1 r (some (.woken none 0 none (some (value % 2 ^ 16))))
  | badWord (m : Bool) (g : BitVec 3) (a : Reg) (addr k : Nat) : encode (.barArw m g a) = some (BitVec.ofNat 32 word) →
      (r.me.seg r.cur g.toNat).space = 1 → addr = r.target r.cur (r.me.seg r.cur g.toNat) 0 (sReg r a) → r.barrierBad addr = some k →
      Inside r word value 1 r
        (some (.woken none 0 (some { kind := k, seg := some g.toNat, offset := sReg r a }) (some (value % 2 ^ 16))))
  | elsewhere (m : Bool) (g : BitVec 3) (a : Reg) : encode (.barArw m g a) = some (BitVec.ofNat 32 word) →
      (r.me.seg r.cur g.toNat).space ≠ 1 → Inside r word value 1 r
        (some (.woken none 0 (some { kind := 1, seg := some g.toNat, offset := sReg r a }) (some (value % 2 ^ 16))))
  /-- the ticket of `sendw`: of an admitted message of the group, of none, of a port of another module -/
  | ticket (m : Bool) (d a b : Reg) (x : Ticket) : encode (.sendw m d a b) = some (BitVec.ofNat 32 word) →
      sReg r a / 2 ^ 23 % 2 ^ 7 = r.device → r.tickets.get? value = some x →
      (x = .awaited r.cur ∨ (∃ y z, x = .consumed r.cur y z) ∨ x = .discarded r.cur) →
      Inside r word value 2 r (some (.ticket value d.toNat))
  | lost (m : Bool) (d a b : Reg) : encode (.sendw m d a b) = some (BitVec.ofNat 32 word) →
      sReg r a / 2 ^ 23 % 2 ^ 7 = r.device → r.tickets.get? value = none →
      Inside r word value 2
        { r with tickets := r.tickets.put r.nextTicket (.discarded r.cur), nextTicket := r.nextTicket + 1 }
        (some (.ticket r.nextTicket d.toNat))
  | remote (m : Bool) (d a b : Reg) : encode (.sendw m d a b) = some (BitVec.ofNat 32 word) →
      sReg r a / 2 ^ 23 % 2 ^ 7 ≠ r.device →
      Inside r word value 2 r (some (.remoteTicket (sReg r a % 2 ^ 32) value d.toNat))

/-- The machine after `tret` with marker m has returned its issuing group of v to `resume`, inside `w`, with the marker of the
instruction there; with STEP set the next unit is stepped (R354, R356). -/
def returnedTo (v : State) (m : Bool) (resume : Nat) (w : Option Wait) (mark : Bool) : State :=
  { finished v m resume v.me with
    groups := v.groups.put v.cur { (finished v m resume v.me).me with
      wait := w, waitMark := mark, stepDue := false, stepArmed := v.me.step
      stepSince := if v.me.step && w.isSome then v.cycle + 1 else 0 } }

/-- An instruction of supervisor mode on a core, its group's own earlier accesses performed. -/
def Supervisor (s u : State) : Prop := Issuing s ∧ s.me.mode = .supervisor ∧ Settles s u

/-- A loaded descriptor that satisfies R134, `blk` the stage's PRIVBLK and `size` its team's region (R357); the segment it
makes, with `block` the group's private block and `region` the team's region. -/
inductive Loads (blk size block region : Nat) : Segment → Segment → Prop where
  | priv (b l : Nat) (r w x : Bool) : (x && w) = false → b % 4 = 0 → l % 4 = 0 → b + l * 64 ≤ 2 ^ 56 → b + l * 64 ≤ blk * 64 →
      Loads blk size block region ⟨b, l, r, w, x, 0⟩ ⟨b + block, l, r, w, x, 0⟩
  | scratchpad (b l : Nat) (r w x : Bool) : (x && w) = false → b + l ≤ size →
      Loads blk size block region ⟨b, l, r, w, x, 1⟩ ⟨b + region, l, r, w, x, 1⟩
  | global (b l : Nat) (r w x : Bool) : (x && w) = false → b + l ≤ 2 ^ 56 →
      Loads blk size block region ⟨b, l, r, w, x, 2⟩ ⟨b, l, r, w, x, 2⟩
  | orangery (b l : Nat) (r x : Bool) : b + l ≤ 768 * 2 ^ 20 →
      Loads blk size block region ⟨b, l, r, false, x, 3⟩ ⟨b, l, r, false, x, 3⟩
  | pavilion (b l : Nat) (r w x : Bool) : (x && w) = false → b + l ≤ 2 ^ 56 →
      Loads blk size block region ⟨b, l, r, w, x, 4⟩ ⟨b, l, r, w, x, 4⟩
  | belvedere (b l : Nat) (r w x : Bool) : (x && w) = false → b + l ≤ 2 ^ 22 →
      Loads blk size block region ⟨b, l, r, w, x, 5⟩ ⟨b, l, r, w, x, 5⟩

/-- The two doublewords of a descriptor (R133). -/
def DescriptorWords (x : Segment) (w0 w1 : Nat) : Prop :=
  x.base < 2 ^ 56 ∧ x.limit < 2 ^ 56 ∧ x.space < 8 ∧ w0 = x.base
    ∧ w1 = x.space + natOf x.r * 2 ^ 4 + natOf x.w * 2 ^ 5 + natOf x.x * 2 ^ 6 + x.limit * 2 ^ 8

/-- The state in which every TLB has lost the entries that satisfy p; the group has `x` to wait for in its next `tlbsync`
(R144). -/
def tlbWithout (s : State) (p : TlbEntry → Bool) (x : Nat × Nat × Nat) : State :=
  let v := { s with tlb := s.tlb.filter (fun e => !p e) }
  v.setMe { v.me with invs := v.me.invs ++ [x] }

/-- An entry covers a page of 4 KiB: its own page is of 2^b bytes (R140). -/
def coversPage (e : TlbEntry) (page : Nat) : Bool := e.page * 4096 / 2 ^ pageBits (leafPsize e.leaf) == page * 4096 / 2 ^ pageBits (leafPsize e.leaf)

/-- S(sa) and S(sb) of `ctxsave` and `ctxrest`: handle, area and key (R359). -/
structure CtxOperands (s : State) (a b : Reg) (h area key : Nat) : Prop where
  handle : sReg s a = h ∧ h < 2 ^ 16
  area : sReg s b = area + key ∧ area % 2 ^ 21 = 0 ∧ area < 2 ^ 36
  key : key < 2 ^ 13

/-- The instructions of the system class at issue. -/
inductive TrapRule : Instr → State → State → Prop where
  /-- R354: 1 and 2 in S(sa) end the task -/
  | endReturn (s u : State) (m : Bool) (a : Reg) : Supervisor s u → sReg u a = 1 →
      TrapRule (.tretEndReturn m a) s (u.finishTask u.me.task true)
  | endDiscard (s u : State) (m : Bool) (a : Reg) : Supervisor s u → sReg u a = 2 →
      TrapRule (.tretEndDiscard m a) s (u.finishTask u.me.task false)
  /-- R357; v is the machine after the descriptor's bytes are read, with the answers of other owners in -/
  | segld (s u w v : State) (m : Bool) (n g : BitVec 3) (a : Reg) (ps : List Piece) (bs : List Byte) (t : Task)
      (d : StageDesc) (x y : Segment) (w0 w1 : Nat) : Supervisor s u → sReg u a % 16 = 0 →
      ScalarChecked u g { r := true } (sReg u a) 16 ps → (∀ p ∈ ps, u.readable (.ask u.cur) p.addr = true) →
      readPlaces 0 (u.asker u.me) ps u = .ok (bs, w) → v = w.landAll (.ask w.cur) →
      leNat (bs.take 8) = w0 → leNat (bs.drop 8) = w1 → DescriptorWords x w0 w1 → v.me = u.me → v.cur = u.cur →
      v.task? u.me.task = some t → v.stageDesc t.plan t.stage = some d →
      Loads d.privBlk t.scratchSize (d.privBase + u.cur * d.privBlk * 64) t.scratchBase x y →
      TrapRule (.segld m n a g) s (done m (v.setMe { u.me with segs := u.me.segs.put n.toNat y }))
  /-- R358: one page of a context, a context, everything -/
  | tlbinvPage (s : State) (m : Bool) (a b : Reg) (page ctx : Nat) : Issuing s → s.me.mode ≠ .user → ctx < 2 ^ 16 →
      sReg s a = page * 4096 → sReg s a < 2 ^ 56 → sReg s b = ctx →
      TrapRule (.tlbinv m a b) s (done m (tlbWithout s (fun e => e.ctx == ctx && coversPage e page) (0, ctx, page)))
  | tlbinvContext (s : State) (m : Bool) (a b : Reg) (ctx : Nat) : Issuing s → s.me.mode ≠ .user → ctx < 2 ^ 16 → sReg s a = 0 →
      sReg s b = 2 ^ 16 + ctx → TrapRule (.tlbinv m a b) s (done m (tlbWithout s (fun e => e.ctx == ctx) (1, ctx, 0)))
  | tlbinvAll (s : State) (m : Bool) (a b : Reg) : Issuing s → s.me.mode ≠ .user → sReg s a = 0 → sReg s b = 2 ^ 17 →
      TrapRule (.tlbinv m a b) s (done m (tlbWithout s (fun _ => true) (2, 0, 0)))
  | tlbsync (s : State) (m : Bool) : Issuing s → s.me.mode ≠ .user → TrapRule (.tlbsync m) s (blocked s m .tlbsync)
  /-- R359, R360: a running plan that another saves is lifted off, and the group waits for the invalidation of its
  translations -/
  | ctxsave (s u : State) (m : Bool) (d a b : Reg) (h area key : Nat) (p : Plan) : Supervisor s u → CtxOperands u a b h area key →
      u.plan? h = some p → p.state = .running → u.me.plan ≠ h → u.hasKey 63 key = true →
      (∀ x ∈ placedOn (u.coresFor h), area + (x.2 * 2 ^ 21 + 2 ^ 22) ≤ 2 ^ 36) → u.canStop h = true → u.spillWaits h = false →
      TrapRule (.ctxsave m d a b) s (blocked (u.savePlan h area key (u.coresFor h)) m (.removal d.toNat))
  /-- R360, R361: while a team of it cannot stop yet, or a stack that a slot of it spills to retrains, the group waits -/
  | ctxsaveWaits (s u : State) (m : Bool) (d a b : Reg) (h area key : Nat) (p : Plan) : Supervisor s u →
      CtxOperands u a b h area key → u.plan? h = some p → p.state = .running → u.me.plan ≠ h → u.hasKey 63 key = true →
      (∀ x ∈ placedOn (u.coresFor h), area + (x.2 * 2 ^ 21 + 2 ^ 22) ≤ 2 ^ 36) → (u.canStop h = false ∨ u.spillWaits h = true) →
      TrapRule (.ctxsave m d a b) s (blocked u m .service)
  | ctxsaveNone (s u : State) (m : Bool) (d a b : Reg) (h area key : Nat) : Supervisor s u → CtxOperands u a b h area key →
      u.plan? h = none → TrapRule (.ctxsave m d a b) s (done m (withStatus u d 5))
  | ctxsaveState (s u : State) (m : Bool) (d a b : Reg) (h area key : Nat) (p : Plan) : Supervisor s u →
      CtxOperands u a b h area key → u.plan? h = some p → (p.state ≠ .running ∨ u.me.plan = h) →
      TrapRule (.ctxsave m d a b) s (done m (withStatus u d 4))
  | ctxsaveArea (s u : State) (m : Bool) (d a b : Reg) (h area key : Nat) (p : Plan) (x : Nat × Nat) : Supervisor s u →
      CtxOperands u a b h area key → u.plan? h = some p → p.state = .running → u.me.plan ≠ h → x ∈ placedOn (u.coresFor h) →
      2 ^ 36 < area + (x.2 * 2 ^ 21 + 2 ^ 22) → TrapRule (.ctxsave m d a b) s (done m (withStatus u d 6))
  | ctxsaveKey (s u : State) (m : Bool) (d a b : Reg) (h area key : Nat) (p : Plan) : Supervisor s u →
      CtxOperands u a b h area key → u.plan? h = some p → p.state = .running → u.me.plan ≠ h →
      (∀ x ∈ placedOn (u.coresFor h), area + (x.2 * 2 ^ 21 + 2 ^ 22) ≤ 2 ^ 36) → u.hasKey 63 key = false →
      TrapRule (.ctxsave m d a b) s (done m (withStatus u d 7))
  /-- R359, R360: a saved plan is put back, its area readable and its places free -/
  | ctxrest (s u : State) (m : Bool) (d a b : Reg) (h area key : Nat) (p : Plan) (x : SavedPlan) : Supervisor s u →
      CtxOperands u a b h area key → u.plan? h = some p → p.state = .saved → p.saved = some x → u.me.plan ≠ h → x.area = area →
      (∀ y ∈ placedOn (x.cores.map SavedCore.core), u.retrains y.1 = false) → x.key = key → u.hasKey 63 key = true →
      (∀ y ∈ placedOn (x.cores.map SavedCore.core), u.isBad (y.1 * 2 ^ 36 + area) (y.2 * 2 ^ 21 + 2 ^ 22) = false) →
      u.placesFree h p x = true → TrapRule (.ctxrest m d a b) s (done m (withStatus (u.restorePlan h x) d 0))
  /-- R361: while a stack that it reads an area of retrains, the group waits -/
  | ctxrestWaits (s u : State) (m : Bool) (d a b : Reg) (h area key : Nat) (p : Plan) (x : SavedPlan) (y : Nat × Nat) :
      Supervisor s u → CtxOperands u a b h area key → u.plan? h = some p → p.state = .saved → p.saved = some x → u.me.plan ≠ h →
      x.area = area → y ∈ placedOn (x.cores.map SavedCore.core) → u.retrains y.1 = true →
      TrapRule (.ctxrest m d a b) s (blocked u m .service)
  | ctxrestTaken (s u : State) (m : Bool) (d a b : Reg) (h area key : Nat) (p : Plan) (x : SavedPlan) : Supervisor s u →
      CtxOperands u a b h area key → u.plan? h = some p → p.state = .saved → p.saved = some x → u.me.plan ≠ h → x.area = area →
      (∀ y ∈ placedOn (x.cores.map SavedCore.core), u.retrains y.1 = false) → x.key = key → u.hasKey 63 key = true →
      (∀ y ∈ placedOn (x.cores.map SavedCore.core), u.isBad (y.1 * 2 ^ 36 + area) (y.2 * 2 ^ 21 + 2 ^ 22) = false) →
      u.placesFree h p x = false → TrapRule (.ctxrest m d a b) s (done m (withStatus u d 1))
  | ctxrestNone (s u : State) (m : Bool) (d a b : Reg) (h area key : Nat) : Supervisor s u → CtxOperands u a b h area key →
      u.plan? h = none → TrapRule (.ctxrest m d a b) s (done m (withStatus u d 5))
  | ctxrestState (s u : State) (m : Bool) (d a b : Reg) (h area key : Nat) (p : Plan) : Supervisor s u →
      CtxOperands u a b h area key → u.plan? h = some p → p.saved = none → TrapRule (.ctxrest m d a b) s (done m (withStatus u d 4))
  | ctxrestBad (s u : State) (m : Bool) (d a b : Reg) (h area key : Nat) (p : Plan) (x : SavedPlan) (y : Nat × Nat) :
      Supervisor s u → CtxOperands u a b h area key → u.plan? h = some p → p.state = .saved → p.saved = some x → u.me.plan ≠ h →
      x.area = area → (∀ y ∈ placedOn (x.cores.map SavedCore.core), u.retrains y.1 = false) →
      y ∈ placedOn (x.cores.map SavedCore.core) → u.isBad (y.1 * 2 ^ 36 + area) (y.2 * 2 ^ 21 + 2 ^ 22) = true →
      TrapRule (.ctxrest m d a b) s (done m (withStatus u d 6))

/-- The steps that end a shootdown, a task or a double fault without an instruction. -/
inductive TrapStep : Instr → State → State → Prop where
  /-- R144: no entry that the group removed is in a TLB, and no access that may have been translated under one is left -/
  | tlbsync (s : State) (gid : Nat) : (s.group gid).wait = some .tlbsync →
      (∀ x ∈ (s.group gid).invs, ∀ e ∈ s.tlb, e.named x = false) →
      (∀ x ∈ (s.group gid).invs, ∀ g ∈ s.groups, (x.1 = 2 ∨ g.2.ctx = x.2.1) → ∀ p ∈ g.2.out, p.todo = []) →
      TrapStep (.tlbsyncComplete gid) s ((s.setGroup gid { s.group gid with invs := [] }).finishWait gid)
  /-- R355: the control processor ends the task of a double fault -/
  | doubleFault (s : State) (gid : Nat) : gid ∈ (s.die (dieOfGid gid)).doubleFaults →
      TrapStep (.trapEntry gid) s ((s.setDie (dieOfGid gid) { s.die (dieOfGid gid) with
        doubleFaults := (s.die (dieOfGid gid)).doubleFaults.filter (· != gid) }).finishTask (s.group gid).task true)
  /-- R354: a task whose groups have stopped is over once all that they have issued can be performed -/
  | ended (s : State) (gid : Nat) (t : Task) (returns : Bool) : gid ∉ (s.die (dieOfGid gid)).doubleFaults →
      s.task? (s.group gid).task = some t → t.ending = some returns → (∀ g ∈ t.groups, s.canDrain g = true) →
      TrapStep (.trapEntry gid) s ((t.groups.foldl State.performAll s).endTask (s.group gid).task returns)

end Sys2Proof.Rules
end

