-- ==== Sys2Proof/Rules/Faults.lean ====
section
/-!
DEFINITION. Terms of the statements: the supervisor instructions of R50, the lane-set instructions with the vector
registers each names, and lane-set instructions that change more than V(d).
-/

namespace Sys2Proof.Rules

open Sys2Proof.Machine

/-- The instructions marked (S) in R50. -/
inductive SupervisorOnly : Instr → Prop where
  | tretResume (m : Bool) (a : Reg) : SupervisorOnly (.tretResume m a)
  | tretEndReturn (m : Bool) (a : Reg) : SupervisorOnly (.tretEndReturn m a)
  | tretEndDiscard (m : Bool) (a : Reg) : SupervisorOnly (.tretEndDiscard m a)
  | segld (m : Bool) (n g : BitVec 3) (a : Reg) : SupervisorOnly (.segld m n a g)
  | tlbinv (m : Bool) (a b : Reg) : SupervisorOnly (.tlbinv m a b)
  | tlbsync (m : Bool) : SupervisorOnly (.tlbsync m)
  | ctxsave (m : Bool) (d a b : Reg) : SupervisorOnly (.ctxsave m d a b)
  | ctxrest (m : Bool) (d a b : Reg) : SupervisorOnly (.ctxrest m d a b)
  | jen (m : Bool) (a : Reg) : SupervisorOnly (.jen m a)
  | jdis (m : Bool) (a : Reg) : SupervisorOnly (.jdis m a)
  | planLd (m : Bool) (d a : Reg) (g : BitVec 3) : SupervisorOnly (.planLd m d a g)
  | planGoStart (m : Bool) (d a b : Reg) : SupervisorOnly (.planGoStart m d a b)
  | planGoDrainFinish (m : Bool) (d a b : Reg) : SupervisorOnly (.planGoDrainFinish m d a b)
  | planGoDrainDiscard (m : Bool) (d a b : Reg) : SupervisorOnly (.planGoDrainDiscard m d a b)
  | planGoRemove (m : Bool) (d a b : Reg) : SupervisorOnly (.planGoRemove m d a b)

/-- k registers from d. -/
def regsFrom (d : Reg) (k : Nat) : List Reg := (List.range k).map fun j => d + BitVec.ofNat 7 j

/-- The instructions of the lane set, with the vector registers each names. -/
inductive LaneInstr : Instr → List Reg → Prop where
  | table (i : Instr) (m : Bool) (rs : List Reg) (d : Reg) (f : Group → Nat → Word) : LaneTable i m rs d f → LaneInstr i rs
  | move (i : Instr) (m : Bool) (rs : List Reg) (d : Reg) (f : Group → Nat → Word) : LaneMove i m rs d f → LaneInstr i rs
  | class (i : Instr) (m : Bool) (rs : List Reg) (d : Reg) (f : Group → Nat → Word) : LaneClass i m rs d f → LaneInstr i rs
  | float (i : Instr) (m : Bool) (rs : List Reg) (d : Reg) (f : Group → Nat → Word × Flags) : LaneFloat i m rs d f → LaneInstr i rs
  | convert (i : Instr) (m : Bool) (d a c : Reg) (sat : Bool) : StochasticConvert i m d a c sat → LaneInstr i [d, a]
  | compare (i : Instr) (m : Bool) (rs : List Reg) (d : Reg) (f : Group → Nat → Bool) : LaneCompare i m rs d f → LaneInstr i rs
  | floatCompare (i : Instr) (m : Bool) (rs : List Reg) (d : Reg) (p : Bool) (f : Group → Nat → Nat → Bool × Flags) :
      FloatCompare i m rs d p f → LaneInstr i rs
  | vote (i : Instr) (m : Bool) (rs : List Reg) (d : Reg) (f : Group → Dword) : Vote i m rs d f → LaneInstr i rs
  | special (i : Instr) (m : Bool) (rs : List Reg) (d : Reg) (f : Group → Nat → Word × Flags) :
      SpecialFunction i m rs d f → LaneInstr i rs
  | shuffle (i : Instr) (m : Bool) (rs : List Reg) (d : Reg) (f : Group → Nat → Word) : Shuffle i m rs d f → LaneInstr i rs
  | extract (m : Bool) (d a b : Reg) : LaneInstr (.vext m d a b) [a]
  | combine (i : Instr) (m : Bool) (d a : Reg) (scan : Bool) (op : RedOp) : Combine i m d a scan op → LaneInstr i [d, a]
  | load (i : Instr) (m : Bool) (d a : Reg) (g : BitVec 3) (z : Size) (e : BitVec 4) (sg : Bool) : LaneLoad i m d a g z e sg →
      LaneInstr i (a :: regsFrom d (vregs z.bytes))
  | store (m : Bool) (d a : Reg) (g : BitVec 3) (z : Size) (e : BitVec 4) :
      LaneInstr (.vst m d a g z e) (a :: regsFrom d (vregs z.bytes))
  | atomic (i : Instr) (m : Bool) (d a : Reg) (g : BitVec 3) (z : Size) (op : AtomOp) (ret : Bool) : LaneAtomic i m d a g z op ret →
      LaneInstr i (a :: regsFrom d (vregs z.bytes * (if op = .cas then 2 else 1)))
  | quantise (i : Instr) (m : Bool) (d a : Reg) (fn : Nat) : Quantise i m d a fn → LaneInstr i [d, a]
  | pop (m : Bool) (d : Reg) : LaneInstr (.vpopa m d) [d]

/-- A lane load, store, atomic or reduction whose registers are in order, and what the check of thread t's access answers (R145,
R146, R191). -/
inductive LaneAccess (s : State) : Instr → (Nat → Except TrapInfo (List Piece)) → Prop where
  | load (i : Instr) (m : Bool) (d a : Reg) (g : BitVec 3) (z : Size) (e : BitVec 4) (sg : Bool) : LaneLoad i m d a g z e sg →
      LaneReady s [a] → DatumReady s d z.bytes →
      LaneAccess s i fun t =>
        s.checkAccess s.cur (s.asker s.me) g.toNat (segOf s g) { r := true } (some t) (laneOff s a t z.bytes e) z.bytes
  | store (m : Bool) (d a : Reg) (g : BitVec 3) (z : Size) (e : BitVec 4) : LaneReady s [a] → DatumReady s d z.bytes →
      LaneAccess s (.vst m d a g z e) fun t =>
        s.checkAccess s.cur (s.asker s.me) g.toNat (segOf s g) { w := true } (some t) (laneOff s a t z.bytes e) z.bytes
  | atomic (i : Instr) (m : Bool) (d a : Reg) (g : BitVec 3) (z : Size) (op : AtomOp) (ret : Bool) : LaneAtomic i m d a g z op ret →
      LaneReady s [a] → AtomReady s op d a z.bytes → (z = .b4 ∨ z = .b8) → ((segOf s g).space = 0 → z = .b4) →
      LaneAccess s i fun t =>
        if (s.me.getV a.toNat t).toNat % z.bytes = 0 then
          s.checkAccess s.cur (s.asker s.me) g.toNat (segOf s g) { r := ret, w := true, atomic := true } (some t)
            (un (s.me.getV a.toNat t)) z.bytes
        else .error { kind := 1, thread := some t, seg := some g.toNat, offset := (s.me.getV a.toNat t).toNat }

/-- As `WritesLanes`, and the flags h t are raised in every active thread t; no inactive thread's flag changes (R94, R105). -/
def WritesFloat (i : Instr) (m : Bool) (s : State) (d : Nat) (f : Nat → Word) (h : Nat → Flags) : Prop :=
  ∃ g, exec i s = .next (finished s m (s.me.pc + 4) g) ∧ g = { s.me with v := g.v, ff := g.ff }
    ∧ (∀ r t, t < 64 → g.getV r t = if r = d ∧ s.me.xm.getLsbD t = true then f t else s.me.getV r t)
    ∧ FlagsRaised s.me.xm s.me.ff g.ff h
    ∧ ∀ a, (finished s m (s.me.pc + 4) g).byte a = s.byte a

/-- The instruction has issued; S(r) holds v r for every r where v r is given, and the flags h t are raised in every active
thread t; nothing else has changed but what `finished` says. -/
def WritesMasks (i : Instr) (m : Bool) (s : State) (v : Nat → Option Dword) (h : Nat → Flags) : Prop :=
  ∃ g, exec i s = .next (finished s m (s.me.pc + 4) g) ∧ g = { s.me with s := g.s, ff := g.ff }
    ∧ (∀ r, g.getS r = (v r).getD (s.me.getS r))
    ∧ FlagsRaised s.me.xm s.me.ff g.ff h
    ∧ ∀ a, (finished s m (s.me.pc + 4) g).byte a = s.byte a

/-- One step of a generator: three shifts (R131). -/
def stepped (g : Word) : Word :=
  let x := g ^^^ (g <<< 13)
  let y := x ^^^ (x >>> 17)
  y ^^^ (y <<< 5)

/-- G[t] of a group (R131); seeded from 0 where nothing has been written. -/
def generator (g : Group) (t : Nat) : Word :=
  g.gen.getD t (let x : Word := BitVec.ofNat 32 ((t + 1) * 0x9E3779B9); if x = 0 then 1 else x)

end Sys2Proof.Rules
end

