-- ==== Sys2Proof/Rules/Checks.lean ====
section
/-!
DEFINITION. Terms of the statements: which check of an access fails, with its fault (R141, R146, R191), and the register groups
that are illegal.
-/

namespace Sys2Proof.Rules

open Sys2Proof.Machine

/-- The instruction takes the fault x at its issue, with no other effect. -/
def Traps (i : Instr) (s : State) (x : TrapInfo) : Prop := exec i s = .next (s.takeTrap s.cur (some x))

/-- Positions 0 to n of an access of n bytes at offset a, at which its pieces start and end: its own ends, the 4-byte words of a
private segment, the 16-byte sectors of the target elsewhere (R135, R167). -/
abbrev Bound (s : State) (gid : Nat) (g : Segment) (a n i : Nat) : Prop :=
  i = 0 ∨ i = n ∨ (i < n ∧ if g.space = 0 then (a + i) % 4 = 0 else s.target gid g 0 (a + i) % 16 = 0)

/-- The access has a piece from position i to position j. -/
abbrev PieceFrom (s : State) (gid : Nat) (g : Segment) (a n i j : Nat) : Prop :=
  i < j ∧ j ≤ n ∧ Bound s gid g a n i ∧ Bound s gid g a n j ∧ ∀ k < j, i < k → ¬ Bound s gid g a n k

/-- No piece of the access fails the test F of its start and its end. -/
abbrev NoPiece (s : State) (gid : Nat) (g : Segment) (a n : Nat) (F : Nat → Nat → Prop) : Prop :=
  ∀ i < n, ∀ j < n + 1, PieceFrom s gid g a n i j → ¬ F (a + i) (a + j)

/-- The piece at offset o is the lowest that fails F. -/
abbrev LowestPiece (s : State) (gid : Nat) (g : Segment) (a n : Nat) (F : Nat → Nat → Prop) (o : Nat) : Prop :=
  ∃ i < n, o = a + i ∧ (∃ j < n + 1, PieceFrom s gid g a n i j ∧ F (a + i) (a + j))
    ∧ ∀ k < i, ∀ j < n + 1, PieceFrom s gid g a n k j → ¬ F (a + k) (a + j)

/-- The translation of an address fails with this kind: the walk does (R141), the access is in a Pavilion segment and the leaf's
aperture is not Pavilion's, or the leaf's target has been declared lost (R146). -/
abbrev Untranslated (s : State) (who : Asker) (g : Segment) (va k : Nat) : Prop :=
  s.leaf? who va = .error k
    ∨ ∃ e ∈ (s.leaf? who va).toOption, (g.space = 4 ∧ leafAperture e ≠ 3 ∧ k = 5)
        ∨ (¬ (g.space = 4 ∧ leafAperture e ≠ 3) ∧ s.leafLost e = true ∧ k = 12)

/-- The leaf lacks a right that the access needs, or names an empty key: permission (R146); of an atomic, the leaf is the host's:
permission, or a peer's without RAP: the remote-atomic permit (R191). -/
abbrev Denies (s : State) (need : Need) (e k : Nat) : Prop :=
  let lacks : Prop := (need.r = true ∧ leafR e = false) ∨ (need.w = true ∧ leafW e = false) ∨ (need.x = true ∧ leafX e = false)
    ∨ (leafAperture e ≠ 4 ∧ s.hasKey 63 (leafKey e) = false)
  (lacks ∧ k = 6) ∨ (¬ lacks ∧ need.atomic = true ∧ leafAperture e = 4 ∧ k = 6)
    ∨ (¬ lacks ∧ need.atomic = true ∧ leafAperture e = 2 ∧ leafRap e = false ∧ k = 7)

/-- The leaf of a piece's address denies the access. -/
abbrev Denied (s : State) (who : Asker) (need : Need) (va k : Nat) : Prop := ∃ e ∈ (s.leaf? who va).toOption, Denies s need e k

/-- The kind and the offset of the fault that an access of n bytes at offset a of segment g raises for a thread t (R146, R191): of the
first check that some piece fails, at the lowest piece that fails it. -/
inductive AccessFault (s : State) (gid : Nat) (who : Asker) (g : Segment) (need : Need) (t : Nat) (a : Int) (n : Nat) :
    Nat → Int → Prop where
  /-- an offset below zero lies beyond every limit (R145) -/
  | negative : a < 0 → AccessFault s gid who g need t a n 4 a
  | limit (b o : Nat) : a = b → LowestPiece s gid g b n (fun _ e => g.limit < e) o → AccessFault s gid who g need t a n 4 o
  | orangery (b : Nat) : a = b → NoPiece s gid g b n (fun _ e => g.limit < e) → need.w = true → g.space = 3 →
      AccessFault s gid who g need t a n 14 a
  | permission (b : Nat) : a = b → NoPiece s gid g b n (fun _ e => g.limit < e) → ¬ (need.w = true ∧ g.space = 3) →
      ((need.r = true ∧ g.r = false) ∨ (need.w = true ∧ g.w = false)) → AccessFault s gid who g need t a n 6 a
  | translation (b o k : Nat) : a = b → NoPiece s gid g b n (fun _ e => g.limit < e) → ¬ (need.w = true ∧ g.space = 3) →
      (need.r = true → g.r = true) → (need.w = true → g.w = true) → (g.space = 0 ∨ g.space = 2 ∨ g.space = 4) →
      LowestPiece s gid g b n (fun p _ => Untranslated s who g (s.target gid g t p) 5 ∨ Untranslated s who g (s.target gid g t p) 8
        ∨ Untranslated s who g (s.target gid g t p) 12) o →
      Untranslated s who g (s.target gid g t o) k → AccessFault s gid who g need t a n k o
  | leaf (b o k : Nat) : a = b → NoPiece s gid g b n (fun _ e => g.limit < e) → ¬ (need.w = true ∧ g.space = 3) →
      (need.r = true → g.r = true) → (need.w = true → g.w = true) → (g.space = 0 ∨ g.space = 2 ∨ g.space = 4) →
      NoPiece s gid g b n (fun p _ => Untranslated s who g (s.target gid g t p) 5 ∨ Untranslated s who g (s.target gid g t p) 8
        ∨ Untranslated s who g (s.target gid g t p) 12) →
      LowestPiece s gid g b n (fun p _ => Denied s who need (s.target gid g t p) 6 ∨ Denied s who need (s.target gid g t p) 7) o →
      Denied s who need (s.target gid g t o) k → AccessFault s gid who g need t a n k o

/-- The record of that fault. -/
def faultOf (seg : Nat) (thread : Option Nat) (k : Nat) (o : Int) : TrapInfo :=
  { kind := k, thread := thread, seg := some seg, offset := (o % 2 ^ 64).toNat }

/-- An access whose register group is not aligned, or of `cas` runs out of the file, a 64-bit atomic in a private segment, and an
atomic in control space (R85, R146, R188, R191, R193, R366). -/
inductive Misnamed (s : State) : Instr → Prop where
  | laneLoad (i : Instr) (m : Bool) (d a : Reg) (g : BitVec 3) (z : Size) (e : BitVec 4) (sg : Bool) : LaneLoad i m d a g z e sg →
      d.toNat % vregs z.bytes ≠ 0 → Misnamed s i
  | laneStore (m : Bool) (d a : Reg) (g : BitVec 3) (z : Size) (e : BitVec 4) : d.toNat % vregs z.bytes ≠ 0 →
      Misnamed s (.vst m d a g z e)
  | laneAtomic (i : Instr) (m : Bool) (d a : Reg) (g : BitVec 3) (z : Size) (op : AtomOp) (ret : Bool) :
      LaneAtomic i m d a g z op ret → (z = .b8 → d.toNat % (if op = .cas then 4 else 2) ≠ 0) →
      (z = .b4 → op = .cas ∧ d.toNat = 127) → (z = .b4 ∨ z = .b8) → Misnamed s i
  | laneWide (i : Instr) (m : Bool) (d a : Reg) (g : BitVec 3) (op : AtomOp) (ret : Bool) : LaneAtomic i m d a g .b8 op ret →
      (segOf s g).space = 0 → Misnamed s i
  | scalarLoad (i : Instr) (m : Bool) (d a : Reg) (g : BitVec 3) (e : BitVec 4) (sg : Bool) : ScalarLoad i m d a g .b16 e sg →
      d.toNat % 2 = 1 → Misnamed s i
  | scalarStore (m : Bool) (d a : Reg) (g : BitVec 3) (e : BitVec 4) : d.toNat % 2 = 1 → Misnamed s (.sst m d a g .b16 e)
  | scalarAtomic (i : Instr) (m : Bool) (d a : Reg) (g : BitVec 3) (z : Size) (op : AtomOp) : ScalarAtomic i m d a g z op →
      ((op = .cas ∧ d.toNat = 127) ∨ ((segOf s g).space = 0 ∧ z = .b8) ∨ (segOf s g).space = 10 ∨ (segOf s g).space = 11) →
      Misnamed s i

/-- A leaf that a table of its level may hold: its size is the level's, its frame is a multiple of that size, and its aperture, target
and physical address are in range (R140, R141). -/
def GoodLeaf (l e : Nat) : Prop :=
  ((l = 0 ∧ leafPsize e ≤ 1) ∨ (l = 1 ∧ leafPsize e = 2) ∨ (l = 2 ∧ leafPsize e = 3))
    ∧ leafFrame e % 2 ^ (if leafPsize e = 0 then 0 else if leafPsize e = 1 then 4 else if leafPsize e = 2 then 9 else 18) = 0
    ∧ ((leafAperture e = 1 ∧ leafFrame e < 2 ^ 28) ∨ (leafAperture e = 2 ∧ leafFrame e < 2 ^ 28)
      ∨ (leafAperture e = 3 ∧ leafFrame e < 2 ^ 27 ∧ leafTarget e < 48) ∨ (leafAperture e = 4 ∧ leafTarget e = 0))

/-- The entry e, number i, of the table t at level l that a walk of va reads (R139). -/
def WalkEntry (s : State) (va l t i e : Nat) : Prop :=
  i = va / 2 ^ (12 + 9 * l) % (if l = 4 then 256 else 512) ∧ e = s.num (t + 8 * i) 8

/-- The entry can be read: its stack serves, and its bytes are correct (R156, R375). -/
def Served (s : State) (t i : Nat) : Prop := s.stackDown (t / 2 ^ 36) = false ∧ s.isBad (t + 8 * i) 8 = false

/-- A pointer with no field but V and FRAME, to a table in local HBM4E (R139, R141). -/
def GoodPointer (e : Nat) : Prop := isPointer e = true ∧ e = 1 + leafFrame e * 2 ^ 30 ∧ leafFrame e < 2 ^ 28

/-- The 16 entries of an entry's aligned block are equal to it (R139). -/
def SameBlock (s : State) (t i e : Nat) : Prop := ∀ j < 16, s.num (t + 8 * (i / 16 * 16) + 8 * j) 8 = e

/-- A walk from the table t at level l ends at the leaf e (R139 to R141). -/
inductive Walks (s : State) (va : Nat) : Nat → Nat → Nat → Prop where
  | leaf (l t i e : Nat) : WalkEntry s va l t i e → Served s t i → leafV e = true → isPointer e = false → GoodLeaf l e →
      (leafPsize e = 1 → s.isBad (t + 8 * (i / 16 * 16)) 128 = false ∧ SameBlock s t i e) → Walks s va l t e
  | pointer (l t i e x : Nat) : WalkEntry s va (l + 1) t i e → Served s t i → GoodPointer e → Walks s va l (leafFrame e * 4096) x →
      Walks s va (l + 1) t x

/-- A walk from a table at a level fails with this kind (R139, R141): its entry cannot be read (8), is no valid one, no pointer where
one is due, a pointer that is not clean, or a leaf that does not fit its level or differs from its block (5); or the table that it
points to does. -/
inductive WalkFault (s : State) (va : Nat) : Nat → Nat → Nat → Prop where
  | unread (l t i e : Nat) : WalkEntry s va l t i e → ¬ Served s t i → WalkFault s va l t 8
  | bad (l t i e : Nat) : WalkEntry s va l t i e → Served s t i →
      (leafV e = false ∨ (l = 0 ∧ isPointer e = true) ∨ (isPointer e = true ∧ ¬ GoodPointer e) ∨ (isPointer e = false ∧ ¬ GoodLeaf l e)) →
      WalkFault s va l t 5
  | block (t i e : Nat) : WalkEntry s va 0 t i e → Served s t i → leafV e = true → isPointer e = false → GoodLeaf 0 e →
      leafPsize e = 1 → s.isBad (t + 8 * (i / 16 * 16)) 128 = false → ¬ SameBlock s t i e → WalkFault s va 0 t 5
  | blockUnread (t i e : Nat) : WalkEntry s va 0 t i e → Served s t i → leafV e = true → isPointer e = false → GoodLeaf 0 e →
      leafPsize e = 1 → s.isBad (t + 8 * (i / 16 * 16)) 128 = true → WalkFault s va 0 t 8
  | pointer (l t i e k : Nat) : WalkEntry s va (l + 1) t i e → Served s t i → GoodPointer e →
      WalkFault s va l (leafFrame e * 4096) k → WalkFault s va (l + 1) t k

end Sys2Proof.Rules
end

