-- ==== Sys2Proof/Rules/EngineChecks.lean ====
section
/-!
DEFINITION. Terms of the statements: the checks of copies, pipe instructions, sends and matrix instructions at issue, each a list of
tests in the order in which they are made, a test beside the kind of its fault (R203 to R220, R237, R259, R270, R271, R284, R291,
R297).
-/

namespace Sys2Proof.Rules

open Sys2Proof.Machine

/-- A test that fails where p holds, and the kind of its fault. -/
abbrev test (p : Prop) [Decidable p] (k : Nat) : Bool × Nat := (decide p, k)

/-- The kind of the first test of a list that fails. -/
def firstKind (l : List (Bool × Nat)) : Option Nat := (l.find? fun x => x.1).map fun x => x.2

/-- The instruction takes a precise fault of this kind, resuming at itself; u is the machine with its group's own earlier accesses
performed. -/
def FaultsWith (i : Instr) (s u : State) (k : Nat) : Prop :=
  ∃ x : TrapInfo, x.kind = k ∧ x.late = false ∧ x.fetch = false ∧ x.src = 0 ∧ x.resume = none
    ∧ exec i s = .next (u.takeTrap u.cur (some x))

/-! Address records (R203 to R206). -/

/-- The fields of the record at a team offset (R203). -/
structure RecordAt (s : State) (off : Nat) (r : Rec) : Prop where
  base : r.base = s.num (s.teamAddr off) 7
  pitch : r.pitch = s.num (s.teamAddr off + 8) 4
  rows : r.rows = s.num (s.teamAddr off + 12) 2
  cols : r.cols = s.num (s.teamAddr off + 14) 2
  fmt : r.fmt = s.num (s.teamAddr off + 16) 1 % 2 ^ 4
  swz : r.swz = s.num (s.teamAddr off + 16) 1 / 2 ^ 4
  seg : r.seg = s.num (s.teamAddr off + 17) 1 % 2 ^ 3
  space : r.space = s.num (s.teamAddr off + 17) 1 / 2 ^ 3 % 2 ^ 3
  kind : r.kind = s.num (s.teamAddr off + 17) 1 / 2 ^ 6
  seq : r.seq = s.num (s.teamAddr off + 24) 4
  pipe : r.pipe = s.num (s.teamAddr off + 28) 1 % 2 ^ 6
  dir : r.dir = true ↔ s.num (s.teamAddr off + 28) 1 / 2 ^ 7 = 1
  cursor : r.cursor = s.num (s.teamAddr off + 29) 1 % 2 ^ 2
  reserved : r.reserved = true ↔ s.num (s.teamAddr off + 7) 1 ≠ 0 ∨ s.num (s.teamAddr off + 18) 6 ≠ 0
    ∨ s.num (s.teamAddr off + 28) 1 / 2 ^ 6 % 2 ≠ 0 ∨ s.num (s.teamAddr off + 29) 3 / 2 ^ 2 ≠ 0

/-- Twice the element size of each format code from 0 to 13, and the row bytes (R204). -/
abbrev halves (fmt : Nat) : Nat := ([2, 4, 8, 16, 1, 2, 2, 2, 4, 4, 8, 2, 4, 8] : List Nat).getD fmt 1
abbrev rowBytes (r : Rec) : Nat := r.cols * halves r.fmt / 2

/-- A record that passes step 3 of R209: no reserved field of its KIND set, and every code, size and swizzle legal (R203 to R205). -/
abbrev GoodRecord (r : Rec) : Prop :=
  r.reserved = false ∧ r.kind ≤ 1 ∧ r.fmt ≤ 13 ∧ r.swz ≤ 3 ∧ 0 < r.rows ∧ 0 < r.cols ∧ (r.fmt = 4 → r.cols % 2 = 0)
    ∧ (r.swz ≠ 0 → r.space = 1 ∧ rowBytes r % (16 * 2 ^ r.swz) = 0 ∧ r.base % (16 * 2 ^ r.swz) = 0 ∧ r.pitch % (16 * 2 ^ r.swz) = 0)
    ∧ (r.kind = 0 → r.cursor = 0 ∧ r.dir = false ∧ r.pipe = 0 ∧ r.seq = 0)
    ∧ (r.kind = 1 → r.base = 0 ∧ r.space = 0 ∧ r.seg = 0 ∧ (r.dir = false → r.cursor = 0))

/-- Steps 1 to 3 of R209 over records and objects. Uncorrectable bytes among them stand between steps 2 and 3 (log 88). -/
def recordChecks (s : State) (offs objs : List Nat) : List (Bool × Nat) :=
  [test ((∃ o ∈ offs, o % 32 ≠ 0) ∨ ∃ o ∈ objs, o % 8 ≠ 0) 1,
   test ((∃ o ∈ offs, s.myTask.scratchSize < o + 32) ∨ ∃ o ∈ objs, s.myTask.scratchSize < o + 8) 4,
   test ((∃ o ∈ offs, s.isBad (s.teamAddr o) 32 = true) ∨ ∃ o ∈ objs, s.isBad (s.teamAddr o) 8 = true) 8,
   test ((∃ o ∈ offs, ¬ GoodRecord (s.recAt o)) ∨ ∃ o ∈ objs, 2 ^ 33 ≤ s.num (s.teamAddr o) 8) 1]

/-- The segment that a KIND 0 record names. -/
abbrev recSeg (s : State) (r : Rec) : Segment := s.me.segs.getD r.seg {}

/-- Step 4 of R209. -/
abbrev GoodSpace (s : State) (r : Rec) : Prop := r.kind = 0 → r.space = (recSeg s r).space ∧ r.space ≠ 0

/-- Two records of one shape and of types that may meet (R210). -/
abbrev Compatible (d r : Rec) : Prop :=
  d.rows = r.rows ∧ rowBytes d = rowBytes r ∧ halves d.fmt = halves r.fmt ∧ (d.fmt = r.fmt ∨ d.fmt ≤ 3 ∨ r.fmt ≤ 3)

/-- A byte of a record's rows in the Orangery of the issuing group's die that R136 shuts to a copy: every byte in user mode, and one
that a segment of a resident stage of the die covers. -/
abbrev OrangeryShut (s : State) (r : Rec) : Prop :=
  s.me.mode = .user ∨ ∃ i ∈ List.range r.rows, ∃ p ∈ s.plans, ∃ st ∈ p.2.stages,
    s.residentStage p.2 st (dieOfGid s.cur) = true ∧ ∃ x ∈ st.segs, x.space = 3
      ∧ x.base < (recSeg s r).base + r.base + i * r.pitch + rowBytes r ∧ (recSeg s r).base + r.base + i * r.pitch < x.base + x.limit

/-- Step 6 of R209 on a record: the limit, then for a destination the Orangery or W, for a source R. -/
def segmentChecks (s : State) (dst : Bool) (r : Rec) : List (Bool × Nat) :=
  if r.kind ≠ 0 then []
  else [test ((recSeg s r).limit < r.base + (r.rows - 1) * r.pitch + rowBytes r) 4,
    test (dst = true ∧ (recSeg s r).space = 3 ∧ OrangeryShut s r) 14,
    test ((dst = true ∧ (recSeg s r).space ≠ 3 ∧ (recSeg s r).w = false) ∨ (dst = false ∧ (recSeg s r).r = false)) 6]

/-- Step 7 of R209 on a record: its pipe, its direction, the stage's part in the pipe, and the pipe's own shape (log 12). -/
def slotChecks (s : State) (dst : Bool) (r : Rec) : List (Bool × Nat) :=
  if r.kind = 0 then []
  else match s.pipes.get? (s.me.plan * 64 + r.pipe) with
    | none => [test True 1]
    | some p =>
      [test (r.dir = dst ∨ (r.dir = false ∧ p.producer ≠ s.myTask.stage) ∨ (r.dir = true ∧ p.consumers[r.cursor]? ≠ some s.myTask.stage)
        ∨ r.fmt ≠ p.fmt ∨ r.rows ≠ p.rows ∨ r.cols ≠ p.cols) 10]

/-- The checks of a copy between the records at two team offsets, with what else step 5 tests (R209, R210). The size is that of the
source (log 90). -/
def copyChecks (s : State) (dst src : Nat) (obj : Option Nat) (more : List (Bool × Nat)) : List (Bool × Nat) :=
  let d := s.recAt dst
  let r := s.recAt src
  recordChecks s [dst, src] obj.toList ++ [test (¬ GoodSpace s d ∨ ¬ GoodSpace s r) 1] ++ more
    ++ [test (2 ^ 24 < r.rows * rowBytes r ∨ (1 < d.rows ∧ d.pitch < rowBytes d) ∨ (d.kind = 1 ∧ r.kind = 1)) 1,
        test (¬ Compatible d r) (if d.kind = 1 ∨ r.kind = 1 then 10 else 1)]
    ++ segmentChecks s true d ++ segmentChecks s false r ++ slotChecks s true d ++ slotChecks s false r

/-- The tests that a group's copy instruction fails at issue: on `cpy`, `cpy.row`, `cpy.mc`, `mcready`, `qfence` and `kwait.obj`. -/
inductive CopyFault : Instr → State → State → Nat → Prop where
  | cpy (s u : State) (m : Bool) (q : BitVec 2) (k : BitVec 3) (a b c : Reg) (n : Nat) : Issuing s → Settles s u →
      s.me.mode ≠ .control → MayEnter u q.toNat k.toNat →
      firstKind (copyChecks u (sReg u a) (sReg u b) (objectOf u c) []) = some n → CopyFault (.cpy m q k a b c) s u n
  /-- R220: the source is a KIND 0 record of the global space, and no stream of another group is open on the queue -/
  | cpyRow (s u : State) (m : Bool) (k : BitVec 3) (a b : Reg) (q : BitVec 2) (n : Nat) : Issuing s → Settles s u →
      s.me.mode ≠ .control → MayEnter u q.toNat k.toNat →
      firstKind (copyChecks u (sReg u a) (sReg u b) none
        [test ((u.recAt (sReg u b)).kind ≠ 0 ∨ (u.recAt (sReg u b)).space ≠ 2) 1,
         test (((u.core (myCore u)).streams.get? q.toNat).any fun x => decide (x.owner ≠ u.cur)) 1]) = some n →
      CopyFault (.cpyRow m k a b q) s u n
  /-- R217, R219: the tests of S(sa) stand first (log 91) -/
  | cpyMc (s u : State) (m : Bool) (q : BitVec 2) (k : BitVec 3) (a b c : Reg) (r : Rec) (n : Nat) : Issuing s → Settles s u →
      s.me.mode ≠ .control → MayEnter u q.toNat k.toNat → r = u.recAt (sReg u b) →
      firstKind ([test (2 ^ 12 ≤ sReg u a ∨ sReg u a % 2 ^ 8 = 0 ∨ (sReg u a).testBit (myCore u % 8) = true) 1]
        ++ recordChecks u [sReg u b] (objectOf u c).toList ++ [test (¬ GoodSpace u r ∨ 2 ^ 24 < r.rows * rowBytes r) 1]
        ++ segmentChecks u false r ++ slotChecks u false r) = some n → CopyFault (.cpyMc m q k a b c) s u n
  /-- R216, R219: the tests of the channel stand first (log 91) -/
  | mcready (s u : State) (m : Bool) (d a b : Reg) (r : Rec) (n : Nat) : Issuing s → Settles s u → s.me.mode ≠ .control →
      r = u.recAt (sReg u a) →
      firstKind ([test (16 ≤ sReg u d ∨ ((u.core (myCore u)).ready.get? (sReg u d)).isSome = true) 1]
        ++ recordChecks u [sReg u a] (objectOf u b).toList
        ++ [test (r.kind ≠ 0 ∨ r.space ≠ 1 ∨ ¬ GoodSpace u r ∨ 2 ^ 24 < r.rows * rowBytes r ∨ (1 < r.rows ∧ r.pitch < rowBytes r)) 1]
        ++ segmentChecks u true r) = some n → CopyFault (.mcready m d a b) s u n
  /-- R215: a mask that names no queue -/
  | qfence (s u : State) (m : Bool) (k : BitVec 3) : Issuing s → Settles s u → s.me.mode ≠ .control →
      CopyFault (.qfence m k 0) s u 1
  /-- R214: the tests of the space and the alignment stand first (log 91), those of the object's bytes last (log 88) -/
  | object (s u : State) (m : Bool) (d a : Reg) (g : BitVec 3) (x n : Nat) : Issuing s → HasRoom s → Settles s u →
      s.me.mode ≠ .control → x = u.target u.cur (segOf u g) 0 (sReg u a) →
      firstKind [test ((segOf u g).space ≠ 1 ∨ sReg u a % 8 ≠ 0) 1, test ((segOf u g).limit < sReg u a + 8) 4, test ((segOf u g).r = false) 6,
        test (u.isBad x 8 = true) 8, test (2 ^ 33 ≤ u.num x 8) 1] = some n → CopyFault (.kwaitObj m d a g) s u n

/-- R213: the lowest token of a mask whose fault slot is full, when every token of it is complete; the slot is emptied by the trap's
entry. -/
structure TokenFaulted (u : State) (mask : BitVec 8) (n : Nat) (f : TokenFault) : Prop where
  done : TokensDone u mask
  here : n < 8 ∧ mask.getLsbD n = true ∧ (u.me.token n).fault = some f
  lowest : ∀ k, k < n → mask.getLsbD k = true → (u.me.token k).fault = none

/-! Pipes and sends (R230 to R237, R259). -/

/-- The tests of S(sa) of `preserve`, `pclaim` and `pquery`, and a lost home (R230, R237). -/
def selectChecks (s : State) (a : Reg) : List (Bool × Nat) :=
  test (sReg s a / 2 ^ 6 % 2 ^ 2 ≠ 0 ∨ 2 ^ 10 ≤ sReg s a) 1 :: match s.pipes.get? (s.me.plan * 64 + sReg s a % 64) with
    | none => [test True 1]
    | some p => [test (s.homeLost p = true) 12]

/-- The tests of the record's place at S(sb) (R230). -/
def placeChecks (s : State) (b : Reg) : List (Bool × Nat) :=
  [test (sReg s b % 32 ≠ 0) 1, test (s.myTask.scratchSize < sReg s b + 32) 4]

/-- The tests of the record at S(sb) of `pcommit` and `prelease`, whose DIR is given (R232, R234, R237; log 61). -/
def slotRecordChecks (s : State) (b : Reg) (dir : Bool) : List (Bool × Nat) :=
  let r := s.recAt (sReg s b)
  placeChecks s b ++ [test (s.isBad (s.teamAddr (sReg s b)) 32 = true) 8,
      test (¬ (r.reserved = false ∧ r.kind = 1 ∧ r.base = 0 ∧ r.space = 0 ∧ r.seg = 0 ∧ (r.dir = false → r.cursor = 0))) 1,
      test (r.dir ≠ dir) 10]
    ++ match s.pipes.get? (s.me.plan * 64 + r.pipe) with
      | none => [test True 1]
      | some p => [test (s.homeLost p = true) 12]

/-- The tests of a pipe that S(sa) selects. -/
def selected (s : State) (a : Reg) (f : Pipe → List (Bool × Nat)) : List (Bool × Nat) :=
  ((s.pipes.get? (s.me.plan * 64 + sReg s a % 64)).toList).flatMap f

/-- The faults of the pipe instructions (R230 to R237); their order is the model's (log 91). v is the machine once the home has
answered. -/
inductive PipeFault : Instr → State → State → Nat → Prop where
  | preserve (s u : State) (m : Bool) (d a b : Reg) (n : Nat) : Issuing s → HasRoom s → Settles s u → s.me.mode ≠ .control →
      firstKind (selectChecks u a ++ placeChecks u b ++ selected u a fun p =>
        [test (p.producer ≠ u.myTask.stage) 10, test ((u.plan? u.me.plan).any fun x => decide (x.state = .draining)) 6]) = some n →
      PipeFault (.preserve m d a b) s u n
  | pclaim (s u : State) (m : Bool) (d a b : Reg) (n : Nat) : Issuing s → HasRoom s → Settles s u → s.me.mode ≠ .control →
      firstKind (selectChecks u a ++ placeChecks u b ++ selected u a fun p =>
        [test (p.consumers[sReg u a / 2 ^ 8 % 2 ^ 2]? ≠ some u.myTask.stage) 10]) = some n →
      PipeFault (.pclaim m d a b) s u n
  | pquery (s u : State) (m : Bool) (d a : Reg) (n : Nat) : Issuing s → HasRoom s → Settles s u → s.me.mode ≠ .control →
      firstKind (selectChecks u a ++ selected u a fun p => [test (p.consumers.length ≤ sReg u a / 2 ^ 8 % 2 ^ 2) 10]) = some n →
      PipeFault (.pquery m d a) s u n
  | pcommit (s u : State) (m : Bool) (b : Reg) (n : Nat) : Issuing s → Settles s u → s.me.mode ≠ .control →
      firstKind (slotRecordChecks u b false) = some n → PipeFault (.pcommit m b) s u n
  | prelease (s u : State) (m : Bool) (b : Reg) (n : Nat) : Issuing s → Settles s u → s.me.mode ≠ .control →
      firstKind (slotRecordChecks u b true) = some n → PipeFault (.prelease m b) s u n
  /-- a slot that is not live, or not the task's: a pipe-sequence fault -/
  | commitSequence (s u v : State) (m : Bool) (b : Reg) (r : Rec) (p : Pipe) : Issuing s → Settles s u → s.me.mode ≠ .control →
      firstKind (slotRecordChecks u b false) = none → r = u.recAt (sReg u b) →
      u.pipes.get? (u.me.plan * 64 + r.pipe) = some p → Reaches u v p →
      (∀ x, p.slot? r.seq = some x → ¬ (x.2.st = .reserved ∧ x.2.owner = u.me.task)) → PipeFault (.pcommit m b) s v 11
  | releaseSequence (s u v : State) (m : Bool) (b : Reg) (r : Rec) (p : Pipe) : Issuing s → Settles s u → s.me.mode ≠ .control →
      firstKind (slotRecordChecks u b true) = none → r = u.recAt (sReg u b) →
      u.pipes.get? (u.me.plan * 64 + r.pipe) = some p → Reaches u v p →
      (∀ x, p.slot? r.seq = some x → x.2.cs[r.cursor]? ≠ some (.claimed u.me.task)) → PipeFault (.prelease m b) s v 11

/-- A port-id operand with a reserved bit set (R240, R259). -/
abbrev BadPortId (s : State) (a : Reg) : Prop :=
  2 ^ 48 ≤ sReg s a ∨ 2 ^ 30 ≤ sReg s a % 2 ^ 32 ∨ sReg s a / 2 ^ 13 % 2 ^ 6 ≠ 0

/-- The illegal operands of the send instructions, of `jen` and of `jdis` (R35, R259, R261, R262). -/
inductive JoinFault : Instr → State → State → Prop where
  | send (s u : State) (m : Bool) (a b : Reg) : Issuing s → Settles s u → (b = 127 ∨ BadPortId u a) → JoinFault (.send m a b) s u
  | sendw (s u : State) (m : Bool) (d a b : Reg) : Issuing s → HasRoom s → Settles s u → (b = 127 ∨ BadPortId u a) →
      JoinFault (.sendw m d a b) s u
  | pportq (s : State) (m : Bool) (d a : Reg) : Issuing s → BadPortId s a → JoinFault (.pportq m d a) s s
  | jen (s u : State) (m : Bool) (a : Reg) : Issuing s → Settles s u → s.me.mode ≠ .user →
      (2 ^ 13 ≤ sReg u a ∨ u.patterns.has (sReg u a) = false) → JoinFault (.jen m a) s u
  | jdis (s u : State) (m : Bool) (a : Reg) : Issuing s → Settles s u → s.me.mode ≠ .user →
      (2 ^ 13 ≤ sReg u a ∨ u.patterns.has (sReg u a) = false) → JoinFault (.jdis m a) s u

/-! The matrix unit (R270, R271, R284, R291, R297). -/

/-- Bytes 8i to 8i + 7 of a format block give this half; `pitch` is its plane's (R270). -/
structure HalfAt (s : State) (off i : Nat) (f : OperandFmt) : Prop where
  fmt : f.fmt = s.num (s.teamAddr off + 8 * i) 1 % 2 ^ 4
  tscale : f.tscale = s.num (s.teamAddr off + 8 * i + 1) 1
  smode : f.smode = s.num (s.teamAddr off + 8 * i + 2) 1 % 2 ^ 2
  sseg : f.sseg = s.num (s.teamAddr off + 8 * i + 2) 1 / 2 ^ 5
  soff : f.soff = s.num (s.teamAddr off + 8 * i + 3) 5
  pitch : f.pitch = s.num (s.teamAddr off + 20 + 2 * i) 2

/-- The format block at a team offset (R270). -/
structure BlockAt (s : State) (off : Nat) (fb : FormatBlock) : Prop where
  a : HalfAt s off 0 fb.a
  b : HalfAt s off 1 fb.b
  mdrec : fb.mdrec = s.num (s.teamAddr off + 16) 3 % 2 ^ 19
  half : fb.half = s.num (s.teamAddr off) 8
  reserved : fb.reserved = true ↔ s.num (s.teamAddr off) 1 / 2 ^ 4 ≠ 0 ∨ s.num (s.teamAddr off + 2) 1 / 2 ^ 2 % 2 ^ 3 ≠ 0
    ∨ s.num (s.teamAddr off + 8) 1 / 2 ^ 4 ≠ 0 ∨ s.num (s.teamAddr off + 10) 1 / 2 ^ 2 % 2 ^ 3 ≠ 0
    ∨ s.num (s.teamAddr off + 18) 2 / 2 ^ 3 ≠ 0 ∨ s.num (s.teamAddr off + 24) 8 ≠ 0

/-- The block as the machine reads it. -/
def blockOf (s : State) (off : Nat) : FormatBlock :=
  formatBlock (s.num (s.teamAddr off) 8) (s.num (s.teamAddr off + 8) 8) (s.num (s.teamAddr off + 16) 8) (s.num (s.teamAddr off + 24) 8)

/-- The segment of an operand's scale plane, the size of its entries, its packed pitch for K elements, and its pitch (R269, R270). -/
abbrev planeOf (s : State) (f : OperandFmt) : Segment := s.me.segs.getD f.sseg {}
abbrev entryBytes (f : OperandFmt) : Nat := if f.fmt = 4 then 2 else 1
abbrev packedPitch (f : OperandFmt) (k : Nat) : Nat := k / 32 * entryBytes f
abbrev planePitch (f : OperandFmt) (k : Nat) : Nat := if f.pitch = 0 then packedPitch f k else f.pitch

/-- A half of a block that satisfies R271, K apart. -/
abbrev GoodHalf (s : State) (f : OperandFmt) : Prop :=
  (f.fmt = 4 → f.smode = 1) ∧ (f.fmt = 5 ∨ f.fmt = 6 → f.smode ≤ 2) ∧ (f.fmt = 8 ∨ f.fmt = 9 → f.smode = 0)
    ∧ (f.smode ≠ 1 → f.soff = 0 ∧ f.sseg = 0 ∧ f.pitch = 0) ∧ (f.smode ≠ 2 → f.tscale = 0)
    ∧ (f.smode = 1 → f.soff % entryBytes f = 0 ∧ f.pitch % entryBytes f = 0 ∧ 1 ≤ (planeOf s f).space ∧ (planeOf s f).space ≤ 3)

/-- The element formats of a block are of one class (R271). -/
abbrev OneClass (x y : Nat) : Prop :=
  (x = 8 ∧ y = 8) ∨ (x = 9 ∧ y = 9) ∨ ((x = 5 ∨ x = 6) ∧ (y = 5 ∨ y = 6)) ∨ (x = 4 ∧ y = 4)

/-- The tests of a format block that need no K (R271); those of its bytes as log 88 has it. -/
def blockChecks (s : State) (off : Nat) : List (Bool × Nat) :=
  [test (off % 32 ≠ 0) 1, test (s.myTask.scratchSize < off + 32) 4, test (s.isBad (s.teamAddr off) 32 = true) 8,
   test ((blockOf s off).reserved = true) 1, test (¬ OneClass (blockOf s off).a.fmt (blockOf s off).b.fmt) 1,
   test (¬ GoodHalf s (blockOf s off).a) 1, test (¬ GoodHalf s (blockOf s off).b) 1]

/-- A plane whose nonzero pitch is below the packed one, one of rows rows beyond its segment's limit, and one that may not be read
(R270, R271). -/
abbrev ShortPitch (f : OperandFmt) (k : Nat) : Prop := f.smode = 1 ∧ f.pitch ≠ 0 ∧ f.pitch < packedPitch f k
abbrev PlaneBeyond (s : State) (f : OperandFmt) (rows k : Nat) : Prop :=
  f.smode = 1 ∧ (planeOf s f).limit < f.soff + (rows - 1) * planePitch f k + packedPitch f k
abbrev PlaneDenied (s : State) (f : OperandFmt) : Prop := f.smode = 1 ∧ (planeOf s f).r = false

/-- A record's format meets the block's: equal, or raw of its size (R271). -/
abbrev FmtMeets (r : Rec) (fmt : Nat) : Prop :=
  r.fmt = fmt ∨ ((fmt = 8 ∨ fmt = 9) ∧ r.fmt = 1) ∨ ((fmt = 5 ∨ fmt = 6) ∧ r.fmt = 0)

/-- The fault of reading the byte at a virtual address: of its translation, or the page's (R141, R146). -/
def pageFault (s : State) (va : Nat) : Option Nat :=
  match s.leaf? (s.asker s.me) va with
  | .error k => some k
  | .ok e =>
    if s.leafLost e then some 12
    else if leafR e = false ∨ (leafAperture e ≠ 4 ∧ s.hasKey 63 (leafKey e) = false) then some 6 else none

/-- Addresses of rows of n bytes, a pitch apart, that meet every page the rows meet. -/
def rowPlaces (base pitch rows n : Nat) : List Nat :=
  (List.range rows).flatMap fun i => (rowSpots n).map fun o => base + i * pitch + o

/-- The translation of what lies in global space: rows of n bytes from an offset of a segment. -/
def pageChecks (s : State) (g : Segment) (off pitch rows n : Nat) : List (Bool × Nat) :=
  if g.space ≠ 2 then [] else (rowPlaces (g.base + off) pitch rows n).map fun va => ((pageFault s va).isSome, (pageFault s va).getD 0)

/-- The same of a KIND 0 record and of a scale plane. -/
def recPages (s : State) (r : Rec) : List (Bool × Nat) :=
  if r.kind ≠ 0 then [] else pageChecks s (recSeg s r) r.base r.pitch r.rows (rowBytes r)
def planePages (s : State) (f : OperandFmt) (rows k : Nat) : List (Bool × Nat) :=
  if f.smode ≠ 1 then [] else pageChecks s (planeOf s f) f.soff (planePitch f k) rows (packedPitch f k)

/-- K of `mma` (R282): 64 for FP16 and BF16, 128 for FP8, 256 for E2M1X. -/
abbrev denseDepth (fmt : Nat) : Nat := if fmt = 4 then 256 else if fmt = 5 ∨ fmt = 6 then 128 else 64

/-- The shape of the record of a sparse operand's metadata (R287). -/
abbrev MetaShape (s : State) (r : Rec) (k : Nat) : Prop :=
  r.kind = 0 ∧ r.space = 1 ∧ GoodSpace s r ∧ r.fmt = 0 ∧ r.rows = 64 ∧ r.cols = k / 8 ∧ r.swz = 0 ∧ r.base % 128 = 0 ∧ r.pitch % 16 = 0
    ∧ r.cols ≤ r.pitch

/-- The checks of `mma` and `mma.sp` in the order of R284. -/
def multiplyChecks (s : State) (sparse : Bool) (a b c : Reg) : List (Bool × Nat) :=
  let fb := blockOf s (sReg s a)
  let n := denseDepth fb.a.fmt
  let k := if sparse then 2 * n else n
  let rA := s.recAt (sReg s b)
  let rB := s.recAt (sReg s c)
  let rM := s.recAt fb.mdrec
  let latched := decide (b = 0)
  let useMeta := sparse && !latched
  let recs : List Rec := (if latched then [] else [rA]) ++ [rB] ++ (if useMeta then [rM] else [])
  [test (s.me.xm ≠ BitVec.allOnes 64) 3] ++ blockChecks s (sReg s a)
    ++ [test (ShortPitch fb.a k ∨ ShortPitch fb.b k) 1, test (PlaneBeyond s fb.a 64 k ∨ PlaneBeyond s fb.b 64 k) 4,
        test (PlaneDenied s fb.a ∨ PlaneDenied s fb.b) 6, test (if sparse then fb.mdrec % 32 ≠ 0 else fb.mdrec ≠ 0) 1]
    ++ recordChecks s ((if latched then [] else [sReg s b]) ++ [sReg s c] ++ (if useMeta then [fb.mdrec] else [])) []
    ++ [test (latched = false ∧ ¬ (rA.rows = 64 ∧ rA.cols = n ∧ FmtMeets rA fb.a.fmt
          ∧ ((rA.kind = 1 ∧ rA.dir = true) ∨ (rA.kind = 0 ∧ GoodSpace s rA ∧ (rA.space = 1 ∨ rA.space = 2))))) 1,
        test (¬ (rB.rows = 64 ∧ rB.cols = k ∧ FmtMeets rB fb.b.fmt ∧ rB.kind = 0 ∧ GoodSpace s rB ∧ 1 ≤ rB.space ∧ rB.space ≤ 3)) 1,
        test (useMeta = true ∧ ¬ MetaShape s rM k) 1,
        test (latched = true ∧ !(s.myTask.latch.any fun l => l.sparse == sparse && l.half == fb.half)) 1]
    ++ (if latched then [] else slotChecks s false rA) ++ recs.flatMap (segmentChecks s false)
    ++ (if latched then [] else recPages s rA) ++ recPages s rB ++ (if latched then [] else planePages s fb.a 64 k)
    ++ planePages s fb.b 64 k

/-- The checks of a tile move (R291). -/
def tileChecks (s : State) (a : Reg) (dst : Bool) (obj : Option Nat) : List (Bool × Nat) :=
  let r := s.recAt (sReg s a)
  recordChecks s [sReg s a] obj.toList
    ++ [test (¬ (r.kind = 0 ∧ r.space = 1 ∧ GoodSpace s r ∧ (r.fmt = 10 ∨ r.fmt = 2) ∧ r.rows = 64 ∧ r.cols = 64 ∧ 256 ≤ r.pitch)) 1]
    ++ segmentChecks s dst r

/-- Pages in stack-matrix layout: local HBM4E of one stack, PSIZE 2 or 3 (R295). -/
abbrev OneStack (s : State) (vas : List Nat) : Prop :=
  let ls := vas.filterMap fun va => (s.leaf? (s.asker s.me) va).toOption.map fun e => (e, s.place e va / 2 ^ 36)
  ∀ x ∈ ls, leafAperture x.1 = 1 ∧ 2 ≤ leafPsize x.1 ∧ some x.2 = ls.head?.map Prod.snd

/-- The checks of `mvm` (R297); those of a plane as log 93 has it. -/
def productChecks (s : State) (a b c : Reg) : List (Bool × Nat) :=
  let fb := blockOf s (sReg s a)
  let rA := s.recAt (sReg s b)
  let rB := s.recAt (sReg s c)
  let rD := s.recAt fb.mdrec
  let n := rA.cols
  blockChecks s (sReg s a) ++ [test (PlaneDenied s fb.a ∨ PlaneDenied s fb.b) 6]
    ++ recordChecks s [sReg s b, sReg s c, fb.mdrec] []
    ++ [test (¬ (rA.kind = 0 ∧ rA.space = 1 ∧ rA.rows = 1 ∧ rA.cols % 32 = 0 ∧ FmtMeets rA fb.a.fmt
          ∧ rB.kind = 0 ∧ rB.space = 2 ∧ rB.cols = n ∧ FmtMeets rB fb.b.fmt
          ∧ rD.kind = 0 ∧ rD.space = 1 ∧ (rD.fmt = 10 ∨ rD.fmt = 2) ∧ rD.rows = 1 ∧ rD.cols = rB.rows
          ∧ GoodSpace s rA ∧ GoodSpace s rB ∧ GoodSpace s rD) ∨ ShortPitch fb.a n ∨ ShortPitch fb.b n) 1]
    ++ segmentChecks s false rA ++ segmentChecks s false rB ++ segmentChecks s true rD
    ++ [test (PlaneBeyond s fb.a 1 n ∨ PlaneBeyond s fb.b rB.rows n) 4]
    ++ recPages s rB ++ planePages s fb.b rB.rows n
    ++ [test (rB.base % 256 ≠ 0 ∨ rB.pitch % 512 ≠ 256 ∨ rB.pitch < rowBytes rB
        ∨ ¬ OneStack s (rowPlaces ((recSeg s rB).base + rB.base) rB.pitch rB.rows (rowBytes rB)
          ++ if fb.b.smode = 1 ∧ (planeOf s fb.b).space = 2
             then rowPlaces ((planeOf s fb.b).base + fb.b.soff) (planePitch fb.b n) rB.rows (packedPitch fb.b n) else [])) 1]

/-- The matrix commands and the tile each names. -/
inductive Commands : Instr → BitVec 3 → Prop where
  | mma (m : Bool) (t : BitVec 3) (a b c : Reg) : Commands (.mma m t a b c) t
  | mmaSp (m : Bool) (t : BitVec 3) (a b c : Reg) : Commands (.mmaSp m t a b c) t
  | mzero (m : Bool) (t : BitVec 3) : Commands (.mzero m t) t
  | mrows (m : Bool) (t : BitVec 3) : Commands (.mrows m t) t
  | mldacc (m : Bool) (t : BitVec 3) (a : Reg) : Commands (.mldacc m t a) t
  | mstacc (m : Bool) (t : BitVec 3) (a b : Reg) : Commands (.mstacc m t a b) t

/-- The faults of the matrix instructions at issue (R22, R284, R291, R297). -/
inductive MatrixFault : Instr → State → State → Nat → Prop where
  /-- R22: a tile at or above the team's count; with no tiles every one is -/
  | tile (i : Instr) (s u : State) (t : BitVec 3) : Commands i t → Issuing s → Settles s u → s.me.mode ≠ .control →
      u.myTask.cmds.length < 8 → u.myTask.tiles ≤ t.toNat → MatrixFault i s u 1
  | pop (s : State) (m : Bool) (d : Reg) : Issuing s → s.me.mode ≠ .control → s.myTask.tiles = 0 → MatrixFault (.vpopa m d) s s 1
  | product (s u : State) (m : Bool) (k : BitVec 3) (a b c : Reg) : Issuing s → Settles s u → s.me.mode ≠ .control →
      (u.me.token k.toNat).pend < 255 → u.myTask.tiles = 0 → MatrixFault (.mvm m k a b c) s u 1
  | mma (s u : State) (m : Bool) (t : BitVec 3) (a b c : Reg) (n : Nat) : Issuing s → Settles s u → MayCommand u t →
      firstKind (multiplyChecks u false a b c) = some n → MatrixFault (.mma m t a b c) s u n
  | mmaSp (s u : State) (m : Bool) (t : BitVec 3) (a b c : Reg) (n : Nat) : Issuing s → Settles s u → MayCommand u t →
      firstKind (multiplyChecks u true a b c) = some n → MatrixFault (.mmaSp m t a b c) s u n
  | mldacc (s u : State) (m : Bool) (t : BitVec 3) (a : Reg) (n : Nat) : Issuing s → Settles s u → MayCommand u t →
      firstKind (tileChecks u a false none) = some n → MatrixFault (.mldacc m t a) s u n
  | mstacc (s u : State) (m : Bool) (t : BitVec 3) (a b : Reg) (n : Nat) : Issuing s → Settles s u → MayCommand u t →
      firstKind (tileChecks u a true (objectOf u b)) = some n → MatrixFault (.mstacc m t a b) s u n
  | mvm (s u : State) (m : Bool) (k : BitVec 3) (a b c : Reg) (n : Nat) : Issuing s → Settles s u → MatrixGroup u →
      (u.me.token k.toNat).pend < 255 → firstKind (productChecks u a b c) = some n → MatrixFault (.mvm m k a b c) s u n

/-- R280: an instruction that raises a full matrix fault slot, u the machine it issues in. -/
inductive RaisesSlot : Instr → State → State → Prop where
  | command (i : Instr) (s u : State) (t : BitVec 3) : Commands i t → Issuing s → Settles s u → s.me.mode ≠ .control →
      u.myTask.cmds.length < 8 → t.toNat < u.myTask.tiles → RaisesSlot i s u
  | mvm (s u : State) (m : Bool) (k : BitVec 3) (a b c : Reg) : Issuing s → Settles s u → s.me.mode ≠ .control →
      (u.me.token k.toNat).pend < 255 → u.myTask.tiles ≠ 0 → RaisesSlot (.mvm m k a b c) s u
  | vpopa (s : State) (m : Bool) (d : Reg) : Issuing s → HasRoom s → s.me.mode ≠ .control → s.myTask.tiles ≠ 0 →
      d.toNat < s.me.budget → RaisesSlot (.vpopa m d) s s
  | exit (s : State) (m : Bool) : Issuing s → s.me.mode ≠ .control → RaisesSlot (.exit m) s s

/-- The group-set instructions of the copy engine, the pipes and the matrix unit, which no control processor has (R30). -/
inductive CoreOnly : Instr → Prop where
  | command (i : Instr) (t : BitVec 3) : Commands i t → CoreOnly i
  | mvm (m : Bool) (k : BitVec 3) (a b c : Reg) : CoreOnly (.mvm m k a b c)
  | cpy (m : Bool) (q : BitVec 2) (k : BitVec 3) (a b c : Reg) : CoreOnly (.cpy m q k a b c)
  | cpyMc (m : Bool) (q : BitVec 2) (k : BitVec 3) (a b c : Reg) : CoreOnly (.cpyMc m q k a b c)
  | cpyRow (m : Bool) (k : BitVec 3) (a b : Reg) (q : BitVec 2) : CoreOnly (.cpyRow m k a b q)
  | cpyClose (m : Bool) (k : BitVec 3) (q : BitVec 2) : CoreOnly (.cpyClose m k q)
  | qfence (m : Bool) (k : BitVec 3) (q : BitVec 4) : CoreOnly (.qfence m k q)
  | kwait (m : Bool) (k : BitVec 8) : CoreOnly (.kwait m k)
  | kwaitObj (m : Bool) (d a : Reg) (g : BitVec 3) : CoreOnly (.kwaitObj m d a g)
  | mcready (m : Bool) (d a b : Reg) : CoreOnly (.mcready m d a b)
  | preserve (m : Bool) (d a b : Reg) : CoreOnly (.preserve m d a b)
  | pcommit (m : Bool) (b : Reg) : CoreOnly (.pcommit m b)
  | pclaim (m : Bool) (d a b : Reg) : CoreOnly (.pclaim m d a b)
  | prelease (m : Bool) (b : Reg) : CoreOnly (.prelease m b)
  | pquery (m : Bool) (d a : Reg) : CoreOnly (.pquery m d a)

end Sys2Proof.Rules
end

