-- ==== Sys2Proof/Rules/PlanChecks.lean ====
section
/-!
DEFINITION. Terms of the statements: the checks of a plan record whose failure is a rejection, REASON by REASON (R305): the
header, stage and team descriptors (R20 to R22, R134, R300, R301), pipes (R223, R302), ports (R242), patterns (R249), Arbor
numbers (R198), images and feed entries (R303); and the faults of the task instructions (R298, R308, R309).
-/

namespace Sys2Proof.Rules

open Sys2Proof.Machine

/-- Header fields beside those with an accessor (R298). -/
abbrev intervalOf (h : Header) : Nat := bits (h.d 2) 31 0
abbrev threshOf (h : Header) : Nat := bits (h.d 2) 39 32
abbrev quotaOf (h : Header) : Nat := bits (h.d 3) 31 0
abbrev prioOf (h : Header) : Nat := bits (h.d 3) 58 56
abbrev membersOf (h : Header) : Nat := bits (h.d 5) 63 56
abbrev commitOf (h : Header) : Nat := bits (h.d 5) 55 0
abbrev timeoutOf (h : Header) : Nat := bits (h.d 6) 31 0

/-- A port id names a port of the plan that the id's device installs, of a kind. -/
abbrev OwnPort (s : State) (r : Record) (id : Nat) (kind : Port → Bool) : Prop :=
  (portDevice id = s.device ∨ (r.h.gang = true ∧ ∃ d ∈ r.stages, d.sdev = portDevice id))
    ∧ ∃ x ∈ r.ports, x.1 = portKey id ∧ r.portHere (portDevice id) x = true ∧ kind x.2 = true

/-- The fields of a gang plan: members, a commit word in Pavilion memory, and a timeout (R321); zero in any other plan. -/
abbrev BadGang (s : State) (h : Header) : Prop :=
  (h.gang = true ∧ (membersOf h = 0 ∨ 127 < membersOf h ∨ commitOf h % 8 ≠ 0 ∨ timeoutOf h < 65536
    ∨ (s.leaf? (s.recordAsker h) (commitOf h)).toOption.all (fun e => decide (leafAperture e ≠ 3)) = true))
  ∨ (h.gang = false ∧ (h.d 5 ≠ 0 ∨ h.d 6 ≠ 0))

/-- REASON 1. -/
abbrev BadHeader (s : State) (r : Record) : Prop :=
  (r.h.nstages = 0 ∨ 32 < r.h.nstages ∨ 64 < r.h.npipes ∨ 32 < r.h.narbor)
    ∨ (intervalOf r.h ≠ 0 ∧ intervalOf r.h < 1024) ∨ 32 < threshOf r.h ∨ bits (r.h.d 3) 55 54 = 3 ∨ BadGang s r.h
    ∨ (r.h.faultPort ≠ 0 ∧ OwnPort s r r.h.faultPort fun _ => true)

/-- A segment descriptor that breaks R134, or a private one past its block of `blk` bytes a thread. -/
abbrev BadSegment (blk : Nat) (g : Segment) : Prop :=
  (g.x = true ∧ g.w = true) ∨ 5 < g.space
    ∨ (g.space = 0 ∧ (g.base % 4 ≠ 0 ∨ g.limit % 4 ≠ 0 ∨ 2 ^ 56 < g.base + g.limit * 64 ∨ blk * 64 < g.base + g.limit * 64))
    ∨ ((g.space = 2 ∨ g.space = 4) ∧ 2 ^ 56 < g.base + g.limit)
    ∨ (g.space = 3 ∧ (g.w = true ∨ 768 * 2 ^ 20 < g.base + g.limit))
    ∨ (g.space = 5 ∧ 4 * 2 ^ 20 < g.base + g.limit)

/-- REASON 2. An Orangery segment of a stage here is over Orangeries in service (R382). -/
abbrev BadSegments (s : State) (d : StageDesc) : Prop :=
  d.privBlk % 4 ≠ 0 ∨ (∃ g ∈ d.segs, BadSegment d.privBlk g)
    ∨ (d.sdev = s.device ∧ (∃ g ∈ d.segs, g.space = 3) ∧ ∃ k ∈ List.range 16, bit d.dieMask k = true ∧ s.orangeryFenced k = true)

/-- REASON 3; e is the descriptor's doublewords. -/
abbrev BadTeam (e : List Nat) (d : StageDesc) : Prop :=
  (8 < d.tiles ∨ d.scratch % 256 ≠ 0 ∨ 512 * 2 ^ 10 < d.scratch)
    ∨ (∃ r ∈ d.roles, r.entry % 4 ≠ 0 ∨ r.groups = 0 ∨ 16 < r.groups) ∨ 16 < (d.roles.map RoleDesc.groups).sum
    ∨ (∃ i ∈ List.range 4, d.roles.length ≤ i ∧ e.getD (22 + i) 0 ≠ 0)
    ∨ ∃ g ∈ d.segs, g.space = 1 ∧ d.scratch < g.base + g.limit

/-- REASON 4 of one stage. -/
abbrev BadShares (s : State) (h : Header) (d : StageDesc) : Prop :=
  (d.minS = 0 ∨ d.initS < d.minS ∨ d.maxS < d.initS ∨ 176 < d.maxS)
    ∨ prioOf h < d.prio ∨ (d.teams ≠ 0 ∧ (h.nstages ≠ 1 ∨ h.npipes ≠ 0)) ∨ d.dieMask = 0 ∨ d.code % 4 ≠ 0
    ∨ d.quantum < 1024 ∨ (h.gang = false ∧ d.sdev ≠ s.device)

/-- A running sum over entries first passes a bound at entry i. -/
abbrev PassesAt (bound : Nat) (l : List Nat) (i : Nat) : Prop :=
  i < l.length ∧ bound < (l.take (i + 1)).sum ∧ (l.take i).sum ≤ bound

/-- INITS of each stage that has cores on die d of device v. -/
abbrev coresAt (r : Record) (v d : Nat) : List Nat :=
  r.stages.map fun x => if bit x.dieMask d = true ∧ x.sdev = v then x.initS else 0

/-- DIEMASK and SDEV of a stage by its index. -/
abbrev maskOf (l : List StageDesc) (x : Nat) : Nat := ((l[x]?).map StageDesc.dieMask).getD 0
abbrev devOf (l : List StageDesc) (x : Nat) : Nat := ((l[x]?).map StageDesc.sdev).getD 0

/-- A pipe's own parameters (R223, R302); e is its doublewords. -/
abbrev BadPipe (l : List StageDesc) (e : List Nat) (p : Pipe) : Prop :=
  (13 < p.fmt ∨ p.rows = 0 ∨ p.cols = 0 ∨ (p.fmt = 4 ∧ p.cols % 2 = 1) ∨ 256 * 2 ^ 10 < p.slotBytes)
    ∨ (p.depth = 0 ∨ 64 < p.depth ∨ p.resident = 0 ∨ p.depth < p.resident)
    ∨ (l.length ≤ p.producer ∨ (∃ x ∈ p.consumers, l.length ≤ x) ∨ bits (e.getD 2 0) 19 0 / 2 ^ (5 * p.consumers.length) ≠ 0)
    ∨ (1 < p.homeKind ∨ (p.homeKind = 1 ∧ 48 ≤ p.home) ∨ p.spill % 64 ≠ 0 ∨ 2 ^ 56 < p.spill + p.depth * p.slotBytes)

/-- A home in L2 is in a consumer's module, on a die in service, and of DIEMASK of every consumer there; where the producer has
other dies than a consumer, it is on a die of cursor 0's stage. -/
abbrev BadHome (s : State) (l : List StageDesc) (p : Pipe) : Prop :=
  p.homeKind = 0 ∧ ((∀ x ∈ p.consumers, devOf l x ≠ p.home / 16)
    ∨ (∃ x ∈ p.consumers, devOf l x = p.home / 16 ∧ bit (maskOf l x) (p.home % 16) = false)
    ∨ (p.home / 16 = s.device ∧ s.dieOut (p.home % 16) = true)
    ∨ (p.home / 16 = s.device ∧ (∃ x ∈ p.consumers, maskOf l x ≠ maskOf l p.producer)
      ∧ bit (maskOf l (p.consumers.headD 0)) (p.home % 16) = false))

/-- Dr × B of each pipe homed in the L2 of a die. -/
abbrev residentAt (r : Record) (k : Nat) : List Nat :=
  r.pipes.map fun p => if p.homeKind = 0 ∧ p.home = k then p.resident * p.slotBytes else 0

/-- The L2 quotas of the installed plans, in KiB; a saved plan holds none. -/
abbrev quotas (s : State) : Nat := ((s.plans.filter fun p => p.2.state != .saved).map fun p => p.2.l2quota).sum

/-- REASON 6: port i breaks R241 or R242. -/
abbrev BadPort (s : State) (r : Record) (e : List Nat) (i : Nat) (x : Nat × Port) : Prop :=
  1 < bits (e.getD 0 0) 30 29 ∨ (x.2.isHead = true ∧ (x.2.fault = true ∨ bits (e.getD 0 0) 27 24 ≠ 0))
    ∨ (x.2.isHead = false ∧ (x.2.pipe ≠ 0 ∨ x.2.cursor ≠ 0))
    ∨ (r.portHere s.device x = true ∧ (s.ports.has x.1 = true ∨ ∃ y ∈ r.ports.take i, y.1 = x.1 ∧ r.portHere s.device y = true))
    ∨ (x.2.isHead = true ∧ (r.pipes.length ≤ x.2.pipe ∨ (r.pipes.getD x.2.pipe {}).consumers.length ≤ x.2.cursor
      ∨ (r.portHere s.device x = true ∧ ¬ ((r.pipes.getD x.2.pipe {}).homeKind = 0
          ∧ (r.pipes.getD x.2.pipe {}).home = s.device * 16 + dieOfPort x.1))))

/-- The depths of the message ports that this module would install on a die, and of those that it holds. -/
abbrev depthsAt (s : State) (r : Record) (d : Nat) : List Nat :=
  r.ports.map fun p => if dieOfPort p.1 = d ∧ r.portHere s.device p = true then p.2.depth else 0
abbrev heldDepths (s : State) (d : Nat) : Nat := (s.ports.map fun p => if dieOfPort p.1 = d then p.2.depth else 0).sum

/-- The device of a pattern, and the port of the plan at a place of its die. -/
abbrev deviceFor (s : State) (r : Record) (p : Pattern) : Nat := ((r.stages[p.stage]?).map StageDesc.sdev).getD s.device
abbrev portFor (s : State) (r : Record) (p : Pattern) (k : Nat) : Option Port :=
  ((r.ports.find? fun y => y.1 == k && r.portHere (deviceFor s r p) y) <|> r.ports.find? fun y => y.1 == k).map Prod.snd

/-- The port at a position; the positions of pipe-head ports; the bytes of a position's tile. -/
abbrev portIn (s : State) (r : Record) (p : Pattern) (i : Nat) : Option Port := portFor s r p (p.ports.getD i 0)
abbrev heads (s : State) (r : Record) (p : Pattern) : List Nat :=
  (List.range p.ports.length).filter fun i => (portIn s r p i).any Port.isHead
abbrev tileBytes (s : State) (r : Record) (p : Pattern) (i : Nat) : Nat :=
  ((portIn s r p i).map fun y => ((r.pipes[y.pipe]?).map Pipe.slotBytes).getD 0).getD 0

/-- The places of the prefetched tiles, and where their area ends (R257). -/
abbrev prefPlaces (s : State) (r : Record) (p : Pattern) : List (Nat × Nat) :=
  prefetchPlaces p (tileBytes s r p) p.pfbase (List.range p.ports.length)
abbrev prefEnd (s : State) (r : Record) (p : Pattern) : Nat :=
  (prefPlaces s r p).foldl (fun m y => max m (y.2 + tileBytes s r p y.1)) p.pfbase

/-- The ports of a pattern (R248, R249): one to eight, distinct, of the plan; nothing beyond them. -/
abbrev BadPositions (s : State) (r : Record) (e : List Nat) (p : Pattern) : Prop :=
  p.ports = [] ∨ 8 < p.ports.length ∨ ¬ p.ports.Nodup ∨ (∃ k ∈ p.ports, portFor s r p k = none)
    ∨ (∃ i ∈ List.range 8, p.ports.length ≤ i ∧ bits (e.getD (i / 4) 0) (16 * (i % 4) + 12) (16 * (i % 4)) ≠ 0)
    ∨ p.recbase % 32 ≠ 0 ∨ p.pfbase % 64 ≠ 0

/-- The handler stage of a pattern of die k: its role, its dies, its cursors and its scratchpad (R249). -/
abbrev BadHandler (s : State) (r : Record) (k : Nat) (p : Pattern) (d : StageDesc) : Prop :=
  d.roles.length ≤ p.role ∨ bit d.dieMask k = false
    ∨ (∃ i ∈ heads s r p, ((portIn s r p i).bind fun y => (r.pipes[y.pipe]?).bind fun q => q.consumers[y.cursor]?) ≠ some p.stage)
    ∨ (∃ i ∈ List.range 8, bit p.pfmask i = true ∧ i ∉ heads s r p)
    ∨ (heads s r p ≠ [] ∧ d.scratch < p.recbase + 32 * p.ports.length)
    ∨ (prefPlaces s r p ≠ [] ∧ (d.scratch < prefEnd s r p
      ∨ (p.pfbase < p.recbase + 32 * p.ports.length ∧ p.recbase < prefEnd s r p)))

/-- REASON 8: a number out of service or in use, or a stage that is none or whose share may change (R198, R382). -/
abbrev BadArbor (s : State) (r : Record) (i : Nat) (x : ArborEntry) : Prop :=
  s.arborFenced x.number = true ∨ (∃ p ∈ s.plans, ∃ y ∈ p.2.arbors, y.number = x.number)
    ∨ (∃ y ∈ r.arbors.take i, y.number = x.number) ∨ x.stages / 2 ^ r.stages.length ≠ 0
    ∨ ∃ k ∈ List.range r.stages.length, bit x.stages k = true ∧ (r.stages.getD k {}).minS ≠ (r.stages.getD k {}).maxS

/-- REASON 9; e is the entry's doublewords. -/
abbrev BadImage (s : State) (e : List Nat) : Prop :=
  bits (e.getD 1 0) 31 0 % 256 ≠ 0 ∨ bits (e.getD 2 0) 31 0 % 256 ≠ 0
    ∨ 768 * 2 ^ 20 < bits (e.getD 1 0) 31 0 + bits (e.getD 2 0) 31 0
    ∨ ∃ d ∈ List.range 16, bit (e.getD 2 0) (32 + d) = true ∧ (s.orangeryFenced d = true
      ∨ s.orangeryMapped d (bits (e.getD 1 0) 31 0) (bits (e.getD 1 0) 31 0 + bits (e.getD 2 0) 31 0) = true)

/-- The checks of REASONS 1 to 11 that a record fails: the reason, and the index that is reported with it. -/
inductive Violates (s : State) (r : Record) : Nat → Nat → Prop where
  | header : BadHeader s r → Violates s r 1 0
  | segments (i : Nat) (d : StageDesc) : r.stages[i]? = some d → BadSegments s d → Violates s r 2 i
  | team (i : Nat) (e : List Nat) : r.a.stages[i]? = some e → BadTeam e (stageEntry e) → Violates s r 3 i
  | shares (i : Nat) (d : StageDesc) : r.stages[i]? = some d → BadShares s r.h d → Violates s r 4 i
  /-- more than 176 cores of some die of some member -/
  | cores (i v d : Nat) : d < 16 → PassesAt 176 (coresAt r v d) i → Violates s r 4 i
  | pipe (i : Nat) (e : List Nat) : r.a.pipes[i]? = some e → (BadPipe r.stages e (pipeEntry e) ∨ BadHome s r.stages (pipeEntry e)) →
      Violates s r 5 i
  | resident (i k : Nat) : PassesAt (1024 * quotaOf r.h) (residentAt r k) i → Violates s r 5 i
  | quota : 96 * 1024 < quotaOf r.h + quotas s → Violates s r 5 0
  | port (i : Nat) (e : List Nat) (x : Nat × Port) : r.a.ports[i]? = some e → r.ports[i]? = some x → BadPort s r e i x →
      Violates s r 6 i
  | depths (i d : Nat) : d < 16 → PassesAt (61440 - heldDepths s d) (depthsAt s r d) i → Violates s r 6 i
  | pattern (i : Nat) (e : List Nat) : r.a.patterns[i]? = some e → (BadPositions s r e (patternEntry 0 e).2
      ∨ (r.stages[(patternEntry 0 e).2.stage]?).all (fun d => decide (BadHandler s r (patternEntry 0 e).1 (patternEntry 0 e).2 d)) = true) →
      Violates s r 7 i
  /-- no index is left for it on its die (log 67) -/
  | indices (i d : Nat) : d < 16 → PassesAt (512 - (s.patterns.filter fun q => dieOfPattern q.1 == d).length)
      (r.patterns.map fun p => if p.1 = d ∧ r.here s.device p = true then 1 else 0) i → Violates s r 7 i
  | arbor (i : Nat) (x : ArborEntry) : r.arbors[i]? = some x → BadArbor s r i x → Violates s r 8 i
  | image (i : Nat) (e : List Nat) : r.a.images[i]? = some e → BadImage s e → Violates s r 9 i
  | feed (i : Nat) (x : Nat × Nat) : r.feeds[i]? = some x → (r.h.nstages ≤ x.1 ∨ ¬ OwnPort s r x.2 fun p => !p.isHead) →
      Violates s r 10 i
  | plans : (64 ≤ s.plans.length ∨ ∃ p ∈ s.plans, p.2.context = r.h.context ∧ (p.2.ptRoot ≠ r.h.ptRoot ∨ p.2.tenant ≠ r.h.tenant)) →
      Violates s r 11 0

/-- The failure that is reported: the lowest REASON, and of it the lowest index (R305). -/
def FirstViolation (s : State) (r : Record) (k i : Nat) : Prop :=
  Violates s r k i ∧ ∀ x y, Violates s r x y → k < x ∨ (k = x ∧ i ≤ y)

/-- The faults of the task class at issue: i faults with a kind in state u. -/
inductive TaskFault : Instr → State → State → Nat → Prop where
  /-- R309: no register for the second half of the message, a reserved bit, no such stage, or a stage elsewhere -/
  | spawn (s u : State) (m : Bool) (a b : Reg) : Issuing s → Settles s u → s.me.mode ≠ .control →
      (b = 127 ∨ sReg u a % 2 ^ 32 / 2 ^ 5 ≠ 0 ∨ 2 ^ 48 ≤ sReg u a ∨ u.plan? u.me.plan = none
        ∨ ∃ p, u.plan? u.me.plan = some p ∧ (p.stages.length ≤ sReg u a % 2 ^ 5
          ∨ ∃ d, p.stages[sReg u a % 2 ^ 5]? = some d ∧ d.sdev ≠ u.device)) →
      TaskFault (.spawn m a b) s u 1
  /-- R309: a draining plan -/
  | spawnDraining (s u : State) (m : Bool) (a b : Reg) (p : Plan) (d : StageDesc) : Issuing s → Settles s u → s.me.mode ≠ .control →
      b ≠ 127 → sReg u a % 2 ^ 32 / 2 ^ 5 = 0 → sReg u a < 2 ^ 48 → u.plan? u.me.plan = some p →
      p.stages[sReg u a % 2 ^ 5]? = some d → d.sdev = u.device → p.state = .draining → TaskFault (.spawn m a b) s u 6
  /-- R308: reserved bits of a handle, or no such action -/
  | planGo (i : Instr) (s u : State) (m : Bool) (d a b : Reg) : PlanGo i m d a b → Issuing s → HasRoom s → Settles s u →
      s.me.mode ≠ .user → (2 ^ 16 ≤ sReg u a ∨ 3 < sReg u b) → TaskFault i s u 1
  /-- R298, R308: a misaligned record, one beyond the limit, a segment without R -/
  | planLd (s u : State) (m : Bool) (d a : Reg) (g : BitVec 3) (k : Nat) : Issuing s → HasRoom s → Settles s u → s.me.mode ≠ .user →
      u.level ≠ 0 → firstKind [test (recordPlace u a g % 64 ≠ 0) 1, test ((segOf u g).limit < sReg u a + 64) 4,
        test ((segOf u g).r = false) 6] = some k → TaskFault (.planLd m d a g) s u k
  /-- R308: a record whose arrays lie beyond the limit; its header has been read -/
  | planLdLong (s u v w : State) (m : Bool) (d a : Reg) (g : BitVec 3) (bs : List Byte) : Issuing s → HasRoom s → Settles s u →
      s.me.mode ≠ .user → u.level ≠ 0 → recordPlace u a g % 64 = 0 → sReg u a + 64 ≤ (segOf u g).limit → (segOf u g).r = true →
      u.readRecord 0 (segOf u g) (sReg u a) 64 = .ok (bs, v) → (segOf u g).limit < sReg u a + Header.size ⟨dwordsOf 8 bs⟩ →
      w = v.landAll (.ask v.cur) → TaskFault (.planLd m d a g) s w 4
  /-- R3: a reserved field of the record, which has been read -/
  | planLdReserved (s u v w : State) (m : Bool) (d a : Reg) (g : BitVec 3) (h : Header) (x : Arrays) : Issuing s → HasRoom s →
      Settles s u → s.me.mode ≠ .user → u.level ≠ 0 → PlanRecord u a g h x v → (h.reserved = true ∨ x.reserved = true) →
      w = v.landAll (.ask v.cur) → TaskFault (.planLd m d a g) s w 1

end Sys2Proof.Rules
end

