-- ==== Sys2Proof/Rules/Scalar.lean ====
section
/-!
DEFINITION. Terms of the statements: what each instruction of the group set that writes one scalar register puts there
(R79 to R82), and the branches (R83).
-/

namespace Sys2Proof.Rules

open Sys2Proof.Machine

/-- The instruction, its marker, its destination and r, from the sources at issue: R79. -/
inductive ScalarTable : Instr → Bool → Reg → (Group → Dword) → Prop where
  | sadd (m : Bool) (d a b : Reg) : ScalarTable (.sadd m d a b) m d fun g => Op.add.result (g.getS a.toNat) (g.getS b.toNat)
  | ssub (m : Bool) (d a b : Reg) : ScalarTable (.ssub m d a b) m d fun g => Op.sub.result (g.getS a.toNat) (g.getS b.toNat)
  | saddsI64 (m : Bool) (d a b : Reg) : ScalarTable (.saddsI64 m d a b) m d fun g => Op.addsS.result (g.getS a.toNat) (g.getS b.toNat)
  | saddsN64 (m : Bool) (d a b : Reg) : ScalarTable (.saddsN64 m d a b) m d fun g => Op.addsN.result (g.getS a.toNat) (g.getS b.toNat)
  | ssubsI64 (m : Bool) (d a b : Reg) : ScalarTable (.ssubsI64 m d a b) m d fun g => Op.subsS.result (g.getS a.toNat) (g.getS b.toNat)
  | ssubsN64 (m : Bool) (d a b : Reg) : ScalarTable (.ssubsN64 m d a b) m d fun g => Op.subsN.result (g.getS a.toNat) (g.getS b.toNat)
  | smul (m : Bool) (d a b : Reg) : ScalarTable (.smul m d a b) m d fun g => Op.mul.result (g.getS a.toNat) (g.getS b.toNat)
  | smulhI64 (m : Bool) (d a b : Reg) : ScalarTable (.smulhI64 m d a b) m d fun g => Op.mulhS.result (g.getS a.toNat) (g.getS b.toNat)
  | smulhN64 (m : Bool) (d a b : Reg) : ScalarTable (.smulhN64 m d a b) m d fun g => Op.mulhN.result (g.getS a.toNat) (g.getS b.toNat)
  | sdivI64 (m : Bool) (d a b : Reg) : ScalarTable (.sdivI64 m d a b) m d fun g => Op.divS.result (g.getS a.toNat) (g.getS b.toNat)
  | sdivN64 (m : Bool) (d a b : Reg) : ScalarTable (.sdivN64 m d a b) m d fun g => Op.divN.result (g.getS a.toNat) (g.getS b.toNat)
  | sremI64 (m : Bool) (d a b : Reg) : ScalarTable (.sremI64 m d a b) m d fun g => Op.remS.result (g.getS a.toNat) (g.getS b.toNat)
  | sremN64 (m : Bool) (d a b : Reg) : ScalarTable (.sremN64 m d a b) m d fun g => Op.remN.result (g.getS a.toNat) (g.getS b.toNat)
  | sand (m : Bool) (d a b : Reg) : ScalarTable (.sand m d a b) m d fun g => Op.and.result (g.getS a.toNat) (g.getS b.toNat)
  | sor (m : Bool) (d a b : Reg) : ScalarTable (.sor m d a b) m d fun g => Op.or.result (g.getS a.toNat) (g.getS b.toNat)
  | sxor (m : Bool) (d a b : Reg) : ScalarTable (.sxor m d a b) m d fun g => Op.xor.result (g.getS a.toNat) (g.getS b.toNat)
  | sandn (m : Bool) (d a b : Reg) : ScalarTable (.sandn m d a b) m d fun g => Op.andn.result (g.getS a.toNat) (g.getS b.toNat)
  | sshl (m : Bool) (d a b : Reg) : ScalarTable (.sshl m d a b) m d fun g => Op.shl.result (g.getS a.toNat) (g.getS b.toNat)
  | sshr (m : Bool) (d a b : Reg) : ScalarTable (.sshr m d a b) m d fun g => Op.shr.result (g.getS a.toNat) (g.getS b.toNat)
  | ssra (m : Bool) (d a b : Reg) : ScalarTable (.ssra m d a b) m d fun g => Op.sra.result (g.getS a.toNat) (g.getS b.toNat)
  | srol (m : Bool) (d a b : Reg) : ScalarTable (.srol m d a b) m d fun g => Op.rol.result (g.getS a.toNat) (g.getS b.toNat)
  | sminI64 (m : Bool) (d a b : Reg) : ScalarTable (.sminI64 m d a b) m d fun g => Op.minS.result (g.getS a.toNat) (g.getS b.toNat)
  | smaxI64 (m : Bool) (d a b : Reg) : ScalarTable (.smaxI64 m d a b) m d fun g => Op.maxS.result (g.getS a.toNat) (g.getS b.toNat)
  | sminN64 (m : Bool) (d a b : Reg) : ScalarTable (.sminN64 m d a b) m d fun g => Op.minN.result (g.getS a.toNat) (g.getS b.toNat)
  | smaxN64 (m : Bool) (d a b : Reg) : ScalarTable (.smaxN64 m d a b) m d fun g => Op.maxN.result (g.getS a.toNat) (g.getS b.toNat)
  | sabsI64 (m : Bool) (d a : Reg) : ScalarTable (.sabsI64 m d a) m d fun g => Op.abs.result (g.getS a.toNat) 0
  | sclz (m : Bool) (d a : Reg) : ScalarTable (.sclz m d a) m d fun g => Op.clz.result (g.getS a.toNat) 0
  | spopc (m : Bool) (d a : Reg) : ScalarTable (.spopc m d a) m d fun g => Op.popc.result (g.getS a.toNat) 0
  | sbrev (m : Bool) (d a : Reg) : ScalarTable (.sbrev m d a) m d fun g => Op.brev.result (g.getS a.toNat) 0

/-- The same for R80: compares, `smov`, and `scsel`, which merges bit by bit under its own destination. -/
inductive ScalarSelect : Instr → Bool → Reg → (Group → Dword) → Prop where
  | scmpEq (m : Bool) (d a b : Reg) : ScalarSelect (.scmpEq m d a b) m d fun g => allOrNone (Rel.eq.test (g.getS a.toNat) (g.getS b.toNat))
  | scmpNe (m : Bool) (d a b : Reg) : ScalarSelect (.scmpNe m d a b) m d fun g => allOrNone (Rel.ne.test (g.getS a.toNat) (g.getS b.toNat))
  | scmpLt (m : Bool) (d a b : Reg) : ScalarSelect (.scmpLt m d a b) m d fun g => allOrNone (Rel.lt.test (g.getS a.toNat) (g.getS b.toNat))
  | scmpLe (m : Bool) (d a b : Reg) : ScalarSelect (.scmpLe m d a b) m d fun g => allOrNone (Rel.le.test (g.getS a.toNat) (g.getS b.toNat))
  | scmpGt (m : Bool) (d a b : Reg) : ScalarSelect (.scmpGt m d a b) m d fun g => allOrNone (Rel.gt.test (g.getS a.toNat) (g.getS b.toNat))
  | scmpGe (m : Bool) (d a b : Reg) : ScalarSelect (.scmpGe m d a b) m d fun g => allOrNone (Rel.ge.test (g.getS a.toNat) (g.getS b.toNat))
  | scmpLo (m : Bool) (d a b : Reg) : ScalarSelect (.scmpLo m d a b) m d fun g => allOrNone (Rel.lo.test (g.getS a.toNat) (g.getS b.toNat))
  | scmpLs (m : Bool) (d a b : Reg) : ScalarSelect (.scmpLs m d a b) m d fun g => allOrNone (Rel.ls.test (g.getS a.toNat) (g.getS b.toNat))
  | scmpHi (m : Bool) (d a b : Reg) : ScalarSelect (.scmpHi m d a b) m d fun g => allOrNone (Rel.hi.test (g.getS a.toNat) (g.getS b.toNat))
  | scmpHs (m : Bool) (d a b : Reg) : ScalarSelect (.scmpHs m d a b) m d fun g => allOrNone (Rel.hs.test (g.getS a.toNat) (g.getS b.toNat))
  | smov (m : Bool) (d a : Reg) : ScalarSelect (.smov m d a) m d fun g => g.getS a.toNat
  | scsel (m : Bool) (d a b : Reg) : ScalarSelect (.scsel m d a b) m d fun g =>
      (g.getS a.toNat &&& g.getS d.toNat) ||| (g.getS b.toNat &&& ~~~g.getS d.toNat)

/-- The same for R81; i is Sext(imm10, 10). -/
inductive ScalarImmediate : Instr → Bool → Reg → (Group → Dword) → Prop where
  | saddi (m : Bool) (d a : Reg) (i : BitVec 10) : ScalarImmediate (.saddi m d a i) m d fun g =>
      Op.add.result (g.getS a.toNat) (i.signExtend 64)
  | sandi (m : Bool) (d a : Reg) (i : BitVec 10) : ScalarImmediate (.sandi m d a i) m d fun g =>
      Op.and.result (g.getS a.toNat) (i.signExtend 64)
  | sori (m : Bool) (d a : Reg) (i : BitVec 10) : ScalarImmediate (.sori m d a i) m d fun g =>
      Op.or.result (g.getS a.toNat) (i.signExtend 64)
  | sxori (m : Bool) (d a : Reg) (i : BitVec 10) : ScalarImmediate (.sxori m d a i) m d fun g =>
      Op.xor.result (g.getS a.toNat) (i.signExtend 64)
  | sshli (m : Bool) (d a : Reg) (c : BitVec 6) : ScalarImmediate (.sshli m d a c) m d fun g =>
      Op.shl.result (g.getS a.toNat) (c.setWidth 64)
  | sshri (m : Bool) (d a : Reg) (c : BitVec 6) : ScalarImmediate (.sshri m d a c) m d fun g =>
      Op.shr.result (g.getS a.toNat) (c.setWidth 64)
  | ssrai (m : Bool) (d a : Reg) (c : BitVec 6) : ScalarImmediate (.ssrai m d a c) m d fun g =>
      Op.sra.result (g.getS a.toNat) (c.setWidth 64)
  | smovi (m : Bool) (d : Reg) (i : BitVec 10) : ScalarImmediate (.smovi m d i) m d fun _ => i.signExtend 64

/-- The same for the mask logic and flag reads of R82, with L = 64: `mffs` and `mfls` give 64 where there is no one, and
half n = 1 lies above W. -/
inductive MaskTable : Instr → Bool → Reg → (Group → Dword) → Prop where
  | mand (m : Bool) (d a b : Reg) : MaskTable (.mand m d a b) m d fun g => Op.and.result (g.getS a.toNat) (g.getS b.toNat)
  | mor (m : Bool) (d a b : Reg) : MaskTable (.mor m d a b) m d fun g => Op.or.result (g.getS a.toNat) (g.getS b.toNat)
  | mxor (m : Bool) (d a b : Reg) : MaskTable (.mxor m d a b) m d fun g => Op.xor.result (g.getS a.toNat) (g.getS b.toNat)
  | mandn (m : Bool) (d a b : Reg) : MaskTable (.mandn m d a b) m d fun g => Op.andn.result (g.getS a.toNat) (g.getS b.toNat)
  | mnot (m : Bool) (d a : Reg) : MaskTable (.mnot m d a) m d fun g => ~~~g.getS a.toNat
  | mpopc (m : Bool) (d a : Reg) : MaskTable (.mpopc m d a) m d fun g => Op.popc.result (g.getS a.toNat) 0
  | mffs (m : Bool) (d a : Reg) : MaskTable (.mffs m d a) m d fun g =>
      BitVec.ofNat 64 (((List.range 64).filter fun i => (g.getS a.toNat).getLsbD i).head?.getD 64)
  | mfls (m : Bool) (d a : Reg) : MaskTable (.mfls m d a) m d fun g =>
      BitVec.ofNat 64 (((List.range 64).filter fun i => (g.getS a.toNat).getLsbD i).getLast?.getD 64)
  | mffNv (m : Bool) (d : Reg) (n : Bool) : MaskTable (.mffNv m d n) m d fun g => if n then 0 else g.ff.nv
  | mffDz (m : Bool) (d : Reg) (n : Bool) : MaskTable (.mffDz m d n) m d fun g => if n then 0 else g.ff.dz
  | mffOf (m : Bool) (d : Reg) (n : Bool) : MaskTable (.mffOf m d n) m d fun g => if n then 0 else g.ff.of
  | mffUf (m : Bool) (d : Reg) (n : Bool) : MaskTable (.mffUf m d n) m d fun g => if n then 0 else g.ff.uf
  | mffNx (m : Bool) (d : Reg) (n : Bool) : MaskTable (.mffNx m d n) m d fun g => if n then 0 else g.ff.nx

/-- The instruction has issued, S(d) holds v, and nothing else of the machine has changed but what `finished` says: no
other register, no flag, no other group, no byte of memory. -/
def WritesScalar (i : Instr) (m : Bool) (s : State) (d : Nat) (v : Dword) : Prop :=
  ∃ g, exec i s = .next (finished s m (s.me.pc + 4) g) ∧ g = { s.me with s := g.s }
    ∧ (∀ r, g.getS r = if r = d then v else s.me.getS r)
    ∧ ∀ a, (finished s m (s.me.pc + 4) g).byte a = s.byte a

/-- The target of R39: words from the branch's own address. -/
def target {w : Nat} (pc : Nat) (off : BitVec w) : Nat := (((pc : Int) + 4 * si off) % 2 ^ 64).toNat

/-- A group that jumps through a register: a control processor leaves its fault state, which stepArmed is there (R369). -/
def jumped (g : Group) : Group := { g with stepArmed := g.stepArmed && decide (g.mode ≠ .control) }

/-- The branches of R83 that write no register: their marker, whether they are taken, and where to. -/
inductive Branch : Instr → Bool → (Group → Bool) → (Nat → Nat) → Prop where
  | br (m : Bool) (o : BitVec 24) : Branch (.br m o) m (fun _ => true) (target · o)
  | bz (m : Bool) (a : Reg) (o : BitVec 17) : Branch (.bz m a o) m (fun g => decide (un (g.getS a.toNat) = 0)) (target · o)
  | bnz (m : Bool) (a : Reg) (o : BitVec 17) : Branch (.bnz m a o) m (fun g => decide (un (g.getS a.toNat) ≠ 0)) (target · o)
  | bmz (m : Bool) (a : Reg) (o : BitVec 17) : Branch (.bmz m a o) m (fun g => decide (un (g.getS a.toNat) = 0)) (target · o)
  | bmnz (m : Bool) (a : Reg) (o : BitVec 17) : Branch (.bmnz m a o) m (fun g => decide (un (g.getS a.toNat) ≠ 0)) (target · o)

end Sys2Proof.Rules
end

