-- ==== Sys2Proof/Rules/Prefix.lean ====
section
/-!
DEFINITION. Terms of the statements: the prefixes `rep` and `limm` (R42 to R46, R86 to R88).
-/

namespace Sys2Proof.Rules

open Sys2Proof.Machine

/-- The group that is to issue holds the word w of its instruction in v: fetched before, or fetched now from its PC (R31, R62). -/
inductive Holds (u : State) (gid : Nat) (w : Word) : State → Prop where
  | held : (u.group gid).word = some w → Holds u gid w u
  | fetched (v : State) : (u.group gid).word = none → u.fetchWord gid (u.group gid).pc = .ok w →
      v = u.afterFetch gid (u.group gid).pc → Holds u gid w (v.setGroup gid { v.group gid with word := some w })

/-- The issuing group holds w, the target of the prefix that it is at, since the prefix's own cycle (R44, R87). -/
def Held (s : State) (w : Word) : Prop := Issuing s ∧ s.me.target = some w

/-- The prefix that the issuing group is at has yet to have its own cycle, which fetches its target (R42, R44). -/
def Unfetched (s : State) : Prop := Issuing s ∧ s.me.target = none

/-- u is the state in which the issuing group holds the target w, fetched now from behind its prefix (R42, R52). -/
def Fetches (s : State) (w : Word) (u : State) : Prop :=
  s.fetchWord s.cur ((s.me.pc + 4) % 2 ^ 64) = .ok w
    ∧ ∃ v, v = s.afterFetch s.cur ((s.me.pc + 4) % 2 ^ 64) ∧ u = v.setMe { v.me with target := some w }

/-- w is the word of the well-formed instruction j. -/
def Encodes (w : Word) (j : Instr) : Prop := encode j = some w ∧ j.wellFormed = true

/-- The n bits of a word from bit lo up. -/
def fieldOf (w : Word) (lo n : Nat) : Nat := w.toNat / 2 ^ lo % 2 ^ n

/-- The seven bits from bit lo up: the places of the register fields d, a and b of R34, R37 and R38. -/
def fieldAt (w : Word) (lo : Nat) : Nat := w.toNat / 2 ^ lo % 128

/-- x is the word w with its register fields stepped to repetition i, none past 127 (R44): d at bit 14, a at 7 and b at 0 in
a format with three registers, d at 17 and a at 10 in one with two. -/
inductive Stepped (w : Word) (i sd sa sb : Nat) : Word → Prop where
  | three (x : Word) : hasThird w = true → fieldAt w 14 + i * sd ≤ 127 → fieldAt w 7 + i * sa ≤ 127 → fieldAt w 0 + i * sb ≤ 127 →
      x.toNat = w.toNat + i * sd * 2 ^ 14 + i * sa * 2 ^ 7 + i * sb → Stepped w i sd sa sb x
  | two (x : Word) : hasThird w = false → sb = 0 → fieldAt w 17 + i * sd ≤ 127 → fieldAt w 10 + i * sa ≤ 127 →
      x.toNat = w.toNat + i * sd * 2 ^ 17 + i * sa * 2 ^ 10 → Stepped w i sd sa sb x

/-- The repetition that a `rep` of count repetitions issues now: REPCNT is 0 before the first (R86). -/
def repetition (count repcnt : Nat) : Nat := if repcnt = 0 then 0 else count - repcnt

/-- The state with REPCNT of the issuing group set. -/
def withRepcnt (s : State) (n : Nat) : State := s.setMe { s.me with repcnt := n }

/-- The majors that `rep` takes as targets (R46): of the lane set every one that has an instruction, of the group set 1 to 17
and 32 to 34. -/
def Repeatable (w : Word) : Prop :=
  w.getLsbD 31 = false ∨ (1 ≤ fieldOf w 24 6 ∧ fieldOf w 24 6 ≤ 17) ∨ (32 ≤ fieldOf w 24 6 ∧ fieldOf w 24 6 ≤ 34)

/-- w is an instruction that the issuing group may have behind a prefix: on a control processor one of the group set (R30, R52). -/
def MayFollow (s : State) (w : Word) : Prop := (∃ k, Encodes w k) ∧ (s.me.mode = .control → w.getLsbD 31 = true)

/-- w is a target for a `rep` of n + 1 repetitions with this third step: repeatable, with a third register field unless the step is
0, and REPCNT counts no more than all repetitions (R43, R44, R46, R87). -/
structure RepTarget (s : State) (n : BitVec 6) (b : BitVec 2) (w : Word) : Prop where
  repeatable : Repeatable w
  third : hasThird w = true ∨ b = 0
  range : s.me.repcnt ≤ n.toNat + 1
  follows : MayFollow s w

/-- A `rep` at the issuing group, which holds its target w: repetition i of n + 1 is the one to issue, and x is its word. -/
structure Repeats (s : State) (n : BitVec 6) (d a b : BitVec 2) (w x : Word) (i : Nat) : Prop where
  held : Held s w
  range : s.me.repcnt ≤ n.toNat + 1
  count : i = repetition (n.toNat + 1) s.me.repcnt
  stepped : Stepped w i d.toNat a.toNat b.toNat x

/-- The state after repetition i of n + 1, with marker m and the issuing group left as g: at the prefix, whose words it still
holds, with REPCNT counting the repetitions to come, or behind the target with none (R44, R86). -/
def afterRepetition (v : State) (n : BitVec 6) (i : Nat) (m : Bool) (g : Group) : State :=
  if i = n.toNat then finished v m (g.pc + 8) { g with repcnt := 0 }
  else
    let t := finished v false g.pc { g with repcnt := n.toNat - i }
    { t with groups := t.groups.put t.cur { t.me with word := g.word, target := g.target } }

/-- The instructions that `limm` extends and that write S(d): their value from the 34-bit literal (R45, R81). -/
inductive LongScalar : Instr → Bool → Reg → (Group → BitVec 24 → Dword) → Prop where
  | saddi (m : Bool) (d a : Reg) (i : BitVec 10) : LongScalar (.saddi m d a i) m d fun g p =>
      Op.add.result (g.getS a.toNat) ((p ++ i).signExtend 64)
  | sandi (m : Bool) (d a : Reg) (i : BitVec 10) : LongScalar (.sandi m d a i) m d fun g p =>
      Op.and.result (g.getS a.toNat) ((p ++ i).signExtend 64)
  | sori (m : Bool) (d a : Reg) (i : BitVec 10) : LongScalar (.sori m d a i) m d fun g p =>
      Op.or.result (g.getS a.toNat) ((p ++ i).signExtend 64)
  | sxori (m : Bool) (d a : Reg) (i : BitVec 10) : LongScalar (.sxori m d a i) m d fun g p =>
      Op.xor.result (g.getS a.toNat) ((p ++ i).signExtend 64)
  | smovi (m : Bool) (d : Reg) (i : BitVec 10) : LongScalar (.smovi m d i) m d fun _ p => (p ++ i).signExtend 64

/-- The same for those that write V(d): bits 31 to 0 of the literal (R45, R109). -/
inductive LongLane : Instr → Bool → List Reg → Reg → (Group → BitVec 24 → Nat → Word) → Prop where
  | vaddi (m : Bool) (d a : Reg) (i : BitVec 10) : LongLane (.vaddi m d a i) m [d, a] d fun g p t =>
      Op.add.result (g.getV a.toNat t) ((p ++ i).setWidth 32)
  | vmuli (m : Bool) (d a : Reg) (i : BitVec 10) : LongLane (.vmuli m d a i) m [d, a] d fun g p t =>
      Op.mul.result (g.getV a.toNat t) ((p ++ i).setWidth 32)
  | vandi (m : Bool) (d a : Reg) (i : BitVec 10) : LongLane (.vandi m d a i) m [d, a] d fun g p t =>
      Op.and.result (g.getV a.toNat t) ((p ++ i).setWidth 32)
  | vori (m : Bool) (d a : Reg) (i : BitVec 10) : LongLane (.vori m d a i) m [d, a] d fun g p t =>
      Op.or.result (g.getV a.toNat t) ((p ++ i).setWidth 32)
  | vxori (m : Bool) (d a : Reg) (i : BitVec 10) : LongLane (.vxori m d a i) m [d, a] d fun g p t =>
      Op.xor.result (g.getV a.toNat t) ((p ++ i).setWidth 32)
  | vmovi (m : Bool) (d : Reg) (i : BitVec 10) : LongLane (.vmovi m d i) m [d] d fun _ p _ => (p ++ i).setWidth 32

/-- Thread t's offset with the 28-bit literal, exact, and a scalar access's (R45, R85, R145). -/
def longLaneOff (s : State) (a : Reg) (t n : Nat) (p : BitVec 24) (e : BitVec 4) : Int := un (s.me.getV a.toNat t) + si (p ++ e) * n
def longScalarOff (s : State) (a : Reg) (n : Nat) (p : BitVec 24) (e : BitVec 4) : Int := (un (s.me.getS a.toNat) + si (p ++ e) * n) % 2 ^ 64

/-- The state after a `limm` pair: as after one instruction, eight bytes on (R88). -/
def afterPair (m : Bool) (s : State) (g : Group) : State := finished s m (s.me.pc + 8) g

/-- `limm` and its target (R45, R46, R88): the payload, the state before and after. The
group holds the target. -/
inductive LimmRule : BitVec 24 → State → State → Prop where
  | scalar (s : State) (p : BitVec 24) (w : Word) (j : Instr) (m : Bool) (d : Reg) (f : Group → BitVec 24 → Dword) : Held s w → Encodes w j → LongScalar j m d f → LimmRule p s (afterPair m s (s.me.setS d.toNat (f s.me p)))
  | lane (s : State) (p : BitVec 24) (w : Word) (j : Instr) (m : Bool) (rs : List Reg) (d : Reg)
      (f : Group → BitVec 24 → Nat → Word) : LaneReady s rs → Held s w → Encodes w j → LongLane j m rs d f →
      LimmRule p s (afterPair m s (s.me.setV d.toNat (f s.me p)))
  | laneLoad (s : State) (p : BitVec 24) (w : Word) (j : Instr) (m : Bool) (d a : Reg) (g : BitVec 3) (z : Size) (e : BitVec 4)
      (sg : Bool) (P : Nat → List Piece) : LaneReady s [a] → HasRoom s → Held s w → Encodes w j →
      LaneLoad j m d a g z e sg → DatumReady s d z.bytes →
      Checked s g { r := true } (fun t => longLaneOff s a t z.bytes p e) z.bytes P →
      LimmRule p s (afterPair m s (queued s.me { seg := some g.toNat, lanes := true, pc := s.me.pc, result := true, dest := .lane d.toNat z.bytes sg
                                                 todo := (active s.me).flatMap fun t => (P t).map Access.load }))
  | laneStore (s : State) (p : BitVec 24) (w : Word) (m : Bool) (d a : Reg) (g : BitVec 3) (z : Size) (e : BitVec 4)
      (P : Nat → List Piece) : LaneReady s [a] → Held s w → Encodes w (.vst m d a g z e) → DatumReady s d z.bytes →
      Checked s g { w := true } (fun t => longLaneOff s a t z.bytes p e) z.bytes P →
      LimmRule p s (afterPair m s (queued s.me {
        seg := some g.toNat, lanes := true, pc := s.me.pc, todo := (active s.me).flatMap fun t => stores (laneBytes s d t z.bytes) (P t) }))
  | scalarLoad (s : State) (p : BitVec 24) (w : Word) (j : Instr) (m : Bool) (d a : Reg) (g : BitVec 3) (z : Size) (e : BitVec 4)
      (sg : Bool) (ps : List Piece) : NoRegisters s g → HasRoom s → Held s w → Encodes w j →
      ScalarLoad j m d a g z e sg → (z.bytes = 16 → d.toNat % 2 = 0) →
      ScalarChecked s g { r := true } (longScalarOff s a z.bytes p e) z.bytes ps →
      LimmRule p s (afterPair m s (queued s.me { seg := some g.toNat, pc := s.me.pc, result := true, dest := .scalar d.toNat z.bytes sg
                                                 todo := ps.map Access.load }))
  | scalarStore (s : State) (p : BitVec 24) (w : Word) (m : Bool) (d a : Reg) (g : BitVec 3) (z : Size) (e : BitVec 4)
      (ps : List Piece) : NoRegisters s g → Held s w → Encodes w (.sst m d a g z e) →
      (z.bytes = 16 → d.toNat % 2 = 0) → ScalarChecked s g { w := true } (longScalarOff s a z.bytes p e) z.bytes ps →
      LimmRule p s (afterPair m s (queued s.me { seg := some g.toNat, pc := s.me.pc, todo := stores (scalarBytes s d z.bytes) ps }))

/-- The instructions that `limm` extends (R46). -/
inductive LongTarget : Instr → Prop where
  | scalar (j : Instr) (m : Bool) (d : Reg) (f : Group → BitVec 24 → Dword) : LongScalar j m d f → LongTarget j
  | lane (j : Instr) (m : Bool) (rs : List Reg) (d : Reg) (f : Group → BitVec 24 → Nat → Word) : LongLane j m rs d f → LongTarget j
  | laneLoad (j : Instr) (m : Bool) (d a : Reg) (g : BitVec 3) (z : Size) (e : BitVec 4) (sg : Bool) : LaneLoad j m d a g z e sg →
      LongTarget j
  | laneStore (m : Bool) (d a : Reg) (g : BitVec 3) (z : Size) (e : BitVec 4) : LongTarget (.vst m d a g z e)
  | scalarLoad (j : Instr) (m : Bool) (d a : Reg) (g : BitVec 3) (z : Size) (e : BitVec 4) (sg : Bool) :
      ScalarLoad j m d a g z e sg → LongTarget j
  | scalarStore (m : Bool) (d a : Reg) (g : BitVec 3) (z : Size) (e : BitVec 4) : LongTarget (.sst m d a g z e)

/-- w is a target for `limm` (R43, R45, R46). -/
def LimmTarget (s : State) (w : Word) : Prop := (∃ j, Encodes w j ∧ LongTarget j) ∧ MayFollow s w

/-- The own cycle of a prefix i with the targets that satisfy `ok` (R42 to R44, R52): its target is fetched and held, and issues from
the next cycle on; one that cannot be fetched, or is no target of this prefix, faults at the prefix. -/
def OwnCycle (i : Instr) (s : State) (ok : Word → Prop) : Prop :=
  (∀ t, s.fetchWord s.cur ((s.me.pc + 4) % 2 ^ 64) = .error t → exec i s = .next (s.takeTrap s.cur (some t)))
  ∧ ∀ w u, Fetches s w u →
    (ok w → exec i s = .next u) ∧ (¬ ok w → exec i s = .next (u.takeTrap s.cur (some { kind := 1 })))

end Sys2Proof.Rules
end

