-- ==== Sys2Proof/Rules/System.lean ====
section
/-!
DEFINITION. Terms of the statements: system registers (R345 to R348), keys, measurement and attestation (R362 to R364).
-/

namespace Sys2Proof.Rules

open Sys2Proof.Machine

/-- The rows of R346 that each mode may read. -/
def mayRead (n : Nat) : Mode → Bool
  | .user => n ∈ [0, 1, 2, 3, 4, 5, 0x40, 0x42, 0x43, 0x44]
  | .supervisor => decide (n < 8) || n ∈ [0x40, 0x41, 0x42, 0x43, 0x44] || decide (0x80 ≤ n ∧ n ≤ 0x86) || decide (0x100 ≤ n ∧ n ≤ 0x17F)
  | .control => n ∈ [0x40, 0x41, 0x42, 0x43, 0x44] || decide (0x80 ≤ n ∧ n ≤ 0x86) || decide (0xC0 ≤ n ∧ n ≤ 0xC3)
      || decide (0x100 ≤ n ∧ n ≤ 0x17F)

/-- The rows of R346 that each mode may write. -/
def mayWrite (n : Nat) : Mode → Bool
  | .user => n ∈ [0, 1]
  | .supervisor => n ∈ [0, 1, 6, 7, 0x80, 0x81, 0x82, 0x83]
  | .control => decide (0x80 ≤ n ∧ n ≤ 0x86) || decide (0xC0 ≤ n ∧ n ≤ 0xC3)

/-- The numbers that R346 assigns. -/
def assigned (n : Nat) : Bool :=
  decide (n < 8) || decide (0x40 ≤ n ∧ n ≤ 0x44) || decide (0x80 ≤ n ∧ n ≤ 0x86) || decide (0xC0 ≤ n ∧ n ≤ 0xC3)
    || decide (0x100 ≤ n ∧ n ≤ 0x17F)

/-- The counters of R346. -/
def isCounter (n : Nat) : Bool := n ∈ [4, 5, 0x42, 0x43]

/-- The value of each register for the issuing group (R16, R17, R138, R279, R346, R348, R363). -/
inductive SysValue (s : State) : Nat → Dword → Prop where
  | fpctl : SysValue s 0 s.me.fpctl
  | srseed : SysValue s 1 s.me.srseed
  | tags0 : SysValue s 2 s.me.tags0
  | tags1 : SysValue s 3 s.me.tags1
  | matrixCmds (t : Task) : s.task? s.me.task = some t →
      SysValue s 4 (BitVec.ofNat 32 t.issued ++ BitVec.ofNat 32 t.doneCount)
  | instret : SysValue s 5 (BitVec.ofNat 64 s.me.instret)
  | ptRoot : SysValue s 6 s.me.ptRoot
  | debug : SysValue s 7 (if s.me.step then 1 else 0)
  | groupWidth : SysValue s 0x40 64
  | location : SysValue s 0x41 (s.location s.cur)
  | cycles : SysValue s 0x42 (BitVec.ofNat 64 s.cycle)
  | refresh : SysValue s 0x43 (BitVec.ofNat 64 (s.cycle % 8192))
  | service : SysValue s 0x44 (BitVec.ofNat 64 s.serviceLevel)
  | trapVec : SysValue s 0x80 s.trapVec
  | trapBase : SysValue s 0x81 s.trapBase
  | bulkLimit : SysValue s 0x82 s.bulkLimit
  | deadlock : SysValue s 0x83 s.deadlockCycles
  | fabLost : SysValue s 0x84 s.fabLost
  | devLost0 : SysValue s 0x85 s.devLost0
  | devLost1 : SysValue s 0x86 s.devLost1
  | quota : SysValue s 0xC0 s.pavQuota
  | keyCtl : SysValue s 0xC1 s.keyCtl
  | attest : SysValue s 0xC2 s.attest
  | measExt : SysValue s 0xC3 s.measExt
  | meas (i k : Nat) : i < 16 → k < 8 →
      SysValue s (0x100 + 8 * i + k) (BitVec.ofNat 64 (leNat (((s.measReg i).drop (8 * k)).take 8)))

/-- A write of value v to each register, its limits kept, and the state after it (R131, R142, R222, R320, R340, R342, R347,
R350, R356, R362 to R364). -/
inductive SysWrite (s : State) : Nat → Nat → State → Prop where
  | fpctl (v : Nat) : v < 2 ^ 3 → SysWrite s 0 v (s.setMe { s.me with fpctl := BitVec.ofNat 64 v })
  | srseed (v : Nat) : v < 2 ^ 32 →
      SysWrite s 1 v (s.setMe { s.me with srseed := BitVec.ofNat 64 v, gen := lanesOf (srSeed (BitVec.ofNat 32 v)) })
  | ptRoot (v : Nat) : v < 2 ^ 46 → v % 2 ^ 12 = 0 → SysWrite s 6 v (s.setMe { s.me with ptRoot := BitVec.ofNat 64 v })
  | debug (b : Bool) : SysWrite s 7 (if b then 1 else 0) (s.setMe { s.me with step := b })
  | trapVec (v : Nat) : v < 2 ^ 56 → v % 4 = 0 → SysWrite s 0x80 v { s with trapVec := BitVec.ofNat 64 v }
  | trapBase (v : Nat) : v < 2 ^ 36 → v % 2 ^ 20 < 2 → v / 2 ^ 20 * 2 ^ 20 + 11 * 2 ^ 19 ≤ 2 ^ 36 →
      SysWrite s 0x81 v { s with trapBase := BitVec.ofNat 64 v }
  | bulkLimit (v : Nat) : 1024 ≤ v → v < 2 ^ 20 → SysWrite s 0x82 v { s with bulkLimit := BitVec.ofNat 64 v }
  | deadlock (v : Nat) : v < 2 ^ 32 → (v = 0 ∨ 65536 ≤ v) → SysWrite s 0x83 v { s with deadlockCycles := BitVec.ofNat 64 v }
  | fabLost (v : Nat) : v < 2 ^ 48 → (∀ w, w < 48 → v.testBit w = true → s.fabLost.getLsbD w = true → (s.switch w).lost = false) →
      SysWrite s 0x84 v { s with fabLost := s.fabLost &&& ~~~ BitVec.ofNat 64 v }
  | devLost0 (v : Nat) : v < 2 ^ 64 →
      (∀ d, d < 64 → v.testBit d = true → s.devLost0.getLsbD d = true → s.deviceReturned d = true) →
      SysWrite s 0x85 v { s with devLost0 := s.devLost0 &&& ~~~ BitVec.ofNat 64 v }
  | devLost1 (v : Nat) : v < 2 ^ 64 →
      (∀ d, d < 64 → v.testBit d = true → s.devLost1.getLsbD d = true → s.deviceReturned (64 + d) = true) →
      SysWrite s 0x86 v { s with devLost1 := s.devLost1 &&& ~~~ BitVec.ofNat 64 v }
  /-- TENANT, TARGET and LIMIT; STATUS becomes 1 -/
  | quota (tenant w n : Nat) : tenant < 2 ^ 16 → w < 48 → n ≤ 2 ^ 18 → bits s.pavQuota.toNat 21 20 ≠ 1 →
      SysWrite s 0xC0 (tenant * 2 ^ 48 + w * 2 ^ 42 + n)
        { s with pavQuota := BitVec.ofNat 64 (tenant * 2 ^ 48 + w * 2 ^ 42 + 2 ^ 20 + n) }
  /-- OP 0: nothing but the register -/
  | keyNone (w src id : Nat) : (w < 48 ∨ w = 63) → src < 2 ^ 18 → src % 64 = 0 → id < 2 ^ 13 → bits s.keyCtl.toNat 37 36 ≠ 1 →
      SysWrite s 0xC1 (w * 2 ^ 38 + src * 2 ^ 16 + id) { s with keyCtl := BitVec.ofNat 64 (w * 2 ^ 38 + src * 2 ^ 16 + id) }
  /-- OP 1 and 2: STATUS becomes 1, and the key engine works for the writer's die -/
  | key (w op src id : Nat) : (w < 48 ∨ w = 63) → (op = 1 ∨ op = 2) → src < 2 ^ 18 → src % 64 = 0 → id < 2 ^ 13 →
      bits s.keyCtl.toNat 37 36 ≠ 1 →
      SysWrite s 0xC1 (w * 2 ^ 38 + op * 2 ^ 34 + src * 2 ^ 16 + id)
        { s with keyCtl := BitVec.ofNat 64 (w * 2 ^ 38 + 2 ^ 36 + op * 2 ^ 34 + src * 2 ^ 16 + id)
                 busy := s.busy.put keyEngine (dieOfGid s.cur) }
  /-- STATUS 1 starts: the measurement registers are read now -/
  | attest (v : Nat) : v % 64 = 0 → v + 30952 ≤ 2 ^ 22 →
      SysWrite s 0xC2 (2 ^ 22 + v) { s with attest := BitVec.ofNat 64 (2 ^ 22 + v), attestData := s.reportBytes v }
  | attestIdle (v : Nat) : v % 64 = 0 → v + 30952 ≤ 2 ^ 22 → SysWrite s 0xC2 v { s with attest := BitVec.ofNat 64 v }
  | meas (len src i : Nat) : 0 < len → src % 64 = 0 → src + len ≤ 2 ^ 18 → i < 16 → bits s.measExt.toNat 47 46 ≠ 1 →
      SysWrite s 0xC3 (len * 2 ^ 26 + src * 2 ^ 8 + i)
        { s with measExt := BitVec.ofNat 64 (2 ^ 46 + len * 2 ^ 26 + src * 2 ^ 8 + i)
                 busy := s.busy.put measEngine (dieOfGid s.cur) }

/-- The instructions that write one system register: its number. A write of a module register takes its place after the
group's own accesses (R347), so that u is then the settled state. -/
inductive Writer : Instr → Bool → Reg → Nat → Prop where
  | sysw (m : Bool) (r : BitVec 12) (a : Reg) : Writer (.sysw m r a) m a r.toNat
  | srseedWrite (m : Bool) (a : Reg) : Writer (.srseedWrite m a) m a 1
  | fabLostClear (m : Bool) (a : Reg) : Writer (.fabLostClear m a) m a 0x84
  | devLostClear (m h : Bool) (a : Reg) : Writer (.devLostClear m h a) m a (if h then 0x86 else 0x85)
  | pavQuotaWrite (m : Bool) (a : Reg) : Writer (.pavQuotaWrite m a) m a 0xC0
  | keyLoad (m : Bool) (a : Reg) : Writer (.keyLoad m a) m a 0xC1
  | keyClear (m : Bool) (a : Reg) : Writer (.keyClear m a) m a 0xC1
  | attestStart (m : Bool) (a : Reg) : Writer (.attestStart m a) m a 0xC2
  | measExtend (m : Bool) (a : Reg) : Writer (.measExtend m a) m a 0xC3

/-- The table that a key operation targets, its entry, and the place of its source. -/
structure KeyOp (s : State) (op w id src : Nat) : Prop where
  pending : bits s.keyCtl.toNat 37 36 = 1
  op : bits s.keyCtl.toNat 35 34 = op
  target : bits s.keyCtl.toNat 43 38 = w
  entry : bits s.keyCtl.toNat 12 0 = id
  source : ∃ d, s.busy.get? keyEngine = some d ∧ src = sramAddr d (bits s.keyCtl.toNat 33 16)

/-- The key engine is done, with a status. -/
def keyDone (v : State) (status : Nat) : State :=
  { v with keyCtl := BitVec.ofNat 64 (putBits v.keyCtl.toNat 37 36 status), busy := Map.del keyEngine v.busy }

/-- The table of a key operation can be reached: it is a local one, or its switch is not lost and has the request, which is answered
now (R327, R362); the machine with that answer in. -/
def TableAnswers (s : State) (w : Nat) : Prop :=
  w < 48 → s.fabLost.getLsbD w = false ∧ s.answered .key (pavAddr w 0) = true
def tableHeard (s : State) (w : Nat) : State := if w < 48 then s.land .key (pavAddr w 0) else s

/-- The steps of the key, measurement and attestation engines. -/
inductive SystemStep : Instr → State → State → Prop where
  /-- R362: a load copies the material and zeroes its source -/
  | keyLoad (s : State) (w id src : Nat) : KeyOp s 1 w id src → TableAnswers s w → s.hasKey w id = false →
      SystemStep .keyOpDone s
        (keyDone (tableHeard ({ s with keys := s.keys.put (w * 8192 + id) (s.bytes src 64) }.write src (List.replicate 64 0)) w) 0)
  /-- R362: one into a full entry has failed -/
  | keyFull (s : State) (w id src : Nat) : KeyOp s 1 w id src → TableAnswers s w → s.hasKey w id = true →
      SystemStep .keyOpDone s (keyDone (tableHeard s w) 2)
  /-- R362: one for a switch that is lost fails -/
  | keyLost (s : State) (op w id src : Nat) : KeyOp s op w id src → w < 48 → s.fabLost.getLsbD w = true →
      SystemStep .keyOpDone s (keyDone (tableHeard s w) 2)
  /-- R362: a clear completes once no access under the id is outstanding -/
  | keyClear (s : State) (w id src : Nat) : KeyOp s 2 w id src → TableAnswers s w →
      s.keyInUse w id = false →
      SystemStep .keyOpDone s (keyDone (tableHeard { s with keys := Map.del (w * 8192 + id) s.keys } w) 0)
  /-- R363: register := SHAKE256(register ‖ SHAKE256(data, 64), 64) -/
  | meas (s : State) (d : Nat) : bits s.measExt.toNat 47 46 = 1 → s.busy.get? measEngine = some d →
      SystemStep .measExtendDone s { s with
        meas := s.meas.put (bits s.measExt.toNat 3 0) (shake256 (s.measReg (bits s.measExt.toNat 3 0)
          ++ shake256 (s.bytes (sramAddr d (bits s.measExt.toNat 25 8)) (bits s.measExt.toNat 44 26)) 64) 64)
        measExt := BitVec.ofNat 64 (putBits s.measExt.toNat 47 46 0), busy := Map.del measEngine s.busy }
  /-- R364: the report stands at ADDR: its bytes from 64 on, and the signature over all of it -/
  | attest (s : State) (ok : Nat) : bits s.attest.toNat 23 22 = 1 → ok ≠ 0 →
      SystemStep (.attestDone ok) s { s.write (belvedereAddr (bits s.attest.toNat 21 0 + 64))
          (s.attestData.drop 64 ++ (List.range 29792).map fun i => (Config.sign s.attestData).getD i 0) with
        attest := BitVec.ofNat 64 (putBits s.attest.toNat 23 22 2), attestData := [] }
  | attestFails (s : State) : bits s.attest.toNat 23 22 = 1 →
      SystemStep (.attestDone 0) s { s with attest := BitVec.ofNat 64 (putBits s.attest.toNat 23 22 3), attestData := [] }

end Sys2Proof.Rules
end

