-- ==== Sys2Proof/Safety.lean ====
section
/-!
DEFINITION. What counts as a safe step: the machine goes on. A program's own faults are trap entries (R353), and they go
on; a step that ends in a fault or a refusal of the model is not safe.
-/

namespace Sys2Proof.Machine

/-- The outcome is a next state. -/
def goesOn (o : Out) : Prop := ∃ s, o = .next s

/-- The next step from a state goes on. -/
def State.Safe (s : State) : Prop := goesOn (step s)

end Sys2Proof.Machine
end

