-- ==== Sys2Proof/Certificates/Slice0/Obligations.lean ====
section
/-!
DEFINITION. The statements for the provers, over the terms of Sys2Proof/Rules.
-/

open Sys2Proof Sys2Proof.Machine Sys2Proof.Rules

/-- From every state the next step goes on: what a program does wrong is a trap (R52, R349, R353), and in the model no
turn stops the machine. These points in it are the model's choices: a turn that the state does not allow changes
nothing (log 1). (R52, R349, R353) -/
def Obligations.NoStepStops : Prop :=
  ∀ s : State, s.Safe

/-- A step whose turn is the issue of a group that its pipe chooses runs the instruction that its word decodes to, and a
cycle passes; so does a step whose turn is that of a unit, for the row of the table it names. A turn of units of a
die that is off changes nothing. REPCNT is 0 outside `rep` (R86). The tape, and the groups it holds back, are the
model's choice (logs 1 and 5). These points in it are the model's choices: units of a die that is off stand still
(log 96); the pipe of a group whose next word cannot be fetched (log 74). (R4, R31, R62, R63, R64, R87, R375, R386) -/
def Obligations.StepRunsTheDecodedInstruction : Prop :=
  (∀ (s u v : State) (gid : Nat) (held : List Nat) (rest : List Turn) (w : Word) (i : Instr),
    s.tape = .issue gid held :: rest → u = { s with tape := rest } → u.choosable gid held = true →
    (u.die (dieOfGid gid)).off = false → Holds (u.chosen gid held) gid w v → decode w = .ok i →
    ((u.group gid).repcnt = 0 ∨ ∃ n d a b, i = .rep n d a b) →
    step s = thenTick (exec i v))
  ∧ (∀ (s u : State) (e : Instr) (rest : List Turn), s.tape = .event e :: rest → u = { s with tape := rest } → encode e = none →
    u.powered (.event e) = true → step s = thenTick (exec e u))
  ∧ ∀ (s u : State) (t : Turn) (rest : List Turn), s.tape = t :: rest → u = { s with tape := rest } → u.powered t = false →
    step s = .next u.tick

/-- When the word at the PC of a group that its pipe chooses cannot be fetched, the step takes the trap of the fetch;
when it decodes to nothing, the illegal-instruction trap. These points in it are the model's choices: its pipe (log
74). (R52, R349) -/
def Obligations.WordsThatCannotRunTrap : Prop :=
  ∀ (s u : State) (gid : Nat) (held : List Nat) (rest : List Turn), s.tape = .issue gid held :: rest →
    u = { s with tape := rest } → u.choosable gid held = true → (u.die (dieOfGid gid)).off = false →
    (∀ t, (u.group gid).word = none → (u.chosen gid held).fetchWord gid (u.group gid).pc = .error t →
      step s = .next ((u.chosen gid held).takeTrap gid (some t)).tick)
    ∧ ∀ w e v, Holds (u.chosen gid held) gid w v → decode w = .error e →
      step s = .next (v.takeTrap gid (some { kind := 1 })).tick

/-- Twelve words, most of them given in the spec, decode to the instructions they stand for. (R34, R37, R41, R47, R48,
R49, R50) -/
def Obligations.WordsOfTheSpecDecode : Prop :=
  decode 0x18A0C082#32 = .ok (.vfmaF32 false 3 1 2) ∧ decode 0x18410082#32 = .ok (.vfmulF32 false 4 1 2)
    ∧ decode 0x18010206#32 = .ok (.vfaddF32 false 4 4 6) ∧ decode 0x1901C409#32 = .ok (.vfaddF16x2 false 7 8 9)
    ∧ decode 0xC0000000#32 = .ok (.nop true) ∧ decode 0x30501920#32 = .ok (.vld false 40 6 2 .b4 0)
    ∧ decode 0x961D4000#32 = .ok (.rep 7 1 1 0) ∧ decode 0xA50420A0#32 = .ok (.sysr false 0x042 5)
    ∧ decode 0xA50000E1#32 = .ok (.sysw false 0x000 7) ∧ decode 0xA6000480#32 = .ok (.trap false 9)
    ∧ decode 0xA6400000#32 = .ok (.brk false) ∧ decode 0xA700C007#32 = .ok (.segld false 3 0 7)

/-- For every well-formed instruction that has a word, decoding its word gives it back, with every operand at every
value the encoding admits; the rows that share a word (R354, R306, R362) give the row that stands for them. (R31,
R34, R37, R38) -/
def Obligations.DecodeGivesBackEncoded : Prop :=
  ∀ i : Instr, Laws.RoundTrip.Statement i

/-- A word that decodes is the encoding of the instruction it decodes to, and that instruction is well-formed: no bit of
a word is dropped, no reserved bit passes, and no two words decode to one instruction. (R31, R33, R47, R49, R52) -/
def Obligations.DecodedWordsEncodeBack : Prop :=
  ∀ (w : Word) (i : Instr), decode w = .ok i → i.wellFormed = true ∧ encode i = some w

/-- The canonical form of memory is kept by every step. That an unlisted byte reads as zero is the model's choice (log
2). (R160) -/
def Obligations.StepsKeepMemoryCanonical : Prop :=
  ∀ s t : State, Memory.wf s.mem = true → step s = .next t → Memory.wf t.mem = true

/-- The state after reset. That what the spec gives no reset value is zero is the model's choice (log 3). These points
in it are the model's choices: what the spec gives no reset value is zero (log 3); unlisted bytes read zero (log 2).
(R348, R350, R363, R371, R375, R386) -/
def Obligations.ResetState : Prop :=
  State.reset.power = false ∧ State.reset.cycle = 0 ∧ State.reset.trapVec = 0 ∧ State.reset.trapBase = 0
    ∧ (∀ i, i < 16 → State.reset.measReg i = List.replicate 64 0) ∧ State.reset.reg 16 .cap = 5200
    ∧ (∀ d, d < 18 → State.reset.cpRuns d = false ∧ (State.reset.group (cpGid d)).mode = .control)
    ∧ (State.reset.group (cpGid 16)).pc = 0x40000 ∧ State.reset.tasks = [] ∧ State.reset.plans = [] ∧ Memory.wf State.reset.mem = true
    ∧ ∀ d, d < 16 → (State.reset.die d).stackOff = true

/-- Each instruction of R79 to R82 that writes one scalar register issues completely: S(sd) is r of its table, computed
from the sources at issue, and nothing else changes: no other register, no flag, no byte of memory. (R69, R79, R80,
R81, R82) -/
def Obligations.ScalarResults : Prop :=
  ∀ i m d f (s : State), (ScalarTable i m d f ∨ ScalarSelect i m d f ∨ ScalarImmediate i m d f ∨ MaskTable i m d f) →
    Issuing s → WritesScalar i m s d.toNat (f s.me)

/-- nop changes nothing but what every issue changes; yield makes the group the youngest and zeroes its pass-over
counts; mffclr clears all five flags of the threads of S(sa) in half 0, and has no effect in half 1; with S(sa) a
multiple of 4, jr continues at S(sa) and jalr does so with PC + 4 in S(sd), S(sa) being read first, and any other
S(sa) raises the illegal-instruction fault; on a control processor a jump ends the fault state. (R65, R78, R82, R84,
R369) -/
def Obligations.GroupControl : Prop :=
  ∀ (s : State) (m : Bool) (d a : Reg), Issuing s →
    exec (.nop m) s = .next (done m s)
    ∧ exec (.yield m) s = .next
        { finished s m (s.me.pc + 4) { s.me with age := s.nextAge, passScalar := 0, passVector := 0 } with nextAge := s.nextAge + 1 }
    ∧ exec (.mffclr m a true) s = .next (done m s)
    ∧ (∃ g, exec (.mffclr m a false) s = .next (finished s m (s.me.pc + 4) g) ∧ g = { s.me with ff := g.ff }
        ∧ g.ff.nv = s.me.ff.nv &&& ~~~s.me.getS a.toNat ∧ g.ff.dz = s.me.ff.dz &&& ~~~s.me.getS a.toNat
        ∧ g.ff.of = s.me.ff.of &&& ~~~s.me.getS a.toNat ∧ g.ff.uf = s.me.ff.uf &&& ~~~s.me.getS a.toNat
        ∧ g.ff.nx = s.me.ff.nx &&& ~~~s.me.getS a.toNat)
    ∧ ((s.me.getS a.toNat).toNat % 4 = 0 →
      exec (.jr m a) s = .next (finished s m (s.me.getS a.toNat).toNat (jumped s.me))
      ∧ exec (.jalr m d a) s = .next
          (finished s m (s.me.getS a.toNat).toNat ((jumped s.me).setS d.toNat (BitVec.ofNat 64 (s.me.pc + 4)))))
    ∧ ((s.me.getS a.toNat).toNat % 4 ≠ 0 →
      exec (.jr m a) s = .next (s.takeTrap s.cur (some { kind := 1 }))
      ∧ exec (.jalr m d a) s = .next (s.takeTrap s.cur (some { kind := 1 })))

/-- br and call, and bz, bnz, bmz and bmnz when taken, continue at PC + Sext(off) × 4, taken from the address of the
branch word; a conditional branch that is not taken continues at PC + 4; call writes PC + 4 to S(125); nothing else
changes. (R39, R83) -/
def Obligations.BranchTargets : Prop :=
  (∀ i m t f (s : State), Branch i m t f → Issuing s →
    exec i s = .next (finished s m (if t s.me then f s.me.pc else s.me.pc + 4) s.me))
  ∧ ∀ (s : State) (m : Bool) (o : BitVec 24), Issuing s →
    exec (.call m o) s = .next (finished s m (target s.me.pc o) (s.me.setS 125 (BitVec.ofNat 64 (s.me.pc + 4))))

/-- sld, slds and sst whose access passes the checks issue completely, and their accesses stand behind the group's
earlier ones; at issue no register and no byte of memory changes. One that fails a check takes that check's fault,
before any effect. (R85, R135, R146, R159) -/
def Obligations.ScalarAccesses : Prop :=
  (∀ i m d a g z e sg ps (s : State), ScalarLoad i m d a g z e sg → Issuing s → HasRoom s → NoRegisters s g →
    (z.bytes = 16 → d.toNat % 2 = 0) → ScalarChecked s g { r := true } (scalarOff s a z.bytes e) z.bytes ps →
    QueuesAccess i m s
      { pc := 0, seg := some g.toNat, result := true, dest := .scalar d.toNat z.bytes sg, todo := ps.map .load })
  ∧ (∀ m d a g z e ps (s : State), Issuing s → NoRegisters s g → (z.bytes = 16 → d.toNat % 2 = 0) →
    ScalarChecked s g { w := true } (scalarOff s a z.bytes e) z.bytes ps →
    QueuesAccess (.sst m d a g z e) m s { pc := 0, seg := some g.toNat, todo := stores (scalarBytes s d z.bytes) ps })
  ∧ ∀ m d a g z e k o (s : State), Issuing s → NoRegisters s g → (z.bytes = 16 → d.toNat % 2 = 0) →
    (∀ i sg, ScalarLoad i m d a g z e sg →
      AccessFault s s.cur (s.asker s.me) (segOf s g) { r := true } 0 (scalarOff s a z.bytes e) z.bytes k o →
      Traps i s (faultOf g.toNat none k o))
    ∧ (AccessFault s s.cur (s.asker s.me) (segOf s g) { w := true } 0 (scalarOff s a z.bytes e) z.bytes k o →
      Traps (.sst m d a g z e) s (faultOf g.toNat none k o))

/-- A control processor's 8-byte load or store of a register at a multiple of 8 issues behind its earlier accesses; a
store of a value with a reserved bit set raises the illegal-instruction fault; a store to the flash window blocks
its writer. These points in it are the model's choices: an access is checked at issue, after the group's own, and
takes effect when it is performed (log 21); a control processor's operation is one step (log 10). (R366, R367, R368,
R370) -/
def Obligations.ControlSpaceAccesses : Prop :=
  ∀ (s u : State) (m : Bool) (d a : Reg) (g : BitVec 3) (e : BitVec 4) (ps : List Piece) (r : CtlReg) (x : Nat),
    Issuing s → s.me.mode = .control → Settles s u → ((segOf s g).space = 10 ∨ (segOf s g).space = 11) → scalarOff s a 8 e = x → x % 8 = 0 →
    u.checkAccess u.cur {} g.toNat (segOf s g) {} none x 8 = .ok ps →
    ctlAt (ctlAddr s.cur (segOf s g).space x) = some r →
    ((∀ i sg, ScalarLoad i m d a g .b8 e sg → HasRoom u →
      exec i s = .next (finished u m (u.me.pc + 4) (queued u.me
        { pc := u.me.pc, seg := some g.toNat, dest := .scalar d.toNat 8 false, result := true
          todo := [.ctlLoad (ctlAddr s.cur (segOf s g).space x) 8] })))
    ∧ (r.badValue (s.me.getS d.toNat).toNat = true →
      exec (.sst m d a g .b8 e) s = .next (u.takeTrap u.cur (some { kind := 1 })))
    ∧ (r.badValue (s.me.getS d.toNat).toNat = false →
      (∀ o, r = .sram o → u.cpRuns (ctlAddr s.cur (segOf s g).space x / 2 ^ 24) = false) → (∀ o, r ≠ .flash o) →
      exec (.sst m d a g .b8 e) s = .next (finished u m (u.me.pc + 4) (queued u.me
        { pc := u.me.pc, seg := some g.toNat
          todo := [.ctlStore (ctlAddr s.cur (segOf s g).space x) 8 (s.me.getS d.toNat).toNat] })))
    ∧ ∀ o, r = .flash o →
      exec (.sst m d a g .b8 e) s = .next (blocked (u.setMe (queued u.me
        { pc := u.me.pc, seg := some g.toNat
          todo := [.ctlStore (ctlAddr s.cur (segOf s g).space x) 8 (s.me.getS d.toNat).toNat] })) m .flash))

/-- Each instruction of R106 to R109 writes its result to V(vd, t) in every active thread t, from the sources at issue,
and changes nothing else: no inactive thread, no other register, no flag, no byte of memory. (R105, R106, R108,
R109) -/
def Obligations.LaneArithmetic : Prop :=
  ∀ i m rs d f (s : State), (LaneTable i m rs d f ∨ LaneMove i m rs d f ∨ LaneClass i m rs d f) → LaneReady s rs →
    WritesLanes i m s d.toNat (f s.me)

/-- A lane-set instruction on a control processor, or one that names a vector register at or above the role budget,
raises the illegal-instruction fault before any effect: arithmetic, moves, selects, compares, votes, conversions,
special functions, shuffles, reductions, loads, stores, atomics, quantising and vpopa. Under rep that holds of the
stepped registers of each repetition, at the prefix with REPCNT, and of a limm target at the prefix. On a control
processor so does every instruction of the copy engine, the pipes and the matrix unit. (R21, R30) -/
def Obligations.LaneFaults : Prop :=
  (∀ i rs (s : State), LaneInstr i rs → Issuing s → (s.me.mode = .control ∨ ∃ r ∈ rs, s.me.budget ≤ r.toNat) →
    exec i s = .next (s.takeTrap s.cur (some { kind := 1 })))
  ∧ (∀ i (s : State), CoreOnly i → Issuing s → HasRoom s → s.me.mode = .control → Traps i s { kind := 1 })
  ∧ (∀ (s : State) (n : BitVec 6) (d a b : BitVec 2) (w x : Word) (i : Nat) j rs, Repeats s n d a b w x i → Encodes x j →
    LaneInstr j rs → (∃ r ∈ rs, s.me.budget ≤ r.toNat) →
    exec (.rep n d a b) s = .next ((withRepcnt s (n.toNat + 1 - i)).takeTrap s.cur (some { kind := 1 })))
  ∧ ∀ (s : State) (p : BitVec 24) (w : Word) j rs, Held s w → Encodes w j → LaneInstr j rs → (∃ r ∈ rs, s.me.budget ≤ r.toNat) →
    Traps (.limm p) s { kind := 1 }

/-- Each of them writes to V(vd, t), in every active thread t, the word that the model's element arithmetic gives for
its operands at issue (fopWord and cvtWord, by each instruction's operation and format, which FloatRounding and
FloatSpecialValues hold against the rules), and raises its flags; no inactive thread, other register or byte of
memory changes. (R94, R105, R110, R128) -/
def Obligations.LaneFloats : Prop :=
  ∀ i m rs d f (s : State), LaneFloat i m rs d f → LaneReady s rs →
    WritesFloat i m s d.toNat (fun t => (f s.me t).1) (fun t => (f s.me t).2)

/-- vcvt.sr steps the generator of every active thread once, rounds with its value by R130, overflow by its row of R128,
and leaves the generators of inactive threads as they are. These points in it are the model's choices: R101's
tininess under .sr is tested with the same draw (log 71). (R126, R128, R130, R131) -/
def Obligations.StochasticConversions : Prop :=
  (∀ i m d a c sat (s : State), StochasticConvert i m d a c sat → LaneReady s [d, a] →
    ∃ g, exec i s = .next (finished s m (s.me.pc + 4) g) ∧ g = { s.me with v := g.v, ff := g.ff, gen := g.gen }
      ∧ (∀ t, t < 64 → generator g t = if s.me.xm.getLsbD t then stepped (generator s.me t) else generator s.me t)
      ∧ (∀ r t, t < 64 → g.getV r t = if r = d.toNat ∧ s.me.xm.getLsbD t = true then
          (cvtWord ⟨s.me.rounding, sat, some (stepped (generator s.me t))⟩ c (s.me.getV a.toNat t) (s.me.getV d.toNat t)).1
        else s.me.getV r t)
      ∧ FlagsRaised s.me.xm s.me.ff g.ff fun t =>
          (cvtWord ⟨s.me.rounding, sat, some (stepped (generator s.me t))⟩ c (s.me.getV a.toNat t) (s.me.getV d.toNat t)).2)
  ∧ ∀ (r : Rounding) sat F P (x a d : Word), r.rm < 4 → (F, P) ∈ codesFrom → F < 5 →
    FromF32 r sat (some x.toNat) a d F P (cvtWord ⟨r, sat, some x⟩ (cvtCode 0 F P) a d)

/-- The machine's own tables of the float operations (fopWord, fdivWord, sfuWord, cvtWord) against the rules: on finite
operands the exact value of R95 is rounded once, by FPCTL.RM, with overflow, tiny results, FTZ, signs of zeros and
flags as R100 to R104 write; a pair is two such operations; square roots are pinned by squares; conversions by R126
to R129, for every operand. The other special functions of R123 are irrational, and are pinned at their exact and
their special operands in FloatSpecialValues. (R95, R98, R99, R100, R101, R102, R104, R110, R123, R126, R128, R129) -/
def Obligations.FloatRounding : Prop :=
  (∀ f ∈ laneFormats, ∀ (r : Rounding) op (a b c : Nat) x one z, r.rm < 4 → (∀ y ∈ readsOf op a b c, IsFinite f y) →
    Computes f r a b c op x one z → Results f r x one z (fopCode f r op a b c))
  ∧ (∀ (r : Rounding) (a b : Word), r.rm < 4 → IsFinite fmtF32 a.toNat → IsFinite fmtF32 b.toNat → units fmtF32 r.ftz b.toNat ≠ 0 →
    ∃ y fl, fdivWord r a b = (y, fl)
      ∧ Results fmtF32 r (units fmtF32 r.ftz a.toNat * 2 ^ 149 * (if units fmtF32 r.ftz b.toNat < 0 then -1 else 1))
          (units fmtF32 r.ftz b.toNat).natAbs (negOf fmtF32 a.toNat != negOf fmtF32 b.toNat) (y.toNat, fl))
  ∧ (∀ (r : Rounding) (a : Word), r.rm < 4 → IsFinite fmtF32 a.toNat → units fmtF32 r.ftz a.toNat ≠ 0 →
    ∃ y fl, sfuWord .rcp r a = (y, fl) ∧ Results fmtF32 r (if units fmtF32 r.ftz a.toNat < 0 then -(2 ^ 298) else 2 ^ 298)
      (units fmtF32 r.ftz a.toNat).natAbs (negOf fmtF32 a.toNat) (y.toNat, fl))
  ∧ (∀ ty f (r : Rounding) op (a b c : Word) lo hi, PairType ty f → lo = fopCode f r op (a.toNat % 2 ^ 16) (b.toNat % 2 ^ 16) (c.toNat % 2 ^ 16) →
    hi = fopCode f r op (a.toNat / 2 ^ 16) (b.toNat / 2 ^ 16) (c.toNat / 2 ^ 16) →
    Halves (fopWord ty r op a b c).1 lo.1 hi.1 ∧ (fopWord ty r op a b c).2 = lo.2.or hi.2)
  ∧ (∀ (r : Rounding) op (a b c : Word) y, y = fopCode fmtF32 r op a.toNat b.toNat c.toNat →
    fopWord .f32 r op a b c = (BitVec.ofNat 32 y.1, y.2))
  ∧ (∀ (r : Rounding) (a : Word) u, r.rm < 4 → IsFinite fmtF32 a.toNat → u = (units fmtF32 r.ftz a.toNat).natAbs →
    0 < units fmtF32 r.ftz a.toNat →
    (∃ k, RootOf (wayOf r.rm false) (u * 2 ^ 149) 1 k ∧ sfuWord .sqrt r a = (BitVec.ofNat 32 k, { nx := decide (grid fmtF32 k ^ 2 ≠ u * 2 ^ 149) }))
    ∧ ∃ k, RootOf (wayOf r.rm false) (2 ^ 447) u k ∧ sfuWord .rsq r a = (BitVec.ofNat 32 k, { nx := decide (grid fmtF32 k ^ 2 * u ≠ 2 ^ 447) }))
  ∧ (∀ (r : Rounding) sat F P (a d : Word), r.rm < 4 → (F, P) ∈ codesFrom →
    FromF32 r sat none a d F P (cvtWord ⟨r, sat, none⟩ (cvtCode 0 F P) a d))
  ∧ ∀ (r : Rounding) F P (a d : Word), r.rm < 4 → (F, P) ∈ codesInto →
    ∃ y fl, cvtWord ⟨r, false, none⟩ (cvtCode 1 F P) a d = (BitVec.ofNat 32 y, fl) ∧ ToF32 r a F P (y, fl)

/-- An operation of R110 with a NaN or infinite operand gives the canonical NaN or the infinity that R102 to R104 say,
with NV where they say; vfmin and vfmax choose as R111, vfcmp answers as R112, vfclass as R113, for each half of a
pair; the special functions and the quotient at the special operands of R123, and at its exact ones: vexp2 of
integers, vlog2 of powers of two, vsin and vcos at quarter turns, large operands among them; and E8M0 as R128. (R95,
R102, R103, R104, R110, R111, R112, R113, R123, R128) -/
def Obligations.FloatSpecialValues : Prop :=
  (∀ f ∈ laneFormats, ∀ (r : Rounding) (a b c : Nat), r.rm < 4 → CodeOf f a → CodeOf f b → CodeOf f c →
    (∀ op y, Special f r.ftz a b c op y → fopCode f r op a b c = y)
    ∧ Extreme f r.ftz false a b (fopCode f r .min a b c) ∧ Extreme f r.ftz true a b (fopCode f r .max a b c)
    ∧ (∀ k, Compares f r.ftz k a b (fcmpCode f r.ftz k a b))
    ∧ ∃ n, ClassOf f a n ∧ classCode f a = 2 ^ n)
  ∧ (∀ rm (a b : Word) y fl, rm < 4 → (∀ fn, SpecialValue fn a.toNat y fl → sfuWord fn ⟨rm, false⟩ a = (BitVec.ofNat 32 y, fl))
    ∧ (SpecialQuotient false a.toNat b.toNat (y, fl) → fdivWord ⟨rm, false⟩ a b = (BitVec.ofNat 32 y, fl))
    ∧ (SpecialQuotient true a.toNat b.toNat (y, fl) → fdivWord ⟨rm, true⟩ a b = (BitVec.ofNat 32 y, fl)))
  ∧ (∀ fn (r : Rounding) (a : Word), r.rm < 4 → IsNan fmtF32 a.toNat →
    ∃ nv, (nv = true ↔ IsSig fmtF32 a.toNat) ∧ sfuWord fn r a = (0x7FC00000#32, { nv := nv }))
  ∧ (∀ c, c < 2 ^ 32 → Exponent c (toE8M0 c))
  ∧ (∀ ty f (a : Word), PairType ty f → Halves (fclassWord ty a) (classCode f (a.toNat % 2 ^ 16)) (classCode f (a.toNat / 2 ^ 16)))
  ∧ (∀ a : Word, fclassWord .f32 a = BitVec.ofNat 32 (classCode fmtF32 a.toNat))
  ∧ ∀ (r : Rounding) (a : Word), r.rm < 4 → IsFinite fmtF32 a.toNat →
    (∀ n : Int, -149 ≤ n → n ≤ 127 → units fmtF32 r.ftz a.toNat = n * 2 ^ 149 →
      ∃ y fl, sfuWord .exp2 r a = (y, fl) ∧ Results fmtF32 r (2 ^ (n + 149).toNat) 1 false (y.toNat, fl))
    ∧ (∀ n : Nat, n ≤ 276 → units fmtF32 r.ftz a.toNat = 2 ^ n →
      ∃ y fl, sfuWord .log2 r a = (y, fl) ∧ Results fmtF32 r (((n : Int) - 149) * 2 ^ 149) 1 false (y.toNat, fl))
    ∧ ∀ q fn k, units fmtF32 r.ftz a.toNat = q * 2 ^ 147 → QuarterTurns q (negOf fmtF32 a.toNat) fn k →
      sfuWord fn r a = (BitVec.ofNat 32 k, {})

/-- vcmp, vfcmp, vote and vfirst write the masks of the active threads in which their condition or predicate holds; what
a float condition answers is the model's fcmpCode, which FloatSpecialValues pins to R112. (R105, R107, R112, R121,
R122) -/
def Obligations.LaneMasks : Prop :=
  (∀ i m rs d f (s : State), LaneCompare i m rs d f → LaneReady s rs →
    WritesScalar i m s d.toNat (threadMask fun t => s.me.xm.getLsbD t && f s.me t))
  ∧ (∀ i m rs d p f (s : State), FloatCompare i m rs d p f → LaneReady s rs →
    WritesMasks i m s
      (fun r => if r = d.toNat + 1 ∧ p = true then some (threadMask fun t => s.me.xm.getLsbD t && (f s.me t 1).1)
        else if r = d.toNat then some (threadMask fun t => s.me.xm.getLsbD t && (f s.me t 0).1) else none)
      (fun t => if p then (f s.me t 0).2.or (f s.me t 1).2 else (f s.me t 0).2))
  ∧ ∀ i m rs d f (s : State), Vote i m rs d f → LaneReady s rs → WritesScalar i m s d.toNat (f s.me)

/-- With room for a result they issue; the words and flags of the active threads are outstanding, and nothing else
changes at issue. The special functions and quotients take the values that the model's own functions give (sfuWord
and fdivWord; FloatRounding and FloatSpecialValues say which of R123's these are stated to be); words move between
threads as R117 to R119 give, from sources read in every thread, active or not; vext reads one thread into S(sd).
These points in it are the model's choices: a result is fixed at issue and delivered piece by piece (log 7); how the
special functions are computed (log 15). (R67, R71, R115, R116, R117, R118, R119, R123) -/
def Obligations.VariableLatencyLaneInstructions : Prop :=
  (∀ i m rs d f (s : State), SpecialFunction i m rs d f → LaneReady s rs → HasRoom s →
    QueuesLanes i m s d.toNat (fun t => (f s.me t).1) (fun t => (f s.me t).2))
  ∧ (∀ i m rs d f (s : State), Shuffle i m rs d f → LaneReady s rs → HasRoom s →
    QueuesLanes i m s d.toNat (f s.me) (fun _ => {}))
  ∧ ∀ m d a b (s : State), LaneReady s [a] → HasRoom s →
    exec (.vext m d a b) s = .next (finished s m (s.me.pc + 4)
      (sResult s d ((s.me.getV a.toNat ((s.me.getS b.toNat).toNat % 64)).setWidth 64)))

/-- vlred and vscan combine the active threads' values in the order R120 writes, absent positions as the identity, the
lower-indexed value on the left, every flag of every step set in every active thread; for the integer operations
that gives what combining the active threads from left to right gives: a reduction of all of them, a scan at an
active thread of those up to it. These points in it are the model's choices: a NaN that meets no other value is
delivered as it is (log 70); delivery (log 7). (R120) -/
def Obligations.CombineOrder : Prop :=
  (∀ i m d a scan op (s : State), Combine i m d a scan op → LaneReady s [d, a] → HasRoom s →
    QueuesLanes i m s d.toNat (fun t => (combValue scan op s.me a.toNat 6 (if scan then t else 0)).getD 0)
      (fun _ => combFlags scan op s.me a.toNat))
  ∧ ∀ (op : RedOp) (g : Group) (a t : Nat), RedOp.isInt op = true → t < 64 →
    (g.xm ≠ 0 → combValue false op g a 6 0 = some (combined op g a (active g)))
    ∧ (g.xm.getLsbD t = true → combValue true op g a 6 t = some (combined op g a ((active g).filter fun u => decide (u ≤ t))))

/-- vqblk quantises the two blocks of 32 threads, an inactive thread as +0; thread t is to receive its word of its
block, with NV for a NaN or an infinity and NX where the decoded value differs; the blocks are those of the model's
own quantise, which MatrixArithmetic pins to R294. In a team without tiles it is an illegal instruction. These
points in it are the model's choices: vqblk works on the threads of the group (log 19); a result is fixed at issue
and delivered piece by piece (log 7). (R22, R293, R294) -/
def Obligations.BlockQuantisation : Prop :=
  (∀ i m d a fn (s : State), Quantise i m d a fn → LaneReady s [d, a] → HasRoom s → 0 < s.myTask.tiles →
    QueuesLanes i m s d.toNat (fun t => (quantBlock s.me a fn t).word fn (t % 32)) (quantFlags s.me a fn))
  ∧ ∀ i m d a fn (s : State), Quantise i m d a fn → Issuing s → s.myTask.tiles = 0 →
    exec i s = .next (s.takeTrap s.cur (some { kind := 1 }))

/-- Acc16 gives the first rows of R274 for NaNs and infinities, and otherwise the exact sum of the accumulator and its
terms, rounded once to nearest; a multiply applies it to each element over its groups of 16 in ascending order; a
quantised block has the scale, the codes and the extension that R294 gives. (R273, R274, R294) -/
def Obligations.MatrixArithmetic : Prop :=
  (∀ (c : Word) (ps : List (Fp × Fp)) (q : Int), q ≤ -149 → IsFinite fmtF32 c.toNat → (∀ p ∈ ps, FiniteTerm q p) →
    ∃ fl, Results fmtF32 ⟨0, false⟩ (units fmtF32 false c.toNat * (2 ^ (-149 - q).toNat : Nat) + (ps.map (termUnits q)).sum)
      (2 ^ (-149 - q).toNat) (negOf fmtF32 c.toNat && magOf fmtF32 c.toNat == 0 && ps.all termNegZero) ((acc16 c ps).toNat, fl))
  ∧ (∀ (c : Word) (ps : List (Fp × Fp)) y, SpecialSum c.toNat ps y → acc16 c ps = BitVec.ofNat 32 y)
  ∧ (∀ (tile : List Word) (groups : Nat) (term : Nat → Nat → Nat → Option (Fp × Fp)) (m n : Nat), m < 64 → n < 64 →
    (multiplyTile tile (16 * groups) term)[64 * m + n]? = some ((List.range groups).foldl
      (fun c g => acc16 c ((List.range 16).filterMap fun i => term m n (16 * g + i))) (tile.getD (64 * m + n) 0)))
  ∧ ∀ fn (cs : List Nat), fn < 3 →
    ((∀ c ∈ cs, IsFinite fmtF32 c) → Quantised fn (cs.map (units fmtF32 false)) (quantise fn (cs.map (unpack fmtF32))))
    ∧ ((∃ c ∈ cs, ¬ IsFinite fmtF32 c) → quantise fn (cs.map (unpack fmtF32)) = ⟨0xFF, 0, cs.map fun _ => 0⟩)

/-- vld, vlds and vst whose active threads all pass the checks issue completely, with the pieces of all active threads
in ascending order; at issue no register and no byte of memory changes. (R145, R146, R159) -/
def Obligations.LaneAccesses : Prop :=
  (∀ i m d a g z e sg P (s : State), LaneLoad i m d a g z e sg → LaneReady s [a] → HasRoom s → DatumReady s d z.bytes →
    Checked s g { r := true } (fun t => laneOff s a t z.bytes e) z.bytes P →
    QueuesAccess i m s { pc := 0, seg := some g.toNat, lanes := true, result := true, dest := .lane d.toNat z.bytes sg
                         todo := (active s.me).flatMap fun t => (P t).map .load })
  ∧ ∀ m d a g z e P (s : State), LaneReady s [a] → DatumReady s d z.bytes →
    Checked s g { w := true } (fun t => laneOff s a t z.bytes e) z.bytes P →
    QueuesAccess (.vst m d a g z e) m s
      { pc := 0, seg := some g.toNat, lanes := true, todo := (active s.me).flatMap fun t => stores (laneBytes s d t z.bytes) (P t) }

/-- When some active thread's access of a vld, vlds, vst, vatom or vred fails a check, the lowest such thread's fault is
taken, before any effect; of an atomic a misaligned offset is an illegal instruction. An access whose register group
is misaligned or runs out of the file, a 64-bit atomic in a private segment and an atomic in control space are
illegal instructions. (R85, R146, R188, R191, R193) -/
def Obligations.LaneAccessFaults : Prop :=
  (∀ i (s : State) chk t x (P : Nat → List Piece), LaneAccess s i chk → t ∈ active s.me → chk t = .error x →
    (∀ u ∈ active s.me, u < t → chk u = .ok (P u)) → exec i s = .next (s.takeTrap s.cur (some x)))
  ∧ ∀ i (s : State), Misnamed s i → Issuing s → Traps i s { kind := 1 }

/-- An access of at least one byte fails exactly when one of the checks of R146 and R191 does, with the kind of the
first check that some piece fails and the offset of the lowest piece that fails it; one that passes lies within its
segment's limit, and its pieces cover its bytes in order, each once. A walk of the page table ends at the leaf that
R139 gives, or with the page fault of R141. (R135, R136, R139, R140, R141, R145, R146, R167, R191) -/
def Obligations.AccessPieces : Prop :=
  (∀ (s : State) (gid : Nat) (k : Asker) (seg : Nat) (g : Segment) (need : Need) (t : Option Nat) (a : Int) (n : Nat), 0 < n →
    (∀ ps, s.checkAccess gid k seg g need t a n = .ok ps →
      0 ≤ a ∧ a + n ≤ g.limit ∧ (ps.flatMap fun p => (List.range p.len).map (p.pos + ·)) = List.range n)
    ∧ ∀ x, s.checkAccess gid k seg g need t a n = .error x ↔
      ∃ kind o, AccessFault s gid k g need (t.getD 0) a n kind o ∧ x = faultOf seg t kind o)
  ∧ ∀ (s : State) (root va e k : Nat), (2 ^ 56 ≤ va → s.walk root va = .error 5)
    ∧ (va < 2 ^ 56 → root < 2 ^ 40 → (Walks s va 4 root e → s.walk root va = .ok e) ∧ (WalkFault s va 4 root k → s.walk root va = .error k))

/-- A lane atomic or reduction issues with one request for each distinct target among the active threads, in the order
of its lowest thread, carrying the operands of all threads of that target in ascending order; satom issues once,
whatever the mask holds, with operands S(sd) and S(sd + 1) cut to its width, or takes the fault of its first failing
check, alignment first. These points in it are the model's choices: size 3 in a private segment is illegal whatever
the mask holds (log 57); private atomics (log 13); a reduction stays outstanding until its reply (log 14). (R184,
R188, R190, R191) -/
def Obligations.AtomicsIssue : Prop :=
  (∀ i m d a g z op ret P (s : State), LaneAtomic i m d a g z op ret → LaneReady s [a] → AtomReady s op d a z.bytes →
    (z = .b4 ∨ z = .b8) → ((segOf s g).space = 0 → z = .b4) → (ret = true → HasRoom s) →
    (∀ t ∈ active s.me, (s.me.getV a.toNat t).toNat % z.bytes = 0) →
    Checked s g { r := ret, w := true, atomic := true } (fun t => un (s.me.getV a.toNat t)) z.bytes P →
    QueuesAccess i m s { pc := 0, seg := some g.toNat, lanes := true, result := ret, atomic := true
                         dest := if ret then .lane d.toNat z.bytes false else .none
                         todo := requestsOf s op d a g z.bytes P })
  ∧ (∀ i m d a g z op ps (s : State), ScalarAtomic i m d a g z op → Issuing s → HasRoom s → NoRegisters s g → (z = .b4 ∨ z = .b8) →
    ((segOf s g).space = 0 → z = .b4) → (op = .cas → d.toNat ≤ 126) → (s.me.getS a.toNat).toNat % z.bytes = 0 →
    ScalarChecked s g { r := true, w := true, atomic := true } (un (s.me.getS a.toNat)) z.bytes ps →
    QueuesAccess i m s { pc := 0, seg := some g.toNat, result := true, atomic := true
                         dest := .scalar d.toNat z.bytes (decide (op = .minS ∨ op = .maxS))
                         todo := [.atomic op z.bytes ps [(0, (s.me.getS d.toNat).toNat % 2 ^ (8 * z.bytes),
                           (s.me.getS (d.toNat + 1)).toNat % 2 ^ (8 * z.bytes))]] })
  ∧ ∀ i m d a g z op (s : State), ScalarAtomic i m d a g z op → Issuing s → NoRegisters s g → (z = .b4 ∨ z = .b8) →
    ((segOf s g).space = 0 → z = .b4) → (op = .cas → d.toNat ≤ 126) →
    ((s.me.getS a.toNat).toNat % z.bytes ≠ 0 → Traps i s (faultOf g.toNat none 1 (un (s.me.getS a.toNat))))
    ∧ ∀ k o, (s.me.getS a.toNat).toNat % z.bytes = 0 →
      AccessFault s s.cur (s.asker s.me) (segOf s g) { r := true, w := true, atomic := true } 0 (un (s.me.getS a.toNat)) z.bytes k o →
      Traps i s (faultOf g.toNat none k o)

/-- On a range of a global segment, hflush and hinval issue one access for the host lines among its lines; a range with
no host page, or of no bytes, has no effect. These points in it are the model's choices: copies of host lines (log
8); which stores of other groups a flush covers (log 76). (R149) -/
def Obligations.HostSynchronisation : Prop :=
  ∀ i m g a b acc (s : State), HostSync i m g a b acc → Issuing s →
    (sReg s b = 0 → exec i s = .next (done m s))
    ∧ ∀ leaf : Nat → Nat, 0 < sReg s b → (segOf s g).space = 2 → sReg s a + sReg s b ≤ (segOf s g).limit →
      (∀ va ∈ linesOf ((segOf s g).base + sReg s a) (sReg s b), s.leaf? (s.asker s.me) va = .ok (leaf va)) →
      ((∀ va ∈ linesOf ((segOf s g).base + sReg s a) (sReg s b), leafAperture (leaf va) ≠ 4) → exec i s = .next (done m s))
      ∧ ((∃ va ∈ linesOf ((segOf s g).base + sReg s a) (sReg s b), leafAperture (leaf va) = 4) →
        QueuesAccess i m s { pc := 0, seg := some g.toNat, todo := [acc (((linesOf ((segOf s g).base + sReg s a) (sReg s b)).filter
          fun va => leafAperture (leaf va) == 4).map fun va => s.place (leaf va) va / 64)] })

/-- Team barriers and the Arbor: an arrival counts and returns the phase it found, the last one zeroes the count and
steps the phase, waits go on or block by the phase, and nothing else changes; every write that reaches a barrier
word has the groups that wait for it examined, and one whose phase has moved is released whatever is written later.
These points in it are the model's choices: the checks of a barrier word (log 58); a lent core counts as a member
(log 59). (R194, R195, R196, R197, R199, R200) -/
def Obligations.Barriers : Prop :=
  (∀ i (s t : State), BarrierRule i s t → exec i s = .next t)
  ∧ ∀ (s t : State) (a tag gid x p seg off : Nat) (arr : Bool) (bs : List Byte), t = s.writeTagged a bs tag →
    Reaches16 a bs.length x → (s.group gid).wait = some (.barrier x p arr seg off) → ReadableBarrier t x →
    (phaseOf t x ≠ p → t.group gid = { s.group gid with wait := some (.woken none 0 none (if arr then some p else none)) })
    ∧ (phaseOf t x = p → t.group gid = s.group gid)

/-- Loads, stores, atomics and host synchronisation take their places in program order, results come back, hints pass,
slices are retired, stubs removed and slices added, the host reads and writes the Belvedere window, and barriers
wake. These points in it are the model's choices: delivery (log 7); host copies and combining buffers (log 8);
slices change no value (log 51); a lost store or atomic is never performed (log 55); the order of steps is the pod
order (log 56); which stores of other groups a flush covers (log 76). (R137, R149, R154, R155, R159, R161, R179,
R185, R186, R195, R199) -/
def Obligations.MemorySteps : Prop :=
  ∀ i (s t : State), MemoryStep i s t → exec i s = .next t

/-- When a group's next access is a store to memory of the module, its performing leaves every byte of the store at the
stored value and every other byte of memory as it was. These points in it are the model's choices: the order of
steps is the pod order (log 56). (R160, R161) -/
def Obligations.StoresWriteTheirBytes : Prop :=
  ∀ (s : State) (gid : Nat) (pre post : List Pending) (p : Pending) (q : Piece) (bs : List Byte),
    NextAccess s gid pre post p (.store q bs) [] → s.addrLost q.addr = false → isHost q.addr = false →
    s.edgeDenied (s.askerAt gid) q.key q.addr = false →
    ∃ t, exec (.storePerformed gid) s = .next t
      ∧ ∀ a, t.byte a = if q.addr ≤ a ∧ a < q.addr + bs.length then bs.getD (a - q.addr) 0 else s.byte a

/-- Bytes written to a place of the module, or of a switch that grants the tenant the granule, or of a peer, whose edges
hold the key, are the bytes read from it under the same key, where the module's own table has that key under the id
too. These points in it are the model's choices: equal key material reads alike (log 48); what an access reads
between tables that differ is a free value (log 97). (R160, R362) -/
def Obligations.ReadAfterWrite : Prop :=
  ∀ (s : State) (who : Asker) (key a : Nat) (bs : List Byte), isHost a = false → s.edgeDenied who key a = false →
    (keyTable a = 63 ∨ s.keyTag 63 key = s.keyTag (keyTable a) key) →
    (∀ k, s.keys.get? (keyTable a * 8192 + key) = some k → k.length = 64) →
    (s.writePiece who key a bs).readPiece who key a bs.length = bs

/-- An access to a granule that the tenant does not own, or under a key that its switch does not hold, reads zeros,
uncorrectable bytes or not, or writes nothing; either way the tenant's violation count rises by one, saturating at
15, and no byte of memory changes. (R335, R362) -/
def Obligations.RefusedPavilionAccesses : Prop :=
  ∀ (s : State) (who : Asker) (key a n : Nat) (bs : List Byte), isPav a = true → s.edgeDenied who key a = true →
    s.readPiece who key a n = List.replicate n 0 ∧ s.readsBad who key a n = false
    ∧ (s.writePiece who key a bs).mem = s.mem ∧ (s.afterRead who key a).mem = s.mem
    ∧ ((s.writePiece who key a bs).switch (pavSwitch a)).viol.getD who.tenant 0
      = min 15 ((s.switch (pavSwitch a)).viol.getD who.tenant 0 + 1)
    ∧ ((s.afterRead who key a).switch (pavSwitch a)).viol.getD who.tenant 0
      = min 15 ((s.switch (pavSwitch a)).viol.getD who.tenant 0 + 1)

/-- cpy, cpy.row, cpy.close, cpy.mc, qfence, kwait, kwait.obj and mcready: entries enter their queues and count on their
tokens, waits go on or block; the first test of R209, of R210 or of the instruction that fails gives the fault, and
a full fault slot that of kwait; every write that reaches a byte-count object has the groups that wait for it
examined, and one whose COUNT is zero or whose FAULT is set then is released whatever is written later. These points
in it are the model's choices: the shape rules of a slot record (log 12); the order of the two records in the checks
(log 78); uncorrectable bytes of a record or an object (log 88); whose size the bound is on (log 90); which tests
stand first (log 91). (R202, R203, R207, R208, R209, R210, R213, R214, R215, R216, R217, R220) -/
def Obligations.CopyInstructions : Prop :=
  (∀ i (s t : State), CopyRule i s t → exec i s = .next t)
  ∧ (∀ i (s u : State) k, CopyFault i s u k → FaultsWith i s u k)
  ∧ (∀ (s u : State) (m : Bool) (k : BitVec 8) (n : Nat) (f : TokenFault), Issuing s → Settles s u → s.me.mode ≠ .control →
    TokenFaulted u k n f → exec (.kwait m k) s = .next ((u.setMe (u.me.setToken n { u.me.token n with fault := none })).takeTrap u.cur
      (some { kind := f.kind, src := 1, token := n, queue := f.queue, dstRec := f.dstRec, srcRec := f.srcRec, offset := f.offset })))
  ∧ (∀ (s : State) (off : Nat), RecordAt s off (s.recAt off))
  ∧ (∀ (s : State) (offs : List Nat) (obj : Option Nat), firstKind (recordChecks s offs obj.toList) = none →
    s.copyRecords offs obj = .ok (offs.map s.recAt))
  ∧ (∀ (s : State) (dst src : Nat) (obj : Option Nat), firstKind (copyChecks s dst src obj []) = none →
    s.copyCheck dst src obj (fun _ _ => none) = .ok (s.recAt dst, s.recAt src))
  ∧ (∀ (s : State) (dst : Bool) (r : Rec), (GoodSpace s r → s.recSpaceOk r = true)
    ∧ (firstKind (segmentChecks s dst r) = none → s.recSegment dst r = none)
    ∧ (firstKind (slotChecks s dst r) = none → s.recPipe dst r = none))
  ∧ ∀ (s t : State) (a tag gid x d seg off : Nat) (bs : List Byte), t = s.writeTagged a bs tag → Reaches8 a bs.length x →
    (s.group gid).wait = some (.object x d seg off) → ReadableObject t x →
    (2 ^ 32 ≤ t.num x 8 → t.group gid = { s.group gid with wait := some (.woken (some d) 1 none) })
    ∧ (t.num x 8 = 0 → t.group gid = { s.group gid with wait := some (.woken (some d) 0 none) })
    ∧ (0 < t.num x 8 → t.num x 8 < 2 ^ 32 → t.group gid = s.group gid)

/-- Entries start, pieces move and count down, failures stop an entry, entries complete, fences end, multicasts are
sorted and acknowledged, parked tiles drain, bulk streams close and time out. These points in it are the model's
choices: when a receiver is Late (log 9); pieces (log 10); a failed multicast (log 64); a tile whose receiver ends
while it is written (log 77); a stream that an ended task leaves open (log 79). (R202, R206, R207, R211, R214, R215,
R217, R218, R220, R221, R222) -/
def Obligations.CopySteps : Prop :=
  ∀ i (s t : State), CopyStep i s t → exec i s = .next t

/-- preserve, pcommit, pclaim, prelease and pquery act on the pipe at its home, blocking or answering as the rules say;
pquery writes FREE, AVAIL(c), the resident and the spilled count and CL(c) to S(sd), and changes no other state of
the machine but that the answer of a home elsewhere has come in; the first test of R237 that fails gives the fault;
slots refill, and a blocked preserve is performed when FREE rises. These points in it are the model's choices:
uncorrectable bytes of a record (log 88); the order of the tests (log 91); KIND and DIR of a slot record as R237
gives them (log 61); a pipe's home off the module (log 60); a refill moves a sector in one step (log 63). (R226,
R230, R231, R232, R233, R234, R235, R237) -/
def Obligations.PipeInstructions : Prop :=
  (∀ i (s t : State), PipeRule i s t → exec i s = .next t) ∧ (∀ i (s t : State), PipeStep i s t → exec i s = .next t)
  ∧ (∀ i (s u : State) k, PipeFault i s u k → FaultsWith i s u k)
  ∧ ∀ (s u v : State) (m : Bool) (d a : Reg) (n c : Nat) (p : Pipe), Issuing s → Settles s u → s.me.mode ≠ .control →
    Selects u a n c p → Reaches u v p → c < p.consumers.length →
    exec (.pquery m d a) s = .next (done m (withS v d (BitVec.ofNat 64 (p.free + 2 ^ 8 * p.avail c + 2 ^ 16 * p.residentCount
      + 2 ^ 24 * (p.slots.filter fun k => k.2.loc == .spill).length + 2 ^ 32 * (p.cl.getD c 0 % 2 ^ 32)))))

/-- send and sendw wait for admission at a port of the module or for the answer of another one, are refused where there
is none and lost where it is gone; pportq asks for a port's status without blocking, jen and jdis switch a pattern;
a reserved bit in S(sa), sb = 127 and a pattern that is not there are illegal. These points in it are the model's
choices: what a request to another module waits for (log 45); other modules are turns of the tape (log 49). (R244,
R253, R259, R260, R261, R262, R264) -/
def Obligations.JoinInstructions : Prop :=
  (∀ i (s t : State), JoinRule i s t → exec i s = .next t) ∧ ∀ i (s u : State), JoinFault i s u → FaultsWith i s u 1

/-- Sends are admitted, wait, or are refused: by a port that is absent, closed, another tenant's or a pipe head; waiters
are admitted in their order, entries freed, records entered and returned, patterns evaluated and fired, doorbells
and plan events taken. These points in it are the model's choices: a due waiter is admitted whatever COUNT is (log
20); a discarded ticket answers at once (log 44); a launch that waits takes a freed entry first (log 81); patterns
of a plan that is not started fire too (log 82); two heads of one cursor (log 83); the DROPS of a malformed write
(log 84). (R244, R245, R246, R247, R250, R251, R252, R253, R256, R258, R259, R316) -/
def Obligations.JoinSteps : Prop :=
  ∀ i (s t : State), JoinStep i s t → exec i s = .next t

/-- mma, mma.sp, the tile moves, vpopa and mvm enter their commands, or deliver a row, once their checks pass; the first
check that fails, in the order of R284, R291 and R297, gives the fault, and a full matrix fault slot is raised
before the checks. These points in it are the model's choices: operands move sector by sector (log 10); the shape
rules of a slot record (log 12); uncorrectable bytes of a record or a format block (log 88); the place and the
extent of mvm's plane checks (log 93). (R22, R270, R271, R278, R280, R282, R284, R287, R291, R292, R296, R297) -/
def Obligations.MatrixInstructions : Prop :=
  (∀ i (s t : State), MatrixRule i s t → exec i s = .next t)
  ∧ (∀ i (s u : State) k, MatrixFault i s u k → FaultsWith i s u k)
  ∧ (∀ i (s u : State) (k tile off : Nat), RaisesSlot i s u → u.me.matFault = some (k, tile, off) →
    exec i s = .next ((u.setMe { u.me with matFault := none }).takeTrap u.cur
      (some { kind := k, src := 2, tile := tile, offset := off })))
  ∧ (∀ (s : State) (off : Nat), BlockAt s off (blockOf s off))
  ∧ ∀ (s : State) (sparse dst : Bool) (k : BitVec 3) (a b c : Reg) (obj : Option Nat),
    (firstKind (multiplyChecks s sparse a b c) = none →
      Multiplies s sparse a b c (blockOf s (sReg s a)) (s.recAt (sReg s b)) (s.recAt (sReg s c)) (s.recAt (blockOf s (sReg s a)).mdrec))
    ∧ (firstKind (tileChecks s a dst obj) = none → TileRecord s a dst obj (s.recAt (sReg s a)))
    ∧ ((s.me.token k.toNat).pend < 255 → firstKind (productChecks s a b c) = none →
      Products s k a b c (blockOf s (sReg s a)) (s.recAt (sReg s b)) (s.recAt (sReg s c)) (s.recAt (blockOf s (sReg s a)).mdrec))

/-- Commands start in order, tiles are zeroed, loaded and stored, products accumulate, rows enter the accumulator queue,
commands and products at a stack complete. These points in it are the model's choices: operands move sector by
sector (log 10); delivery (log 7); when a latched A is fetched (log 75). (R273, R277, R278, R280, R282, R283, R285,
R286, R289, R290, R291, R296) -/
def Obligations.MatrixSteps : Prop :=
  ∀ i (s t : State), MatrixStep i s t → exec i s = .next t

/-- exit, spawn, plan.ld and plan.go act on tasks and plans, with the statuses and the faults the rules give; a record
is rejected with the lowest REASON of which a check fails, and the lowest index of it. These points in it are the
model's choices: what a member of a gang checks (log 11); plan.ld waits for service (log 47); padding, space codes
and full tables of a plan record (log 67); faults at a commit word (log 68); a task that ends without exit (log 66);
the record places of REASON 7 (log 80). (R78, R242, R249, R304, R305, R306, R307, R308, R309, R312, R319, R321) -/
def Obligations.TaskInstructions : Prop :=
  (∀ i (s t : State), TaskRule i s t → exec i s = .next t)
  ∧ (∀ i (s u : State) k, TaskFault i s u k → FaultsWith i s u k)
  ∧ ∀ (s : State) n h a r, r = planRecord n h a → (∀ k i, FirstViolation s r k i → s.rejects r = some (k, i))
    ∧ ((∀ k i, ¬ Violates s r k i) → s.rejects r = none)

/-- Records are dispatched, tasks start and exit, queues overflow and refill, priorities are computed, cores are moved,
deadlock and quiescence are found, gangs start and abort. These points in it are the model's choices: when a lent
core returns (log 34); progress (log 62); a task that ends otherwise (log 66); a commit word (log 68); a send to
another module as a waiting producer (log 85). (R78, R310, R311, R312, R313, R314, R315, R317, R318, R320, R321) -/
def Obligations.TaskSteps : Prop :=
  ∀ i (s t : State), TaskStep i s t → exec i s = .next t

/-- pvalloc, pvfree and pvq issue with what they ask of their switch outstanding; there pvalloc takes the lowest run of
free granules of the switch, or of the first switch that can serve, within the tenant's limit; pvfree frees an
allocation of the tenant; pvq reads the quota word; each reports its status. These points in it are the model's
choices: a freed granule is not free until it is zeroed, and a request acts at its switch (log 39); pvq of no switch
(log 40); what LARGEST counts (log 50); the place of LARGEST (log 52). (R334, R337, R338, R339) -/
def Obligations.PavilionAllocation : Prop :=
  (∀ i (s t : State), PavRule i s t → exec i s = .next t) ∧ ∀ i (s t : State), PavStep i s t → exec i s = .next t

/-- Flits are taken, dropped or stalled, credits and acknowledgements move, ports retrain, fall silent and die, losses
are declared, freed granules are zeroed, quotas are set; the header and the CRC of a flit are read back from its 64
bytes. These points in it are the model's choices: a port with another index (log 28); the port of a link die that
is off or fenced is dead at once (log 95); ACK, NAK and credits count whenever the CRC is good (log 37); the
requests of a retired port (log 38); events and notices on a dead port count as sent (log 69). (R323, R324, R325,
R326, R327, R328, R334, R340, R341, R377, R382, R386) -/
def Obligations.FabricSteps : Prop :=
  (∀ i (s t : State), FabricStep i s t → exec i s = .next t)
  ∧ ∀ (h : FlitHeader) (payload : List Byte), HeaderFits h → payload.length = 52 →
    flitGood (flitBytes h payload) = true ∧ flitHeader (leNat ((flitBytes h payload).take 8)) = h

/-- In a mode that may read it, sysr of a register writes its value to S(s); of a counter, the value sampled at issue
comes later. These points in it are the model's choices: the boot step and the service level (log 29). (R345, R346,
R347, R348) -/
def Obligations.SystemRegisterReads : Prop :=
  ∀ (s : State) (m : Bool) (r : BitVec 12) (d : Reg) (v : Dword), Issuing s → mayRead r.toNat s.me.mode = true →
    SysValue s r.toNat v →
    (isCounter r.toNat = false → exec (.sysr m r d) s = .next (done m (withS s d v)))
    ∧ (isCounter r.toNat = true → HasRoom s → exec (.sysr m r d) s = .next (finished s m (s.me.pc + 4) (sResult s d v)))

/-- In a mode that may write it, a write of a register whose limits the value keeps has the effect the rules give; a
write of a module register takes its place after the group's own accesses. These points in it are the model's
choices: for which device DEV_LOST may be cleared (log 38); a write of a module register takes its place after the
group's own accesses (log 33); the signature (log 4). (R92, R142, R222, R320, R340, R342, R347, R350, R356, R362,
R363, R364) -/
def Obligations.SystemRegisterWrites : Prop :=
  ∀ i m a n (s u t : State), Writer i m a n → Issuing s → mayWrite n s.me.mode = true → (n < 8 → u = s) → (8 ≤ n → Settles s u) →
    SysWrite u n (sReg s a) t → exec i s = .next (done m t)

/-- A number that names no register is illegal; an access that R346 denies is a privilege fault in user mode and illegal
otherwise. (R345, R346, R347) -/
def Obligations.SystemRegisterDenied : Prop :=
  ∀ (s : State) (m : Bool) (r : BitVec 12) (d : Reg), Issuing s →
    (assigned r.toNat = false → exec (.sysr m r d) s = .next (s.takeTrap s.cur (some { kind := 1 }))
      ∧ exec (.sysw m r d) s = .next (s.takeTrap s.cur (some { kind := 1 })))
    ∧ (assigned r.toNat = true → mayRead r.toNat s.me.mode = false →
      exec (.sysr m r d) s = .next (s.takeTrap s.cur (some { kind := if s.me.mode = .user then 2 else 1 })))
    ∧ (assigned r.toNat = true → mayWrite r.toNat s.me.mode = false →
      exec (.sysw m r d) s = .next (s.takeTrap s.cur (some { kind := if s.me.mode = .user then 2 else 1 })))

/-- Keys are loaded and cleared, or fail; a measurement register is extended by SHAKE256; a report is written with its
signature, or signing fails. These points in it are the model's choices: when an operation has its effect (log 33);
the signature (log 4). (R362, R363, R364) -/
def Obligations.SystemEngineSteps : Prop :=
  ∀ i (s t : State), SystemStep i s t → exec i s = .next t

/-- Every instruction marked (S) raises a privilege fault in user mode, before any effect. (R51) -/
def Obligations.SupervisorInstructionsInUserMode : Prop :=
  ∀ i (s : State), SupervisorOnly i → Issuing s → s.me.mode = .user → exec i s = .next (s.takeTrap s.cur (some { kind := 2 }))

/-- With traps enabled, a group in user mode that takes a trap, all that it has outstanding drained, continues in
supervisor mode at VEC with s0 to s3 set, its record, every field of it, saved registers and late entries in its
frame, the record with WAIT and VALUE of an interrupted bar.arw or sendw, and nothing else changed: no other
register, no flag, no other group, no byte outside the frame. These points in it are the model's choices: a trap
waits until its drain can be made (log 54); an entry waits for its frame's memory (log 73). (R197, R260, R350, R351,
R352, R353) -/
def Obligations.TrapEntry : Prop :=
  ∀ (s d t : State) (gid : Nat) (c x : TrapInfo), Enters s d gid → Enabled d →
    (s.group gid).mode = .user → (d.group gid).mode = .user → c.late = false → Interrupts c (d.group gid).wait x →
    t = s.takeTrap gid (some c) →
    Entered d t gid c.kind (d.group gid).pc (c.resume.getD (d.group gid).pc) c.offset false
    ∧ ∀ words, WordsOf d gid c.fetch words → Recorded d t gid x words (min 32 (d.group gid).late.length) false

/-- A trap in supervisor mode, or with EN = 0 or VEC = 0, halts the group where it stands, tells its control processor,
and, with EN = 1 only, writes a record with SUP = 1 and no late entries. These points in it are the model's choices:
a trap waits until its drain can be made (log 54). (R352, R355) -/
def Obligations.DoubleFaults : Prop :=
  ∀ (s d : State) (gid : Nat) (c x : TrapInfo), Enters s d gid → (s.group gid).mode ≠ .control →
    ((d.group gid).mode = .supervisor ∨ ¬ Enabled d) → Interrupts c (d.group gid).wait x →
    let t := s.takeTrap gid (some c)
    (t.group gid).halted = true ∧ (t.group gid).pc = (d.group gid).pc ∧ (t.group gid).mode = (d.group gid).mode
    ∧ (∀ r, (t.group gid).getS r = (d.group gid).getS r)
    ∧ (t.die (dieOfGid gid)).doubleFaults = (d.die (dieOfGid gid)).doubleFaults ++ [gid]
    ∧ (d.trapBase.getLsbD 0 = false → t.mem = d.mem)
    ∧ (d.trapBase.getLsbD 0 = true → t.num (framePlace d gid + 17) 1 / 4 % 2 = 1 ∧ t.num (framePlace d gid + 16) 1 = c.kind % 2 ^ 8
      ∧ ∀ words, WordsOf d gid c.fetch words → Recorded d t gid x words 0 true)

/-- In user mode with traps enabled, trap enters the handler with KIND 15, SRC 6 and VALUE S(sa)[31:0], to resume at the
next instruction, and brk with KIND 16, to resume at the brk. These points in it are the model's choices: trap
counts as issued, brk does not (log 42); the drain (log 54). (R352, R354) -/
def Obligations.TrapAndBreak : Prop :=
  ∀ (s : State) (m : Bool) (a : Reg), Issuing s → s.me.mode = .user → s.me.wait = none →
    (∀ u d, u = s.setMe { s.me with instret := (s.me.instret + 1) % 2 ^ 64 } → Enters u d s.cur → Enabled d → (d.group s.cur).mode = .user →
      ∃ t, exec (.trap m a) s = .next t ∧ Entered d t s.cur 15 s.me.pc ((s.me.pc + 4) % 2 ^ 64) 0 false
        ∧ ∀ words, WordsOf d s.cur false words →
          Recorded d t s.cur { kind := 15, src := 6, value := sReg s a } words (min 32 (d.group s.cur).late.length) false)
    ∧ ∀ d, Enters s d s.cur → Enabled d → (d.group s.cur).mode = .user →
      ∃ t, exec (.brk m) s = .next t ∧ Entered d t s.cur 16 s.me.pc s.me.pc 0 false
        ∧ ∀ words, WordsOf d s.cur false words → Recorded d t s.cur { kind := 16 } words (min 32 (d.group s.cur).late.length) false

/-- With S(sa) = 0 and a good frame, tret restores s0 to s3 and REPCNT from it and continues at RESUME in user mode,
inside the wait of a bar.arw or a sendw where the frame's WAIT says so and its REPCNT is 0; nothing else of the
group or of the machine changes but what every issue changes, and a ticket where none is left. These points in it
are the model's choices: a return waits for its frame's memory (log 73). (R197, R260, R354) -/
def Obligations.ReturnFromTrap : Prop :=
  ∀ (s u : State) (m : Bool) (a : Reg) (resume repcnt wait value word : Nat), Supervisor s u → isCp s.cur = false → sReg u a = 0 →
    GoodFrame u resume repcnt wait value word → ∃ r, Restored u r repcnt
      ∧ ∀ v w, Inside r word value (if repcnt = 0 then wait else 0) v w →
        exec (.tretResume m a) s = .next (returnedTo v m resume w (bit word 30))

/-- A late fault is taken at an instruction boundary with its own address and LATE; a due step is taken with KIND 17, as
is one whose unit has been blocked for 65,536 cycles. These points in it are the model's choices: the step is the
cause where late faults wait too (log 43); OFFSET of a late fault (log 54). (R352, R353, R356) -/
def Obligations.TrapsWithoutInstruction : Prop :=
  ∀ (s d : State) (gid : Nat), Enters s d gid → Issuing { s with cur := gid } →
    Enabled d → (s.group gid).mode = .user → (s.group gid).due = none → (d.group gid).mode = .user → Plainly (s.group gid).wait →
    gid ∉ (s.die (dieOfGid gid)).doubleFaults → (s.group gid).halted = false →
    (∀ e rest, (s.group gid).stepDue = false → (s.group gid).late ≠ [] → (d.group gid).late = e :: rest →
      ∃ t, exec (.trapEntry gid) s = .next t ∧ Entered d t gid e.kind e.pc (d.group gid).pc e.off true
        ∧ Recorded d t gid { kind := e.kind, late := true, seg := e.seg, thread := e.thread, offset := e.off } e.words
          (min 32 (d.group gid).late.length) false)
    ∧ ((s.group gid).stepDue = true →
      ∃ t, exec (.trapEntry gid) s = .next t ∧ Entered d t gid 17 (d.group gid).pc (d.group gid).pc 0 false
        ∧ ∀ words, WordsOf d gid false words → Recorded d t gid { kind := 17 } words (min 32 (d.group gid).late.length) false)
    ∧ ((s.group gid).stepArmed = true → (s.group gid).wait ≠ none → (s.group gid).stepSince ≠ 0 →
      (s.group gid).stepSince + 65535 ≤ s.cycle →
      ∃ t, exec (.stepBlockTimeout gid) s = .next t ∧ Entered d t gid 17 (d.group gid).pc (d.group gid).pc 0 false
        ∧ ∀ words, WordsOf d gid false words → Recorded d t gid { kind := 17 } words (min 32 (d.group gid).late.length) false)

/-- segld loads a valid descriptor, tlbinv removes translations, tlbsync blocks until they are gone, ctxsave and ctxrest
lift a plan off and put it back with their statuses, tret with 1 or 2 ends the task. These points in it are the
model's choices: slots that cannot be spilled (log 30); another area or key (log 31); tlbinv removes at once (log
41); what ctxsave waits for (log 45); stuck commands are saved as they stand (log 65); a task that ends without exit
(log 66); memory that is not served (log 73); a die's area is written in one step (log 86); the order of statuses 4,
5 and 6 before 7 (log 87). (R144, R354, R355, R357, R358, R359, R360) -/
def Obligations.SystemInstructions : Prop :=
  (∀ i (s t : State), TrapRule i s t → exec i s = .next t) ∧ ∀ i (s t : State), TrapStep i s t → exec i s = .next t

/-- rep has a cycle of its own, in which it fetches its target and checks it; then each issue is the repetition that
REPCNT says, its target with stepped register fields: between repetitions the group stays at the prefix, with both
words held, after the last one it goes on behind the target with the target's marker. A scalar or lane target of R79
to R82 or R106 to R109 writes its result; any other that goes on does so with what it has added outstanding marked
with the repetition, and one that faults is taken at the prefix with REPCNT; so is a field that steps past 127.
These points in it are the model's choices: a stepped word is tested when it issues (log 46); targets of rep (log
57). (R42, R43, R44, R46, R86, R87) -/
def Obligations.RepeatedInstructions : Prop :=
  ∀ (s : State) (n : BitVec 6) (d a b : BitVec 2),
    (Unfetched s → OwnCycle (.rep n d a b) s (RepTarget s n b))
    ∧ (∀ (w : Word) (i : Nat), Held s w → s.me.repcnt ≤ n.toNat + 1 → i = repetition (n.toNat + 1) s.me.repcnt →
      (hasThird w = true ∨ b = 0) → (∀ x, ¬ Stepped w i d.toNat a.toNat b.toNat x) →
      exec (.rep n d a b) s = .next ((withRepcnt s (n.toNat + 1 - i)).takeTrap s.cur (some { kind := 1 })))
    ∧ ∀ (w x : Word) (i : Nat), Repeats s n d a b w x i →
      (∀ j m t f, Encodes x j → (ScalarTable j m t f ∨ ScalarSelect j m t f ∨ ScalarImmediate j m t f ∨ MaskTable j m t f) →
        exec (.rep n d a b) s = .next (afterRepetition s n i m (s.me.setS t.toNat (f s.me))))
      ∧ (∀ j m rs t f, Encodes x j → LaneReady s rs → (LaneTable j m rs t f ∨ LaneMove j m rs t f ∨ LaneClass j m rs t f) →
        exec (.rep n d a b) s = .next (afterRepetition s n i m (s.me.setV t.toNat (f s.me))))
      ∧ ∀ body : Body, bodyWord x = .ok body →
        (∀ v t, body (withRepcnt s (n.toNat + 1 - i)) = .fault v t → exec (.rep n d a b) s = .next (v.takeTrap v.cur (some t)))
        ∧ ∀ (v : State) (new : List Pending), body (withRepcnt s (n.toNat + 1 - i)) = .ok v → v.me.out = s.me.out ++ new →
          exec (.rep n d a b) s = .next (afterRepetition v n i (w.getLsbD 30)
            { v.me with out := s.me.out ++ new.map fun p => { p with rep := i } })

/-- limm fetches its target and checks it in a cycle of its own; then the two issue as one instruction with the joined
literal: scalar and lane immediates, loads and stores. (R42, R43, R45, R46, R88) -/
def Obligations.LongImmediates : Prop :=
  (∀ p (s : State), Unfetched s → OwnCycle (.limm p) s (LimmTarget s)) ∧ ∀ p (s t : State), LimmRule p s t → exec (.limm p) s = .next t

/-- A control processor's store takes its place and starts what the register says: rails, processors, HBM initialisation
and training, links, ports, tests, flash. These points in it are the model's choices: nothing is left of the
instruction a processor was stopped in (log 25); the queue at a stack that retrains (log 86); GO and TRAIN as
written, DONE and FAIL cleared (log 22); registers of a die that is off (log 24); the order of rails (log 26); RUN
clears the fault state (log 27); a port with another index (log 28). (R361, R365, R368, R370, R373, R375, R376,
R377, R378, R382, R385, R386) -/
def Obligations.ControlRegisters : Prop :=
  ∀ i (s t : State), CtlRule i s t → exec i s = .next t

/-- Units end with DONE or FAIL or miss their limits, core tests fail before service and in it, power comes on and goes,
and the throttle follows temperature and the cap. These points in it are the model's choices: a port with another
index (log 28); GO and TRAIN as written (log 22); the boot ROM is part of POWER_ON (log 6); the boot step (log 29);
what a test finds is an operand (log 35); contents after the march test (log 36); what a power loss keeps (log 49).
(R370, R371, R375, R376, R377, R378, R381, R384, R385, R386) -/
def Obligations.BringupSteps : Prop :=
  ∀ i (s t : State), BringupStep i s t → exec i s = .next t
end

