-- ==== Sys2Proof/Laws/State.lean ====
section
/-!
SUPPORT. What each update of the machine leaves in each of its fields: one lemma a field and update, so that no later proof
unfolds a record update.
-/

namespace Sys2Proof.Machine

variable (s : State) (g : Group)

/-! State.setGroup. -/

@[simp] theorem State.setGroup_tape (n : Nat) (x : Group) : (s.setGroup n x).tape = s.tape := rfl
@[simp] theorem State.setGroup_cur (n : Nat) (x : Group) : (s.setGroup n x).cur = s.cur := rfl
@[simp] theorem State.setGroup_cycle (n : Nat) (x : Group) : (s.setGroup n x).cycle = s.cycle := rfl
@[simp] theorem State.setGroup_mem (n : Nat) (x : Group) : (s.setGroup n x).mem = s.mem := rfl
@[simp] theorem State.setGroup_bad (n : Nat) (x : Group) : (s.setGroup n x).bad = s.bad := rfl
@[simp] theorem State.setGroup_byteKey (n : Nat) (x : Group) : (s.setGroup n x).byteKey = s.byteKey := rfl
@[simp] theorem State.setGroup_tlb (n : Nat) (x : Group) : (s.setGroup n x).tlb = s.tlb := rfl
@[simp] theorem State.setGroup_hostCopies (n : Nat) (x : Group) : (s.setGroup n x).hostCopies = s.hostCopies := rfl
@[simp] theorem State.setGroup_writeCombine (n : Nat) (x : Group) : (s.setGroup n x).writeCombine = s.writeCombine := rfl
@[simp] theorem State.setGroup_groups (n : Nat) (x : Group) : (s.setGroup n x).groups = s.groups.put n x := rfl
@[simp] theorem State.setGroup_tasks (n : Nat) (x : Group) : (s.setGroup n x).tasks = s.tasks := rfl
@[simp] theorem State.setGroup_cores (n : Nat) (x : Group) : (s.setGroup n x).cores = s.cores := rfl
@[simp] theorem State.setGroup_clusters (n : Nat) (x : Group) : (s.setGroup n x).clusters = s.clusters := rfl
@[simp] theorem State.setGroup_dies (n : Nat) (x : Group) : (s.setGroup n x).dies = s.dies := rfl
@[simp] theorem State.setGroup_pipes (n : Nat) (x : Group) : (s.setGroup n x).pipes = s.pipes := rfl
@[simp] theorem State.setGroup_ports (n : Nat) (x : Group) : (s.setGroup n x).ports = s.ports := rfl
@[simp] theorem State.setGroup_patterns (n : Nat) (x : Group) : (s.setGroup n x).patterns = s.patterns := rfl
@[simp] theorem State.setGroup_tickets (n : Nat) (x : Group) : (s.setGroup n x).tickets = s.tickets := rfl
@[simp] theorem State.setGroup_plans (n : Nat) (x : Group) : (s.setGroup n x).plans = s.plans := rfl
@[simp] theorem State.setGroup_mvms (n : Nat) (x : Group) : (s.setGroup n x).mvms = s.mvms := rfl
@[simp] theorem State.setGroup_uals (n : Nat) (x : Group) : (s.setGroup n x).uals = s.uals := rfl
@[simp] theorem State.setGroup_forwards (n : Nat) (x : Group) : (s.setGroup n x).forwards = s.forwards := rfl
@[simp] theorem State.setGroup_switches (n : Nat) (x : Group) : (s.setGroup n x).switches = s.switches := rfl
@[simp] theorem State.setGroup_lostOut (n : Nat) (x : Group) : (s.setGroup n x).lostOut = s.lostOut := rfl
@[simp] theorem State.setGroup_notices (n : Nat) (x : Group) : (s.setGroup n x).notices = s.notices := rfl
@[simp] theorem State.setGroup_nextTask (n : Nat) (x : Group) : (s.setGroup n x).nextTask = s.nextTask := rfl
@[simp] theorem State.setGroup_nextTicket (n : Nat) (x : Group) : (s.setGroup n x).nextTicket = s.nextTicket := rfl
@[simp] theorem State.setGroup_nextAge (n : Nat) (x : Group) : (s.setGroup n x).nextAge = s.nextAge := rfl
@[simp] theorem State.setGroup_freeCtr (n : Nat) (x : Group) : (s.setGroup n x).freeCtr = s.freeCtr := rfl
@[simp] theorem State.setGroup_hostReply (n : Nat) (x : Group) : (s.setGroup n x).hostReply = s.hostReply := rfl
@[simp] theorem State.setGroup_trapVec (n : Nat) (x : Group) : (s.setGroup n x).trapVec = s.trapVec := rfl
@[simp] theorem State.setGroup_trapBase (n : Nat) (x : Group) : (s.setGroup n x).trapBase = s.trapBase := rfl
@[simp] theorem State.setGroup_bulkLimit (n : Nat) (x : Group) : (s.setGroup n x).bulkLimit = s.bulkLimit := rfl
@[simp] theorem State.setGroup_deadlockCycles (n : Nat) (x : Group) : (s.setGroup n x).deadlockCycles = s.deadlockCycles := rfl
@[simp] theorem State.setGroup_fabLost (n : Nat) (x : Group) : (s.setGroup n x).fabLost = s.fabLost := rfl
@[simp] theorem State.setGroup_devLost0 (n : Nat) (x : Group) : (s.setGroup n x).devLost0 = s.devLost0 := rfl
@[simp] theorem State.setGroup_devLost1 (n : Nat) (x : Group) : (s.setGroup n x).devLost1 = s.devLost1 := rfl
@[simp] theorem State.setGroup_pavQuota (n : Nat) (x : Group) : (s.setGroup n x).pavQuota = s.pavQuota := rfl
@[simp] theorem State.setGroup_keyCtl (n : Nat) (x : Group) : (s.setGroup n x).keyCtl = s.keyCtl := rfl
@[simp] theorem State.setGroup_attest (n : Nat) (x : Group) : (s.setGroup n x).attest = s.attest := rfl
@[simp] theorem State.setGroup_measExt (n : Nat) (x : Group) : (s.setGroup n x).measExt = s.measExt := rfl
@[simp] theorem State.setGroup_meas (n : Nat) (x : Group) : (s.setGroup n x).meas = s.meas := rfl
@[simp] theorem State.setGroup_keys (n : Nat) (x : Group) : (s.setGroup n x).keys = s.keys := rfl
@[simp] theorem State.setGroup_attestData (n : Nat) (x : Group) : (s.setGroup n x).attestData = s.attestData := rfl
@[simp] theorem State.setGroup_ctl (n : Nat) (x : Group) : (s.setGroup n x).ctl = s.ctl := rfl
@[simp] theorem State.setGroup_busy (n : Nat) (x : Group) : (s.setGroup n x).busy = s.busy := rfl
@[simp] theorem State.setGroup_flashBusy (n : Nat) (x : Group) : (s.setGroup n x).flashBusy = s.flashBusy := rfl
@[simp] theorem State.setGroup_bankErrors (n : Nat) (x : Group) : (s.setGroup n x).bankErrors = s.bankErrors := rfl
@[simp] theorem State.setGroup_power (n : Nat) (x : Group) : (s.setGroup n x).power = s.power := rfl
@[simp] theorem State.setGroup_poweredOff (n : Nat) (x : Group) : (s.setGroup n x).poweredOff = s.poweredOff := rfl
@[simp] theorem State.setGroup_bootStep (n : Nat) (x : Group) : (s.setGroup n x).bootStep = s.bootStep := rfl
@[simp] theorem State.setGroup_serving (n : Nat) (x : Group) : (s.setGroup n x).serving = s.serving := rfl
@[simp] theorem State.setGroup_fullMask (n : Nat) (x : Group) : (s.setGroup n x).fullMask = s.fullMask := rfl
@[simp] theorem State.setGroup_rateFailed (n : Nat) (x : Group) : (s.setGroup n x).rateFailed = s.rateFailed := rfl
@[simp] theorem State.setGroup_stackOut (n : Nat) (x : Group) : (s.setGroup n x).stackOut = s.stackOut := rfl
@[simp] theorem State.setGroup_smbusStep (n : Nat) (x : Group) : (s.setGroup n x).smbusStep = s.smbusStep := rfl
@[simp] theorem State.setGroup_powerCheckedAt (n : Nat) (x : Group) : (s.setGroup n x).powerCheckedAt = s.powerCheckedAt := rfl

/-! State.setMe. -/

@[simp] theorem State.setMe_tape (x : Group) : (s.setMe x).tape = s.tape := rfl
@[simp] theorem State.setMe_cur (x : Group) : (s.setMe x).cur = s.cur := rfl
@[simp] theorem State.setMe_cycle (x : Group) : (s.setMe x).cycle = s.cycle := rfl
@[simp] theorem State.setMe_mem (x : Group) : (s.setMe x).mem = s.mem := rfl
@[simp] theorem State.setMe_bad (x : Group) : (s.setMe x).bad = s.bad := rfl
@[simp] theorem State.setMe_byteKey (x : Group) : (s.setMe x).byteKey = s.byteKey := rfl
@[simp] theorem State.setMe_tlb (x : Group) : (s.setMe x).tlb = s.tlb := rfl
@[simp] theorem State.setMe_hostCopies (x : Group) : (s.setMe x).hostCopies = s.hostCopies := rfl
@[simp] theorem State.setMe_writeCombine (x : Group) : (s.setMe x).writeCombine = s.writeCombine := rfl
@[simp] theorem State.setMe_groups (x : Group) : (s.setMe x).groups = s.groups.put s.cur x := rfl
@[simp] theorem State.setMe_tasks (x : Group) : (s.setMe x).tasks = s.tasks := rfl
@[simp] theorem State.setMe_cores (x : Group) : (s.setMe x).cores = s.cores := rfl
@[simp] theorem State.setMe_clusters (x : Group) : (s.setMe x).clusters = s.clusters := rfl
@[simp] theorem State.setMe_dies (x : Group) : (s.setMe x).dies = s.dies := rfl
@[simp] theorem State.setMe_pipes (x : Group) : (s.setMe x).pipes = s.pipes := rfl
@[simp] theorem State.setMe_ports (x : Group) : (s.setMe x).ports = s.ports := rfl
@[simp] theorem State.setMe_patterns (x : Group) : (s.setMe x).patterns = s.patterns := rfl
@[simp] theorem State.setMe_tickets (x : Group) : (s.setMe x).tickets = s.tickets := rfl
@[simp] theorem State.setMe_plans (x : Group) : (s.setMe x).plans = s.plans := rfl
@[simp] theorem State.setMe_mvms (x : Group) : (s.setMe x).mvms = s.mvms := rfl
@[simp] theorem State.setMe_uals (x : Group) : (s.setMe x).uals = s.uals := rfl
@[simp] theorem State.setMe_forwards (x : Group) : (s.setMe x).forwards = s.forwards := rfl
@[simp] theorem State.setMe_switches (x : Group) : (s.setMe x).switches = s.switches := rfl
@[simp] theorem State.setMe_lostOut (x : Group) : (s.setMe x).lostOut = s.lostOut := rfl
@[simp] theorem State.setMe_notices (x : Group) : (s.setMe x).notices = s.notices := rfl
@[simp] theorem State.setMe_nextTask (x : Group) : (s.setMe x).nextTask = s.nextTask := rfl
@[simp] theorem State.setMe_nextTicket (x : Group) : (s.setMe x).nextTicket = s.nextTicket := rfl
@[simp] theorem State.setMe_nextAge (x : Group) : (s.setMe x).nextAge = s.nextAge := rfl
@[simp] theorem State.setMe_freeCtr (x : Group) : (s.setMe x).freeCtr = s.freeCtr := rfl
@[simp] theorem State.setMe_hostReply (x : Group) : (s.setMe x).hostReply = s.hostReply := rfl
@[simp] theorem State.setMe_trapVec (x : Group) : (s.setMe x).trapVec = s.trapVec := rfl
@[simp] theorem State.setMe_trapBase (x : Group) : (s.setMe x).trapBase = s.trapBase := rfl
@[simp] theorem State.setMe_bulkLimit (x : Group) : (s.setMe x).bulkLimit = s.bulkLimit := rfl
@[simp] theorem State.setMe_deadlockCycles (x : Group) : (s.setMe x).deadlockCycles = s.deadlockCycles := rfl
@[simp] theorem State.setMe_fabLost (x : Group) : (s.setMe x).fabLost = s.fabLost := rfl
@[simp] theorem State.setMe_devLost0 (x : Group) : (s.setMe x).devLost0 = s.devLost0 := rfl
@[simp] theorem State.setMe_devLost1 (x : Group) : (s.setMe x).devLost1 = s.devLost1 := rfl
@[simp] theorem State.setMe_pavQuota (x : Group) : (s.setMe x).pavQuota = s.pavQuota := rfl
@[simp] theorem State.setMe_keyCtl (x : Group) : (s.setMe x).keyCtl = s.keyCtl := rfl
@[simp] theorem State.setMe_attest (x : Group) : (s.setMe x).attest = s.attest := rfl
@[simp] theorem State.setMe_measExt (x : Group) : (s.setMe x).measExt = s.measExt := rfl
@[simp] theorem State.setMe_meas (x : Group) : (s.setMe x).meas = s.meas := rfl
@[simp] theorem State.setMe_keys (x : Group) : (s.setMe x).keys = s.keys := rfl
@[simp] theorem State.setMe_attestData (x : Group) : (s.setMe x).attestData = s.attestData := rfl
@[simp] theorem State.setMe_ctl (x : Group) : (s.setMe x).ctl = s.ctl := rfl
@[simp] theorem State.setMe_busy (x : Group) : (s.setMe x).busy = s.busy := rfl
@[simp] theorem State.setMe_flashBusy (x : Group) : (s.setMe x).flashBusy = s.flashBusy := rfl
@[simp] theorem State.setMe_bankErrors (x : Group) : (s.setMe x).bankErrors = s.bankErrors := rfl
@[simp] theorem State.setMe_power (x : Group) : (s.setMe x).power = s.power := rfl
@[simp] theorem State.setMe_poweredOff (x : Group) : (s.setMe x).poweredOff = s.poweredOff := rfl
@[simp] theorem State.setMe_bootStep (x : Group) : (s.setMe x).bootStep = s.bootStep := rfl
@[simp] theorem State.setMe_serving (x : Group) : (s.setMe x).serving = s.serving := rfl
@[simp] theorem State.setMe_fullMask (x : Group) : (s.setMe x).fullMask = s.fullMask := rfl
@[simp] theorem State.setMe_rateFailed (x : Group) : (s.setMe x).rateFailed = s.rateFailed := rfl
@[simp] theorem State.setMe_stackOut (x : Group) : (s.setMe x).stackOut = s.stackOut := rfl
@[simp] theorem State.setMe_smbusStep (x : Group) : (s.setMe x).smbusStep = s.smbusStep := rfl
@[simp] theorem State.setMe_powerCheckedAt (x : Group) : (s.setMe x).powerCheckedAt = s.powerCheckedAt := rfl

/-! State.setCore. -/

@[simp] theorem State.setCore_tape (n : Nat) (x : Core) : (s.setCore n x).tape = s.tape := rfl
@[simp] theorem State.setCore_cur (n : Nat) (x : Core) : (s.setCore n x).cur = s.cur := rfl
@[simp] theorem State.setCore_cycle (n : Nat) (x : Core) : (s.setCore n x).cycle = s.cycle := rfl
@[simp] theorem State.setCore_mem (n : Nat) (x : Core) : (s.setCore n x).mem = s.mem := rfl
@[simp] theorem State.setCore_bad (n : Nat) (x : Core) : (s.setCore n x).bad = s.bad := rfl
@[simp] theorem State.setCore_byteKey (n : Nat) (x : Core) : (s.setCore n x).byteKey = s.byteKey := rfl
@[simp] theorem State.setCore_tlb (n : Nat) (x : Core) : (s.setCore n x).tlb = s.tlb := rfl
@[simp] theorem State.setCore_hostCopies (n : Nat) (x : Core) : (s.setCore n x).hostCopies = s.hostCopies := rfl
@[simp] theorem State.setCore_writeCombine (n : Nat) (x : Core) : (s.setCore n x).writeCombine = s.writeCombine := rfl
@[simp] theorem State.setCore_groups (n : Nat) (x : Core) : (s.setCore n x).groups = s.groups := rfl
@[simp] theorem State.setCore_tasks (n : Nat) (x : Core) : (s.setCore n x).tasks = s.tasks := rfl
@[simp] theorem State.setCore_cores (n : Nat) (x : Core) : (s.setCore n x).cores = s.cores.put n x := rfl
@[simp] theorem State.setCore_clusters (n : Nat) (x : Core) : (s.setCore n x).clusters = s.clusters := rfl
@[simp] theorem State.setCore_dies (n : Nat) (x : Core) : (s.setCore n x).dies = s.dies := rfl
@[simp] theorem State.setCore_pipes (n : Nat) (x : Core) : (s.setCore n x).pipes = s.pipes := rfl
@[simp] theorem State.setCore_ports (n : Nat) (x : Core) : (s.setCore n x).ports = s.ports := rfl
@[simp] theorem State.setCore_patterns (n : Nat) (x : Core) : (s.setCore n x).patterns = s.patterns := rfl
@[simp] theorem State.setCore_tickets (n : Nat) (x : Core) : (s.setCore n x).tickets = s.tickets := rfl
@[simp] theorem State.setCore_plans (n : Nat) (x : Core) : (s.setCore n x).plans = s.plans := rfl
@[simp] theorem State.setCore_mvms (n : Nat) (x : Core) : (s.setCore n x).mvms = s.mvms := rfl
@[simp] theorem State.setCore_uals (n : Nat) (x : Core) : (s.setCore n x).uals = s.uals := rfl
@[simp] theorem State.setCore_forwards (n : Nat) (x : Core) : (s.setCore n x).forwards = s.forwards := rfl
@[simp] theorem State.setCore_switches (n : Nat) (x : Core) : (s.setCore n x).switches = s.switches := rfl
@[simp] theorem State.setCore_lostOut (n : Nat) (x : Core) : (s.setCore n x).lostOut = s.lostOut := rfl
@[simp] theorem State.setCore_notices (n : Nat) (x : Core) : (s.setCore n x).notices = s.notices := rfl
@[simp] theorem State.setCore_nextTask (n : Nat) (x : Core) : (s.setCore n x).nextTask = s.nextTask := rfl
@[simp] theorem State.setCore_nextTicket (n : Nat) (x : Core) : (s.setCore n x).nextTicket = s.nextTicket := rfl
@[simp] theorem State.setCore_nextAge (n : Nat) (x : Core) : (s.setCore n x).nextAge = s.nextAge := rfl
@[simp] theorem State.setCore_freeCtr (n : Nat) (x : Core) : (s.setCore n x).freeCtr = s.freeCtr := rfl
@[simp] theorem State.setCore_hostReply (n : Nat) (x : Core) : (s.setCore n x).hostReply = s.hostReply := rfl
@[simp] theorem State.setCore_trapVec (n : Nat) (x : Core) : (s.setCore n x).trapVec = s.trapVec := rfl
@[simp] theorem State.setCore_trapBase (n : Nat) (x : Core) : (s.setCore n x).trapBase = s.trapBase := rfl
@[simp] theorem State.setCore_bulkLimit (n : Nat) (x : Core) : (s.setCore n x).bulkLimit = s.bulkLimit := rfl
@[simp] theorem State.setCore_deadlockCycles (n : Nat) (x : Core) : (s.setCore n x).deadlockCycles = s.deadlockCycles := rfl
@[simp] theorem State.setCore_fabLost (n : Nat) (x : Core) : (s.setCore n x).fabLost = s.fabLost := rfl
@[simp] theorem State.setCore_devLost0 (n : Nat) (x : Core) : (s.setCore n x).devLost0 = s.devLost0 := rfl
@[simp] theorem State.setCore_devLost1 (n : Nat) (x : Core) : (s.setCore n x).devLost1 = s.devLost1 := rfl
@[simp] theorem State.setCore_pavQuota (n : Nat) (x : Core) : (s.setCore n x).pavQuota = s.pavQuota := rfl
@[simp] theorem State.setCore_keyCtl (n : Nat) (x : Core) : (s.setCore n x).keyCtl = s.keyCtl := rfl
@[simp] theorem State.setCore_attest (n : Nat) (x : Core) : (s.setCore n x).attest = s.attest := rfl
@[simp] theorem State.setCore_measExt (n : Nat) (x : Core) : (s.setCore n x).measExt = s.measExt := rfl
@[simp] theorem State.setCore_meas (n : Nat) (x : Core) : (s.setCore n x).meas = s.meas := rfl
@[simp] theorem State.setCore_keys (n : Nat) (x : Core) : (s.setCore n x).keys = s.keys := rfl
@[simp] theorem State.setCore_attestData (n : Nat) (x : Core) : (s.setCore n x).attestData = s.attestData := rfl
@[simp] theorem State.setCore_ctl (n : Nat) (x : Core) : (s.setCore n x).ctl = s.ctl := rfl
@[simp] theorem State.setCore_busy (n : Nat) (x : Core) : (s.setCore n x).busy = s.busy := rfl
@[simp] theorem State.setCore_flashBusy (n : Nat) (x : Core) : (s.setCore n x).flashBusy = s.flashBusy := rfl
@[simp] theorem State.setCore_bankErrors (n : Nat) (x : Core) : (s.setCore n x).bankErrors = s.bankErrors := rfl
@[simp] theorem State.setCore_power (n : Nat) (x : Core) : (s.setCore n x).power = s.power := rfl
@[simp] theorem State.setCore_poweredOff (n : Nat) (x : Core) : (s.setCore n x).poweredOff = s.poweredOff := rfl
@[simp] theorem State.setCore_bootStep (n : Nat) (x : Core) : (s.setCore n x).bootStep = s.bootStep := rfl
@[simp] theorem State.setCore_serving (n : Nat) (x : Core) : (s.setCore n x).serving = s.serving := rfl
@[simp] theorem State.setCore_fullMask (n : Nat) (x : Core) : (s.setCore n x).fullMask = s.fullMask := rfl
@[simp] theorem State.setCore_rateFailed (n : Nat) (x : Core) : (s.setCore n x).rateFailed = s.rateFailed := rfl
@[simp] theorem State.setCore_stackOut (n : Nat) (x : Core) : (s.setCore n x).stackOut = s.stackOut := rfl
@[simp] theorem State.setCore_smbusStep (n : Nat) (x : Core) : (s.setCore n x).smbusStep = s.smbusStep := rfl
@[simp] theorem State.setCore_powerCheckedAt (n : Nat) (x : Core) : (s.setCore n x).powerCheckedAt = s.powerCheckedAt := rfl

/-! State.setCluster. -/

@[simp] theorem State.setCluster_tape (n : Nat) (x : Cluster) : (s.setCluster n x).tape = s.tape := rfl
@[simp] theorem State.setCluster_cur (n : Nat) (x : Cluster) : (s.setCluster n x).cur = s.cur := rfl
@[simp] theorem State.setCluster_cycle (n : Nat) (x : Cluster) : (s.setCluster n x).cycle = s.cycle := rfl
@[simp] theorem State.setCluster_mem (n : Nat) (x : Cluster) : (s.setCluster n x).mem = s.mem := rfl
@[simp] theorem State.setCluster_bad (n : Nat) (x : Cluster) : (s.setCluster n x).bad = s.bad := rfl
@[simp] theorem State.setCluster_byteKey (n : Nat) (x : Cluster) : (s.setCluster n x).byteKey = s.byteKey := rfl
@[simp] theorem State.setCluster_tlb (n : Nat) (x : Cluster) : (s.setCluster n x).tlb = s.tlb := rfl
@[simp] theorem State.setCluster_hostCopies (n : Nat) (x : Cluster) : (s.setCluster n x).hostCopies = s.hostCopies := rfl
@[simp] theorem State.setCluster_writeCombine (n : Nat) (x : Cluster) : (s.setCluster n x).writeCombine = s.writeCombine := rfl
@[simp] theorem State.setCluster_groups (n : Nat) (x : Cluster) : (s.setCluster n x).groups = s.groups := rfl
@[simp] theorem State.setCluster_tasks (n : Nat) (x : Cluster) : (s.setCluster n x).tasks = s.tasks := rfl
@[simp] theorem State.setCluster_cores (n : Nat) (x : Cluster) : (s.setCluster n x).cores = s.cores := rfl
@[simp] theorem State.setCluster_clusters (n : Nat) (x : Cluster) : (s.setCluster n x).clusters = s.clusters.put n x := rfl
@[simp] theorem State.setCluster_dies (n : Nat) (x : Cluster) : (s.setCluster n x).dies = s.dies := rfl
@[simp] theorem State.setCluster_pipes (n : Nat) (x : Cluster) : (s.setCluster n x).pipes = s.pipes := rfl
@[simp] theorem State.setCluster_ports (n : Nat) (x : Cluster) : (s.setCluster n x).ports = s.ports := rfl
@[simp] theorem State.setCluster_patterns (n : Nat) (x : Cluster) : (s.setCluster n x).patterns = s.patterns := rfl
@[simp] theorem State.setCluster_tickets (n : Nat) (x : Cluster) : (s.setCluster n x).tickets = s.tickets := rfl
@[simp] theorem State.setCluster_plans (n : Nat) (x : Cluster) : (s.setCluster n x).plans = s.plans := rfl
@[simp] theorem State.setCluster_mvms (n : Nat) (x : Cluster) : (s.setCluster n x).mvms = s.mvms := rfl
@[simp] theorem State.setCluster_uals (n : Nat) (x : Cluster) : (s.setCluster n x).uals = s.uals := rfl
@[simp] theorem State.setCluster_forwards (n : Nat) (x : Cluster) : (s.setCluster n x).forwards = s.forwards := rfl
@[simp] theorem State.setCluster_switches (n : Nat) (x : Cluster) : (s.setCluster n x).switches = s.switches := rfl
@[simp] theorem State.setCluster_lostOut (n : Nat) (x : Cluster) : (s.setCluster n x).lostOut = s.lostOut := rfl
@[simp] theorem State.setCluster_notices (n : Nat) (x : Cluster) : (s.setCluster n x).notices = s.notices := rfl
@[simp] theorem State.setCluster_nextTask (n : Nat) (x : Cluster) : (s.setCluster n x).nextTask = s.nextTask := rfl
@[simp] theorem State.setCluster_nextTicket (n : Nat) (x : Cluster) : (s.setCluster n x).nextTicket = s.nextTicket := rfl
@[simp] theorem State.setCluster_nextAge (n : Nat) (x : Cluster) : (s.setCluster n x).nextAge = s.nextAge := rfl
@[simp] theorem State.setCluster_freeCtr (n : Nat) (x : Cluster) : (s.setCluster n x).freeCtr = s.freeCtr := rfl
@[simp] theorem State.setCluster_hostReply (n : Nat) (x : Cluster) : (s.setCluster n x).hostReply = s.hostReply := rfl
@[simp] theorem State.setCluster_trapVec (n : Nat) (x : Cluster) : (s.setCluster n x).trapVec = s.trapVec := rfl
@[simp] theorem State.setCluster_trapBase (n : Nat) (x : Cluster) : (s.setCluster n x).trapBase = s.trapBase := rfl
@[simp] theorem State.setCluster_bulkLimit (n : Nat) (x : Cluster) : (s.setCluster n x).bulkLimit = s.bulkLimit := rfl
@[simp] theorem State.setCluster_deadlockCycles (n : Nat) (x : Cluster) : (s.setCluster n x).deadlockCycles = s.deadlockCycles := rfl
@[simp] theorem State.setCluster_fabLost (n : Nat) (x : Cluster) : (s.setCluster n x).fabLost = s.fabLost := rfl
@[simp] theorem State.setCluster_devLost0 (n : Nat) (x : Cluster) : (s.setCluster n x).devLost0 = s.devLost0 := rfl
@[simp] theorem State.setCluster_devLost1 (n : Nat) (x : Cluster) : (s.setCluster n x).devLost1 = s.devLost1 := rfl
@[simp] theorem State.setCluster_pavQuota (n : Nat) (x : Cluster) : (s.setCluster n x).pavQuota = s.pavQuota := rfl
@[simp] theorem State.setCluster_keyCtl (n : Nat) (x : Cluster) : (s.setCluster n x).keyCtl = s.keyCtl := rfl
@[simp] theorem State.setCluster_attest (n : Nat) (x : Cluster) : (s.setCluster n x).attest = s.attest := rfl
@[simp] theorem State.setCluster_measExt (n : Nat) (x : Cluster) : (s.setCluster n x).measExt = s.measExt := rfl
@[simp] theorem State.setCluster_meas (n : Nat) (x : Cluster) : (s.setCluster n x).meas = s.meas := rfl
@[simp] theorem State.setCluster_keys (n : Nat) (x : Cluster) : (s.setCluster n x).keys = s.keys := rfl
@[simp] theorem State.setCluster_attestData (n : Nat) (x : Cluster) : (s.setCluster n x).attestData = s.attestData := rfl
@[simp] theorem State.setCluster_ctl (n : Nat) (x : Cluster) : (s.setCluster n x).ctl = s.ctl := rfl
@[simp] theorem State.setCluster_busy (n : Nat) (x : Cluster) : (s.setCluster n x).busy = s.busy := rfl
@[simp] theorem State.setCluster_flashBusy (n : Nat) (x : Cluster) : (s.setCluster n x).flashBusy = s.flashBusy := rfl
@[simp] theorem State.setCluster_bankErrors (n : Nat) (x : Cluster) : (s.setCluster n x).bankErrors = s.bankErrors := rfl
@[simp] theorem State.setCluster_power (n : Nat) (x : Cluster) : (s.setCluster n x).power = s.power := rfl
@[simp] theorem State.setCluster_poweredOff (n : Nat) (x : Cluster) : (s.setCluster n x).poweredOff = s.poweredOff := rfl
@[simp] theorem State.setCluster_bootStep (n : Nat) (x : Cluster) : (s.setCluster n x).bootStep = s.bootStep := rfl
@[simp] theorem State.setCluster_serving (n : Nat) (x : Cluster) : (s.setCluster n x).serving = s.serving := rfl
@[simp] theorem State.setCluster_fullMask (n : Nat) (x : Cluster) : (s.setCluster n x).fullMask = s.fullMask := rfl
@[simp] theorem State.setCluster_rateFailed (n : Nat) (x : Cluster) : (s.setCluster n x).rateFailed = s.rateFailed := rfl
@[simp] theorem State.setCluster_stackOut (n : Nat) (x : Cluster) : (s.setCluster n x).stackOut = s.stackOut := rfl
@[simp] theorem State.setCluster_smbusStep (n : Nat) (x : Cluster) : (s.setCluster n x).smbusStep = s.smbusStep := rfl
@[simp] theorem State.setCluster_powerCheckedAt (n : Nat) (x : Cluster) : (s.setCluster n x).powerCheckedAt = s.powerCheckedAt := rfl

/-! State.setDie. -/

@[simp] theorem State.setDie_tape (n : Nat) (x : Die) : (s.setDie n x).tape = s.tape := rfl
@[simp] theorem State.setDie_cur (n : Nat) (x : Die) : (s.setDie n x).cur = s.cur := rfl
@[simp] theorem State.setDie_cycle (n : Nat) (x : Die) : (s.setDie n x).cycle = s.cycle := rfl
@[simp] theorem State.setDie_mem (n : Nat) (x : Die) : (s.setDie n x).mem = s.mem := rfl
@[simp] theorem State.setDie_bad (n : Nat) (x : Die) : (s.setDie n x).bad = s.bad := rfl
@[simp] theorem State.setDie_byteKey (n : Nat) (x : Die) : (s.setDie n x).byteKey = s.byteKey := rfl
@[simp] theorem State.setDie_tlb (n : Nat) (x : Die) : (s.setDie n x).tlb = s.tlb := rfl
@[simp] theorem State.setDie_hostCopies (n : Nat) (x : Die) : (s.setDie n x).hostCopies = s.hostCopies := rfl
@[simp] theorem State.setDie_writeCombine (n : Nat) (x : Die) : (s.setDie n x).writeCombine = s.writeCombine := rfl
@[simp] theorem State.setDie_groups (n : Nat) (x : Die) : (s.setDie n x).groups = s.groups := rfl
@[simp] theorem State.setDie_tasks (n : Nat) (x : Die) : (s.setDie n x).tasks = s.tasks := rfl
@[simp] theorem State.setDie_cores (n : Nat) (x : Die) : (s.setDie n x).cores = s.cores := rfl
@[simp] theorem State.setDie_clusters (n : Nat) (x : Die) : (s.setDie n x).clusters = s.clusters := rfl
@[simp] theorem State.setDie_dies (n : Nat) (x : Die) : (s.setDie n x).dies = s.dies.put n x := rfl
@[simp] theorem State.setDie_pipes (n : Nat) (x : Die) : (s.setDie n x).pipes = s.pipes := rfl
@[simp] theorem State.setDie_ports (n : Nat) (x : Die) : (s.setDie n x).ports = s.ports := rfl
@[simp] theorem State.setDie_patterns (n : Nat) (x : Die) : (s.setDie n x).patterns = s.patterns := rfl
@[simp] theorem State.setDie_tickets (n : Nat) (x : Die) : (s.setDie n x).tickets = s.tickets := rfl
@[simp] theorem State.setDie_plans (n : Nat) (x : Die) : (s.setDie n x).plans = s.plans := rfl
@[simp] theorem State.setDie_mvms (n : Nat) (x : Die) : (s.setDie n x).mvms = s.mvms := rfl
@[simp] theorem State.setDie_uals (n : Nat) (x : Die) : (s.setDie n x).uals = s.uals := rfl
@[simp] theorem State.setDie_forwards (n : Nat) (x : Die) : (s.setDie n x).forwards = s.forwards := rfl
@[simp] theorem State.setDie_switches (n : Nat) (x : Die) : (s.setDie n x).switches = s.switches := rfl
@[simp] theorem State.setDie_lostOut (n : Nat) (x : Die) : (s.setDie n x).lostOut = s.lostOut := rfl
@[simp] theorem State.setDie_notices (n : Nat) (x : Die) : (s.setDie n x).notices = s.notices := rfl
@[simp] theorem State.setDie_nextTask (n : Nat) (x : Die) : (s.setDie n x).nextTask = s.nextTask := rfl
@[simp] theorem State.setDie_nextTicket (n : Nat) (x : Die) : (s.setDie n x).nextTicket = s.nextTicket := rfl
@[simp] theorem State.setDie_nextAge (n : Nat) (x : Die) : (s.setDie n x).nextAge = s.nextAge := rfl
@[simp] theorem State.setDie_freeCtr (n : Nat) (x : Die) : (s.setDie n x).freeCtr = s.freeCtr := rfl
@[simp] theorem State.setDie_hostReply (n : Nat) (x : Die) : (s.setDie n x).hostReply = s.hostReply := rfl
@[simp] theorem State.setDie_trapVec (n : Nat) (x : Die) : (s.setDie n x).trapVec = s.trapVec := rfl
@[simp] theorem State.setDie_trapBase (n : Nat) (x : Die) : (s.setDie n x).trapBase = s.trapBase := rfl
@[simp] theorem State.setDie_bulkLimit (n : Nat) (x : Die) : (s.setDie n x).bulkLimit = s.bulkLimit := rfl
@[simp] theorem State.setDie_deadlockCycles (n : Nat) (x : Die) : (s.setDie n x).deadlockCycles = s.deadlockCycles := rfl
@[simp] theorem State.setDie_fabLost (n : Nat) (x : Die) : (s.setDie n x).fabLost = s.fabLost := rfl
@[simp] theorem State.setDie_devLost0 (n : Nat) (x : Die) : (s.setDie n x).devLost0 = s.devLost0 := rfl
@[simp] theorem State.setDie_devLost1 (n : Nat) (x : Die) : (s.setDie n x).devLost1 = s.devLost1 := rfl
@[simp] theorem State.setDie_pavQuota (n : Nat) (x : Die) : (s.setDie n x).pavQuota = s.pavQuota := rfl
@[simp] theorem State.setDie_keyCtl (n : Nat) (x : Die) : (s.setDie n x).keyCtl = s.keyCtl := rfl
@[simp] theorem State.setDie_attest (n : Nat) (x : Die) : (s.setDie n x).attest = s.attest := rfl
@[simp] theorem State.setDie_measExt (n : Nat) (x : Die) : (s.setDie n x).measExt = s.measExt := rfl
@[simp] theorem State.setDie_meas (n : Nat) (x : Die) : (s.setDie n x).meas = s.meas := rfl
@[simp] theorem State.setDie_keys (n : Nat) (x : Die) : (s.setDie n x).keys = s.keys := rfl
@[simp] theorem State.setDie_attestData (n : Nat) (x : Die) : (s.setDie n x).attestData = s.attestData := rfl
@[simp] theorem State.setDie_ctl (n : Nat) (x : Die) : (s.setDie n x).ctl = s.ctl := rfl
@[simp] theorem State.setDie_busy (n : Nat) (x : Die) : (s.setDie n x).busy = s.busy := rfl
@[simp] theorem State.setDie_flashBusy (n : Nat) (x : Die) : (s.setDie n x).flashBusy = s.flashBusy := rfl
@[simp] theorem State.setDie_bankErrors (n : Nat) (x : Die) : (s.setDie n x).bankErrors = s.bankErrors := rfl
@[simp] theorem State.setDie_power (n : Nat) (x : Die) : (s.setDie n x).power = s.power := rfl
@[simp] theorem State.setDie_poweredOff (n : Nat) (x : Die) : (s.setDie n x).poweredOff = s.poweredOff := rfl
@[simp] theorem State.setDie_bootStep (n : Nat) (x : Die) : (s.setDie n x).bootStep = s.bootStep := rfl
@[simp] theorem State.setDie_serving (n : Nat) (x : Die) : (s.setDie n x).serving = s.serving := rfl
@[simp] theorem State.setDie_fullMask (n : Nat) (x : Die) : (s.setDie n x).fullMask = s.fullMask := rfl
@[simp] theorem State.setDie_rateFailed (n : Nat) (x : Die) : (s.setDie n x).rateFailed = s.rateFailed := rfl
@[simp] theorem State.setDie_stackOut (n : Nat) (x : Die) : (s.setDie n x).stackOut = s.stackOut := rfl
@[simp] theorem State.setDie_smbusStep (n : Nat) (x : Die) : (s.setDie n x).smbusStep = s.smbusStep := rfl
@[simp] theorem State.setDie_powerCheckedAt (n : Nat) (x : Die) : (s.setDie n x).powerCheckedAt = s.powerCheckedAt := rfl

/-! State.setUal. -/

@[simp] theorem State.setUal_tape (n : Nat) (x : UalPort) : (s.setUal n x).tape = s.tape := rfl
@[simp] theorem State.setUal_cur (n : Nat) (x : UalPort) : (s.setUal n x).cur = s.cur := rfl
@[simp] theorem State.setUal_cycle (n : Nat) (x : UalPort) : (s.setUal n x).cycle = s.cycle := rfl
@[simp] theorem State.setUal_mem (n : Nat) (x : UalPort) : (s.setUal n x).mem = s.mem := rfl
@[simp] theorem State.setUal_bad (n : Nat) (x : UalPort) : (s.setUal n x).bad = s.bad := rfl
@[simp] theorem State.setUal_byteKey (n : Nat) (x : UalPort) : (s.setUal n x).byteKey = s.byteKey := rfl
@[simp] theorem State.setUal_tlb (n : Nat) (x : UalPort) : (s.setUal n x).tlb = s.tlb := rfl
@[simp] theorem State.setUal_hostCopies (n : Nat) (x : UalPort) : (s.setUal n x).hostCopies = s.hostCopies := rfl
@[simp] theorem State.setUal_writeCombine (n : Nat) (x : UalPort) : (s.setUal n x).writeCombine = s.writeCombine := rfl
@[simp] theorem State.setUal_groups (n : Nat) (x : UalPort) : (s.setUal n x).groups = s.groups := rfl
@[simp] theorem State.setUal_tasks (n : Nat) (x : UalPort) : (s.setUal n x).tasks = s.tasks := rfl
@[simp] theorem State.setUal_cores (n : Nat) (x : UalPort) : (s.setUal n x).cores = s.cores := rfl
@[simp] theorem State.setUal_clusters (n : Nat) (x : UalPort) : (s.setUal n x).clusters = s.clusters := rfl
@[simp] theorem State.setUal_dies (n : Nat) (x : UalPort) : (s.setUal n x).dies = s.dies := rfl
@[simp] theorem State.setUal_pipes (n : Nat) (x : UalPort) : (s.setUal n x).pipes = s.pipes := rfl
@[simp] theorem State.setUal_ports (n : Nat) (x : UalPort) : (s.setUal n x).ports = s.ports := rfl
@[simp] theorem State.setUal_patterns (n : Nat) (x : UalPort) : (s.setUal n x).patterns = s.patterns := rfl
@[simp] theorem State.setUal_tickets (n : Nat) (x : UalPort) : (s.setUal n x).tickets = s.tickets := rfl
@[simp] theorem State.setUal_plans (n : Nat) (x : UalPort) : (s.setUal n x).plans = s.plans := rfl
@[simp] theorem State.setUal_mvms (n : Nat) (x : UalPort) : (s.setUal n x).mvms = s.mvms := rfl
@[simp] theorem State.setUal_uals (n : Nat) (x : UalPort) : (s.setUal n x).uals = s.uals.put n x := rfl
@[simp] theorem State.setUal_forwards (n : Nat) (x : UalPort) : (s.setUal n x).forwards = s.forwards := rfl
@[simp] theorem State.setUal_switches (n : Nat) (x : UalPort) : (s.setUal n x).switches = s.switches := rfl
@[simp] theorem State.setUal_lostOut (n : Nat) (x : UalPort) : (s.setUal n x).lostOut = s.lostOut := rfl
@[simp] theorem State.setUal_notices (n : Nat) (x : UalPort) : (s.setUal n x).notices = s.notices := rfl
@[simp] theorem State.setUal_nextTask (n : Nat) (x : UalPort) : (s.setUal n x).nextTask = s.nextTask := rfl
@[simp] theorem State.setUal_nextTicket (n : Nat) (x : UalPort) : (s.setUal n x).nextTicket = s.nextTicket := rfl
@[simp] theorem State.setUal_nextAge (n : Nat) (x : UalPort) : (s.setUal n x).nextAge = s.nextAge := rfl
@[simp] theorem State.setUal_freeCtr (n : Nat) (x : UalPort) : (s.setUal n x).freeCtr = s.freeCtr := rfl
@[simp] theorem State.setUal_hostReply (n : Nat) (x : UalPort) : (s.setUal n x).hostReply = s.hostReply := rfl
@[simp] theorem State.setUal_trapVec (n : Nat) (x : UalPort) : (s.setUal n x).trapVec = s.trapVec := rfl
@[simp] theorem State.setUal_trapBase (n : Nat) (x : UalPort) : (s.setUal n x).trapBase = s.trapBase := rfl
@[simp] theorem State.setUal_bulkLimit (n : Nat) (x : UalPort) : (s.setUal n x).bulkLimit = s.bulkLimit := rfl
@[simp] theorem State.setUal_deadlockCycles (n : Nat) (x : UalPort) : (s.setUal n x).deadlockCycles = s.deadlockCycles := rfl
@[simp] theorem State.setUal_fabLost (n : Nat) (x : UalPort) : (s.setUal n x).fabLost = s.fabLost := rfl
@[simp] theorem State.setUal_devLost0 (n : Nat) (x : UalPort) : (s.setUal n x).devLost0 = s.devLost0 := rfl
@[simp] theorem State.setUal_devLost1 (n : Nat) (x : UalPort) : (s.setUal n x).devLost1 = s.devLost1 := rfl
@[simp] theorem State.setUal_pavQuota (n : Nat) (x : UalPort) : (s.setUal n x).pavQuota = s.pavQuota := rfl
@[simp] theorem State.setUal_keyCtl (n : Nat) (x : UalPort) : (s.setUal n x).keyCtl = s.keyCtl := rfl
@[simp] theorem State.setUal_attest (n : Nat) (x : UalPort) : (s.setUal n x).attest = s.attest := rfl
@[simp] theorem State.setUal_measExt (n : Nat) (x : UalPort) : (s.setUal n x).measExt = s.measExt := rfl
@[simp] theorem State.setUal_meas (n : Nat) (x : UalPort) : (s.setUal n x).meas = s.meas := rfl
@[simp] theorem State.setUal_keys (n : Nat) (x : UalPort) : (s.setUal n x).keys = s.keys := rfl
@[simp] theorem State.setUal_attestData (n : Nat) (x : UalPort) : (s.setUal n x).attestData = s.attestData := rfl
@[simp] theorem State.setUal_ctl (n : Nat) (x : UalPort) : (s.setUal n x).ctl = s.ctl := rfl
@[simp] theorem State.setUal_busy (n : Nat) (x : UalPort) : (s.setUal n x).busy = s.busy := rfl
@[simp] theorem State.setUal_flashBusy (n : Nat) (x : UalPort) : (s.setUal n x).flashBusy = s.flashBusy := rfl
@[simp] theorem State.setUal_bankErrors (n : Nat) (x : UalPort) : (s.setUal n x).bankErrors = s.bankErrors := rfl
@[simp] theorem State.setUal_power (n : Nat) (x : UalPort) : (s.setUal n x).power = s.power := rfl
@[simp] theorem State.setUal_poweredOff (n : Nat) (x : UalPort) : (s.setUal n x).poweredOff = s.poweredOff := rfl
@[simp] theorem State.setUal_bootStep (n : Nat) (x : UalPort) : (s.setUal n x).bootStep = s.bootStep := rfl
@[simp] theorem State.setUal_serving (n : Nat) (x : UalPort) : (s.setUal n x).serving = s.serving := rfl
@[simp] theorem State.setUal_fullMask (n : Nat) (x : UalPort) : (s.setUal n x).fullMask = s.fullMask := rfl
@[simp] theorem State.setUal_rateFailed (n : Nat) (x : UalPort) : (s.setUal n x).rateFailed = s.rateFailed := rfl
@[simp] theorem State.setUal_stackOut (n : Nat) (x : UalPort) : (s.setUal n x).stackOut = s.stackOut := rfl
@[simp] theorem State.setUal_smbusStep (n : Nat) (x : UalPort) : (s.setUal n x).smbusStep = s.smbusStep := rfl
@[simp] theorem State.setUal_powerCheckedAt (n : Nat) (x : UalPort) : (s.setUal n x).powerCheckedAt = s.powerCheckedAt := rfl

/-! State.setSwitch. -/

@[simp] theorem State.setSwitch_tape (n : Nat) (x : Switch) : (s.setSwitch n x).tape = s.tape := rfl
@[simp] theorem State.setSwitch_cur (n : Nat) (x : Switch) : (s.setSwitch n x).cur = s.cur := rfl
@[simp] theorem State.setSwitch_cycle (n : Nat) (x : Switch) : (s.setSwitch n x).cycle = s.cycle := rfl
@[simp] theorem State.setSwitch_mem (n : Nat) (x : Switch) : (s.setSwitch n x).mem = s.mem := rfl
@[simp] theorem State.setSwitch_bad (n : Nat) (x : Switch) : (s.setSwitch n x).bad = s.bad := rfl
@[simp] theorem State.setSwitch_byteKey (n : Nat) (x : Switch) : (s.setSwitch n x).byteKey = s.byteKey := rfl
@[simp] theorem State.setSwitch_tlb (n : Nat) (x : Switch) : (s.setSwitch n x).tlb = s.tlb := rfl
@[simp] theorem State.setSwitch_hostCopies (n : Nat) (x : Switch) : (s.setSwitch n x).hostCopies = s.hostCopies := rfl
@[simp] theorem State.setSwitch_writeCombine (n : Nat) (x : Switch) : (s.setSwitch n x).writeCombine = s.writeCombine := rfl
@[simp] theorem State.setSwitch_groups (n : Nat) (x : Switch) : (s.setSwitch n x).groups = s.groups := rfl
@[simp] theorem State.setSwitch_tasks (n : Nat) (x : Switch) : (s.setSwitch n x).tasks = s.tasks := rfl
@[simp] theorem State.setSwitch_cores (n : Nat) (x : Switch) : (s.setSwitch n x).cores = s.cores := rfl
@[simp] theorem State.setSwitch_clusters (n : Nat) (x : Switch) : (s.setSwitch n x).clusters = s.clusters := rfl
@[simp] theorem State.setSwitch_dies (n : Nat) (x : Switch) : (s.setSwitch n x).dies = s.dies := rfl
@[simp] theorem State.setSwitch_pipes (n : Nat) (x : Switch) : (s.setSwitch n x).pipes = s.pipes := rfl
@[simp] theorem State.setSwitch_ports (n : Nat) (x : Switch) : (s.setSwitch n x).ports = s.ports := rfl
@[simp] theorem State.setSwitch_patterns (n : Nat) (x : Switch) : (s.setSwitch n x).patterns = s.patterns := rfl
@[simp] theorem State.setSwitch_tickets (n : Nat) (x : Switch) : (s.setSwitch n x).tickets = s.tickets := rfl
@[simp] theorem State.setSwitch_plans (n : Nat) (x : Switch) : (s.setSwitch n x).plans = s.plans := rfl
@[simp] theorem State.setSwitch_mvms (n : Nat) (x : Switch) : (s.setSwitch n x).mvms = s.mvms := rfl
@[simp] theorem State.setSwitch_uals (n : Nat) (x : Switch) : (s.setSwitch n x).uals = s.uals := rfl
@[simp] theorem State.setSwitch_forwards (n : Nat) (x : Switch) : (s.setSwitch n x).forwards = s.forwards := rfl
@[simp] theorem State.setSwitch_switches (n : Nat) (x : Switch) : (s.setSwitch n x).switches = s.switches.put n x := rfl
@[simp] theorem State.setSwitch_lostOut (n : Nat) (x : Switch) : (s.setSwitch n x).lostOut = s.lostOut := rfl
@[simp] theorem State.setSwitch_notices (n : Nat) (x : Switch) : (s.setSwitch n x).notices = s.notices := rfl
@[simp] theorem State.setSwitch_nextTask (n : Nat) (x : Switch) : (s.setSwitch n x).nextTask = s.nextTask := rfl
@[simp] theorem State.setSwitch_nextTicket (n : Nat) (x : Switch) : (s.setSwitch n x).nextTicket = s.nextTicket := rfl
@[simp] theorem State.setSwitch_nextAge (n : Nat) (x : Switch) : (s.setSwitch n x).nextAge = s.nextAge := rfl
@[simp] theorem State.setSwitch_freeCtr (n : Nat) (x : Switch) : (s.setSwitch n x).freeCtr = s.freeCtr := rfl
@[simp] theorem State.setSwitch_hostReply (n : Nat) (x : Switch) : (s.setSwitch n x).hostReply = s.hostReply := rfl
@[simp] theorem State.setSwitch_trapVec (n : Nat) (x : Switch) : (s.setSwitch n x).trapVec = s.trapVec := rfl
@[simp] theorem State.setSwitch_trapBase (n : Nat) (x : Switch) : (s.setSwitch n x).trapBase = s.trapBase := rfl
@[simp] theorem State.setSwitch_bulkLimit (n : Nat) (x : Switch) : (s.setSwitch n x).bulkLimit = s.bulkLimit := rfl
@[simp] theorem State.setSwitch_deadlockCycles (n : Nat) (x : Switch) : (s.setSwitch n x).deadlockCycles = s.deadlockCycles := rfl
@[simp] theorem State.setSwitch_fabLost (n : Nat) (x : Switch) : (s.setSwitch n x).fabLost = s.fabLost := rfl
@[simp] theorem State.setSwitch_devLost0 (n : Nat) (x : Switch) : (s.setSwitch n x).devLost0 = s.devLost0 := rfl
@[simp] theorem State.setSwitch_devLost1 (n : Nat) (x : Switch) : (s.setSwitch n x).devLost1 = s.devLost1 := rfl
@[simp] theorem State.setSwitch_pavQuota (n : Nat) (x : Switch) : (s.setSwitch n x).pavQuota = s.pavQuota := rfl
@[simp] theorem State.setSwitch_keyCtl (n : Nat) (x : Switch) : (s.setSwitch n x).keyCtl = s.keyCtl := rfl
@[simp] theorem State.setSwitch_attest (n : Nat) (x : Switch) : (s.setSwitch n x).attest = s.attest := rfl
@[simp] theorem State.setSwitch_measExt (n : Nat) (x : Switch) : (s.setSwitch n x).measExt = s.measExt := rfl
@[simp] theorem State.setSwitch_meas (n : Nat) (x : Switch) : (s.setSwitch n x).meas = s.meas := rfl
@[simp] theorem State.setSwitch_keys (n : Nat) (x : Switch) : (s.setSwitch n x).keys = s.keys := rfl
@[simp] theorem State.setSwitch_attestData (n : Nat) (x : Switch) : (s.setSwitch n x).attestData = s.attestData := rfl
@[simp] theorem State.setSwitch_ctl (n : Nat) (x : Switch) : (s.setSwitch n x).ctl = s.ctl := rfl
@[simp] theorem State.setSwitch_busy (n : Nat) (x : Switch) : (s.setSwitch n x).busy = s.busy := rfl
@[simp] theorem State.setSwitch_flashBusy (n : Nat) (x : Switch) : (s.setSwitch n x).flashBusy = s.flashBusy := rfl
@[simp] theorem State.setSwitch_bankErrors (n : Nat) (x : Switch) : (s.setSwitch n x).bankErrors = s.bankErrors := rfl
@[simp] theorem State.setSwitch_power (n : Nat) (x : Switch) : (s.setSwitch n x).power = s.power := rfl
@[simp] theorem State.setSwitch_poweredOff (n : Nat) (x : Switch) : (s.setSwitch n x).poweredOff = s.poweredOff := rfl
@[simp] theorem State.setSwitch_bootStep (n : Nat) (x : Switch) : (s.setSwitch n x).bootStep = s.bootStep := rfl
@[simp] theorem State.setSwitch_serving (n : Nat) (x : Switch) : (s.setSwitch n x).serving = s.serving := rfl
@[simp] theorem State.setSwitch_fullMask (n : Nat) (x : Switch) : (s.setSwitch n x).fullMask = s.fullMask := rfl
@[simp] theorem State.setSwitch_rateFailed (n : Nat) (x : Switch) : (s.setSwitch n x).rateFailed = s.rateFailed := rfl
@[simp] theorem State.setSwitch_stackOut (n : Nat) (x : Switch) : (s.setSwitch n x).stackOut = s.stackOut := rfl
@[simp] theorem State.setSwitch_smbusStep (n : Nat) (x : Switch) : (s.setSwitch n x).smbusStep = s.smbusStep := rfl
@[simp] theorem State.setSwitch_powerCheckedAt (n : Nat) (x : Switch) : (s.setSwitch n x).powerCheckedAt = s.powerCheckedAt := rfl

/-! State.setTask. -/

@[simp] theorem State.setTask_tape (n : Nat) (x : Task) : (s.setTask n x).tape = s.tape := rfl
@[simp] theorem State.setTask_cur (n : Nat) (x : Task) : (s.setTask n x).cur = s.cur := rfl
@[simp] theorem State.setTask_cycle (n : Nat) (x : Task) : (s.setTask n x).cycle = s.cycle := rfl
@[simp] theorem State.setTask_mem (n : Nat) (x : Task) : (s.setTask n x).mem = s.mem := rfl
@[simp] theorem State.setTask_bad (n : Nat) (x : Task) : (s.setTask n x).bad = s.bad := rfl
@[simp] theorem State.setTask_byteKey (n : Nat) (x : Task) : (s.setTask n x).byteKey = s.byteKey := rfl
@[simp] theorem State.setTask_tlb (n : Nat) (x : Task) : (s.setTask n x).tlb = s.tlb := rfl
@[simp] theorem State.setTask_hostCopies (n : Nat) (x : Task) : (s.setTask n x).hostCopies = s.hostCopies := rfl
@[simp] theorem State.setTask_writeCombine (n : Nat) (x : Task) : (s.setTask n x).writeCombine = s.writeCombine := rfl
@[simp] theorem State.setTask_groups (n : Nat) (x : Task) : (s.setTask n x).groups = s.groups := rfl
@[simp] theorem State.setTask_tasks (n : Nat) (x : Task) : (s.setTask n x).tasks = s.tasks.put n x := rfl
@[simp] theorem State.setTask_cores (n : Nat) (x : Task) : (s.setTask n x).cores = s.cores := rfl
@[simp] theorem State.setTask_clusters (n : Nat) (x : Task) : (s.setTask n x).clusters = s.clusters := rfl
@[simp] theorem State.setTask_dies (n : Nat) (x : Task) : (s.setTask n x).dies = s.dies := rfl
@[simp] theorem State.setTask_pipes (n : Nat) (x : Task) : (s.setTask n x).pipes = s.pipes := rfl
@[simp] theorem State.setTask_ports (n : Nat) (x : Task) : (s.setTask n x).ports = s.ports := rfl
@[simp] theorem State.setTask_patterns (n : Nat) (x : Task) : (s.setTask n x).patterns = s.patterns := rfl
@[simp] theorem State.setTask_tickets (n : Nat) (x : Task) : (s.setTask n x).tickets = s.tickets := rfl
@[simp] theorem State.setTask_plans (n : Nat) (x : Task) : (s.setTask n x).plans = s.plans := rfl
@[simp] theorem State.setTask_mvms (n : Nat) (x : Task) : (s.setTask n x).mvms = s.mvms := rfl
@[simp] theorem State.setTask_uals (n : Nat) (x : Task) : (s.setTask n x).uals = s.uals := rfl
@[simp] theorem State.setTask_forwards (n : Nat) (x : Task) : (s.setTask n x).forwards = s.forwards := rfl
@[simp] theorem State.setTask_switches (n : Nat) (x : Task) : (s.setTask n x).switches = s.switches := rfl
@[simp] theorem State.setTask_lostOut (n : Nat) (x : Task) : (s.setTask n x).lostOut = s.lostOut := rfl
@[simp] theorem State.setTask_notices (n : Nat) (x : Task) : (s.setTask n x).notices = s.notices := rfl
@[simp] theorem State.setTask_nextTask (n : Nat) (x : Task) : (s.setTask n x).nextTask = s.nextTask := rfl
@[simp] theorem State.setTask_nextTicket (n : Nat) (x : Task) : (s.setTask n x).nextTicket = s.nextTicket := rfl
@[simp] theorem State.setTask_nextAge (n : Nat) (x : Task) : (s.setTask n x).nextAge = s.nextAge := rfl
@[simp] theorem State.setTask_freeCtr (n : Nat) (x : Task) : (s.setTask n x).freeCtr = s.freeCtr := rfl
@[simp] theorem State.setTask_hostReply (n : Nat) (x : Task) : (s.setTask n x).hostReply = s.hostReply := rfl
@[simp] theorem State.setTask_trapVec (n : Nat) (x : Task) : (s.setTask n x).trapVec = s.trapVec := rfl
@[simp] theorem State.setTask_trapBase (n : Nat) (x : Task) : (s.setTask n x).trapBase = s.trapBase := rfl
@[simp] theorem State.setTask_bulkLimit (n : Nat) (x : Task) : (s.setTask n x).bulkLimit = s.bulkLimit := rfl
@[simp] theorem State.setTask_deadlockCycles (n : Nat) (x : Task) : (s.setTask n x).deadlockCycles = s.deadlockCycles := rfl
@[simp] theorem State.setTask_fabLost (n : Nat) (x : Task) : (s.setTask n x).fabLost = s.fabLost := rfl
@[simp] theorem State.setTask_devLost0 (n : Nat) (x : Task) : (s.setTask n x).devLost0 = s.devLost0 := rfl
@[simp] theorem State.setTask_devLost1 (n : Nat) (x : Task) : (s.setTask n x).devLost1 = s.devLost1 := rfl
@[simp] theorem State.setTask_pavQuota (n : Nat) (x : Task) : (s.setTask n x).pavQuota = s.pavQuota := rfl
@[simp] theorem State.setTask_keyCtl (n : Nat) (x : Task) : (s.setTask n x).keyCtl = s.keyCtl := rfl
@[simp] theorem State.setTask_attest (n : Nat) (x : Task) : (s.setTask n x).attest = s.attest := rfl
@[simp] theorem State.setTask_measExt (n : Nat) (x : Task) : (s.setTask n x).measExt = s.measExt := rfl
@[simp] theorem State.setTask_meas (n : Nat) (x : Task) : (s.setTask n x).meas = s.meas := rfl
@[simp] theorem State.setTask_keys (n : Nat) (x : Task) : (s.setTask n x).keys = s.keys := rfl
@[simp] theorem State.setTask_attestData (n : Nat) (x : Task) : (s.setTask n x).attestData = s.attestData := rfl
@[simp] theorem State.setTask_ctl (n : Nat) (x : Task) : (s.setTask n x).ctl = s.ctl := rfl
@[simp] theorem State.setTask_busy (n : Nat) (x : Task) : (s.setTask n x).busy = s.busy := rfl
@[simp] theorem State.setTask_flashBusy (n : Nat) (x : Task) : (s.setTask n x).flashBusy = s.flashBusy := rfl
@[simp] theorem State.setTask_bankErrors (n : Nat) (x : Task) : (s.setTask n x).bankErrors = s.bankErrors := rfl
@[simp] theorem State.setTask_power (n : Nat) (x : Task) : (s.setTask n x).power = s.power := rfl
@[simp] theorem State.setTask_poweredOff (n : Nat) (x : Task) : (s.setTask n x).poweredOff = s.poweredOff := rfl
@[simp] theorem State.setTask_bootStep (n : Nat) (x : Task) : (s.setTask n x).bootStep = s.bootStep := rfl
@[simp] theorem State.setTask_serving (n : Nat) (x : Task) : (s.setTask n x).serving = s.serving := rfl
@[simp] theorem State.setTask_fullMask (n : Nat) (x : Task) : (s.setTask n x).fullMask = s.fullMask := rfl
@[simp] theorem State.setTask_rateFailed (n : Nat) (x : Task) : (s.setTask n x).rateFailed = s.rateFailed := rfl
@[simp] theorem State.setTask_stackOut (n : Nat) (x : Task) : (s.setTask n x).stackOut = s.stackOut := rfl
@[simp] theorem State.setTask_smbusStep (n : Nat) (x : Task) : (s.setTask n x).smbusStep = s.smbusStep := rfl
@[simp] theorem State.setTask_powerCheckedAt (n : Nat) (x : Task) : (s.setTask n x).powerCheckedAt = s.powerCheckedAt := rfl

/-! State.setPlan. -/

@[simp] theorem State.setPlan_tape (n : Nat) (x : Plan) : (s.setPlan n x).tape = s.tape := rfl
@[simp] theorem State.setPlan_cur (n : Nat) (x : Plan) : (s.setPlan n x).cur = s.cur := rfl
@[simp] theorem State.setPlan_cycle (n : Nat) (x : Plan) : (s.setPlan n x).cycle = s.cycle := rfl
@[simp] theorem State.setPlan_mem (n : Nat) (x : Plan) : (s.setPlan n x).mem = s.mem := rfl
@[simp] theorem State.setPlan_bad (n : Nat) (x : Plan) : (s.setPlan n x).bad = s.bad := rfl
@[simp] theorem State.setPlan_byteKey (n : Nat) (x : Plan) : (s.setPlan n x).byteKey = s.byteKey := rfl
@[simp] theorem State.setPlan_tlb (n : Nat) (x : Plan) : (s.setPlan n x).tlb = s.tlb := rfl
@[simp] theorem State.setPlan_hostCopies (n : Nat) (x : Plan) : (s.setPlan n x).hostCopies = s.hostCopies := rfl
@[simp] theorem State.setPlan_writeCombine (n : Nat) (x : Plan) : (s.setPlan n x).writeCombine = s.writeCombine := rfl
@[simp] theorem State.setPlan_groups (n : Nat) (x : Plan) : (s.setPlan n x).groups = s.groups := rfl
@[simp] theorem State.setPlan_tasks (n : Nat) (x : Plan) : (s.setPlan n x).tasks = s.tasks := rfl
@[simp] theorem State.setPlan_cores (n : Nat) (x : Plan) : (s.setPlan n x).cores = s.cores := rfl
@[simp] theorem State.setPlan_clusters (n : Nat) (x : Plan) : (s.setPlan n x).clusters = s.clusters := rfl
@[simp] theorem State.setPlan_dies (n : Nat) (x : Plan) : (s.setPlan n x).dies = s.dies := rfl
@[simp] theorem State.setPlan_pipes (n : Nat) (x : Plan) : (s.setPlan n x).pipes = s.pipes := rfl
@[simp] theorem State.setPlan_ports (n : Nat) (x : Plan) : (s.setPlan n x).ports = s.ports := rfl
@[simp] theorem State.setPlan_patterns (n : Nat) (x : Plan) : (s.setPlan n x).patterns = s.patterns := rfl
@[simp] theorem State.setPlan_tickets (n : Nat) (x : Plan) : (s.setPlan n x).tickets = s.tickets := rfl
@[simp] theorem State.setPlan_plans (n : Nat) (x : Plan) : (s.setPlan n x).plans = s.plans.put n x := rfl
@[simp] theorem State.setPlan_mvms (n : Nat) (x : Plan) : (s.setPlan n x).mvms = s.mvms := rfl
@[simp] theorem State.setPlan_uals (n : Nat) (x : Plan) : (s.setPlan n x).uals = s.uals := rfl
@[simp] theorem State.setPlan_forwards (n : Nat) (x : Plan) : (s.setPlan n x).forwards = s.forwards := rfl
@[simp] theorem State.setPlan_switches (n : Nat) (x : Plan) : (s.setPlan n x).switches = s.switches := rfl
@[simp] theorem State.setPlan_lostOut (n : Nat) (x : Plan) : (s.setPlan n x).lostOut = s.lostOut := rfl
@[simp] theorem State.setPlan_notices (n : Nat) (x : Plan) : (s.setPlan n x).notices = s.notices := rfl
@[simp] theorem State.setPlan_nextTask (n : Nat) (x : Plan) : (s.setPlan n x).nextTask = s.nextTask := rfl
@[simp] theorem State.setPlan_nextTicket (n : Nat) (x : Plan) : (s.setPlan n x).nextTicket = s.nextTicket := rfl
@[simp] theorem State.setPlan_nextAge (n : Nat) (x : Plan) : (s.setPlan n x).nextAge = s.nextAge := rfl
@[simp] theorem State.setPlan_freeCtr (n : Nat) (x : Plan) : (s.setPlan n x).freeCtr = s.freeCtr := rfl
@[simp] theorem State.setPlan_hostReply (n : Nat) (x : Plan) : (s.setPlan n x).hostReply = s.hostReply := rfl
@[simp] theorem State.setPlan_trapVec (n : Nat) (x : Plan) : (s.setPlan n x).trapVec = s.trapVec := rfl
@[simp] theorem State.setPlan_trapBase (n : Nat) (x : Plan) : (s.setPlan n x).trapBase = s.trapBase := rfl
@[simp] theorem State.setPlan_bulkLimit (n : Nat) (x : Plan) : (s.setPlan n x).bulkLimit = s.bulkLimit := rfl
@[simp] theorem State.setPlan_deadlockCycles (n : Nat) (x : Plan) : (s.setPlan n x).deadlockCycles = s.deadlockCycles := rfl
@[simp] theorem State.setPlan_fabLost (n : Nat) (x : Plan) : (s.setPlan n x).fabLost = s.fabLost := rfl
@[simp] theorem State.setPlan_devLost0 (n : Nat) (x : Plan) : (s.setPlan n x).devLost0 = s.devLost0 := rfl
@[simp] theorem State.setPlan_devLost1 (n : Nat) (x : Plan) : (s.setPlan n x).devLost1 = s.devLost1 := rfl
@[simp] theorem State.setPlan_pavQuota (n : Nat) (x : Plan) : (s.setPlan n x).pavQuota = s.pavQuota := rfl
@[simp] theorem State.setPlan_keyCtl (n : Nat) (x : Plan) : (s.setPlan n x).keyCtl = s.keyCtl := rfl
@[simp] theorem State.setPlan_attest (n : Nat) (x : Plan) : (s.setPlan n x).attest = s.attest := rfl
@[simp] theorem State.setPlan_measExt (n : Nat) (x : Plan) : (s.setPlan n x).measExt = s.measExt := rfl
@[simp] theorem State.setPlan_meas (n : Nat) (x : Plan) : (s.setPlan n x).meas = s.meas := rfl
@[simp] theorem State.setPlan_keys (n : Nat) (x : Plan) : (s.setPlan n x).keys = s.keys := rfl
@[simp] theorem State.setPlan_attestData (n : Nat) (x : Plan) : (s.setPlan n x).attestData = s.attestData := rfl
@[simp] theorem State.setPlan_ctl (n : Nat) (x : Plan) : (s.setPlan n x).ctl = s.ctl := rfl
@[simp] theorem State.setPlan_busy (n : Nat) (x : Plan) : (s.setPlan n x).busy = s.busy := rfl
@[simp] theorem State.setPlan_flashBusy (n : Nat) (x : Plan) : (s.setPlan n x).flashBusy = s.flashBusy := rfl
@[simp] theorem State.setPlan_bankErrors (n : Nat) (x : Plan) : (s.setPlan n x).bankErrors = s.bankErrors := rfl
@[simp] theorem State.setPlan_power (n : Nat) (x : Plan) : (s.setPlan n x).power = s.power := rfl
@[simp] theorem State.setPlan_poweredOff (n : Nat) (x : Plan) : (s.setPlan n x).poweredOff = s.poweredOff := rfl
@[simp] theorem State.setPlan_bootStep (n : Nat) (x : Plan) : (s.setPlan n x).bootStep = s.bootStep := rfl
@[simp] theorem State.setPlan_serving (n : Nat) (x : Plan) : (s.setPlan n x).serving = s.serving := rfl
@[simp] theorem State.setPlan_fullMask (n : Nat) (x : Plan) : (s.setPlan n x).fullMask = s.fullMask := rfl
@[simp] theorem State.setPlan_rateFailed (n : Nat) (x : Plan) : (s.setPlan n x).rateFailed = s.rateFailed := rfl
@[simp] theorem State.setPlan_stackOut (n : Nat) (x : Plan) : (s.setPlan n x).stackOut = s.stackOut := rfl
@[simp] theorem State.setPlan_smbusStep (n : Nat) (x : Plan) : (s.setPlan n x).smbusStep = s.smbusStep := rfl
@[simp] theorem State.setPlan_powerCheckedAt (n : Nat) (x : Plan) : (s.setPlan n x).powerCheckedAt = s.powerCheckedAt := rfl

/-! State.modPlan. -/

@[simp] theorem State.modPlan_tape (n : Nat) (f : Plan → Plan) : (s.modPlan n f).tape = s.tape := rfl
@[simp] theorem State.modPlan_cur (n : Nat) (f : Plan → Plan) : (s.modPlan n f).cur = s.cur := rfl
@[simp] theorem State.modPlan_cycle (n : Nat) (f : Plan → Plan) : (s.modPlan n f).cycle = s.cycle := rfl
@[simp] theorem State.modPlan_mem (n : Nat) (f : Plan → Plan) : (s.modPlan n f).mem = s.mem := rfl
@[simp] theorem State.modPlan_bad (n : Nat) (f : Plan → Plan) : (s.modPlan n f).bad = s.bad := rfl
@[simp] theorem State.modPlan_byteKey (n : Nat) (f : Plan → Plan) : (s.modPlan n f).byteKey = s.byteKey := rfl
@[simp] theorem State.modPlan_tlb (n : Nat) (f : Plan → Plan) : (s.modPlan n f).tlb = s.tlb := rfl
@[simp] theorem State.modPlan_hostCopies (n : Nat) (f : Plan → Plan) : (s.modPlan n f).hostCopies = s.hostCopies := rfl
@[simp] theorem State.modPlan_writeCombine (n : Nat) (f : Plan → Plan) : (s.modPlan n f).writeCombine = s.writeCombine := rfl
@[simp] theorem State.modPlan_groups (n : Nat) (f : Plan → Plan) : (s.modPlan n f).groups = s.groups := rfl
@[simp] theorem State.modPlan_tasks (n : Nat) (f : Plan → Plan) : (s.modPlan n f).tasks = s.tasks := rfl
@[simp] theorem State.modPlan_cores (n : Nat) (f : Plan → Plan) : (s.modPlan n f).cores = s.cores := rfl
@[simp] theorem State.modPlan_clusters (n : Nat) (f : Plan → Plan) : (s.modPlan n f).clusters = s.clusters := rfl
@[simp] theorem State.modPlan_dies (n : Nat) (f : Plan → Plan) : (s.modPlan n f).dies = s.dies := rfl
@[simp] theorem State.modPlan_pipes (n : Nat) (f : Plan → Plan) : (s.modPlan n f).pipes = s.pipes := rfl
@[simp] theorem State.modPlan_ports (n : Nat) (f : Plan → Plan) : (s.modPlan n f).ports = s.ports := rfl
@[simp] theorem State.modPlan_patterns (n : Nat) (f : Plan → Plan) : (s.modPlan n f).patterns = s.patterns := rfl
@[simp] theorem State.modPlan_tickets (n : Nat) (f : Plan → Plan) : (s.modPlan n f).tickets = s.tickets := rfl
@[simp] theorem State.modPlan_plans (n : Nat) (f : Plan → Plan) : (s.modPlan n f).plans = Map.modify n f s.plans := rfl
@[simp] theorem State.modPlan_mvms (n : Nat) (f : Plan → Plan) : (s.modPlan n f).mvms = s.mvms := rfl
@[simp] theorem State.modPlan_uals (n : Nat) (f : Plan → Plan) : (s.modPlan n f).uals = s.uals := rfl
@[simp] theorem State.modPlan_forwards (n : Nat) (f : Plan → Plan) : (s.modPlan n f).forwards = s.forwards := rfl
@[simp] theorem State.modPlan_switches (n : Nat) (f : Plan → Plan) : (s.modPlan n f).switches = s.switches := rfl
@[simp] theorem State.modPlan_lostOut (n : Nat) (f : Plan → Plan) : (s.modPlan n f).lostOut = s.lostOut := rfl
@[simp] theorem State.modPlan_notices (n : Nat) (f : Plan → Plan) : (s.modPlan n f).notices = s.notices := rfl
@[simp] theorem State.modPlan_nextTask (n : Nat) (f : Plan → Plan) : (s.modPlan n f).nextTask = s.nextTask := rfl
@[simp] theorem State.modPlan_nextTicket (n : Nat) (f : Plan → Plan) : (s.modPlan n f).nextTicket = s.nextTicket := rfl
@[simp] theorem State.modPlan_nextAge (n : Nat) (f : Plan → Plan) : (s.modPlan n f).nextAge = s.nextAge := rfl
@[simp] theorem State.modPlan_freeCtr (n : Nat) (f : Plan → Plan) : (s.modPlan n f).freeCtr = s.freeCtr := rfl
@[simp] theorem State.modPlan_hostReply (n : Nat) (f : Plan → Plan) : (s.modPlan n f).hostReply = s.hostReply := rfl
@[simp] theorem State.modPlan_trapVec (n : Nat) (f : Plan → Plan) : (s.modPlan n f).trapVec = s.trapVec := rfl
@[simp] theorem State.modPlan_trapBase (n : Nat) (f : Plan → Plan) : (s.modPlan n f).trapBase = s.trapBase := rfl
@[simp] theorem State.modPlan_bulkLimit (n : Nat) (f : Plan → Plan) : (s.modPlan n f).bulkLimit = s.bulkLimit := rfl
@[simp] theorem State.modPlan_deadlockCycles (n : Nat) (f : Plan → Plan) : (s.modPlan n f).deadlockCycles = s.deadlockCycles := rfl
@[simp] theorem State.modPlan_fabLost (n : Nat) (f : Plan → Plan) : (s.modPlan n f).fabLost = s.fabLost := rfl
@[simp] theorem State.modPlan_devLost0 (n : Nat) (f : Plan → Plan) : (s.modPlan n f).devLost0 = s.devLost0 := rfl
@[simp] theorem State.modPlan_devLost1 (n : Nat) (f : Plan → Plan) : (s.modPlan n f).devLost1 = s.devLost1 := rfl
@[simp] theorem State.modPlan_pavQuota (n : Nat) (f : Plan → Plan) : (s.modPlan n f).pavQuota = s.pavQuota := rfl
@[simp] theorem State.modPlan_keyCtl (n : Nat) (f : Plan → Plan) : (s.modPlan n f).keyCtl = s.keyCtl := rfl
@[simp] theorem State.modPlan_attest (n : Nat) (f : Plan → Plan) : (s.modPlan n f).attest = s.attest := rfl
@[simp] theorem State.modPlan_measExt (n : Nat) (f : Plan → Plan) : (s.modPlan n f).measExt = s.measExt := rfl
@[simp] theorem State.modPlan_meas (n : Nat) (f : Plan → Plan) : (s.modPlan n f).meas = s.meas := rfl
@[simp] theorem State.modPlan_keys (n : Nat) (f : Plan → Plan) : (s.modPlan n f).keys = s.keys := rfl
@[simp] theorem State.modPlan_attestData (n : Nat) (f : Plan → Plan) : (s.modPlan n f).attestData = s.attestData := rfl
@[simp] theorem State.modPlan_ctl (n : Nat) (f : Plan → Plan) : (s.modPlan n f).ctl = s.ctl := rfl
@[simp] theorem State.modPlan_busy (n : Nat) (f : Plan → Plan) : (s.modPlan n f).busy = s.busy := rfl
@[simp] theorem State.modPlan_flashBusy (n : Nat) (f : Plan → Plan) : (s.modPlan n f).flashBusy = s.flashBusy := rfl
@[simp] theorem State.modPlan_bankErrors (n : Nat) (f : Plan → Plan) : (s.modPlan n f).bankErrors = s.bankErrors := rfl
@[simp] theorem State.modPlan_power (n : Nat) (f : Plan → Plan) : (s.modPlan n f).power = s.power := rfl
@[simp] theorem State.modPlan_poweredOff (n : Nat) (f : Plan → Plan) : (s.modPlan n f).poweredOff = s.poweredOff := rfl
@[simp] theorem State.modPlan_bootStep (n : Nat) (f : Plan → Plan) : (s.modPlan n f).bootStep = s.bootStep := rfl
@[simp] theorem State.modPlan_serving (n : Nat) (f : Plan → Plan) : (s.modPlan n f).serving = s.serving := rfl
@[simp] theorem State.modPlan_fullMask (n : Nat) (f : Plan → Plan) : (s.modPlan n f).fullMask = s.fullMask := rfl
@[simp] theorem State.modPlan_rateFailed (n : Nat) (f : Plan → Plan) : (s.modPlan n f).rateFailed = s.rateFailed := rfl
@[simp] theorem State.modPlan_stackOut (n : Nat) (f : Plan → Plan) : (s.modPlan n f).stackOut = s.stackOut := rfl
@[simp] theorem State.modPlan_smbusStep (n : Nat) (f : Plan → Plan) : (s.modPlan n f).smbusStep = s.smbusStep := rfl
@[simp] theorem State.modPlan_powerCheckedAt (n : Nat) (f : Plan → Plan) : (s.modPlan n f).powerCheckedAt = s.powerCheckedAt := rfl

/-! State.modTask. -/

@[simp] theorem State.modTask_tape (n : Nat) (f : Task → Task) : (s.modTask n f).tape = s.tape := rfl
@[simp] theorem State.modTask_cur (n : Nat) (f : Task → Task) : (s.modTask n f).cur = s.cur := rfl
@[simp] theorem State.modTask_cycle (n : Nat) (f : Task → Task) : (s.modTask n f).cycle = s.cycle := rfl
@[simp] theorem State.modTask_mem (n : Nat) (f : Task → Task) : (s.modTask n f).mem = s.mem := rfl
@[simp] theorem State.modTask_bad (n : Nat) (f : Task → Task) : (s.modTask n f).bad = s.bad := rfl
@[simp] theorem State.modTask_byteKey (n : Nat) (f : Task → Task) : (s.modTask n f).byteKey = s.byteKey := rfl
@[simp] theorem State.modTask_tlb (n : Nat) (f : Task → Task) : (s.modTask n f).tlb = s.tlb := rfl
@[simp] theorem State.modTask_hostCopies (n : Nat) (f : Task → Task) : (s.modTask n f).hostCopies = s.hostCopies := rfl
@[simp] theorem State.modTask_writeCombine (n : Nat) (f : Task → Task) : (s.modTask n f).writeCombine = s.writeCombine := rfl
@[simp] theorem State.modTask_groups (n : Nat) (f : Task → Task) : (s.modTask n f).groups = s.groups := rfl
@[simp] theorem State.modTask_tasks (n : Nat) (f : Task → Task) : (s.modTask n f).tasks = Map.modify n f s.tasks := rfl
@[simp] theorem State.modTask_cores (n : Nat) (f : Task → Task) : (s.modTask n f).cores = s.cores := rfl
@[simp] theorem State.modTask_clusters (n : Nat) (f : Task → Task) : (s.modTask n f).clusters = s.clusters := rfl
@[simp] theorem State.modTask_dies (n : Nat) (f : Task → Task) : (s.modTask n f).dies = s.dies := rfl
@[simp] theorem State.modTask_pipes (n : Nat) (f : Task → Task) : (s.modTask n f).pipes = s.pipes := rfl
@[simp] theorem State.modTask_ports (n : Nat) (f : Task → Task) : (s.modTask n f).ports = s.ports := rfl
@[simp] theorem State.modTask_patterns (n : Nat) (f : Task → Task) : (s.modTask n f).patterns = s.patterns := rfl
@[simp] theorem State.modTask_tickets (n : Nat) (f : Task → Task) : (s.modTask n f).tickets = s.tickets := rfl
@[simp] theorem State.modTask_plans (n : Nat) (f : Task → Task) : (s.modTask n f).plans = s.plans := rfl
@[simp] theorem State.modTask_mvms (n : Nat) (f : Task → Task) : (s.modTask n f).mvms = s.mvms := rfl
@[simp] theorem State.modTask_uals (n : Nat) (f : Task → Task) : (s.modTask n f).uals = s.uals := rfl
@[simp] theorem State.modTask_forwards (n : Nat) (f : Task → Task) : (s.modTask n f).forwards = s.forwards := rfl
@[simp] theorem State.modTask_switches (n : Nat) (f : Task → Task) : (s.modTask n f).switches = s.switches := rfl
@[simp] theorem State.modTask_lostOut (n : Nat) (f : Task → Task) : (s.modTask n f).lostOut = s.lostOut := rfl
@[simp] theorem State.modTask_notices (n : Nat) (f : Task → Task) : (s.modTask n f).notices = s.notices := rfl
@[simp] theorem State.modTask_nextTask (n : Nat) (f : Task → Task) : (s.modTask n f).nextTask = s.nextTask := rfl
@[simp] theorem State.modTask_nextTicket (n : Nat) (f : Task → Task) : (s.modTask n f).nextTicket = s.nextTicket := rfl
@[simp] theorem State.modTask_nextAge (n : Nat) (f : Task → Task) : (s.modTask n f).nextAge = s.nextAge := rfl
@[simp] theorem State.modTask_freeCtr (n : Nat) (f : Task → Task) : (s.modTask n f).freeCtr = s.freeCtr := rfl
@[simp] theorem State.modTask_hostReply (n : Nat) (f : Task → Task) : (s.modTask n f).hostReply = s.hostReply := rfl
@[simp] theorem State.modTask_trapVec (n : Nat) (f : Task → Task) : (s.modTask n f).trapVec = s.trapVec := rfl
@[simp] theorem State.modTask_trapBase (n : Nat) (f : Task → Task) : (s.modTask n f).trapBase = s.trapBase := rfl
@[simp] theorem State.modTask_bulkLimit (n : Nat) (f : Task → Task) : (s.modTask n f).bulkLimit = s.bulkLimit := rfl
@[simp] theorem State.modTask_deadlockCycles (n : Nat) (f : Task → Task) : (s.modTask n f).deadlockCycles = s.deadlockCycles := rfl
@[simp] theorem State.modTask_fabLost (n : Nat) (f : Task → Task) : (s.modTask n f).fabLost = s.fabLost := rfl
@[simp] theorem State.modTask_devLost0 (n : Nat) (f : Task → Task) : (s.modTask n f).devLost0 = s.devLost0 := rfl
@[simp] theorem State.modTask_devLost1 (n : Nat) (f : Task → Task) : (s.modTask n f).devLost1 = s.devLost1 := rfl
@[simp] theorem State.modTask_pavQuota (n : Nat) (f : Task → Task) : (s.modTask n f).pavQuota = s.pavQuota := rfl
@[simp] theorem State.modTask_keyCtl (n : Nat) (f : Task → Task) : (s.modTask n f).keyCtl = s.keyCtl := rfl
@[simp] theorem State.modTask_attest (n : Nat) (f : Task → Task) : (s.modTask n f).attest = s.attest := rfl
@[simp] theorem State.modTask_measExt (n : Nat) (f : Task → Task) : (s.modTask n f).measExt = s.measExt := rfl
@[simp] theorem State.modTask_meas (n : Nat) (f : Task → Task) : (s.modTask n f).meas = s.meas := rfl
@[simp] theorem State.modTask_keys (n : Nat) (f : Task → Task) : (s.modTask n f).keys = s.keys := rfl
@[simp] theorem State.modTask_attestData (n : Nat) (f : Task → Task) : (s.modTask n f).attestData = s.attestData := rfl
@[simp] theorem State.modTask_ctl (n : Nat) (f : Task → Task) : (s.modTask n f).ctl = s.ctl := rfl
@[simp] theorem State.modTask_busy (n : Nat) (f : Task → Task) : (s.modTask n f).busy = s.busy := rfl
@[simp] theorem State.modTask_flashBusy (n : Nat) (f : Task → Task) : (s.modTask n f).flashBusy = s.flashBusy := rfl
@[simp] theorem State.modTask_bankErrors (n : Nat) (f : Task → Task) : (s.modTask n f).bankErrors = s.bankErrors := rfl
@[simp] theorem State.modTask_power (n : Nat) (f : Task → Task) : (s.modTask n f).power = s.power := rfl
@[simp] theorem State.modTask_poweredOff (n : Nat) (f : Task → Task) : (s.modTask n f).poweredOff = s.poweredOff := rfl
@[simp] theorem State.modTask_bootStep (n : Nat) (f : Task → Task) : (s.modTask n f).bootStep = s.bootStep := rfl
@[simp] theorem State.modTask_serving (n : Nat) (f : Task → Task) : (s.modTask n f).serving = s.serving := rfl
@[simp] theorem State.modTask_fullMask (n : Nat) (f : Task → Task) : (s.modTask n f).fullMask = s.fullMask := rfl
@[simp] theorem State.modTask_rateFailed (n : Nat) (f : Task → Task) : (s.modTask n f).rateFailed = s.rateFailed := rfl
@[simp] theorem State.modTask_stackOut (n : Nat) (f : Task → Task) : (s.modTask n f).stackOut = s.stackOut := rfl
@[simp] theorem State.modTask_smbusStep (n : Nat) (f : Task → Task) : (s.modTask n f).smbusStep = s.smbusStep := rfl
@[simp] theorem State.modTask_powerCheckedAt (n : Nat) (f : Task → Task) : (s.modTask n f).powerCheckedAt = s.powerCheckedAt := rfl

/-! State.setCtl. -/

@[simp] theorem State.setCtl_tape (d o v : Nat) : (s.setCtl d o v).tape = s.tape := rfl
@[simp] theorem State.setCtl_cur (d o v : Nat) : (s.setCtl d o v).cur = s.cur := rfl
@[simp] theorem State.setCtl_cycle (d o v : Nat) : (s.setCtl d o v).cycle = s.cycle := rfl
@[simp] theorem State.setCtl_mem (d o v : Nat) : (s.setCtl d o v).mem = s.mem := rfl
@[simp] theorem State.setCtl_bad (d o v : Nat) : (s.setCtl d o v).bad = s.bad := rfl
@[simp] theorem State.setCtl_byteKey (d o v : Nat) : (s.setCtl d o v).byteKey = s.byteKey := rfl
@[simp] theorem State.setCtl_tlb (d o v : Nat) : (s.setCtl d o v).tlb = s.tlb := rfl
@[simp] theorem State.setCtl_hostCopies (d o v : Nat) : (s.setCtl d o v).hostCopies = s.hostCopies := rfl
@[simp] theorem State.setCtl_writeCombine (d o v : Nat) : (s.setCtl d o v).writeCombine = s.writeCombine := rfl
@[simp] theorem State.setCtl_groups (d o v : Nat) : (s.setCtl d o v).groups = s.groups := rfl
@[simp] theorem State.setCtl_tasks (d o v : Nat) : (s.setCtl d o v).tasks = s.tasks := rfl
@[simp] theorem State.setCtl_cores (d o v : Nat) : (s.setCtl d o v).cores = s.cores := rfl
@[simp] theorem State.setCtl_clusters (d o v : Nat) : (s.setCtl d o v).clusters = s.clusters := rfl
@[simp] theorem State.setCtl_dies (d o v : Nat) : (s.setCtl d o v).dies = s.dies := rfl
@[simp] theorem State.setCtl_pipes (d o v : Nat) : (s.setCtl d o v).pipes = s.pipes := rfl
@[simp] theorem State.setCtl_ports (d o v : Nat) : (s.setCtl d o v).ports = s.ports := rfl
@[simp] theorem State.setCtl_patterns (d o v : Nat) : (s.setCtl d o v).patterns = s.patterns := rfl
@[simp] theorem State.setCtl_tickets (d o v : Nat) : (s.setCtl d o v).tickets = s.tickets := rfl
@[simp] theorem State.setCtl_plans (d o v : Nat) : (s.setCtl d o v).plans = s.plans := rfl
@[simp] theorem State.setCtl_mvms (d o v : Nat) : (s.setCtl d o v).mvms = s.mvms := rfl
@[simp] theorem State.setCtl_uals (d o v : Nat) : (s.setCtl d o v).uals = s.uals := rfl
@[simp] theorem State.setCtl_forwards (d o v : Nat) : (s.setCtl d o v).forwards = s.forwards := rfl
@[simp] theorem State.setCtl_switches (d o v : Nat) : (s.setCtl d o v).switches = s.switches := rfl
@[simp] theorem State.setCtl_lostOut (d o v : Nat) : (s.setCtl d o v).lostOut = s.lostOut := rfl
@[simp] theorem State.setCtl_notices (d o v : Nat) : (s.setCtl d o v).notices = s.notices := rfl
@[simp] theorem State.setCtl_nextTask (d o v : Nat) : (s.setCtl d o v).nextTask = s.nextTask := rfl
@[simp] theorem State.setCtl_nextTicket (d o v : Nat) : (s.setCtl d o v).nextTicket = s.nextTicket := rfl
@[simp] theorem State.setCtl_nextAge (d o v : Nat) : (s.setCtl d o v).nextAge = s.nextAge := rfl
@[simp] theorem State.setCtl_freeCtr (d o v : Nat) : (s.setCtl d o v).freeCtr = s.freeCtr := rfl
@[simp] theorem State.setCtl_hostReply (d o v : Nat) : (s.setCtl d o v).hostReply = s.hostReply := rfl
@[simp] theorem State.setCtl_trapVec (d o v : Nat) : (s.setCtl d o v).trapVec = s.trapVec := rfl
@[simp] theorem State.setCtl_trapBase (d o v : Nat) : (s.setCtl d o v).trapBase = s.trapBase := rfl
@[simp] theorem State.setCtl_bulkLimit (d o v : Nat) : (s.setCtl d o v).bulkLimit = s.bulkLimit := rfl
@[simp] theorem State.setCtl_deadlockCycles (d o v : Nat) : (s.setCtl d o v).deadlockCycles = s.deadlockCycles := rfl
@[simp] theorem State.setCtl_fabLost (d o v : Nat) : (s.setCtl d o v).fabLost = s.fabLost := rfl
@[simp] theorem State.setCtl_devLost0 (d o v : Nat) : (s.setCtl d o v).devLost0 = s.devLost0 := rfl
@[simp] theorem State.setCtl_devLost1 (d o v : Nat) : (s.setCtl d o v).devLost1 = s.devLost1 := rfl
@[simp] theorem State.setCtl_pavQuota (d o v : Nat) : (s.setCtl d o v).pavQuota = s.pavQuota := rfl
@[simp] theorem State.setCtl_keyCtl (d o v : Nat) : (s.setCtl d o v).keyCtl = s.keyCtl := rfl
@[simp] theorem State.setCtl_attest (d o v : Nat) : (s.setCtl d o v).attest = s.attest := rfl
@[simp] theorem State.setCtl_measExt (d o v : Nat) : (s.setCtl d o v).measExt = s.measExt := rfl
@[simp] theorem State.setCtl_meas (d o v : Nat) : (s.setCtl d o v).meas = s.meas := rfl
@[simp] theorem State.setCtl_keys (d o v : Nat) : (s.setCtl d o v).keys = s.keys := rfl
@[simp] theorem State.setCtl_attestData (d o v : Nat) : (s.setCtl d o v).attestData = s.attestData := rfl
@[simp] theorem State.setCtl_ctl (d o v : Nat) : (s.setCtl d o v).ctl = s.ctl.putD 0 (d * 2 ^ 24 + o) (BitVec.ofNat 64 v) := rfl
@[simp] theorem State.setCtl_busy (d o v : Nat) : (s.setCtl d o v).busy = s.busy := rfl
@[simp] theorem State.setCtl_flashBusy (d o v : Nat) : (s.setCtl d o v).flashBusy = s.flashBusy := rfl
@[simp] theorem State.setCtl_bankErrors (d o v : Nat) : (s.setCtl d o v).bankErrors = s.bankErrors := rfl
@[simp] theorem State.setCtl_power (d o v : Nat) : (s.setCtl d o v).power = s.power := rfl
@[simp] theorem State.setCtl_poweredOff (d o v : Nat) : (s.setCtl d o v).poweredOff = s.poweredOff := rfl
@[simp] theorem State.setCtl_bootStep (d o v : Nat) : (s.setCtl d o v).bootStep = s.bootStep := rfl
@[simp] theorem State.setCtl_serving (d o v : Nat) : (s.setCtl d o v).serving = s.serving := rfl
@[simp] theorem State.setCtl_fullMask (d o v : Nat) : (s.setCtl d o v).fullMask = s.fullMask := rfl
@[simp] theorem State.setCtl_rateFailed (d o v : Nat) : (s.setCtl d o v).rateFailed = s.rateFailed := rfl
@[simp] theorem State.setCtl_stackOut (d o v : Nat) : (s.setCtl d o v).stackOut = s.stackOut := rfl
@[simp] theorem State.setCtl_smbusStep (d o v : Nat) : (s.setCtl d o v).smbusStep = s.smbusStep := rfl
@[simp] theorem State.setCtl_powerCheckedAt (d o v : Nat) : (s.setCtl d o v).powerCheckedAt = s.powerCheckedAt := rfl

/-! State.writeTagged. -/

@[simp] theorem State.writeTagged_tape (a : Nat) (bs : List Byte) (k : Nat) : (s.writeTagged a bs k).tape = s.tape := by unfold State.writeTagged State.examine; split <;> rfl
@[simp] theorem State.writeTagged_cur (a : Nat) (bs : List Byte) (k : Nat) : (s.writeTagged a bs k).cur = s.cur := by unfold State.writeTagged State.examine; split <;> rfl
@[simp] theorem State.writeTagged_cycle (a : Nat) (bs : List Byte) (k : Nat) : (s.writeTagged a bs k).cycle = s.cycle := by unfold State.writeTagged State.examine; split <;> rfl
@[simp] theorem State.writeTagged_mem (a : Nat) (bs : List Byte) (k : Nat) : (s.writeTagged a bs k).mem = memWrite s.mem a bs := by unfold State.writeTagged State.examine; split <;> rfl
@[simp] theorem State.writeTagged_tlb (a : Nat) (bs : List Byte) (k : Nat) : (s.writeTagged a bs k).tlb = s.tlb := by unfold State.writeTagged State.examine; split <;> rfl
@[simp] theorem State.writeTagged_hostCopies (a : Nat) (bs : List Byte) (k : Nat) : (s.writeTagged a bs k).hostCopies = s.hostCopies := by unfold State.writeTagged State.examine; split <;> rfl
@[simp] theorem State.writeTagged_writeCombine (a : Nat) (bs : List Byte) (k : Nat) : (s.writeTagged a bs k).writeCombine = s.writeCombine := by unfold State.writeTagged State.examine; split <;> rfl
@[simp] theorem State.writeTagged_tasks (a : Nat) (bs : List Byte) (k : Nat) : (s.writeTagged a bs k).tasks = s.tasks := by unfold State.writeTagged State.examine; split <;> rfl
@[simp] theorem State.writeTagged_cores (a : Nat) (bs : List Byte) (k : Nat) : (s.writeTagged a bs k).cores = s.cores := by unfold State.writeTagged State.examine; split <;> rfl
@[simp] theorem State.writeTagged_clusters (a : Nat) (bs : List Byte) (k : Nat) : (s.writeTagged a bs k).clusters = s.clusters := by unfold State.writeTagged State.examine; split <;> rfl
@[simp] theorem State.writeTagged_dies (a : Nat) (bs : List Byte) (k : Nat) : (s.writeTagged a bs k).dies = s.dies := by unfold State.writeTagged State.examine; split <;> rfl
@[simp] theorem State.writeTagged_pipes (a : Nat) (bs : List Byte) (k : Nat) : (s.writeTagged a bs k).pipes = s.pipes := by unfold State.writeTagged State.examine; split <;> rfl
@[simp] theorem State.writeTagged_ports (a : Nat) (bs : List Byte) (k : Nat) : (s.writeTagged a bs k).ports = s.ports := by unfold State.writeTagged State.examine; split <;> rfl
@[simp] theorem State.writeTagged_patterns (a : Nat) (bs : List Byte) (k : Nat) : (s.writeTagged a bs k).patterns = s.patterns := by unfold State.writeTagged State.examine; split <;> rfl
@[simp] theorem State.writeTagged_tickets (a : Nat) (bs : List Byte) (k : Nat) : (s.writeTagged a bs k).tickets = s.tickets := by unfold State.writeTagged State.examine; split <;> rfl
@[simp] theorem State.writeTagged_plans (a : Nat) (bs : List Byte) (k : Nat) : (s.writeTagged a bs k).plans = s.plans := by unfold State.writeTagged State.examine; split <;> rfl
@[simp] theorem State.writeTagged_mvms (a : Nat) (bs : List Byte) (k : Nat) : (s.writeTagged a bs k).mvms = s.mvms := by unfold State.writeTagged State.examine; split <;> rfl
@[simp] theorem State.writeTagged_uals (a : Nat) (bs : List Byte) (k : Nat) : (s.writeTagged a bs k).uals = s.uals := by unfold State.writeTagged State.examine; split <;> rfl
@[simp] theorem State.writeTagged_forwards (a : Nat) (bs : List Byte) (k : Nat) : (s.writeTagged a bs k).forwards = s.forwards := by unfold State.writeTagged State.examine; split <;> rfl
@[simp] theorem State.writeTagged_switches (a : Nat) (bs : List Byte) (k : Nat) : (s.writeTagged a bs k).switches = s.switches := by unfold State.writeTagged State.examine; split <;> rfl
@[simp] theorem State.writeTagged_lostOut (a : Nat) (bs : List Byte) (k : Nat) : (s.writeTagged a bs k).lostOut = s.lostOut := by unfold State.writeTagged State.examine; split <;> rfl
@[simp] theorem State.writeTagged_notices (a : Nat) (bs : List Byte) (k : Nat) : (s.writeTagged a bs k).notices = s.notices := by unfold State.writeTagged State.examine; split <;> rfl
@[simp] theorem State.writeTagged_nextTask (a : Nat) (bs : List Byte) (k : Nat) : (s.writeTagged a bs k).nextTask = s.nextTask := by unfold State.writeTagged State.examine; split <;> rfl
@[simp] theorem State.writeTagged_nextTicket (a : Nat) (bs : List Byte) (k : Nat) : (s.writeTagged a bs k).nextTicket = s.nextTicket := by unfold State.writeTagged State.examine; split <;> rfl
@[simp] theorem State.writeTagged_nextAge (a : Nat) (bs : List Byte) (k : Nat) : (s.writeTagged a bs k).nextAge = s.nextAge := by unfold State.writeTagged State.examine; split <;> rfl
@[simp] theorem State.writeTagged_freeCtr (a : Nat) (bs : List Byte) (k : Nat) : (s.writeTagged a bs k).freeCtr = s.freeCtr := by unfold State.writeTagged State.examine; split <;> rfl
@[simp] theorem State.writeTagged_hostReply (a : Nat) (bs : List Byte) (k : Nat) : (s.writeTagged a bs k).hostReply = s.hostReply := by unfold State.writeTagged State.examine; split <;> rfl
@[simp] theorem State.writeTagged_trapVec (a : Nat) (bs : List Byte) (k : Nat) : (s.writeTagged a bs k).trapVec = s.trapVec := by unfold State.writeTagged State.examine; split <;> rfl
@[simp] theorem State.writeTagged_trapBase (a : Nat) (bs : List Byte) (k : Nat) : (s.writeTagged a bs k).trapBase = s.trapBase := by unfold State.writeTagged State.examine; split <;> rfl
@[simp] theorem State.writeTagged_bulkLimit (a : Nat) (bs : List Byte) (k : Nat) : (s.writeTagged a bs k).bulkLimit = s.bulkLimit := by unfold State.writeTagged State.examine; split <;> rfl
@[simp] theorem State.writeTagged_deadlockCycles (a : Nat) (bs : List Byte) (k : Nat) : (s.writeTagged a bs k).deadlockCycles = s.deadlockCycles := by unfold State.writeTagged State.examine; split <;> rfl
@[simp] theorem State.writeTagged_fabLost (a : Nat) (bs : List Byte) (k : Nat) : (s.writeTagged a bs k).fabLost = s.fabLost := by unfold State.writeTagged State.examine; split <;> rfl
@[simp] theorem State.writeTagged_devLost0 (a : Nat) (bs : List Byte) (k : Nat) : (s.writeTagged a bs k).devLost0 = s.devLost0 := by unfold State.writeTagged State.examine; split <;> rfl
@[simp] theorem State.writeTagged_devLost1 (a : Nat) (bs : List Byte) (k : Nat) : (s.writeTagged a bs k).devLost1 = s.devLost1 := by unfold State.writeTagged State.examine; split <;> rfl
@[simp] theorem State.writeTagged_pavQuota (a : Nat) (bs : List Byte) (k : Nat) : (s.writeTagged a bs k).pavQuota = s.pavQuota := by unfold State.writeTagged State.examine; split <;> rfl
@[simp] theorem State.writeTagged_keyCtl (a : Nat) (bs : List Byte) (k : Nat) : (s.writeTagged a bs k).keyCtl = s.keyCtl := by unfold State.writeTagged State.examine; split <;> rfl
@[simp] theorem State.writeTagged_attest (a : Nat) (bs : List Byte) (k : Nat) : (s.writeTagged a bs k).attest = s.attest := by unfold State.writeTagged State.examine; split <;> rfl
@[simp] theorem State.writeTagged_measExt (a : Nat) (bs : List Byte) (k : Nat) : (s.writeTagged a bs k).measExt = s.measExt := by unfold State.writeTagged State.examine; split <;> rfl
@[simp] theorem State.writeTagged_meas (a : Nat) (bs : List Byte) (k : Nat) : (s.writeTagged a bs k).meas = s.meas := by unfold State.writeTagged State.examine; split <;> rfl
@[simp] theorem State.writeTagged_keys (a : Nat) (bs : List Byte) (k : Nat) : (s.writeTagged a bs k).keys = s.keys := by unfold State.writeTagged State.examine; split <;> rfl
@[simp] theorem State.writeTagged_attestData (a : Nat) (bs : List Byte) (k : Nat) : (s.writeTagged a bs k).attestData = s.attestData := by unfold State.writeTagged State.examine; split <;> rfl
@[simp] theorem State.writeTagged_ctl (a : Nat) (bs : List Byte) (k : Nat) : (s.writeTagged a bs k).ctl = s.ctl := by unfold State.writeTagged State.examine; split <;> rfl
@[simp] theorem State.writeTagged_busy (a : Nat) (bs : List Byte) (k : Nat) : (s.writeTagged a bs k).busy = s.busy := by unfold State.writeTagged State.examine; split <;> rfl
@[simp] theorem State.writeTagged_flashBusy (a : Nat) (bs : List Byte) (k : Nat) : (s.writeTagged a bs k).flashBusy = s.flashBusy := by unfold State.writeTagged State.examine; split <;> rfl
@[simp] theorem State.writeTagged_bankErrors (a : Nat) (bs : List Byte) (k : Nat) : (s.writeTagged a bs k).bankErrors = s.bankErrors := by unfold State.writeTagged State.examine; split <;> rfl
@[simp] theorem State.writeTagged_power (a : Nat) (bs : List Byte) (k : Nat) : (s.writeTagged a bs k).power = s.power := by unfold State.writeTagged State.examine; split <;> rfl
@[simp] theorem State.writeTagged_poweredOff (a : Nat) (bs : List Byte) (k : Nat) : (s.writeTagged a bs k).poweredOff = s.poweredOff := by unfold State.writeTagged State.examine; split <;> rfl
@[simp] theorem State.writeTagged_bootStep (a : Nat) (bs : List Byte) (k : Nat) : (s.writeTagged a bs k).bootStep = s.bootStep := by unfold State.writeTagged State.examine; split <;> rfl
@[simp] theorem State.writeTagged_serving (a : Nat) (bs : List Byte) (k : Nat) : (s.writeTagged a bs k).serving = s.serving := by unfold State.writeTagged State.examine; split <;> rfl
@[simp] theorem State.writeTagged_fullMask (a : Nat) (bs : List Byte) (k : Nat) : (s.writeTagged a bs k).fullMask = s.fullMask := by unfold State.writeTagged State.examine; split <;> rfl
@[simp] theorem State.writeTagged_rateFailed (a : Nat) (bs : List Byte) (k : Nat) : (s.writeTagged a bs k).rateFailed = s.rateFailed := by unfold State.writeTagged State.examine; split <;> rfl
@[simp] theorem State.writeTagged_stackOut (a : Nat) (bs : List Byte) (k : Nat) : (s.writeTagged a bs k).stackOut = s.stackOut := by unfold State.writeTagged State.examine; split <;> rfl
@[simp] theorem State.writeTagged_smbusStep (a : Nat) (bs : List Byte) (k : Nat) : (s.writeTagged a bs k).smbusStep = s.smbusStep := by unfold State.writeTagged State.examine; split <;> rfl
@[simp] theorem State.writeTagged_powerCheckedAt (a : Nat) (bs : List Byte) (k : Nat) : (s.writeTagged a bs k).powerCheckedAt = s.powerCheckedAt := by unfold State.writeTagged State.examine; split <;> rfl

/-! State.write. -/

@[simp] theorem State.write_tape (a : Nat) (bs : List Byte) : (s.write a bs).tape = s.tape := by simp [State.write]
@[simp] theorem State.write_cur (a : Nat) (bs : List Byte) : (s.write a bs).cur = s.cur := by simp [State.write]
@[simp] theorem State.write_cycle (a : Nat) (bs : List Byte) : (s.write a bs).cycle = s.cycle := by simp [State.write]
@[simp] theorem State.write_mem (a : Nat) (bs : List Byte) : (s.write a bs).mem = memWrite s.mem a bs := by simp [State.write]
@[simp] theorem State.write_tlb (a : Nat) (bs : List Byte) : (s.write a bs).tlb = s.tlb := by simp [State.write]
@[simp] theorem State.write_hostCopies (a : Nat) (bs : List Byte) : (s.write a bs).hostCopies = s.hostCopies := by simp [State.write]
@[simp] theorem State.write_writeCombine (a : Nat) (bs : List Byte) : (s.write a bs).writeCombine = s.writeCombine := by simp [State.write]
@[simp] theorem State.write_tasks (a : Nat) (bs : List Byte) : (s.write a bs).tasks = s.tasks := by simp [State.write]
@[simp] theorem State.write_cores (a : Nat) (bs : List Byte) : (s.write a bs).cores = s.cores := by simp [State.write]
@[simp] theorem State.write_clusters (a : Nat) (bs : List Byte) : (s.write a bs).clusters = s.clusters := by simp [State.write]
@[simp] theorem State.write_dies (a : Nat) (bs : List Byte) : (s.write a bs).dies = s.dies := by simp [State.write]
@[simp] theorem State.write_pipes (a : Nat) (bs : List Byte) : (s.write a bs).pipes = s.pipes := by simp [State.write]
@[simp] theorem State.write_ports (a : Nat) (bs : List Byte) : (s.write a bs).ports = s.ports := by simp [State.write]
@[simp] theorem State.write_patterns (a : Nat) (bs : List Byte) : (s.write a bs).patterns = s.patterns := by simp [State.write]
@[simp] theorem State.write_tickets (a : Nat) (bs : List Byte) : (s.write a bs).tickets = s.tickets := by simp [State.write]
@[simp] theorem State.write_plans (a : Nat) (bs : List Byte) : (s.write a bs).plans = s.plans := by simp [State.write]
@[simp] theorem State.write_mvms (a : Nat) (bs : List Byte) : (s.write a bs).mvms = s.mvms := by simp [State.write]
@[simp] theorem State.write_uals (a : Nat) (bs : List Byte) : (s.write a bs).uals = s.uals := by simp [State.write]
@[simp] theorem State.write_forwards (a : Nat) (bs : List Byte) : (s.write a bs).forwards = s.forwards := by simp [State.write]
@[simp] theorem State.write_switches (a : Nat) (bs : List Byte) : (s.write a bs).switches = s.switches := by simp [State.write]
@[simp] theorem State.write_lostOut (a : Nat) (bs : List Byte) : (s.write a bs).lostOut = s.lostOut := by simp [State.write]
@[simp] theorem State.write_notices (a : Nat) (bs : List Byte) : (s.write a bs).notices = s.notices := by simp [State.write]
@[simp] theorem State.write_nextTask (a : Nat) (bs : List Byte) : (s.write a bs).nextTask = s.nextTask := by simp [State.write]
@[simp] theorem State.write_nextTicket (a : Nat) (bs : List Byte) : (s.write a bs).nextTicket = s.nextTicket := by simp [State.write]
@[simp] theorem State.write_nextAge (a : Nat) (bs : List Byte) : (s.write a bs).nextAge = s.nextAge := by simp [State.write]
@[simp] theorem State.write_freeCtr (a : Nat) (bs : List Byte) : (s.write a bs).freeCtr = s.freeCtr := by simp [State.write]
@[simp] theorem State.write_hostReply (a : Nat) (bs : List Byte) : (s.write a bs).hostReply = s.hostReply := by simp [State.write]
@[simp] theorem State.write_trapVec (a : Nat) (bs : List Byte) : (s.write a bs).trapVec = s.trapVec := by simp [State.write]
@[simp] theorem State.write_trapBase (a : Nat) (bs : List Byte) : (s.write a bs).trapBase = s.trapBase := by simp [State.write]
@[simp] theorem State.write_bulkLimit (a : Nat) (bs : List Byte) : (s.write a bs).bulkLimit = s.bulkLimit := by simp [State.write]
@[simp] theorem State.write_deadlockCycles (a : Nat) (bs : List Byte) : (s.write a bs).deadlockCycles = s.deadlockCycles := by simp [State.write]
@[simp] theorem State.write_fabLost (a : Nat) (bs : List Byte) : (s.write a bs).fabLost = s.fabLost := by simp [State.write]
@[simp] theorem State.write_devLost0 (a : Nat) (bs : List Byte) : (s.write a bs).devLost0 = s.devLost0 := by simp [State.write]
@[simp] theorem State.write_devLost1 (a : Nat) (bs : List Byte) : (s.write a bs).devLost1 = s.devLost1 := by simp [State.write]
@[simp] theorem State.write_pavQuota (a : Nat) (bs : List Byte) : (s.write a bs).pavQuota = s.pavQuota := by simp [State.write]
@[simp] theorem State.write_keyCtl (a : Nat) (bs : List Byte) : (s.write a bs).keyCtl = s.keyCtl := by simp [State.write]
@[simp] theorem State.write_attest (a : Nat) (bs : List Byte) : (s.write a bs).attest = s.attest := by simp [State.write]
@[simp] theorem State.write_measExt (a : Nat) (bs : List Byte) : (s.write a bs).measExt = s.measExt := by simp [State.write]
@[simp] theorem State.write_meas (a : Nat) (bs : List Byte) : (s.write a bs).meas = s.meas := by simp [State.write]
@[simp] theorem State.write_keys (a : Nat) (bs : List Byte) : (s.write a bs).keys = s.keys := by simp [State.write]
@[simp] theorem State.write_attestData (a : Nat) (bs : List Byte) : (s.write a bs).attestData = s.attestData := by simp [State.write]
@[simp] theorem State.write_ctl (a : Nat) (bs : List Byte) : (s.write a bs).ctl = s.ctl := by simp [State.write]
@[simp] theorem State.write_busy (a : Nat) (bs : List Byte) : (s.write a bs).busy = s.busy := by simp [State.write]
@[simp] theorem State.write_flashBusy (a : Nat) (bs : List Byte) : (s.write a bs).flashBusy = s.flashBusy := by simp [State.write]
@[simp] theorem State.write_bankErrors (a : Nat) (bs : List Byte) : (s.write a bs).bankErrors = s.bankErrors := by simp [State.write]
@[simp] theorem State.write_power (a : Nat) (bs : List Byte) : (s.write a bs).power = s.power := by simp [State.write]
@[simp] theorem State.write_poweredOff (a : Nat) (bs : List Byte) : (s.write a bs).poweredOff = s.poweredOff := by simp [State.write]
@[simp] theorem State.write_bootStep (a : Nat) (bs : List Byte) : (s.write a bs).bootStep = s.bootStep := by simp [State.write]
@[simp] theorem State.write_serving (a : Nat) (bs : List Byte) : (s.write a bs).serving = s.serving := by simp [State.write]
@[simp] theorem State.write_fullMask (a : Nat) (bs : List Byte) : (s.write a bs).fullMask = s.fullMask := by simp [State.write]
@[simp] theorem State.write_rateFailed (a : Nat) (bs : List Byte) : (s.write a bs).rateFailed = s.rateFailed := by simp [State.write]
@[simp] theorem State.write_stackOut (a : Nat) (bs : List Byte) : (s.write a bs).stackOut = s.stackOut := by simp [State.write]
@[simp] theorem State.write_smbusStep (a : Nat) (bs : List Byte) : (s.write a bs).smbusStep = s.smbusStep := by simp [State.write]
@[simp] theorem State.write_powerCheckedAt (a : Nat) (bs : List Byte) : (s.write a bs).powerCheckedAt = s.powerCheckedAt := by simp [State.write]

/-! State.writeNum. -/

@[simp] theorem State.writeNum_tape (a n x : Nat) : (s.writeNum a n x).tape = s.tape := by simp [State.writeNum]
@[simp] theorem State.writeNum_cur (a n x : Nat) : (s.writeNum a n x).cur = s.cur := by simp [State.writeNum]
@[simp] theorem State.writeNum_cycle (a n x : Nat) : (s.writeNum a n x).cycle = s.cycle := by simp [State.writeNum]
@[simp] theorem State.writeNum_mem (a n x : Nat) : (s.writeNum a n x).mem = memWrite s.mem a (leBytes n x) := by simp [State.writeNum]
@[simp] theorem State.writeNum_tlb (a n x : Nat) : (s.writeNum a n x).tlb = s.tlb := by simp [State.writeNum]
@[simp] theorem State.writeNum_hostCopies (a n x : Nat) : (s.writeNum a n x).hostCopies = s.hostCopies := by simp [State.writeNum]
@[simp] theorem State.writeNum_writeCombine (a n x : Nat) : (s.writeNum a n x).writeCombine = s.writeCombine := by simp [State.writeNum]
@[simp] theorem State.writeNum_tasks (a n x : Nat) : (s.writeNum a n x).tasks = s.tasks := by simp [State.writeNum]
@[simp] theorem State.writeNum_cores (a n x : Nat) : (s.writeNum a n x).cores = s.cores := by simp [State.writeNum]
@[simp] theorem State.writeNum_clusters (a n x : Nat) : (s.writeNum a n x).clusters = s.clusters := by simp [State.writeNum]
@[simp] theorem State.writeNum_dies (a n x : Nat) : (s.writeNum a n x).dies = s.dies := by simp [State.writeNum]
@[simp] theorem State.writeNum_pipes (a n x : Nat) : (s.writeNum a n x).pipes = s.pipes := by simp [State.writeNum]
@[simp] theorem State.writeNum_ports (a n x : Nat) : (s.writeNum a n x).ports = s.ports := by simp [State.writeNum]
@[simp] theorem State.writeNum_patterns (a n x : Nat) : (s.writeNum a n x).patterns = s.patterns := by simp [State.writeNum]
@[simp] theorem State.writeNum_tickets (a n x : Nat) : (s.writeNum a n x).tickets = s.tickets := by simp [State.writeNum]
@[simp] theorem State.writeNum_plans (a n x : Nat) : (s.writeNum a n x).plans = s.plans := by simp [State.writeNum]
@[simp] theorem State.writeNum_mvms (a n x : Nat) : (s.writeNum a n x).mvms = s.mvms := by simp [State.writeNum]
@[simp] theorem State.writeNum_uals (a n x : Nat) : (s.writeNum a n x).uals = s.uals := by simp [State.writeNum]
@[simp] theorem State.writeNum_forwards (a n x : Nat) : (s.writeNum a n x).forwards = s.forwards := by simp [State.writeNum]
@[simp] theorem State.writeNum_switches (a n x : Nat) : (s.writeNum a n x).switches = s.switches := by simp [State.writeNum]
@[simp] theorem State.writeNum_lostOut (a n x : Nat) : (s.writeNum a n x).lostOut = s.lostOut := by simp [State.writeNum]
@[simp] theorem State.writeNum_notices (a n x : Nat) : (s.writeNum a n x).notices = s.notices := by simp [State.writeNum]
@[simp] theorem State.writeNum_nextTask (a n x : Nat) : (s.writeNum a n x).nextTask = s.nextTask := by simp [State.writeNum]
@[simp] theorem State.writeNum_nextTicket (a n x : Nat) : (s.writeNum a n x).nextTicket = s.nextTicket := by simp [State.writeNum]
@[simp] theorem State.writeNum_nextAge (a n x : Nat) : (s.writeNum a n x).nextAge = s.nextAge := by simp [State.writeNum]
@[simp] theorem State.writeNum_freeCtr (a n x : Nat) : (s.writeNum a n x).freeCtr = s.freeCtr := by simp [State.writeNum]
@[simp] theorem State.writeNum_hostReply (a n x : Nat) : (s.writeNum a n x).hostReply = s.hostReply := by simp [State.writeNum]
@[simp] theorem State.writeNum_trapVec (a n x : Nat) : (s.writeNum a n x).trapVec = s.trapVec := by simp [State.writeNum]
@[simp] theorem State.writeNum_trapBase (a n x : Nat) : (s.writeNum a n x).trapBase = s.trapBase := by simp [State.writeNum]
@[simp] theorem State.writeNum_bulkLimit (a n x : Nat) : (s.writeNum a n x).bulkLimit = s.bulkLimit := by simp [State.writeNum]
@[simp] theorem State.writeNum_deadlockCycles (a n x : Nat) : (s.writeNum a n x).deadlockCycles = s.deadlockCycles := by simp [State.writeNum]
@[simp] theorem State.writeNum_fabLost (a n x : Nat) : (s.writeNum a n x).fabLost = s.fabLost := by simp [State.writeNum]
@[simp] theorem State.writeNum_devLost0 (a n x : Nat) : (s.writeNum a n x).devLost0 = s.devLost0 := by simp [State.writeNum]
@[simp] theorem State.writeNum_devLost1 (a n x : Nat) : (s.writeNum a n x).devLost1 = s.devLost1 := by simp [State.writeNum]
@[simp] theorem State.writeNum_pavQuota (a n x : Nat) : (s.writeNum a n x).pavQuota = s.pavQuota := by simp [State.writeNum]
@[simp] theorem State.writeNum_keyCtl (a n x : Nat) : (s.writeNum a n x).keyCtl = s.keyCtl := by simp [State.writeNum]
@[simp] theorem State.writeNum_attest (a n x : Nat) : (s.writeNum a n x).attest = s.attest := by simp [State.writeNum]
@[simp] theorem State.writeNum_measExt (a n x : Nat) : (s.writeNum a n x).measExt = s.measExt := by simp [State.writeNum]
@[simp] theorem State.writeNum_meas (a n x : Nat) : (s.writeNum a n x).meas = s.meas := by simp [State.writeNum]
@[simp] theorem State.writeNum_keys (a n x : Nat) : (s.writeNum a n x).keys = s.keys := by simp [State.writeNum]
@[simp] theorem State.writeNum_attestData (a n x : Nat) : (s.writeNum a n x).attestData = s.attestData := by simp [State.writeNum]
@[simp] theorem State.writeNum_ctl (a n x : Nat) : (s.writeNum a n x).ctl = s.ctl := by simp [State.writeNum]
@[simp] theorem State.writeNum_busy (a n x : Nat) : (s.writeNum a n x).busy = s.busy := by simp [State.writeNum]
@[simp] theorem State.writeNum_flashBusy (a n x : Nat) : (s.writeNum a n x).flashBusy = s.flashBusy := by simp [State.writeNum]
@[simp] theorem State.writeNum_bankErrors (a n x : Nat) : (s.writeNum a n x).bankErrors = s.bankErrors := by simp [State.writeNum]
@[simp] theorem State.writeNum_power (a n x : Nat) : (s.writeNum a n x).power = s.power := by simp [State.writeNum]
@[simp] theorem State.writeNum_poweredOff (a n x : Nat) : (s.writeNum a n x).poweredOff = s.poweredOff := by simp [State.writeNum]
@[simp] theorem State.writeNum_bootStep (a n x : Nat) : (s.writeNum a n x).bootStep = s.bootStep := by simp [State.writeNum]
@[simp] theorem State.writeNum_serving (a n x : Nat) : (s.writeNum a n x).serving = s.serving := by simp [State.writeNum]
@[simp] theorem State.writeNum_fullMask (a n x : Nat) : (s.writeNum a n x).fullMask = s.fullMask := by simp [State.writeNum]
@[simp] theorem State.writeNum_rateFailed (a n x : Nat) : (s.writeNum a n x).rateFailed = s.rateFailed := by simp [State.writeNum]
@[simp] theorem State.writeNum_stackOut (a n x : Nat) : (s.writeNum a n x).stackOut = s.stackOut := by simp [State.writeNum]
@[simp] theorem State.writeNum_smbusStep (a n x : Nat) : (s.writeNum a n x).smbusStep = s.smbusStep := by simp [State.writeNum]
@[simp] theorem State.writeNum_powerCheckedAt (a n x : Nat) : (s.writeNum a n x).powerCheckedAt = s.powerCheckedAt := by simp [State.writeNum]

/-! State.violate. -/

@[simp] theorem State.violate_tape (k a : Nat) : (s.violate k a).tape = s.tape := by unfold State.violate; split <;> rfl
@[simp] theorem State.violate_cur (k a : Nat) : (s.violate k a).cur = s.cur := by unfold State.violate; split <;> rfl
@[simp] theorem State.violate_cycle (k a : Nat) : (s.violate k a).cycle = s.cycle := by unfold State.violate; split <;> rfl
@[simp] theorem State.violate_mem (k a : Nat) : (s.violate k a).mem = s.mem := by unfold State.violate; split <;> rfl
@[simp] theorem State.violate_bad (k a : Nat) : (s.violate k a).bad = s.bad := by unfold State.violate; split <;> rfl
@[simp] theorem State.violate_byteKey (k a : Nat) : (s.violate k a).byteKey = s.byteKey := by unfold State.violate; split <;> rfl
@[simp] theorem State.violate_tlb (k a : Nat) : (s.violate k a).tlb = s.tlb := by unfold State.violate; split <;> rfl
@[simp] theorem State.violate_hostCopies (k a : Nat) : (s.violate k a).hostCopies = s.hostCopies := by unfold State.violate; split <;> rfl
@[simp] theorem State.violate_writeCombine (k a : Nat) : (s.violate k a).writeCombine = s.writeCombine := by unfold State.violate; split <;> rfl
@[simp] theorem State.violate_groups (k a : Nat) : (s.violate k a).groups = s.groups := by unfold State.violate; split <;> rfl
@[simp] theorem State.violate_tasks (k a : Nat) : (s.violate k a).tasks = s.tasks := by unfold State.violate; split <;> rfl
@[simp] theorem State.violate_cores (k a : Nat) : (s.violate k a).cores = s.cores := by unfold State.violate; split <;> rfl
@[simp] theorem State.violate_clusters (k a : Nat) : (s.violate k a).clusters = s.clusters := by unfold State.violate; split <;> rfl
@[simp] theorem State.violate_dies (k a : Nat) : (s.violate k a).dies = s.dies := by unfold State.violate; split <;> rfl
@[simp] theorem State.violate_pipes (k a : Nat) : (s.violate k a).pipes = s.pipes := by unfold State.violate; split <;> rfl
@[simp] theorem State.violate_ports (k a : Nat) : (s.violate k a).ports = s.ports := by unfold State.violate; split <;> rfl
@[simp] theorem State.violate_patterns (k a : Nat) : (s.violate k a).patterns = s.patterns := by unfold State.violate; split <;> rfl
@[simp] theorem State.violate_tickets (k a : Nat) : (s.violate k a).tickets = s.tickets := by unfold State.violate; split <;> rfl
@[simp] theorem State.violate_plans (k a : Nat) : (s.violate k a).plans = s.plans := by unfold State.violate; split <;> rfl
@[simp] theorem State.violate_mvms (k a : Nat) : (s.violate k a).mvms = s.mvms := by unfold State.violate; split <;> rfl
@[simp] theorem State.violate_uals (k a : Nat) : (s.violate k a).uals = s.uals := by unfold State.violate; split <;> rfl
@[simp] theorem State.violate_forwards (k a : Nat) : (s.violate k a).forwards = s.forwards := by unfold State.violate; split <;> rfl
@[simp] theorem State.violate_lostOut (k a : Nat) : (s.violate k a).lostOut = s.lostOut := by unfold State.violate; split <;> rfl
@[simp] theorem State.violate_notices (k a : Nat) : (s.violate k a).notices = s.notices := by unfold State.violate; split <;> rfl
@[simp] theorem State.violate_nextTask (k a : Nat) : (s.violate k a).nextTask = s.nextTask := by unfold State.violate; split <;> rfl
@[simp] theorem State.violate_nextTicket (k a : Nat) : (s.violate k a).nextTicket = s.nextTicket := by unfold State.violate; split <;> rfl
@[simp] theorem State.violate_nextAge (k a : Nat) : (s.violate k a).nextAge = s.nextAge := by unfold State.violate; split <;> rfl
@[simp] theorem State.violate_freeCtr (k a : Nat) : (s.violate k a).freeCtr = s.freeCtr := by unfold State.violate; split <;> rfl
@[simp] theorem State.violate_hostReply (k a : Nat) : (s.violate k a).hostReply = s.hostReply := by unfold State.violate; split <;> rfl
@[simp] theorem State.violate_trapVec (k a : Nat) : (s.violate k a).trapVec = s.trapVec := by unfold State.violate; split <;> rfl
@[simp] theorem State.violate_trapBase (k a : Nat) : (s.violate k a).trapBase = s.trapBase := by unfold State.violate; split <;> rfl
@[simp] theorem State.violate_bulkLimit (k a : Nat) : (s.violate k a).bulkLimit = s.bulkLimit := by unfold State.violate; split <;> rfl
@[simp] theorem State.violate_deadlockCycles (k a : Nat) : (s.violate k a).deadlockCycles = s.deadlockCycles := by unfold State.violate; split <;> rfl
@[simp] theorem State.violate_fabLost (k a : Nat) : (s.violate k a).fabLost = s.fabLost := by unfold State.violate; split <;> rfl
@[simp] theorem State.violate_devLost0 (k a : Nat) : (s.violate k a).devLost0 = s.devLost0 := by unfold State.violate; split <;> rfl
@[simp] theorem State.violate_devLost1 (k a : Nat) : (s.violate k a).devLost1 = s.devLost1 := by unfold State.violate; split <;> rfl
@[simp] theorem State.violate_pavQuota (k a : Nat) : (s.violate k a).pavQuota = s.pavQuota := by unfold State.violate; split <;> rfl
@[simp] theorem State.violate_keyCtl (k a : Nat) : (s.violate k a).keyCtl = s.keyCtl := by unfold State.violate; split <;> rfl
@[simp] theorem State.violate_attest (k a : Nat) : (s.violate k a).attest = s.attest := by unfold State.violate; split <;> rfl
@[simp] theorem State.violate_measExt (k a : Nat) : (s.violate k a).measExt = s.measExt := by unfold State.violate; split <;> rfl
@[simp] theorem State.violate_meas (k a : Nat) : (s.violate k a).meas = s.meas := by unfold State.violate; split <;> rfl
@[simp] theorem State.violate_keys (k a : Nat) : (s.violate k a).keys = s.keys := by unfold State.violate; split <;> rfl
@[simp] theorem State.violate_attestData (k a : Nat) : (s.violate k a).attestData = s.attestData := by unfold State.violate; split <;> rfl
@[simp] theorem State.violate_ctl (k a : Nat) : (s.violate k a).ctl = s.ctl := by unfold State.violate; split <;> rfl
@[simp] theorem State.violate_busy (k a : Nat) : (s.violate k a).busy = s.busy := by unfold State.violate; split <;> rfl
@[simp] theorem State.violate_flashBusy (k a : Nat) : (s.violate k a).flashBusy = s.flashBusy := by unfold State.violate; split <;> rfl
@[simp] theorem State.violate_bankErrors (k a : Nat) : (s.violate k a).bankErrors = s.bankErrors := by unfold State.violate; split <;> rfl
@[simp] theorem State.violate_power (k a : Nat) : (s.violate k a).power = s.power := by unfold State.violate; split <;> rfl
@[simp] theorem State.violate_poweredOff (k a : Nat) : (s.violate k a).poweredOff = s.poweredOff := by unfold State.violate; split <;> rfl
@[simp] theorem State.violate_bootStep (k a : Nat) : (s.violate k a).bootStep = s.bootStep := by unfold State.violate; split <;> rfl
@[simp] theorem State.violate_serving (k a : Nat) : (s.violate k a).serving = s.serving := by unfold State.violate; split <;> rfl
@[simp] theorem State.violate_fullMask (k a : Nat) : (s.violate k a).fullMask = s.fullMask := by unfold State.violate; split <;> rfl
@[simp] theorem State.violate_rateFailed (k a : Nat) : (s.violate k a).rateFailed = s.rateFailed := by unfold State.violate; split <;> rfl
@[simp] theorem State.violate_stackOut (k a : Nat) : (s.violate k a).stackOut = s.stackOut := by unfold State.violate; split <;> rfl
@[simp] theorem State.violate_smbusStep (k a : Nat) : (s.violate k a).smbusStep = s.smbusStep := by unfold State.violate; split <;> rfl
@[simp] theorem State.violate_powerCheckedAt (k a : Nat) : (s.violate k a).powerCheckedAt = s.powerCheckedAt := by unfold State.violate; split <;> rfl

/-! The named readings of the machine that an update leaves as they are. -/

@[simp] theorem State.setGroup_core_read (n : Nat) (x : Group) (k : Nat) : (s.setGroup n x).core k = s.core k := rfl
@[simp] theorem State.setGroup_cluster_read (n : Nat) (x : Group) (k : Nat) : (s.setGroup n x).cluster k = s.cluster k := rfl
@[simp] theorem State.setGroup_die_read (n : Nat) (x : Group) (k : Nat) : (s.setGroup n x).die k = s.die k := rfl
@[simp] theorem State.setGroup_ual_read (n : Nat) (x : Group) (k : Nat) : (s.setGroup n x).ual k = s.ual k := rfl
@[simp] theorem State.setGroup_switch_read (n : Nat) (x : Group) (k : Nat) : (s.setGroup n x).switch k = s.switch k := rfl
@[simp] theorem State.setGroup_task_read (n : Nat) (x : Group) (k : Nat) : (s.setGroup n x).task? k = s.task? k := rfl
@[simp] theorem State.setGroup_plan_read (n : Nat) (x : Group) (k : Nat) : (s.setGroup n x).plan? k = s.plan? k := rfl
@[simp] theorem State.setGroup_byte_read (n : Nat) (x : Group) (k : Nat) : (s.setGroup n x).byte k = s.byte k := rfl
@[simp] theorem State.setGroup_num_read (n : Nat) (x : Group) (k j : Nat) : (s.setGroup n x).num k j = s.num k j := rfl
@[simp] theorem State.setGroup_bytes_read (n : Nat) (x : Group) (k j : Nat) : (s.setGroup n x).bytes k j = s.bytes k j := rfl
@[simp] theorem State.setGroup_ctlReg_read (n : Nat) (x : Group) (k j : Nat) : (s.setGroup n x).ctlReg k j = s.ctlReg k j := rfl
@[simp] theorem State.setMe_core_read (x : Group) (k : Nat) : (s.setMe x).core k = s.core k := rfl
@[simp] theorem State.setMe_cluster_read (x : Group) (k : Nat) : (s.setMe x).cluster k = s.cluster k := rfl
@[simp] theorem State.setMe_die_read (x : Group) (k : Nat) : (s.setMe x).die k = s.die k := rfl
@[simp] theorem State.setMe_ual_read (x : Group) (k : Nat) : (s.setMe x).ual k = s.ual k := rfl
@[simp] theorem State.setMe_switch_read (x : Group) (k : Nat) : (s.setMe x).switch k = s.switch k := rfl
@[simp] theorem State.setMe_task_read (x : Group) (k : Nat) : (s.setMe x).task? k = s.task? k := rfl
@[simp] theorem State.setMe_plan_read (x : Group) (k : Nat) : (s.setMe x).plan? k = s.plan? k := rfl
@[simp] theorem State.setMe_byte_read (x : Group) (k : Nat) : (s.setMe x).byte k = s.byte k := rfl
@[simp] theorem State.setMe_num_read (x : Group) (k j : Nat) : (s.setMe x).num k j = s.num k j := rfl
@[simp] theorem State.setMe_bytes_read (x : Group) (k j : Nat) : (s.setMe x).bytes k j = s.bytes k j := rfl
@[simp] theorem State.setMe_ctlReg_read (x : Group) (k j : Nat) : (s.setMe x).ctlReg k j = s.ctlReg k j := rfl
@[simp] theorem State.setCore_group_read (n : Nat) (x : Core) (k : Nat) : (s.setCore n x).group k = s.group k := rfl
@[simp] theorem State.setCore_me_read (n : Nat) (x : Core) : (s.setCore n x).me = s.me := rfl
@[simp] theorem State.setCore_cluster_read (n : Nat) (x : Core) (k : Nat) : (s.setCore n x).cluster k = s.cluster k := rfl
@[simp] theorem State.setCore_die_read (n : Nat) (x : Core) (k : Nat) : (s.setCore n x).die k = s.die k := rfl
@[simp] theorem State.setCore_ual_read (n : Nat) (x : Core) (k : Nat) : (s.setCore n x).ual k = s.ual k := rfl
@[simp] theorem State.setCore_switch_read (n : Nat) (x : Core) (k : Nat) : (s.setCore n x).switch k = s.switch k := rfl
@[simp] theorem State.setCore_task_read (n : Nat) (x : Core) (k : Nat) : (s.setCore n x).task? k = s.task? k := rfl
@[simp] theorem State.setCore_plan_read (n : Nat) (x : Core) (k : Nat) : (s.setCore n x).plan? k = s.plan? k := rfl
@[simp] theorem State.setCore_byte_read (n : Nat) (x : Core) (k : Nat) : (s.setCore n x).byte k = s.byte k := rfl
@[simp] theorem State.setCore_num_read (n : Nat) (x : Core) (k j : Nat) : (s.setCore n x).num k j = s.num k j := rfl
@[simp] theorem State.setCore_bytes_read (n : Nat) (x : Core) (k j : Nat) : (s.setCore n x).bytes k j = s.bytes k j := rfl
@[simp] theorem State.setCore_ctlReg_read (n : Nat) (x : Core) (k j : Nat) : (s.setCore n x).ctlReg k j = s.ctlReg k j := rfl
@[simp] theorem State.setCluster_group_read (n : Nat) (x : Cluster) (k : Nat) : (s.setCluster n x).group k = s.group k := rfl
@[simp] theorem State.setCluster_me_read (n : Nat) (x : Cluster) : (s.setCluster n x).me = s.me := rfl
@[simp] theorem State.setCluster_core_read (n : Nat) (x : Cluster) (k : Nat) : (s.setCluster n x).core k = s.core k := rfl
@[simp] theorem State.setCluster_die_read (n : Nat) (x : Cluster) (k : Nat) : (s.setCluster n x).die k = s.die k := rfl
@[simp] theorem State.setCluster_ual_read (n : Nat) (x : Cluster) (k : Nat) : (s.setCluster n x).ual k = s.ual k := rfl
@[simp] theorem State.setCluster_switch_read (n : Nat) (x : Cluster) (k : Nat) : (s.setCluster n x).switch k = s.switch k := rfl
@[simp] theorem State.setCluster_task_read (n : Nat) (x : Cluster) (k : Nat) : (s.setCluster n x).task? k = s.task? k := rfl
@[simp] theorem State.setCluster_plan_read (n : Nat) (x : Cluster) (k : Nat) : (s.setCluster n x).plan? k = s.plan? k := rfl
@[simp] theorem State.setCluster_byte_read (n : Nat) (x : Cluster) (k : Nat) : (s.setCluster n x).byte k = s.byte k := rfl
@[simp] theorem State.setCluster_num_read (n : Nat) (x : Cluster) (k j : Nat) : (s.setCluster n x).num k j = s.num k j := rfl
@[simp] theorem State.setCluster_bytes_read (n : Nat) (x : Cluster) (k j : Nat) : (s.setCluster n x).bytes k j = s.bytes k j := rfl
@[simp] theorem State.setCluster_ctlReg_read (n : Nat) (x : Cluster) (k j : Nat) : (s.setCluster n x).ctlReg k j = s.ctlReg k j := rfl
@[simp] theorem State.setDie_group_read (n : Nat) (x : Die) (k : Nat) : (s.setDie n x).group k = s.group k := rfl
@[simp] theorem State.setDie_me_read (n : Nat) (x : Die) : (s.setDie n x).me = s.me := rfl
@[simp] theorem State.setDie_core_read (n : Nat) (x : Die) (k : Nat) : (s.setDie n x).core k = s.core k := rfl
@[simp] theorem State.setDie_cluster_read (n : Nat) (x : Die) (k : Nat) : (s.setDie n x).cluster k = s.cluster k := rfl
@[simp] theorem State.setDie_ual_read (n : Nat) (x : Die) (k : Nat) : (s.setDie n x).ual k = s.ual k := rfl
@[simp] theorem State.setDie_switch_read (n : Nat) (x : Die) (k : Nat) : (s.setDie n x).switch k = s.switch k := rfl
@[simp] theorem State.setDie_task_read (n : Nat) (x : Die) (k : Nat) : (s.setDie n x).task? k = s.task? k := rfl
@[simp] theorem State.setDie_plan_read (n : Nat) (x : Die) (k : Nat) : (s.setDie n x).plan? k = s.plan? k := rfl
@[simp] theorem State.setDie_byte_read (n : Nat) (x : Die) (k : Nat) : (s.setDie n x).byte k = s.byte k := rfl
@[simp] theorem State.setDie_num_read (n : Nat) (x : Die) (k j : Nat) : (s.setDie n x).num k j = s.num k j := rfl
@[simp] theorem State.setDie_bytes_read (n : Nat) (x : Die) (k j : Nat) : (s.setDie n x).bytes k j = s.bytes k j := rfl
@[simp] theorem State.setDie_ctlReg_read (n : Nat) (x : Die) (k j : Nat) : (s.setDie n x).ctlReg k j = s.ctlReg k j := rfl
@[simp] theorem State.setUal_group_read (n : Nat) (x : UalPort) (k : Nat) : (s.setUal n x).group k = s.group k := rfl
@[simp] theorem State.setUal_me_read (n : Nat) (x : UalPort) : (s.setUal n x).me = s.me := rfl
@[simp] theorem State.setUal_core_read (n : Nat) (x : UalPort) (k : Nat) : (s.setUal n x).core k = s.core k := rfl
@[simp] theorem State.setUal_cluster_read (n : Nat) (x : UalPort) (k : Nat) : (s.setUal n x).cluster k = s.cluster k := rfl
@[simp] theorem State.setUal_die_read (n : Nat) (x : UalPort) (k : Nat) : (s.setUal n x).die k = s.die k := rfl
@[simp] theorem State.setUal_switch_read (n : Nat) (x : UalPort) (k : Nat) : (s.setUal n x).switch k = s.switch k := rfl
@[simp] theorem State.setUal_task_read (n : Nat) (x : UalPort) (k : Nat) : (s.setUal n x).task? k = s.task? k := rfl
@[simp] theorem State.setUal_plan_read (n : Nat) (x : UalPort) (k : Nat) : (s.setUal n x).plan? k = s.plan? k := rfl
@[simp] theorem State.setUal_byte_read (n : Nat) (x : UalPort) (k : Nat) : (s.setUal n x).byte k = s.byte k := rfl
@[simp] theorem State.setUal_num_read (n : Nat) (x : UalPort) (k j : Nat) : (s.setUal n x).num k j = s.num k j := rfl
@[simp] theorem State.setUal_bytes_read (n : Nat) (x : UalPort) (k j : Nat) : (s.setUal n x).bytes k j = s.bytes k j := rfl
@[simp] theorem State.setUal_ctlReg_read (n : Nat) (x : UalPort) (k j : Nat) : (s.setUal n x).ctlReg k j = s.ctlReg k j := rfl
@[simp] theorem State.setSwitch_group_read (n : Nat) (x : Switch) (k : Nat) : (s.setSwitch n x).group k = s.group k := rfl
@[simp] theorem State.setSwitch_me_read (n : Nat) (x : Switch) : (s.setSwitch n x).me = s.me := rfl
@[simp] theorem State.setSwitch_core_read (n : Nat) (x : Switch) (k : Nat) : (s.setSwitch n x).core k = s.core k := rfl
@[simp] theorem State.setSwitch_cluster_read (n : Nat) (x : Switch) (k : Nat) : (s.setSwitch n x).cluster k = s.cluster k := rfl
@[simp] theorem State.setSwitch_die_read (n : Nat) (x : Switch) (k : Nat) : (s.setSwitch n x).die k = s.die k := rfl
@[simp] theorem State.setSwitch_ual_read (n : Nat) (x : Switch) (k : Nat) : (s.setSwitch n x).ual k = s.ual k := rfl
@[simp] theorem State.setSwitch_task_read (n : Nat) (x : Switch) (k : Nat) : (s.setSwitch n x).task? k = s.task? k := rfl
@[simp] theorem State.setSwitch_plan_read (n : Nat) (x : Switch) (k : Nat) : (s.setSwitch n x).plan? k = s.plan? k := rfl
@[simp] theorem State.setSwitch_byte_read (n : Nat) (x : Switch) (k : Nat) : (s.setSwitch n x).byte k = s.byte k := rfl
@[simp] theorem State.setSwitch_num_read (n : Nat) (x : Switch) (k j : Nat) : (s.setSwitch n x).num k j = s.num k j := rfl
@[simp] theorem State.setSwitch_bytes_read (n : Nat) (x : Switch) (k j : Nat) : (s.setSwitch n x).bytes k j = s.bytes k j := rfl
@[simp] theorem State.setSwitch_ctlReg_read (n : Nat) (x : Switch) (k j : Nat) : (s.setSwitch n x).ctlReg k j = s.ctlReg k j := rfl
@[simp] theorem State.setTask_group_read (n : Nat) (x : Task) (k : Nat) : (s.setTask n x).group k = s.group k := rfl
@[simp] theorem State.setTask_me_read (n : Nat) (x : Task) : (s.setTask n x).me = s.me := rfl
@[simp] theorem State.setTask_core_read (n : Nat) (x : Task) (k : Nat) : (s.setTask n x).core k = s.core k := rfl
@[simp] theorem State.setTask_cluster_read (n : Nat) (x : Task) (k : Nat) : (s.setTask n x).cluster k = s.cluster k := rfl
@[simp] theorem State.setTask_die_read (n : Nat) (x : Task) (k : Nat) : (s.setTask n x).die k = s.die k := rfl
@[simp] theorem State.setTask_ual_read (n : Nat) (x : Task) (k : Nat) : (s.setTask n x).ual k = s.ual k := rfl
@[simp] theorem State.setTask_switch_read (n : Nat) (x : Task) (k : Nat) : (s.setTask n x).switch k = s.switch k := rfl
@[simp] theorem State.setTask_plan_read (n : Nat) (x : Task) (k : Nat) : (s.setTask n x).plan? k = s.plan? k := rfl
@[simp] theorem State.setTask_byte_read (n : Nat) (x : Task) (k : Nat) : (s.setTask n x).byte k = s.byte k := rfl
@[simp] theorem State.setTask_num_read (n : Nat) (x : Task) (k j : Nat) : (s.setTask n x).num k j = s.num k j := rfl
@[simp] theorem State.setTask_bytes_read (n : Nat) (x : Task) (k j : Nat) : (s.setTask n x).bytes k j = s.bytes k j := rfl
@[simp] theorem State.setTask_ctlReg_read (n : Nat) (x : Task) (k j : Nat) : (s.setTask n x).ctlReg k j = s.ctlReg k j := rfl
@[simp] theorem State.setPlan_group_read (n : Nat) (x : Plan) (k : Nat) : (s.setPlan n x).group k = s.group k := rfl
@[simp] theorem State.setPlan_me_read (n : Nat) (x : Plan) : (s.setPlan n x).me = s.me := rfl
@[simp] theorem State.setPlan_core_read (n : Nat) (x : Plan) (k : Nat) : (s.setPlan n x).core k = s.core k := rfl
@[simp] theorem State.setPlan_cluster_read (n : Nat) (x : Plan) (k : Nat) : (s.setPlan n x).cluster k = s.cluster k := rfl
@[simp] theorem State.setPlan_die_read (n : Nat) (x : Plan) (k : Nat) : (s.setPlan n x).die k = s.die k := rfl
@[simp] theorem State.setPlan_ual_read (n : Nat) (x : Plan) (k : Nat) : (s.setPlan n x).ual k = s.ual k := rfl
@[simp] theorem State.setPlan_switch_read (n : Nat) (x : Plan) (k : Nat) : (s.setPlan n x).switch k = s.switch k := rfl
@[simp] theorem State.setPlan_task_read (n : Nat) (x : Plan) (k : Nat) : (s.setPlan n x).task? k = s.task? k := rfl
@[simp] theorem State.setPlan_byte_read (n : Nat) (x : Plan) (k : Nat) : (s.setPlan n x).byte k = s.byte k := rfl
@[simp] theorem State.setPlan_num_read (n : Nat) (x : Plan) (k j : Nat) : (s.setPlan n x).num k j = s.num k j := rfl
@[simp] theorem State.setPlan_bytes_read (n : Nat) (x : Plan) (k j : Nat) : (s.setPlan n x).bytes k j = s.bytes k j := rfl
@[simp] theorem State.setPlan_ctlReg_read (n : Nat) (x : Plan) (k j : Nat) : (s.setPlan n x).ctlReg k j = s.ctlReg k j := rfl
@[simp] theorem State.modPlan_group_read (n : Nat) (f : Plan → Plan) (k : Nat) : (s.modPlan n f).group k = s.group k := rfl
@[simp] theorem State.modPlan_me_read (n : Nat) (f : Plan → Plan) : (s.modPlan n f).me = s.me := rfl
@[simp] theorem State.modPlan_core_read (n : Nat) (f : Plan → Plan) (k : Nat) : (s.modPlan n f).core k = s.core k := rfl
@[simp] theorem State.modPlan_cluster_read (n : Nat) (f : Plan → Plan) (k : Nat) : (s.modPlan n f).cluster k = s.cluster k := rfl
@[simp] theorem State.modPlan_die_read (n : Nat) (f : Plan → Plan) (k : Nat) : (s.modPlan n f).die k = s.die k := rfl
@[simp] theorem State.modPlan_ual_read (n : Nat) (f : Plan → Plan) (k : Nat) : (s.modPlan n f).ual k = s.ual k := rfl
@[simp] theorem State.modPlan_switch_read (n : Nat) (f : Plan → Plan) (k : Nat) : (s.modPlan n f).switch k = s.switch k := rfl
@[simp] theorem State.modPlan_task_read (n : Nat) (f : Plan → Plan) (k : Nat) : (s.modPlan n f).task? k = s.task? k := rfl
@[simp] theorem State.modPlan_byte_read (n : Nat) (f : Plan → Plan) (k : Nat) : (s.modPlan n f).byte k = s.byte k := rfl
@[simp] theorem State.modPlan_num_read (n : Nat) (f : Plan → Plan) (k j : Nat) : (s.modPlan n f).num k j = s.num k j := rfl
@[simp] theorem State.modPlan_bytes_read (n : Nat) (f : Plan → Plan) (k j : Nat) : (s.modPlan n f).bytes k j = s.bytes k j := rfl
@[simp] theorem State.modPlan_ctlReg_read (n : Nat) (f : Plan → Plan) (k j : Nat) : (s.modPlan n f).ctlReg k j = s.ctlReg k j := rfl
@[simp] theorem State.modTask_group_read (n : Nat) (f : Task → Task) (k : Nat) : (s.modTask n f).group k = s.group k := rfl
@[simp] theorem State.modTask_me_read (n : Nat) (f : Task → Task) : (s.modTask n f).me = s.me := rfl
@[simp] theorem State.modTask_core_read (n : Nat) (f : Task → Task) (k : Nat) : (s.modTask n f).core k = s.core k := rfl
@[simp] theorem State.modTask_cluster_read (n : Nat) (f : Task → Task) (k : Nat) : (s.modTask n f).cluster k = s.cluster k := rfl
@[simp] theorem State.modTask_die_read (n : Nat) (f : Task → Task) (k : Nat) : (s.modTask n f).die k = s.die k := rfl
@[simp] theorem State.modTask_ual_read (n : Nat) (f : Task → Task) (k : Nat) : (s.modTask n f).ual k = s.ual k := rfl
@[simp] theorem State.modTask_switch_read (n : Nat) (f : Task → Task) (k : Nat) : (s.modTask n f).switch k = s.switch k := rfl
@[simp] theorem State.modTask_plan_read (n : Nat) (f : Task → Task) (k : Nat) : (s.modTask n f).plan? k = s.plan? k := rfl
@[simp] theorem State.modTask_byte_read (n : Nat) (f : Task → Task) (k : Nat) : (s.modTask n f).byte k = s.byte k := rfl
@[simp] theorem State.modTask_num_read (n : Nat) (f : Task → Task) (k j : Nat) : (s.modTask n f).num k j = s.num k j := rfl
@[simp] theorem State.modTask_bytes_read (n : Nat) (f : Task → Task) (k j : Nat) : (s.modTask n f).bytes k j = s.bytes k j := rfl
@[simp] theorem State.modTask_ctlReg_read (n : Nat) (f : Task → Task) (k j : Nat) : (s.modTask n f).ctlReg k j = s.ctlReg k j := rfl
@[simp] theorem State.setCtl_group_read (d o v : Nat) (k : Nat) : (s.setCtl d o v).group k = s.group k := rfl
@[simp] theorem State.setCtl_me_read (d o v : Nat) : (s.setCtl d o v).me = s.me := rfl
@[simp] theorem State.setCtl_core_read (d o v : Nat) (k : Nat) : (s.setCtl d o v).core k = s.core k := rfl
@[simp] theorem State.setCtl_cluster_read (d o v : Nat) (k : Nat) : (s.setCtl d o v).cluster k = s.cluster k := rfl
@[simp] theorem State.setCtl_die_read (d o v : Nat) (k : Nat) : (s.setCtl d o v).die k = s.die k := rfl
@[simp] theorem State.setCtl_ual_read (d o v : Nat) (k : Nat) : (s.setCtl d o v).ual k = s.ual k := rfl
@[simp] theorem State.setCtl_switch_read (d o v : Nat) (k : Nat) : (s.setCtl d o v).switch k = s.switch k := rfl
@[simp] theorem State.setCtl_task_read (d o v : Nat) (k : Nat) : (s.setCtl d o v).task? k = s.task? k := rfl
@[simp] theorem State.setCtl_plan_read (d o v : Nat) (k : Nat) : (s.setCtl d o v).plan? k = s.plan? k := rfl
@[simp] theorem State.setCtl_byte_read (d o v : Nat) (k : Nat) : (s.setCtl d o v).byte k = s.byte k := rfl
@[simp] theorem State.setCtl_num_read (d o v : Nat) (k j : Nat) : (s.setCtl d o v).num k j = s.num k j := rfl
@[simp] theorem State.setCtl_bytes_read (d o v : Nat) (k j : Nat) : (s.setCtl d o v).bytes k j = s.bytes k j := rfl
@[simp] theorem State.writeTagged_core_read (a : Nat) (bs : List Byte) (k : Nat) (q : Nat) : (s.writeTagged a bs k).core q = s.core q := by simp [State.core]
@[simp] theorem State.writeTagged_cluster_read (a : Nat) (bs : List Byte) (k : Nat) (q : Nat) : (s.writeTagged a bs k).cluster q = s.cluster q := by simp [State.cluster]
@[simp] theorem State.writeTagged_die_read (a : Nat) (bs : List Byte) (k : Nat) (q : Nat) : (s.writeTagged a bs k).die q = s.die q := by simp [State.die]
@[simp] theorem State.writeTagged_ual_read (a : Nat) (bs : List Byte) (k : Nat) (q : Nat) : (s.writeTagged a bs k).ual q = s.ual q := by simp [State.ual]
@[simp] theorem State.writeTagged_switch_read (a : Nat) (bs : List Byte) (k : Nat) (q : Nat) : (s.writeTagged a bs k).switch q = s.switch q := by simp [State.switch]
@[simp] theorem State.writeTagged_task_read (a : Nat) (bs : List Byte) (k : Nat) (q : Nat) : (s.writeTagged a bs k).task? q = s.task? q := by simp [State.task?]
@[simp] theorem State.writeTagged_plan_read (a : Nat) (bs : List Byte) (k : Nat) (q : Nat) : (s.writeTagged a bs k).plan? q = s.plan? q := by simp [State.plan?]
@[simp] theorem State.writeTagged_ctlReg_read (a : Nat) (bs : List Byte) (k : Nat) (q j : Nat) : (s.writeTagged a bs k).ctlReg q j = s.ctlReg q j := by simp [State.ctlReg]
@[simp] theorem State.write_core_read (a : Nat) (bs : List Byte) (k : Nat) : (s.write a bs).core k = s.core k := by simp [State.core]
@[simp] theorem State.write_cluster_read (a : Nat) (bs : List Byte) (k : Nat) : (s.write a bs).cluster k = s.cluster k := by simp [State.cluster]
@[simp] theorem State.write_die_read (a : Nat) (bs : List Byte) (k : Nat) : (s.write a bs).die k = s.die k := by simp [State.die]
@[simp] theorem State.write_ual_read (a : Nat) (bs : List Byte) (k : Nat) : (s.write a bs).ual k = s.ual k := by simp [State.ual]
@[simp] theorem State.write_switch_read (a : Nat) (bs : List Byte) (k : Nat) : (s.write a bs).switch k = s.switch k := by simp [State.switch]
@[simp] theorem State.write_task_read (a : Nat) (bs : List Byte) (k : Nat) : (s.write a bs).task? k = s.task? k := by simp [State.task?]
@[simp] theorem State.write_plan_read (a : Nat) (bs : List Byte) (k : Nat) : (s.write a bs).plan? k = s.plan? k := by simp [State.plan?]
@[simp] theorem State.write_ctlReg_read (a : Nat) (bs : List Byte) (k j : Nat) : (s.write a bs).ctlReg k j = s.ctlReg k j := by simp [State.ctlReg]
@[simp] theorem State.writeNum_core_read (a n x : Nat) (k : Nat) : (s.writeNum a n x).core k = s.core k := by simp [State.core]
@[simp] theorem State.writeNum_cluster_read (a n x : Nat) (k : Nat) : (s.writeNum a n x).cluster k = s.cluster k := by simp [State.cluster]
@[simp] theorem State.writeNum_die_read (a n x : Nat) (k : Nat) : (s.writeNum a n x).die k = s.die k := by simp [State.die]
@[simp] theorem State.writeNum_ual_read (a n x : Nat) (k : Nat) : (s.writeNum a n x).ual k = s.ual k := by simp [State.ual]
@[simp] theorem State.writeNum_switch_read (a n x : Nat) (k : Nat) : (s.writeNum a n x).switch k = s.switch k := by simp [State.switch]
@[simp] theorem State.writeNum_task_read (a n x : Nat) (k : Nat) : (s.writeNum a n x).task? k = s.task? k := by simp [State.task?]
@[simp] theorem State.writeNum_plan_read (a n x : Nat) (k : Nat) : (s.writeNum a n x).plan? k = s.plan? k := by simp [State.plan?]
@[simp] theorem State.writeNum_ctlReg_read (a n x : Nat) (k j : Nat) : (s.writeNum a n x).ctlReg k j = s.ctlReg k j := by simp [State.ctlReg]
@[simp] theorem State.violate_group_read (k a : Nat) (q : Nat) : (s.violate k a).group q = s.group q := by simp [State.group]
@[simp] theorem State.violate_me_read (k a : Nat) : (s.violate k a).me = s.me := by simp [State.me, State.group]
@[simp] theorem State.violate_core_read (k a : Nat) (q : Nat) : (s.violate k a).core q = s.core q := by simp [State.core]
@[simp] theorem State.violate_cluster_read (k a : Nat) (q : Nat) : (s.violate k a).cluster q = s.cluster q := by simp [State.cluster]
@[simp] theorem State.violate_die_read (k a : Nat) (q : Nat) : (s.violate k a).die q = s.die q := by simp [State.die]
@[simp] theorem State.violate_ual_read (k a : Nat) (q : Nat) : (s.violate k a).ual q = s.ual q := by simp [State.ual]
@[simp] theorem State.violate_task_read (k a : Nat) (q : Nat) : (s.violate k a).task? q = s.task? q := by simp [State.task?]
@[simp] theorem State.violate_plan_read (k a : Nat) (q : Nat) : (s.violate k a).plan? q = s.plan? q := by simp [State.plan?]
@[simp] theorem State.violate_byte_read (k a : Nat) (q : Nat) : (s.violate k a).byte q = s.byte q := by simp [State.byte]
@[simp] theorem State.violate_num_read (k a : Nat) (q j : Nat) : (s.violate k a).num q j = s.num q j := by simp [State.num, State.bytes, State.byte]
@[simp] theorem State.violate_bytes_read (k a : Nat) (q j : Nat) : (s.violate k a).bytes q j = s.bytes q j := by simp [State.bytes, State.byte]
@[simp] theorem State.violate_ctlReg_read (k a : Nat) (q j : Nat) : (s.violate k a).ctlReg q j = s.ctlReg q j := by simp [State.ctlReg]

/-! Updates of a group. -/

@[simp] theorem Group.setS_mode (r : Nat) (x : Dword) : (g.setS r x).mode = g.mode := rfl
@[simp] theorem Group.setS_pc (r : Nat) (x : Dword) : (g.setS r x).pc = g.pc := rfl
@[simp] theorem Group.setS_v (r : Nat) (x : Dword) : (g.setS r x).v = g.v := rfl
@[simp] theorem Group.setS_segs (r : Nat) (x : Dword) : (g.setS r x).segs = g.segs := rfl
@[simp] theorem Group.setS_fpctl (r : Nat) (x : Dword) : (g.setS r x).fpctl = g.fpctl := rfl
@[simp] theorem Group.setS_ff (r : Nat) (x : Dword) : (g.setS r x).ff = g.ff := rfl
@[simp] theorem Group.setS_gen (r : Nat) (x : Dword) : (g.setS r x).gen = g.gen := rfl
@[simp] theorem Group.setS_srseed (r : Nat) (x : Dword) : (g.setS r x).srseed = g.srseed := rfl
@[simp] theorem Group.setS_tags0 (r : Nat) (x : Dword) : (g.setS r x).tags0 = g.tags0 := rfl
@[simp] theorem Group.setS_tags1 (r : Nat) (x : Dword) : (g.setS r x).tags1 = g.tags1 := rfl
@[simp] theorem Group.setS_instret (r : Nat) (x : Dword) : (g.setS r x).instret = g.instret := rfl
@[simp] theorem Group.setS_ptRoot (r : Nat) (x : Dword) : (g.setS r x).ptRoot = g.ptRoot := rfl
@[simp] theorem Group.setS_step (r : Nat) (x : Dword) : (g.setS r x).step = g.step := rfl
@[simp] theorem Group.setS_repcnt (r : Nat) (x : Dword) : (g.setS r x).repcnt = g.repcnt := rfl
@[simp] theorem Group.setS_tokens (r : Nat) (x : Dword) : (g.setS r x).tokens = g.tokens := rfl
@[simp] theorem Group.setS_matFault (r : Nat) (x : Dword) : (g.setS r x).matFault = g.matFault := rfl
@[simp] theorem Group.setS_prefFault (r : Nat) (x : Dword) : (g.setS r x).prefFault = g.prefFault := rfl
@[simp] theorem Group.setS_budget (r : Nat) (x : Dword) : (g.setS r x).budget = g.budget := rfl
@[simp] theorem Group.setS_role (r : Nat) (x : Dword) : (g.setS r x).role = g.role := rfl
@[simp] theorem Group.setS_index (r : Nat) (x : Dword) : (g.setS r x).index = g.index := rfl
@[simp] theorem Group.setS_prio (r : Nat) (x : Dword) : (g.setS r x).prio = g.prio := rfl
@[simp] theorem Group.setS_age (r : Nat) (x : Dword) : (g.setS r x).age = g.age := rfl
@[simp] theorem Group.setS_passScalar (r : Nat) (x : Dword) : (g.setS r x).passScalar = g.passScalar := rfl
@[simp] theorem Group.setS_passVector (r : Nat) (x : Dword) : (g.setS r x).passVector = g.passVector := rfl
@[simp] theorem Group.setS_parked (r : Nat) (x : Dword) : (g.setS r x).parked = g.parked := rfl
@[simp] theorem Group.setS_wait (r : Nat) (x : Dword) : (g.setS r x).wait = g.wait := rfl
@[simp] theorem Group.setS_waitMark (r : Nat) (x : Dword) : (g.setS r x).waitMark = g.waitMark := rfl
@[simp] theorem Group.setS_out (r : Nat) (x : Dword) : (g.setS r x).out = g.out := rfl
@[simp] theorem Group.setS_late (r : Nat) (x : Dword) : (g.setS r x).late = g.late := rfl
@[simp] theorem Group.setS_lateExtra (r : Nat) (x : Dword) : (g.setS r x).lateExtra = g.lateExtra := rfl
@[simp] theorem Group.setS_issueNo (r : Nat) (x : Dword) : (g.setS r x).issueNo = g.issueNo := rfl
@[simp] theorem Group.setS_word (r : Nat) (x : Dword) : (g.setS r x).word = g.word := rfl
@[simp] theorem Group.setS_target (r : Nat) (x : Dword) : (g.setS r x).target = g.target := rfl
@[simp] theorem Group.setS_reads (r : Nat) (x : Dword) : (g.setS r x).reads = g.reads := rfl
@[simp] theorem Group.setS_due (r : Nat) (x : Dword) : (g.setS r x).due = g.due := rfl
@[simp] theorem Group.setS_invs (r : Nat) (x : Dword) : (g.setS r x).invs = g.invs := rfl
@[simp] theorem Group.setS_exited (r : Nat) (x : Dword) : (g.setS r x).exited = g.exited := rfl
@[simp] theorem Group.setS_retryAt (r : Nat) (x : Dword) : (g.setS r x).retryAt = g.retryAt := rfl
@[simp] theorem Group.setS_stepArmed (r : Nat) (x : Dword) : (g.setS r x).stepArmed = g.stepArmed := rfl
@[simp] theorem Group.setS_stepDue (r : Nat) (x : Dword) : (g.setS r x).stepDue = g.stepDue := rfl
@[simp] theorem Group.setS_stepSince (r : Nat) (x : Dword) : (g.setS r x).stepSince = g.stepSince := rfl
@[simp] theorem Group.setS_ctx (r : Nat) (x : Dword) : (g.setS r x).ctx = g.ctx := rfl
@[simp] theorem Group.setS_plan (r : Nat) (x : Dword) : (g.setS r x).plan = g.plan := rfl
@[simp] theorem Group.setS_task (r : Nat) (x : Dword) : (g.setS r x).task = g.task := rfl
@[simp] theorem Group.setS_halted (r : Nat) (x : Dword) : (g.setS r x).halted = g.halted := rfl
@[simp] theorem Group.setV_mode (r : Nat) (f : Nat → Word) : (g.setV r f).mode = g.mode := rfl
@[simp] theorem Group.setV_pc (r : Nat) (f : Nat → Word) : (g.setV r f).pc = g.pc := rfl
@[simp] theorem Group.setV_s (r : Nat) (f : Nat → Word) : (g.setV r f).s = g.s := rfl
@[simp] theorem Group.setV_segs (r : Nat) (f : Nat → Word) : (g.setV r f).segs = g.segs := rfl
@[simp] theorem Group.setV_fpctl (r : Nat) (f : Nat → Word) : (g.setV r f).fpctl = g.fpctl := rfl
@[simp] theorem Group.setV_ff (r : Nat) (f : Nat → Word) : (g.setV r f).ff = g.ff := rfl
@[simp] theorem Group.setV_gen (r : Nat) (f : Nat → Word) : (g.setV r f).gen = g.gen := rfl
@[simp] theorem Group.setV_srseed (r : Nat) (f : Nat → Word) : (g.setV r f).srseed = g.srseed := rfl
@[simp] theorem Group.setV_tags0 (r : Nat) (f : Nat → Word) : (g.setV r f).tags0 = g.tags0 := rfl
@[simp] theorem Group.setV_tags1 (r : Nat) (f : Nat → Word) : (g.setV r f).tags1 = g.tags1 := rfl
@[simp] theorem Group.setV_instret (r : Nat) (f : Nat → Word) : (g.setV r f).instret = g.instret := rfl
@[simp] theorem Group.setV_ptRoot (r : Nat) (f : Nat → Word) : (g.setV r f).ptRoot = g.ptRoot := rfl
@[simp] theorem Group.setV_step (r : Nat) (f : Nat → Word) : (g.setV r f).step = g.step := rfl
@[simp] theorem Group.setV_repcnt (r : Nat) (f : Nat → Word) : (g.setV r f).repcnt = g.repcnt := rfl
@[simp] theorem Group.setV_tokens (r : Nat) (f : Nat → Word) : (g.setV r f).tokens = g.tokens := rfl
@[simp] theorem Group.setV_matFault (r : Nat) (f : Nat → Word) : (g.setV r f).matFault = g.matFault := rfl
@[simp] theorem Group.setV_prefFault (r : Nat) (f : Nat → Word) : (g.setV r f).prefFault = g.prefFault := rfl
@[simp] theorem Group.setV_budget (r : Nat) (f : Nat → Word) : (g.setV r f).budget = g.budget := rfl
@[simp] theorem Group.setV_role (r : Nat) (f : Nat → Word) : (g.setV r f).role = g.role := rfl
@[simp] theorem Group.setV_index (r : Nat) (f : Nat → Word) : (g.setV r f).index = g.index := rfl
@[simp] theorem Group.setV_prio (r : Nat) (f : Nat → Word) : (g.setV r f).prio = g.prio := rfl
@[simp] theorem Group.setV_age (r : Nat) (f : Nat → Word) : (g.setV r f).age = g.age := rfl
@[simp] theorem Group.setV_passScalar (r : Nat) (f : Nat → Word) : (g.setV r f).passScalar = g.passScalar := rfl
@[simp] theorem Group.setV_passVector (r : Nat) (f : Nat → Word) : (g.setV r f).passVector = g.passVector := rfl
@[simp] theorem Group.setV_parked (r : Nat) (f : Nat → Word) : (g.setV r f).parked = g.parked := rfl
@[simp] theorem Group.setV_wait (r : Nat) (f : Nat → Word) : (g.setV r f).wait = g.wait := rfl
@[simp] theorem Group.setV_waitMark (r : Nat) (f : Nat → Word) : (g.setV r f).waitMark = g.waitMark := rfl
@[simp] theorem Group.setV_out (r : Nat) (f : Nat → Word) : (g.setV r f).out = g.out := rfl
@[simp] theorem Group.setV_late (r : Nat) (f : Nat → Word) : (g.setV r f).late = g.late := rfl
@[simp] theorem Group.setV_lateExtra (r : Nat) (f : Nat → Word) : (g.setV r f).lateExtra = g.lateExtra := rfl
@[simp] theorem Group.setV_issueNo (r : Nat) (f : Nat → Word) : (g.setV r f).issueNo = g.issueNo := rfl
@[simp] theorem Group.setV_word (r : Nat) (f : Nat → Word) : (g.setV r f).word = g.word := rfl
@[simp] theorem Group.setV_target (r : Nat) (f : Nat → Word) : (g.setV r f).target = g.target := rfl
@[simp] theorem Group.setV_reads (r : Nat) (f : Nat → Word) : (g.setV r f).reads = g.reads := rfl
@[simp] theorem Group.setV_due (r : Nat) (f : Nat → Word) : (g.setV r f).due = g.due := rfl
@[simp] theorem Group.setV_invs (r : Nat) (f : Nat → Word) : (g.setV r f).invs = g.invs := rfl
@[simp] theorem Group.setV_exited (r : Nat) (f : Nat → Word) : (g.setV r f).exited = g.exited := rfl
@[simp] theorem Group.setV_retryAt (r : Nat) (f : Nat → Word) : (g.setV r f).retryAt = g.retryAt := rfl
@[simp] theorem Group.setV_stepArmed (r : Nat) (f : Nat → Word) : (g.setV r f).stepArmed = g.stepArmed := rfl
@[simp] theorem Group.setV_stepDue (r : Nat) (f : Nat → Word) : (g.setV r f).stepDue = g.stepDue := rfl
@[simp] theorem Group.setV_stepSince (r : Nat) (f : Nat → Word) : (g.setV r f).stepSince = g.stepSince := rfl
@[simp] theorem Group.setV_ctx (r : Nat) (f : Nat → Word) : (g.setV r f).ctx = g.ctx := rfl
@[simp] theorem Group.setV_plan (r : Nat) (f : Nat → Word) : (g.setV r f).plan = g.plan := rfl
@[simp] theorem Group.setV_task (r : Nat) (f : Nat → Word) : (g.setV r f).task = g.task := rfl
@[simp] theorem Group.setV_halted (r : Nat) (f : Nat → Word) : (g.setV r f).halted = g.halted := rfl
@[simp] theorem Group.setVT_mode (r t : Nat) (x : Word) : (g.setVT r t x).mode = g.mode := rfl
@[simp] theorem Group.setVT_pc (r t : Nat) (x : Word) : (g.setVT r t x).pc = g.pc := rfl
@[simp] theorem Group.setVT_s (r t : Nat) (x : Word) : (g.setVT r t x).s = g.s := rfl
@[simp] theorem Group.setVT_segs (r t : Nat) (x : Word) : (g.setVT r t x).segs = g.segs := rfl
@[simp] theorem Group.setVT_fpctl (r t : Nat) (x : Word) : (g.setVT r t x).fpctl = g.fpctl := rfl
@[simp] theorem Group.setVT_ff (r t : Nat) (x : Word) : (g.setVT r t x).ff = g.ff := rfl
@[simp] theorem Group.setVT_gen (r t : Nat) (x : Word) : (g.setVT r t x).gen = g.gen := rfl
@[simp] theorem Group.setVT_srseed (r t : Nat) (x : Word) : (g.setVT r t x).srseed = g.srseed := rfl
@[simp] theorem Group.setVT_tags0 (r t : Nat) (x : Word) : (g.setVT r t x).tags0 = g.tags0 := rfl
@[simp] theorem Group.setVT_tags1 (r t : Nat) (x : Word) : (g.setVT r t x).tags1 = g.tags1 := rfl
@[simp] theorem Group.setVT_instret (r t : Nat) (x : Word) : (g.setVT r t x).instret = g.instret := rfl
@[simp] theorem Group.setVT_ptRoot (r t : Nat) (x : Word) : (g.setVT r t x).ptRoot = g.ptRoot := rfl
@[simp] theorem Group.setVT_step (r t : Nat) (x : Word) : (g.setVT r t x).step = g.step := rfl
@[simp] theorem Group.setVT_repcnt (r t : Nat) (x : Word) : (g.setVT r t x).repcnt = g.repcnt := rfl
@[simp] theorem Group.setVT_tokens (r t : Nat) (x : Word) : (g.setVT r t x).tokens = g.tokens := rfl
@[simp] theorem Group.setVT_matFault (r t : Nat) (x : Word) : (g.setVT r t x).matFault = g.matFault := rfl
@[simp] theorem Group.setVT_prefFault (r t : Nat) (x : Word) : (g.setVT r t x).prefFault = g.prefFault := rfl
@[simp] theorem Group.setVT_budget (r t : Nat) (x : Word) : (g.setVT r t x).budget = g.budget := rfl
@[simp] theorem Group.setVT_role (r t : Nat) (x : Word) : (g.setVT r t x).role = g.role := rfl
@[simp] theorem Group.setVT_index (r t : Nat) (x : Word) : (g.setVT r t x).index = g.index := rfl
@[simp] theorem Group.setVT_prio (r t : Nat) (x : Word) : (g.setVT r t x).prio = g.prio := rfl
@[simp] theorem Group.setVT_age (r t : Nat) (x : Word) : (g.setVT r t x).age = g.age := rfl
@[simp] theorem Group.setVT_passScalar (r t : Nat) (x : Word) : (g.setVT r t x).passScalar = g.passScalar := rfl
@[simp] theorem Group.setVT_passVector (r t : Nat) (x : Word) : (g.setVT r t x).passVector = g.passVector := rfl
@[simp] theorem Group.setVT_parked (r t : Nat) (x : Word) : (g.setVT r t x).parked = g.parked := rfl
@[simp] theorem Group.setVT_wait (r t : Nat) (x : Word) : (g.setVT r t x).wait = g.wait := rfl
@[simp] theorem Group.setVT_waitMark (r t : Nat) (x : Word) : (g.setVT r t x).waitMark = g.waitMark := rfl
@[simp] theorem Group.setVT_out (r t : Nat) (x : Word) : (g.setVT r t x).out = g.out := rfl
@[simp] theorem Group.setVT_late (r t : Nat) (x : Word) : (g.setVT r t x).late = g.late := rfl
@[simp] theorem Group.setVT_lateExtra (r t : Nat) (x : Word) : (g.setVT r t x).lateExtra = g.lateExtra := rfl
@[simp] theorem Group.setVT_issueNo (r t : Nat) (x : Word) : (g.setVT r t x).issueNo = g.issueNo := rfl
@[simp] theorem Group.setVT_word (r t : Nat) (x : Word) : (g.setVT r t x).word = g.word := rfl
@[simp] theorem Group.setVT_target (r t : Nat) (x : Word) : (g.setVT r t x).target = g.target := rfl
@[simp] theorem Group.setVT_reads (r t : Nat) (x : Word) : (g.setVT r t x).reads = g.reads := rfl
@[simp] theorem Group.setVT_due (r t : Nat) (x : Word) : (g.setVT r t x).due = g.due := rfl
@[simp] theorem Group.setVT_invs (r t : Nat) (x : Word) : (g.setVT r t x).invs = g.invs := rfl
@[simp] theorem Group.setVT_exited (r t : Nat) (x : Word) : (g.setVT r t x).exited = g.exited := rfl
@[simp] theorem Group.setVT_retryAt (r t : Nat) (x : Word) : (g.setVT r t x).retryAt = g.retryAt := rfl
@[simp] theorem Group.setVT_stepArmed (r t : Nat) (x : Word) : (g.setVT r t x).stepArmed = g.stepArmed := rfl
@[simp] theorem Group.setVT_stepDue (r t : Nat) (x : Word) : (g.setVT r t x).stepDue = g.stepDue := rfl
@[simp] theorem Group.setVT_stepSince (r t : Nat) (x : Word) : (g.setVT r t x).stepSince = g.stepSince := rfl
@[simp] theorem Group.setVT_ctx (r t : Nat) (x : Word) : (g.setVT r t x).ctx = g.ctx := rfl
@[simp] theorem Group.setVT_plan (r t : Nat) (x : Word) : (g.setVT r t x).plan = g.plan := rfl
@[simp] theorem Group.setVT_task (r t : Nat) (x : Word) : (g.setVT r t x).task = g.task := rfl
@[simp] theorem Group.setVT_halted (r t : Nat) (x : Word) : (g.setVT r t x).halted = g.halted := rfl
@[simp] theorem Group.setToken_mode (r : Nat) (x : Token) : (g.setToken r x).mode = g.mode := rfl
@[simp] theorem Group.setToken_pc (r : Nat) (x : Token) : (g.setToken r x).pc = g.pc := rfl
@[simp] theorem Group.setToken_v (r : Nat) (x : Token) : (g.setToken r x).v = g.v := rfl
@[simp] theorem Group.setToken_s (r : Nat) (x : Token) : (g.setToken r x).s = g.s := rfl
@[simp] theorem Group.setToken_segs (r : Nat) (x : Token) : (g.setToken r x).segs = g.segs := rfl
@[simp] theorem Group.setToken_fpctl (r : Nat) (x : Token) : (g.setToken r x).fpctl = g.fpctl := rfl
@[simp] theorem Group.setToken_ff (r : Nat) (x : Token) : (g.setToken r x).ff = g.ff := rfl
@[simp] theorem Group.setToken_gen (r : Nat) (x : Token) : (g.setToken r x).gen = g.gen := rfl
@[simp] theorem Group.setToken_srseed (r : Nat) (x : Token) : (g.setToken r x).srseed = g.srseed := rfl
@[simp] theorem Group.setToken_tags0 (r : Nat) (x : Token) : (g.setToken r x).tags0 = g.tags0 := rfl
@[simp] theorem Group.setToken_tags1 (r : Nat) (x : Token) : (g.setToken r x).tags1 = g.tags1 := rfl
@[simp] theorem Group.setToken_instret (r : Nat) (x : Token) : (g.setToken r x).instret = g.instret := rfl
@[simp] theorem Group.setToken_ptRoot (r : Nat) (x : Token) : (g.setToken r x).ptRoot = g.ptRoot := rfl
@[simp] theorem Group.setToken_step (r : Nat) (x : Token) : (g.setToken r x).step = g.step := rfl
@[simp] theorem Group.setToken_repcnt (r : Nat) (x : Token) : (g.setToken r x).repcnt = g.repcnt := rfl
@[simp] theorem Group.setToken_matFault (r : Nat) (x : Token) : (g.setToken r x).matFault = g.matFault := rfl
@[simp] theorem Group.setToken_prefFault (r : Nat) (x : Token) : (g.setToken r x).prefFault = g.prefFault := rfl
@[simp] theorem Group.setToken_budget (r : Nat) (x : Token) : (g.setToken r x).budget = g.budget := rfl
@[simp] theorem Group.setToken_role (r : Nat) (x : Token) : (g.setToken r x).role = g.role := rfl
@[simp] theorem Group.setToken_index (r : Nat) (x : Token) : (g.setToken r x).index = g.index := rfl
@[simp] theorem Group.setToken_prio (r : Nat) (x : Token) : (g.setToken r x).prio = g.prio := rfl
@[simp] theorem Group.setToken_age (r : Nat) (x : Token) : (g.setToken r x).age = g.age := rfl
@[simp] theorem Group.setToken_passScalar (r : Nat) (x : Token) : (g.setToken r x).passScalar = g.passScalar := rfl
@[simp] theorem Group.setToken_passVector (r : Nat) (x : Token) : (g.setToken r x).passVector = g.passVector := rfl
@[simp] theorem Group.setToken_parked (r : Nat) (x : Token) : (g.setToken r x).parked = g.parked := rfl
@[simp] theorem Group.setToken_wait (r : Nat) (x : Token) : (g.setToken r x).wait = g.wait := rfl
@[simp] theorem Group.setToken_waitMark (r : Nat) (x : Token) : (g.setToken r x).waitMark = g.waitMark := rfl
@[simp] theorem Group.setToken_out (r : Nat) (x : Token) : (g.setToken r x).out = g.out := rfl
@[simp] theorem Group.setToken_late (r : Nat) (x : Token) : (g.setToken r x).late = g.late := rfl
@[simp] theorem Group.setToken_lateExtra (r : Nat) (x : Token) : (g.setToken r x).lateExtra = g.lateExtra := rfl
@[simp] theorem Group.setToken_issueNo (r : Nat) (x : Token) : (g.setToken r x).issueNo = g.issueNo := rfl
@[simp] theorem Group.setToken_word (r : Nat) (x : Token) : (g.setToken r x).word = g.word := rfl
@[simp] theorem Group.setToken_target (r : Nat) (x : Token) : (g.setToken r x).target = g.target := rfl
@[simp] theorem Group.setToken_reads (r : Nat) (x : Token) : (g.setToken r x).reads = g.reads := rfl
@[simp] theorem Group.setToken_due (r : Nat) (x : Token) : (g.setToken r x).due = g.due := rfl
@[simp] theorem Group.setToken_invs (r : Nat) (x : Token) : (g.setToken r x).invs = g.invs := rfl
@[simp] theorem Group.setToken_exited (r : Nat) (x : Token) : (g.setToken r x).exited = g.exited := rfl
@[simp] theorem Group.setToken_retryAt (r : Nat) (x : Token) : (g.setToken r x).retryAt = g.retryAt := rfl
@[simp] theorem Group.setToken_stepArmed (r : Nat) (x : Token) : (g.setToken r x).stepArmed = g.stepArmed := rfl
@[simp] theorem Group.setToken_stepDue (r : Nat) (x : Token) : (g.setToken r x).stepDue = g.stepDue := rfl
@[simp] theorem Group.setToken_stepSince (r : Nat) (x : Token) : (g.setToken r x).stepSince = g.stepSince := rfl
@[simp] theorem Group.setToken_ctx (r : Nat) (x : Token) : (g.setToken r x).ctx = g.ctx := rfl
@[simp] theorem Group.setToken_plan (r : Nat) (x : Token) : (g.setToken r x).plan = g.plan := rfl
@[simp] theorem Group.setToken_task (r : Nat) (x : Token) : (g.setToken r x).task = g.task := rfl
@[simp] theorem Group.setToken_halted (r : Nat) (x : Token) : (g.setToken r x).halted = g.halted := rfl

end Sys2Proof.Machine
end

