-- ==== Sys2Proof/Laws/Memory.lean ====
section
/-!
SUPPORT. Laws of tables, registers and memory: what is read after a write, and that every operation on memory keeps its
canonical form.
-/

namespace Sys2Proof.Machine

namespace Map

variable {α : Type}

@[simp] theorem get?_put_self (k : Nat) (v : α) (m : Map α) : get? k (put k v m) = some v := by
  induction m with
  | nil => simp [put, get?]
  | cons p t ih =>
    unfold put
    split
    · simp [get?]
    · split
      · simp [get?]
      · rename_i h; simp [get?, h, ih]

@[simp] theorem get?_put_ne {k j : Nat} (h : j ≠ k) (v : α) (m : Map α) : get? j (put k v m) = get? j m := by
  have h' : k ≠ j := fun e => h e.symm
  induction m with
  | nil => simp [put, get?, h']
  | cons p t ih =>
    unfold put
    split
    · simp [get?, h']
    · split
      · rename_i e; simp [get?, h', e]
      · simp [get?, ih]

theorem get?_put (k j : Nat) (v : α) (m : Map α) : get? j (put k v m) = if j = k then some v else get? j m := by
  split
  · rename_i h; subst h; exact get?_put_self ..
  · exact get?_put_ne ‹_› ..

@[simp] theorem get?_del_self (k : Nat) (m : Map α) : get? k (del k m) = none := by
  induction m with
  | nil => rfl
  | cons p t ih =>
    unfold del
    split
    · exact ih
    · rename_i h; simp [get?, h, ih]

@[simp] theorem get?_del_ne {k j : Nat} (h : j ≠ k) (m : Map α) : get? j (del k m) = get? j m := by
  induction m with
  | nil => rfl
  | cons p t ih =>
    unfold del
    split
    · rename_i e; simp [get?, e, Ne.symm h, ih]
    · simp [get?, ih]

@[simp] theorem put_put (k : Nat) (v w : α) (m : Map α) : put k v (put k w m) = put k v m := by
  induction m with
  | nil => simp [put]
  | cons p t ih =>
    by_cases h1 : k < p.1
    · simp [put, h1]
    · by_cases h2 : p.1 = k
      · simp [put, h2]
      · simp [put, h1, h2, ih]

@[simp] theorem getD_put_self (k : Nat) (v d : α) (m : Map α) : (put k v m).getD k d = v := by simp [getD]
@[simp] theorem getD_put_ne {k j : Nat} (h : j ≠ k) (v d : α) (m : Map α) : (put k v m).getD j d = getD m j d := by
  simp [getD, h]
theorem getD_put (k j : Nat) (v d : α) (m : Map α) : (put k v m).getD j d = if j = k then v else getD m j d := by
  simp only [getD, get?_put]; split <;> rfl

@[simp] theorem has_put_self (k : Nat) (v : α) (m : Map α) : (put k v m).has k = true := by simp [has]
theorem has_put (k j : Nat) (v : α) (m : Map α) : (put k v m).has j = (decide (j = k) || has m j) := by
  simp only [has, get?_put]; split <;> simp_all

@[simp] theorem getD_putD_self [DecidableEq α] (d : α) (k : Nat) (v : α) (m : Map α) : (putD d k v m).getD k d = v := by
  unfold putD; split
  · rename_i h; simp [getD, h]
  · simp
@[simp] theorem getD_putD_ne [DecidableEq α] {k j : Nat} (h : j ≠ k) (d : α) (v : α) (m : Map α) :
    (putD d k v m).getD j d = getD m j d := by
  unfold putD; split <;> simp [getD, h]
theorem getD_putD [DecidableEq α] (d : α) (k j : Nat) (v : α) (m : Map α) :
    (putD d k v m).getD j d = if j = k then v else getD m j d := by
  split
  · rename_i h; subst h; exact getD_putD_self ..
  · exact getD_putD_ne ‹_› ..

/-! Rising keys. -/

theorem risesFrom_le {lo lo' : Nat} (h : lo' ≤ lo) {m : Map α} (hm : risesFrom lo m = true) : risesFrom lo' m = true := by
  cases m with
  | nil => rfl
  | cons p t => simp only [risesFrom, Bool.and_eq_true, decide_eq_true_eq] at hm ⊢; exact ⟨by omega, hm.2⟩

theorem risesFrom_put {lo k : Nat} (v : α) (h : lo ≤ k) {m : Map α} (hm : risesFrom lo m = true) :
    risesFrom lo (put k v m) = true := by
  induction m generalizing lo with
  | nil => simp [put, risesFrom, h]
  | cons p t ih =>
    simp only [risesFrom, Bool.and_eq_true, decide_eq_true_eq] at hm
    unfold put
    split
    · simp only [risesFrom, Bool.and_eq_true, decide_eq_true_eq]; exact ⟨h, by omega, hm.2⟩
    · split
      · rename_i e; simp only [risesFrom, Bool.and_eq_true, decide_eq_true_eq]; exact ⟨h, e ▸ hm.2⟩
      · simp only [risesFrom, Bool.and_eq_true, decide_eq_true_eq]; exact ⟨hm.1, ih (by omega) hm.2⟩

theorem risesFrom_filter {lo : Nat} (p : Nat × α → Bool) {m : Map α} (hm : risesFrom lo m = true) :
    risesFrom lo (m.filter p) = true := by
  induction m generalizing lo with
  | nil => rfl
  | cons q t ih =>
    simp only [risesFrom, Bool.and_eq_true, decide_eq_true_eq] at hm
    rw [List.filter_cons]
    split
    · simp only [risesFrom, Bool.and_eq_true, decide_eq_true_eq]; exact ⟨hm.1, ih hm.2⟩
    · exact risesFrom_le (by omega) (ih hm.2)

theorem risesFrom_del {lo : Nat} (k : Nat) {m : Map α} (hm : risesFrom lo m = true) : risesFrom lo (del k m) = true := by
  induction m generalizing lo with
  | nil => rfl
  | cons q t ih =>
    simp only [risesFrom, Bool.and_eq_true, decide_eq_true_eq] at hm
    unfold del
    split
    · exact risesFrom_le (by omega) (ih hm.2)
    · simp only [risesFrom, Bool.and_eq_true, decide_eq_true_eq]; exact ⟨hm.1, ih hm.2⟩

theorem mem_put {k : Nat} {v : α} {m : Map α} {c : Nat × α} (h : c ∈ put k v m) : c = (k, v) ∨ c ∈ m := by
  induction m with
  | nil => simpa [put] using h
  | cons p t ih =>
    unfold put at h
    split at h
    · simpa using h
    · split at h
      · rcases List.mem_cons.mp h with h | h
        · exact .inl h
        · exact .inr (List.mem_cons_of_mem _ h)
      · rcases List.mem_cons.mp h with h | h
        · exact .inr (h ▸ List.mem_cons_self ..)
        · exact (ih h).imp_right (List.mem_cons_of_mem _)

theorem mem_del {k : Nat} {m : Map α} {c : Nat × α} (h : c ∈ del k m) : c ∈ m := by
  induction m with
  | nil => exact h
  | cons p t ih =>
    unfold del at h
    split at h
    · exact List.mem_cons_of_mem _ (ih h)
    · rcases List.mem_cons.mp h with h | h
      · exact h ▸ List.mem_cons_self ..
      · exact List.mem_cons_of_mem _ (ih h)

/-- Two parts of a table, the second above the first, rise together. -/
theorem risesFrom_append {lo hi : Nat} {m t : Map α} (hm : risesFrom lo m = true) (ht : risesFrom hi t = true)
    (hlo : lo ≤ hi) (h : ∀ c ∈ m, c.1 < hi) : risesFrom lo (m ++ t) = true := by
  induction m generalizing lo with
  | nil => exact risesFrom_le hlo ht
  | cons p m ih =>
    simp only [risesFrom, Bool.and_eq_true, decide_eq_true_eq, List.cons_append] at hm ⊢
    exact ⟨hm.1, ih hm.2 (h p (List.mem_cons_self ..)) fun c hc => h c (List.mem_cons_of_mem _ hc)⟩

end Map

/-! The canonical form of memory. -/

theorem Memory.wf_iff (m : List Host.Cell) :
    Memory.wf m = true ↔ Map.risesFrom 0 m = true ∧ ∀ c ∈ m, c.2 ≠ 0 := by
  simp [Memory.wf, Map.rises]

theorem memPut_wf {m : List Host.Cell} (h : Memory.wf m = true) (a : Nat) (b : Byte) : Memory.wf (memPut m a b) = true := by
  rw [Memory.wf_iff] at h ⊢
  unfold memPut Map.putD
  split
  · exact ⟨Map.risesFrom_del _ h.1, fun c hc => h.2 c (Map.mem_del hc)⟩
  · rename_i hb
    refine ⟨Map.risesFrom_put _ (Nat.zero_le _) h.1, fun c hc => ?_⟩
    rcases Map.mem_put hc with rfl | hc
    · exact hb
    · exact h.2 c hc

theorem memWrite_wf {m : List Host.Cell} (h : Memory.wf m = true) (a : Nat) (bs : List Byte) :
    Memory.wf (memWrite m a bs) = true := by
  induction bs generalizing m a with
  | nil => exact h
  | cons b t ih => exact ih (memPut_wf h a b) (a + 1)

theorem filter_wf {m : List Host.Cell} (h : Memory.wf m = true) (p : Host.Cell → Bool) : Memory.wf (m.filter p) = true := by
  rw [Memory.wf_iff] at h ⊢
  exact ⟨Map.risesFrom_filter p h.1, fun c hc => h.2 c (List.mem_filter.mp hc).1⟩

theorem risesFrom_zip (lo k n : Nat) (bs : List Byte) (h : lo ≤ k) :
    Map.risesFrom lo (List.zip ((List.range' k n)) bs) = true := by
  induction n generalizing lo k bs with
  | zero => simp [Map.risesFrom]
  | succ n ih =>
    cases bs with
    | nil => simp [Map.risesFrom]
    | cons b t =>
      rw [List.range'_succ]
      simp only [List.zip_cons_cons, Map.risesFrom, Bool.and_eq_true, decide_eq_true_eq]
      exact ⟨h, ih (k + 1) (k + 1) t (Nat.le_refl _)⟩

theorem memReplace_wf {m : List Host.Cell} (h : Memory.wf m = true) (a : Nat) (bs : List Byte) :
    Memory.wf (memReplace m a bs) = true := by
  rw [Memory.wf_iff] at h ⊢
  have hr : (List.range bs.length).map (a + ·) = List.range' a bs.length := (List.range'_eq_map_range ..).symm
  have hz : ∀ c ∈ List.zip (List.range' a bs.length) bs, a ≤ c.1 ∧ c.1 < a + bs.length := fun c hc => by
    have := (List.mem_range'_1.mp (List.of_mem_zip hc).1)
    exact this
  have h3 : Map.risesFrom (a + bs.length) (m.filter fun c => decide (a + bs.length ≤ c.1)) = true := by
    have : ∀ (lo : Nat) (m : List Host.Cell), Map.risesFrom lo m = true →
        Map.risesFrom (a + bs.length) (m.filter fun c => decide (a + bs.length ≤ c.1)) = true := by
      intro lo m
      induction m generalizing lo with
      | nil => intro _; rfl
      | cons q t ih =>
        intro hm
        simp only [Map.risesFrom, Bool.and_eq_true, decide_eq_true_eq] at hm
        rw [List.filter_cons]
        split
        · rename_i hq
          simp only [Map.risesFrom, Bool.and_eq_true, decide_eq_true_eq]
          exact ⟨of_decide_eq_true hq, Map.risesFrom_filter _ hm.2⟩
        · exact ih _ hm.2
    exact this 0 m h.1
  unfold memReplace
  rw [hr]
  refine ⟨?_, fun c hc => ?_⟩
  · refine Map.risesFrom_append (hi := a + bs.length) ?_ h3 (Nat.zero_le _) fun c hc => ?_
    · refine Map.risesFrom_append (hi := a) (Map.risesFrom_filter _ h.1)
        (Map.risesFrom_filter _ (risesFrom_zip a a _ bs (Nat.le_refl _))) (Nat.zero_le _) fun c hc => ?_
      exact of_decide_eq_true (List.mem_filter.mp hc).2
    · rcases List.mem_append.mp hc with hc | hc
      · have := of_decide_eq_true (List.mem_filter.mp hc).2; omega
      · exact (hz c (List.mem_filter.mp hc).1).2
  · rcases List.mem_append.mp hc with hc | hc
    · rcases List.mem_append.mp hc with hc | hc
      · exact h.2 c (List.mem_filter.mp hc).1
      · simpa using (List.mem_filter.mp hc).2
    · exact h.2 c (List.mem_filter.mp hc).1

theorem writeTagged_wf {s : State} (h : Memory.wf s.mem = true) (a : Nat) (bs : List Byte) (k : Nat) :
    Memory.wf (s.writeTagged a bs k).mem = true := by rw [State.writeTagged_mem]; exact memWrite_wf h a bs
theorem write_wf {s : State} (h : Memory.wf s.mem = true) (a : Nat) (bs : List Byte) :
    Memory.wf (s.write a bs).mem = true := writeTagged_wf h a bs 0
theorem writeNum_wf {s : State} (h : Memory.wf s.mem = true) (a n x : Nat) :
    Memory.wf (s.writeNum a n x).mem = true := write_wf h a _
theorem writePiece_wf {s : State} (h : Memory.wf s.mem = true) (who : Asker) (key a : Nat) (bs : List Byte) :
    Memory.wf (s.writePiece who key a bs).mem = true := by
  unfold State.writePiece
  split
  · rwa [State.violate_mem]
  · split
    · exact h
    · exact writeTagged_wf h a bs _
theorem zeroSpan_wf {s : State} (h : Memory.wf s.mem = true) (lo hi : Nat) : Memory.wf (s.zeroSpan lo hi).mem = true :=
  filter_wf h _
theorem scribble_wf {s : State} (h : Memory.wf s.mem = true) (a n : Nat) : Memory.wf (s.scribble a n).mem = true :=
  memReplace_wf h _ _

/-! Reading after writing. -/

theorem getD_memPut (m : List Host.Cell) (a k : Nat) (b : Byte) :
    Map.getD (memPut m a b) k 0 = if k = a then b else Map.getD m k 0 := Map.getD_putD ..

theorem getD_memWrite (m : List Host.Cell) (a k : Nat) (bs : List Byte) :
    Map.getD (memWrite m a bs) k 0 = if a ≤ k ∧ k < a + bs.length then bs.getD (k - a) 0 else Map.getD m k 0 := by
  induction bs generalizing m a with
  | nil => simp only [memWrite, List.length_nil]; split <;> first | omega | rfl
  | cons b t ih =>
    rw [memWrite, ih, getD_memPut]
    by_cases h1 : k = a
    · subst h1
      have : ¬ (k + 1 ≤ k ∧ k < k + 1 + t.length) := by omega
      simp [this]
    · by_cases h2 : a + 1 ≤ k ∧ k < a + 1 + t.length
      · have h3 : a ≤ k ∧ k < a + (b :: t).length := by simp only [List.length_cons]; omega
        rw [if_pos h2, if_pos h3]
        obtain ⟨d, hd⟩ : ∃ d, k - a = d + 1 := ⟨k - a - 1, by omega⟩
        rw [hd, show k - (a + 1) = d by omega, List.getD_cons_succ]
      · have h3 : ¬ (a ≤ k ∧ k < a + (b :: t).length) := by simp only [List.length_cons]; omega
        rw [if_neg h2, if_neg h3, if_neg h1]

/-- A byte after a write: the stored one within the range, else as before. -/
theorem byte_writeTagged (s : State) (a k tag : Nat) (bs : List Byte) :
    (s.writeTagged a bs tag).byte k = if a ≤ k ∧ k < a + bs.length then bs.getD (k - a) 0 else s.byte k := by
  rw [State.byte, State.writeTagged_mem]; exact getD_memWrite ..
theorem byte_write (s : State) (a k : Nat) (bs : List Byte) :
    (s.write a bs).byte k = if a ≤ k ∧ k < a + bs.length then bs.getD (k - a) 0 else s.byte k := byte_writeTagged ..

@[simp] theorem length_leBytes (n x : Nat) : (leBytes n x).length = n := by
  induction n generalizing x with
  | zero => rfl
  | succ n ih => simp [leBytes, ih]

theorem leNat_leBytes (n x : Nat) : leNat (leBytes n x) = x % 256 ^ n := by
  induction n generalizing x with
  | zero => simp [leBytes, leNat, Nat.mod_one]
  | succ n ih =>
    rw [leBytes, leNat, ih, BitVec.toNat_ofNat, Nat.pow_succ 256 n, Nat.mul_comm (256 ^ n) 256, Nat.mod_mul]

theorem byte_writeNum (s : State) (a n x k : Nat) :
    (s.writeNum a n x).byte k = if a ≤ k ∧ k < a + n then (leBytes n x).getD (k - a) 0 else s.byte k := by
  have := byte_write s a k (leBytes n x)
  rwa [length_leBytes] at this

/-! Registers. -/

@[simp] theorem Group.getS_setS_self (g : Group) (r : Nat) (x : Dword) : (g.setS r x).getS r = x := Map.getD_putD_self ..
@[simp] theorem Group.getS_setS_ne (g : Group) {r q : Nat} (h : q ≠ r) (x : Dword) : (g.setS r x).getS q = g.getS q :=
  Map.getD_putD_ne h ..
theorem Group.getS_setS (g : Group) (r q : Nat) (x : Dword) : (g.setS r x).getS q = if q = r then x else g.getS q :=
  Map.getD_putD ..

theorem lanesOf_getD (f : Nat → Word) (t : Nat) (h : t < 64) : (lanesOf f).getD t 0 = f t := by
  simp [lanesOf, List.getD, h]
theorem lanesOf_getD_ge (f : Nat → Word) (t : Nat) (h : 64 ≤ t) : (lanesOf f).getD t 0 = 0 := by
  simp [lanesOf, List.getD, h]

theorem Group.getV_setV (g : Group) (r q t : Nat) (f : Nat → Word) (h : t < 64) :
    (g.setV r f).getV q t = if q = r ∧ g.active t = true then f t else g.getV q t := by
  unfold Group.getV Group.lanes Group.setV
  rw [Map.getD_put]
  by_cases hq : q = r
  · subst hq
    rw [if_pos rfl, lanesOf_getD _ _ h]
    simp [Group.getV, Group.lanes]
  · simp [hq]

theorem Group.getV_setVT (g : Group) (r q t u : Nat) (x : Word) (h : u < 64) :
    (g.setVT r t x).getV q u = if q = r ∧ u = t then x else g.getV q u := by
  unfold Group.getV Group.lanes Group.setVT
  rw [Map.getD_put]
  by_cases hq : q = r
  · subst hq
    rw [if_pos rfl, lanesOf_getD _ _ h]
    simp [Group.getV, Group.lanes]
  · simp [hq]

/-! The tables of the machine. -/

@[simp] theorem State.group_setGroup_self (s : State) (n : Nat) (g : Group) : (s.setGroup n g).group n = g :=
  Map.getD_put_self ..
@[simp] theorem State.group_setGroup_ne (s : State) {n k : Nat} (h : k ≠ n) (g : Group) :
    (s.setGroup n g).group k = s.group k := Map.getD_put_ne h ..
@[simp] theorem State.me_setMe (s : State) (g : Group) : (s.setMe g).me = g := Map.getD_put_self ..
@[simp] theorem State.setMe_setMe (s : State) (g h : Group) : (s.setMe g).setMe h = s.setMe h := by
  simp [State.setMe, State.setGroup]
@[simp] theorem State.core_setCore_self (s : State) (n : Nat) (x : Core) : (s.setCore n x).core n = x := Map.getD_put_self ..
@[simp] theorem State.core_setCore_ne (s : State) {n k : Nat} (h : k ≠ n) (x : Core) :
    (s.setCore n x).core k = s.core k := Map.getD_put_ne h ..
@[simp] theorem State.cluster_setCluster_self (s : State) (n : Nat) (x : Cluster) : (s.setCluster n x).cluster n = x :=
  Map.getD_put_self ..
@[simp] theorem State.die_setDie_self (s : State) (n : Nat) (x : Die) : (s.setDie n x).die n = x := Map.getD_put_self ..
@[simp] theorem State.die_setDie_ne (s : State) {n k : Nat} (h : k ≠ n) (x : Die) :
    (s.setDie n x).die k = s.die k := Map.getD_put_ne h ..
@[simp] theorem State.ual_setUal_self (s : State) (n : Nat) (x : UalPort) : (s.setUal n x).ual n = x := Map.getD_put_self ..
@[simp] theorem State.switch_setSwitch_self (s : State) (n : Nat) (x : Switch) : (s.setSwitch n x).switch n = x :=
  Map.getD_put_self ..
@[simp] theorem State.switch_setSwitch_ne (s : State) {n k : Nat} (h : k ≠ n) (x : Switch) :
    (s.setSwitch n x).switch k = s.switch k := Map.getD_put_ne h ..
@[simp] theorem State.task?_setTask_self (s : State) (n : Nat) (x : Task) : (s.setTask n x).task? n = some x :=
  Map.get?_put_self ..
@[simp] theorem State.plan?_setPlan_self (s : State) (n : Nat) (x : Plan) : (s.setPlan n x).plan? n = some x :=
  Map.get?_put_self ..

/-! The issue of an instruction. -/

theorem issue_next {s : State} (h : s.groups.has s.cur = true) (m : Bool) (b : Body) :
    issue m b s = .next (applyEff m (b s)) := by simp [issue, h]

/-- An issued instruction whose body goes on: what retiring it leaves (R62, R68, R348, R356). -/
theorem issue_ok {s t : State} (h : s.groups.has s.cur = true) (m : Bool) {b : Body} (hb : b s = .ok t) :
    issue m b s = .next (t.retire m (t.me.pc + 4)) := by rw [issue_next h, hb]; rfl
theorem issue_fault {s t : State} (h : s.groups.has s.cur = true) (m : Bool) {b : Body} {x : TrapInfo}
    (hb : b s = .fault t x) : issue m b s = .next (t.takeTrap t.cur (some x)) := by rw [issue_next h, hb]; rfl

/-- A lane-set instruction that may issue only changes the group (R21, R30, R105). -/
theorem laneBody_ok {s : State} {regs : List Nat} (f : Group → Group) (h1 : s.me.mode ≠ .control)
    (h2 : ∀ r ∈ regs, r < s.me.budget) : laneBody regs f s = .ok (s.setMe (f s.me)) := by
  have h3 : regs.any (fun r => decide (s.me.budget ≤ r)) = false := by
    rw [List.any_eq_false]; intro r hr; have := h2 r hr; simp; omega
  simp [laneBody, h1, h3]

/-- A lane-set instruction that may not issue is illegal (R21, R30). -/
theorem laneBody_illegal {s : State} {regs : List Nat} (f : Group → Group)
    (h : s.me.mode = .control ∨ ∃ r ∈ regs, s.me.budget ≤ r) : laneBody regs f s = illegal s := by
  unfold laneBody
  rcases h with h | ⟨r, hr, hb⟩
  · simp [h]
  · have : regs.any (fun r => decide (s.me.budget ≤ r)) = true := List.any_eq_true.mpr ⟨r, hr, by simpa using hb⟩
    simp [this]

end Sys2Proof.Machine
end

