-- ==== Sys2Proof/Laws/Run.lean ====
section
/-!
SUPPORT. What the machine issues is the meaning of the decoded instruction: the functions of RunWord.lean that read a
word's body agree with the decoder, major by major, and so `runWord` is `exec` of the decoded instruction.
-/

namespace Sys2Proof.Laws

open Sys2Proof.Machine

/-- Whether an instruction is the prefix `rep`. -/
def isRep (i : Instr) : Bool :=
  match i with
  | .rep .. => true
  | _ => false

/-- An instruction is the issue of a body, and no `rep`. -/
def Issues (m : Bool) (i : Instr) (b : Body) : Prop := (∀ s, exec i s = issue m b s) ∧ isRep i = false

/-- A decoded instruction with marker m and a body read from the same bits agree: both are errors, or the instruction is
the issue of the body. -/
def Agrees (m : Bool) (x : Decoded Instr) (y : Decoded Body) : Prop :=
  match x, y with
  | .ok i, .ok b => Issues m i b
  | .error _, .error _ => True
  | _, _ => False

theorem agrees_fields {m c : Bool} {i : Instr} {b : Body} (h : Issues m i b) :
    Agrees m (fields c i) (fields c b) := by cases c; exacts [trivial, h]
theorem agrees_operand {m c : Bool} {i : Instr} {b : Body} (h : Issues m i b) :
    Agrees m (operand c i) (operand c b) := by cases c; exacts [trivial, h]
theorem agrees_opSize {m : Bool} {n : Nat} {z : Size} {i : Instr} {b : Body} (h : Issues m i b) :
    Agrees m (opSize n z i) (opSize n z b) := by unfold opSize; split; exacts [h, trivial]
theorem agrees_sizeUpTo {m : Bool} {n : Nat} {z : Size} {i : Instr} {b : Body} (h : Issues m i b) :
    Agrees m (sizeUpTo n z i) (sizeUpTo n z b) := by unfold sizeUpTo; split; exacts [h, trivial]

theorem agrees_lr (maj fn : Nat) (hm : maj < 64) (hf : fn < 8) (m : Bool) (d a b : Reg) :
    Agrees m (decodeLR maj fn m d a b) (bodyLR maj fn d a b) := by
  interval_cases maj <;> first
    | exact trivial
    | (interval_cases fn <;> first
        | exact trivial
        | exact ⟨fun _ => rfl, rfl⟩
        | exact agrees_fields ⟨fun _ => rfl, rfl⟩
        | exact agrees_operand ⟨fun _ => rfl, rfl⟩)

theorem agrees_gr (maj fn : Nat) (hm : maj < 64) (hf : fn < 8) (m : Bool) (d a b : Reg) :
    Agrees m (decodeGR maj fn m d a b) (bodyGR maj fn d a b) := by
  interval_cases maj <;> first
    | exact trivial
    | (interval_cases fn <;> first
        | exact trivial
        | exact ⟨fun _ => rfl, rfl⟩
        | exact agrees_fields ⟨fun _ => rfl, rfl⟩)

theorem agrees_li (maj : Nat) (hm : maj < 64) (m : Bool) (d a : Reg) (i : BitVec 10) :
    Agrees m (decodeLI maj m d a i) (bodyLI maj d a i) := by
  interval_cases maj <;> first
    | exact trivial
    | exact ⟨fun _ => rfl, rfl⟩
    | exact agrees_fields ⟨fun _ => rfl, rfl⟩

theorem agrees_gi (maj : Nat) (hm : maj < 64) (m : Bool) (d a : Reg) (i : BitVec 10) :
    Agrees m (decodeGI maj m d a i) (bodyGI maj d a i) := by
  interval_cases maj <;> first
    | exact trivial
    | exact ⟨fun _ => rfl, rfl⟩
    | exact agrees_fields ⟨fun _ => rfl, rfl⟩
    | (unfold decodeGI bodyGI; cases i.getLsbD 9 <;> exact agrees_fields ⟨fun _ => rfl, rfl⟩)

theorem agrees_lm (maj : Nat) (hm : maj < 64) (m : Bool) (d a : Reg) (g : BitVec 3) (z : Size) (i : BitVec 4) :
    Agrees m (decodeLM maj m d a g z i) (bodyLM maj d a g z i) := by
  have hi : i.toNat < 16 := i.isLt
  unfold decodeLM bodyLM
  generalize i.toNat = n at hi
  interval_cases maj <;> first
    | exact trivial
    | exact ⟨fun _ => rfl, rfl⟩
    | exact agrees_sizeUpTo ⟨fun _ => rfl, rfl⟩
    | (interval_cases n <;> first
        | exact trivial
        | exact agrees_opSize ⟨fun _ => rfl, rfl⟩)

theorem agrees_gim (maj : Nat) (hm : maj < 64) (m : Bool) (d a : Reg) (g : BitVec 3) (z : Size) (i : BitVec 4) :
    Agrees m (decodeGIM maj m d a g z i) (bodyGIM maj d a g z i) := by
  have hi : i.toNat < 16 := i.isLt
  unfold decodeGIM bodyGIM
  generalize i.toNat = n at hi
  interval_cases maj <;> first
    | exact trivial
    | exact ⟨fun _ => rfl, rfl⟩
    | exact agrees_sizeUpTo ⟨fun _ => rfl, rfl⟩
    | (interval_cases n <;> first
        | exact trivial
        | exact agrees_opSize ⟨fun _ => rfl, rfl⟩)

theorem agrees_gb17 (maj : Nat) (hm : maj < 64) (m : Bool) (a : Reg) (o : BitVec 17) :
    Agrees m (decodeGB17 maj m a o) (bodyGB17 maj a o) := by
  interval_cases maj <;> first
    | exact trivial
    | exact ⟨fun _ => rfl, rfl⟩

theorem agrees_gb24 (maj : Nat) (hm : maj < 64) (m : Bool) (o : BitVec 24) :
    Agrees m (decodeGB24 maj m o) (bodyGB24 maj o) := by
  interval_cases maj <;> first
    | exact trivial
    | exact ⟨fun _ => rfl, rfl⟩

theorem agrees_gx (maj : Nat) (hm : maj < 64) (m : Bool) (k : BitVec 3) (a b c : Reg) :
    Agrees m (decodeGX maj m k a b c) (bodyGX maj k a b c) := by
  unfold decodeGX bodyGX
  by_cases h58 : maj = 58
  · subst h58
    have hc : c.toNat < 128 := c.isLt
    generalize c.toNat = n at hc
    by_cases hn : n < 4
    · interval_cases n <;> first
        | exact ⟨fun _ => rfl, rfl⟩
        | exact agrees_fields ⟨fun _ => rfl, rfl⟩
    · match n, hn with
      | n + 4, _ => exact trivial
  · interval_cases maj <;> first
      | exact trivial
      | exact ⟨fun _ => rfl, rfl⟩
      | exact agrees_fields ⟨fun _ => rfl, rfl⟩
      | exact absurd rfl h58

/-- `sysw` to a register whose write is a row of its own is that row's (R347). -/
theorem exec_syswInstr (m : Bool) (r : BitVec 12) (a : Reg) : Issues m (syswInstr m r a) (bodySysw r a) := by
  unfold syswInstr bodySysw
  generalize r.toNat = n
  split <;> first
    | exact ⟨fun _ => rfl, rfl⟩
    | (split <;> first
        | exact ⟨fun _ => rfl, rfl⟩
        | simp_all)

theorem agrees_gs (maj fn : Nat) (hm : maj < 64) (m : Bool) (r : BitVec 12) (a : Reg) :
    Agrees m (decodeGS maj fn m r a) (bodyGS maj fn r a) := by
  interval_cases maj <;> first
    | exact trivial
    | (match fn with
       | 0 => exact ⟨fun _ => rfl, rfl⟩
       | 1 => exact exec_syswInstr m r a
       | n + 2 => exact trivial)

/-- A word that is no prefix decodes to the instruction whose body is read from it (R31). -/
theorem agrees_word (w : Word) (h1 : wordFormat w ≠ some .rep) (h2 : wordFormat w ≠ some .limm) :
    Agrees (w.getLsbD 30) (decode w) (bodyWord w) := by
  have hm : (w.extractLsb' 24 6).toNat < 64 := (w.extractLsb' 24 6).isLt
  have hf : (w.extractLsb' 21 3).toNat < 8 := (w.extractLsb' 21 3).isLt
  have hw : wordFormat w = if w.getLsbD 31 then groupFormat (w.extractLsb' 24 6).toNat else laneFormat (w.extractLsb' 24 6).toNat := rfl
  dsimp only [decode, bodyWord]
  rw [← hw]
  cases hv : wordFormat w with
  | none => exact trivial
  | some f => cases f with
    | lr => exact agrees_lr _ _ hm hf ..
    | gr => exact agrees_gr _ _ hm hf ..
    | li => exact agrees_li _ hm ..
    | gi => exact agrees_gi _ hm ..
    | lm => cases hz : Size.ofCode (w.extractLsb' 4 3) with
      | none => exact trivial
      | some z => exact agrees_lm _ hm ..
    | gim => cases hz : Size.ofCode (w.extractLsb' 4 3) with
      | none => exact trivial
      | some z => exact agrees_gim _ hm ..
    | gb17 => exact agrees_gb17 _ hm ..
    | gb24 => exact agrees_gb24 _ hm ..
    | gx => exact agrees_gx _ hm ..
    | gs => exact agrees_gs _ _ hm ..
    | rep => exact absurd hv h1
    | limm => exact absurd hv h2

/-- A word that decodes runs as its instruction, a stale REPCNT apart (R52, R87). -/
theorem runWord_ok {w : Word} {i : Instr} {s : State} (h : decode w = .ok i)
    (hr : s.me.repcnt = 0 ∨ ∃ n d a b, i = .rep n d a b) : runWord w s = exec i s := by
  by_cases h1 : wordFormat w = some .rep
  · have hw : (if w.getLsbD 31 then groupFormat (w.extractLsb' 24 6).toNat else laneFormat (w.extractLsb' 24 6).toNat)
        = some .rep := h1
    unfold runWord
    rw [h1]
    dsimp only [decode] at h
    rw [hw] at h
    cases hb : w.getLsbD 30
    · cases hz : w.extractLsb' 0 12 == 0
      · simp only [hb, hz, fields, Bool.false_eq_true, if_false, if_true, reduceCtorEq] at h
      · simp only [hb, hz, fields, if_true, Bool.false_eq_true, if_false] at h
        cases h
        simp only [hb, bne, hz, Bool.not_true, Bool.or_self, Bool.false_eq_true, if_false]
        rfl
    · simp only [hb, if_true, Bool.false_eq_true, if_false, reduceCtorEq] at h
  · by_cases h2 : wordFormat w = some .limm
    · have hw : (if w.getLsbD 31 then groupFormat (w.extractLsb' 24 6).toNat else laneFormat (w.extractLsb' 24 6).toNat)
          = some .limm := h2
      unfold runWord
      rw [h2]
      dsimp only [decode] at h
      rw [hw] at h
      cases hb : w.getLsbD 30
      · simp only [hb, Bool.false_eq_true, if_false] at h
        cases h
        have h0 : s.me.repcnt = 0 := hr.elim id fun ⟨_, _, _, _, e⟩ => by cases e
        simp only [hb, h0, bne_self_eq_false, Bool.or_self, Bool.false_eq_true, if_false]
        rfl
      · simp only [hb, if_true, Bool.false_eq_true, if_false, reduceCtorEq] at h
    · have ha := agrees_word w h1 h2
      rw [h] at ha
      cases hb : bodyWord w with
      | error e => rw [hb] at ha; exact ha.elim
      | ok b =>
        rw [hb] at ha
        have h0 : s.me.repcnt = 0 := hr.elim id fun ⟨_, _, _, _, e⟩ => by
          subst e
          exact absurd ha.2 (by simp [isRep])
        unfold runWord
        cases hv : wordFormat w with
        | none => simp [hb, h0, ha.1 s]
        | some f => cases f <;> first | exact absurd hv h1 | exact absurd hv h2 | simp [hb, h0, ha.1 s]

/-- A word that does not decode raises the illegal-instruction fault (R52). -/
theorem runWord_error {w : Word} {e : DecodeError} {s : State} (h : decode w = .error e) :
    runWord w s = issue false illegal s := by
  by_cases h1 : wordFormat w = some .rep
  · have hw : (if w.getLsbD 31 then groupFormat (w.extractLsb' 24 6).toNat else laneFormat (w.extractLsb' 24 6).toNat)
        = some .rep := h1
    unfold runWord
    rw [h1]
    dsimp only [decode] at h
    rw [hw] at h
    cases hb : w.getLsbD 30
    · cases hz : w.extractLsb' 0 12 == 0
      · simp only [hb, bne, hz, Bool.not_false, Bool.or_true, if_true]
      · simp only [hb, hz, fields, Bool.false_eq_true, if_false, if_true, reduceCtorEq] at h
    · simp only [hb, Bool.true_or, if_true]
  · by_cases h2 : wordFormat w = some .limm
    · have hw : (if w.getLsbD 31 then groupFormat (w.extractLsb' 24 6).toNat else laneFormat (w.extractLsb' 24 6).toNat)
          = some .limm := h2
      unfold runWord
      rw [h2]
      dsimp only [decode] at h
      rw [hw] at h
      cases hb : w.getLsbD 30
      · simp only [hb, if_true, Bool.false_eq_true, if_false, reduceCtorEq] at h
      · simp only [hb, Bool.true_or, if_true]
    · have ha := agrees_word w h1 h2
      rw [h] at ha
      cases hb : bodyWord w with
      | ok b => rw [hb] at ha; exact ha.elim
      | error e' =>
        unfold runWord
        cases hv : wordFormat w with
        | none => simp [hb]
        | some f => cases f <;> first | exact absurd hv h1 | exact absurd hv h2 | simp [hb]

end Sys2Proof.Laws
end

