-- ==== Sys2Proof/Tests/Helpers.lean ====
section
/-!
SUPPORT. Helpers of the tests: what closes a premise about an option or an answer by evaluation.
-/

namespace Sys2Proof.Tests

theorem okOf {ε α : Type} [DecidableEq α] {x : Except ε α} {y : α}
    (h : (match x with | .ok z => decide (z = y) | .error _ => false) = true) : x = .ok y := by
  cases x with
  | ok z => exact congrArg _ (of_decide_eq_true h)
  | error e => exact Bool.noConfusion h

theorem errOf {ε α : Type} [DecidableEq ε] {x : Except ε α} {y : ε}
    (h : (match x with | .error z => decide (z = y) | .ok _ => false) = true) : x = .error y := by
  cases x with
  | error z => exact congrArg _ (of_decide_eq_true h)
  | ok a => exact Bool.noConfusion h

theorem noneOf {α : Type} {o : Option α} {P : α → Prop} (h : o.isNone = true) : ∀ x, o = some x → P x := by
  intro x e
  rw [e] at h
  exact Bool.noConfusion h

theorem someOf {α : Type} {o : Option α} {P : α → Prop} {y : α} (h : o = some y) (hp : P y) : ∀ x, o = some x → P x := by
  intro x e
  rw [h] at e
  exact Option.some.inj e ▸ hp

end Sys2Proof.Tests
end

