-- ==== Sys2Proof/Tests/Words.lean ====
section
/-!
SUPPORT. For every row of the opcode table that has a word, one word: the row's fixed bits, and its operands at the places
the table gives them (R34, R37, R38, R48 to R50). Each theorem takes the rows of one rule. Of the rows that share an
encoding (R306, R354, R362) the word gives the one that stands for them.
-/

namespace Sys2Proof.Tests.Words

set_option Elab.async false

/-- Whether each word decodes to its instruction. -/
noncomputable def decodes (l : List (Word × Instr)) : Bool :=
  l.all fun p => match decode p.1 with | .ok i => decide (i = p.2) | .error _ => false

theorem test_words_r106_0 : decodes
  [(0x4114551F, .vadd true 81 42 31), (0x4134551F, .vsub true 81 42 31), (0x4154551F, .vaddsI32 true 81 42 31),
   (0x4174551F, .vaddsN32 true 81 42 31), (0x4194551F, .vsubsI32 true 81 42 31), (0x41B4551F, .vsubsN32 true 81 42 31),
   (0x4814551F, .vaddS true 81 42 31), (0x4834551F, .vsubS true 81 42 31), (0x4854551F, .vaddsI32S true 81 42 31),
   (0x4874551F, .vaddsN32S true 81 42 31), (0x4894551F, .vsubsI32S true 81 42 31), (0x48B4551F, .vsubsN32S true 81 42 31),
   (0x4214551F, .vmul true 81 42 31), (0x4234551F, .vmulhI32 true 81 42 31), (0x4254551F, .vmulhN32 true 81 42 31),
   (0x4274551F, .vmad true 81 42 31)] = true := by decide +kernel

theorem test_words_r106_1 : decodes
  [(0x4294551F, .vdivI32 true 81 42 31), (0x42B4551F, .vdivN32 true 81 42 31), (0x42D4551F, .vremI32 true 81 42 31),
   (0x42F4551F, .vremN32 true 81 42 31), (0x4914551F, .vmulS true 81 42 31), (0x4934551F, .vmulhI32S true 81 42 31),
   (0x4954551F, .vmulhN32S true 81 42 31), (0x4974551F, .vmadS true 81 42 31), (0x4994551F, .vdivI32S true 81 42 31),
   (0x49B4551F, .vdivN32S true 81 42 31), (0x49D4551F, .vremI32S true 81 42 31), (0x49F4551F, .vremN32S true 81 42 31),
   (0x4314551F, .vand true 81 42 31), (0x4334551F, .vor true 81 42 31), (0x4354551F, .vxor true 81 42 31),
   (0x4374551F, .vandn true 81 42 31)] = true := by decide +kernel

theorem test_words_r106_2 : decodes
  [(0x4394551F, .vshl true 81 42 31), (0x43B4551F, .vshr true 81 42 31), (0x43D4551F, .vsra true 81 42 31),
   (0x43F4551F, .vrol true 81 42 31), (0x4A14551F, .vandS true 81 42 31), (0x4A34551F, .vorS true 81 42 31),
   (0x4A54551F, .vxorS true 81 42 31), (0x4A74551F, .vandnS true 81 42 31), (0x4A94551F, .vshlS true 81 42 31),
   (0x4AB4551F, .vshrS true 81 42 31), (0x4AD4551F, .vsraS true 81 42 31), (0x4AF4551F, .vrolS true 81 42 31),
   (0x4414551F, .vminI32 true 81 42 31), (0x4434551F, .vmaxI32 true 81 42 31), (0x4454551F, .vminN32 true 81 42 31),
   (0x4474551F, .vmaxN32 true 81 42 31)] = true := by decide +kernel

theorem test_words_r106_3 : decodes
  [(0x44945500, .vabsI32 true 81 42), (0x44B45500, .vclz true 81 42), (0x44D45500, .vpopc true 81 42),
   (0x44F45500, .vbrev true 81 42), (0x4B14551F, .vminI32S true 81 42 31), (0x4B34551F, .vmaxI32S true 81 42 31),
   (0x4B54551F, .vminN32S true 81 42 31), (0x4B74551F, .vmaxN32S true 81 42 31)] = true := by decide +kernel

theorem test_words_r107_0 : decodes
  [(0x4514551F, .vcmpEq true 81 42 31), (0x4534551F, .vcmpNe true 81 42 31), (0x4554551F, .vcmpLt true 81 42 31),
   (0x4574551F, .vcmpLe true 81 42 31), (0x4594551F, .vcmpGt true 81 42 31), (0x45B4551F, .vcmpGe true 81 42 31),
   (0x4614551F, .vcmpLo true 81 42 31), (0x4634551F, .vcmpLs true 81 42 31), (0x4654551F, .vcmpHi true 81 42 31),
   (0x4674551F, .vcmpHs true 81 42 31), (0x4C14551F, .vcmpEqS true 81 42 31), (0x4C34551F, .vcmpNeS true 81 42 31),
   (0x4C54551F, .vcmpLtS true 81 42 31), (0x4C74551F, .vcmpLeS true 81 42 31), (0x4C94551F, .vcmpGtS true 81 42 31),
   (0x4CB4551F, .vcmpGeS true 81 42 31)] = true := by decide +kernel

theorem test_words_r107_1 : decodes
  [(0x4D14551F, .vcmpLoS true 81 42 31), (0x4D34551F, .vcmpLsS true 81 42 31), (0x4D54551F, .vcmpHiS true 81 42 31),
   (0x4D74551F, .vcmpHsS true 81 42 31)] = true := by decide +kernel

theorem test_words_r108 : decodes
  [(0x4714551F, .vsel true 81 42 31), (0x47345500, .vmov true 81 42), (0x4754401F, .vmovS true 81 31),
   (0x47744000, .vtid true 81)] = true := by decide +kernel

theorem test_words_r109 : decodes
  [(0x4EA2AAA5, .vaddi true 81 42 677), (0x4FA202A5, .vmovi true 81 677), (0x50A2AAA5, .vandi true 81 42 677),
   (0x51A2AAA5, .vori true 81 42 677), (0x52A2AAA5, .vxori true 81 42 677), (0x53A2A81E, .vshli true 81 42 30),
   (0x54A2A81E, .vshri true 81 42 30), (0x55A2A81E, .vsrai true 81 42 30), (0x56A2AAA5, .vmuli true 81 42 677)] = true := by decide +kernel

theorem test_words_r110_0 : decodes
  [(0x5814551F, .vfaddF32 true 81 42 31), (0x5834551F, .vfsubF32 true 81 42 31), (0x5854551F, .vfmulF32 true 81 42 31),
   (0x58B4551F, .vfmaF32 true 81 42 31), (0x58D4551F, .vfmsF32 true 81 42 31), (0x58F4551F, .vfnmaF32 true 81 42 31),
   (0x5914551F, .vfaddF16x2 true 81 42 31), (0x5934551F, .vfsubF16x2 true 81 42 31),
   (0x5954551F, .vfmulF16x2 true 81 42 31), (0x59B4551F, .vfmaF16x2 true 81 42 31), (0x59D4551F, .vfmsF16x2 true 81 42 31),
   (0x59F4551F, .vfnmaF16x2 true 81 42 31), (0x5A14551F, .vfaddBf16x2 true 81 42 31),
   (0x5A34551F, .vfsubBf16x2 true 81 42 31), (0x5A54551F, .vfmulBf16x2 true 81 42 31),
   (0x5AB4551F, .vfmaBf16x2 true 81 42 31)] = true := by decide +kernel

theorem test_words_r110_1 : decodes
  [(0x5AD4551F, .vfmsBf16x2 true 81 42 31), (0x5AF4551F, .vfnmaBf16x2 true 81 42 31),
   (0x5B14551F, .vfaddF32S true 81 42 31), (0x5B34551F, .vfsubF32S true 81 42 31), (0x5B54551F, .vfmulF32S true 81 42 31),
   (0x5BB4551F, .vfmaF32S true 81 42 31), (0x5BD4551F, .vfmsF32S true 81 42 31), (0x5BF4551F, .vfnmaF32S true 81 42 31)] = true := by decide +kernel

theorem test_words_r111 : decodes
  [(0x5874551F, .vfminF32 true 81 42 31), (0x5894551F, .vfmaxF32 true 81 42 31), (0x5974551F, .vfminF16x2 true 81 42 31),
   (0x5994551F, .vfmaxF16x2 true 81 42 31), (0x5A74551F, .vfminBf16x2 true 81 42 31),
   (0x5A94551F, .vfmaxBf16x2 true 81 42 31), (0x5B74551F, .vfminF32S true 81 42 31), (0x5B94551F, .vfmaxF32S true 81 42 31)] = true := by decide +kernel

theorem test_words_r112_0 : decodes
  [(0x5C14551F, .vfcmpEqF32 true 81 42 31), (0x5C34551F, .vfcmpNeF32 true 81 42 31),
   (0x5C54551F, .vfcmpLtF32 true 81 42 31), (0x5C74551F, .vfcmpLeF32 true 81 42 31),
   (0x5C94551F, .vfcmpGtF32 true 81 42 31), (0x5CB4551F, .vfcmpGeF32 true 81 42 31),
   (0x5CD4551F, .vfcmpUnF32 true 81 42 31), (0x5D14551F, .vfcmpEqF16x2 true 81 42 31),
   (0x5D34551F, .vfcmpNeF16x2 true 81 42 31), (0x5D54551F, .vfcmpLtF16x2 true 81 42 31),
   (0x5D74551F, .vfcmpLeF16x2 true 81 42 31), (0x5D94551F, .vfcmpGtF16x2 true 81 42 31),
   (0x5DB4551F, .vfcmpGeF16x2 true 81 42 31), (0x5DD4551F, .vfcmpUnF16x2 true 81 42 31),
   (0x5E14551F, .vfcmpEqBf16x2 true 81 42 31), (0x5E34551F, .vfcmpNeBf16x2 true 81 42 31)] = true := by decide +kernel

theorem test_words_r112_1 : decodes
  [(0x5E54551F, .vfcmpLtBf16x2 true 81 42 31), (0x5E74551F, .vfcmpLeBf16x2 true 81 42 31),
   (0x5E94551F, .vfcmpGtBf16x2 true 81 42 31), (0x5EB4551F, .vfcmpGeBf16x2 true 81 42 31),
   (0x5ED4551F, .vfcmpUnBf16x2 true 81 42 31)] = true := by decide +kernel

theorem test_words_r113 : decodes
  [(0x5F145500, .vfclassF32 true 81 42), (0x5F345500, .vfclassF16x2 true 81 42), (0x5F545500, .vfclassBf16x2 true 81 42)] = true := by decide +kernel

theorem test_words_r123 : decodes
  [(0x60145500, .vrcp true 81 42), (0x60345500, .vrsq true 81 42), (0x60545500, .vsqrt true 81 42),
   (0x60745500, .vexp2 true 81 42), (0x60945500, .vlog2 true 81 42), (0x60B45500, .vsin true 81 42),
   (0x60D45500, .vcos true 81 42), (0x60F45500, .vtanh true 81 42), (0x6114551F, .vfdivF32 true 81 42 31),
   (0x6134551F, .vfdivF32S true 81 42 31)] = true := by decide +kernel

theorem test_words_r128 : decodes
  [(0x62145500, .vcvt true 81 42 0), (0x62545500, .vcvtSat true 81 42 0)] = true := by decide +kernel

theorem test_words_r130 : decodes
  [(0x62345508, .vcvtSr true 81 42 8), (0x62745508, .vcvtSatSr true 81 42 8)] = true := by decide +kernel

theorem test_words_r293 : decodes
  [(0x63145500, .vqblkE2m1x true 81 42), (0x63345500, .vqblkE4m3 true 81 42), (0x63545500, .vqblkE5m2 true 81 42)] = true := by decide +kernel

theorem test_words_r292 : decodes
  [(0x64144000, .vpopa true 81)] = true := by decide +kernel

theorem test_words_r117 : decodes
  [(0x6814551F, .vshflIdx true 81 42 31), (0x6834551F, .vshflUp true 81 42 31), (0x6854551F, .vshflDown true 81 42 31),
   (0x6874551F, .vshflXor true 81 42 31)] = true := by decide +kernel

theorem test_words_r119 : decodes
  [(0x6914551E, .vperm8Lo true 81 42 30), (0x6934551E, .vperm8Hi true 81 42 30)] = true := by decide +kernel

theorem test_words_r118 : decodes
  [(0x6A14551F, .vbcast true 81 42 31), (0x6B14551F, .vext true 81 42 31)] = true := by decide +kernel

theorem test_words_r120 : decodes
  [(0x6C145500, .vlredAddI32 true 81 42), (0x6C345500, .vlredMinI32 true 81 42), (0x6C545500, .vlredMaxI32 true 81 42),
   (0x6C745500, .vlredMinN32 true 81 42), (0x6C945500, .vlredMaxN32 true 81 42), (0x6CB45500, .vlredFaddF32 true 81 42),
   (0x6CD45500, .vlredFminF32 true 81 42), (0x6CF45500, .vlredFmaxF32 true 81 42), (0x6D145500, .vscanAddI32 true 81 42),
   (0x6D345500, .vscanMinI32 true 81 42), (0x6D545500, .vscanMaxI32 true 81 42), (0x6D745500, .vscanMinN32 true 81 42),
   (0x6D945500, .vscanMaxN32 true 81 42), (0x6DB45500, .vscanFaddF32 true 81 42), (0x6DD45500, .vscanFminF32 true 81 42),
   (0x6DF45500, .vscanFmaxF32 true 81 42)] = true := by decide +kernel

theorem test_words_r122 : decodes
  [(0x6E144003, .voteAny true 81 0 3), (0x6E344003, .voteAll true 81 0 3), (0x6E544003, .voteBallot true 81 0 3),
   (0x6F144003, .vfirst true 81 0 3)] = true := by decide +kernel

theorem test_words_r145 : decodes
  [(0x70A2AAA9, .vld true 81 42 5 .b4 9), (0x71A2AA99, .vlds true 81 42 5 .b2 9), (0x72A2AAA9, .vst true 81 42 5 .b4 9)] = true := by decide +kernel

theorem test_words_r190_0 : decodes
  [(0x73A2AAA0, .vatomAdd true 81 42 5 .b4), (0x73A2AAA1, .vatomSub true 81 42 5 .b4),
   (0x73A2AAA2, .vatomMinI true 81 42 5 .b4), (0x73A2AAA3, .vatomMaxI true 81 42 5 .b4),
   (0x73A2AAA4, .vatomMinN true 81 42 5 .b4), (0x73A2AAA5, .vatomMaxN true 81 42 5 .b4),
   (0x73A2AAA6, .vatomAnd true 81 42 5 .b4), (0x73A2AAA7, .vatomOr true 81 42 5 .b4),
   (0x73A2AAA8, .vatomXor true 81 42 5 .b4), (0x73A2AAA9, .vatomXchg true 81 42 5 .b4),
   (0x73A2AAAA, .vatomCas true 81 42 5 .b4), (0x73A2AAAB, .vatomFadd true 81 42 5 .b4),
   (0x73A2AAAC, .vatomFmin true 81 42 5 .b4), (0x73A2AAAD, .vatomFmax true 81 42 5 .b4),
   (0x73A2AAAE, .vatomAddBf16x2 true 81 42 5 .b4), (0x74A2AAA0, .vredAdd true 81 42 5 .b4)] = true := by decide +kernel

theorem test_words_r190_1 : decodes
  [(0x74A2AAA1, .vredSub true 81 42 5 .b4), (0x74A2AAA2, .vredMinI true 81 42 5 .b4),
   (0x74A2AAA3, .vredMaxI true 81 42 5 .b4), (0x74A2AAA4, .vredMinN true 81 42 5 .b4),
   (0x74A2AAA5, .vredMaxN true 81 42 5 .b4), (0x74A2AAA6, .vredAnd true 81 42 5 .b4),
   (0x74A2AAA7, .vredOr true 81 42 5 .b4), (0x74A2AAA8, .vredXor true 81 42 5 .b4),
   (0x74A2AAAB, .vredFadd true 81 42 5 .b4), (0x74A2AAAC, .vredFmin true 81 42 5 .b4),
   (0x74A2AAAD, .vredFmax true 81 42 5 .b4), (0x74A2AAAE, .vredAddBf16x2 true 81 42 5 .b4),
   (0xE3A2AAA0, .satomAdd true 81 42 5 .b4), (0xE3A2AAA1, .satomSub true 81 42 5 .b4),
   (0xE3A2AAA2, .satomMinI true 81 42 5 .b4), (0xE3A2AAA3, .satomMaxI true 81 42 5 .b4)] = true := by decide +kernel

theorem test_words_r190_2 : decodes
  [(0xE3A2AAA4, .satomMinN true 81 42 5 .b4), (0xE3A2AAA5, .satomMaxN true 81 42 5 .b4),
   (0xE3A2AAA6, .satomAnd true 81 42 5 .b4), (0xE3A2AAA7, .satomOr true 81 42 5 .b4),
   (0xE3A2AAA8, .satomXor true 81 42 5 .b4), (0xE3A2AAA9, .satomXchg true 81 42 5 .b4),
   (0xE3A2AAAA, .satomCas true 81 42 5 .b4), (0xE3A2AAAB, .satomFadd true 81 42 5 .b4),
   (0xE3A2AAAC, .satomFmin true 81 42 5 .b4), (0xE3A2AAAD, .satomFmax true 81 42 5 .b4),
   (0xE3A2AAAE, .satomAddBf16x2 true 81 42 5 .b4)] = true := by decide +kernel

theorem test_words_r78 : decodes
  [(0xC0000000, .nop true), (0xC0200000, .yield true), (0xC0400000, .exit true)] = true := by decide +kernel

theorem test_words_r79_0 : decodes
  [(0xC114551F, .sadd true 81 42 31), (0xC134551F, .ssub true 81 42 31), (0xC154551F, .saddsI64 true 81 42 31),
   (0xC174551F, .saddsN64 true 81 42 31), (0xC194551F, .ssubsI64 true 81 42 31), (0xC1B4551F, .ssubsN64 true 81 42 31),
   (0xC214551F, .smul true 81 42 31), (0xC234551F, .smulhI64 true 81 42 31), (0xC254551F, .smulhN64 true 81 42 31),
   (0xC294551F, .sdivI64 true 81 42 31), (0xC2B4551F, .sdivN64 true 81 42 31), (0xC2D4551F, .sremI64 true 81 42 31),
   (0xC2F4551F, .sremN64 true 81 42 31), (0xC314551F, .sand true 81 42 31), (0xC334551F, .sor true 81 42 31),
   (0xC354551F, .sxor true 81 42 31)] = true := by decide +kernel

theorem test_words_r79_1 : decodes
  [(0xC374551F, .sandn true 81 42 31), (0xC394551F, .sshl true 81 42 31), (0xC3B4551F, .sshr true 81 42 31),
   (0xC3D4551F, .ssra true 81 42 31), (0xC3F4551F, .srol true 81 42 31), (0xC414551F, .sminI64 true 81 42 31),
   (0xC434551F, .smaxI64 true 81 42 31), (0xC454551F, .sminN64 true 81 42 31), (0xC474551F, .smaxN64 true 81 42 31),
   (0xC4945500, .sabsI64 true 81 42), (0xC4B45500, .sclz true 81 42), (0xC4D45500, .spopc true 81 42),
   (0xC4F45500, .sbrev true 81 42)] = true := by decide +kernel

theorem test_words_r80 : decodes
  [(0xC514551F, .scmpEq true 81 42 31), (0xC534551F, .scmpNe true 81 42 31), (0xC554551F, .scmpLt true 81 42 31),
   (0xC574551F, .scmpLe true 81 42 31), (0xC594551F, .scmpGt true 81 42 31), (0xC5B4551F, .scmpGe true 81 42 31),
   (0xC614551F, .scmpLo true 81 42 31), (0xC634551F, .scmpLs true 81 42 31), (0xC654551F, .scmpHi true 81 42 31),
   (0xC674551F, .scmpHs true 81 42 31), (0xC7145500, .smov true 81 42), (0xC734551F, .scsel true 81 42 31)] = true := by decide +kernel

theorem test_words_r81 : decodes
  [(0xC8A2AAA5, .saddi true 81 42 677), (0xC9A2AAA5, .sandi true 81 42 677), (0xCAA2AAA5, .sori true 81 42 677),
   (0xCBA2AAA5, .sxori true 81 42 677), (0xCCA2A825, .sshli true 81 42 37), (0xCDA2A825, .sshri true 81 42 37),
   (0xCEA2A825, .ssrai true 81 42 37), (0xCFA202A5, .smovi true 81 677)] = true := by decide +kernel

theorem test_words_r82 : decodes
  [(0xD014551F, .mand true 81 42 31), (0xD034551F, .mor true 81 42 31), (0xD054551F, .mxor true 81 42 31),
   (0xD074551F, .mandn true 81 42 31), (0xD0945500, .mnot true 81 42), (0xD0B45500, .mpopc true 81 42),
   (0xD0D45500, .mffs true 81 42), (0xD0F45500, .mfls true 81 42), (0xD1144000, .mffNv true 81 false),
   (0xD1344000, .mffDz true 81 false), (0xD1544000, .mffOf true 81 false), (0xD1744000, .mffUf true 81 false),
   (0xD1944000, .mffNx true 81 false), (0xD1A01500, .mffclr true 42 false)] = true := by decide +kernel

theorem test_words_r44 : decodes
  [(0x9696C000, .rep 37 2 3 0)] = true := by decide +kernel

theorem test_words_r45 : decodes
  [(0x978000FF, .limm 8388863)] = true := by decide +kernel

theorem test_words_r83 : decodes
  [(0xD88000FF, .br true 8388863), (0xD98000FF, .call true 8388863), (0xDA55F00F, .bz true 42 126991),
   (0xDB55F00F, .bnz true 42 126991), (0xDC55F00F, .bmz true 42 126991), (0xDD55F00F, .bmnz true 42 126991)] = true := by decide +kernel

theorem test_words_r84 : decodes
  [(0xDE001500, .jr true 42), (0xDE345500, .jalr true 81 42)] = true := by decide +kernel

theorem test_words_r85 : decodes
  [(0xE0A2AAA9, .sld true 81 42 5 .b4 9), (0xE1A2AAA9, .slds true 81 42 5 .b4 9), (0xE2A2AAA9, .sst true 81 42 5 .b4 9)] = true := by decide +kernel

theorem test_words_r149 : decodes
  [(0xE401551F, .hflush true 5 42 31), (0xE421551F, .hinval true 5 42 31)] = true := by decide +kernel

theorem test_words_r347 : decodes
  [(0xE5082060, .sysr true 130 3), (0xE5082061, .sysw true 130 3)] = true := by decide +kernel

theorem test_words_r354 : decodes
  [(0xE6001500, .trap true 42), (0xE6201500, .tretResume true 42), (0xE6201500, .tretResume true 42),
   (0xE6201500, .tretResume true 42), (0xE6400000, .brk true)] = true := by decide +kernel

theorem test_words_r357 : decodes
  [(0xE7015505, .segld true 5 42 5)] = true := by decide +kernel

theorem test_words_r358 : decodes
  [(0xE720151F, .tlbinv true 42 31), (0xE7400000, .tlbsync true)] = true := by decide +kernel

theorem test_words_r360 : decodes
  [(0xE774551F, .ctxsave true 81 42 31), (0xE794551F, .ctxrest true 81 42 31)] = true := by decide +kernel

theorem test_words_r208 : decodes
  [(0xEAAA8FC5, .cpy true 2 5 42 31 69)] = true := by decide +kernel

theorem test_words_r217 : decodes
  [(0xEEAA8FC5, .cpyMc true 2 5 42 31 69)] = true := by decide +kernel

theorem test_words_r220 : decodes
  [(0xF0AA8F81, .cpyRow true 5 42 31 1)] = true := by decide +kernel

theorem test_words_r221 : decodes
  [(0xF1A00003, .cpyClose true 5 3)] = true := by decide +kernel

theorem test_words_r213 : decodes
  [(0xF20000FE, .kwait true 254)] = true := by decide +kernel

theorem test_words_r214 : decodes
  [(0xF2A2AA05, .kwaitObj true 81 42 5)] = true := by decide +kernel

theorem test_words_r215 : decodes
  [(0xF30A0009, .qfence true 5 9)] = true := by decide +kernel

theorem test_words_r216 : decodes
  [(0xF414551F, .mcready true 81 42 31)] = true := by decide +kernel

theorem test_words_r231 : decodes
  [(0xF514551F, .preserve true 81 42 31)] = true := by decide +kernel

theorem test_words_r232 : decodes
  [(0xF520001F, .pcommit true 31)] = true := by decide +kernel

theorem test_words_r233 : decodes
  [(0xF554551F, .pclaim true 81 42 31)] = true := by decide +kernel

theorem test_words_r234 : decodes
  [(0xF560001F, .prelease true 31)] = true := by decide +kernel

theorem test_words_r235 : decodes
  [(0xF5945500, .pquery true 81 42)] = true := by decide +kernel

theorem test_words_r259 : decodes
  [(0xF600151F, .send true 42 31), (0xF634551F, .sendw true 81 42 31)] = true := by decide +kernel

theorem test_words_r261 : decodes
  [(0xF6545500, .pportq true 81 42)] = true := by decide +kernel

theorem test_words_r262 : decodes
  [(0xF6601500, .jen true 42), (0xF6801500, .jdis true 42)] = true := by decide +kernel

theorem test_words_r195 : decodes
  [(0xF701551F, .barArr true 5 42 31), (0xF721551F, .barWait true 5 42 31), (0xF7415500, .barArw true 5 42)] = true := by decide +kernel

theorem test_words_r200 : decodes
  [(0xF7744F00, .abarArr true 81 30), (0xF7800F1F, .abarWait true 30 31), (0xF7B44F1F, .abarTest true 81 30 31)] = true := by decide +kernel

theorem test_words_r283 : decodes
  [(0xF8AA8FC5, .mma true 5 42 31 69), (0xF9AA8FC5, .mmaSp true 5 42 31 69)] = true := by decide +kernel

theorem test_words_r291 : decodes
  [(0xFAA00000, .mzero true 5), (0xFAA00001, .mrows true 5), (0xFAAA8002, .mldacc true 5 42),
   (0xFAAA8F83, .mstacc true 5 42 31)] = true := by decide +kernel

theorem test_words_r296 : decodes
  [(0xFBAA8FC5, .mvm true 5 42 31 69)] = true := by decide +kernel

theorem test_words_r305 : decodes
  [(0xFC145505, .planLd true 81 42 5)] = true := by decide +kernel

theorem test_words_r306 : decodes
  [(0xFC34551F, .planGoStart true 81 42 31)] = true := by decide +kernel

theorem test_words_r318 : decodes
  [(0xFC34551F, .planGoStart true 81 42 31)] = true := by decide +kernel

theorem test_words_r319 : decodes
  [(0xFC34551F, .planGoStart true 81 42 31)] = true := by decide +kernel

theorem test_words_r307 : decodes
  [(0xFC34551F, .planGoStart true 81 42 31)] = true := by decide +kernel

theorem test_words_r309 : decodes
  [(0xFC40151F, .spawn true 42 31)] = true := by decide +kernel

theorem test_words_r337 : decodes
  [(0xFD14551F, .pvalloc true 81 42 31), (0xFD345500, .pvfree true 81 42)] = true := by decide +kernel

theorem test_words_r338 : decodes
  [(0xFD545500, .pvq true 81 42)] = true := by decide +kernel

end Sys2Proof.Tests.Words
end

