-- ==== Sys2Proof/Tests/Slice0.lean ====
section
/-!
SUPPORT. The author's tests: a well-formed and an ill-formed term for each check of `wellFormed`, words that the decoder
refuses, the words and the worked examples that the spec's chapters give, and the state after reset. Every expected
value stands in the spec; each test's comment says where.
-/

namespace Sys2Proof.Tests.Slice0

open Sys2Proof.Machine

set_option Elab.async false

/-! Well-formedness: each check refuses a term (R35, R36, R112, R119, R121, R132, R347). -/

theorem test_wf_pair : Instr.wellFormed (.vfcmpEqF16x2 false 127 2 3) = false ∧ Instr.wellFormed (.vfcmpEqF16x2 false 126 2 3) = true := by
  decide +kernel
theorem test_wf_convert : Instr.wellFormed (.vcvt false 4 2 0x02) = false ∧ Instr.wellFormed (.vcvt false 4 2 0x01) = true := by decide +kernel
theorem test_wf_stochastic : Instr.wellFormed (.vcvtSr false 4 2 0x48) = false ∧ Instr.wellFormed (.vcvtSr false 4 2 0x08) = true := by
  decide +kernel
theorem test_wf_table : Instr.wellFormed (.vperm8Lo false 4 2 3) = false ∧ Instr.wellFormed (.vperm8Lo false 4 2 126) = true := by decide +kernel
theorem test_wf_vote : Instr.wellFormed (.voteAny false 4 2 6) = false ∧ Instr.wellFormed (.voteAny false 4 1 5) = false
    ∧ Instr.wellFormed (.voteAny false 4 0 5) = true ∧ Instr.wellFormed (.voteAny false 4 2 0) = true := by decide +kernel
theorem test_wf_size : Instr.wellFormed (.vlds false 4 2 1 .b4 0) = false ∧ Instr.wellFormed (.vlds false 4 2 1 .b2 0) = true
    ∧ Instr.wellFormed (.slds false 4 2 1 .b8 0) = false ∧ Instr.wellFormed (.slds false 4 2 1 .b4 0) = true := by decide +kernel
theorem test_wf_op : Instr.wellFormed (.vatomAdd false 4 2 1 .b2) = false ∧ Instr.wellFormed (.vatomFadd false 4 2 1 .b8) = false
    ∧ Instr.wellFormed (.satomAdd false 4 2 1 .b8) = true := by decide +kernel
theorem test_wf_sysw : Instr.wellFormed (.sysw false 0x001 4) = false ∧ Instr.wellFormed (.sysw false 0x000 4) = true := by decide +kernel

/-! Words that name no instruction are refused by name (R33 to R37, R42, R47 to R50, R112, R119, R121). -/

/-- What the decoder says of a refused word. -/
noncomputable def refused (w : Word) : Option DecodeError := match decode w with | .ok _ => none | .error e => some e

theorem test_refused_major : refused 0xBF000000 = some .unassignedMajor ∧ refused 0 = some .unassignedMajor := by decide +kernel
theorem test_refused_field : refused 0xA7200205#32 = none ∧ refused 0xA6000481#32 = some .reservedField := by decide +kernel
theorem test_refused_size : refused 0x30000050 = some .reservedSize := by decide +kernel
theorem test_refused_prefix : refused 0xD61D4000 = some .prefixMarker := by decide +kernel

/-! Words that the chapters work out bit by bit. -/

/-- R37 and R50's words in the pipeline program (its table of selected words). -/
theorem test_words_pipeline : Words.decodes
    [(0x96264000, .rep 9 2 1 0), (0xE028A140, .sld true 20 40 2 .b16 0), (0xB80A19B4, .mma false 0 40 51 52),
     (0xBA0D5B03, .mstacc false 0 53 54), (0xB274DA01, .kwaitObj false 58 54 1), (0xB50EC837, .preserve false 59 16 55),
     (0xB560000A, .prelease false 10), (0x6CA14100, .vlredFaddF32 true 5 2), (0x07018294, .vsel false 6 5 20)] = true := by decide +kernel

/-- The words worked beside R83, R112, R131, R145, R188, R195, R246, R259, R293, R337 and R338. -/
theorem test_words_chapters : Words.decodes
    [(0x18A0C082, .vfmaF32 false 3 1 2), (0x18410082, .vfmulF32 false 4 1 2), (0x18010206, .vfaddF32 false 4 4 6),
     (0x1901C409, .vfaddF16x2 false 7 8 9), (0x22224208, .vcvtSr false 9 4 8), (0x30180CA2, .vld false 12 3 1 .b4 2),
     (0x7310112B, .vatomFadd true 8 4 2 .b4), (0x23050400, .vqblkE2m1x false 20 8), (0xB6000F20, .send false 30 32),
     (0xB6414F00, .pportq false 5 30), (0xBD0C9429, .pvalloc false 50 40 41), (0xFD4D1580, .pvq true 52 43),
     (0xB7404200, .barArw false 1 4)] = true := by decide +kernel

/-! Worked examples. -/

/-- Group 0 with all 64 threads active and these vector and scalar registers. -/
def group0 (v : List (Nat × Lanes)) (s : List (Nat × Dword)) : State :=
  { groups := [(0, { budget := 32, v := v, s := (s ++ [(126, BitVec.allOnes 64)]) })] }
/-- The state an instruction answers. -/
def after (o : Out) : State := match o with | .next t => t | _ => State.reset

/-- R110: v1 × v2 − 1 in one rounding is −2⁻⁴⁶, exactly. -/
def fused : State := after (execVfmaF32 false 3 1 2 (group0 [(1, [0x3F800001]), (2, [0x3F7FFFFE]), (3, [0xBF800000])] []))
theorem test_vfma : fused.me.getV 3 0 = 0xA8800000 ∧ fused.me.ff.nx = 0 := by decide +kernel
/-- R110: the product alone rounds to 1.0 with NX, and 1.0 − 1.0 is +0. -/
def product : State := after (execVfmulF32 false 4 1 2 (group0 [(1, [0x3F800001]), (2, [0x3F7FFFFE]), (6, [0xBF800000])] []))
theorem test_vfmul : product.me.getV 4 0 = 0x3F800000 ∧ product.me.ff.nx = 1 ∧ product.me.ff.nv = 0 := by decide +kernel
theorem test_vfadd : (after (execVfaddF32 false 4 4 6 product)).me.getV 4 0 = 0 := by decide +kernel
/-- R100: 65,504 + 32 overflows in FP16 in every mode. -/
def packed (rm : Dword) : State :=
  let s := group0 [(8, [0x7BFF3C00]), (9, [0x50003C00])] []
  after (execVfaddF16x2 false 7 8 9 (s.setMe { s.me with fpctl := rm }))
theorem test_packed_nearest : (packed 0).me.getV 7 0 = 0x7C004000 ∧ (packed 0).me.ff.of = 1 ∧ (packed 0).me.ff.nx = 1 := by decide +kernel
theorem test_packed_zero : (packed 1).me.getV 7 0 = 0x7BFF4000 ∧ (packed 2).me.getV 7 0 = 0x7C004000 ∧ (packed 3).me.getV 7 0 = 0x7BFF4000 := by
  decide +kernel
/-- R131: seeded with zero, G[0] is 0x9E3779B9, then r = 0x510C4619; 1 + 5 × 2⁻¹⁰ goes down to 1.0. -/
def seeded : State := after (execSrseedWrite false 5 (group0 [(4, [0x3F80A000]), (9, [0x12345678])] []))
def rounded : State := after (execVcvtSr false 9 4 8 seeded)
theorem test_srseed : seeded.me.gen.getD 0 0 = 0x9E3779B9 := by decide +kernel
theorem test_vcvtSr : rounded.me.getV 9 0 = 0x12343F80 ∧ rounded.me.gen.getD 0 0 = 0x510C4619 ∧ rounded.me.ff.nx.getLsbD 0 = true := by
  decide +kernel
/-- R128: the same without .sr rounds up. -/
theorem test_vcvt : (after (execVcvt false 9 4 8 (group0 [(4, [0x3F80A000]), (9, [0x12345678])] []))).me.getV 9 0 = 0x12343F81 := by
  decide +kernel
/-- R84, beside R42: thread 63's access ends at 516, past the limit of 508: nothing is loaded, and without thread 63 the
load issues. -/
def gathering (xm : Dword) : State :=
  let s := group0 [(3, (List.range 64).map fun t => BitVec.ofNat 32 (8 * t))] []
  s.setMe { s.me with s := [(126, xm)], segs := [(1, ⟨0x20000, 0x1FC, true, true, false, 1⟩)] }
theorem test_vld_limit : (gathering (BitVec.allOnes 64)).checkAccess 0 {} 1 ⟨0x20000, 0x1FC, true, true, false, 1⟩ { r := true } (some 63) 512 4
    = .error { kind := 4, thread := some 63, seg := some 1, offset := 512 } := errOf (by decide +kernel)
theorem test_vld : ((after (execVld false 12 3 1 .b4 2 (gathering (2 ^ 63 - 1)))).me.out.map fun p => p.todo.length) = [63] := by decide +kernel
/-- R185: the order of the threads of one target, each step rounded: A ends at 0x3F800002. -/
def adds (old : Nat) (l : List Nat) : List Nat := (l.foldl (fun p x => (atomStep .fadd 4 p.1 x 0, p.1 :: p.2)) (old, [])).2.reverse
theorem test_vatomFadd : adds 0x3F800000 [0x33800000, 0x34000000, 0x33800000, 0x33800000, 0]
    = [0x3F800000, 0x3F800000, 0x3F800001, 0x3F800002, 0x3F800002] := by decide +kernel
/-- R268: the first elements of A row 0 of the worked block (S = 0x7E, X = 0x52): 5, 3 and −3. -/
theorem test_e2m1x : (e2m1x 0x7E 0x52 8, e2m1x 0x7E 0x52 7, e2m1x 0x7F 0x7F 8).2.2.isNan = true
    ∧ acc16 0 [(e2m1x 0x7E 0x52 8, e2m1x 0x81 0 2), (e2m1x 0x7E 0x52 7, e2m1x 0x81 0 8), (e2m1x 0x7E 0x52 15, e2m1x 0x81 0 5)] = 0xC1800000 := by
  decide +kernel
/-- R273: a sum of 4.5 u above 1 ties to even, and 5.5 u too. -/
def bf (x : Nat) : Fp := unpack fmtBF16 x
theorem test_acc16 : acc16 0x3F800000 (List.replicate 16 (bf 0x3980, bf 0x3900)) = 0x3F800004
    ∧ acc16 0x3F800004 [(bf 0x3980, bf 0x3980)] = 0x3F800004 ∧ acc16 0x3F800005 [(bf 0x3980, bf 0x3980)] = 0x3F800006 := by decide +kernel
/-- R274: ±448² × 2²⁵⁴ in one group cancel; alone, one of them overflows. -/
theorem test_acc16_cancels : (let x := scaleBy 0xFE (unpack fmtE4M3 0x7E); let y := scaleBy 0xFE (unpack fmtE4M3 0xFE)
    (acc16 0x3F800000 [(x, x), (y, x)], acc16 0x3F800000 [(x, x)])) = (0x3F800000, 0x7F800000) := by decide +kernel
/-- R294: 10, 3 and −1.2 in threads 0 to 2 quantise to the words 0x0938 and 0x4A80, with NX in thread 2 only. -/
def block : State := after (execVqblkE2m1x false 20 8 { group0 [(8, [0x41200000, 0x40400000, 0xBF99999A])] [] with tasks := [(0, { plan := 0, stage := 0, die := 0, tiles := 1 })] })
theorem test_vqblk : ((block.me.out.flatMap fun p => p.writes).filter fun w => decide (w = .v 20 0 0x0938) || decide (w = .v 20 4 0x4A80)).length = 2
    ∧ (block.me.out.map fun p => p.ff.nx) = [4] := by decide +kernel
/-- Switch 17 answers the instruction that group 0 has outstanding. -/
def atSwitch (o : Host.Outcome State Fault Refusal) : State :=
  after (execLoadResultReturn 0 0 0 { after o with uals := [(17, { trained := true, serve := true, flights := [(.access 0 (pavAddr 17 0 / 64), 0, 145)], txSeq := 1 })] })
/-- R337: with granules 0 to 5, 9 and 20 taken, three granules start at 6. -/
def tenant9 : State :=
  { groups := [(0, { budget := 8, plan := 1, task := 1, s := [(40, 0x500000), (41, 17)] })], plans := [(1, { state := .running, tenant := 9 })]
    switches := [(17, { limit := [(9, 4)], allocs := [⟨0, 6, 3⟩, ⟨9, 1, 3⟩, ⟨20, 1, 9⟩] })] }
theorem test_pvalloc : ((atSwitch (execPvalloc false 50 40 41 tenant9)).me.out.flatMap fun p => p.writes) = [.s 50 0x00C0088000C00000, .s 51 0] := by
  decide +kernel
/-- R338: LARGEST, 0x3FFEB, is the run from 21 to the end; it stands at bits 59 to 40 (log 52). -/
def tenant9b : State := let s := atSwitch (execPvalloc false 50 40 41 tenant9); s.setMe { s.me with s := [(43, 17)], out := [] }
theorem test_pvq : ((atSwitch (execPvq true 52 43 tenant9b)).me.out.flatMap fun p => p.writes).getLast? = some (.s 52 0x03FFEB0000400004) := by
  decide +kernel

/-- R262: the register value of port 100 of die 2 of device 5 after step 8 of the worked join. -/
def port100 : State :=
  let s : State := { groups := [(0, { budget := 8, plan := 1, task := 1, s := [(30, 0x02900064)] })], plans := [(1, { state := .running })]
                     tasks := [(1, { plan := 1, stage := 0, die := 2, running := true, groups := [0], live := [0] })]
                     ports := [(2 * 8192 + 100, { plan := 1, depth := 1, msgs := [⟨0, 0, 0, 0⟩], waiters := [⟨9, ⟨0, 0, 0, 0⟩, true⟩] })] }
  s.setReg 16 .devId 5
theorem test_pportq : ((after (execLoadResultReturn 0 0 0 (after (execPportq false 5 30 port100)))).me.out.flatMap fun p => p.writes)
    = [.s 5 0xFFA02081] := by decide +kernel

/-! Control flow and scalars: hand calculation from R79 to R84. -/

theorem test_saddi : (after (execSaddi false 10 2 0x3FF (group0 [] [(2, 0)]))).me.getS 10 = BitVec.allOnes 64 := by decide +kernel
theorem test_br : (after (execBr false 0xFFFFFF (group0 [] []))).me.pc = 2 ^ 64 - 4 := by decide +kernel
theorem test_jr_misaligned : ((after (execJr false 2 (group0 [] [(2, 6)]))).die 0).doubleFaults = [0] := by decide +kernel

/-! Reset and the first instruction (R348, R371; log 6). -/

theorem test_reset_memory : Memory.wf State.reset.mem = true ∧ State.reset.mem = [] := by decide +kernel
theorem test_reset_cp : (State.reset.group (cpGid 16)).pc = 0x40000 ∧ State.reset.cur = cpGid 16 := by decide +kernel
theorem test_first_word : (match step (State.reset.withFetchWord 32 0xA4000000) with
    | .next t => (t.group 0).pc == 6 * 4096 + 4 && (t.group 0).instret == 1 | _ => false) = true := by decide +kernel
theorem test_table_word : (match decodeTableWord 32 0xC0000000 with | some i => decide (i = .nop true) | none => false) = true := by decide +kernel

/-! Memory (R160). -/

theorem test_memory_write_zero : Memory.wf (memWrite (memWrite [] 8 [1, 2, 3]) 9 [0]) = true ∧ memWrite (memWrite [] 8 [1, 2, 3]) 9 [0] = [⟨8, 1⟩, ⟨10, 3⟩] := by
  decide +kernel

end Sys2Proof.Tests.Slice0
end

