-- ==== Sys2Proof/Tests/WitnessAccess.lean ====
section
/-!
SUPPORT. Witnesses: for every statement on loads, stores, atomics, host synchronisation, control space and barriers at issue, and for `limm`, a small state in which its premises hold.
-/

namespace Sys2Proof.Tests.WitnessAccess

open Sys2Proof.Machine Sys2Proof.Rules

set_option Elab.async false

/-- What the statements say of an access that issues. -/
def Queues (m : Bool) (s : State) (p : Pending) : State := finished s m (s.me.pc + 4) (queued s.me { p with pc := s.me.pc })

def LoadsLanes (i : Instr) (s u : State) : Prop :=
  ∃ m d a g z e sg P, LaneLoad i m d a g z e sg ∧ LaneReady s [a] ∧ HasRoom s ∧ DatumReady s d z.bytes
    ∧ Checked s g { r := true } (fun t => laneOff s a t z.bytes e) z.bytes P
    ∧ u = Queues m s { pc := 0, seg := some g.toNat, lanes := true, result := true, dest := .lane d.toNat z.bytes sg, todo := (active s.me).flatMap fun t => (P t).map .load }
def StoresLanes (i : Instr) (s u : State) : Prop :=
  ∃ m d a g z e P, i = .vst m d a g z e ∧ LaneReady s [a] ∧ DatumReady s d z.bytes
    ∧ Checked s g { w := true } (fun t => laneOff s a t z.bytes e) z.bytes P
    ∧ u = Queues m s { pc := 0, seg := some g.toNat, lanes := true, todo := (active s.me).flatMap fun t => stores (laneBytes s d t z.bytes) (P t) }
def AccessFaults (i : Instr) (s u : State) : Prop :=
  ∃ chk t x, ∃ P : Nat → List Piece, LaneAccess s i chk ∧ t ∈ active s.me ∧ chk t = .error x
    ∧ (∀ v ∈ active s.me, v < t → chk v = .ok (P v)) ∧ u = s.takeTrap s.cur (some x)
def LoadsScalar (i : Instr) (s u : State) : Prop :=
  ∃ m d a g z e sg ps, ScalarLoad i m d a g z e sg ∧ Issuing s ∧ HasRoom s ∧ NoRegisters s g ∧ (z.bytes = 16 → d.toNat % 2 = 0)
    ∧ ScalarChecked s g { r := true } (scalarOff s a z.bytes e) z.bytes ps
    ∧ u = Queues m s { pc := 0, seg := some g.toNat, result := true, dest := .scalar d.toNat z.bytes sg, todo := ps.map .load }
def StoresScalar (i : Instr) (s u : State) : Prop :=
  ∃ m d a g z e ps, i = .sst m d a g z e ∧ Issuing s ∧ NoRegisters s g ∧ (z.bytes = 16 → d.toNat % 2 = 0)
    ∧ ScalarChecked s g { w := true } (scalarOff s a z.bytes e) z.bytes ps
    ∧ u = Queues m s { pc := 0, seg := some g.toNat, todo := stores (scalarBytes s d z.bytes) ps }
def AtomLanes (i : Instr) (s u : State) : Prop :=
  ∃ m d a g z op ret, ∃ P : Nat → List Piece, LaneAtomic i m d a g z op ret ∧ LaneReady s [a] ∧ AtomReady s op d a z.bytes ∧ (z = .b4 ∨ z = .b8)
    ∧ ((segOf s g).space = 0 → z = .b4) ∧ (ret = true → HasRoom s) ∧ (∀ t ∈ active s.me, (s.me.getV a.toNat t).toNat % z.bytes = 0)
    ∧ Checked s g { r := ret, w := true, atomic := true } (fun t => un (s.me.getV a.toNat t)) z.bytes P
    ∧ u = Queues m s { pc := 0, seg := some g.toNat, lanes := true, result := ret, atomic := true, dest := if ret then .lane d.toNat z.bytes false else .none, todo := requestsOf s op d a g z.bytes P }
def AtomScalar (i : Instr) (s u : State) : Prop :=
  ∃ m d a g z op ps, ScalarAtomic i m d a g z op ∧ Issuing s ∧ HasRoom s ∧ NoRegisters s g ∧ (z = .b4 ∨ z = .b8)
    ∧ ((segOf s g).space = 0 → z = .b4) ∧ (op = .cas → d.toNat ≤ 126) ∧ (s.me.getS a.toNat).toNat % z.bytes = 0
    ∧ ScalarChecked s g { r := true, w := true, atomic := true } (un (s.me.getS a.toNat)) z.bytes ps
    ∧ u = Queues m s { pc := 0, seg := some g.toNat, result := true, atomic := true, dest := .scalar d.toNat z.bytes (decide (op = .minS ∨ op = .maxS)), todo := [.atomic op z.bytes ps [(0, (s.me.getS d.toNat).toNat % 2 ^ (8 * z.bytes), (s.me.getS (d.toNat + 1)).toNat % 2 ^ (8 * z.bytes))]] }
def SyncsHost (i : Instr) (s u : State) : Prop :=
  ∃ m g a b acc, ∃ leaf : Nat → Nat, HostSync i m g a b acc ∧ Issuing s ∧ 0 < sReg s b ∧ (segOf s g).space = 2 ∧ sReg s a + sReg s b ≤ (segOf s g).limit
    ∧ (∀ va ∈ linesOf ((segOf s g).base + sReg s a) (sReg s b), s.leaf? (s.asker s.me) va = .ok (leaf va))
    ∧ u = Queues m s { pc := 0, seg := some g.toNat, todo := [acc (((linesOf ((segOf s g).base + sReg s a) (sReg s b)).filter fun va => leafAperture (leaf va) == 4).map fun va => s.place (leaf va) va / 64)] }
def SyncsNothing (i : Instr) (s u : State) : Prop := ∃ m g a b acc, HostSync i m g a b acc ∧ Issuing s ∧ sReg s b = 0 ∧ u = done m s

/-- The common premises of the statement on control space. -/
def AtRegister (s u : State) (a : Reg) (g : BitVec 3) (e : BitVec 4) (ps : List Piece) (r : CtlReg) (x : Nat) : Prop :=
  Issuing s ∧ s.me.mode = .control ∧ Settles s u ∧ ((segOf s g).space = 10 ∨ (segOf s g).space = 11) ∧ scalarOff s a 8 e = x ∧ x % 8 = 0
    ∧ u.checkAccess u.cur {} g.toNat (segOf s g) {} none x 8 = .ok ps ∧ ctlAt (ctlAddr s.cur (segOf s g).space x) = some r
def ReadsRegister (i : Instr) (s t : State) : Prop :=
  ∃ u m d a g e ps r x sg, AtRegister s u a g e ps r x ∧ ScalarLoad i m d a g .b8 e sg ∧ HasRoom u
    ∧ t = finished u m (u.me.pc + 4) (queued u.me { pc := u.me.pc, seg := some g.toNat, dest := .scalar d.toNat 8 false, result := true, todo := [.ctlLoad (ctlAddr s.cur (segOf s g).space x) 8] })
def RefusesRegister (i : Instr) (s t : State) : Prop :=
  ∃ u m d a g e ps r x, AtRegister s u a g e ps r x ∧ i = .sst m d a g .b8 e ∧ r.badValue (s.me.getS d.toNat).toNat = true
    ∧ t = u.takeTrap u.cur (some { kind := 1 })
def WritesRegister (i : Instr) (s t : State) : Prop :=
  ∃ u m d a g e ps r x, AtRegister s u a g e ps r x ∧ i = .sst m d a g .b8 e ∧ r.badValue (s.me.getS d.toNat).toNat = false
    ∧ (∀ o, r = .sram o → u.cpRuns (ctlAddr s.cur (segOf s g).space x / 2 ^ 24) = false) ∧ (∀ o, r ≠ .flash o)
    ∧ t = finished u m (u.me.pc + 4) (queued u.me { pc := u.me.pc, seg := some g.toNat, todo := [.ctlStore (ctlAddr s.cur (segOf s g).space x) 8 (s.me.getS d.toNat).toNat] })
def WritesFlash (i : Instr) (s t : State) : Prop :=
  ∃ u m d a g e ps r x o, AtRegister s u a g e ps r x ∧ i = .sst m d a g .b8 e ∧ r = .flash o
    ∧ t = blocked (u.setMe (queued u.me { pc := u.me.pc, seg := some g.toNat, todo := [.ctlStore (ctlAddr s.cur (segOf s g).space x) 8 (s.me.getS d.toNat).toNat] })) m .flash

def piecesOf (x : Except TrapInfo (List Piece)) : List Piece := match x with | .ok l => l | .error _ => []
def errorOf (x : Except TrapInfo (List Piece)) : TrapInfo := match x with | .ok _ => { kind := 0 } | .error e => e

theorem okAll {l : List Nat} {f : Nat → Except TrapInfo (List Piece)}
    (h : l.all (fun t => match f t with | .ok _ => true | .error _ => false) = true) : ∀ t ∈ l, f t = .ok (piecesOf (f t)) := by
  intro t ht
  have := List.all_eq_true.mp h t ht
  revert this
  cases f t <;> intro hx
  · exact Bool.noConfusion hx
  · rfl
theorem okIf {l : List Nat} {f : Nat → Except TrapInfo (List Piece)} {n : Nat}
    (h : l.all (fun t => decide (n ≤ t) || (match f t with | .ok _ => true | .error _ => false)) = true) :
    ∀ t ∈ l, t < n → f t = .ok (piecesOf (f t)) := by
  intro t ht hn
  have := List.all_eq_true.mp h t ht
  rw [decide_eq_false (by omega), Bool.false_or] at this
  revert this
  cases f t <;> intro hx
  · exact Bool.noConfusion hx
  · rfl

theorem okScalar {x : Except TrapInfo (List Piece)} (h : (match x with | .ok _ => true | .error _ => false) = true) : x = .ok (piecesOf x) := by
  revert h
  cases x <;> intro hx
  · exact Bool.noConfusion hx
  · rfl
/-- Threads 0, 2 and 63 of group 0 are active; segment 0 is private, 1 scratchpad, 2 global over a page of HBM4E and one of the
host, 3 read only. -/
def acc0 : State :=
  { groups := [(0, { budget := 8, plan := 1, task := 1, pc := 0, s := [(2, 8), (3, 2 ^ 64 - 8), (4, 5), (5, 64), (6, 2 ^ 21 - 64), (7, 128), (8, 1), (126, BitVec.ofNat 64 (2 ^ 63 + 5))],
                     v := [(2, [16, 0, 16] ++ List.replicate 60 0 ++ [32]), (3, [4096, 0, 8, 9] ++ List.replicate 59 0 ++ [1]), (4, [7, 8, 9])],
                     segs := [(0, ⟨0, 64, true, true, false, 0⟩), (1, ⟨256, 4096, true, true, false, 1⟩), (2, ⟨0, 2 ^ 22, true, true, false, 2⟩), (3, ⟨256, 4096, true, false, false, 1⟩)] })]
    tlb := [⟨0, 0, 0, 207⟩] ++ [⟨0, 0, 511, 207⟩] ++ [⟨0, 0, 512, 2 ^ 30 * 512 + 591⟩], keys := [(63 * 8192, [1])] }
/-- A barrier word at the start of segment 1. -/
def bar0 (w : Nat) : State := acc0.writeNum (scratchAddr 0 256) 8 w
def arb0 (a p : Nat) : State :=
  { acc0 with plans := [(1, { state := .running, arbors := [⟨31, 2, 1⟩] })], tasks := [(1, { plan := 1, stage := 0, die := 0, running := true, groups := [0], live := [0] })], cores := [(0, { stage := some (1, 0), arborA := [(31, a)], arborP := [(31, p)] })] }
def cp0 (a v : Nat) : State :=
  { groups := [(90128, { mode := .control, s := [(2, BitVec.ofNat 64 a), (3, BitVec.ofNat 64 v)] })], cur := 90128 }

theorem witness_vld16 : ∃ t, LoadsLanes (.vld true 4 2 1 .b16 0) (acc0) t := ⟨_, ⟨_, _, _, _, _, _, _, _, .vld _ _ _ _ _ _, ⟨(by first | decide +kernel | rfl), (by first | decide +kernel | rfl), (by first | decide +kernel | rfl)⟩, (by unfold HasRoom; decide +kernel), (by unfold DatumReady; decide +kernel), (okAll (by decide +kernel)), rfl⟩⟩
theorem witness_vlds : ∃ t, LoadsLanes (.vlds true 4 2 1 .b2 7) (acc0) t := ⟨_, ⟨_, _, _, _, _, _, _, _, .vlds _ _ _ _ _ _, ⟨(by first | decide +kernel | rfl), (by first | decide +kernel | rfl), (by first | decide +kernel | rfl)⟩, (by unfold HasRoom; decide +kernel), (by unfold DatumReady; decide +kernel), (okAll (by decide +kernel)), rfl⟩⟩
theorem witness_vldPrivate : ∃ t, LoadsLanes (.vld true 4 2 0 .b4 1) (acc0) t := ⟨_, ⟨_, _, _, _, _, _, _, _, .vld _ _ _ _ _ _, ⟨(by first | decide +kernel | rfl), (by first | decide +kernel | rfl), (by first | decide +kernel | rfl)⟩, (by unfold HasRoom; decide +kernel), (by unfold DatumReady; decide +kernel), (okAll (by decide +kernel)), rfl⟩⟩
theorem witness_vldGlobal : ∃ t, LoadsLanes (.vld true 4 2 2 .b8 0) (acc0) t := ⟨_, ⟨_, _, _, _, _, _, _, _, .vld _ _ _ _ _ _, ⟨(by first | decide +kernel | rfl), (by first | decide +kernel | rfl), (by first | decide +kernel | rfl)⟩, (by unfold HasRoom; decide +kernel), (by unfold DatumReady; decide +kernel), (okAll (by decide +kernel)), rfl⟩⟩
theorem witness_vst : ∃ t, StoresLanes (.vst true 4 2 1 .b8 7) (acc0) t := ⟨_, ⟨_, _, _, _, _, _, _, rfl, ⟨(by first | decide +kernel | rfl), (by first | decide +kernel | rfl), (by first | decide +kernel | rfl)⟩, (by unfold DatumReady; decide +kernel), (okAll (by decide +kernel)), rfl⟩⟩
theorem witness_vldFaults : ∃ t, AccessFaults (.vld true 4 3 1 .b4 0) (acc0.setMe { acc0.me with v := acc0.me.v.put 3 [0, 9, 4096] }) t := ⟨_, ⟨_, 2, { kind := 4, thread := some 2, seg := some 1, offset := 4096 }, _, .load _ _ _ _ _ _ _ _ (.vld _ _ _ _ _ _) ⟨(by first | decide +kernel | rfl), (by first | decide +kernel | rfl), (by first | decide +kernel | rfl)⟩ (by unfold DatumReady; decide +kernel), (by first | decide +kernel | rfl), (errOf (by decide +kernel)), (okIf (by decide +kernel)), rfl⟩⟩
theorem witness_vstFaults : ∃ t, AccessFaults (.vst true 4 3 1 .b16 0) (acc0.setMe { acc0.me with v := acc0.me.v.put 3 [0, 9, 4096] }) t := ⟨_, ⟨_, 2, { kind := 4, thread := some 2, seg := some 1, offset := 4096 }, _, .store _ _ _ _ _ _ ⟨(by first | decide +kernel | rfl), (by first | decide +kernel | rfl), (by first | decide +kernel | rfl)⟩ (by unfold DatumReady; decide +kernel), (by first | decide +kernel | rfl), (errOf (by decide +kernel)), (okIf (by decide +kernel)), rfl⟩⟩
theorem witness_vatomFaults : ∃ t, AccessFaults (.vatomCas true 4 3 1 .b8) (acc0.setMe { acc0.me with v := acc0.me.v.put 3 [0, 9, 4092] }) t := ⟨_, ⟨_, 2, { kind := 1, thread := some 2, seg := some 1, offset := 4092 }, _, .atomic _ _ _ _ _ _ _ _ (.vatomCas _ _ _ _ _) ⟨(by first | decide +kernel | rfl), (by first | decide +kernel | rfl), (by first | decide +kernel | rfl)⟩ (by unfold AtomReady; decide +kernel) (.inr rfl) (by first | decide +kernel | rfl), (by first | decide +kernel | rfl), (errOf (by decide +kernel)), (okIf (by decide +kernel)), rfl⟩⟩
theorem witness_vredFaults : ∃ t, AccessFaults (.vredAdd true 4 3 0 .b4) (acc0.setMe { acc0.me with v := acc0.me.v.put 3 [0, 9, 4096] }) t := ⟨_, ⟨_, 2, { kind := 4, thread := some 2, seg := some 0, offset := 4096 }, _, .atomic _ _ _ _ _ _ _ _ (.vredAdd _ _ _ _ _) ⟨(by first | decide +kernel | rfl), (by first | decide +kernel | rfl), (by first | decide +kernel | rfl)⟩ (by unfold AtomReady; decide +kernel) (.inl rfl) (by first | decide +kernel | rfl), (by first | decide +kernel | rfl), (errOf (by decide +kernel)), (okIf (by decide +kernel)), rfl⟩⟩
theorem witness_sld16 : ∃ t, LoadsScalar (.sld true 10 2 1 .b16 0) (acc0) t := ⟨_, ⟨_, _, _, _, _, _, _, _, .sld _ _ _ _ _ _, (by first | decide +kernel | rfl), (by unfold HasRoom; decide +kernel), ⟨(by first | decide +kernel | rfl), (by first | decide +kernel | rfl)⟩, (by first | decide +kernel | rfl), (okScalar (by decide +kernel)), rfl⟩⟩
theorem witness_slds : ∃ t, LoadsScalar (.slds true 10 3 1 .b8 1) (acc0) t := ⟨_, ⟨_, _, _, _, _, _, _, _, .slds _ _ _ _ _ _, (by first | decide +kernel | rfl), (by unfold HasRoom; decide +kernel), ⟨(by first | decide +kernel | rfl), (by first | decide +kernel | rfl)⟩, (by first | decide +kernel | rfl), (okScalar (by decide +kernel)), rfl⟩⟩
theorem witness_sldPrivate : ∃ t, LoadsScalar (.sld true 10 2 0 .b4 0) (acc0) t := ⟨_, ⟨_, _, _, _, _, _, _, _, .sld _ _ _ _ _ _, (by first | decide +kernel | rfl), (by unfold HasRoom; decide +kernel), ⟨(by first | decide +kernel | rfl), (by first | decide +kernel | rfl)⟩, (by first | decide +kernel | rfl), (okScalar (by decide +kernel)), rfl⟩⟩
theorem witness_sst : ∃ t, StoresScalar (.sst true 10 2 1 .b16 7) (acc0) t := ⟨_, ⟨_, _, _, _, _, _, _, rfl, (by first | decide +kernel | rfl), ⟨(by first | decide +kernel | rfl), (by first | decide +kernel | rfl)⟩, (by first | decide +kernel | rfl), (okScalar (by decide +kernel)), rfl⟩⟩
theorem witness_sstCp : ∃ t, StoresScalar (.sst true 3 2 0 .b4 0) (cp0 0x3FFFC 7) t := ⟨_, ⟨_, _, _, _, _, _, _, rfl, (by first | decide +kernel | rfl), ⟨(by first | decide +kernel | rfl), (by first | decide +kernel | rfl)⟩, (by first | decide +kernel | rfl), (okScalar (by decide +kernel)), rfl⟩⟩
theorem witness_vatomAdd : ∃ t, AtomLanes (.vatomAdd true 4 2 1 .b4) (acc0) t := ⟨_, ⟨_, _, _, _, _, _, _, _, .vatomAdd _ _ _ _ _, ⟨(by first | decide +kernel | rfl), (by first | decide +kernel | rfl), (by first | decide +kernel | rfl)⟩, (by unfold AtomReady; decide +kernel), (.inl rfl), (by first | decide +kernel | rfl), (fun _ => (by unfold HasRoom; decide +kernel)), (by first | decide +kernel | rfl), (okAll (by decide +kernel)), rfl⟩⟩
theorem witness_vatomCas : ∃ t, AtomLanes (.vatomCas true 4 2 1 .b8) (acc0) t := ⟨_, ⟨_, _, _, _, _, _, _, _, .vatomCas _ _ _ _ _, ⟨(by first | decide +kernel | rfl), (by first | decide +kernel | rfl), (by first | decide +kernel | rfl)⟩, (by unfold AtomReady; decide +kernel), (.inr rfl), (by first | decide +kernel | rfl), (fun _ => (by unfold HasRoom; decide +kernel)), (by first | decide +kernel | rfl), (okAll (by decide +kernel)), rfl⟩⟩
theorem witness_vredAddPrivate : ∃ t, AtomLanes (.vredAdd true 4 2 0 .b4) (acc0) t := ⟨_, ⟨_, _, _, _, _, _, _, _, .vredAdd _ _ _ _ _, ⟨(by first | decide +kernel | rfl), (by first | decide +kernel | rfl), (by first | decide +kernel | rfl)⟩, (by unfold AtomReady; decide +kernel), (.inl rfl), (by first | decide +kernel | rfl), (fun _ => (by unfold HasRoom; decide +kernel)), (by first | decide +kernel | rfl), (okAll (by decide +kernel)), rfl⟩⟩
theorem witness_satomCas : ∃ t, AtomScalar (.satomCas true 126 2 1 .b8) (acc0) t := ⟨_, ⟨_, _, _, _, _, _, _, .satomCas _ _ _ _ _, (by first | decide +kernel | rfl), (by unfold HasRoom; decide +kernel), ⟨(by first | decide +kernel | rfl), (by first | decide +kernel | rfl)⟩, (.inr rfl), (by first | decide +kernel | rfl), (by first | decide +kernel | rfl), (by first | decide +kernel | rfl), (okScalar (by decide +kernel)), rfl⟩⟩
theorem witness_hflush : ∃ t, SyncsHost (.hflush true 2 6 7) (acc0) t := ⟨_, ⟨_, _, _, _, _, (fun va => if va < 2 ^ 21 then 207 else 2 ^ 30 * 512 + 591), .hflush _ _ _ _, (by first | decide +kernel | rfl), (by first | decide +kernel | rfl), (by first | decide +kernel | rfl), (by first | decide +kernel | rfl), (fun va hv => by have h : va = 2 ^ 21 - 64 ∨ va = 2 ^ 21 := by { revert va; decide +kernel }; rcases h with rfl | rfl; exact okOf (by decide +kernel); exact okOf (by decide +kernel)), rfl⟩⟩
theorem witness_hflushNothing : ∃ t, SyncsNothing (.hflush true 2 6 9) (acc0) t := ⟨_, ⟨_, _, _, _, _, .hflush _ _ _ _, (by first | decide +kernel | rfl), (by first | decide +kernel | rfl), rfl⟩⟩
theorem witness_hinval : ∃ t, SyncsHost (.hinval true 2 6 7) (acc0) t := ⟨_, ⟨_, _, _, _, _, (fun va => if va < 2 ^ 21 then 207 else 2 ^ 30 * 512 + 591), .hinval _ _ _ _, (by first | decide +kernel | rfl), (by first | decide +kernel | rfl), (by first | decide +kernel | rfl), (by first | decide +kernel | rfl), (fun va hv => by have h : va = 2 ^ 21 - 64 ∨ va = 2 ^ 21 := by { revert va; decide +kernel }; rcases h with rfl | rfl; exact okOf (by decide +kernel); exact okOf (by decide +kernel)), rfl⟩⟩
theorem witness_hinvalNothing : ∃ t, SyncsNothing (.hinval true 2 6 9) (acc0) t := ⟨_, ⟨_, _, _, _, _, .hinval _ _ _ _, (by first | decide +kernel | rfl), (by first | decide +kernel | rfl), rfl⟩⟩
theorem witness_readRegister : ∃ t, ReadsRegister (.sld true 10 2 1 .b8 1) (cp0 0x2F8 0) t := ⟨_, ⟨_, _, _, _, _, _, _, .devId, 0x300, _, ⟨(by first | decide +kernel | rfl), (by first | decide +kernel | rfl), ⟨(by first | decide +kernel | rfl), rfl⟩, (by first | decide +kernel | rfl), (by first | decide +kernel | rfl), (by first | decide +kernel | rfl), (okScalar (by decide +kernel)), (by first | decide +kernel | rfl)⟩, .sld _ _ _ _ _ _, (by unfold HasRoom; decide +kernel), rfl⟩⟩
theorem witness_readRegister2 : ∃ t, ReadsRegister (.slds true 10 2 2 .b8 0) (cp0 (3 * 2 ^ 24 + 0x100000) 0) t := ⟨_, ⟨_, _, _, _, _, _, _, .hbm, (3 * 2 ^ 24 + 0x100000), _, ⟨(by first | decide +kernel | rfl), (by first | decide +kernel | rfl), ⟨(by first | decide +kernel | rfl), rfl⟩, (by first | decide +kernel | rfl), (by first | decide +kernel | rfl), (by first | decide +kernel | rfl), (okScalar (by decide +kernel)), (by first | decide +kernel | rfl)⟩, .slds _ _ _ _ _ _, (by unfold HasRoom; decide +kernel), rfl⟩⟩
theorem witness_refusesRegister : ∃ t, RefusesRegister (.sst true 3 2 1 .b8 0) (cp0 0x300 128) t := ⟨_, ⟨_, _, _, _, _, _, _, .devId, 0x300, ⟨(by first | decide +kernel | rfl), (by first | decide +kernel | rfl), ⟨(by first | decide +kernel | rfl), rfl⟩, (by first | decide +kernel | rfl), (by first | decide +kernel | rfl), (by first | decide +kernel | rfl), (okScalar (by decide +kernel)), (by first | decide +kernel | rfl)⟩, rfl, (by first | decide +kernel | rfl), rfl⟩⟩
theorem witness_writesRegister : ∃ t, WritesRegister (.sst true 3 2 1 .b8 0) (cp0 0x300 127) t := ⟨_, ⟨_, _, _, _, _, _, _, .devId, 0x300, ⟨(by first | decide +kernel | rfl), (by first | decide +kernel | rfl), ⟨(by first | decide +kernel | rfl), rfl⟩, (by first | decide +kernel | rfl), (by first | decide +kernel | rfl), (by first | decide +kernel | rfl), (okScalar (by decide +kernel)), (by first | decide +kernel | rfl)⟩, rfl, (by first | decide +kernel | rfl), (fun o h => CtlReg.noConfusion h), (fun o h => CtlReg.noConfusion h), rfl⟩⟩
theorem witness_writesSram : ∃ t, WritesRegister (.sst true 3 2 2 .b8 0) (cp0 (3 * 2 ^ 24 + 0xC00008) 127) t := ⟨_, ⟨_, _, _, _, _, _, _, .sram 8, (3 * 2 ^ 24 + 0xC00008), ⟨(by first | decide +kernel | rfl), (by first | decide +kernel | rfl), ⟨(by first | decide +kernel | rfl), rfl⟩, (by first | decide +kernel | rfl), (by first | decide +kernel | rfl), (by first | decide +kernel | rfl), (okScalar (by decide +kernel)), (by first | decide +kernel | rfl)⟩, rfl, (by first | decide +kernel | rfl), (fun _ _ => (by decide +kernel)), (fun o h => CtlReg.noConfusion h), rfl⟩⟩
theorem witness_writesFlash : ∃ t, WritesFlash (.sst true 3 2 1 .b8 0) (cp0 0x8FFFF8 7) t := ⟨_, ⟨_, _, _, _, _, _, _, .flash 0xFFFF8, 0x8FFFF8, 0xFFFF8, ⟨(by first | decide +kernel | rfl), (by first | decide +kernel | rfl), ⟨(by first | decide +kernel | rfl), rfl⟩, (by first | decide +kernel | rfl), (by first | decide +kernel | rfl), (by first | decide +kernel | rfl), (okScalar (by decide +kernel)), (by first | decide +kernel | rfl)⟩, rfl, rfl, rfl⟩⟩
theorem witness_barArr : ∃ t, BarrierRule (.barArr true 1 9 10) (bar0 (2 ^ 47 + 2 * 2 ^ 16 + 1)) t := ⟨_, .barArr _ _ _ _ _ _ _ (scratchAddr 0 256) (by first | decide +kernel | rfl) (by unfold HasRoom; decide +kernel) ⟨(by first | decide +kernel | rfl), rfl⟩ (by unfold HasRoom; decide +kernel) ⟨(by first | decide +kernel | rfl), (by first | decide +kernel | rfl), (by first | decide +kernel | rfl), (by first | decide +kernel | rfl), (by first | decide +kernel | rfl), (by first | decide +kernel | rfl), (by first | decide +kernel | rfl), ⟨(by first | decide +kernel | rfl), (by first | decide +kernel | rfl)⟩, (by first | decide +kernel | rfl)⟩ rfl⟩
theorem witness_barWait : ∃ t, BarrierRule (.barWait true 1 9 8) (bar0 (2 * 2 ^ 16)) t := ⟨_, .barWait _ _ _ _ _ _ (scratchAddr 0 256) (by first | decide +kernel | rfl) ⟨(by first | decide +kernel | rfl), rfl⟩ ⟨(by first | decide +kernel | rfl), (by first | decide +kernel | rfl), (by first | decide +kernel | rfl), (by first | decide +kernel | rfl), (by first | decide +kernel | rfl), (by first | decide +kernel | rfl), (by first | decide +kernel | rfl), ⟨(by first | decide +kernel | rfl), (by first | decide +kernel | rfl)⟩, (by first | decide +kernel | rfl)⟩ (by first | decide +kernel | rfl)⟩
theorem witness_barWaitBlocks : ∃ t, BarrierRule (.barWait true 1 9 8) (bar0 (2 ^ 32 + 2 * 2 ^ 16)) t := ⟨_, .barWaitBlocks _ _ _ _ _ _ (scratchAddr 0 256) (by first | decide +kernel | rfl) ⟨(by first | decide +kernel | rfl), rfl⟩ ⟨(by first | decide +kernel | rfl), (by first | decide +kernel | rfl), (by first | decide +kernel | rfl), (by first | decide +kernel | rfl), (by first | decide +kernel | rfl), (by first | decide +kernel | rfl), (by first | decide +kernel | rfl), ⟨(by first | decide +kernel | rfl), (by first | decide +kernel | rfl)⟩, (by first | decide +kernel | rfl)⟩ (by first | decide +kernel | rfl)⟩
theorem witness_barArw : ∃ t, BarrierRule (.barArw true 1 9) (bar0 ((2 ^ 16 - 1) * 2 ^ 32 + 2 ^ 16)) t := ⟨_, .barArw _ _ _ _ _ (scratchAddr 0 256) (by first | decide +kernel | rfl) ⟨(by first | decide +kernel | rfl), rfl⟩ ⟨(by first | decide +kernel | rfl), (by first | decide +kernel | rfl), (by first | decide +kernel | rfl), (by first | decide +kernel | rfl), (by first | decide +kernel | rfl), (by first | decide +kernel | rfl), (by first | decide +kernel | rfl), ⟨(by first | decide +kernel | rfl), (by first | decide +kernel | rfl)⟩, (by first | decide +kernel | rfl)⟩ (by first | decide +kernel | rfl)⟩
theorem witness_barArwBlocks : ∃ t, BarrierRule (.barArw true 1 9) (bar0 (2 * 2 ^ 16)) t := ⟨_, .barArwBlocks _ _ _ _ _ (scratchAddr 0 256) (by first | decide +kernel | rfl) ⟨(by first | decide +kernel | rfl), rfl⟩ ⟨(by first | decide +kernel | rfl), (by first | decide +kernel | rfl), (by first | decide +kernel | rfl), (by first | decide +kernel | rfl), (by first | decide +kernel | rfl), (by first | decide +kernel | rfl), (by first | decide +kernel | rfl), ⟨(by first | decide +kernel | rfl), (by first | decide +kernel | rfl)⟩, (by first | decide +kernel | rfl)⟩ (by first | decide +kernel | rfl)⟩
theorem witness_abarArr : ∃ t, BarrierRule (.abarArr true 10 31) (arb0 1 255) t := ⟨_, .abarArr _ _ _ _ _ 2 (by first | decide +kernel | rfl) (by unfold HasRoom; decide +kernel) ⟨(by first | decide +kernel | rfl), rfl⟩ (by unfold HasRoom; decide +kernel) (by first | decide +kernel | rfl) ⟨_, _, ⟨31, 2, 1⟩, rfl, rfl, rfl, rfl⟩ (by first | decide +kernel | rfl)⟩
theorem witness_abarArrBlocks : ∃ t, BarrierRule (.abarArr true 10 31) (arb0 2 255) t := ⟨_, .abarArrBlocks _ _ _ _ _ 2 (by first | decide +kernel | rfl) (by unfold HasRoom; decide +kernel) ⟨(by first | decide +kernel | rfl), rfl⟩ (by first | decide +kernel | rfl) ⟨_, _, ⟨31, 2, 1⟩, rfl, rfl, rfl, rfl⟩ (by first | decide +kernel | rfl)⟩
theorem witness_abarWait : ∃ t, BarrierRule (.abarWait true 31 8) (arb0 0 255) t := ⟨_, .abarWait _ _ _ _ _ 2 (by first | decide +kernel | rfl) ⟨(by first | decide +kernel | rfl), rfl⟩ (by first | decide +kernel | rfl) ⟨_, _, ⟨31, 2, 1⟩, rfl, rfl, rfl, rfl⟩ (by first | decide +kernel | rfl)⟩
theorem witness_abarWaitBlocks : ∃ t, BarrierRule (.abarWait true 31 8) (arb0 0 1) t := ⟨_, .abarWaitBlocks _ _ _ _ _ 2 (by first | decide +kernel | rfl) ⟨(by first | decide +kernel | rfl), rfl⟩ (by first | decide +kernel | rfl) ⟨_, _, ⟨31, 2, 1⟩, rfl, rfl, rfl, rfl⟩ (by first | decide +kernel | rfl)⟩
theorem witness_abarTest : ∃ t, BarrierRule (.abarTest true 10 31 8) (arb0 0 1) t := ⟨_, .abarTest _ _ _ _ _ _ 2 (by first | decide +kernel | rfl) (by unfold HasRoom; decide +kernel) ⟨(by first | decide +kernel | rfl), rfl⟩ (by unfold HasRoom; decide +kernel) (by first | decide +kernel | rfl) ⟨_, _, ⟨31, 2, 1⟩, rfl, rfl, rfl, rfl⟩⟩

end Sys2Proof.Tests.WitnessAccess
end

