-- ==== Sys2Proof/Tests/WitnessBringup.lean ====
section
/-!
SUPPORT. Witnesses: for every store of a control processor to a register, and every end of what one starts, a small state in which its rule applies.
-/

namespace Sys2Proof.Tests.WitnessBringup

open Sys2Proof.Machine Sys2Proof.Rules

set_option Elab.async false

/-- The control processor of a die with one store outstanding, to an offset of that die's control space. -/
def storing (die off v : Nat) : State :=
  { groups := [(90112 + die, { mode := .control, pc := 64, out := [{ pc := 60, todo := [.ctlStore (die * 2 ^ 24 + off) 8 v] }] })], cur := 90112 + die }
def withCtl (s : State) (die off v : Nat) : State := s.setCtl die off v
def unitOn (die : Nat) (r : CtlReg) (unit v at' : Nat) : State :=
  { (({} : State).setReg die r v) with busy := [(busyKey die r unit, at')], cycle := 2 ^ 25 }
/-- Fifteen dies are off; on die 0 the last cluster to be tested is cluster 0. -/
def testing : State :=
  { (({} : State).setReg 0 .hbm (2 ^ 16)).setReg 0 (.core 0) 1 with
    busy := [(busyKey 0 (.core 0) 0, 0)], dies := (List.range 15).map fun d => (d + 1, { off := true })
    clusters := (List.range 21).map fun c => (c + 1, { outOfService := true }) }

theorem witness_devId : ∃ t, CtlRule (.controlRegWrite 90128) (storing 16 0x300 (127)) t := ⟨_, .devId _ _ [] [] 127 ⟨⟨{ pc := 60, todo := [.ctlStore (16 * 2 ^ 24 + 0x300) 8 (127)] }, _, _, ⟨(by first | decide +kernel | rfl), (by first | decide +kernel | rfl), (by first | decide +kernel | rfl), (by first | decide +kernel | rfl), (by first | decide +kernel | rfl), (by first | decide +kernel | rfl), (by first | decide +kernel | rfl)⟩, (by first | decide +kernel | rfl), (by first | decide +kernel | rfl), (by first | decide +kernel | rfl), (by first | decide +kernel | rfl), (by first | decide +kernel | rfl), (by first | decide +kernel | rfl)⟩⟩ (by first | decide +kernel | rfl)⟩
theorem witness_page : ∃ t, CtlRule (.controlRegWrite 90128) (storing 16 0x10400 (15)) t := ⟨_, .page _ _ [] [] 16 15 ⟨⟨{ pc := 60, todo := [.ctlStore (16 * 2 ^ 24 + 0x10400) 8 (15)] }, _, _, ⟨(by first | decide +kernel | rfl), (by first | decide +kernel | rfl), (by first | decide +kernel | rfl), (by first | decide +kernel | rfl), (by first | decide +kernel | rfl), (by first | decide +kernel | rfl), (by first | decide +kernel | rfl)⟩, (by first | decide +kernel | rfl), (by first | decide +kernel | rfl), (by first | decide +kernel | rfl), (by first | decide +kernel | rfl), (by first | decide +kernel | rfl), (by first | decide +kernel | rfl)⟩⟩ (by first | decide +kernel | rfl)⟩
theorem witness_cap : ∃ t, CtlRule (.controlRegWrite 90128) (withCtl (storing 16 0x900000 (2000 + 5 * 2 ^ 16)) 16 0x900000 (3 * 2 ^ 16 + 5200)) t := ⟨_, .cap _ _ [] [] 16 (2000 + 5 * 2 ^ 16) ⟨⟨{ pc := 60, todo := [.ctlStore (16 * 2 ^ 24 + 0x900000) 8 (2000 + 5 * 2 ^ 16)] }, _, _, ⟨(by first | decide +kernel | rfl), (by first | decide +kernel | rfl), (by first | decide +kernel | rfl), (by first | decide +kernel | rfl), (by first | decide +kernel | rfl), (by first | decide +kernel | rfl), (by first | decide +kernel | rfl)⟩, (by first | decide +kernel | rfl), (by first | decide +kernel | rfl), (by first | decide +kernel | rfl), (by first | decide +kernel | rfl), (by first | decide +kernel | rfl), (by first | decide +kernel | rfl)⟩⟩ (by first | decide +kernel | rfl) (by first | decide +kernel | rfl)⟩
theorem witness_sram : ∃ t, CtlRule (.controlRegWrite 90128) (storing 16 0xC3FFF8 (2 ^ 64 - 1)) t := ⟨_, .sram _ _ [] [] 16 (2 ^ 18 - 8) (2 ^ 64 - 1) ⟨⟨{ pc := 60, todo := [.ctlStore (16 * 2 ^ 24 + 0xC3FFF8) 8 (2 ^ 64 - 1)] }, _, _, ⟨(by first | decide +kernel | rfl), (by first | decide +kernel | rfl), (by first | decide +kernel | rfl), (by first | decide +kernel | rfl), (by first | decide +kernel | rfl), (by first | decide +kernel | rfl), (by first | decide +kernel | rfl)⟩, (by first | decide +kernel | rfl), (by first | decide +kernel | rfl), (by first | decide +kernel | rfl), (by first | decide +kernel | rfl), (by first | decide +kernel | rfl), (by first | decide +kernel | rfl)⟩⟩ (by first | decide +kernel | rfl)⟩
theorem witness_cpStop : ∃ t, CtlRule (.controlRegWrite 90115) (withCtl (storing 3 0x100 (0)) 3 0x100 (1)) t := ⟨_, .cpStop _ _ [] [] 3 ⟨⟨{ pc := 60, todo := [.ctlStore (3 * 2 ^ 24 + 0x100) 8 (0)] }, _, _, ⟨(by first | decide +kernel | rfl), (by first | decide +kernel | rfl), (by first | decide +kernel | rfl), (by first | decide +kernel | rfl), (by first | decide +kernel | rfl), (by first | decide +kernel | rfl), (by first | decide +kernel | rfl)⟩, (by first | decide +kernel | rfl), (by first | decide +kernel | rfl), (by first | decide +kernel | rfl), (by first | decide +kernel | rfl), (by first | decide +kernel | rfl), (by first | decide +kernel | rfl)⟩⟩ ⟩
theorem witness_rail : ∃ t, CtlRule (.railEnable 90115) (withCtl (storing 3 0 (15)) 3 0 (0x31)) t := ⟨_, .rail _ _ [] [] 3 15 ⟨⟨{ pc := 60, todo := [.ctlStore (3 * 2 ^ 24 + 0) 8 (15)] }, _, _, ⟨(by first | decide +kernel | rfl), (by first | decide +kernel | rfl), (by first | decide +kernel | rfl), (by first | decide +kernel | rfl), (by first | decide +kernel | rfl), (by first | decide +kernel | rfl), (by first | decide +kernel | rfl)⟩, (by first | decide +kernel | rfl), (by first | decide +kernel | rfl), (by first | decide +kernel | rfl), (by first | decide +kernel | rfl), (by first | decide +kernel | rfl), (by first | decide +kernel | rfl)⟩⟩ ⟩
theorem witness_cpRun : ∃ t, CtlRule (.cpRun 90115) (storing 3 0x100 (1)) t := ⟨_, .cpRun _ _ [] [] 3 ⟨⟨{ pc := 60, todo := [.ctlStore (3 * 2 ^ 24 + 0x100) 8 (1)] }, _, _, ⟨(by first | decide +kernel | rfl), (by first | decide +kernel | rfl), (by first | decide +kernel | rfl), (by first | decide +kernel | rfl), (by first | decide +kernel | rfl), (by first | decide +kernel | rfl), (by first | decide +kernel | rfl)⟩, (by first | decide +kernel | rfl), (by first | decide +kernel | rfl), (by first | decide +kernel | rfl), (by first | decide +kernel | rfl), (by first | decide +kernel | rfl), (by first | decide +kernel | rfl)⟩⟩ (by first | decide +kernel | rfl)⟩
theorem witness_hbmInit : ∃ t, CtlRule (.hbmInit 90115) (withCtl (storing 3 0x100000 (2 ^ 16 + 3)) 3 0x100000 (0xFF32)) t := ⟨_, .hbmInit _ _ [] [] 3 (2 ^ 16 + 3) ⟨⟨{ pc := 60, todo := [.ctlStore (3 * 2 ^ 24 + 0x100000) 8 (2 ^ 16 + 3)] }, _, _, ⟨(by first | decide +kernel | rfl), (by first | decide +kernel | rfl), (by first | decide +kernel | rfl), (by first | decide +kernel | rfl), (by first | decide +kernel | rfl), (by first | decide +kernel | rfl), (by first | decide +kernel | rfl)⟩, (by first | decide +kernel | rfl), (by first | decide +kernel | rfl), (by first | decide +kernel | rfl), (by first | decide +kernel | rfl), (by first | decide +kernel | rfl), (by first | decide +kernel | rfl)⟩⟩ ⟨(by first | decide +kernel | rfl), (by first | decide +kernel | rfl)⟩ (by first | decide +kernel | rfl) (by first | decide +kernel | rfl)⟩
theorem witness_hbmTrain : ∃ t, CtlRule (.hbmTrain 90115) (withCtl (storing 3 0x100000 (12)) 3 0x100000 (0x1FF32)) t := ⟨_, .hbmTrain _ _ [] [] 3 12 ⟨⟨{ pc := 60, todo := [.ctlStore (3 * 2 ^ 24 + 0x100000) 8 (12)] }, _, _, ⟨(by first | decide +kernel | rfl), (by first | decide +kernel | rfl), (by first | decide +kernel | rfl), (by first | decide +kernel | rfl), (by first | decide +kernel | rfl), (by first | decide +kernel | rfl), (by first | decide +kernel | rfl)⟩, (by first | decide +kernel | rfl), (by first | decide +kernel | rfl), (by first | decide +kernel | rfl), (by first | decide +kernel | rfl), (by first | decide +kernel | rfl), (by first | decide +kernel | rfl)⟩⟩ ⟨(by first | decide +kernel | rfl), (by first | decide +kernel | rfl)⟩ (by first | decide +kernel | rfl) (by first | decide +kernel | rfl) (by first | decide +kernel | rfl)⟩
theorem witness_hbmTrainWaits : ∃ t, CtlRule (.hbmTrain 90115) ({ withCtl (storing 3 0x100000 (12)) 3 0x100000 (0x1FF32) with dies := [(3, { deadline := [(0, 5, 8)] })] }) t := ⟨_, .hbmTrainWaits _ _ [] [] 3 12 ⟨⟨{ pc := 60, todo := [.ctlStore (3 * 2 ^ 24 + 0x100000) 8 (12)] }, _, _, ⟨(by first | decide +kernel | rfl), (by first | decide +kernel | rfl), (by first | decide +kernel | rfl), (by first | decide +kernel | rfl), (by first | decide +kernel | rfl), (by first | decide +kernel | rfl), (by first | decide +kernel | rfl)⟩, (by first | decide +kernel | rfl), (by first | decide +kernel | rfl), (by first | decide +kernel | rfl), (by first | decide +kernel | rfl), (by first | decide +kernel | rfl), (by first | decide +kernel | rfl)⟩⟩ ⟨(by first | decide +kernel | rfl), (by first | decide +kernel | rfl)⟩ (by first | decide +kernel | rfl) (by first | decide +kernel | rfl) (by first | decide +kernel | rfl)⟩
theorem witness_hbmServe : ∃ t, CtlRule (.hbmServe 90115) (withCtl (storing 3 0x100000 (2 ^ 16 + 0x32)) 3 0x100000 (0xFF32)) t := ⟨_, .hbmServe _ _ [] [] 3 (2 ^ 16 + 0x32) ⟨⟨{ pc := 60, todo := [.ctlStore (3 * 2 ^ 24 + 0x100000) 8 (2 ^ 16 + 0x32)] }, _, _, ⟨(by first | decide +kernel | rfl), (by first | decide +kernel | rfl), (by first | decide +kernel | rfl), (by first | decide +kernel | rfl), (by first | decide +kernel | rfl), (by first | decide +kernel | rfl), (by first | decide +kernel | rfl)⟩, (by first | decide +kernel | rfl), (by first | decide +kernel | rfl), (by first | decide +kernel | rfl), (by first | decide +kernel | rfl), (by first | decide +kernel | rfl), (by first | decide +kernel | rfl)⟩⟩ ⟨(by first | decide +kernel | rfl), (by first | decide +kernel | rfl)⟩ (by first | decide +kernel | rfl) (by first | decide +kernel | rfl) (by first | decide +kernel | rfl) (by first | decide +kernel | rfl)⟩
theorem witness_mrGo : ∃ t, CtlRule (.hbmMrGo 90115) (withCtl (storing 3 0x100008 (2 ^ 47 + 2 ^ 39 + 2 ^ 38 + 2 ^ 37 + 79)) 3 0x100008 (2 ^ 39 + 2 ^ 38)) t := ⟨_, .mrGo _ _ [] [] 3 (2 ^ 47 + 2 ^ 39 + 2 ^ 38 + 2 ^ 37 + 79) ⟨⟨{ pc := 60, todo := [.ctlStore (3 * 2 ^ 24 + 0x100008) 8 (2 ^ 47 + 2 ^ 39 + 2 ^ 38 + 2 ^ 37 + 79)] }, _, _, ⟨(by first | decide +kernel | rfl), (by first | decide +kernel | rfl), (by first | decide +kernel | rfl), (by first | decide +kernel | rfl), (by first | decide +kernel | rfl), (by first | decide +kernel | rfl), (by first | decide +kernel | rfl)⟩, (by first | decide +kernel | rfl), (by first | decide +kernel | rfl), (by first | decide +kernel | rfl), (by first | decide +kernel | rfl), (by first | decide +kernel | rfl), (by first | decide +kernel | rfl)⟩⟩ (by first | decide +kernel | rfl) (by first | decide +kernel | rfl)⟩
theorem witness_ucie : ∃ t, CtlRule (.ucieTrain 90115) (withCtl (storing 3 0x200100 (2 ^ 5 + 8 + 7)) 3 0x200100 (6)) t := ⟨_, .ucie _ _ [] [] 3 1 (2 ^ 5 + 8 + 7) ⟨⟨{ pc := 60, todo := [.ctlStore (3 * 2 ^ 24 + 0x200100) 8 (2 ^ 5 + 8 + 7)] }, _, _, ⟨(by first | decide +kernel | rfl), (by first | decide +kernel | rfl), (by first | decide +kernel | rfl), (by first | decide +kernel | rfl), (by first | decide +kernel | rfl), (by first | decide +kernel | rfl), (by first | decide +kernel | rfl)⟩, (by first | decide +kernel | rfl), (by first | decide +kernel | rfl), (by first | decide +kernel | rfl), (by first | decide +kernel | rfl), (by first | decide +kernel | rfl), (by first | decide +kernel | rfl)⟩⟩ (by first | decide +kernel | rfl) (by first | decide +kernel | rfl)⟩
theorem witness_pcie : ∃ t, CtlRule (.pcieTrain 90128) (withCtl (storing 16 0x400000 (2 ^ 6 + 8 + 7)) 16 0x400000 (2 ^ 6 + 6)) t := ⟨_, .pcie _ _ [] [] 16 (2 ^ 6 + 8 + 7) ⟨⟨{ pc := 60, todo := [.ctlStore (16 * 2 ^ 24 + 0x400000) 8 (2 ^ 6 + 8 + 7)] }, _, _, ⟨(by first | decide +kernel | rfl), (by first | decide +kernel | rfl), (by first | decide +kernel | rfl), (by first | decide +kernel | rfl), (by first | decide +kernel | rfl), (by first | decide +kernel | rfl), (by first | decide +kernel | rfl)⟩, (by first | decide +kernel | rfl), (by first | decide +kernel | rfl), (by first | decide +kernel | rfl), (by first | decide +kernel | rfl), (by first | decide +kernel | rfl), (by first | decide +kernel | rfl)⟩⟩ (by first | decide +kernel | rfl) (by first | decide +kernel | rfl)⟩
theorem witness_cxl : ∃ t, CtlRule (.cxlEnable 90128) (storing 16 0x400000 (2 ^ 6 + 2)) t := ⟨_, .cxl _ _ [] [] 16 (2 ^ 6 + 2) ⟨⟨{ pc := 60, todo := [.ctlStore (16 * 2 ^ 24 + 0x400000) 8 (2 ^ 6 + 2)] }, _, _, ⟨(by first | decide +kernel | rfl), (by first | decide +kernel | rfl), (by first | decide +kernel | rfl), (by first | decide +kernel | rfl), (by first | decide +kernel | rfl), (by first | decide +kernel | rfl), (by first | decide +kernel | rfl)⟩, (by first | decide +kernel | rfl), (by first | decide +kernel | rfl), (by first | decide +kernel | rfl), (by first | decide +kernel | rfl), (by first | decide +kernel | rfl), (by first | decide +kernel | rfl)⟩⟩ (by first | decide +kernel | rfl) (by first | decide +kernel | rfl) (by first | decide +kernel | rfl)⟩
theorem witness_ual : ∃ t, CtlRule (.ualTrain 90129) (withCtl (storing 17 0x501700 (1)) 17 0x501700 (0x7F06)) t := ⟨_, .ual _ _ [] [] 17 23 1 ⟨⟨{ pc := 60, todo := [.ctlStore (17 * 2 ^ 24 + 0x501700) 8 (1)] }, _, _, ⟨(by first | decide +kernel | rfl), (by first | decide +kernel | rfl), (by first | decide +kernel | rfl), (by first | decide +kernel | rfl), (by first | decide +kernel | rfl), (by first | decide +kernel | rfl), (by first | decide +kernel | rfl)⟩, (by first | decide +kernel | rfl), (by first | decide +kernel | rfl), (by first | decide +kernel | rfl), (by first | decide +kernel | rfl), (by first | decide +kernel | rfl), (by first | decide +kernel | rfl)⟩⟩ (by first | decide +kernel | rfl) (by first | decide +kernel | rfl)⟩
theorem witness_ualServe : ∃ t, CtlRule (.ualServe 90129) ({ withCtl (storing 17 0x501700 (8 + 2)) 17 0x501700 (0x0002) with uals := [(47, { trained := true })] }) t := ⟨_, .ualServe _ _ [] [] 17 23 (8 + 2) ⟨⟨{ pc := 60, todo := [.ctlStore (17 * 2 ^ 24 + 0x501700) 8 (8 + 2)] }, _, _, ⟨(by first | decide +kernel | rfl), (by first | decide +kernel | rfl), (by first | decide +kernel | rfl), (by first | decide +kernel | rfl), (by first | decide +kernel | rfl), (by first | decide +kernel | rfl), (by first | decide +kernel | rfl)⟩, (by first | decide +kernel | rfl), (by first | decide +kernel | rfl), (by first | decide +kernel | rfl), (by first | decide +kernel | rfl), (by first | decide +kernel | rfl), (by first | decide +kernel | rfl)⟩⟩ (by first | decide +kernel | rfl) (by first | decide +kernel | rfl) (by first | decide +kernel | rfl) (by first | decide +kernel | rfl) (by first | decide +kernel | rfl)⟩
theorem witness_ualRetires : ∃ t, CtlRule (.ualServe 90129) ({ withCtl (storing 17 0x501700 (8 + 2)) 17 0x501700 (0x0102) with uals := [(47, { trained := true, peerIdx := 1 })] }) t := ⟨_, .ualRetires _ _ [] [] 17 23 (8 + 2) ⟨⟨{ pc := 60, todo := [.ctlStore (17 * 2 ^ 24 + 0x501700) 8 (8 + 2)] }, _, _, ⟨(by first | decide +kernel | rfl), (by first | decide +kernel | rfl), (by first | decide +kernel | rfl), (by first | decide +kernel | rfl), (by first | decide +kernel | rfl), (by first | decide +kernel | rfl), (by first | decide +kernel | rfl)⟩, (by first | decide +kernel | rfl), (by first | decide +kernel | rfl), (by first | decide +kernel | rfl), (by first | decide +kernel | rfl), (by first | decide +kernel | rfl), (by first | decide +kernel | rfl)⟩⟩ (by first | decide +kernel | rfl) (by first | decide +kernel | rfl) (by first | decide +kernel | rfl) (by first | decide +kernel | rfl) (by first | decide +kernel | rfl)⟩
theorem witness_arb : ∃ t, CtlRule (.arbTestGo 90128) (storing 16 0x600008 (7)) t := ⟨_, .arb _ _ [] [] 16 7 ⟨⟨{ pc := 60, todo := [.ctlStore (16 * 2 ^ 24 + 0x600008) 8 (7)] }, _, _, ⟨(by first | decide +kernel | rfl), (by first | decide +kernel | rfl), (by first | decide +kernel | rfl), (by first | decide +kernel | rfl), (by first | decide +kernel | rfl), (by first | decide +kernel | rfl), (by first | decide +kernel | rfl)⟩, (by first | decide +kernel | rfl), (by first | decide +kernel | rfl), (by first | decide +kernel | rfl), (by first | decide +kernel | rfl), (by first | decide +kernel | rfl), (by first | decide +kernel | rfl)⟩⟩ (by first | decide +kernel | rfl)⟩
theorem witness_core : ∃ t, CtlRule (.coreTestGo 90115) (withCtl (storing 3 0x301500 (2 ^ 8 + 15)) 3 0x301500 (2 ^ 16 + 6)) t := ⟨_, .core _ _ [] [] 3 21 (2 ^ 8 + 15) ⟨⟨{ pc := 60, todo := [.ctlStore (3 * 2 ^ 24 + 0x301500) 8 (2 ^ 8 + 15)] }, _, _, ⟨(by first | decide +kernel | rfl), (by first | decide +kernel | rfl), (by first | decide +kernel | rfl), (by first | decide +kernel | rfl), (by first | decide +kernel | rfl), (by first | decide +kernel | rfl), (by first | decide +kernel | rfl)⟩, (by first | decide +kernel | rfl), (by first | decide +kernel | rfl), (by first | decide +kernel | rfl), (by first | decide +kernel | rfl), (by first | decide +kernel | rfl), (by first | decide +kernel | rfl)⟩⟩ (by first | decide +kernel | rfl)⟩
theorem witness_org : ∃ t, CtlRule (.orgTestGo 90115) (withCtl (storing 3 0x700000 (7)) 3 0x700000 (2 ^ 33 + 6)) t := ⟨_, .org _ _ [] [] 3 7 ⟨⟨{ pc := 60, todo := [.ctlStore (3 * 2 ^ 24 + 0x700000) 8 (7)] }, _, _, ⟨(by first | decide +kernel | rfl), (by first | decide +kernel | rfl), (by first | decide +kernel | rfl), (by first | decide +kernel | rfl), (by first | decide +kernel | rfl), (by first | decide +kernel | rfl), (by first | decide +kernel | rfl)⟩, (by first | decide +kernel | rfl), (by first | decide +kernel | rfl), (by first | decide +kernel | rfl), (by first | decide +kernel | rfl), (by first | decide +kernel | rfl), (by first | decide +kernel | rfl)⟩⟩ (by first | decide +kernel | rfl)⟩
theorem witness_flash : ∃ t, CtlRule (.flashProgram 90128) (withCtl (storing 16 0x8FFFF8 (7)) 16 0x10400 (15)) t := ⟨_, .flash _ _ [] [] 16 (2 ^ 20 - 8) 7 ⟨⟨{ pc := 60, todo := [.ctlStore (16 * 2 ^ 24 + 0x8FFFF8) 8 (7)] }, _, _, ⟨(by first | decide +kernel | rfl), (by first | decide +kernel | rfl), (by first | decide +kernel | rfl), (by first | decide +kernel | rfl), (by first | decide +kernel | rfl), (by first | decide +kernel | rfl), (by first | decide +kernel | rfl)⟩, (by first | decide +kernel | rfl), (by first | decide +kernel | rfl), (by first | decide +kernel | rfl), (by first | decide +kernel | rfl), (by first | decide +kernel | rfl), (by first | decide +kernel | rfl)⟩⟩ (by first | decide +kernel | rfl)⟩
theorem witness_haltq : ∃ t, CtlRule (.cpHaltqRead 90115) ({ groups := [(90115, { mode := .control, out := [{ pc := 60, todo := [.ctlLoad (3 * 2 ^ 24 + 0x200) 8], result := true, dest := .scalar 4 8 false }] })], cur := 90115, dies := [(3, { haltq := [77, 78] })] }) t := ⟨_, .haltq _ _ [] [] { pc := 60, todo := [.ctlLoad (3 * 2 ^ 24 + 0x200) 8], result := true, dest := .scalar 4 8 false } _ _ [] ⟨(by first | decide +kernel | rfl), (by first | decide +kernel | rfl), (by first | decide +kernel | rfl), (by first | decide +kernel | rfl), (by first | decide +kernel | rfl), (by first | decide +kernel | rfl), (by first | decide +kernel | rfl)⟩ (by first | decide +kernel | rfl) (by first | decide +kernel | rfl)⟩
theorem witness_railGood : ∃ t, BringupStep (.railGood 3 1) (unitOn 3 .rail 1 (3) (2 ^ 25 - 2 ^ 20 + 1)) t := ⟨_, .railGood _ _ _ (by first | decide +kernel | rfl) ⟨_, (by first | decide +kernel | rfl), (by first | decide +kernel | rfl)⟩ (by first | decide +kernel | rfl) (by first | decide +kernel | rfl)⟩
theorem witness_railUp : ∃ t, BringupStep (.railGood 3 1) ({ unitOn 3 .rail 1 (0x13) (2 ^ 25 - 2 ^ 20 + 1) with dies := [(3, { off := true })] }) t := ⟨_, .railUp _ _ _ (by first | decide +kernel | rfl) ⟨_, (by first | decide +kernel | rfl), (by first | decide +kernel | rfl)⟩ (by first | decide +kernel | rfl) (by first | decide +kernel | rfl)⟩
theorem witness_stackUp : ∃ t, BringupStep (.railGood 3 3) ({ unitOn 3 .rail 3 (0x7F) (2 ^ 25 - 2 ^ 20 + 1) with dies := [(3, { stackOff := true })] }) t := ⟨_, .stackUp _ _ _ (by first | decide +kernel | rfl) ⟨_, (by first | decide +kernel | rfl), (by first | decide +kernel | rfl)⟩ (by first | decide +kernel | rfl) (by first | decide +kernel | rfl)⟩
theorem witness_railMissed : ∃ t, BringupStep (.railLimitExpiry 3 1) (unitOn 3 .rail 1 (0x13) (2 ^ 25 - 2 ^ 20)) t := ⟨_, .railMissed _ _ _ (by first | decide +kernel | rfl) ⟨_, (by first | decide +kernel | rfl), (by first | decide +kernel | rfl)⟩⟩
theorem witness_stackMissed : ∃ t, BringupStep (.railLimitExpiry 3 3) (unitOn 3 .rail 3 (0x13) (2 ^ 25 - 2 ^ 20)) t := ⟨_, .stackMissed _ _ _ (by first | decide +kernel | rfl) (by first | decide +kernel | rfl) ⟨_, (by first | decide +kernel | rfl), (by first | decide +kernel | rfl)⟩⟩
theorem witness_initDone : ∃ t, BringupStep (.hbmInitDone 3) ({ unitOn 3 .hbm 0 (0) (2 ^ 25 - 2 ^ 20 + 1) with bankErrors := [(3071, 1), (3072, 2), (4096, 3)] }) t := ⟨_, .initDone _ _ ⟨_, (by first | decide +kernel | rfl), (by first | decide +kernel | rfl)⟩⟩
theorem witness_trainDone : ∃ t, BringupStep (.hbmTrainDone 3 255) (unitOn 3 .hbm 3 (0) (2 ^ 25 - 2 ^ 22 + 1)) t := ⟨_, .trainDone _ _ _ ⟨_, (by first | decide +kernel | rfl), (by first | decide +kernel | rfl)⟩ (by unfold FinalRate; decide +kernel)⟩
theorem witness_trainDoneFull : ∃ t, BringupStep (.hbmTrainDone 3 7) (unitOn 3 .hbm 3 (4) (2 ^ 25 - 2 ^ 22 + 1)) t := ⟨_, .trainDoneFull _ _ _ ⟨_, (by first | decide +kernel | rfl), (by first | decide +kernel | rfl)⟩ (by unfold FinalRate; decide +kernel)⟩
theorem witness_trainMissed : ∃ t, BringupStep (.hbmTrainLimitExpiry 3) (unitOn 3 .hbm 3 (4) (2 ^ 25 - 2 ^ 22)) t := ⟨_, .trainMissed _ _ (.inr ⟨_, (by first | decide +kernel | rfl), (by first | decide +kernel | rfl)⟩) (by first | decide +kernel | rfl)⟩
theorem witness_trainMissedServing : ∃ t, BringupStep (.hbmTrainLimitExpiry 3) (unitOn 3 .hbm 0 (2 ^ 16) (2 ^ 25 - 2 ^ 20)) t := ⟨_, .trainMissedServing _ _ (.inl ⟨_, (by first | decide +kernel | rfl), (by first | decide +kernel | rfl)⟩) (by first | decide +kernel | rfl)⟩
theorem witness_mrDone : ∃ t, BringupStep (.hbmMrDone 3) ({ unitOn 3 .mr 0 (2 ^ 38 + 63 * 2 ^ 32 + 79) (0) with bankErrors := [(4095, 255)] }) t := ⟨_, .mrDone _ _ (by first | decide +kernel | rfl) (by first | decide +kernel | rfl) (by first | decide +kernel | rfl)⟩
theorem witness_ucieDone : ∃ t, BringupStep (.ucieTrainDone 3 1) ({ ((({} : State).setReg 3 (.ucie 1) 1).setReg 17 (.ucie 0) 1) with busy := [(busyKey 3 (.ucie 1) 0, 0), (busyKey 17 (.ucie 0) 0, 0)], cycle := 2 ^ 21 - 1 }) t := ⟨_, .ucieDone _ _ _ 17 0 (by first | decide +kernel | rfl) (by first | decide +kernel | rfl) ⟨_, (by first | decide +kernel | rfl), (by first | decide +kernel | rfl)⟩ ⟨_, (by first | decide +kernel | rfl), (by first | decide +kernel | rfl)⟩⟩
theorem witness_ucieMissed : ∃ t, BringupStep (.ucieTrainLimitExpiry 3 1) (unitOn 3 (.ucie 1) 0 (1) (2 ^ 25 - 2 ^ 21)) t := ⟨_, .ucieMissed _ _ _ ⟨_, (by first | decide +kernel | rfl), (by first | decide +kernel | rfl)⟩⟩
theorem witness_pcieDone : ∃ t, BringupStep (.pcieTrainDone) (unitOn 16 .pcie 0 (1) (2 ^ 25 - 2 ^ 24 + 1)) t := ⟨_, .pcieDone _  ⟨_, (by first | decide +kernel | rfl), (by first | decide +kernel | rfl)⟩⟩
theorem witness_pcieMissed : ∃ t, BringupStep (.pcieTrainLimitExpiry) (unitOn 16 .pcie 0 (1) (2 ^ 24)) t := ⟨_, .pcieMissed _  ⟨_, (by first | decide +kernel | rfl), (by first | decide +kernel | rfl)⟩⟩
theorem witness_ualDone : ∃ t, BringupStep (.ualTrainDone 47 127) (unitOn 17 (.ual 23) 0 (1) (2 ^ 25 - 2 ^ 20 + 1)) t := ⟨_, .ualDone _ _ _ ⟨⟨(by first | decide +kernel | rfl), (by first | decide +kernel | rfl), (by first | decide +kernel | rfl)⟩, ⟨_, (by first | decide +kernel | rfl), (by first | decide +kernel | rfl)⟩, (by first | decide +kernel | rfl), (by first | decide +kernel | rfl)⟩ (by first | decide +kernel | rfl)⟩
theorem witness_ualDoneServing : ∃ t, BringupStep (.ualTrainDone 47 127) ({ unitOn 17 (.ual 23) 0 (1) (2 ^ 25 - 2 ^ 20 + 1) with uals := [(1, { serve := true })] }) t := ⟨_, .ualDoneServing _ _ _ (1, { serve := true }) ⟨⟨(by first | decide +kernel | rfl), (by first | decide +kernel | rfl), (by first | decide +kernel | rfl)⟩, ⟨_, (by first | decide +kernel | rfl), (by first | decide +kernel | rfl)⟩, (by first | decide +kernel | rfl), (by first | decide +kernel | rfl)⟩ (by first | decide +kernel | rfl) (by first | decide +kernel | rfl)⟩
theorem witness_ualMissed : ∃ t, BringupStep (.ualTrainLimitExpiry 47) (unitOn 17 (.ual 23) 0 (1) (2 ^ 25 - 2 ^ 20)) t := ⟨_, .ualMissed _ _ (by first | decide +kernel | rfl) ⟨_, (by first | decide +kernel | rfl), (by first | decide +kernel | rfl)⟩⟩
theorem witness_arbDone : ∃ t, BringupStep (.arbTestDone 7) ((unitOn 16 .arbCmd 0 1 0).setReg 16 .arbTest 6) t := ⟨_, .arbDone _ _ 1 (by first | decide +kernel | rfl) (by first | decide +kernel | rfl) (by first | decide +kernel | rfl)⟩
theorem witness_arbGood : ∃ t, BringupStep (.arbTestDone 0) ((unitOn 16 .arbCmd 0 1 0).setReg 16 .arbTest 6) t := ⟨_, .arbGood _ (by first | decide +kernel | rfl)⟩
theorem witness_coreFails : ∃ t, BringupStep (.coreTestDone 15 21 255) ({ unitOn 15 (.core 21) 0 (1) (0) with serving := true }) t := ⟨_, .coreFails _ _ _ _ _ ⟨(by first | decide +kernel | rfl), (by first | decide +kernel | rfl), (by first | decide +kernel | rfl)⟩ (by first | decide +kernel | rfl) (by first | decide +kernel | rfl) rfl (by first | decide +kernel | rfl)⟩
theorem witness_coreFailsLast : ∃ t, BringupStep (.coreTestDone 0 0 255) (testing) t := ⟨_, .coreFailsLast _ _ _ _ _ ⟨(by first | decide +kernel | rfl), (by first | decide +kernel | rfl), (by first | decide +kernel | rfl)⟩ (by first | decide +kernel | rfl) (by first | decide +kernel | rfl) rfl (by first | decide +kernel | rfl) (by first | decide +kernel | rfl) (by first | decide +kernel | rfl)⟩
theorem witness_coreDone : ∃ t, BringupStep (.coreTestDone 0 0 0) (testing) t := ⟨_, .coreDone _ _ _ _ ⟨(by first | decide +kernel | rfl), (by first | decide +kernel | rfl), (by first | decide +kernel | rfl)⟩ (by first | decide +kernel | rfl) rfl (by first | decide +kernel | rfl) (by first | decide +kernel | rfl)⟩
theorem witness_coreDoneEarly : ∃ t, BringupStep (.coreTestDone 0 0 0) (testing.setReg 0 .hbm 0) t := ⟨_, .coreDoneEarly _ _ _ _ ⟨(by first | decide +kernel | rfl), (by first | decide +kernel | rfl), (by first | decide +kernel | rfl)⟩ rfl (by first | decide +kernel | rfl)⟩
theorem witness_orgDone : ∃ t, BringupStep (.orgTestDone 15 32) (unitOn 15 .orgTest 0 (1) (0)) t := ⟨_, .orgDone _ _ _ (by first | decide +kernel | rfl) (by first | decide +kernel | rfl) (by first | decide +kernel | rfl)⟩
theorem witness_orgFails : ∃ t, BringupStep (.orgTestDone 15 33) (unitOn 15 .orgTest 0 (1) (0)) t := ⟨_, .orgFails _ _ _ (by first | decide +kernel | rfl) (by first | decide +kernel | rfl) (by first | decide +kernel | rfl)⟩
theorem witness_stored : ∃ t, BringupStep (.flashWordStored) ({ groups := [(90128, { mode := .control, pc := 64, wait := some .flash })], flashBusy := some (2 ^ 24 - 8, 2 ^ 63 + 5, 90128) }) t := ⟨_, .stored _ _ _ _ (by first | decide +kernel | rfl) (by first | decide +kernel | rfl)⟩
theorem witness_capUp : ∃ t, BringupStep (.powerCapCheck 15) ({ (({} : State).setReg 16 .cap (14 * 2 ^ 16 + 5200)) with cycle := 65536 }) t := ⟨_, .capUp _ _ (by first | decide +kernel | rfl) (by first | decide +kernel | rfl) (by first | decide +kernel | rfl) (by first | decide +kernel | rfl)⟩
theorem witness_capDown : ∃ t, BringupStep (.powerCapCheck 0) ({ (({} : State).setReg 16 .cap (15 * 2 ^ 16 + 5200)) with cycle := 65536 }) t := ⟨_, .capDown _ _ (by first | decide +kernel | rfl) (by first | decide +kernel | rfl) (by first | decide +kernel | rfl) (by first | decide +kernel | rfl)⟩
theorem witness_capHot : ∃ t, BringupStep (.powerCapCheck 0) ({ (({} : State).setReg 16 .cap 5200) with cycle := 65536, dies := [(3, { overTemp := true })] }) t := ⟨_, .capHot _ _ (by first | decide +kernel | rfl) (by first | decide +kernel | rfl) (by first | decide +kernel | rfl)⟩
theorem witness_hot : ∃ t, BringupStep (.dieOvertemp 17 115) (({} : State)) t := ⟨_, .hot _ _ _ (by first | decide +kernel | rfl) (by first | decide +kernel | rfl) (by first | decide +kernel | rfl)⟩
theorem witness_tooHot : ∃ t, BringupStep (.dieOvertemp 15 116) (({} : State)) t := ⟨_, .tooHot _ _ _ (by first | decide +kernel | rfl) (by first | decide +kernel | rfl)⟩
theorem witness_tooHotLink : ∃ t, BringupStep (.dieOvertemp 17 116) (({} : State)) t := ⟨_, .tooHotLink _ _ _ _ (by first | decide +kernel | rfl) (by first | decide +kernel | rfl) (by first | decide +kernel | rfl) rfl⟩
theorem witness_cooled : ∃ t, BringupStep (.dieOvertemp 17 105) ({ ({} : State) with dies := [(17, { overTemp := true })] }) t := ⟨_, .cooled _ _ _ (by first | decide +kernel | rfl) (by first | decide +kernel | rfl) (by first | decide +kernel | rfl)⟩
theorem witness_powerFails : ∃ t, BringupStep (.powerOn 65535 3) (State.reset) t := ⟨_, .powerFails _ _ _ (by first | decide +kernel | rfl) (by first | decide +kernel | rfl) (by first | decide +kernel | rfl)⟩
theorem witness_powerLoss : ∃ t, BringupStep (.powerLoss) ({ ({} : State) with power := true, mem := [(5, 1), (flashAddr 3, 2), (fuseAddr 1023, 3), (fuseAddr 1024, 4), (2 ^ 46, 5)], keys := [(47 * 8192 + 3, [1]), (63 * 8192, [2])] }) t := ⟨_, .powerLoss _ (by first | decide +kernel | rfl)⟩

/-- Flash holds in slot A an image of 64 bytes of code, entered at 4, whose root key's hash the fuses hold. -/
def shipped : State := { ({} : State) with mem := [(flashAddr 0x10000, 64), (flashAddr 0x10010, 4), (fuseAddr 0, 126), (fuseAddr 1, 165), (fuseAddr 2, 242), (fuseAddr 3, 234), (fuseAddr 4, 158), (fuseAddr 5, 148), (fuseAddr 6, 135), (fuseAddr 7, 222), (fuseAddr 8, 71), (fuseAddr 9, 83), (fuseAddr 10, 145), (fuseAddr 11, 139), (fuseAddr 12, 191), (fuseAddr 13, 83), (fuseAddr 14, 8), (fuseAddr 15, 235), (fuseAddr 16, 145), (fuseAddr 17, 250), (fuseAddr 18, 100), (fuseAddr 19, 24), (fuseAddr 20, 137), (fuseAddr 21, 35), (fuseAddr 22, 108), (fuseAddr 23, 85), (fuseAddr 24, 215), (fuseAddr 25, 8), (fuseAddr 26, 236), (fuseAddr 27, 180), (fuseAddr 28, 217), (fuseAddr 29, 102), (fuseAddr 30, 106), (fuseAddr 31, 54)] }
def sh1 : State := poweredOn shipped 65535
def sh2 : State := ((sh1.writeNum (flashAddr 0x40) 8 (bootEntry 0xFFFF 0 0 1 4)).writeNum (flashAddr 0) 1 1).extend 0 (sh1.bytes (fuseAddr 0) 144)
theorem sh2Good (h : ∀ k m g, Config.verify k m g = true) : sh2.imageGood 0x10000 = true := by
  unfold State.imageGood
  simp only [h, Bool.and_true]
  decide +kernel
theorem witness_powerOn (h : ∀ k m g, Config.verify k m g = true) : ∃ t, BringupStep (.powerOn 65535 0) shipped t :=
  ⟨_, .powerOn _ _ _ _ 64 rfl rfl (by decide +kernel) rfl (sh2Good h) (by decide +kernel)⟩

end Sys2Proof.Tests.WitnessBringup
end

