-- ==== Sys2Proof/Tests/WitnessEngines.lean ====
section
/-!
SUPPORT. Witnesses: for every copy and pipe rule, and every step of the copy engine and of a pipe's home, a small state in which it applies.
-/

namespace Sys2Proof.Tests.WitnessEngines

open Sys2Proof.Machine Sys2Proof.Rules

set_option Elab.async false

/-- Group 0 of a task whose region is the first 4 KiB of scratchpad, with segment 1 on it, and records of 16 bytes at team
offsets 0, 32 and 64 (the last in the global space). -/
def team0 : State :=
  { groups := [(0, { budget := 8, plan := 1, task := 1, segs := [(1, ⟨0, 4096, true, true, false, 1⟩), (2, ⟨0, 4096, true, true, false, 2⟩)],
                     s := [(2, 0), (3, 32), (4, 128), (5, 2), (6, 64), (126, 1)] })]
    tasks := [(1, { plan := 1, stage := 0, die := 0, scratchSize := 4096, running := true, groups := [0], live := [0] })] }

def recA : Rec := { base := 256, cols := 16, rows := 1, seg := 1, space := 1 }
def recB : Rec := { base := 512, cols := 16, rows := 1, seg := 1, space := 1 }
def recG : Rec := { base := 0, cols := 16, rows := 1, seg := 2, space := 2 }
def recSlot : Rec := { kind := 1, pipe := 3, seq := 0, fmt := 0 }

def withRecs : State :=
  ((team0.writeRec (scratchAddr 0 0) recA).writeRec (scratchAddr 0 32) recB).writeRec (scratchAddr 0 64) recG

/-- Queue 0 of core 0 holds the entry e. -/
def queue0 (e : Entry) : State := withRecs.setCore 0 { queues := [(0, [e])] }

def sideA : Side := { space := 1, base := scratchAddr 0 256, pitch := 16, recBase := 256 }
def sideB : Side := { space := 1, base := scratchAddr 0 512, pitch := 16, recBase := 512 }
def copyE : Entry := { kind := .copy, owner := 0, token := some 0, dst := sideA, src := sideB, rows := 1, rb := 16, obj := none, task := 1, plan := 1 }
def running (e : Entry) : Entry := { e with started := true, todo := [(0, 16)] }
def castE : Entry := { copyE with kind := .multicast 2 [1], dst := {} }
def parked1 : ParkedTile := { id := 1, startNo := 5, channel := 2, late := [1], rows := 1, rb := 16, fmt := 0, plan := 1, bytes := List.replicate 16 7, full := true }
def stream0 : Stream := ⟨0, 0, 0, 0, false⟩

/-- Pipe 3 of plan 1, with a slot in state k or none. -/
def pipe1 : Pipe := { fmt := 0, rows := 1, cols := 16, producer := 0, consumers := [0], depth := 2, resident := 1, cl := [0], ret := [[]] }
def slotOf (k : Slot) : Pipe := { pipe1 with res := 1, tail := 0, slots := [(0, k)] }
def withPipe (p : Pipe) : State := { withRecs with pipes := [(67, p)] }
def atPipe (p : Pipe) (r : Rec) : State := ((withPipe p).writeRec (scratchAddr 0 96) r).setMe { withRecs.me with s := [(2, 3), (3, 96), (126, 1)] }
/-- A copy with an object, and one of either kind with a piece to write and bytes to count. -/
def counted : Entry := { copyE with obj := some (scratchAddr 0 128) }
def carrying (e : Entry) : Entry := { e with started := true, moving := [⟨0, 0, [], 4⟩, ⟨0, 4, [9, 8, 7], 0⟩] }
/-- Core 1 has posted a readiness on channel 2. -/
def ready1 : Readiness := ⟨32, { space := 1, base := scratchAddr 1 256, pitch := 16, recBase := 256 }, 1, 16, none⟩
def receiver (s : State) : State := s.setCore 1 { ready := [(2, ready1)] }
def draining : ParkedTile := { parked1 with drain := some { core := 1, dst := ready1.dst, obj := none, todo := [(0, 16)] } }
/-- Pipe 3 homed at switch 2, with the group's request to it on port 2. -/
def farPipe : State :=
  { atPipe { slotOf { st := .committed, owner := 1, cs := [.pending] } with homeKind := 1, home := 2 } {} with
    uals := [(2, { trained := true, serve := true, flights := [(.ask 0, 0, 130)], txSeq := 1 })] }

theorem witness_cpy : ∃ t, CopyRule (.cpy true 1 2 2 3 0) (withRecs) t := ⟨_, .cpy _ _ _ _ _ _ _ _ recA recB (by first | decide +kernel | rfl) ⟨(by first | decide +kernel | rfl), rfl⟩ (by first | decide +kernel | rfl) ⟨(by first | decide +kernel | rfl), (by first | decide +kernel | rfl)⟩ (okOf (by decide +kernel))⟩
theorem witness_cpyWaits : ∃ t, CopyRule (.cpy true 1 2 2 3 0) (withRecs.setMe (withRecs.me.setToken 2 { pend := 255 })) t := ⟨_, .cpyWaits _ _ _ _ _ _ _ _ (by first | decide +kernel | rfl) ⟨(by first | decide +kernel | rfl), rfl⟩ (by first | decide +kernel | rfl) (fun h => absurd h.2 (by first | decide +kernel | rfl))⟩
theorem witness_cpyRow : ∃ t, CopyRule (.cpyRow true 2 2 6 1) (withRecs) t := ⟨_, .cpyRow _ _ _ _ _ _ _ recA recG (by first | decide +kernel | rfl) ⟨(by first | decide +kernel | rfl), rfl⟩ (by first | decide +kernel | rfl) ⟨(by first | decide +kernel | rfl), (by first | decide +kernel | rfl)⟩ (okOf (by decide +kernel)) (by first | decide +kernel | rfl) (by first | decide +kernel | rfl) (noneOf (by decide +kernel))⟩
theorem witness_cpyClose : ∃ t, CopyRule (.cpyClose true 2 1) (withRecs) t := ⟨_, .cpyClose _ _ _ _ _ (by first | decide +kernel | rfl) ⟨(by first | decide +kernel | rfl), rfl⟩ (by first | decide +kernel | rfl) ⟨(by first | decide +kernel | rfl), (by first | decide +kernel | rfl)⟩⟩
theorem witness_cpyMc : ∃ t, CopyRule (.cpyMc true 1 2 5 3 0) (withRecs) t := ⟨_, .cpyMc _ _ _ _ _ _ _ _ recB [1] (by first | decide +kernel | rfl) ⟨(by first | decide +kernel | rfl), rfl⟩ (by first | decide +kernel | rfl) ⟨(by first | decide +kernel | rfl), (by first | decide +kernel | rfl)⟩ (by first | decide +kernel | rfl) (by first | decide +kernel | rfl) (by first | decide +kernel | rfl) (by first | decide +kernel | rfl) (okOf (by decide +kernel)) (by first | decide +kernel | rfl) (by first | decide +kernel | rfl) (by first | decide +kernel | rfl) (by first | decide +kernel | rfl)⟩
theorem witness_qfence : ∃ t, CopyRule (.qfence true 2 9) (withRecs) t := ⟨_, .qfence _ _ _ _ _ [0, 3] (by first | decide +kernel | rfl) ⟨(by first | decide +kernel | rfl), rfl⟩ (by first | decide +kernel | rfl) (by first | decide +kernel | rfl) (by first | decide +kernel | rfl) (by unfold MayEnter; decide +kernel)⟩
theorem witness_kwait : ∃ t, CopyRule (.kwait true 255) (withRecs) t := ⟨_, .kwait _ _ _ _ (by first | decide +kernel | rfl) ⟨(by first | decide +kernel | rfl), rfl⟩ (by first | decide +kernel | rfl) (by unfold TokensDone; decide +kernel) (by first | decide +kernel | rfl)⟩
theorem witness_kwaitBlocks : ∃ t, CopyRule (.kwait true 1) (withRecs.setMe (withRecs.me.setToken 0 { pend := 1 })) t := ⟨_, .kwaitBlocks _ _ _ _ (by first | decide +kernel | rfl) ⟨(by first | decide +kernel | rfl), rfl⟩ (by first | decide +kernel | rfl) (by unfold TokensDone; decide +kernel)⟩
theorem witness_kwaitObj : ∃ t, CopyRule (.kwaitObj true 7 4 1) (withRecs) t := ⟨_, .kwaitObj _ _ _ _ _ _ (scratchAddr 0 128) (by first | decide +kernel | rfl) (by unfold HasRoom; decide +kernel) ⟨(by first | decide +kernel | rfl), rfl⟩ (by unfold HasRoom; decide +kernel) (by first | decide +kernel | rfl) ⟨(by first | decide +kernel | rfl), (by first | decide +kernel | rfl), (by first | decide +kernel | rfl), (by first | decide +kernel | rfl), (by first | decide +kernel | rfl), (by first | decide +kernel | rfl), (by first | decide +kernel | rfl)⟩ (by first | decide +kernel | rfl)⟩
theorem witness_kwaitObjFault : ∃ t, CopyRule (.kwaitObj true 7 4 1) (withRecs.writeNum (scratchAddr 0 128) 8 (2 ^ 32 + 5)) t := ⟨_, .kwaitObj _ _ _ _ _ _ (scratchAddr 0 128) (by first | decide +kernel | rfl) (by unfold HasRoom; decide +kernel) ⟨(by first | decide +kernel | rfl), rfl⟩ (by unfold HasRoom; decide +kernel) (by first | decide +kernel | rfl) ⟨(by first | decide +kernel | rfl), (by first | decide +kernel | rfl), (by first | decide +kernel | rfl), (by first | decide +kernel | rfl), (by first | decide +kernel | rfl), (by first | decide +kernel | rfl), (by first | decide +kernel | rfl)⟩ (by first | decide +kernel | rfl)⟩
theorem witness_kwaitObjBlocks : ∃ t, CopyRule (.kwaitObj true 7 4 1) (withRecs.writeNum (scratchAddr 0 128) 8 5) t := ⟨_, .kwaitObjBlocks _ _ _ _ _ _ (scratchAddr 0 128) (by first | decide +kernel | rfl) (by unfold HasRoom; decide +kernel) ⟨(by first | decide +kernel | rfl), rfl⟩ (by unfold HasRoom; decide +kernel) (by first | decide +kernel | rfl) ⟨(by first | decide +kernel | rfl), (by first | decide +kernel | rfl), (by first | decide +kernel | rfl), (by first | decide +kernel | rfl), (by first | decide +kernel | rfl), (by first | decide +kernel | rfl), (by first | decide +kernel | rfl)⟩ (by first | decide +kernel | rfl) (by first | decide +kernel | rfl)⟩
theorem witness_mcready : ∃ t, CopyRule (.mcready true 5 3 4) (withRecs) t := ⟨_, .mcready _ _ _ _ _ _ recB (by first | decide +kernel | rfl) ⟨(by first | decide +kernel | rfl), rfl⟩ (by first | decide +kernel | rfl) (by first | decide +kernel | rfl) (by first | decide +kernel | rfl) (okOf (by decide +kernel)) (by first | decide +kernel | rfl) (by first | decide +kernel | rfl) (by first | decide +kernel | rfl) (by first | decide +kernel | rfl) (by first | decide +kernel | rfl) (by first | decide +kernel | rfl)⟩
theorem witness_start : ∃ t, CopyStep (.copyEntryStart 0 0) (queue0 copyE) t := ⟨_, .start _ _ _ copyE (by first | decide +kernel | rfl) (by first | decide +kernel | rfl) (by first | decide +kernel | rfl)⟩
theorem witness_startRow : ∃ t, CopyStep (.copyEntryStart 0 0) (withRecs.setCore 0 { queues := [(0, [{ copyE with kind := .row }])], streams := [(0, stream0)] }) t := ⟨_, .startRow _ _ _ { copyE with kind := .row } stream0 (by first | decide +kernel | rfl) (by first | decide +kernel | rfl) (by first | decide +kernel | rfl) (by first | decide +kernel | rfl) (by first | decide +kernel | rfl)⟩
theorem witness_piece : ∃ t, CopyStep (.copyPiece 0 0 4) (queue0 (running copyE)) t := ⟨_, .piece _ (queue0 (running copyE)) _ _ _ 16 (running copyE) ((queue0 (running copyE)).bytes (scratchAddr 0 516) 12) ⟨(by first | decide +kernel | rfl), (by first | decide +kernel | rfl), (by first | decide +kernel | rfl), (by first | decide +kernel | rfl), (by first | decide +kernel | rfl)⟩ (by first | decide +kernel | rfl) (by first | decide +kernel | rfl) (by first | decide +kernel | rfl) (okOf (by decide +kernel))⟩
theorem witness_pieceWritten : ∃ t, CopyStep (.copyPiece 0 0 (2 ^ 32 + 1)) (queue0 (carrying copyE)) t := ⟨_, .pieceWritten _ ((queue0 (carrying copyE)).writePiece {} 0 (scratchAddr 0 260) [9, 8, 7]) _ _ 1 3 (carrying copyE) ⟨0, 4, [9, 8, 7], 0⟩ ⟨(by first | decide +kernel | rfl), (by first | decide +kernel | rfl), (by first | decide +kernel | rfl), (by first | decide +kernel | rfl), (by first | decide +kernel | rfl)⟩ (by first | decide +kernel | rfl) (by first | decide +kernel | rfl) (by first | decide +kernel | rfl) (by first | decide +kernel | rfl) (by first | decide +kernel | rfl) (by first | decide +kernel | rfl) (by first | decide +kernel | rfl) (okOf (by decide +kernel))⟩
theorem witness_pieceToCount : ∃ t, CopyStep (.copyPiece 0 0 (2 ^ 32 + 1)) (queue0 (carrying counted)) t := ⟨_, .pieceToCount _ ((queue0 (carrying counted)).writePiece {} 0 (scratchAddr 0 260) [9, 8, 7]) _ _ 1 3 (scratchAddr 0 128) (carrying counted) ⟨0, 4, [9, 8, 7], 0⟩ ⟨(by first | decide +kernel | rfl), (by first | decide +kernel | rfl), (by first | decide +kernel | rfl), (by first | decide +kernel | rfl), (by first | decide +kernel | rfl)⟩ (by first | decide +kernel | rfl) (by first | decide +kernel | rfl) (by first | decide +kernel | rfl) (by first | decide +kernel | rfl) (by first | decide +kernel | rfl) (by first | decide +kernel | rfl) (by first | decide +kernel | rfl) (okOf (by decide +kernel))⟩
theorem witness_pieceCounted : ∃ t, CopyStep (.copyPiece 0 0 (2 ^ 32)) (queue0 (carrying counted)) t := ⟨_, .pieceCounted _ _ _ 0 (carrying counted) ⟨0, 0, [], 4⟩ ⟨(by first | decide +kernel | rfl), (by first | decide +kernel | rfl), (by first | decide +kernel | rfl), (by first | decide +kernel | rfl), (by first | decide +kernel | rfl)⟩ (by first | decide +kernel | rfl) (by first | decide +kernel | rfl) (by first | decide +kernel | rfl)⟩
theorem witness_pieceFails : ∃ t, CopyStep (.copyPiece 0 0 4) ({ queue0 (running copyE) with bad := [(scratchAddr 0 519, 1)] }) t := ⟨_, .pieceFails _ _ _ _ 16 8 (running copyE) ⟨(by first | decide +kernel | rfl), (by first | decide +kernel | rfl), (by first | decide +kernel | rfl), (by first | decide +kernel | rfl), (by first | decide +kernel | rfl)⟩ (by first | decide +kernel | rfl) (by first | decide +kernel | rfl) (by first | decide +kernel | rfl) (errOf (by decide +kernel))⟩
theorem witness_complete : ∃ t, CopyStep (.copyEntryComplete 0 0) (queue0 { running copyE with todo := [] }) t := ⟨_, .complete _ _ _ { running copyE with todo := [] } (by first | decide +kernel | rfl) (by first | decide +kernel | rfl) (by first | decide +kernel | rfl) (.inr (by first | decide +kernel | rfl)) (by first | decide +kernel | rfl)⟩
theorem witness_completeStopped : ∃ t, CopyStep (.copyEntryComplete 0 0) (queue0 { running copyE with stopped := true }) t := ⟨_, .complete _ _ _ { running copyE with stopped := true } (by first | decide +kernel | rfl) (by first | decide +kernel | rfl) (by first | decide +kernel | rfl) (.inl (by first | decide +kernel | rfl)) (by first | decide +kernel | rfl)⟩
theorem witness_objectWake : ∃ t, CopyStep (.kwaitObjWake 0) (withRecs.setMe { withRecs.me with wait := some (.woken (some 7) 1 none) }) t := ⟨_, .objectWake _ _ 7 1 none (by first | decide +kernel | rfl)⟩
theorem witness_objectWakeFault : ∃ t, CopyStep (.kwaitObjWake 0) (withRecs.setMe { withRecs.me with wait := some (.woken (some 7) 0 (some { kind := 1 })) }) t := ⟨_, .objectWakeFault _ _ 0 (some 7) { kind := 1 } none (by first | decide +kernel | rfl)⟩
theorem witness_fenceHead : ∃ t, CopyStep (.fenceEntryHead 0 0) (queue0 { copyE with kind := .fence 9 }) t := ⟨_, .fenceHead _ _ _ 9 { copyE with kind := .fence 9 } (by first | decide +kernel | rfl) (by first | decide +kernel | rfl) (by first | decide +kernel | rfl) (by first | decide +kernel | rfl) (by first | decide +kernel | rfl) (by first | decide +kernel | rfl)⟩
theorem witness_sort : ∃ t, CopyStep (.multicastSort 0 0) (queue0 (running castE)) t := ⟨_, .sort _ _ _ 2 (running castE) [1] ⟨(by first | decide +kernel | rfl), (by first | decide +kernel | rfl), (by first | decide +kernel | rfl), (by first | decide +kernel | rfl)⟩ (by first | decide +kernel | rfl) (by first | decide +kernel | rfl) (by unfold CastFits; decide +kernel)⟩
theorem witness_sortReady : ∃ t, CopyStep (.multicastSort 0 0) (receiver (queue0 (running castE))) t := ⟨_, .sort _ _ _ 2 (running castE) [1] ⟨(by first | decide +kernel | rfl), (by first | decide +kernel | rfl), (by first | decide +kernel | rfl), (by first | decide +kernel | rfl)⟩ (by first | decide +kernel | rfl) (by first | decide +kernel | rfl) (by unfold CastFits; decide +kernel)⟩
theorem witness_sortWaits : ∃ t, CopyStep (.multicastSort 0 0) ((queue0 (running castE)).setCluster 0 { parked := [{ parked1 with rows := 1024, rb := 64 }] }) t := ⟨_, .sortWaits _ _ _ 2 (running castE) [1] ⟨(by first | decide +kernel | rfl), (by first | decide +kernel | rfl), (by first | decide +kernel | rfl), (by first | decide +kernel | rfl)⟩ (by first | decide +kernel | rfl) (by first | decide +kernel | rfl) (by unfold CastFits; decide +kernel)⟩
theorem witness_resort : ∃ t, CopyStep (.multicastResort 0 0) (queue0 { running castE with tried := true }) t := ⟨_, .resort _ _ _ 2 { running castE with tried := true } [1] ⟨(by first | decide +kernel | rfl), (by first | decide +kernel | rfl), (by first | decide +kernel | rfl), (by first | decide +kernel | rfl)⟩ (by first | decide +kernel | rfl) (by unfold CastFits; decide +kernel)⟩
theorem witness_ackLate : ∃ t, CopyStep (.multicastAck 0 0 1) (queue0 { castE with started := true, sorted := true, late := [1], obj := some (scratchAddr 0 128) }) t := ⟨_, .ackLate _ _ _ _ 2 { castE with started := true, sorted := true, late := [1], obj := some (scratchAddr 0 128) } [1] (by first | decide +kernel | rfl) (by first | decide +kernel | rfl) (by first | decide +kernel | rfl) (by first | decide +kernel | rfl) (by first | decide +kernel | rfl) (by first | decide +kernel | rfl) (by first | decide +kernel | rfl) (by first | decide +kernel | rfl) (by first | decide +kernel | rfl)⟩
theorem witness_ack : ∃ t, CopyStep (.multicastAck 0 0 1) (receiver (queue0 { castE with started := true, sorted := true, obj := some (scratchAddr 0 128) })) t := ⟨_, .ack _ _ _ _ 2 { castE with started := true, sorted := true, obj := some (scratchAddr 0 128) } [1] ready1 (by first | decide +kernel | rfl) (by first | decide +kernel | rfl) (by first | decide +kernel | rfl) (by first | decide +kernel | rfl) (by first | decide +kernel | rfl) (by first | decide +kernel | rfl) (by first | decide +kernel | rfl) (by first | decide +kernel | rfl) (by first | decide +kernel | rfl) (by first | decide +kernel | rfl) (by first | decide +kernel | rfl)⟩
theorem witness_drainStart : ∃ t, CopyStep (.holdingBufferDrain 0 0 0) ((receiver withRecs).setCluster 0 { parked := [parked1] }) t := ⟨_, .drainStart _ _ _ _ 1 parked1 ready1 (by first | decide +kernel | rfl) (by first | decide +kernel | rfl) (by first | decide +kernel | rfl) (by first | decide +kernel | rfl) (by first | decide +kernel | rfl) (by first | decide +kernel | rfl)⟩
theorem witness_drain_tile : ∃ t, CopyStep (.holdingBufferDrain 0 0 4) (withRecs.setCluster 0 { parked := [draining] }) t := ⟨_, .drain _ ((withRecs.setCluster 0 { parked := [draining] }).writePiece {} 0 (scratchAddr 1 260) (List.replicate 12 7)) _ _ _ 16 12 draining { core := 1, dst := ready1.dst, obj := none, todo := [(0, 16)] } (by first | decide +kernel | rfl) (by first | decide +kernel | rfl) (by first | decide +kernel | rfl) (by first | decide +kernel | rfl) (by first | decide +kernel | rfl) (by first | decide +kernel | rfl) (okOf (by decide +kernel))⟩
theorem witness_drained : ∃ t, CopyStep (.holdingBufferDrain 0 0 0) ((receiver withRecs).setCluster 0 { parked := [{ parked1 with drain := some { core := 1, dst := ready1.dst, obj := none, todo := [] } }] }) t := ⟨_, .drained _ _ _ _ { parked1 with drain := some { core := 1, dst := ready1.dst, obj := none, todo := [] } } { core := 1, dst := ready1.dst, obj := none, todo := [] } ready1 (by first | decide +kernel | rfl) (by first | decide +kernel | rfl) (by first | decide +kernel | rfl) (by first | decide +kernel | rfl) (by first | decide +kernel | rfl) (by first | decide +kernel | rfl) (by first | decide +kernel | rfl)⟩
theorem witness_close : ∃ t, CopyStep (.bulkStreamClose 0 0) (withRecs.setCore 0 { queues := [(0, [{ copyE with kind := .close }])], streams := [(0, stream0)] }) t := ⟨_, .close _ _ _ { copyE with kind := .close } (by first | decide +kernel | rfl) (by first | decide +kernel | rfl) (by first | decide +kernel | rfl)⟩
theorem witness_timeout : ∃ t, CopyStep (.bulkStreamTimeout 0 0) ({ withRecs.setCore 0 { streams := [(0, stream0)] } with cycle := 65537 }) t := ⟨_, .timeout _ _ _ stream0 (by first | decide +kernel | rfl) (by first | decide +kernel | rfl) (by first | decide +kernel | rfl) (by first | decide +kernel | rfl)⟩
theorem witness_timeoutStops : ∃ t, CopyStep (.bulkStreamTimeout 0 0) ({ withRecs.setCore 0 { queues := [(0, [{ running copyE with kind := .row }])], streams := [(0, stream0)] } with cycle := 65537 }) t := ⟨_, .timeoutStops _ _ _ stream0 { running copyE with kind := .row } (by first | decide +kernel | rfl) (by first | decide +kernel | rfl) (by first | decide +kernel | rfl) (by first | decide +kernel | rfl) (by first | decide +kernel | rfl) (by first | decide +kernel | rfl) (by first | decide +kernel | rfl)⟩
theorem witness_preserve : ∃ t, PipeRule (.preserve true 7 2 3) (atPipe pipe1 {}) t := ⟨_, .preserve _ _ _ _ _ _ _ 3 0 pipe1 (by first | decide +kernel | rfl) (by unfold HasRoom; decide +kernel) ⟨(by first | decide +kernel | rfl), rfl⟩ (by first | decide +kernel | rfl) ⟨(by first | decide +kernel | rfl), (by first | decide +kernel | rfl), (by first | decide +kernel | rfl), (by first | decide +kernel | rfl), (by first | decide +kernel | rfl)⟩ ⟨(by first | decide +kernel | rfl), rfl⟩ ⟨(by first | decide +kernel | rfl), (by first | decide +kernel | rfl)⟩ (by first | decide +kernel | rfl) (by first | decide +kernel | rfl) (by first | decide +kernel | rfl)⟩
theorem witness_preserveBlocks : ∃ t, PipeRule (.preserve true 7 2 3) (atPipe ({ pipe1 with res := 2, slots := [(0, {}), (1, { loc := .spill })] }) {}) t := ⟨_, .preserveBlocks _ _ _ _ _ _ _ 3 0 ({ pipe1 with res := 2, slots := [(0, {}), (1, { loc := .spill })] }) (by first | decide +kernel | rfl) (by unfold HasRoom; decide +kernel) ⟨(by first | decide +kernel | rfl), rfl⟩ (by first | decide +kernel | rfl) ⟨(by first | decide +kernel | rfl), (by first | decide +kernel | rfl), (by first | decide +kernel | rfl), (by first | decide +kernel | rfl), (by first | decide +kernel | rfl)⟩ ⟨(by first | decide +kernel | rfl), rfl⟩ ⟨(by first | decide +kernel | rfl), (by first | decide +kernel | rfl)⟩ (by first | decide +kernel | rfl) (by first | decide +kernel | rfl) (by first | decide +kernel | rfl)⟩
theorem witness_pcommit : ∃ t, PipeRule (.pcommit true 3) (atPipe (slotOf { owner := 1, cs := [.pending] }) recSlot) t := ⟨_, .pcommit _ _ _ _ _ recSlot (slotOf { owner := 1, cs := [.pending] }) 0 { owner := 1, cs := [.pending] } (by first | decide +kernel | rfl) ⟨(by first | decide +kernel | rfl), rfl⟩ (by first | decide +kernel | rfl) ⟨⟨(by first | decide +kernel | rfl), (by first | decide +kernel | rfl)⟩, (by first | decide +kernel | rfl), (by first | decide +kernel | rfl), (by first | decide +kernel | rfl), (by first | decide +kernel | rfl), (by first | decide +kernel | rfl), (by first | decide +kernel | rfl), (by first | decide +kernel | rfl), (by first | decide +kernel | rfl)⟩ ⟨(by first | decide +kernel | rfl), rfl⟩ (by first | decide +kernel | rfl) (by first | decide +kernel | rfl)⟩
theorem witness_pclaim : ∃ t, PipeRule (.pclaim true 7 2 3) (atPipe (slotOf { st := .committed, owner := 1, cs := [.pending] }) {}) t := ⟨_, .pclaim _ _ _ _ _ _ _ 3 0 0 (slotOf { st := .committed, owner := 1, cs := [.pending] }) (by first | decide +kernel | rfl) (by unfold HasRoom; decide +kernel) ⟨(by first | decide +kernel | rfl), rfl⟩ (by first | decide +kernel | rfl) ⟨(by first | decide +kernel | rfl), (by first | decide +kernel | rfl), (by first | decide +kernel | rfl), (by first | decide +kernel | rfl), (by first | decide +kernel | rfl)⟩ ⟨(by first | decide +kernel | rfl), rfl⟩ ⟨(by first | decide +kernel | rfl), (by first | decide +kernel | rfl)⟩ (by first | decide +kernel | rfl) (by first | decide +kernel | rfl)⟩
theorem witness_pclaimNone : ∃ t, PipeRule (.pclaim true 7 2 3) (atPipe pipe1 {}) t := ⟨_, .pclaimNone _ _ _ _ _ _ _ 3 0 pipe1 (by first | decide +kernel | rfl) (by unfold HasRoom; decide +kernel) ⟨(by first | decide +kernel | rfl), rfl⟩ (by first | decide +kernel | rfl) ⟨(by first | decide +kernel | rfl), (by first | decide +kernel | rfl), (by first | decide +kernel | rfl), (by first | decide +kernel | rfl), (by first | decide +kernel | rfl)⟩ ⟨(by first | decide +kernel | rfl), rfl⟩ ⟨(by first | decide +kernel | rfl), (by first | decide +kernel | rfl)⟩ (by first | decide +kernel | rfl) (by first | decide +kernel | rfl)⟩
theorem witness_prelease : ∃ t, PipeRule (.prelease true 3) (atPipe (slotOf { st := .committed, owner := 1, cs := [.claimed 1] }) { recSlot with dir := true }) t := ⟨_, .prelease _ _ _ _ _ { recSlot with dir := true } (slotOf { st := .committed, owner := 1, cs := [.claimed 1] }) 0 { st := .committed, owner := 1, cs := [.claimed 1] } (by first | decide +kernel | rfl) ⟨(by first | decide +kernel | rfl), rfl⟩ (by first | decide +kernel | rfl) ⟨⟨(by first | decide +kernel | rfl), (by first | decide +kernel | rfl)⟩, (by first | decide +kernel | rfl), (by first | decide +kernel | rfl), (by first | decide +kernel | rfl), (by first | decide +kernel | rfl), (by first | decide +kernel | rfl), (by first | decide +kernel | rfl), (by first | decide +kernel | rfl), (by first | decide +kernel | rfl)⟩ ⟨(by first | decide +kernel | rfl), rfl⟩ (by first | decide +kernel | rfl)⟩
theorem witness_pquery : ∃ t, PipeRule (.pquery true 7 2) (atPipe (slotOf { st := .committed, owner := 1, cs := [.pending] }) {}) t := ⟨_, .pquery _ _ _ _ _ _ 3 0 (slotOf { st := .committed, owner := 1, cs := [.pending] }) (by first | decide +kernel | rfl) (by unfold HasRoom; decide +kernel) ⟨(by first | decide +kernel | rfl), rfl⟩ (by first | decide +kernel | rfl) ⟨(by first | decide +kernel | rfl), (by first | decide +kernel | rfl), (by first | decide +kernel | rfl), (by first | decide +kernel | rfl), (by first | decide +kernel | rfl)⟩ ⟨(by first | decide +kernel | rfl), rfl⟩ (by first | decide +kernel | rfl)⟩
theorem witness_pqueryFar : ∃ t, PipeRule (.pquery true 7 2) (farPipe) t := ⟨_, .pquery _ _ _ _ _ _ 3 0 { slotOf { st := .committed, owner := 1, cs := [.pending] } with homeKind := 1, home := 2 } (by first | decide +kernel | rfl) (by unfold HasRoom; decide +kernel) ⟨(by first | decide +kernel | rfl), rfl⟩ (by first | decide +kernel | rfl) ⟨(by first | decide +kernel | rfl), (by first | decide +kernel | rfl), (by first | decide +kernel | rfl), (by first | decide +kernel | rfl), (by first | decide +kernel | rfl)⟩ ⟨(by first | decide +kernel | rfl), rfl⟩ (by first | decide +kernel | rfl)⟩
theorem witness_refillStart : ∃ t, PipeStep (.pipeRefillStart 1 3) (withPipe (slotOf { st := .committed, loc := .spill, cs := [.pending] })) t := ⟨_, .refillStart _ _ _ 0 (slotOf { st := .committed, loc := .spill, cs := [.pending] }) (by first | decide +kernel | rfl) (by first | decide +kernel | rfl) (by first | decide +kernel | rfl)⟩
theorem witness_refillComplete : ∃ t, PipeStep (.pipeRefillComplete 1 3) (withPipe (slotOf { st := .committed, loc := .refill, cs := [.pending] })) t := ⟨_, .refillComplete _ _ _ (slotOf { st := .committed, loc := .refill, cs := [.pending] }) (0, { st := .committed, loc := .refill, cs := [.pending] }) (by first | decide +kernel | rfl) (by first | decide +kernel | rfl)⟩
theorem witness_unblock : ∃ t, PipeStep (.preserveUnblock 0) ((withPipe pipe1).setMe { withRecs.me with wait := some (.pipeFree 3 7 (scratchAddr 0 96)) }) t := ⟨_, .unblock _ _ 3 7 (scratchAddr 0 96) pipe1 (by first | decide +kernel | rfl) (by first | decide +kernel | rfl) (by first | decide +kernel | rfl)⟩

end Sys2Proof.Tests.WitnessEngines
end

