-- ==== Sys2Proof/Tests/WitnessJoin.lean ====
section
/-!
SUPPORT. Witnesses: for every rule of the send instructions and of pattern control, and every step of a join unit, a small state in which it applies.
-/

namespace Sys2Proof.Tests.WitnessJoin

open Sys2Proof.Machine Sys2Proof.Rules

set_option Elab.async false

/-- Group 0 runs task 1 of plan 1; port 5 of die 0 is a message port of that plan, and pattern 3 watches it. -/
def join0 : State :=
  { groups := [(0, { budget := 8, plan := 1, task := 1, s := [(2, 5 + 2 ^ 32 * 9), (3, 3), (4, 2 ^ 23 + 5), (5, 6), (6, 100), (7, 200)] })]
    tasks := [(1, { plan := 1, stage := 0, die := 0, scratchSize := 4096, running := true, groups := [0], live := [0] })]
    plans := [(1, { state := .running, tenant := 2 })]
    nextTask := 2 }

def task1 : Task := { plan := 1, stage := 0, die := 0, scratchSize := 4096, running := true, groups := [0], live := [0] }
def port5 : Port := { plan := 1, depth := 4 }
def pattern3 : Pattern := { plan := 1, ports := [5], role := 0, stage := 0, pfmask := 0, prio := 1, pfbase := 0, recbase := 0, disabled := false }
def msg1 : Message := { lo := 100, hi := 200, tag := 9 }
def withPort (p : Port) (q : Pattern) : State := { join0 with ports := [(5, p)], patterns := [(3, q)] }
def farPlan : Plan := { state := .running, tenant := 2, faultPort := 2 ^ 23 + 5, pending := [(3, { detail := 1, detail2 := 2 })] }
/-- The event of a plan whose fault port is on device 1 has gone out on port 4. -/
def farEvent : State :=
  { join0 with plans := [(1, farPlan)], uals := [(4, { trained := true, everTrained := true, serve := true, flights := [(.event 1, 0, 1)], txSeq := 1 })] }
def inSup (s : State) : State := s.setMe { s.me with mode := .supervisor }
def waiting (s : State) (w : Wait) : State := s.setMe { s.me with wait := some w }

theorem witness_send : ∃ t, JoinRule (.send true 2 6) (withPort port5 pattern3) t := ⟨_, .send _ _ _ _ _ 5 (by first | decide +kernel | rfl) ⟨(by first | decide +kernel | rfl), rfl⟩ ⟨(by first | decide +kernel | rfl), (by first | decide +kernel | rfl), (by first | decide +kernel | rfl), (by first | decide +kernel | rfl)⟩ (by first | decide +kernel | rfl) (by first | decide +kernel | rfl)⟩
theorem witness_sendw : ∃ t, JoinRule (.sendw true 8 2 6) (withPort port5 pattern3) t := ⟨_, .sendw _ _ _ _ _ _ 5 (by first | decide +kernel | rfl) (by unfold HasRoom; decide +kernel) ⟨(by first | decide +kernel | rfl), rfl⟩ ⟨(by first | decide +kernel | rfl), (by first | decide +kernel | rfl), (by first | decide +kernel | rfl), (by first | decide +kernel | rfl)⟩ (by first | decide +kernel | rfl) (by first | decide +kernel | rfl)⟩
theorem witness_sendRemote : ∃ t, JoinRule (.send true 4 6) ({ join0 with uals := [(0, { everTrained := true })] }) t := ⟨_, .sendRemote _ _ _ _ _ (2 ^ 23 + 5) (by first | decide +kernel | rfl) ⟨(by first | decide +kernel | rfl), rfl⟩ ⟨(by first | decide +kernel | rfl), (by first | decide +kernel | rfl), (by first | decide +kernel | rfl), (by first | decide +kernel | rfl)⟩ (by first | decide +kernel | rfl) (by first | decide +kernel | rfl) (by first | decide +kernel | rfl) (by first | decide +kernel | rfl)⟩
theorem witness_sendwRemote : ∃ t, JoinRule (.sendw true 8 4 6) ({ join0 with uals := [(0, { everTrained := true })] }) t := ⟨_, .sendwRemote _ _ _ _ _ _ (2 ^ 23 + 5) (by first | decide +kernel | rfl) (by unfold HasRoom; decide +kernel) ⟨(by first | decide +kernel | rfl), rfl⟩ ⟨(by first | decide +kernel | rfl), (by first | decide +kernel | rfl), (by first | decide +kernel | rfl), (by first | decide +kernel | rfl)⟩ (by first | decide +kernel | rfl) (by first | decide +kernel | rfl) (by first | decide +kernel | rfl) (by first | decide +kernel | rfl)⟩
theorem witness_pportq : ∃ t, JoinRule (.pportq true 8 5) ({ join0 with ports := [(6, { port5 with msgs := [msg1] })] }) t := ⟨_, .pportq _ _ _ _ 6 (by first | decide +kernel | rfl) (by unfold HasRoom; decide +kernel) ⟨(by first | decide +kernel | rfl), (by first | decide +kernel | rfl), (by first | decide +kernel | rfl), (by first | decide +kernel | rfl)⟩ (by first | decide +kernel | rfl)⟩
theorem witness_sendNowhere : ∃ t, JoinRule (.send true 4 6) (join0) t := ⟨_, .sendNowhere _ _ _ _ _ (2 ^ 23 + 5) (by first | decide +kernel | rfl) ⟨(by first | decide +kernel | rfl), rfl⟩ ⟨(by first | decide +kernel | rfl), (by first | decide +kernel | rfl), (by first | decide +kernel | rfl), (by first | decide +kernel | rfl)⟩ (by first | decide +kernel | rfl) (by first | decide +kernel | rfl) (by first | decide +kernel | rfl)⟩
theorem witness_pportqRemote : ∃ t, JoinRule (.pportq true 8 4) ({ join0 with uals := [(0, { everTrained := true })] }) t := ⟨_, .pportqRemote _ _ _ _ (2 ^ 23 + 5) (by first | decide +kernel | rfl) (by unfold HasRoom; decide +kernel) ⟨(by first | decide +kernel | rfl), (by first | decide +kernel | rfl), (by first | decide +kernel | rfl), (by first | decide +kernel | rfl)⟩ (by first | decide +kernel | rfl) (by first | decide +kernel | rfl) (by first | decide +kernel | rfl)⟩
theorem witness_pportqNowhere : ∃ t, JoinRule (.pportq true 8 4) (join0) t := ⟨_, .pportqNowhere _ _ _ _ (2 ^ 23 + 5) (by first | decide +kernel | rfl) (by unfold HasRoom; decide +kernel) ⟨(by first | decide +kernel | rfl), (by first | decide +kernel | rfl), (by first | decide +kernel | rfl), (by first | decide +kernel | rfl)⟩ (by first | decide +kernel | rfl) (by first | decide +kernel | rfl)⟩
theorem witness_sendLost : ∃ t, JoinRule (.send true 4 6) ({ join0 with uals := [(0, { everTrained := true })], devLost0 := 2 }) t := ⟨_, .sendLost _ _ _ _ _ (2 ^ 23 + 5) (by first | decide +kernel | rfl) ⟨(by first | decide +kernel | rfl), rfl⟩ ⟨(by first | decide +kernel | rfl), (by first | decide +kernel | rfl), (by first | decide +kernel | rfl), (by first | decide +kernel | rfl)⟩ (by first | decide +kernel | rfl) (by first | decide +kernel | rfl) (by first | decide +kernel | rfl) (by first | decide +kernel | rfl)⟩
theorem witness_sendwLost : ∃ t, JoinRule (.sendw true 8 4 6) ({ join0 with uals := [(0, { everTrained := true })], devLost0 := 2 }) t := ⟨_, .sendwLost _ _ _ _ _ _ (2 ^ 23 + 5) (by first | decide +kernel | rfl) (by unfold HasRoom; decide +kernel) ⟨(by first | decide +kernel | rfl), rfl⟩ ⟨(by first | decide +kernel | rfl), (by first | decide +kernel | rfl), (by first | decide +kernel | rfl), (by first | decide +kernel | rfl)⟩ (by first | decide +kernel | rfl) (by first | decide +kernel | rfl) (by first | decide +kernel | rfl) (by first | decide +kernel | rfl)⟩
theorem witness_pportqLost : ∃ t, JoinRule (.pportq true 8 4) ({ join0 with uals := [(0, { everTrained := true })], devLost0 := 2 }) t := ⟨_, .pportqLost _ _ _ _ (2 ^ 23 + 5) (by first | decide +kernel | rfl) (by unfold HasRoom; decide +kernel) ⟨(by first | decide +kernel | rfl), (by first | decide +kernel | rfl), (by first | decide +kernel | rfl), (by first | decide +kernel | rfl)⟩ (by first | decide +kernel | rfl) (by first | decide +kernel | rfl) (by first | decide +kernel | rfl)⟩
theorem witness_jen : ∃ t, JoinRule (.jen true 3) (inSup (withPort { port5 with msgs := [msg1] } { pattern3 with disabled := true })) t := ⟨_, .jen _ _ _ _ { pattern3 with disabled := true } (by first | decide +kernel | rfl) ⟨(by first | decide +kernel | rfl), rfl⟩ (by first | decide +kernel | rfl) (by first | decide +kernel | rfl) (by first | decide +kernel | rfl) (by first | decide +kernel | rfl) (by first | decide +kernel | rfl) (by first | decide +kernel | rfl)⟩
theorem witness_jenAgain : ∃ t, JoinRule (.jen true 3) (inSup (withPort port5 pattern3)) t := ⟨_, .jenAgain _ _ _ _ pattern3 (by first | decide +kernel | rfl) ⟨(by first | decide +kernel | rfl), rfl⟩ (by first | decide +kernel | rfl) (by first | decide +kernel | rfl) (by first | decide +kernel | rfl) (by first | decide +kernel | rfl) (by first | decide +kernel | rfl) (by first | decide +kernel | rfl)⟩
theorem witness_jdis : ∃ t, JoinRule (.jdis true 3) (inSup (withPort port5 { pattern3 with heldSince := some 1 })) t := ⟨_, .jdis _ _ _ _ (by first | decide +kernel | rfl) ⟨(by first | decide +kernel | rfl), rfl⟩ (by first | decide +kernel | rfl) (by first | decide +kernel | rfl) (by first | decide +kernel | rfl) (by first | decide +kernel | rfl)⟩
theorem witness_admitted : ∃ t, JoinStep (.messageAdmission 0) (waiting (withPort port5 pattern3) (.sending 5 msg1 none)) t := ⟨_, .admitted _ _ 5 msg1 port5 (by first | decide +kernel | rfl) (by first | decide +kernel | rfl) (by unfold NoneDue; decide +kernel) ⟨(by first | decide +kernel | rfl), (by first | decide +kernel | rfl), (by first | decide +kernel | rfl), (by first | decide +kernel | rfl), (by first | decide +kernel | rfl), (by first | decide +kernel | rfl)⟩⟩
theorem witness_waits : ∃ t, JoinStep (.messageAdmission 0) (waiting (withPort { port5 with msgs := [msg1, msg1, msg1, msg1] } { pattern3 with disabled := true }) (.sending 5 msg1 none)) t := ⟨_, .waits _ _ 5 msg1 none ({ port5 with msgs := [msg1, msg1, msg1, msg1] }) (by first | decide +kernel | rfl) (by first | decide +kernel | rfl) (by unfold NoneDue; decide +kernel) (by first | decide +kernel | rfl) (by first | decide +kernel | rfl) (by first | decide +kernel | rfl) (by first | decide +kernel | rfl) (by first | decide +kernel | rfl) (by first | decide +kernel | rfl)⟩
theorem witness_refusedPort : ∃ t, JoinStep (.messageAdmission 0) (waiting (withPort { port5 with plan := 2 } pattern3) (.sending 5 msg1 none)) t := ⟨_, .refusedPort _ _ 5 msg1 none { port5 with plan := 2 } (by first | decide +kernel | rfl) (by first | decide +kernel | rfl) (by unfold NoneDue; decide +kernel) (by first | decide +kernel | rfl) (by first | decide +kernel | rfl)⟩
theorem witness_refusedHead : ∃ t, JoinStep (.messageAdmission 0) (waiting (withPort { port5 with isHead := true } pattern3) (.sending 5 msg1 none)) t := ⟨_, .refusedHead _ _ 5 msg1 none { port5 with isHead := true } (by first | decide +kernel | rfl) (by first | decide +kernel | rfl) (by unfold NoneDue; decide +kernel) (by first | decide +kernel | rfl) (by first | decide +kernel | rfl) (by first | decide +kernel | rfl) (by first | decide +kernel | rfl)⟩
theorem witness_refused : ∃ t, JoinStep (.messageAdmission 0) (waiting join0 (.sending 5 msg1 none)) t := ⟨_, .refused _ _ 5 msg1 none (by first | decide +kernel | rfl) (by first | decide +kernel | rfl) (by unfold NoneDue; decide +kernel) (by first | decide +kernel | rfl)⟩
theorem witness_admittedTicket : ∃ t, JoinStep (.messageAdmission 0) (waiting (withPort port5 pattern3) (.sending 5 msg1 (some 8))) t := ⟨_, .admittedTicket _ _ 5 8 msg1 port5 (by first | decide +kernel | rfl) (by first | decide +kernel | rfl) (by unfold NoneDue; decide +kernel) ⟨(by first | decide +kernel | rfl), (by first | decide +kernel | rfl), (by first | decide +kernel | rfl), (by first | decide +kernel | rfl), (by first | decide +kernel | rfl), (by first | decide +kernel | rfl)⟩⟩
theorem witness_overflows : ∃ t, JoinStep (.messageAdmission 0) (waiting (withPort { port5 with msgs := [msg1, msg1, msg1, msg1], fault := true } { pattern3 with disabled := true }) (.sending 5 msg1 none)) t := ⟨_, .overflows _ _ 5 msg1 none ({ port5 with msgs := [msg1, msg1, msg1, msg1], fault := true }) (by first | decide +kernel | rfl) (by first | decide +kernel | rfl) (by unfold NoneDue; decide +kernel) (by first | decide +kernel | rfl) (by first | decide +kernel | rfl) (by first | decide +kernel | rfl) (by first | decide +kernel | rfl) (by first | decide +kernel | rfl) (by first | decide +kernel | rfl)⟩
theorem witness_waiter : ∃ t, JoinStep (.waiterAdmission 0) ((waiting (withPort { port5 with waiters := [⟨0, msg1, true⟩] } pattern3) (.waiter 5 none)).setDie 0 { dueAdmits := [5] }) t := ⟨_, .waiter _ _ _ 5 [] ({ port5 with waiters := [⟨0, msg1, true⟩] }) ⟨0, msg1, true⟩ [] (by first | decide +kernel | rfl) rfl (by first | decide +kernel | rfl) (by first | decide +kernel | rfl)⟩
theorem witness_headRise : ∃ t, JoinStep (.pipeHeadRise 0) ((withPort port5 pattern3).setDie 0 { joinDue := [.rise 5] }) t := ⟨_, .headRise _ _ 5 [] (by first | decide +kernel | rfl) (by first | decide +kernel | rfl)⟩
theorem witness_entryFires : ∃ t, JoinStep (.runQueueEntryFree 0) ((withPort { port5 with msgs := [msg1] } ({ pattern3 with heldSince := some 1 })).setDie 0 { joinDue := [.free 32] }) t := ⟨_, .entryFires _ _ _ 32 [] (3, { pattern3 with heldSince := some 1 }) (by first | decide +kernel | rfl) (by first | decide +kernel | rfl) rfl (by first | decide +kernel | rfl)⟩
theorem witness_entryFree : ∃ t, JoinStep (.runQueueEntryFree 0) ((withPort port5 pattern3).setDie 0 { joinDue := [.free 32] }) t := ⟨_, .entryFree _ _ _ 32 [] (by first | decide +kernel | rfl) (by first | decide +kernel | rfl) rfl (by first | decide +kernel | rfl)⟩
theorem witness_recordEntry : ∃ t, JoinStep (.taskRecordEntry 0) (join0.setDie 0 { firing := [1] }) t := ⟨_, .recordEntry _ _ 1 [] task1 (by first | decide +kernel | rfl) (by first | decide +kernel | rfl)⟩
theorem witness_consumed : ∃ t, JoinStep (.sendwComplete 0) (waiting { join0 with tickets := [(1, .consumed 0 0 3)] } (.ticket 1 8)) t := ⟨_, .consumed _ _ 1 8 0 0 3 (by first | decide +kernel | rfl) (by first | decide +kernel | rfl)⟩
theorem witness_discarded : ∃ t, JoinStep (.sendwComplete 0) (waiting { join0 with tickets := [(1, .discarded 0)] } (.ticket 1 8)) t := ⟨_, .discarded _ _ 1 8 0 (by first | decide +kernel | rfl) (by first | decide +kernel | rfl)⟩
theorem witness_giveBack : ∃ t, JoinStep (.messageReturn 2) ({ withPort port5 { pattern3 with disabled := true } with tasks := [(2, { plan := 1, stage := 0, die := 0, returning := true, items := [.message 5 msg1] })] }) t := ⟨_, .giveBack _ _ 5 { plan := 1, stage := 0, die := 0, returning := true, items := [.message 5 msg1] } msg1 [] (by first | decide +kernel | rfl) (by first | decide +kernel | rfl) (by first | decide +kernel | rfl) (by first | decide +kernel | rfl) (by unfold NoneDue; decide +kernel) (by first | decide +kernel | rfl)⟩
theorem witness_freed : ∃ t, JoinStep (.messageReturn 2) ({ join0 with tasks := [(2, { plan := 1, stage := 0, die := 0, returning := true })] }) t := ⟨_, .freed _ _ { plan := 1, stage := 0, die := 0, returning := true } (by first | decide +kernel | rfl) (by first | decide +kernel | rfl) (fun _ h => nomatch h)⟩
theorem witness_doorbell : ∃ t, JoinStep (.hostDoorbellWrite 160 32 (100 + 200 * 2 ^ 64 + 9 * 2 ^ 128)) (withPort port5 pattern3) t := ⟨_, .doorbell _ _ _ port5 (by first | decide +kernel | rfl) (by first | decide +kernel | rfl) (by first | decide +kernel | rfl) (by unfold NoneDue; decide +kernel) (by first | decide +kernel | rfl) (by first | decide +kernel | rfl) (by first | decide +kernel | rfl) (by first | decide +kernel | rfl) (by first | decide +kernel | rfl) (by first | decide +kernel | rfl)⟩
theorem witness_eventSent : ∃ t, JoinStep (.faultEventAdmit 1) (farEvent) t := ⟨_, .eventSent _ _ 3 farPlan { detail := 1, detail2 := 2 } [] (by first | decide +kernel | rfl) (by first | decide +kernel | rfl) (by first | decide +kernel | rfl) (by first | decide +kernel | rfl) (by first | decide +kernel | rfl)⟩
theorem witness_doorbellDrops : ∃ t, JoinStep (.hostDoorbellWrite 160 32 5) (withPort { port5 with msgs := [msg1, msg1, msg1, msg1] } pattern3) t := ⟨_, .doorbellDrops _ _ _ _ ({ port5 with msgs := [msg1, msg1, msg1, msg1] }) (by first | decide +kernel | rfl) (by first | decide +kernel | rfl) (by unfold NoneDue; decide +kernel) (by first | decide +kernel | rfl) (by first | decide +kernel | rfl) (by first | decide +kernel | rfl)⟩
theorem witness_doorbellRead : ∃ t, JoinStep (.hostDoorbellRead 160) (withPort port5 pattern3) t := ⟨_, .doorbellRead _ _ port5 (by first | decide +kernel | rfl) (by first | decide +kernel | rfl) (by first | decide +kernel | rfl) (by first | decide +kernel | rfl)⟩
theorem witness_doorbellReadNone : ∃ t, JoinStep (.hostDoorbellRead 192) (withPort port5 pattern3) t := ⟨_, .doorbellReadNone _ _ (by first | decide +kernel | rfl) (by first | decide +kernel | rfl) (by first | decide +kernel | rfl) (by first | decide +kernel | rfl)⟩
theorem witness_eventAdmit : ∃ t, JoinStep (.faultEventAdmit 1) ({ withPort port5 { pattern3 with disabled := true } with plans := [(1, { state := .running, tenant := 2, faultPort := 5, pending := [(3, { detail := 1, detail2 := 2 })] })] }) t := ⟨_, .eventAdmit _ _ 3 { state := .running, tenant := 2, faultPort := 5, pending := [(3, { detail := 1, detail2 := 2 })] } { detail := 1, detail2 := 2 } [] port5 (by first | decide +kernel | rfl) (by first | decide +kernel | rfl) (by first | decide +kernel | rfl) (by first | decide +kernel | rfl) (by unfold NoneDue; decide +kernel) (by first | decide +kernel | rfl) (by first | decide +kernel | rfl) (by first | decide +kernel | rfl) (by first | decide +kernel | rfl) (by first | decide +kernel | rfl)⟩

end Sys2Proof.Tests.WitnessJoin
end

