-- ==== Sys2Proof/Tests/WitnessMatrix.lean ====
section
/-!
SUPPORT. Witnesses: for every rule of the matrix instructions, and every step of the matrix unit and of a product at a stack, a small state in which it applies.
-/

namespace Sys2Proof.Tests.WitnessMatrix

open Sys2Proof.Machine Sys2Proof.Rules

set_option Elab.async false

/-- Group 0 of a matrix team of two tiles whose region is 64 KiB of scratchpad, with segment 1 on it and segment 2 on the
global space, where one page of 2 MiB is mapped; the block at team offset 96, the records at 0, 32 and 64. -/
def mat0 : State :=
  { groups := [(0, { budget := 8, plan := 1, task := 1, segs := [(1, ⟨0, 65536, true, true, false, 1⟩), (2, ⟨0, 65536, true, true, false, 2⟩)],
                     s := [(2, 96), (3, 0), (4, 32), (5, 64), (126, (1 <<< 64) - 1)] })]
    tasks := [(1, { plan := 1, stage := 0, die := 0, scratchSize := 65536, tiles := 2, running := true, groups := [0], live := [0] })]
    tlb := [⟨0, 0, 0, 207⟩]
    keys := [(63 * 8192, [1])] }

def recMat (base cols pitch fmt : Nat) : Rec := { base := base, cols := cols, rows := 64, pitch := pitch, seg := 1, space := 1, fmt := fmt }
def recOfA : Rec := recMat 4096 64 128 8
def recOfB : Rec := recMat 16384 64 128 8
def recOfBs : Rec := recMat 16384 128 256 8
def recOfM : Rec := recMat 40960 16 16 0
def recTile : Rec := recMat 4096 64 256 10
def recVec : Rec := { base := 4096, cols := 32, rows := 1, pitch := 64, seg := 1, space := 1, fmt := 8 }
def recStack : Rec := { base := 0, cols := 32, rows := 1, pitch := 256, seg := 2, space := 2, fmt := 8 }
def recOut : Rec := { base := 8192, cols := 1, rows := 1, pitch := 4, seg := 1, space := 1, fmt := 10 }
def fp16 : OperandFmt := { fmt := 8 }
def blockOf (md : Nat) : FormatBlock := { a := fp16, b := fp16, mdrec := md, half := 8, reserved := false }

def withMat (a b c : Rec) (md : Nat) : State :=
  (((mat0.writeRec (scratchAddr 0 0) a).writeRec (scratchAddr 0 32) b).writeRec (scratchAddr 0 64) c).write (scratchAddr 0 96)
    ([8, 8, md, 0].flatMap (leBytes 8))
def withTask (f : Task → Task) : State := mat0.modTask 1 f
def mat0Task : Task := { plan := 1, stage := 0, die := 0, scratchSize := 65536, tiles := 2, running := true, groups := [0], live := [0] }
def cmdOf (op : MatrixOp) : MatrixCmd := { id := 0, op := op, owner := 0, tile := 1 }
def fetchE (kind : EntryKind) : Entry := { kind := kind, owner := 0, token := none, dst := {}, src := {}, rows := 64, rb := 256, obj := none, task := 1, plan := 1, started := true }

theorem witness_mma : ∃ t, MatrixRule (.mma true 1 2 3 4) (withMat recOfA recOfB recOfM 0) t := ⟨_, .mma _ _ _ _ _ _ _ (blockOf 0) recOfA recOfB {} (by first | decide +kernel | rfl) ⟨(by first | decide +kernel | rfl), rfl⟩ ⟨⟨(by first | decide +kernel | rfl), (by first | decide +kernel | rfl), (by first | decide +kernel | rfl)⟩, (by first | decide +kernel | rfl), (by first | decide +kernel | rfl)⟩ ⟨(by first | decide +kernel | rfl), (okOf (by decide +kernel)), ⟨(by first | decide +kernel | rfl), (by first | decide +kernel | rfl)⟩, ⟨(by first | decide +kernel | rfl), (by first | decide +kernel | rfl)⟩, ⟨(by first | decide +kernel | rfl), (by first | decide +kernel | rfl)⟩, ⟨(by first | decide +kernel | rfl), (by first | decide +kernel | rfl)⟩, (okOf (by decide +kernel)), (by first | decide +kernel | rfl), (by first | decide +kernel | rfl), (by first | decide +kernel | rfl), (fun h => absurd h (by decide +kernel)), (by first | decide +kernel | rfl), (by first | decide +kernel | rfl), (by first | decide +kernel | rfl)⟩⟩
theorem witness_mmaSp : ∃ t, MatrixRule (.mmaSp true 1 2 3 4) (withMat recOfA recOfBs recOfM 64) t := ⟨_, .mmaSp _ _ _ _ _ _ _ (blockOf 64) recOfA recOfBs recOfM (by first | decide +kernel | rfl) ⟨(by first | decide +kernel | rfl), rfl⟩ ⟨⟨(by first | decide +kernel | rfl), (by first | decide +kernel | rfl), (by first | decide +kernel | rfl)⟩, (by first | decide +kernel | rfl), (by first | decide +kernel | rfl)⟩ ⟨(by first | decide +kernel | rfl), (okOf (by decide +kernel)), ⟨(by first | decide +kernel | rfl), (by first | decide +kernel | rfl)⟩, ⟨(by first | decide +kernel | rfl), (by first | decide +kernel | rfl)⟩, ⟨(by first | decide +kernel | rfl), (by first | decide +kernel | rfl)⟩, ⟨(by first | decide +kernel | rfl), (by first | decide +kernel | rfl)⟩, (okOf (by decide +kernel)), (by first | decide +kernel | rfl), (by first | decide +kernel | rfl), (by first | decide +kernel | rfl), (fun h => absurd h (by decide +kernel)), (by first | decide +kernel | rfl), (by first | decide +kernel | rfl), (by first | decide +kernel | rfl)⟩⟩
theorem witness_mmaLatched : ∃ t, MatrixRule (.mma true 1 2 0 4) ((withMat recOfA recOfB recOfM 0).modTask 1 fun t => { t with latch := some ⟨0, false, 8⟩ }) t := ⟨_, .mma _ _ _ _ _ _ _ (blockOf 0) {} recOfB {} (by first | decide +kernel | rfl) ⟨(by first | decide +kernel | rfl), rfl⟩ ⟨⟨(by first | decide +kernel | rfl), (by first | decide +kernel | rfl), (by first | decide +kernel | rfl)⟩, (by first | decide +kernel | rfl), (by first | decide +kernel | rfl)⟩ ⟨(by first | decide +kernel | rfl), (okOf (by decide +kernel)), ⟨(by first | decide +kernel | rfl), (by first | decide +kernel | rfl)⟩, ⟨(by first | decide +kernel | rfl), (by first | decide +kernel | rfl)⟩, ⟨(by first | decide +kernel | rfl), (by first | decide +kernel | rfl)⟩, ⟨(by first | decide +kernel | rfl), (by first | decide +kernel | rfl)⟩, (okOf (by decide +kernel)), (fun h => absurd rfl h), (by first | decide +kernel | rfl), (by first | decide +kernel | rfl), (fun _ => ⟨⟨0, false, 8⟩, (by first | decide +kernel | rfl), (by first | decide +kernel | rfl), (by first | decide +kernel | rfl)⟩), (fun h => absurd rfl h), (by first | decide +kernel | rfl), (by first | decide +kernel | rfl)⟩⟩
theorem witness_mzero : ∃ t, MatrixRule (.mzero true 1) (mat0) t := ⟨_, .mzero _ _ _ _ (by first | decide +kernel | rfl) ⟨(by first | decide +kernel | rfl), rfl⟩ ⟨⟨(by first | decide +kernel | rfl), (by first | decide +kernel | rfl), (by first | decide +kernel | rfl)⟩, (by first | decide +kernel | rfl), (by first | decide +kernel | rfl)⟩⟩
theorem witness_mrows : ∃ t, MatrixRule (.mrows true 1) (mat0) t := ⟨_, .mrows _ _ _ _ (by first | decide +kernel | rfl) ⟨(by first | decide +kernel | rfl), rfl⟩ ⟨⟨(by first | decide +kernel | rfl), (by first | decide +kernel | rfl), (by first | decide +kernel | rfl)⟩, (by first | decide +kernel | rfl), (by first | decide +kernel | rfl)⟩⟩
theorem witness_matrixWaits : ∃ t, MatrixRule (.mzero true 1) (withTask fun t => { t with cmds := List.replicate 8 (cmdOf .mzero) }) t := ⟨_, .waits _ _ _ _ (by first | decide +kernel | rfl) ⟨(by first | decide +kernel | rfl), rfl⟩ (by first | decide +kernel | rfl) (by first | decide +kernel | rfl)⟩
theorem witness_mldacc : ∃ t, MatrixRule (.mldacc true 1 3) (withMat recTile {} {} 0) t := ⟨_, .mldacc _ _ _ _ _ recTile (by first | decide +kernel | rfl) ⟨(by first | decide +kernel | rfl), rfl⟩ ⟨⟨(by first | decide +kernel | rfl), (by first | decide +kernel | rfl), (by first | decide +kernel | rfl)⟩, (by first | decide +kernel | rfl), (by first | decide +kernel | rfl)⟩ ⟨(okOf (by decide +kernel)), (by first | decide +kernel | rfl), (by first | decide +kernel | rfl), (by first | decide +kernel | rfl), (by first | decide +kernel | rfl), (by first | decide +kernel | rfl), (by first | decide +kernel | rfl), (by first | decide +kernel | rfl), (by first | decide +kernel | rfl)⟩⟩
theorem witness_mstacc : ∃ t, MatrixRule (.mstacc true 1 3 0) (withMat recTile {} {} 0) t := ⟨_, .mstacc _ _ _ _ _ _ recTile (by first | decide +kernel | rfl) ⟨(by first | decide +kernel | rfl), rfl⟩ ⟨⟨(by first | decide +kernel | rfl), (by first | decide +kernel | rfl), (by first | decide +kernel | rfl)⟩, (by first | decide +kernel | rfl), (by first | decide +kernel | rfl)⟩ ⟨(okOf (by decide +kernel)), (by first | decide +kernel | rfl), (by first | decide +kernel | rfl), (by first | decide +kernel | rfl), (by first | decide +kernel | rfl), (by first | decide +kernel | rfl), (by first | decide +kernel | rfl), (by first | decide +kernel | rfl), (by first | decide +kernel | rfl)⟩⟩
theorem witness_vpopa : ∃ t, MatrixRule (.vpopa true 3) (withTask fun t => { t with accq := [[1, 2], [3]] }) t := ⟨_, .vpopa _ _ _ [1, 2] [[3]] (by first | decide +kernel | rfl) (by unfold HasRoom; decide +kernel) ⟨(by first | decide +kernel | rfl), (by first | decide +kernel | rfl), (by first | decide +kernel | rfl)⟩ (by first | decide +kernel | rfl) (by first | decide +kernel | rfl)⟩
theorem witness_vpopaBlocks : ∃ t, MatrixRule (.vpopa true 3) (mat0) t := ⟨_, .vpopaBlocks _ _ _ (by first | decide +kernel | rfl) (by unfold HasRoom; decide +kernel) ⟨(by first | decide +kernel | rfl), (by first | decide +kernel | rfl), (by first | decide +kernel | rfl)⟩ (by first | decide +kernel | rfl) (by first | decide +kernel | rfl)⟩
theorem witness_mvm : ∃ t, MatrixRule (.mvm true 7 2 3 4) (withMat recVec recStack recOut 64) t := ⟨_, .mvm _ _ _ _ _ _ _ (blockOf 64) recVec recStack recOut (by first | decide +kernel | rfl) ⟨(by first | decide +kernel | rfl), rfl⟩ ⟨(by first | decide +kernel | rfl), (by first | decide +kernel | rfl), (by first | decide +kernel | rfl)⟩ ⟨(by first | decide +kernel | rfl), (okOf (by decide +kernel)), (okOf (by decide +kernel)), ⟨(by first | decide +kernel | rfl), (by first | decide +kernel | rfl), (by first | decide +kernel | rfl), (by first | decide +kernel | rfl), (by first | decide +kernel | rfl)⟩, ⟨(by first | decide +kernel | rfl), (by first | decide +kernel | rfl), (by first | decide +kernel | rfl), (by first | decide +kernel | rfl)⟩, ⟨(by first | decide +kernel | rfl), (by first | decide +kernel | rfl), (by first | decide +kernel | rfl), (by first | decide +kernel | rfl), (by first | decide +kernel | rfl)⟩, ⟨(by first | decide +kernel | rfl), (by first | decide +kernel | rfl), (by first | decide +kernel | rfl)⟩, ⟨(by first | decide +kernel | rfl), (by first | decide +kernel | rfl)⟩, ⟨(by first | decide +kernel | rfl), (by first | decide +kernel | rfl), (by first | decide +kernel | rfl)⟩, ⟨(by first | decide +kernel | rfl), (by first | decide +kernel | rfl)⟩, ⟨(by first | decide +kernel | rfl), (by first | decide +kernel | rfl)⟩, ⟨(by first | decide +kernel | rfl), (by first | decide +kernel | rfl)⟩, (by first | decide +kernel | rfl)⟩⟩
theorem witness_startZero : ∃ t, MatrixStep (.matrixCommandStart 1) (withTask fun _ => { mat0Task with cmds := [cmdOf .mzero] }) t := ⟨_, .startZero _ _ ({ mat0Task with cmds := [cmdOf .mzero] }) (cmdOf .mzero) [] ⟨(by first | decide +kernel | rfl), (by first | decide +kernel | rfl), (by first | decide +kernel | rfl), (by first | decide +kernel | rfl)⟩ (by first | decide +kernel | rfl)⟩
theorem witness_startMrows : ∃ t, MatrixStep (.matrixCommandStart 1) (withTask fun _ => { mat0Task with cmds := [cmdOf .mrows] }) t := ⟨_, .start _ _ ({ mat0Task with cmds := [cmdOf .mrows] }) (cmdOf .mrows) [] ⟨(by first | decide +kernel | rfl), (by first | decide +kernel | rfl), (by first | decide +kernel | rfl), (by first | decide +kernel | rfl)⟩ (by first | decide +kernel | rfl)⟩
theorem witness_startMove : ∃ t, MatrixStep (.matrixCommandStart 1) (withTask fun _ => { mat0Task with cmds := [cmdOf .mldacc] }) t := ⟨_, .startMove _ _ ({ mat0Task with cmds := [cmdOf .mldacc] }) (cmdOf .mldacc) [] ⟨(by first | decide +kernel | rfl), (by first | decide +kernel | rfl), (by first | decide +kernel | rfl), (by first | decide +kernel | rfl)⟩ (by first | decide +kernel | rfl) (by first | decide +kernel | rfl)⟩
theorem witness_fetched : ∃ t, MatrixStep (.operandFetchComplete 0) (mat0.setCore 0 { queues := [(3, [fetchE (.fetch 0 [0])])] }) t := ⟨_, .fetched _ _ 0 [0] (fetchE (.fetch 0 [0])) (by first | decide +kernel | rfl) (by first | decide +kernel | rfl) (by first | decide +kernel | rfl) (by first | decide +kernel | rfl)⟩
theorem witness_loaded : ∃ t, MatrixStep (.operandFetchComplete 0) ((withTask fun _ => { mat0Task with going := [{ cmdOf .mldacc with stages := [{ rows := 1, rb := 4, bytes := [1, 2, 3, 4] }] }] }).setCore 0 { queues := [(3, [fetchE (.tileMove 0)])] }) t := ⟨_, .loaded _ _ 0 (fetchE (.tileMove 0)) ({ mat0Task with going := [{ cmdOf .mldacc with stages := [{ rows := 1, rb := 4, bytes := [1, 2, 3, 4] }] }] }) { cmdOf .mldacc with stages := [{ rows := 1, rb := 4, bytes := [1, 2, 3, 4] }] } (by first | decide +kernel | rfl) (by first | decide +kernel | rfl) (by first | decide +kernel | rfl) (by first | decide +kernel | rfl) (by first | decide +kernel | rfl) (by first | decide +kernel | rfl) (by first | decide +kernel | rfl) (by first | decide +kernel | rfl) (by first | decide +kernel | rfl)⟩
theorem witness_stored : ∃ t, MatrixStep (.operandFetchComplete 0) ((withTask fun _ => { mat0Task with going := [cmdOf .mstacc] }).setCore 0 { queues := [(3, [fetchE (.tileMove 0)])] }) t := ⟨_, .stored _ _ 0 (fetchE (.tileMove 0)) ({ mat0Task with going := [cmdOf .mstacc] }) (cmdOf .mstacc) (by first | decide +kernel | rfl) (by first | decide +kernel | rfl) (by first | decide +kernel | rfl) (by first | decide +kernel | rfl) (by first | decide +kernel | rfl) (by first | decide +kernel | rfl) (by first | decide +kernel | rfl) (by first | decide +kernel | rfl)⟩
theorem witness_multiply : ∃ t, MatrixStep (.multiplyStart 1) (withTask fun _ => { mat0Task with going := [cmdOf .mma] }) t := ⟨_, .multiply _ _ ({ mat0Task with going := [cmdOf .mma] }) (cmdOf .mma) ⟨(by first | decide +kernel | rfl), (by first | decide +kernel | rfl), (by first | decide +kernel | rfl), (by first | decide +kernel | rfl), (by first | decide +kernel | rfl), (by first | decide +kernel | rfl)⟩ (by first | decide +kernel | rfl)⟩
theorem witness_multiplyFails : ∃ t, MatrixStep (.multiplyStart 1) (withTask fun _ => { mat0Task with going := [{ cmdOf .mma with failed := some (8, 64) }] }) t := ⟨_, .multiplyFails _ _ ({ mat0Task with going := [{ cmdOf .mma with failed := some (8, 64) }] }) { cmdOf .mma with failed := some (8, 64) } (8, 64) ⟨(by first | decide +kernel | rfl), (by first | decide +kernel | rfl), (by first | decide +kernel | rfl), (by first | decide +kernel | rfl), (by first | decide +kernel | rfl), (by first | decide +kernel | rfl)⟩ (by first | decide +kernel | rfl)⟩
theorem witness_multiplied : ∃ t, MatrixStep (.multiplyComplete 1) (withTask fun _ => { mat0Task with going := [{ cmdOf .mma with multiplying := true }] }) t := ⟨_, .multiplied _ _ ({ mat0Task with going := [{ cmdOf .mma with multiplying := true }] }) { cmdOf .mma with multiplying := true } (by first | decide +kernel | rfl) (by first | decide +kernel | rfl) (by first | decide +kernel | rfl)⟩
theorem witness_row : ∃ t, MatrixStep (.mrowsRowEnter 1) (withTask fun _ => { mat0Task with going := [{ cmdOf .mrows with row := 62 }], accq := List.replicate 15 [] }) t := ⟨_, .row _ _ ({ mat0Task with going := [{ cmdOf .mrows with row := 62 }], accq := List.replicate 15 [] }) { cmdOf .mrows with row := 62 } (by first | decide +kernel | rfl) (by first | decide +kernel | rfl) (by first | decide +kernel | rfl) (by first | decide +kernel | rfl) (by first | decide +kernel | rfl)⟩
theorem witness_lastRow : ∃ t, MatrixStep (.mrowsRowEnter 1) (withTask fun _ => { mat0Task with going := [{ cmdOf .mrows with row := 63 }], accq := List.replicate 15 [] }) t := ⟨_, .lastRow _ _ ({ mat0Task with going := [{ cmdOf .mrows with row := 63 }], accq := List.replicate 15 [] }) { cmdOf .mrows with row := 63 } (by first | decide +kernel | rfl) (by first | decide +kernel | rfl) (by first | decide +kernel | rfl) (by first | decide +kernel | rfl) (by first | decide +kernel | rfl)⟩
theorem witness_mvmDone : ∃ t, MatrixStep (.mvmComplete 4) ({ mat0 with mvms := [(4, { owner := 0, task := 1, plan := 1, who := {}, token := 0, k := 32, n := 1, fa := {}, fb := {}, a := {}, ap := {}, b := {}, bp := {}, dst := {}, stopped := true })] }) t := ⟨_, .mvmDone _ _ { owner := 0, task := 1, plan := 1, who := {}, token := 0, k := 32, n := 1, fa := {}, fb := {}, a := {}, ap := {}, b := {}, bp := {}, dst := {}, stopped := true } (by first | decide +kernel | rfl) (.inl (by first | decide +kernel | rfl)) (someOf (y := mat0Task) (by decide +kernel) (by decide +kernel))⟩

end Sys2Proof.Tests.WitnessMatrix
end

