-- ==== Sys2Proof/Tests/WitnessPrefix.lean ====
section
/-!
SUPPORT. Witnesses: for `rep` and `limm`, a small state for each clause in which its premises hold.
-/

namespace Sys2Proof.Tests.WitnessPrefix

open Sys2Proof.Machine Sys2Proof.Rules

set_option Elab.async false

open Sys2Proof.Tests.WitnessAccess

def bodyAt (x : Decoded Body) : Body := match x with | .ok f => f | .error _ => fun s => .fault s { kind := 0 }
theorem okBody {x : Decoded Body} (h : (match x with | .ok _ => true | .error _ => false) = true) : x = .ok (bodyAt x) := by
  revert h
  cases x <;> intro hx
  · exact Bool.noConfusion hx
  · rfl
def stateAt (x : Eff) : State := match x with | .ok v => v | _ => State.reset
theorem okEff {x : Eff} (h : (match x with | .ok _ => true | _ => false) = true) : x = .ok (stateAt x) := by
  revert h
  cases x <;> intro hx
  · rfl
  all_goals exact Bool.noConfusion hx

/-- `acc0` with w at address 4 of its address space. -/
def withTarget (w : Word) : State := acc0.writePiece {} (leafKey 207) (acc0.place 207 4) (leBytes 4 w.toNat)
/-- `acc0` at a prefix whose target w it holds. -/
def holding (w : Word) : State := acc0.setMe { acc0.me with target := some w }
/-- A control processor of die 16 with w at address 4 of its memory. -/
def cpTarget (w : Word) (n : Nat) : State :=
  let s : State := { groups := [(90128, { mode := .control, repcnt := n, s := [(2, 8), (3, 2 ^ 64 - 8), (10, 77)] })], cur := 90128 }
  s.writePiece {} 0 (sramAddr 16 4) (leBytes 4 w.toNat)
/-- The same one at a prefix whose target w it holds. -/
def cpHolding (w : Word) (n : Nat) : State := (cpTarget w n).setMe { (cpTarget w n).me with target := some w }
def RepScalar (i : Instr) (s t : State) : Prop :=
  ∃ n d a b w x r j m e f, i = .rep n d a b ∧ Repeats s n d a b w x r ∧ Encodes x j
    ∧ (ScalarTable j m e f ∨ ScalarSelect j m e f ∨ ScalarImmediate j m e f ∨ MaskTable j m e f)
    ∧ t = afterRepetition s n r m (s.me.setS e.toNat (f s.me))
def RepLane (i : Instr) (s t : State) : Prop :=
  ∃ n d a b w x r j m rs e f, i = .rep n d a b ∧ Repeats s n d a b w x r ∧ Encodes x j ∧ LaneReady s rs
    ∧ (LaneTable j m rs e f ∨ LaneMove j m rs e f ∨ LaneClass j m rs e f)
    ∧ t = afterRepetition s n r m (s.me.setV e.toNat (f s.me))
def RepAny (i : Instr) (s t : State) : Prop :=
  ∃ n d a b w x r v body new, i = .rep n d a b ∧ Repeats s n d a b w x r ∧ bodyWord x = .ok body
    ∧ body (withRepcnt s (n.toNat + 1 - r)) = .ok v ∧ v.me.out = s.me.out ++ new
    ∧ t = afterRepetition v n r (w.getLsbD 30) { v.me with out := s.me.out ++ new.map fun p => { p with rep := r } }
def RepFaults (i : Instr) (s t : State) : Prop :=
  ∃ n d a b w x r v body e, i = .rep n d a b ∧ Repeats s n d a b w x r ∧ bodyWord x = .ok body
    ∧ body (withRepcnt s (n.toNat + 1 - r)) = .fault v e ∧ t = v.takeTrap v.cur (some e)
def RepPast (i : Instr) (s t : State) : Prop :=
  ∃ n d a b w r, i = .rep n d a b ∧ Held s w ∧ s.me.repcnt ≤ n.toNat + 1 ∧ r = repetition (n.toNat + 1) s.me.repcnt
    ∧ (hasThird w = true ∨ b = 0) ∧ (∀ x, ¬ Stepped w r d.toNat a.toNat b.toNat x)
    ∧ t = (withRepcnt s (n.toNat + 1 - r)).takeTrap s.cur (some { kind := 1 })
def RepOwn (i : Instr) (s t : State) : Prop :=
  ∃ n d a b w, i = .rep n d a b ∧ Unfetched s ∧ Fetches s w t ∧ RepTarget s n b w
def OwnFaults (_ : Instr) (s t : State) : Prop :=
  ∃ e, Unfetched s ∧ s.fetchWord s.cur ((s.me.pc + 4) % 2 ^ 64) = .error e ∧ t = s.takeTrap s.cur (some e)
def OwnRefuses (i : Instr) (s t : State) : Prop :=
  ∃ w u, Unfetched s ∧ Fetches s w u ∧ t = u.takeTrap s.cur (some { kind := 1 })
    ∧ (∀ n d a b, i = .rep n d a b → ¬ RepTarget s n b w) ∧ (∀ p, i = .limm p → ¬ LimmTarget s w)
def LimmOwn (i : Instr) (s t : State) : Prop := ∃ p w, i = .limm p ∧ Unfetched s ∧ Fetches s w t ∧ LimmTarget s w
def PairOf (i : Instr) (s t : State) : Prop := ∃ p, i = .limm p ∧ LimmRule p s t
def faultAt (x : Eff) : State × TrapInfo := match x with | .fault v e => (v, e) | _ => (State.reset, { kind := 0 })
theorem faultOf {x : Eff} (h : (match x with | .fault _ _ => true | _ => false) = true) : x = .fault (faultAt x).1 (faultAt x).2 := by
  revert h
  cases x <;> intro hx
  case fault => rfl
  all_goals exact Bool.noConfusion hx

theorem witness_repFirst : ∃ t, RepAny (.rep 7 1 1 0) (holding 0x18010206) t := ⟨_, ⟨_, _, _, _, 0x18010206#32, 0x18010206#32, 0, _, _, [], rfl, ⟨⟨(by first | decide +kernel | rfl), (by first | decide +kernel | rfl)⟩, (by first | decide +kernel | rfl), (by first | decide +kernel | rfl), .three _ (by first | decide +kernel | rfl) (by first | decide +kernel | rfl) (by first | decide +kernel | rfl) (by first | decide +kernel | rfl) (by first | decide +kernel | rfl)⟩, okBody (by decide +kernel), okEff (by decide +kernel), (by first | decide +kernel | rfl), rfl⟩⟩
theorem witness_repLast : ∃ t, RepAny (.rep 3 1 0 2) (withRepcnt (holding 0x18010200) 1) t := ⟨_, ⟨_, _, _, _, 0x18010200#32, (0x18010200 + 3 * 2 ^ 14 + 6 : BitVec 32), 3, _, _, [], rfl, ⟨⟨(by first | decide +kernel | rfl), (by first | decide +kernel | rfl)⟩, (by first | decide +kernel | rfl), (by first | decide +kernel | rfl), .three _ (by first | decide +kernel | rfl) (by first | decide +kernel | rfl) (by first | decide +kernel | rfl) (by first | decide +kernel | rfl) (by first | decide +kernel | rfl)⟩, okBody (by decide +kernel), okEff (by decide +kernel), (by first | decide +kernel | rfl), rfl⟩⟩
theorem witness_repLoad : ∃ t, RepAny (.rep 1 1 0 0) (withRepcnt (holding ((encode (.vld true 4 2 1 .b4 0)).getD 0)) 1) t := ⟨_, ⟨_, _, _, _, ((encode (.vld true 4 2 1 .b4 0)).getD 0), ((encode (.vld true 5 2 1 .b4 0)).getD 0), 1, _, _, [(stateAt (bodyAt (bodyWord ((encode (.vld true 5 2 1 .b4 0)).getD 0)) (withRepcnt (holding ((encode (.vld true 4 2 1 .b4 0)).getD 0)) 1))).me.out.getLastD { pc := 0 }], rfl, ⟨⟨(by first | decide +kernel | rfl), (by first | decide +kernel | rfl)⟩, (by first | decide +kernel | rfl), (by first | decide +kernel | rfl), .two _ (by first | decide +kernel | rfl) (by first | decide +kernel | rfl) (by first | decide +kernel | rfl) (by first | decide +kernel | rfl) (by first | decide +kernel | rfl)⟩, okBody (by decide +kernel), okEff (by decide +kernel), (by first | decide +kernel | rfl), rfl⟩⟩
theorem witness_repScalar : ∃ t, RepScalar (.rep 2 0 3 3) (cpHolding ((encode (.sadd false 10 2 3)).getD 0) 2) t := ⟨_, ⟨_, _, _, _, ((encode (.sadd false 10 2 3)).getD 0), ((encode (.sadd false 10 5 6)).getD 0), 1, (.sadd false 10 5 6), _, _, _, rfl, ⟨⟨(by first | decide +kernel | rfl), (by first | decide +kernel | rfl)⟩, (by first | decide +kernel | rfl), (by first | decide +kernel | rfl), .three _ (by first | decide +kernel | rfl) (by first | decide +kernel | rfl) (by first | decide +kernel | rfl) (by first | decide +kernel | rfl) (by first | decide +kernel | rfl)⟩, ⟨(by first | decide +kernel | rfl), (by first | decide +kernel | rfl)⟩, (.inl (.sadd _ _ _ _)), rfl⟩⟩
theorem witness_repLane : ∃ t, RepLane (.rep 1 1 0 1) (withRepcnt (holding ((encode (.vadd true 4 2 3)).getD 0)) 1) t := ⟨_, ⟨_, _, _, _, ((encode (.vadd true 4 2 3)).getD 0), ((encode (.vadd true 5 2 4)).getD 0), 1, (.vadd true 5 2 4), _, _, _, _, rfl, ⟨⟨(by first | decide +kernel | rfl), (by first | decide +kernel | rfl)⟩, (by first | decide +kernel | rfl), (by first | decide +kernel | rfl), .three _ (by first | decide +kernel | rfl) (by first | decide +kernel | rfl) (by first | decide +kernel | rfl) (by first | decide +kernel | rfl) (by first | decide +kernel | rfl)⟩, ⟨(by first | decide +kernel | rfl), (by first | decide +kernel | rfl)⟩, ⟨(by first | decide +kernel | rfl), (by first | decide +kernel | rfl), (by first | decide +kernel | rfl)⟩, (.inl (.vadd _ _ _ _)), rfl⟩⟩
theorem witness_repLaneFirst : ∃ t, RepLane (.rep 1 1 0 1) (holding ((encode (.vadd true 4 2 3)).getD 0)) t := ⟨_, ⟨_, _, _, _, ((encode (.vadd true 4 2 3)).getD 0), ((encode (.vadd true 4 2 3)).getD 0), 0, (.vadd true 4 2 3), _, _, _, _, rfl, ⟨⟨(by first | decide +kernel | rfl), (by first | decide +kernel | rfl)⟩, (by first | decide +kernel | rfl), (by first | decide +kernel | rfl), .three _ (by first | decide +kernel | rfl) (by first | decide +kernel | rfl) (by first | decide +kernel | rfl) (by first | decide +kernel | rfl) (by first | decide +kernel | rfl)⟩, ⟨(by first | decide +kernel | rfl), (by first | decide +kernel | rfl)⟩, ⟨(by first | decide +kernel | rfl), (by first | decide +kernel | rfl), (by first | decide +kernel | rfl)⟩, (.inl (.vadd _ _ _ _)), rfl⟩⟩
theorem witness_repOwn : ∃ t, RepOwn (.rep 7 1 1 0) (withTarget 0x18010206) t := ⟨_, ⟨_, _, _, _, 0x18010206#32, rfl, ⟨(by first | decide +kernel | rfl), (by first | decide +kernel | rfl)⟩, ⟨(okOf (by decide +kernel)), _, rfl, rfl⟩, ⟨(by unfold Repeatable; decide +kernel), (by first | decide +kernel | rfl), (by first | decide +kernel | rfl), ⟨⟨(.vfaddF32 false 4 4 6), (by first | decide +kernel | rfl), (by first | decide +kernel | rfl)⟩, (by first | decide +kernel | rfl)⟩⟩⟩⟩
theorem witness_repOwnFault : ∃ t, OwnFaults (.rep 7 1 1 0) (acc0.setMe { acc0.me with pc := 2 ^ 40 }) t := ⟨_, ⟨{ kind := 5, fetch := true, offset := 2 ^ 40 + 4 }, ⟨(by first | decide +kernel | rfl), (by first | decide +kernel | rfl)⟩, (errOf (by decide +kernel)), rfl⟩⟩
theorem witness_repRefuses : ∃ t, OwnRefuses (.rep 7 1 1 0) (withTarget 0x80000000) t := ⟨_, ⟨0x80000000#32, _, ⟨(by first | decide +kernel | rfl), (by first | decide +kernel | rfl)⟩, ⟨(okOf (by decide +kernel)), _, rfl, rfl⟩, rfl, (fun _ _ _ _ _ h => absurd h.repeatable (by unfold Repeatable; decide +kernel)), (fun _ h => nomatch h)⟩⟩
theorem witness_limmOwn : ∃ t, LimmOwn (.limm 1) (withTarget ((encode (.saddi true 10 2 3)).getD 0)) t := ⟨_, ⟨1, ((encode (.saddi true 10 2 3)).getD 0), rfl, ⟨(by first | decide +kernel | rfl), (by first | decide +kernel | rfl)⟩, ⟨(okOf (by decide +kernel)), _, rfl, rfl⟩, ⟨⟨.saddi true 10 2 3, ⟨(by first | decide +kernel | rfl), (by first | decide +kernel | rfl)⟩, .scalar _ _ _ _ (.saddi _ _ _ _)⟩, ⟨⟨.saddi true 10 2 3, (by first | decide +kernel | rfl), (by first | decide +kernel | rfl)⟩, (by first | decide +kernel | rfl)⟩⟩⟩⟩
theorem witness_limmRefuses : ∃ t, OwnRefuses (.limm 1) (cpTarget ((encode (.vaddi true 4 2 1)).getD 0) 0) t := ⟨_, ⟨((encode (.vaddi true 4 2 1)).getD 0), _, ⟨(by first | decide +kernel | rfl), (by first | decide +kernel | rfl)⟩, ⟨(okOf (by decide +kernel)), _, rfl, rfl⟩, rfl, (fun _ _ _ _ h => nomatch h), (fun _ _ h => absurd (h.2.2 rfl) (by decide +kernel))⟩⟩
theorem witness_repPast : ∃ t, RepPast (.rep 7 1 1 0) (withRepcnt (holding 0x181FC206) 1) t := ⟨_, ⟨_, _, _, _, 0x181FC206#32, 7, rfl, ⟨(by first | decide +kernel | rfl), (by first | decide +kernel | rfl)⟩, (by first | decide +kernel | rfl), (by first | decide +kernel | rfl), (by first | decide +kernel | rfl), (fun _ h => by cases h with | three _ h2 => exact absurd h2 (by decide +kernel) | two h1 => exact absurd h1 (by decide +kernel)), rfl⟩⟩
theorem witness_repFaults : ∃ t, RepFaults (.rep 1 1 0 0) (holding ((encode (.vld true 4 2 7 .b4 0)).getD 0)) t := ⟨_, ⟨_, _, _, _, ((encode (.vld true 4 2 7 .b4 0)).getD 0), ((encode (.vld true 4 2 7 .b4 0)).getD 0), 0, _, _, _, rfl, ⟨⟨(by first | decide +kernel | rfl), (by first | decide +kernel | rfl)⟩, (by first | decide +kernel | rfl), (by first | decide +kernel | rfl), .two _ (by first | decide +kernel | rfl) (by first | decide +kernel | rfl) (by first | decide +kernel | rfl) (by first | decide +kernel | rfl) (by first | decide +kernel | rfl)⟩, okBody (by decide +kernel), faultOf (by decide +kernel), rfl⟩⟩
theorem witness_limm_saddi : ∃ t, PairOf (.limm 0x812345) (holding ((encode (.saddi true 10 2 1023)).getD 0)) t := ⟨_, ⟨_, rfl, .scalar _ _ ((encode (.saddi true 10 2 1023)).getD 0) (.saddi true 10 2 1023) _ _ _ ⟨(by first | decide +kernel | rfl), (by first | decide +kernel | rfl)⟩ ⟨(by first | decide +kernel | rfl), (by first | decide +kernel | rfl)⟩ (.saddi _ _ _ _)⟩⟩
theorem witness_limm_smovi : ∃ t, PairOf (.limm 0x012345) (holding ((encode (.smovi false 127 1)).getD 0)) t := ⟨_, ⟨_, rfl, .scalar _ _ ((encode (.smovi false 127 1)).getD 0) (.smovi false 127 1) _ _ _ ⟨(by first | decide +kernel | rfl), (by first | decide +kernel | rfl)⟩ ⟨(by first | decide +kernel | rfl), (by first | decide +kernel | rfl)⟩ (.smovi _ _ _)⟩⟩
theorem witness_limm_sandiControl : ∃ t, PairOf (.limm 0x800000) (cpHolding ((encode (.sandi true 10 3 1)).getD 0) 0) t := ⟨_, ⟨_, rfl, .scalar _ _ ((encode (.sandi true 10 3 1)).getD 0) (.sandi true 10 3 1) _ _ _ ⟨(by first | decide +kernel | rfl), (by first | decide +kernel | rfl)⟩ ⟨(by first | decide +kernel | rfl), (by first | decide +kernel | rfl)⟩ (.sandi _ _ _ _)⟩⟩
theorem witness_limm_vmovi : ∃ t, PairOf (.limm 0x3FFFFF) (holding ((encode (.vmovi true 4 1023)).getD 0)) t := ⟨_, ⟨_, rfl, .lane _ _ ((encode (.vmovi true 4 1023)).getD 0) (.vmovi true 4 1023) _ _ _ _ ⟨(by first | decide +kernel | rfl), (by first | decide +kernel | rfl), (by first | decide +kernel | rfl)⟩ ⟨(by first | decide +kernel | rfl), (by first | decide +kernel | rfl)⟩ ⟨(by first | decide +kernel | rfl), (by first | decide +kernel | rfl)⟩ (.vmovi _ _ _)⟩⟩
theorem witness_limm_vmuli : ∃ t, PairOf (.limm 0x400001) (holding ((encode (.vmuli true 4 2 1)).getD 0)) t := ⟨_, ⟨_, rfl, .lane _ _ ((encode (.vmuli true 4 2 1)).getD 0) (.vmuli true 4 2 1) _ _ _ _ ⟨(by first | decide +kernel | rfl), (by first | decide +kernel | rfl), (by first | decide +kernel | rfl)⟩ ⟨(by first | decide +kernel | rfl), (by first | decide +kernel | rfl)⟩ ⟨(by first | decide +kernel | rfl), (by first | decide +kernel | rfl)⟩ (.vmuli _ _ _ _)⟩⟩
theorem witness_limm_vld : ∃ t, PairOf (.limm 1) (holding ((encode (.vld true 4 2 1 .b4 0)).getD 0)) t := ⟨_, ⟨_, rfl, .laneLoad _ _ ((encode (.vld true 4 2 1 .b4 0)).getD 0) (.vld true 4 2 1 .b4 0) _ _ _ _ _ _ _ _ ⟨(by first | decide +kernel | rfl), (by first | decide +kernel | rfl), (by first | decide +kernel | rfl)⟩ (by unfold HasRoom; decide +kernel) ⟨(by first | decide +kernel | rfl), (by first | decide +kernel | rfl)⟩ ⟨(by first | decide +kernel | rfl), (by first | decide +kernel | rfl)⟩ (.vld _ _ _ _ _ _) (by unfold DatumReady; decide +kernel) (okAll (by decide +kernel))⟩⟩
theorem witness_limm_vlds : ∃ t, PairOf (.limm 0xFFFFFF) ((holding ((encode (.vlds true 4 2 1 .b2 15)).getD 0)).setMe { acc0.me with target := some ((encode (.vlds true 4 2 1 .b2 15)).getD 0), v := acc0.me.v.put 2 (List.replicate 64 16) }) t := ⟨_, ⟨_, rfl, .laneLoad _ _ ((encode (.vlds true 4 2 1 .b2 15)).getD 0) (.vlds true 4 2 1 .b2 15) _ _ _ _ _ _ _ _ ⟨(by first | decide +kernel | rfl), (by first | decide +kernel | rfl), (by first | decide +kernel | rfl)⟩ (by unfold HasRoom; decide +kernel) ⟨(by first | decide +kernel | rfl), (by first | decide +kernel | rfl)⟩ ⟨(by first | decide +kernel | rfl), (by first | decide +kernel | rfl)⟩ (.vlds _ _ _ _ _ _) (by unfold DatumReady; decide +kernel) (okAll (by decide +kernel))⟩⟩
theorem witness_limm_vst : ∃ t, PairOf (.limm 2) (holding ((encode (.vst true 4 2 1 .b8 0)).getD 0)) t := ⟨_, ⟨_, rfl, .laneStore _ _ ((encode (.vst true 4 2 1 .b8 0)).getD 0) true 4 2 1 .b8 0 _ ⟨(by first | decide +kernel | rfl), (by first | decide +kernel | rfl), (by first | decide +kernel | rfl)⟩ ⟨(by first | decide +kernel | rfl), (by first | decide +kernel | rfl)⟩ ⟨(by first | decide +kernel | rfl), (by first | decide +kernel | rfl)⟩ (by unfold DatumReady; decide +kernel) (okAll (by decide +kernel))⟩⟩
theorem witness_limm_sld : ∃ t, PairOf (.limm 3) (holding ((encode (.sld true 10 2 1 .b16 0)).getD 0)) t := ⟨_, ⟨_, rfl, .scalarLoad _ _ ((encode (.sld true 10 2 1 .b16 0)).getD 0) (.sld true 10 2 1 .b16 0) _ _ _ _ _ _ _ _ ⟨(by first | decide +kernel | rfl), (by first | decide +kernel | rfl)⟩ (by unfold HasRoom; decide +kernel) ⟨(by first | decide +kernel | rfl), (by first | decide +kernel | rfl)⟩ ⟨(by first | decide +kernel | rfl), (by first | decide +kernel | rfl)⟩ (.sld _ _ _ _ _ _) (by first | decide +kernel | rfl) (okScalar (by decide +kernel))⟩⟩
theorem witness_limm_sst : ∃ t, PairOf (.limm 4) (holding ((encode (.sst true 10 2 1 .b2 0)).getD 0)) t := ⟨_, ⟨_, rfl, .scalarStore _ _ ((encode (.sst true 10 2 1 .b2 0)).getD 0) true 10 2 1 .b2 0 _ ⟨(by first | decide +kernel | rfl), (by first | decide +kernel | rfl)⟩ ⟨(by first | decide +kernel | rfl), (by first | decide +kernel | rfl)⟩ ⟨(by first | decide +kernel | rfl), (by first | decide +kernel | rfl)⟩ (by first | decide +kernel | rfl) (okScalar (by decide +kernel))⟩⟩
theorem witness_limm_sstControl : ∃ t, PairOf (.limm 4) (cpHolding ((encode (.sst true 10 2 0 .b8 15)).getD 0) 0) t := ⟨_, ⟨_, rfl, .scalarStore _ _ ((encode (.sst true 10 2 0 .b8 15)).getD 0) true 10 2 0 .b8 15 _ ⟨(by first | decide +kernel | rfl), (by first | decide +kernel | rfl)⟩ ⟨(by first | decide +kernel | rfl), (by first | decide +kernel | rfl)⟩ ⟨(by first | decide +kernel | rfl), (by first | decide +kernel | rfl)⟩ (by first | decide +kernel | rfl) (okScalar (by decide +kernel))⟩⟩

end Sys2Proof.Tests.WitnessPrefix
end

