-- ==== Sys2Proof/Tests/WitnessChecks.lean ====
section
/-!
SUPPORT. Witnesses: for the statements on the checks made at issue, for each check a state in which an instruction fails it, and for each list one that passes.
-/

namespace Sys2Proof.Tests.WitnessChecks

open Sys2Proof.Machine Sys2Proof.Rules

set_option Elab.async false

open Sys2Proof.Tests.WitnessAccess (acc0 cp0)
open Sys2Proof.Tests.WitnessPrefix (holding cpHolding)
open Sys2Proof.Tests.WitnessEngines (team0 withRecs recA recB recG pipe1 slotOf atPipe stream0 receiver)
open Sys2Proof.Tests.WitnessMatrix (mat0 withMat recMat recOfA recOfB recOfBs recOfM recTile recVec recStack recOut)
open Sys2Proof.Tests.WitnessJoin (join0 withPort port5 pattern3)

/-! Accesses. -/

/-- A scalar load or store, or an atomic, that takes a fault of kind k. -/
def ScalarFaults (i : Instr) (s u : State) (k : Nat) : Prop :=
  s = u ∧ ∃ m d a g z e o, Issuing s ∧ NoRegisters s g ∧ (z.bytes = 16 → d.toNat % 2 = 0)
    ∧ ((∃ sg, ScalarLoad i m d a g z e sg ∧ AccessFault s s.cur (s.asker s.me) (segOf s g) { r := true } 0 (scalarOff s a z.bytes e) z.bytes k o)
      ∨ (i = .sst m d a g z e ∧ AccessFault s s.cur (s.asker s.me) (segOf s g) { w := true } 0 (scalarOff s a z.bytes e) z.bytes k o))
def AtomFaults (i : Instr) (s u : State) (k : Nat) : Prop :=
  s = u ∧ ∃ m d a g z op o, ScalarAtomic i m d a g z op ∧ Issuing s ∧ NoRegisters s g ∧ (z = .b4 ∨ z = .b8)
    ∧ ((segOf s g).space = 0 → z = .b4) ∧ (op = .cas → d.toNat ≤ 126)
    ∧ (((s.me.getS a.toNat).toNat % z.bytes ≠ 0 ∧ k = 1)
      ∨ ((s.me.getS a.toNat).toNat % z.bytes = 0
        ∧ AccessFault s s.cur (s.asker s.me) (segOf s g) { r := true, w := true, atomic := true } 0 (un (s.me.getS a.toNat)) z.bytes k o))
def Misnames (i : Instr) (s u : State) (k : Nat) : Prop := s = u ∧ k = 1 ∧ Misnamed s i ∧ Issuing s
def NotOnCp (i : Instr) (s u : State) (k : Nat) : Prop := s = u ∧ k = 1 ∧ CoreOnly i ∧ Issuing s ∧ HasRoom s ∧ s.me.mode = .control
def JoinFaults (i : Instr) (s u : State) (k : Nat) : Prop := k = 1 ∧ JoinFault i s u

/-- `acc0` with S(9) = a. -/
def at9 (a : Nat) : State := acc0.setMe (acc0.me.setS 9 (BitVec.ofNat 64 a))
/-- The same with segment 1 as g. -/
def with1 (g : Segment) (a : Nat) : State := (at9 a).setMe { (at9 a).me with segs := acc0.me.segs.put 1 g }
/-- The first page is mapped by the leaf e. -/
def mapped (e a : Nat) : State := { at9 a with tlb := [⟨0, 0, 0, e⟩] }
/-- No piece fails F; and the piece that starts at offset i is the lowest that does. -/
theorem noPiece {s : State} {gid : Nat} {g : Segment} {a n : Nat} {F : Nat → Nat → Prop} [∀ x y, Decidable (F x y)]
    (h : ((List.range n).all fun i => (List.range (n + 1)).all fun j => !(decide (PieceFrom s gid g a n i j) && decide (F (a + i) (a + j)))) = true) :
    NoPiece s gid g a n F := by
  intro i hi j hj hp hf
  have := List.all_eq_true.1 (List.all_eq_true.1 h i (List.mem_range.2 hi)) j (List.mem_range.2 hj)
  rw [decide_eq_true hp, decide_eq_true hf] at this
  cases this

theorem lowestPiece {s : State} {gid : Nat} {g : Segment} {a n o : Nat} {F : Nat → Nat → Prop} [∀ x y, Decidable (F x y)] (i j : Nat) (hi : i < n)
    (ho : o = a + i) (hj : j < n + 1) (hp : PieceFrom s gid g a n i j) (hf : F (a + i) (a + j))
    (h : ((List.range i).all fun k => (List.range (n + 1)).all fun j => !(decide (PieceFrom s gid g a n k j) && decide (F (a + k) (a + j)))) = true) :
    LowestPiece s gid g a n F o := by
  refine ⟨i, hi, ho, ⟨j, hj, hp, hf⟩, fun k hk j hj hp hf => ?_⟩
  have := List.all_eq_true.1 (List.all_eq_true.1 h k (List.mem_range.2 hk)) j (List.mem_range.2 hj)
  rw [decide_eq_true hp, decide_eq_true hf] at this
  cases this

/-- The same of the translation of a piece's address. -/
def decUntranslated (s : State) (who : Asker) (g : Segment) (va k : Nat) : Decidable (Untranslated s who g va k) :=
  decidable_of_iff ((match s.leaf? who va with
    | .error e => decide (e = k)
    | .ok e => decide ((g.space = 4 ∧ leafAperture e ≠ 3 ∧ k = 5) ∨ (¬ (g.space = 4 ∧ leafAperture e ≠ 3) ∧ s.leafLost e = true ∧ k = 12))) = true)
    (by unfold Untranslated; cases s.leaf? who va <;> simp [Except.toOption, Decidable.imp_iff_not_or])
abbrev Broken (s : State) (gid : Nat) (who : Asker) (g : Segment) (t p _o : Nat) : Prop :=
  Untranslated s who g (s.target gid g t p) 5 ∨ Untranslated s who g (s.target gid g t p) 8 ∨ Untranslated s who g (s.target gid g t p) 12
def decBroken (s : State) (gid : Nat) (who : Asker) (g : Segment) (t p o : Nat) : Decidable (Broken s gid who g t p o) :=
  haveI := decUntranslated s who g (s.target gid g t p)
  inferInstance
theorem noPieceBroken {s : State} {gid : Nat} {who : Asker} {g : Segment} {t a n : Nat}
    (h : ((List.range n).all fun i => (List.range (n + 1)).all fun j => !(decide (PieceFrom s gid g a n i j)
      && (decBroken s gid who g t (a + i) (a + j)).decide)) = true) : NoPiece s gid g a n (Broken s gid who g t) :=
  @noPiece s gid g a n (Broken s gid who g t) (decBroken s gid who g t) h
theorem broken {s : State} {gid : Nat} {who : Asker} {g : Segment} {t x y : Nat} (h : (decBroken s gid who g t x y).decide = true) :
    Broken s gid who g t x y := @of_decide_eq_true _ (decBroken s gid who g t x y) h
theorem untranslated {s : State} {who : Asker} {g : Segment} {va k : Nat} (h : (decUntranslated s who g va k).decide = true) :
    Untranslated s who g va k := @of_decide_eq_true _ (decUntranslated s who g va k) h
theorem lowestBroken {s : State} {gid : Nat} {who : Asker} {g : Segment} {t a n o : Nat} (i j : Nat) (hi : i < n)
    (ho : o = a + i) (hj : j < n + 1) (hp : PieceFrom s gid g a n i j) (hf : Broken s gid who g t (a + i) (a + j))
    (h : ((List.range i).all fun k => (List.range (n + 1)).all fun j => !(decide (PieceFrom s gid g a n k j)
      && (decBroken s gid who g t (a + k) (a + j)).decide)) = true) : LowestPiece s gid g a n (Broken s gid who g t) o :=
  @lowestPiece s gid g a n o (Broken s gid who g t) (decBroken s gid who g t) i j hi ho hj hp hf h

def decDenied (s : State) (who : Asker) (need : Need) (va k : Nat) : Decidable (Denied s who need va k) :=
  haveI (e : Nat) : Decidable (Denies s need e k) := by unfold Denies; infer_instance
  inferInstance
abbrev Refused (s : State) (gid : Nat) (who : Asker) (g : Segment) (need : Need) (t p _o : Nat) : Prop :=
  Denied s who need (s.target gid g t p) 6 ∨ Denied s who need (s.target gid g t p) 7
def decRefused (s : State) (gid : Nat) (who : Asker) (g : Segment) (need : Need) (t p o : Nat) : Decidable (Refused s gid who g need t p o) :=
  haveI := decDenied s who need (s.target gid g t p)
  inferInstance
theorem denied {s : State} {who : Asker} {need : Need} {va k : Nat} (h : (decDenied s who need va k).decide = true) : Denied s who need va k :=
  @of_decide_eq_true _ (decDenied s who need va k) h
/-- The first piece is refused. -/
theorem refused {s : State} {gid : Nat} {who : Asker} {g : Segment} {need : Need} {t a n : Nat} (j : Nat) (hn : 0 < n) (hj : j < n + 1)
    (hp : PieceFrom s gid g a n 0 j) (hf : (decRefused s gid who g need t (a + 0) (a + j)).decide = true) :
    LowestPiece s gid g a n (Refused s gid who g need t) a :=
  ⟨0, hn, rfl, ⟨j, hj, hp, @of_decide_eq_true _ (decRefused s gid who g need t (a + 0) (a + j)) hf⟩, nofun⟩

def recsWith (a b : Rec) : State := (team0.writeRec (scratchAddr 0 0) a).writeRec (scratchAddr 0 32) b
def setSeg (s : State) (g : Segment) : State := s.setMe { s.me with segs := s.me.segs.put 1 g }
def setReg (s : State) (r a : Nat) : State := s.setMe (s.me.setS r (BitVec.ofNat 64 a))
def slot1 : Rec := { kind := 1, pipe := 3, fmt := 0, rows := 1, cols := 16 }
def withPipes (s : State) : State := { s with pipes := [(67, pipe1)] }

theorem witness_limitLow : ∃ u k, ScalarFaults (.sld true 10 9 1 .b4 (-1)) (at9 0) u k := ⟨_, _, ⟨rfl, _, _, _, _, _, _, _, (by first | decide +kernel | rfl), ⟨(by first | decide +kernel | rfl), (by first | decide +kernel | rfl)⟩, (by first | decide +kernel | rfl), .inl ⟨_, .sld _ _ _ _ _ _, .limit (2 ^ 64 - 4) (2 ^ 64 - 4) (by first | decide +kernel | rfl) (lowestPiece 0 4 (by first | decide +kernel | rfl) (by first | decide +kernel | rfl) (by first | decide +kernel | rfl) (by first | decide +kernel | rfl) (by first | decide +kernel | rfl) (by first | decide +kernel | rfl))⟩⟩⟩
theorem witness_limitEdge : ∃ u k, ScalarFaults (.sld true 10 9 1 .b16 0) (at9 4088) u k := ⟨_, _, ⟨rfl, _, _, _, _, _, _, _, (by first | decide +kernel | rfl), ⟨(by first | decide +kernel | rfl), (by first | decide +kernel | rfl)⟩, (by first | decide +kernel | rfl), .inl ⟨_, .sld _ _ _ _ _ _, .limit 4088 4096 (by first | decide +kernel | rfl) (lowestPiece 8 16 (by first | decide +kernel | rfl) (by first | decide +kernel | rfl) (by first | decide +kernel | rfl) (by first | decide +kernel | rfl) (by first | decide +kernel | rfl) (by first | decide +kernel | rfl))⟩⟩⟩
theorem witness_limitStore : ∃ u k, ScalarFaults (.sst true 10 9 1 .b16 0) (at9 4090) u k := ⟨_, _, ⟨rfl, _, _, _, _, _, _, _, (by first | decide +kernel | rfl), ⟨(by first | decide +kernel | rfl), (by first | decide +kernel | rfl)⟩, (by first | decide +kernel | rfl), .inr ⟨rfl, .limit 4090 4096 (by first | decide +kernel | rfl) (lowestPiece 6 16 (by first | decide +kernel | rfl) (by first | decide +kernel | rfl) (by first | decide +kernel | rfl) (by first | decide +kernel | rfl) (by first | decide +kernel | rfl) (by first | decide +kernel | rfl))⟩⟩⟩
theorem witness_orangery : ∃ u k, ScalarFaults (.sst true 10 9 1 .b8 0) (with1 ⟨0, 4096, true, false, false, 3⟩ 0) u k := ⟨_, _, ⟨rfl, _, _, _, _, _, _, _, (by first | decide +kernel | rfl), ⟨(by first | decide +kernel | rfl), (by first | decide +kernel | rfl)⟩, (by first | decide +kernel | rfl), .inr ⟨rfl, .orangery 0 (by first | decide +kernel | rfl) (noPiece (by first | decide +kernel | rfl)) (by first | decide +kernel | rfl) (by first | decide +kernel | rfl)⟩⟩⟩
theorem witness_permissionRead : ∃ u k, ScalarFaults (.sld true 10 9 1 .b8 0) (with1 ⟨0, 4096, false, true, false, 1⟩ 0) u k := ⟨_, _, ⟨rfl, _, _, _, _, _, _, _, (by first | decide +kernel | rfl), ⟨(by first | decide +kernel | rfl), (by first | decide +kernel | rfl)⟩, (by first | decide +kernel | rfl), .inl ⟨_, .sld _ _ _ _ _ _, .permission 0 (by first | decide +kernel | rfl) (noPiece (by first | decide +kernel | rfl)) (by first | decide +kernel | rfl) (by first | decide +kernel | rfl)⟩⟩⟩
theorem witness_permissionWrite : ∃ u k, ScalarFaults (.sst true 10 9 3 .b8 0) (at9 0) u k := ⟨_, _, ⟨rfl, _, _, _, _, _, _, _, (by first | decide +kernel | rfl), ⟨(by first | decide +kernel | rfl), (by first | decide +kernel | rfl)⟩, (by first | decide +kernel | rfl), .inr ⟨rfl, .permission 0 (by first | decide +kernel | rfl) (noPiece (by first | decide +kernel | rfl)) (by first | decide +kernel | rfl) (by first | decide +kernel | rfl)⟩⟩⟩
theorem witness_translation : ∃ u k, ScalarFaults (.sld true 10 9 2 .b8 0) (mapped 207 4092) u k := ⟨_, _, ⟨rfl, _, _, _, _, _, _, _, (by first | decide +kernel | rfl), ⟨(by first | decide +kernel | rfl), (by first | decide +kernel | rfl)⟩, (by first | decide +kernel | rfl), .inl ⟨_, .sld _ _ _ _ _ _, .translation 4092 4096 5 (by first | decide +kernel | rfl) (noPiece (by first | decide +kernel | rfl)) (by first | decide +kernel | rfl) (by first | decide +kernel | rfl) (by first | decide +kernel | rfl) (by first | decide +kernel | rfl) (lowestBroken 4 8 (by first | decide +kernel | rfl) (by first | decide +kernel | rfl) (by first | decide +kernel | rfl) (by first | decide +kernel | rfl) (broken (by first | decide +kernel | rfl)) (by first | decide +kernel | rfl)) (untranslated (by first | decide +kernel | rfl))⟩⟩⟩
theorem witness_leafRead : ∃ u k, ScalarFaults (.sld true 10 9 2 .b8 0) (mapped 205 4080) u k := ⟨_, _, ⟨rfl, _, _, _, _, _, _, _, (by first | decide +kernel | rfl), ⟨(by first | decide +kernel | rfl), (by first | decide +kernel | rfl)⟩, (by first | decide +kernel | rfl), .inl ⟨_, .sld _ _ _ _ _ _, .leaf 4080 4080 6 (by first | decide +kernel | rfl) (noPiece (by first | decide +kernel | rfl)) (by first | decide +kernel | rfl) (by first | decide +kernel | rfl) (by first | decide +kernel | rfl) (by first | decide +kernel | rfl) (noPieceBroken (by first | decide +kernel | rfl)) (refused 8 (by first | decide +kernel | rfl) (by first | decide +kernel | rfl) (by first | decide +kernel | rfl) (by first | decide +kernel | rfl)) (denied (by first | decide +kernel | rfl))⟩⟩⟩
theorem witness_leafWrite : ∃ u k, ScalarFaults (.sst true 10 9 2 .b8 0) (mapped 203 4080) u k := ⟨_, _, ⟨rfl, _, _, _, _, _, _, _, (by first | decide +kernel | rfl), ⟨(by first | decide +kernel | rfl), (by first | decide +kernel | rfl)⟩, (by first | decide +kernel | rfl), .inr ⟨rfl, .leaf 4080 4080 6 (by first | decide +kernel | rfl) (noPiece (by first | decide +kernel | rfl)) (by first | decide +kernel | rfl) (by first | decide +kernel | rfl) (by first | decide +kernel | rfl) (by first | decide +kernel | rfl) (noPieceBroken (by first | decide +kernel | rfl)) (refused 8 (by first | decide +kernel | rfl) (by first | decide +kernel | rfl) (by first | decide +kernel | rfl) (by first | decide +kernel | rfl)) (denied (by first | decide +kernel | rfl))⟩⟩⟩
theorem witness_leafKey : ∃ u k, ScalarFaults (.sld true 10 9 2 .b8 0) (mapped (207 + 2 ^ 17) 4080) u k := ⟨_, _, ⟨rfl, _, _, _, _, _, _, _, (by first | decide +kernel | rfl), ⟨(by first | decide +kernel | rfl), (by first | decide +kernel | rfl)⟩, (by first | decide +kernel | rfl), .inl ⟨_, .sld _ _ _ _ _ _, .leaf 4080 4080 6 (by first | decide +kernel | rfl) (noPiece (by first | decide +kernel | rfl)) (by first | decide +kernel | rfl) (by first | decide +kernel | rfl) (by first | decide +kernel | rfl) (by first | decide +kernel | rfl) (noPieceBroken (by first | decide +kernel | rfl)) (refused 8 (by first | decide +kernel | rfl) (by first | decide +kernel | rfl) (by first | decide +kernel | rfl) (by first | decide +kernel | rfl)) (denied (by first | decide +kernel | rfl))⟩⟩⟩
theorem witness_leafLost : ∃ u k, ScalarFaults (.sld true 10 9 2 .b8 0) ({ mapped (335 + 2 ^ 10) 4080 with devLost0 := 2 }) u k := ⟨_, _, ⟨rfl, _, _, _, _, _, _, _, (by first | decide +kernel | rfl), ⟨(by first | decide +kernel | rfl), (by first | decide +kernel | rfl)⟩, (by first | decide +kernel | rfl), .inl ⟨_, .sld _ _ _ _ _ _, .translation 4080 4080 12 (by first | decide +kernel | rfl) (noPiece (by first | decide +kernel | rfl)) (by first | decide +kernel | rfl) (by first | decide +kernel | rfl) (by first | decide +kernel | rfl) (by first | decide +kernel | rfl) (lowestBroken 0 8 (by first | decide +kernel | rfl) (by first | decide +kernel | rfl) (by first | decide +kernel | rfl) (by first | decide +kernel | rfl) (broken (by first | decide +kernel | rfl)) (by first | decide +kernel | rfl)) (untranslated (by first | decide +kernel | rfl))⟩⟩⟩
theorem witness_atomMisaligned : ∃ u k, AtomFaults (.satomAdd true 10 9 1 .b8) (at9 4092) u k := ⟨_, _, ⟨rfl, _, _, _, _, _, _, 0, .satomAdd _ _ _ _ _, (by first | decide +kernel | rfl), ⟨(by first | decide +kernel | rfl), (by first | decide +kernel | rfl)⟩, .inr rfl, (by first | decide +kernel | rfl), (by first | decide +kernel | rfl), .inl ⟨(by first | decide +kernel | rfl), rfl⟩⟩⟩
theorem witness_atomLimit : ∃ u k, AtomFaults (.satomCas true 126 9 1 .b4) (at9 4096) u k := ⟨_, _, ⟨rfl, _, _, _, _, _, _, _, .satomCas _ _ _ _ _, (by first | decide +kernel | rfl), ⟨(by first | decide +kernel | rfl), (by first | decide +kernel | rfl)⟩, .inl rfl, (by first | decide +kernel | rfl), (by first | decide +kernel | rfl), .inr ⟨(by first | decide +kernel | rfl), .limit 4096 4096 (by first | decide +kernel | rfl) (lowestPiece 0 4 (by first | decide +kernel | rfl) (by first | decide +kernel | rfl) (by first | decide +kernel | rfl) (by first | decide +kernel | rfl) (by first | decide +kernel | rfl) (by first | decide +kernel | rfl))⟩⟩⟩
theorem witness_atomHost : ∃ u k, AtomFaults (.satomAdd true 10 9 2 .b8) (at9 (2 ^ 21)) u k := ⟨_, _, ⟨rfl, _, _, _, _, _, _, _, .satomAdd _ _ _ _ _, (by first | decide +kernel | rfl), ⟨(by first | decide +kernel | rfl), (by first | decide +kernel | rfl)⟩, .inr rfl, (by first | decide +kernel | rfl), (by first | decide +kernel | rfl), .inr ⟨(by first | decide +kernel | rfl), .leaf (2 ^ 21) (2 ^ 21) 6 (by first | decide +kernel | rfl) (noPiece (by first | decide +kernel | rfl)) (by first | decide +kernel | rfl) (by first | decide +kernel | rfl) (by first | decide +kernel | rfl) (by first | decide +kernel | rfl) (noPieceBroken (by first | decide +kernel | rfl)) (refused 8 (by first | decide +kernel | rfl) (by first | decide +kernel | rfl) (by first | decide +kernel | rfl) (by first | decide +kernel | rfl)) (denied (by first | decide +kernel | rfl))⟩⟩⟩
theorem witness_atomPeer : ∃ u k, AtomFaults (.satomAdd true 10 9 2 .b8) (mapped 335 0) u k := ⟨_, _, ⟨rfl, _, _, _, _, _, _, _, .satomAdd _ _ _ _ _, (by first | decide +kernel | rfl), ⟨(by first | decide +kernel | rfl), (by first | decide +kernel | rfl)⟩, .inr rfl, (by first | decide +kernel | rfl), (by first | decide +kernel | rfl), .inr ⟨(by first | decide +kernel | rfl), .leaf 0 0 7 (by first | decide +kernel | rfl) (noPiece (by first | decide +kernel | rfl)) (by first | decide +kernel | rfl) (by first | decide +kernel | rfl) (by first | decide +kernel | rfl) (by first | decide +kernel | rfl) (noPieceBroken (by first | decide +kernel | rfl)) (refused 8 (by first | decide +kernel | rfl) (by first | decide +kernel | rfl) (by first | decide +kernel | rfl) (by first | decide +kernel | rfl)) (denied (by first | decide +kernel | rfl))⟩⟩⟩
theorem witness_laneLoadGroup : ∃ u k, Misnames (.vld true 3 2 1 .b8 0) (acc0) u k := ⟨_, _, ⟨rfl, rfl, .laneLoad _ _ _ _ _ _ _ _ (.vld _ _ _ _ _ _) (by first | decide +kernel | rfl), (by first | decide +kernel | rfl)⟩⟩
theorem witness_laneStoreGroup : ∃ u k, Misnames (.vst true 2 2 1 .b16 0) (acc0) u k := ⟨_, _, ⟨rfl, rfl, .laneStore _ _ _ _ _ _ (by first | decide +kernel | rfl), (by first | decide +kernel | rfl)⟩⟩
theorem witness_laneAtomicGroup : ∃ u k, Misnames (.vatomCas true 2 2 1 .b8) (acc0) u k := ⟨_, _, ⟨rfl, rfl, .laneAtomic _ _ _ _ _ _ _ _ (.vatomCas _ _ _ _ _) (by first | decide +kernel | rfl) (by first | decide +kernel | rfl) (by first | decide +kernel | rfl), (by first | decide +kernel | rfl)⟩⟩
theorem witness_laneAtomicPast : ∃ u k, Misnames (.vatomCas true 127 2 1 .b4) (acc0) u k := ⟨_, _, ⟨rfl, rfl, .laneAtomic _ _ _ _ _ _ _ _ (.vatomCas _ _ _ _ _) (by first | decide +kernel | rfl) (by first | decide +kernel | rfl) (by first | decide +kernel | rfl), (by first | decide +kernel | rfl)⟩⟩
theorem witness_laneAtomicOdd : ∃ u k, Misnames (.vredAdd true 3 2 1 .b8) (acc0) u k := ⟨_, _, ⟨rfl, rfl, .laneAtomic _ _ _ _ _ _ _ _ (.vredAdd _ _ _ _ _) (by first | decide +kernel | rfl) (by first | decide +kernel | rfl) (by first | decide +kernel | rfl), (by first | decide +kernel | rfl)⟩⟩
theorem witness_laneAtomicPrivate : ∃ u k, Misnames (.vatomAdd true 4 2 0 .b8) (acc0) u k := ⟨_, _, ⟨rfl, rfl, .laneWide _ _ _ _ _ _ _ (.vatomAdd _ _ _ _ _) (by first | decide +kernel | rfl), (by first | decide +kernel | rfl)⟩⟩
theorem witness_scalarLoadGroup : ∃ u k, Misnames (.sld true 11 2 1 .b16 0) (acc0) u k := ⟨_, _, ⟨rfl, rfl, .scalarLoad _ _ _ _ _ _ _ (.sld _ _ _ _ _ _) (by first | decide +kernel | rfl), (by first | decide +kernel | rfl)⟩⟩
theorem witness_scalarStoreGroup : ∃ u k, Misnames (.sst true 11 2 1 .b16 0) (acc0) u k := ⟨_, _, ⟨rfl, rfl, .scalarStore _ _ _ _ _ (by first | decide +kernel | rfl), (by first | decide +kernel | rfl)⟩⟩
theorem witness_scalarAtomicPast : ∃ u k, Misnames (.satomCas true 127 2 1 .b4) (acc0) u k := ⟨_, _, ⟨rfl, rfl, .scalarAtomic _ _ _ _ _ _ _ (.satomCas _ _ _ _ _) (.inl (by first | decide +kernel | rfl)), (by first | decide +kernel | rfl)⟩⟩
theorem witness_scalarAtomicPrivate : ∃ u k, Misnames (.satomAdd true 10 2 0 .b8) (acc0) u k := ⟨_, _, ⟨rfl, rfl, .scalarAtomic _ _ _ _ _ _ _ (.satomAdd _ _ _ _ _) (.inr (.inl (by first | decide +kernel | rfl))), (by first | decide +kernel | rfl)⟩⟩
theorem witness_scalarAtomicControl : ∃ u k, Misnames (.satomAdd true 10 2 1 .b8) (cp0 0x300 0) u k := ⟨_, _, ⟨rfl, rfl, .scalarAtomic _ _ _ _ _ _ _ (.satomAdd _ _ _ _ _) (.inr (.inr (by first | decide +kernel | rfl))), (by first | decide +kernel | rfl)⟩⟩
theorem witness_cpCommand : ∃ u k, NotOnCp (.mzero true 0) (cp0 0 0) u k := ⟨_, _, ⟨rfl, rfl, .command _ _ (.mzero _ _), (by first | decide +kernel | rfl), (by unfold HasRoom; decide +kernel), (by first | decide +kernel | rfl)⟩⟩
theorem witness_cpMvm : ∃ u k, NotOnCp (.mvm true 1 2 3 4) (cp0 0 0) u k := ⟨_, _, ⟨rfl, rfl, .mvm _ _ _ _ _, (by first | decide +kernel | rfl), (by unfold HasRoom; decide +kernel), (by first | decide +kernel | rfl)⟩⟩
theorem witness_cpCopy : ∃ u k, NotOnCp (.cpy true 1 2 2 3 0) (cp0 0 0) u k := ⟨_, _, ⟨rfl, rfl, .cpy _ _ _ _ _ _, (by first | decide +kernel | rfl), (by unfold HasRoom; decide +kernel), (by first | decide +kernel | rfl)⟩⟩
theorem witness_cpKwait : ∃ u k, NotOnCp (.kwait true 1) (cp0 0 0) u k := ⟨_, _, ⟨rfl, rfl, .kwait _ _, (by first | decide +kernel | rfl), (by unfold HasRoom; decide +kernel), (by first | decide +kernel | rfl)⟩⟩
theorem witness_cpKwaitObj : ∃ u k, NotOnCp (.kwaitObj true 7 4 1) (cp0 0 0) u k := ⟨_, _, ⟨rfl, rfl, .kwaitObj _ _ _ _, (by first | decide +kernel | rfl), (by unfold HasRoom; decide +kernel), (by first | decide +kernel | rfl)⟩⟩
theorem witness_cpMcready : ∃ u k, NotOnCp (.mcready true 5 3 4) (cp0 0 0) u k := ⟨_, _, ⟨rfl, rfl, .mcready _ _ _ _, (by first | decide +kernel | rfl), (by unfold HasRoom; decide +kernel), (by first | decide +kernel | rfl)⟩⟩
theorem witness_cpPreserve : ∃ u k, NotOnCp (.preserve true 7 2 3) (cp0 0 0) u k := ⟨_, _, ⟨rfl, rfl, .preserve _ _ _ _, (by first | decide +kernel | rfl), (by unfold HasRoom; decide +kernel), (by first | decide +kernel | rfl)⟩⟩
theorem witness_cpPquery : ∃ u k, NotOnCp (.pquery true 7 2) (cp0 0 0) u k := ⟨_, _, ⟨rfl, rfl, .pquery _ _ _, (by first | decide +kernel | rfl), (by unfold HasRoom; decide +kernel), (by first | decide +kernel | rfl)⟩⟩
theorem witness_cpyMisaligned : ∃ u k, CopyFault (.cpy true 1 2 2 3 0) (setReg withRecs 2 8) u k := ⟨_, _, .cpy _ _ _ _ _ _ _ _ 1 (by first | decide +kernel | rfl) ⟨(by first | decide +kernel | rfl), rfl⟩ (by first | decide +kernel | rfl) ⟨(by first | decide +kernel | rfl), (by first | decide +kernel | rfl)⟩ (by first | decide +kernel | rfl)⟩
theorem witness_cpyObjectMisaligned : ∃ u k, CopyFault (.cpy true 1 2 2 3 4) (setReg withRecs 4 132) u k := ⟨_, _, .cpy _ _ _ _ _ _ _ _ 1 (by first | decide +kernel | rfl) ⟨(by first | decide +kernel | rfl), rfl⟩ (by first | decide +kernel | rfl) ⟨(by first | decide +kernel | rfl), (by first | decide +kernel | rfl)⟩ (by first | decide +kernel | rfl)⟩
theorem witness_cpyBeyond : ∃ u k, CopyFault (.cpy true 1 2 2 3 0) (setReg withRecs 3 4096) u k := ⟨_, _, .cpy _ _ _ _ _ _ _ _ 4 (by first | decide +kernel | rfl) ⟨(by first | decide +kernel | rfl), rfl⟩ (by first | decide +kernel | rfl) ⟨(by first | decide +kernel | rfl), (by first | decide +kernel | rfl)⟩ (by first | decide +kernel | rfl)⟩
theorem witness_cpyObjectBeyond : ∃ u k, CopyFault (.cpy true 1 2 2 3 4) (setReg withRecs 4 4096) u k := ⟨_, _, .cpy _ _ _ _ _ _ _ _ 4 (by first | decide +kernel | rfl) ⟨(by first | decide +kernel | rfl), rfl⟩ (by first | decide +kernel | rfl) ⟨(by first | decide +kernel | rfl), (by first | decide +kernel | rfl)⟩ (by first | decide +kernel | rfl)⟩
theorem witness_cpyUncorrectable : ∃ u k, CopyFault (.cpy true 1 2 2 3 0) ({ withRecs with bad := [(scratchAddr 0 31, 1)] }) u k := ⟨_, _, .cpy _ _ _ _ _ _ _ _ 8 (by first | decide +kernel | rfl) ⟨(by first | decide +kernel | rfl), rfl⟩ (by first | decide +kernel | rfl) ⟨(by first | decide +kernel | rfl), (by first | decide +kernel | rfl)⟩ (by first | decide +kernel | rfl)⟩
theorem witness_cpyReserved : ∃ u k, CopyFault (.cpy true 1 2 2 3 0) (withRecs.write (scratchAddr 0 18) [1]) u k := ⟨_, _, .cpy _ _ _ _ _ _ _ _ 1 (by first | decide +kernel | rfl) ⟨(by first | decide +kernel | rfl), rfl⟩ (by first | decide +kernel | rfl) ⟨(by first | decide +kernel | rfl), (by first | decide +kernel | rfl)⟩ (by first | decide +kernel | rfl)⟩
theorem witness_cpyFormat : ∃ u k, CopyFault (.cpy true 1 2 2 3 0) (recsWith { recA with fmt := 14 } recB) u k := ⟨_, _, .cpy _ _ _ _ _ _ _ _ 1 (by first | decide +kernel | rfl) ⟨(by first | decide +kernel | rfl), rfl⟩ (by first | decide +kernel | rfl) ⟨(by first | decide +kernel | rfl), (by first | decide +kernel | rfl)⟩ (by first | decide +kernel | rfl)⟩
theorem witness_cpyNoRows : ∃ u k, CopyFault (.cpy true 1 2 2 3 0) (recsWith { recA with rows := 0 } recB) u k := ⟨_, _, .cpy _ _ _ _ _ _ _ _ 1 (by first | decide +kernel | rfl) ⟨(by first | decide +kernel | rfl), rfl⟩ (by first | decide +kernel | rfl) ⟨(by first | decide +kernel | rfl), (by first | decide +kernel | rfl)⟩ (by first | decide +kernel | rfl)⟩
theorem witness_cpyObject : ∃ u k, CopyFault (.cpy true 1 2 2 3 4) (withRecs.writeNum (scratchAddr 0 128) 8 (2 ^ 33)) u k := ⟨_, _, .cpy _ _ _ _ _ _ _ _ 1 (by first | decide +kernel | rfl) ⟨(by first | decide +kernel | rfl), rfl⟩ (by first | decide +kernel | rfl) ⟨(by first | decide +kernel | rfl), (by first | decide +kernel | rfl)⟩ (by first | decide +kernel | rfl)⟩
theorem witness_cpySpace : ∃ u k, CopyFault (.cpy true 1 2 2 3 0) (recsWith { recA with space := 2 } recB) u k := ⟨_, _, .cpy _ _ _ _ _ _ _ _ 1 (by first | decide +kernel | rfl) ⟨(by first | decide +kernel | rfl), rfl⟩ (by first | decide +kernel | rfl) ⟨(by first | decide +kernel | rfl), (by first | decide +kernel | rfl)⟩ (by first | decide +kernel | rfl)⟩
theorem witness_cpyLong : ∃ u k, CopyFault (.cpy true 1 2 2 3 0) (recsWith { recA with rows := 1024, cols := 16385, pitch := 16385 } { recB with rows := 1024, cols := 16385, pitch := 16385 }) u k := ⟨_, _, .cpy _ _ _ _ _ _ _ _ 1 (by first | decide +kernel | rfl) ⟨(by first | decide +kernel | rfl), rfl⟩ (by first | decide +kernel | rfl) ⟨(by first | decide +kernel | rfl), (by first | decide +kernel | rfl)⟩ (by first | decide +kernel | rfl)⟩
theorem witness_cpyPitch : ∃ u k, CopyFault (.cpy true 1 2 2 3 0) (recsWith { recA with rows := 2, pitch := 15 } { recB with rows := 2, pitch := 16 }) u k := ⟨_, _, .cpy _ _ _ _ _ _ _ _ 1 (by first | decide +kernel | rfl) ⟨(by first | decide +kernel | rfl), rfl⟩ (by first | decide +kernel | rfl) ⟨(by first | decide +kernel | rfl), (by first | decide +kernel | rfl)⟩ (by first | decide +kernel | rfl)⟩
theorem witness_cpyTwoSlots : ∃ u k, CopyFault (.cpy true 1 2 2 3 0) (withPipes (recsWith slot1 { slot1 with dir := true })) u k := ⟨_, _, .cpy _ _ _ _ _ _ _ _ 1 (by first | decide +kernel | rfl) ⟨(by first | decide +kernel | rfl), rfl⟩ (by first | decide +kernel | rfl) ⟨(by first | decide +kernel | rfl), (by first | decide +kernel | rfl)⟩ (by first | decide +kernel | rfl)⟩
theorem witness_cpyShapes : ∃ u k, CopyFault (.cpy true 1 2 2 3 0) (recsWith recA { recB with cols := 15 }) u k := ⟨_, _, .cpy _ _ _ _ _ _ _ _ 1 (by first | decide +kernel | rfl) ⟨(by first | decide +kernel | rfl), rfl⟩ (by first | decide +kernel | rfl) ⟨(by first | decide +kernel | rfl), (by first | decide +kernel | rfl)⟩ (by first | decide +kernel | rfl)⟩
theorem witness_cpyShapesSlot : ∃ u k, CopyFault (.cpy true 1 2 2 3 0) (withPipes (recsWith slot1 { recB with cols := 15 })) u k := ⟨_, _, .cpy _ _ _ _ _ _ _ _ 10 (by first | decide +kernel | rfl) ⟨(by first | decide +kernel | rfl), rfl⟩ (by first | decide +kernel | rfl) ⟨(by first | decide +kernel | rfl), (by first | decide +kernel | rfl)⟩ (by first | decide +kernel | rfl)⟩
theorem witness_cpyLimit : ∃ u k, CopyFault (.cpy true 1 2 2 3 0) (recsWith { recA with base := 4081 } recB) u k := ⟨_, _, .cpy _ _ _ _ _ _ _ _ 4 (by first | decide +kernel | rfl) ⟨(by first | decide +kernel | rfl), rfl⟩ (by first | decide +kernel | rfl) ⟨(by first | decide +kernel | rfl), (by first | decide +kernel | rfl)⟩ (by first | decide +kernel | rfl)⟩
theorem witness_cpyOrangery : ∃ u k, CopyFault (.cpy true 1 2 2 3 0) (setSeg (recsWith { recA with space := 3 } { recB with space := 3 }) ⟨0, 4096, true, true, false, 3⟩) u k := ⟨_, _, .cpy _ _ _ _ _ _ _ _ 14 (by first | decide +kernel | rfl) ⟨(by first | decide +kernel | rfl), rfl⟩ (by first | decide +kernel | rfl) ⟨(by first | decide +kernel | rfl), (by first | decide +kernel | rfl)⟩ (by first | decide +kernel | rfl)⟩
theorem witness_cpyWrite : ∃ u k, CopyFault (.cpy true 1 2 2 3 0) (setSeg withRecs ⟨0, 4096, true, false, false, 1⟩) u k := ⟨_, _, .cpy _ _ _ _ _ _ _ _ 6 (by first | decide +kernel | rfl) ⟨(by first | decide +kernel | rfl), rfl⟩ (by first | decide +kernel | rfl) ⟨(by first | decide +kernel | rfl), (by first | decide +kernel | rfl)⟩ (by first | decide +kernel | rfl)⟩
theorem witness_cpyRead : ∃ u k, CopyFault (.cpy true 1 2 2 3 0) (setSeg withRecs ⟨0, 4096, false, true, false, 1⟩) u k := ⟨_, _, .cpy _ _ _ _ _ _ _ _ 6 (by first | decide +kernel | rfl) ⟨(by first | decide +kernel | rfl), rfl⟩ (by first | decide +kernel | rfl) ⟨(by first | decide +kernel | rfl), (by first | decide +kernel | rfl)⟩ (by first | decide +kernel | rfl)⟩
theorem witness_cpyNoPipe : ∃ u k, CopyFault (.cpy true 1 2 2 3 0) (recsWith slot1 recB) u k := ⟨_, _, .cpy _ _ _ _ _ _ _ _ 1 (by first | decide +kernel | rfl) ⟨(by first | decide +kernel | rfl), rfl⟩ (by first | decide +kernel | rfl) ⟨(by first | decide +kernel | rfl), (by first | decide +kernel | rfl)⟩ (by first | decide +kernel | rfl)⟩
theorem witness_cpyDirection : ∃ u k, CopyFault (.cpy true 1 2 2 3 0) (withPipes (recsWith { slot1 with dir := true } recB)) u k := ⟨_, _, .cpy _ _ _ _ _ _ _ _ 10 (by first | decide +kernel | rfl) ⟨(by first | decide +kernel | rfl), rfl⟩ (by first | decide +kernel | rfl) ⟨(by first | decide +kernel | rfl), (by first | decide +kernel | rfl)⟩ (by first | decide +kernel | rfl)⟩
theorem witness_cpySlotShape : ∃ u k, CopyFault (.cpy true 1 2 2 3 0) ({ recsWith slot1 recB with pipes := [(67, { pipe1 with cols := 8 })] }) u k := ⟨_, _, .cpy _ _ _ _ _ _ _ _ 10 (by first | decide +kernel | rfl) ⟨(by first | decide +kernel | rfl), rfl⟩ (by first | decide +kernel | rfl) ⟨(by first | decide +kernel | rfl), (by first | decide +kernel | rfl)⟩ (by first | decide +kernel | rfl)⟩
theorem witness_cpyRowSpace : ∃ u k, CopyFault (.cpyRow true 2 2 3 1) (withRecs) u k := ⟨_, _, .cpyRow _ _ _ _ _ _ _ 1 (by first | decide +kernel | rfl) ⟨(by first | decide +kernel | rfl), rfl⟩ (by first | decide +kernel | rfl) ⟨(by first | decide +kernel | rfl), (by first | decide +kernel | rfl)⟩ (by first | decide +kernel | rfl)⟩
theorem witness_cpyRowStream : ∃ u k, CopyFault (.cpyRow true 2 2 6 1) (withRecs.setCore 0 { streams := [(1, { stream0 with owner := 1 })] }) u k := ⟨_, _, .cpyRow _ _ _ _ _ _ _ 1 (by first | decide +kernel | rfl) ⟨(by first | decide +kernel | rfl), rfl⟩ (by first | decide +kernel | rfl) ⟨(by first | decide +kernel | rfl), (by first | decide +kernel | rfl)⟩ (by first | decide +kernel | rfl)⟩
theorem witness_castReserved : ∃ u k, CopyFault (.cpyMc true 1 2 5 3 0) (setReg withRecs 5 (2 ^ 12 + 2)) u k := ⟨_, _, .cpyMc _ _ _ _ _ _ _ _ _ 1 (by first | decide +kernel | rfl) ⟨(by first | decide +kernel | rfl), rfl⟩ (by first | decide +kernel | rfl) ⟨(by first | decide +kernel | rfl), (by first | decide +kernel | rfl)⟩ rfl (by first | decide +kernel | rfl)⟩
theorem witness_castNobody : ∃ u k, CopyFault (.cpyMc true 1 2 5 3 0) (setReg withRecs 5 (3 * 2 ^ 8)) u k := ⟨_, _, .cpyMc _ _ _ _ _ _ _ _ _ 1 (by first | decide +kernel | rfl) ⟨(by first | decide +kernel | rfl), rfl⟩ (by first | decide +kernel | rfl) ⟨(by first | decide +kernel | rfl), (by first | decide +kernel | rfl)⟩ rfl (by first | decide +kernel | rfl)⟩
theorem witness_castSelf : ∃ u k, CopyFault (.cpyMc true 1 2 5 3 0) (setReg withRecs 5 3) u k := ⟨_, _, .cpyMc _ _ _ _ _ _ _ _ _ 1 (by first | decide +kernel | rfl) ⟨(by first | decide +kernel | rfl), rfl⟩ (by first | decide +kernel | rfl) ⟨(by first | decide +kernel | rfl), (by first | decide +kernel | rfl)⟩ rfl (by first | decide +kernel | rfl)⟩
theorem witness_castFirst : ∃ u k, CopyFault (.cpyMc true 1 2 5 3 0) (setReg (setReg withRecs 5 3) 3 8) u k := ⟨_, _, .cpyMc _ _ _ _ _ _ _ _ _ 1 (by first | decide +kernel | rfl) ⟨(by first | decide +kernel | rfl), rfl⟩ (by first | decide +kernel | rfl) ⟨(by first | decide +kernel | rfl), (by first | decide +kernel | rfl)⟩ rfl (by first | decide +kernel | rfl)⟩
theorem witness_castRecord : ∃ u k, CopyFault (.cpyMc true 1 2 5 3 0) (setReg withRecs 3 4096) u k := ⟨_, _, .cpyMc _ _ _ _ _ _ _ _ _ 4 (by first | decide +kernel | rfl) ⟨(by first | decide +kernel | rfl), rfl⟩ (by first | decide +kernel | rfl) ⟨(by first | decide +kernel | rfl), (by first | decide +kernel | rfl)⟩ rfl (by first | decide +kernel | rfl)⟩
theorem witness_castRead : ∃ u k, CopyFault (.cpyMc true 1 2 5 3 0) (setSeg withRecs ⟨0, 4096, false, true, false, 1⟩) u k := ⟨_, _, .cpyMc _ _ _ _ _ _ _ _ _ 6 (by first | decide +kernel | rfl) ⟨(by first | decide +kernel | rfl), rfl⟩ (by first | decide +kernel | rfl) ⟨(by first | decide +kernel | rfl), (by first | decide +kernel | rfl)⟩ rfl (by first | decide +kernel | rfl)⟩
theorem witness_readyChannel : ∃ u k, CopyFault (.mcready true 5 3 4) (setReg withRecs 5 16) u k := ⟨_, _, .mcready _ _ _ _ _ _ _ 1 (by first | decide +kernel | rfl) ⟨(by first | decide +kernel | rfl), rfl⟩ (by first | decide +kernel | rfl) rfl (by first | decide +kernel | rfl)⟩
theorem witness_readyTwice : ∃ u k, CopyFault (.mcready true 5 3 4) (withRecs.setCore 0 { ready := [(2, ⟨0, {}, 1, 16, none⟩)] }) u k := ⟨_, _, .mcready _ _ _ _ _ _ _ 1 (by first | decide +kernel | rfl) ⟨(by first | decide +kernel | rfl), rfl⟩ (by first | decide +kernel | rfl) rfl (by first | decide +kernel | rfl)⟩
theorem witness_readyGlobal : ∃ u k, CopyFault (.mcready true 5 3 4) (setReg withRecs 3 64) u k := ⟨_, _, .mcready _ _ _ _ _ _ _ 1 (by first | decide +kernel | rfl) ⟨(by first | decide +kernel | rfl), rfl⟩ (by first | decide +kernel | rfl) rfl (by first | decide +kernel | rfl)⟩
theorem witness_readyWrite : ∃ u k, CopyFault (.mcready true 5 3 4) (setSeg withRecs ⟨0, 4096, true, false, false, 1⟩) u k := ⟨_, _, .mcready _ _ _ _ _ _ _ 6 (by first | decide +kernel | rfl) ⟨(by first | decide +kernel | rfl), rfl⟩ (by first | decide +kernel | rfl) rfl (by first | decide +kernel | rfl)⟩
theorem witness_qfenceNothing : ∃ u k, CopyFault (.qfence true 2 0) (withRecs) u k := ⟨_, _, .qfence _ _ _ _ (by first | decide +kernel | rfl) ⟨(by first | decide +kernel | rfl), rfl⟩ (by first | decide +kernel | rfl)⟩
theorem witness_objectSpace : ∃ u k, CopyFault (.kwaitObj true 7 4 1) (setSeg withRecs ⟨0, 4096, true, true, false, 2⟩) u k := ⟨_, _, .object _ _ _ _ _ _ (0 + 128) 1 (by first | decide +kernel | rfl) (by unfold HasRoom; decide +kernel) ⟨(by first | decide +kernel | rfl), rfl⟩ (by first | decide +kernel | rfl) (by first | decide +kernel | rfl) (by first | decide +kernel | rfl)⟩
theorem witness_objectMisaligned : ∃ u k, CopyFault (.kwaitObj true 7 4 1) (setReg withRecs 4 132) u k := ⟨_, _, .object _ _ _ _ _ _ (scratchAddr 0 132) 1 (by first | decide +kernel | rfl) (by unfold HasRoom; decide +kernel) ⟨(by first | decide +kernel | rfl), rfl⟩ (by first | decide +kernel | rfl) (by first | decide +kernel | rfl) (by first | decide +kernel | rfl)⟩
theorem witness_objectLimit : ∃ u k, CopyFault (.kwaitObj true 7 4 1) (setReg withRecs 4 4096) u k := ⟨_, _, .object _ _ _ _ _ _ (scratchAddr 0 4096) 4 (by first | decide +kernel | rfl) (by unfold HasRoom; decide +kernel) ⟨(by first | decide +kernel | rfl), rfl⟩ (by first | decide +kernel | rfl) (by first | decide +kernel | rfl) (by first | decide +kernel | rfl)⟩
theorem witness_objectRead : ∃ u k, CopyFault (.kwaitObj true 7 4 1) (setSeg withRecs ⟨0, 4096, false, true, false, 1⟩) u k := ⟨_, _, .object _ _ _ _ _ _ (scratchAddr 0 128) 6 (by first | decide +kernel | rfl) (by unfold HasRoom; decide +kernel) ⟨(by first | decide +kernel | rfl), rfl⟩ (by first | decide +kernel | rfl) (by first | decide +kernel | rfl) (by first | decide +kernel | rfl)⟩
theorem witness_objectUncorrectable : ∃ u k, CopyFault (.kwaitObj true 7 4 1) ({ withRecs with bad := [(scratchAddr 0 135, 1)] }) u k := ⟨_, _, .object _ _ _ _ _ _ (scratchAddr 0 128) 8 (by first | decide +kernel | rfl) (by unfold HasRoom; decide +kernel) ⟨(by first | decide +kernel | rfl), rfl⟩ (by first | decide +kernel | rfl) (by first | decide +kernel | rfl) (by first | decide +kernel | rfl)⟩
theorem witness_objectMalformed : ∃ u k, CopyFault (.kwaitObj true 7 4 1) (withRecs.writeNum (scratchAddr 0 128) 8 (2 ^ 33)) u k := ⟨_, _, .object _ _ _ _ _ _ (scratchAddr 0 128) 1 (by first | decide +kernel | rfl) (by unfold HasRoom; decide +kernel) ⟨(by first | decide +kernel | rfl), rfl⟩ (by first | decide +kernel | rfl) (by first | decide +kernel | rfl) (by first | decide +kernel | rfl)⟩
theorem witness_preserveReserved : ∃ u k, PipeFault (.preserve true 7 2 3) (setReg (atPipe pipe1 {}) 2 (3 + 2 ^ 6)) u k := ⟨_, _, .preserve _ _ _ _ _ _ 1 (by first | decide +kernel | rfl) (by unfold HasRoom; decide +kernel) ⟨(by first | decide +kernel | rfl), rfl⟩ (by first | decide +kernel | rfl) (by first | decide +kernel | rfl)⟩
theorem witness_preserveNoPipe : ∃ u k, PipeFault (.preserve true 7 2 3) (setReg (atPipe pipe1 {}) 2 4) u k := ⟨_, _, .preserve _ _ _ _ _ _ 1 (by first | decide +kernel | rfl) (by unfold HasRoom; decide +kernel) ⟨(by first | decide +kernel | rfl), rfl⟩ (by first | decide +kernel | rfl) (by first | decide +kernel | rfl)⟩
theorem witness_preserveLost : ∃ u k, PipeFault (.preserve true 7 2 3) ({ atPipe { pipe1 with homeKind := 1, home := 2 } {} with fabLost := 4 }) u k := ⟨_, _, .preserve _ _ _ _ _ _ 12 (by first | decide +kernel | rfl) (by unfold HasRoom; decide +kernel) ⟨(by first | decide +kernel | rfl), rfl⟩ (by first | decide +kernel | rfl) (by first | decide +kernel | rfl)⟩
theorem witness_preserveMisaligned : ∃ u k, PipeFault (.preserve true 7 2 3) (setReg (atPipe pipe1 {}) 3 40) u k := ⟨_, _, .preserve _ _ _ _ _ _ 1 (by first | decide +kernel | rfl) (by unfold HasRoom; decide +kernel) ⟨(by first | decide +kernel | rfl), rfl⟩ (by first | decide +kernel | rfl) (by first | decide +kernel | rfl)⟩
theorem witness_preserveBeyond : ∃ u k, PipeFault (.preserve true 7 2 3) (setReg (atPipe pipe1 {}) 3 4096) u k := ⟨_, _, .preserve _ _ _ _ _ _ 4 (by first | decide +kernel | rfl) (by unfold HasRoom; decide +kernel) ⟨(by first | decide +kernel | rfl), rfl⟩ (by first | decide +kernel | rfl) (by first | decide +kernel | rfl)⟩
theorem witness_preserveStage : ∃ u k, PipeFault (.preserve true 7 2 3) (atPipe { pipe1 with producer := 1 } {}) u k := ⟨_, _, .preserve _ _ _ _ _ _ 10 (by first | decide +kernel | rfl) (by unfold HasRoom; decide +kernel) ⟨(by first | decide +kernel | rfl), rfl⟩ (by first | decide +kernel | rfl) (by first | decide +kernel | rfl)⟩
theorem witness_preserveDraining : ∃ u k, PipeFault (.preserve true 7 2 3) ({ atPipe pipe1 {} with plans := [(1, { state := .draining })] }) u k := ⟨_, _, .preserve _ _ _ _ _ _ 6 (by first | decide +kernel | rfl) (by unfold HasRoom; decide +kernel) ⟨(by first | decide +kernel | rfl), rfl⟩ (by first | decide +kernel | rfl) (by first | decide +kernel | rfl)⟩
theorem witness_pclaimCursor : ∃ u k, PipeFault (.pclaim true 7 2 3) (setReg (atPipe pipe1 {}) 2 (3 + 2 ^ 8)) u k := ⟨_, _, .pclaim _ _ _ _ _ _ 10 (by first | decide +kernel | rfl) (by unfold HasRoom; decide +kernel) ⟨(by first | decide +kernel | rfl), rfl⟩ (by first | decide +kernel | rfl) (by first | decide +kernel | rfl)⟩
theorem witness_pclaimReserved : ∃ u k, PipeFault (.pclaim true 7 2 3) (setReg (atPipe pipe1 {}) 2 (3 + 2 ^ 10)) u k := ⟨_, _, .pclaim _ _ _ _ _ _ 1 (by first | decide +kernel | rfl) (by unfold HasRoom; decide +kernel) ⟨(by first | decide +kernel | rfl), rfl⟩ (by first | decide +kernel | rfl) (by first | decide +kernel | rfl)⟩
theorem witness_pqueryCursor : ∃ u k, PipeFault (.pquery true 7 2) (setReg (atPipe pipe1 {}) 2 (3 + 3 * 2 ^ 8)) u k := ⟨_, _, .pquery _ _ _ _ _ 10 (by first | decide +kernel | rfl) (by unfold HasRoom; decide +kernel) ⟨(by first | decide +kernel | rfl), rfl⟩ (by first | decide +kernel | rfl) (by first | decide +kernel | rfl)⟩
theorem witness_pqueryNoPipe : ∃ u k, PipeFault (.pquery true 7 2) (setReg (atPipe pipe1 {}) 2 63) u k := ⟨_, _, .pquery _ _ _ _ _ 1 (by first | decide +kernel | rfl) (by unfold HasRoom; decide +kernel) ⟨(by first | decide +kernel | rfl), rfl⟩ (by first | decide +kernel | rfl) (by first | decide +kernel | rfl)⟩
theorem witness_pcommitMisaligned : ∃ u k, PipeFault (.pcommit true 3) (setReg (atPipe pipe1 { kind := 1, pipe := 3, fmt := 0 }) 3 97) u k := ⟨_, _, .pcommit _ _ _ _ 1 (by first | decide +kernel | rfl) ⟨(by first | decide +kernel | rfl), rfl⟩ (by first | decide +kernel | rfl) (by first | decide +kernel | rfl)⟩
theorem witness_pcommitBeyond : ∃ u k, PipeFault (.pcommit true 3) (setReg (atPipe pipe1 { kind := 1, pipe := 3, fmt := 0 }) 3 8192) u k := ⟨_, _, .pcommit _ _ _ _ 4 (by first | decide +kernel | rfl) ⟨(by first | decide +kernel | rfl), rfl⟩ (by first | decide +kernel | rfl) (by first | decide +kernel | rfl)⟩
theorem witness_pcommitUncorrectable : ∃ u k, PipeFault (.pcommit true 3) ({ atPipe pipe1 { kind := 1, pipe := 3, fmt := 0 } with bad := [(scratchAddr 0 127, 1)] }) u k := ⟨_, _, .pcommit _ _ _ _ 8 (by first | decide +kernel | rfl) ⟨(by first | decide +kernel | rfl), rfl⟩ (by first | decide +kernel | rfl) (by first | decide +kernel | rfl)⟩
theorem witness_pcommitKind : ∃ u k, PipeFault (.pcommit true 3) (atPipe pipe1 { kind := 0, pipe := 3 }) u k := ⟨_, _, .pcommit _ _ _ _ 1 (by first | decide +kernel | rfl) ⟨(by first | decide +kernel | rfl), rfl⟩ (by first | decide +kernel | rfl) (by first | decide +kernel | rfl)⟩
theorem witness_pcommitDirection : ∃ u k, PipeFault (.pcommit true 3) (atPipe pipe1 { kind := 1, pipe := 3, dir := true }) u k := ⟨_, _, .pcommit _ _ _ _ 10 (by first | decide +kernel | rfl) ⟨(by first | decide +kernel | rfl), rfl⟩ (by first | decide +kernel | rfl) (by first | decide +kernel | rfl)⟩
theorem witness_pcommitNoPipe : ∃ u k, PipeFault (.pcommit true 3) (atPipe pipe1 { kind := 1, pipe := 4 }) u k := ⟨_, _, .pcommit _ _ _ _ 1 (by first | decide +kernel | rfl) ⟨(by first | decide +kernel | rfl), rfl⟩ (by first | decide +kernel | rfl) (by first | decide +kernel | rfl)⟩
theorem witness_preleaseDirection : ∃ u k, PipeFault (.prelease true 3) (atPipe pipe1 { kind := 1, pipe := 3, fmt := 0 }) u k := ⟨_, _, .prelease _ _ _ _ 10 (by first | decide +kernel | rfl) ⟨(by first | decide +kernel | rfl), rfl⟩ (by first | decide +kernel | rfl) (by first | decide +kernel | rfl)⟩
theorem witness_commitNotLive : ∃ u k, PipeFault (.pcommit true 3) (atPipe pipe1 { kind := 1, pipe := 3, fmt := 0 }) u k := ⟨_, _, .commitSequence _ _ _ _ _ _ pipe1 (by first | decide +kernel | rfl) ⟨(by first | decide +kernel | rfl), rfl⟩ (by first | decide +kernel | rfl) (by first | decide +kernel | rfl) rfl (by first | decide +kernel | rfl) ⟨(by first | decide +kernel | rfl), rfl⟩ (noneOf (by decide +kernel))⟩
theorem witness_commitNotReserved : ∃ u k, PipeFault (.pcommit true 3) (atPipe (slotOf { st := .committed, owner := 1, cs := [.pending] }) { kind := 1, pipe := 3, fmt := 0 }) u k := ⟨_, _, .commitSequence _ _ _ _ _ _ (slotOf { st := .committed, owner := 1, cs := [.pending] }) (by first | decide +kernel | rfl) ⟨(by first | decide +kernel | rfl), rfl⟩ (by first | decide +kernel | rfl) (by first | decide +kernel | rfl) rfl (by first | decide +kernel | rfl) ⟨(by first | decide +kernel | rfl), rfl⟩ (someOf (y := (0, { st := .committed, owner := 1, cs := [.pending] })) (by first | decide +kernel | rfl) (by first | decide +kernel | rfl))⟩
theorem witness_releaseNotClaimed : ∃ u k, PipeFault (.prelease true 3) (atPipe (slotOf { st := .committed, owner := 1, cs := [.pending] }) { kind := 1, pipe := 3, dir := true }) u k := ⟨_, _, .releaseSequence _ _ _ _ _ _ (slotOf { st := .committed, owner := 1, cs := [.pending] }) (by first | decide +kernel | rfl) ⟨(by first | decide +kernel | rfl), rfl⟩ (by first | decide +kernel | rfl) (by first | decide +kernel | rfl) rfl (by first | decide +kernel | rfl) ⟨(by first | decide +kernel | rfl), rfl⟩ (someOf (y := (0, { st := .committed, owner := 1, cs := [.pending] })) (by first | decide +kernel | rfl) (by first | decide +kernel | rfl))⟩
theorem witness_send127 : ∃ u k, JoinFaults (.send true 2 127) (join0) u k := ⟨_, _, ⟨rfl, .send _ _ _ _ _ (by first | decide +kernel | rfl) ⟨(by first | decide +kernel | rfl), rfl⟩ (.inl rfl)⟩⟩
theorem witness_sendReserved : ∃ u k, JoinFaults (.send true 2 6) (setReg join0 2 (5 + 2 ^ 30)) u k := ⟨_, _, ⟨rfl, .send _ _ _ _ _ (by first | decide +kernel | rfl) ⟨(by first | decide +kernel | rfl), rfl⟩ (.inr (by first | decide +kernel | rfl))⟩⟩
theorem witness_sendwReserved : ∃ u k, JoinFaults (.sendw true 8 2 6) (setReg join0 2 (5 + 2 ^ 13)) u k := ⟨_, _, ⟨rfl, .sendw _ _ _ _ _ _ (by first | decide +kernel | rfl) (by unfold HasRoom; decide +kernel) ⟨(by first | decide +kernel | rfl), rfl⟩ (.inr (by first | decide +kernel | rfl))⟩⟩
theorem witness_sendwTag : ∃ u k, JoinFaults (.sendw true 8 2 6) (setReg join0 2 (5 + 2 ^ 48)) u k := ⟨_, _, ⟨rfl, .sendw _ _ _ _ _ _ (by first | decide +kernel | rfl) (by unfold HasRoom; decide +kernel) ⟨(by first | decide +kernel | rfl), rfl⟩ (.inr (by first | decide +kernel | rfl))⟩⟩
theorem witness_pportqReserved : ∃ u k, JoinFaults (.pportq true 8 2) (setReg join0 2 (2 ^ 30)) u k := ⟨_, _, ⟨rfl, .pportq _ _ _ _ (by first | decide +kernel | rfl) (by first | decide +kernel | rfl)⟩⟩
theorem witness_jenRange : ∃ u k, JoinFaults (.jen true 2) (setReg (join0.setMe { join0.me with mode := .supervisor }) 2 (2 ^ 13)) u k := ⟨_, _, ⟨rfl, .jen _ _ _ _ (by first | decide +kernel | rfl) ⟨(by first | decide +kernel | rfl), rfl⟩ (by first | decide +kernel | rfl) (.inl (by first | decide +kernel | rfl))⟩⟩
theorem witness_jdisNone : ∃ u k, JoinFaults (.jdis true 3) ((join0.setMe { join0.me with mode := .supervisor })) u k := ⟨_, _, ⟨rfl, .jdis _ _ _ _ (by first | decide +kernel | rfl) ⟨(by first | decide +kernel | rfl), rfl⟩ (by first | decide +kernel | rfl) (.inr (by first | decide +kernel | rfl))⟩⟩
theorem witness_tile : ∃ u k, MatrixFault (.mzero true 2) (mat0) u k := ⟨_, _, .tile _ _ _ _ (.mzero _ _) (by first | decide +kernel | rfl) ⟨(by first | decide +kernel | rfl), rfl⟩ (by first | decide +kernel | rfl) (by first | decide +kernel | rfl) (by first | decide +kernel | rfl)⟩
theorem witness_tileNone : ∃ u k, MatrixFault (.mrows true 0) (mat0.modTask 1 fun t => { t with tiles := 0 }) u k := ⟨_, _, .tile _ _ _ _ (.mrows _ _) (by first | decide +kernel | rfl) ⟨(by first | decide +kernel | rfl), rfl⟩ (by first | decide +kernel | rfl) (by first | decide +kernel | rfl) (by first | decide +kernel | rfl)⟩
theorem witness_popNone : ∃ u k, MatrixFault (.vpopa true 3) (mat0.modTask 1 fun t => { t with tiles := 0 }) u k := ⟨_, _, .pop _ _ _ (by first | decide +kernel | rfl) (by first | decide +kernel | rfl) (by first | decide +kernel | rfl)⟩
theorem witness_productNone : ∃ u k, MatrixFault (.mvm true 7 2 3 4) (mat0.modTask 1 fun t => { t with tiles := 0 }) u k := ⟨_, _, .product _ _ _ _ _ _ _ (by first | decide +kernel | rfl) ⟨(by first | decide +kernel | rfl), rfl⟩ (by first | decide +kernel | rfl) (by first | decide +kernel | rfl) (by first | decide +kernel | rfl)⟩
theorem witness_mmaMask : ∃ u k, MatrixFault (.mma true 1 2 3 4) (setReg (withMat recOfA recOfB recOfM 0) 126 1) u k := ⟨_, _, .mma _ _ _ _ _ _ _ 3 (by first | decide +kernel | rfl) ⟨(by first | decide +kernel | rfl), rfl⟩ ⟨⟨(by first | decide +kernel | rfl), (by first | decide +kernel | rfl), (by first | decide +kernel | rfl)⟩, (by first | decide +kernel | rfl), (by first | decide +kernel | rfl)⟩ (by first | decide +kernel | rfl)⟩
theorem witness_mmaBlockMisaligned : ∃ u k, MatrixFault (.mma true 1 2 3 4) (setReg (withMat recOfA recOfB recOfM 0) 2 100) u k := ⟨_, _, .mma _ _ _ _ _ _ _ 1 (by first | decide +kernel | rfl) ⟨(by first | decide +kernel | rfl), rfl⟩ ⟨⟨(by first | decide +kernel | rfl), (by first | decide +kernel | rfl), (by first | decide +kernel | rfl)⟩, (by first | decide +kernel | rfl), (by first | decide +kernel | rfl)⟩ (by first | decide +kernel | rfl)⟩
theorem witness_mmaBlockBeyond : ∃ u k, MatrixFault (.mma true 1 2 3 4) (setReg (withMat recOfA recOfB recOfM 0) 2 65536) u k := ⟨_, _, .mma _ _ _ _ _ _ _ 4 (by first | decide +kernel | rfl) ⟨(by first | decide +kernel | rfl), rfl⟩ ⟨⟨(by first | decide +kernel | rfl), (by first | decide +kernel | rfl), (by first | decide +kernel | rfl)⟩, (by first | decide +kernel | rfl), (by first | decide +kernel | rfl)⟩ (by first | decide +kernel | rfl)⟩
theorem witness_mmaBlockUncorrectable : ∃ u k, MatrixFault (.mma true 1 2 3 4) ({ withMat recOfA recOfB recOfM 0 with bad := [(scratchAddr 0 96, 1)] }) u k := ⟨_, _, .mma _ _ _ _ _ _ _ 8 (by first | decide +kernel | rfl) ⟨(by first | decide +kernel | rfl), rfl⟩ ⟨⟨(by first | decide +kernel | rfl), (by first | decide +kernel | rfl), (by first | decide +kernel | rfl)⟩, (by first | decide +kernel | rfl), (by first | decide +kernel | rfl)⟩ (by first | decide +kernel | rfl)⟩
theorem witness_mmaBlockReserved : ∃ u k, MatrixFault (.mma true 1 2 3 4) ((withMat recOfA recOfB recOfM 0).write (scratchAddr 0 96) [8 + 16]) u k := ⟨_, _, .mma _ _ _ _ _ _ _ 1 (by first | decide +kernel | rfl) ⟨(by first | decide +kernel | rfl), rfl⟩ ⟨⟨(by first | decide +kernel | rfl), (by first | decide +kernel | rfl), (by first | decide +kernel | rfl)⟩, (by first | decide +kernel | rfl), (by first | decide +kernel | rfl)⟩ (by first | decide +kernel | rfl)⟩
theorem witness_mmaClass : ∃ u k, MatrixFault (.mma true 1 2 3 4) ((withMat recOfA recOfB recOfM 0).write (scratchAddr 0 96) [9]) u k := ⟨_, _, .mma _ _ _ _ _ _ _ 1 (by first | decide +kernel | rfl) ⟨(by first | decide +kernel | rfl), rfl⟩ ⟨⟨(by first | decide +kernel | rfl), (by first | decide +kernel | rfl), (by first | decide +kernel | rfl)⟩, (by first | decide +kernel | rfl), (by first | decide +kernel | rfl)⟩ (by first | decide +kernel | rfl)⟩
theorem witness_mmaHalf : ∃ u k, MatrixFault (.mma true 1 2 3 4) ((withMat recOfA recOfB recOfM 0).write (scratchAddr 0 98) [2]) u k := ⟨_, _, .mma _ _ _ _ _ _ _ 1 (by first | decide +kernel | rfl) ⟨(by first | decide +kernel | rfl), rfl⟩ ⟨⟨(by first | decide +kernel | rfl), (by first | decide +kernel | rfl), (by first | decide +kernel | rfl)⟩, (by first | decide +kernel | rfl), (by first | decide +kernel | rfl)⟩ (by first | decide +kernel | rfl)⟩
theorem witness_mmaPlanePitch : ∃ u k, MatrixFault (.mma true 1 2 3 4) (((withMat (recMat 4096 128 128 0) (recMat 16384 128 128 0) recOfM 0).write (scratchAddr 0 96) [5, 0, 33, 0, 0, 0, 0, 0, 5, 0, 0]).write (scratchAddr 0 116) [3]) u k := ⟨_, _, .mma _ _ _ _ _ _ _ 1 (by first | decide +kernel | rfl) ⟨(by first | decide +kernel | rfl), rfl⟩ ⟨⟨(by first | decide +kernel | rfl), (by first | decide +kernel | rfl), (by first | decide +kernel | rfl)⟩, (by first | decide +kernel | rfl), (by first | decide +kernel | rfl)⟩ (by first | decide +kernel | rfl)⟩
theorem witness_mmaPlaneBeyond : ∃ u k, MatrixFault (.mma true 1 2 3 4) (((withMat (recMat 4096 128 128 0) (recMat 16384 128 128 0) recOfM 0).write (scratchAddr 0 96) [5, 0, 33, 1, 255, 0, 0, 0, 5, 0, 0])) u k := ⟨_, _, .mma _ _ _ _ _ _ _ 4 (by first | decide +kernel | rfl) ⟨(by first | decide +kernel | rfl), rfl⟩ ⟨⟨(by first | decide +kernel | rfl), (by first | decide +kernel | rfl), (by first | decide +kernel | rfl)⟩, (by first | decide +kernel | rfl), (by first | decide +kernel | rfl)⟩ (by first | decide +kernel | rfl)⟩
theorem witness_mmaPlaneDenied : ∃ u k, MatrixFault (.mma true 1 2 3 4) (setSeg ((((withMat (recMat 4096 128 128 0) (recMat 16384 128 128 0) recOfM 0).write (scratchAddr 0 96) [5, 0, 33, 0, 0, 0, 0, 0, 5, 0, 0])) ) ⟨0, 65536, false, true, false, 1⟩) u k := ⟨_, _, .mma _ _ _ _ _ _ _ 6 (by first | decide +kernel | rfl) ⟨(by first | decide +kernel | rfl), rfl⟩ ⟨⟨(by first | decide +kernel | rfl), (by first | decide +kernel | rfl), (by first | decide +kernel | rfl)⟩, (by first | decide +kernel | rfl), (by first | decide +kernel | rfl)⟩ (by first | decide +kernel | rfl)⟩
theorem witness_mmaMeta : ∃ u k, MatrixFault (.mma true 1 2 3 4) (withMat recOfA recOfB recOfM 64) u k := ⟨_, _, .mma _ _ _ _ _ _ _ 1 (by first | decide +kernel | rfl) ⟨(by first | decide +kernel | rfl), rfl⟩ ⟨⟨(by first | decide +kernel | rfl), (by first | decide +kernel | rfl), (by first | decide +kernel | rfl)⟩, (by first | decide +kernel | rfl), (by first | decide +kernel | rfl)⟩ (by first | decide +kernel | rfl)⟩
theorem witness_mmaShapeA : ∃ u k, MatrixFault (.mma true 1 2 3 4) (withMat { recOfA with rows := 63 } recOfB recOfM 0) u k := ⟨_, _, .mma _ _ _ _ _ _ _ 1 (by first | decide +kernel | rfl) ⟨(by first | decide +kernel | rfl), rfl⟩ ⟨⟨(by first | decide +kernel | rfl), (by first | decide +kernel | rfl), (by first | decide +kernel | rfl)⟩, (by first | decide +kernel | rfl), (by first | decide +kernel | rfl)⟩ (by first | decide +kernel | rfl)⟩
theorem witness_mmaShapeB : ∃ u k, MatrixFault (.mma true 1 2 3 4) (withMat recOfA { recOfB with cols := 63 } recOfM 0) u k := ⟨_, _, .mma _ _ _ _ _ _ _ 1 (by first | decide +kernel | rfl) ⟨(by first | decide +kernel | rfl), rfl⟩ ⟨⟨(by first | decide +kernel | rfl), (by first | decide +kernel | rfl), (by first | decide +kernel | rfl)⟩, (by first | decide +kernel | rfl), (by first | decide +kernel | rfl)⟩ (by first | decide +kernel | rfl)⟩
theorem witness_mmaLatchless : ∃ u k, MatrixFault (.mma true 1 2 0 4) (withMat recOfA recOfB recOfM 0) u k := ⟨_, _, .mma _ _ _ _ _ _ _ 1 (by first | decide +kernel | rfl) ⟨(by first | decide +kernel | rfl), rfl⟩ ⟨⟨(by first | decide +kernel | rfl), (by first | decide +kernel | rfl), (by first | decide +kernel | rfl)⟩, (by first | decide +kernel | rfl), (by first | decide +kernel | rfl)⟩ (by first | decide +kernel | rfl)⟩
theorem witness_mmaLimit : ∃ u k, MatrixFault (.mma true 1 2 3 4) (withMat { recOfA with base := 65536 - 63 * 128 - 127 } recOfB recOfM 0) u k := ⟨_, _, .mma _ _ _ _ _ _ _ 4 (by first | decide +kernel | rfl) ⟨(by first | decide +kernel | rfl), rfl⟩ ⟨⟨(by first | decide +kernel | rfl), (by first | decide +kernel | rfl), (by first | decide +kernel | rfl)⟩, (by first | decide +kernel | rfl), (by first | decide +kernel | rfl)⟩ (by first | decide +kernel | rfl)⟩
theorem witness_mmaRead : ∃ u k, MatrixFault (.mma true 1 2 3 4) (setSeg (withMat recOfA recOfB recOfM 0) ⟨0, 65536, false, true, false, 1⟩) u k := ⟨_, _, .mma _ _ _ _ _ _ _ 6 (by first | decide +kernel | rfl) ⟨(by first | decide +kernel | rfl), rfl⟩ ⟨⟨(by first | decide +kernel | rfl), (by first | decide +kernel | rfl), (by first | decide +kernel | rfl)⟩, (by first | decide +kernel | rfl), (by first | decide +kernel | rfl)⟩ (by first | decide +kernel | rfl)⟩
theorem witness_mmaPage : ∃ u k, MatrixFault (.mma true 1 2 3 4) ({ withMat { recOfA with base := 0, seg := 2, space := 2 } recOfB recOfM 0 with tlb := [⟨0, 0, 1, 207⟩] }) u k := ⟨_, _, .mma _ _ _ _ _ _ _ 5 (by first | decide +kernel | rfl) ⟨(by first | decide +kernel | rfl), rfl⟩ ⟨⟨(by first | decide +kernel | rfl), (by first | decide +kernel | rfl), (by first | decide +kernel | rfl)⟩, (by first | decide +kernel | rfl), (by first | decide +kernel | rfl)⟩ (by first | decide +kernel | rfl)⟩
theorem witness_mmaSpMeta : ∃ u k, MatrixFault (.mmaSp true 1 2 3 4) (withMat recOfA recOfBs { recOfM with cols := 15 } 64) u k := ⟨_, _, .mmaSp _ _ _ _ _ _ _ 1 (by first | decide +kernel | rfl) ⟨(by first | decide +kernel | rfl), rfl⟩ ⟨⟨(by first | decide +kernel | rfl), (by first | decide +kernel | rfl), (by first | decide +kernel | rfl)⟩, (by first | decide +kernel | rfl), (by first | decide +kernel | rfl)⟩ (by first | decide +kernel | rfl)⟩
theorem witness_mmaSpMisaligned : ∃ u k, MatrixFault (.mmaSp true 1 2 3 4) (withMat recOfA recOfBs recOfM 72) u k := ⟨_, _, .mmaSp _ _ _ _ _ _ _ 1 (by first | decide +kernel | rfl) ⟨(by first | decide +kernel | rfl), rfl⟩ ⟨⟨(by first | decide +kernel | rfl), (by first | decide +kernel | rfl), (by first | decide +kernel | rfl)⟩, (by first | decide +kernel | rfl), (by first | decide +kernel | rfl)⟩ (by first | decide +kernel | rfl)⟩
theorem witness_mldaccShape : ∃ u k, MatrixFault (.mldacc true 1 3) (withMat { recTile with pitch := 255 } {} {} 0) u k := ⟨_, _, .mldacc _ _ _ _ _ 1 (by first | decide +kernel | rfl) ⟨(by first | decide +kernel | rfl), rfl⟩ ⟨⟨(by first | decide +kernel | rfl), (by first | decide +kernel | rfl), (by first | decide +kernel | rfl)⟩, (by first | decide +kernel | rfl), (by first | decide +kernel | rfl)⟩ (by first | decide +kernel | rfl)⟩
theorem witness_mldaccLimit : ∃ u k, MatrixFault (.mldacc true 1 3) (withMat { recTile with base := 65536 - 64 * 256 + 1 } {} {} 0) u k := ⟨_, _, .mldacc _ _ _ _ _ 4 (by first | decide +kernel | rfl) ⟨(by first | decide +kernel | rfl), rfl⟩ ⟨⟨(by first | decide +kernel | rfl), (by first | decide +kernel | rfl), (by first | decide +kernel | rfl)⟩, (by first | decide +kernel | rfl), (by first | decide +kernel | rfl)⟩ (by first | decide +kernel | rfl)⟩
theorem witness_mstaccWrite : ∃ u k, MatrixFault (.mstacc true 1 3 0) (setSeg (withMat recTile {} {} 0) ⟨0, 65536, true, false, false, 1⟩) u k := ⟨_, _, .mstacc _ _ _ _ _ _ 6 (by first | decide +kernel | rfl) ⟨(by first | decide +kernel | rfl), rfl⟩ ⟨⟨(by first | decide +kernel | rfl), (by first | decide +kernel | rfl), (by first | decide +kernel | rfl)⟩, (by first | decide +kernel | rfl), (by first | decide +kernel | rfl)⟩ (by first | decide +kernel | rfl)⟩
theorem witness_mstaccObject : ∃ u k, MatrixFault (.mstacc true 1 3 6) (setReg (withMat recTile {} {} 0) 6 4) u k := ⟨_, _, .mstacc _ _ _ _ _ _ 1 (by first | decide +kernel | rfl) ⟨(by first | decide +kernel | rfl), rfl⟩ ⟨⟨(by first | decide +kernel | rfl), (by first | decide +kernel | rfl), (by first | decide +kernel | rfl)⟩, (by first | decide +kernel | rfl), (by first | decide +kernel | rfl)⟩ (by first | decide +kernel | rfl)⟩
theorem witness_mvmBlock : ∃ u k, MatrixFault (.mvm true 7 2 3 4) ((withMat recVec recStack recOut 64).write (scratchAddr 0 96) [9]) u k := ⟨_, _, .mvm _ _ _ _ _ _ _ 1 (by first | decide +kernel | rfl) ⟨(by first | decide +kernel | rfl), rfl⟩ ⟨(by first | decide +kernel | rfl), (by first | decide +kernel | rfl), (by first | decide +kernel | rfl)⟩ (by first | decide +kernel | rfl) (by first | decide +kernel | rfl)⟩
theorem witness_mvmVector : ∃ u k, MatrixFault (.mvm true 7 2 3 4) (withMat { recVec with cols := 33 } recStack recOut 64) u k := ⟨_, _, .mvm _ _ _ _ _ _ _ 1 (by first | decide +kernel | rfl) ⟨(by first | decide +kernel | rfl), rfl⟩ ⟨(by first | decide +kernel | rfl), (by first | decide +kernel | rfl), (by first | decide +kernel | rfl)⟩ (by first | decide +kernel | rfl) (by first | decide +kernel | rfl)⟩
theorem witness_mvmResult : ∃ u k, MatrixFault (.mvm true 7 2 3 4) (withMat recVec recStack { recOut with cols := 2 } 64) u k := ⟨_, _, .mvm _ _ _ _ _ _ _ 1 (by first | decide +kernel | rfl) ⟨(by first | decide +kernel | rfl), rfl⟩ ⟨(by first | decide +kernel | rfl), (by first | decide +kernel | rfl), (by first | decide +kernel | rfl)⟩ (by first | decide +kernel | rfl) (by first | decide +kernel | rfl)⟩
theorem witness_mvmLimit : ∃ u k, MatrixFault (.mvm true 7 2 3 4) (withMat recVec { recStack with base := 65536 } recOut 64) u k := ⟨_, _, .mvm _ _ _ _ _ _ _ 4 (by first | decide +kernel | rfl) ⟨(by first | decide +kernel | rfl), rfl⟩ ⟨(by first | decide +kernel | rfl), (by first | decide +kernel | rfl), (by first | decide +kernel | rfl)⟩ (by first | decide +kernel | rfl) (by first | decide +kernel | rfl)⟩
theorem witness_mvmWrite : ∃ u k, MatrixFault (.mvm true 7 2 3 4) (setSeg (withMat recVec recStack recOut 64) ⟨0, 65536, true, false, false, 1⟩) u k := ⟨_, _, .mvm _ _ _ _ _ _ _ 6 (by first | decide +kernel | rfl) ⟨(by first | decide +kernel | rfl), rfl⟩ ⟨(by first | decide +kernel | rfl), (by first | decide +kernel | rfl), (by first | decide +kernel | rfl)⟩ (by first | decide +kernel | rfl) (by first | decide +kernel | rfl)⟩
theorem witness_mvmPage : ∃ u k, MatrixFault (.mvm true 7 2 3 4) ({ withMat recVec recStack recOut 64 with tlb := [] }) u k := ⟨_, _, .mvm _ _ _ _ _ _ _ 5 (by first | decide +kernel | rfl) ⟨(by first | decide +kernel | rfl), rfl⟩ ⟨(by first | decide +kernel | rfl), (by first | decide +kernel | rfl), (by first | decide +kernel | rfl)⟩ (by first | decide +kernel | rfl) (by first | decide +kernel | rfl)⟩
theorem witness_mvmLayout : ∃ u k, MatrixFault (.mvm true 7 2 3 4) (withMat recVec { recStack with base := 128 } recOut 64) u k := ⟨_, _, .mvm _ _ _ _ _ _ _ 1 (by first | decide +kernel | rfl) ⟨(by first | decide +kernel | rfl), rfl⟩ ⟨(by first | decide +kernel | rfl), (by first | decide +kernel | rfl), (by first | decide +kernel | rfl)⟩ (by first | decide +kernel | rfl) (by first | decide +kernel | rfl)⟩
theorem witness_mvmHost : ∃ u k, MatrixFault (.mvm true 7 2 3 4) ({ withMat recVec recStack recOut 64 with tlb := [⟨0, 0, 0, 2 ^ 30 * 512 + 591⟩] }) u k := ⟨_, _, .mvm _ _ _ _ _ _ _ 1 (by first | decide +kernel | rfl) ⟨(by first | decide +kernel | rfl), rfl⟩ ⟨(by first | decide +kernel | rfl), (by first | decide +kernel | rfl), (by first | decide +kernel | rfl)⟩ (by first | decide +kernel | rfl) (by first | decide +kernel | rfl)⟩

/-! Lists of checks that pass. -/

theorem witness_copyPasses : firstKind (copyChecks withRecs 0 32 (some 128) []) = none ∧ firstKind (recordChecks withRecs [0, 32] [4088]) = none
    ∧ firstKind (segmentChecks withRecs true recA) = none ∧ firstKind (segmentChecks withRecs true slot1) = none
    ∧ firstKind (slotChecks (withPipes withRecs) true slot1) = none ∧ GoodSpace withRecs recA := by decide +kernel

theorem witness_multiplyPasses : firstKind (multiplyChecks (withMat recOfA recOfB recOfM 0) false 2 3 4) = none
    ∧ firstKind (multiplyChecks (withMat recOfA recOfBs recOfM 64) true 2 3 4) = none := by decide +kernel
theorem witness_tilePasses : firstKind (tileChecks (withMat recTile {} {} 0) 3 true (some 128)) = none := by decide +kernel
theorem witness_productPasses : ((withMat recVec recStack recOut 64).me.token (7 : BitVec 3).toNat).pend < 255
    ∧ firstKind (productChecks (withMat recVec recStack recOut 64) 2 3 4) = none := by decide +kernel

/-! Faults that no check at issue raises. -/

/-- Token 3 is complete and its fault slot full; so is that of token 5, above it. -/
def faultedTokens : State :=
  let f : TokenFault := ⟨4, 1, 0, 32, 4096⟩
  withRecs.setMe ((withRecs.me.setToken 3 { fault := some f }).setToken 5 { fault := some f })
theorem witness_kwaitFaults : ∃ f, Issuing faultedTokens ∧ faultedTokens.me.mode ≠ .control ∧ TokenFaulted faultedTokens 0xFE 3 f :=
  ⟨_, rfl, by decide +kernel, by unfold TokensDone; decide +kernel, ⟨by decide, by decide, rfl⟩, by decide +kernel⟩

/-- A group whose matrix fault slot is full. -/
def faultedMatrix : State := mat0.setMe { mat0.me with matFault := some (8, 1, 64) }
theorem witness_slotCommand : RaisesSlot (.mzero true 1) faultedMatrix faultedMatrix := .command _ _ _ _ (.mzero _ _) rfl ⟨by decide +kernel, rfl⟩
  (by decide +kernel) (by decide +kernel) (by decide +kernel)
theorem witness_slotMvm : RaisesSlot (.mvm true 7 2 3 4) faultedMatrix faultedMatrix :=
  .mvm _ _ _ _ _ _ _ rfl ⟨by decide +kernel, rfl⟩ (by decide +kernel) (by decide +kernel) (by decide +kernel)
theorem witness_slotVpopa : RaisesSlot (.vpopa true 7) faultedMatrix faultedMatrix :=
  .vpopa _ _ _ rfl (by unfold HasRoom; decide +kernel) (by decide +kernel) (by decide +kernel) (by decide +kernel)
theorem witness_slotExit : RaisesSlot (.exit true) faultedMatrix faultedMatrix := .exit _ _ rfl (by decide +kernel)

/-! Prefixes. -/

/-- The second repetition of a lane instruction steps past the budget; so does a long immediate's register. -/
def addAt7 : Word := (encode (.vadd true 7 2 3)).getD 0
def addAt8 : Word := (encode (.vadd true 8 2 3)).getD 0
theorem witness_repBudget : Repeats (withRepcnt (holding addAt7) 1) 1 1 0 0 addAt7 addAt8 1 ∧ Encodes addAt8 (.vadd true 8 2 3)
    ∧ LaneInstr (.vadd true 8 2 3) [8, 2, 3] ∧ ∃ r ∈ [(8 : Reg), 2, 3], (withRepcnt (holding addAt7) 1).me.budget ≤ r.toNat :=
  ⟨⟨⟨rfl, by decide +kernel⟩, by decide +kernel, by decide +kernel, .three _ (by decide +kernel) (by decide +kernel) (by decide +kernel)
      (by decide +kernel) (by decide +kernel)⟩, ⟨by decide +kernel, by decide +kernel⟩, .table _ _ _ _ _ (.vadd _ _ _ _), 8, List.mem_cons_self,
    by decide +kernel⟩

def immAt8 : Word := (encode (.vaddi true 8 2 1)).getD 0
theorem witness_limmBudget : Held (holding immAt8) immAt8 ∧ Encodes immAt8 (.vaddi true 8 2 1) ∧ LaneInstr (.vaddi true 8 2 1) [8, 2]
    ∧ ∃ r ∈ [(8 : Reg), 2], (holding immAt8).me.budget ≤ r.toNat :=
  ⟨⟨rfl, by decide +kernel⟩, ⟨by decide +kernel, by decide +kernel⟩, .move _ _ _ _ _ (.vaddi _ _ _ _), 8, List.mem_cons_self, by decide +kernel⟩

/-! Host synchronisation. -/

theorem leavesOf {s : State} {who : Asker} {e : Nat} {l : List Nat}
    (h : (l.all fun va => match s.leaf? who va with | .ok x => decide (x = e) | .error _ => false) = true) : ∀ va ∈ l, s.leaf? who va = .ok e := by
  intro va hv
  have := List.all_eq_true.1 h va hv
  revert this
  cases s.leaf? who va <;> intro hx
  · exact Bool.noConfusion hx
  · exact congrArg _ (of_decide_eq_true hx)

/-- Two lines of local memory, and two of the host. -/
theorem witness_hostRanges : (∀ va ∈ linesOf ((segOf acc0 2).base + sReg acc0 2) (sReg acc0 7), acc0.leaf? (acc0.asker acc0.me) va = .ok 207)
    ∧ leafAperture 207 ≠ 4
    ∧ (∀ va ∈ linesOf ((segOf (at9 (2 ^ 21)) 2).base + sReg (at9 (2 ^ 21)) 9) (sReg (at9 (2 ^ 21)) 7),
      (at9 (2 ^ 21)).leaf? ((at9 (2 ^ 21)).asker (at9 (2 ^ 21)).me) va = .ok (2 ^ 30 * 512 + 591))
    ∧ leafAperture (2 ^ 30 * 512 + 591) = 4 :=
  ⟨leavesOf (by decide +kernel), by decide, leavesOf (by decide +kernel), by decide⟩

/-! Page walks. -/

/-- A table of each level from 4 to 1 at 4 KiB times its number, each pointing to the next by its entry 0, and a table of leaves. -/
def ptr (f : Nat) : Nat := 1 + f * 2 ^ 30
def leafOf (size f : Nat) : Nat := 15 + size * 32 + 128 + f * 2 ^ 30
def tables (entries : List (Nat × Nat)) : State :=
  entries.foldl (fun s e => s.writeNum e.1 8 e.2) { dies := [(0, { stackOff := false })] }
def block (a e : Nat) : List (Nat × Nat) := (List.range 16).map fun j => (a + 8 * j, e)
def path : List (Nat × Nat) := [(0x4000, ptr 3), (0x3000, ptr 2), (0x2000, ptr 1), (0x1000, ptr 5)]

theorem goodPtr {e : Nat} (h : isPointer e = true) (he : e = 1 + leafFrame e * 2 ^ 30) (hf : leafFrame e < 2 ^ 28) : GoodPointer e := ⟨h, he, hf⟩

/-- A leaf of 1 GiB in a table of level 2, at the last virtual address; and one of 64 KiB in a block of 16. -/
def big : State := tables [(0x4000 + 8 * 255, ptr 3), (0x3000 + 8 * 511, ptr 2), (0x2000 + 8 * 511, leafOf 3 (2 ^ 18))]
def last : Nat := 2 ^ 56 - 1
theorem witness_walkBig : Walks big last 4 0x4000 (leafOf 3 (2 ^ 18)) :=
  .pointer 3 _ 255 (ptr 3) _ (by unfold WalkEntry; decide +kernel) (by unfold Served; decide +kernel) (by unfold GoodPointer; decide +kernel)
    (.pointer 2 _ 511 (ptr 2) _ (by unfold WalkEntry; decide +kernel) (by unfold Served; decide +kernel) (by unfold GoodPointer; decide +kernel)
      (.leaf 2 _ 511 _ (by unfold WalkEntry; decide +kernel) (by unfold Served; decide +kernel) (by decide +kernel) (by decide +kernel)
        (by unfold GoodLeaf; decide +kernel) (fun h => absurd h (by decide +kernel))))

/-- A walk to the table at frame 5 that the four pointers of `path` lead to. -/
theorem walked {s : State} {va e : Nat} (h : va < 2 ^ 21) (h4 : s.num 0x4000 8 = ptr 3) (h3 : s.num 0x3000 8 = ptr 2) (h2 : s.num 0x2000 8 = ptr 1)
    (h1 : s.num 0x1000 8 = ptr 5) (hs : ∀ t ∈ [0x4000, 0x3000, 0x2000, 0x1000], Served s t 0) (hw : Walks s va 0 (5 * 4096) e) :
    Walks s va 4 0x4000 e := by
  have z (l n : Nat) (hl : 1 ≤ l) (hn : n ≠ 0) : 0 = va / 2 ^ (12 + 9 * l) % n := by
    rw [Nat.div_eq_of_lt (Nat.lt_of_lt_of_le h (Nat.pow_le_pow_right (by decide) (by omega)))]; exact (Nat.zero_mod n).symm
  refine .pointer 3 _ 0 (ptr 3) _ ⟨z 4 256 (by decide) (by decide), h4.symm⟩ (hs _ (by decide)) (by unfold GoodPointer; decide +kernel)
    (.pointer 2 _ 0 (ptr 2) _ ⟨z 3 512 (by decide) (by decide), h3.symm⟩ (hs _ (by decide)) (by unfold GoodPointer; decide +kernel)
      (.pointer 1 _ 0 (ptr 1) _ ⟨z 2 512 (by decide) (by decide), h2.symm⟩ (hs _ (by decide)) (by unfold GoodPointer; decide +kernel)
        (.pointer 0 _ 0 (ptr 5) _ ⟨z 1 512 (by decide) (by decide), h1.symm⟩ (hs _ (by decide)) (by unfold GoodPointer; decide +kernel) hw)))

def small : State := tables (path ++ block 0x5080 (leafOf 1 16))
theorem witness_walkSmall : Walks small (17 * 4096 + 5) 4 0x4000 (leafOf 1 16) :=
  walked (by decide) (by decide +kernel) (by decide +kernel) (by decide +kernel) (by decide +kernel) (by unfold Served; decide +kernel)
    (.leaf 0 _ 17 _ (by unfold WalkEntry; decide +kernel) (by unfold Served; decide +kernel) (by decide +kernel) (by decide +kernel)
      (by unfold GoodLeaf; decide +kernel) (by unfold SameBlock; decide +kernel))

/-- A walk fails: at an entry of a stack that does not serve, at one that is none, at a pointer in a table of level 0, at a leaf of another
level, at a block that is not one, at one that cannot be read, and below a pointer. -/
theorem witness_walkFaults : WalkFault { big with bad := [(0x4000 + 8 * 255, 1)] } last 4 0x4000 8 ∧ WalkFault big 0 4 0x4000 5
    ∧ WalkFault (tables [(0x5000, ptr 3)]) 0 0 0x5000 5 ∧ WalkFault (tables [(0x5000, leafOf 2 512)]) 0 0 0x5000 5
    ∧ WalkFault (small.writeNum 0x5080 8 0) (17 * 4096) 0 0x5000 5 ∧ WalkFault { small with bad := [(0x5080, 1)] } (17 * 4096) 0 0x5000 8
    ∧ WalkFault (tables [(0x1000, ptr 5)]) 0 1 0x1000 5 :=
  ⟨.unread 4 _ 255 (ptr 3) (by unfold WalkEntry; decide +kernel) (by unfold Served; decide +kernel),
    .bad 4 _ 0 0 (by unfold WalkEntry; decide +kernel) (by unfold Served; decide +kernel) (.inl (by decide +kernel)),
    .bad 0 _ 0 (ptr 3) (by unfold WalkEntry; decide +kernel) (by unfold Served; decide +kernel) (.inr (.inl (by decide +kernel))),
    .bad 0 _ 0 (leafOf 2 512) (by unfold WalkEntry; decide +kernel) (by unfold Served; decide +kernel) (.inr (.inr (.inr (by unfold GoodLeaf; decide +kernel)))),
    .block _ 17 (leafOf 1 16) (by unfold WalkEntry; decide +kernel) (by unfold Served; decide +kernel) (by decide +kernel) (by decide +kernel)
      (by unfold GoodLeaf; decide +kernel) (by decide +kernel) (by decide +kernel) (by unfold SameBlock; decide +kernel),
    .blockUnread _ 17 (leafOf 1 16) (by unfold WalkEntry; decide +kernel) (by unfold Served; decide +kernel) (by decide +kernel) (by decide +kernel)
      (by unfold GoodLeaf; decide +kernel) (by decide +kernel) (by decide +kernel),
    .pointer 0 _ 0 (ptr 5) 5 (by unfold WalkEntry; decide +kernel) (by unfold Served; decide +kernel) (by unfold GoodPointer; decide +kernel)
      (.bad 0 _ 0 0 (by unfold WalkEntry; decide +kernel) (by unfold Served; decide +kernel) (.inl (by decide +kernel)))⟩

end Sys2Proof.Tests.WitnessChecks
end

