-- ==== Sys2Proof/Tests/WitnessFabric.lean ====
section
/-!
SUPPORT. Witnesses: for every rule of Pavilion allocation, and every step of the fabric, a small state in which it applies.
-/

namespace Sys2Proof.Tests.WitnessFabric

open Sys2Proof.Machine Sys2Proof.Rules

set_option Elab.async false

/-- Group 0 of tenant 2, with one switch of a limit of three granules. -/
def pav0 (w : Switch) : State :=
  { groups := [(0, { budget := 8, plan := 1, task := 1, s := [(2, 2 ^ 39), (3, 1), (4, 5), (5, 64), (6, 0x00C0000000000000 + 5 * 2 ^ 39 + 7 * 2 ^ 21)] })]
    plans := [(1, { state := .running, tenant := 2 })], switches := [(5, w)] }
def sw0 : Switch := { limit := [(2, 3)] }
/-- Its Pavilion instruction op, on port 5, is the group's next access. -/
def ask0 (op : PavOp) : Pending := { pc := 0, todo := [.pavilion op], result := true }
def asking (w : Switch) (op : PavOp) : State :=
  { pav0 w with groups := [(0, { (pav0 w).me with out := [ask0 op] })]
                uals := [(5, { trained := true, serve := true, flights := [(.access 0 (pavAddr 5 0 / 64), 0, 133)], txSeq := 1 })] }
def portAt (u : UalPort) : State := { uals := [(3, u)], cycle := 9 }
def live0 : UalPort := { trained := true, everTrained := true, serve := true, rxSeq := 4095 }

/-- What stands behind a header in a flit with an empty payload: its CRC. -/
def behind (h : FlitHeader) : Nat := leNat ((flitBytes h []).drop 8)
/-- Port 7 beside port 3, with credits for forwarded requests. -/
def sender : UalPort := { live0 with last := [(1, 4)] }
def twoPorts : State := { portAt live0 with uals := [(3, live0), (7, sender)] }

theorem noRun (n : Nat) (h : 0 < n) : ∀ g, ¬ FreeRun { limit := [(2, 3)], allocs := [⟨0, 2 ^ 18, 9⟩] } g n := by
  intro g r
  have h1 := r.1
  have h2 := r.2 (0, 2 ^ 18) (List.mem_cons_self ..)
  omega

theorem allFree (x : Switch) (h : x.taken = []) (n : Nat) (hn : n ≤ 2 ^ 18) : LowestRun x 0 n := by
  refine ⟨⟨by omega, ?_⟩, fun k hk => absurd hk (Nat.not_lt_zero k)⟩
  rw [h]
  intro r hr
  exact absurd hr List.not_mem_nil

theorem allLargest (x : Switch) (h : x.taken = []) : LargestRun x (2 ^ 18) := by
  refine ⟨.inr ⟨0, by omega, ?_⟩, fun g k _ r => by have := r.1; omega⟩
  rw [h]
  intro r hr
  exact absurd hr List.not_mem_nil

theorem noneTaken (x : Switch) (h : x.taken = []) : Granular x := by
  intro r hr
  rw [h] at hr
  exact absurd hr List.not_mem_nil

theorem witness_pvalloc : ∃ t, PavRule (.pvalloc true 8 3 4) (pav0 sw0) t := ⟨_, .pvalloc _ _ _ _ _ 5 ⟨(by first | decide +kernel | rfl), (by first | decide +kernel | rfl), (by unfold HasRoom; decide +kernel)⟩ ⟨(by first | decide +kernel | rfl), (by first | decide +kernel | rfl), (by first | decide +kernel | rfl)⟩ (by first | decide +kernel | rfl) (by first | decide +kernel | rfl)⟩
theorem witness_pvallocAny : ∃ t, PavRule (.pvalloc true 8 3 5) (pav0 sw0) t := ⟨_, .pvallocAny _ _ _ _ _ ⟨(by first | decide +kernel | rfl), (by first | decide +kernel | rfl), (by unfold HasRoom; decide +kernel)⟩ ⟨(by first | decide +kernel | rfl), (by first | decide +kernel | rfl), (by first | decide +kernel | rfl)⟩ (by first | decide +kernel | rfl) (by first | decide +kernel | rfl)⟩
theorem witness_pvallocSize : ∃ t, PavRule (.pvalloc true 8 7 4) (pav0 sw0) t := ⟨_, .pvallocSize _ _ _ _ _ ⟨(by first | decide +kernel | rfl), (by first | decide +kernel | rfl), (by unfold HasRoom; decide +kernel)⟩ (by first | decide +kernel | rfl) (by first | decide +kernel | rfl) (by first | decide +kernel | rfl)⟩
theorem witness_pvfree : ∃ t, PavRule (.pvfree true 8 6) (pav0 sw0) t := ⟨_, .pvfree _ _ _ _ 5 (7 * 2 ^ 21) ⟨(by first | decide +kernel | rfl), (by first | decide +kernel | rfl), (by unfold HasRoom; decide +kernel)⟩ (by first | decide +kernel | rfl) (by first | decide +kernel | rfl) (by first | decide +kernel | rfl)⟩
theorem witness_pvfreeOutside : ∃ t, PavRule (.pvfree true 8 3) (pav0 sw0) t := ⟨_, .pvfreeOutside _ _ _ _ ⟨(by first | decide +kernel | rfl), (by first | decide +kernel | rfl), (by unfold HasRoom; decide +kernel)⟩ (by first | decide +kernel | rfl)⟩
theorem witness_pvq : ∃ t, PavRule (.pvq true 8 4) (pav0 sw0) t := ⟨_, .pvq _ _ _ _ 5 ⟨(by first | decide +kernel | rfl), (by first | decide +kernel | rfl), (by unfold HasRoom; decide +kernel)⟩ (by first | decide +kernel | rfl) (by first | decide +kernel | rfl)⟩
theorem witness_atAlloc : ∃ t, PavStep (.loadResultReturn 0 0 0) (asking (sw0) (.alloc 1 [5, 6] 3 8)) t := ⟨_, .alloc _ _ _ _ _ _ _ 5 0 [] [] (ask0 (.alloc 1 [5, 6] 3 8)) [5, 6] [6] ⟨⟨(by first | decide +kernel | rfl), (by first | decide +kernel | rfl), (by first | decide +kernel | rfl), (by first | decide +kernel | rfl), (by first | decide +kernel | rfl), (by first | decide +kernel | rfl), (by first | decide +kernel | rfl)⟩, (by first | decide +kernel | rfl), (by first | decide +kernel | rfl), (by first | decide +kernel | rfl)⟩ ⟨[], (by first | decide +kernel | rfl), (by first | decide +kernel | rfl), (by first | decide +kernel | rfl)⟩ (by first | decide +kernel | rfl) (noneTaken _ (by first | decide +kernel | rfl)) (by unfold Within; decide +kernel) (allFree _ (by first | decide +kernel | rfl) _ (by first | decide +kernel | rfl))⟩
theorem witness_atAllocOver : ∃ t, PavStep (.loadResultReturn 0 0 0) (asking ({ sw0 with limit := [] }) (.alloc 1 [5] 3 8)) t := ⟨_, .allocFails _ _ _ _ _ _ _ 5 1 [] [] (ask0 (.alloc 1 [5] 3 8)) [5] [] ⟨⟨(by first | decide +kernel | rfl), (by first | decide +kernel | rfl), (by first | decide +kernel | rfl), (by first | decide +kernel | rfl), (by first | decide +kernel | rfl), (by first | decide +kernel | rfl), (by first | decide +kernel | rfl)⟩, (by first | decide +kernel | rfl), (by first | decide +kernel | rfl), (by first | decide +kernel | rfl)⟩ ⟨[], (by first | decide +kernel | rfl), (by first | decide +kernel | rfl), (by first | decide +kernel | rfl)⟩ (by first | decide +kernel | rfl) (noneTaken _ (by first | decide +kernel | rfl)) (.inl ⟨(by unfold Within; decide +kernel), (by first | decide +kernel | rfl)⟩) (by first | decide +kernel | rfl)⟩
theorem witness_atAllocFull : ∃ t, PavStep (.loadResultReturn 0 0 0) (asking ({ limit := [(2, 3)], allocs := [⟨0, 2 ^ 18, 9⟩] }) (.alloc 1 [5] 3 8)) t := ⟨_, .allocFails _ _ _ _ _ _ _ 5 2 [] [] (ask0 (.alloc 1 [5] 3 8)) [5] [] ⟨⟨(by first | decide +kernel | rfl), (by first | decide +kernel | rfl), (by first | decide +kernel | rfl), (by first | decide +kernel | rfl), (by first | decide +kernel | rfl), (by first | decide +kernel | rfl), (by first | decide +kernel | rfl)⟩, (by first | decide +kernel | rfl), (by first | decide +kernel | rfl), (by first | decide +kernel | rfl)⟩ ⟨[], (by first | decide +kernel | rfl), (by first | decide +kernel | rfl), (by first | decide +kernel | rfl)⟩ (by first | decide +kernel | rfl) (by unfold Granular; decide +kernel) (.inr ⟨(by unfold Within; decide +kernel), noRun _ (by first | decide +kernel | rfl), (by first | decide +kernel | rfl)⟩) (by first | decide +kernel | rfl)⟩
theorem witness_atAllocNext : ∃ t, PavStep (.loadResultReturn 0 0 0) (asking ({ limit := [(2, 3)], allocs := [⟨0, 2 ^ 18, 9⟩] }) (.alloc 1 [5, 6] 3 8)) t := ⟨_, .allocNext _ _ _ _ _ _ _ 5 2 [] [] (ask0 (.alloc 1 [5, 6] 3 8)) [5, 6] [6] ⟨⟨(by first | decide +kernel | rfl), (by first | decide +kernel | rfl), (by first | decide +kernel | rfl), (by first | decide +kernel | rfl), (by first | decide +kernel | rfl), (by first | decide +kernel | rfl), (by first | decide +kernel | rfl)⟩, (by first | decide +kernel | rfl), (by first | decide +kernel | rfl), (by first | decide +kernel | rfl)⟩ ⟨[], (by first | decide +kernel | rfl), (by first | decide +kernel | rfl), (by first | decide +kernel | rfl)⟩ (by first | decide +kernel | rfl) (by unfold Granular; decide +kernel) (.inr ⟨(by unfold Within; decide +kernel), noRun _ (by first | decide +kernel | rfl), (by first | decide +kernel | rfl)⟩) ⟨6, (by first | decide +kernel | rfl), (by first | decide +kernel | rfl)⟩⟩
theorem witness_atAllocLost : ∃ t, PavStep (.loadResultReturn 0 0 0) ({ asking (sw0) (.alloc 1 [5] 3 8) with fabLost := 32 }) t := ⟨_, .allocLost _ _ _ _ _ _ _ [] [] (ask0 (.alloc 1 [5] 3 8)) [5] ⟨⟨(by first | decide +kernel | rfl), (by first | decide +kernel | rfl), (by first | decide +kernel | rfl), (by first | decide +kernel | rfl), (by first | decide +kernel | rfl), (by first | decide +kernel | rfl), (by first | decide +kernel | rfl)⟩, (by first | decide +kernel | rfl), (by first | decide +kernel | rfl), (by first | decide +kernel | rfl)⟩ (by first | decide +kernel | rfl)⟩
theorem witness_atFree : ∃ t, PavStep (.loadResultReturn 0 0 0) (asking ({ limit := [(2, 3)], allocs := [⟨7, 2, 2⟩, ⟨9, 1, 2⟩] }) (.free 5 (7 * 2 ^ 21) 8)) t := ⟨_, .free _ _ _ _ _ 5 ⟨7, 2, 2⟩ [] [] (ask0 (.free 5 (7 * 2 ^ 21) 8)) ⟨⟨(by first | decide +kernel | rfl), (by first | decide +kernel | rfl), (by first | decide +kernel | rfl), (by first | decide +kernel | rfl), (by first | decide +kernel | rfl), (by first | decide +kernel | rfl), (by first | decide +kernel | rfl)⟩, (by first | decide +kernel | rfl), (by first | decide +kernel | rfl), (by first | decide +kernel | rfl)⟩ (by first | decide +kernel | rfl) (by first | decide +kernel | rfl) (by first | decide +kernel | rfl) (by first | decide +kernel | rfl)⟩
theorem witness_atFreeNone : ∃ t, PavStep (.loadResultReturn 0 0 0) (asking (sw0) (.free 5 (7 * 2 ^ 21) 8)) t := ⟨_, .freeNone _ _ _ _ _ 5 (7 * 2 ^ 21) [] [] (ask0 (.free 5 (7 * 2 ^ 21) 8)) ⟨⟨(by first | decide +kernel | rfl), (by first | decide +kernel | rfl), (by first | decide +kernel | rfl), (by first | decide +kernel | rfl), (by first | decide +kernel | rfl), (by first | decide +kernel | rfl), (by first | decide +kernel | rfl)⟩, (by first | decide +kernel | rfl), (by first | decide +kernel | rfl), (by first | decide +kernel | rfl)⟩ (by first | decide +kernel | rfl) (by first | decide +kernel | rfl)⟩
theorem witness_atFreeLost : ∃ t, PavStep (.loadResultReturn 0 0 0) ({ asking (sw0) (.free 5 (7 * 2 ^ 21) 8) with fabLost := 32 }) t := ⟨_, .freeLost _ _ _ _ _ 5 (7 * 2 ^ 21) [] [] (ask0 (.free 5 (7 * 2 ^ 21) 8)) ⟨⟨(by first | decide +kernel | rfl), (by first | decide +kernel | rfl), (by first | decide +kernel | rfl), (by first | decide +kernel | rfl), (by first | decide +kernel | rfl), (by first | decide +kernel | rfl), (by first | decide +kernel | rfl)⟩, (by first | decide +kernel | rfl), (by first | decide +kernel | rfl), (by first | decide +kernel | rfl)⟩ (by first | decide +kernel | rfl)⟩
theorem witness_atQuery : ∃ t, PavStep (.loadResultReturn 0 0 0) (asking ({ sw0 with viol := [(2, 15)] }) (.query 5 8)) t := ⟨_, .query _ _ _ _ _ 5 (2 ^ 18) [] [] (ask0 (.query 5 8)) ⟨⟨(by first | decide +kernel | rfl), (by first | decide +kernel | rfl), (by first | decide +kernel | rfl), (by first | decide +kernel | rfl), (by first | decide +kernel | rfl), (by first | decide +kernel | rfl), (by first | decide +kernel | rfl)⟩, (by first | decide +kernel | rfl), (by first | decide +kernel | rfl), (by first | decide +kernel | rfl)⟩ (by first | decide +kernel | rfl) (noneTaken _ (by first | decide +kernel | rfl)) (allLargest _ (by first | decide +kernel | rfl))⟩
theorem witness_atQueryLost : ∃ t, PavStep (.loadResultReturn 0 0 0) ({ asking (sw0) (.query 5 8) with fabLost := 32 }) t := ⟨_, .queryLost _ _ _ _ _ 5 [] [] (ask0 (.query 5 8)) ⟨⟨(by first | decide +kernel | rfl), (by first | decide +kernel | rfl), (by first | decide +kernel | rfl), (by first | decide +kernel | rfl), (by first | decide +kernel | rfl), (by first | decide +kernel | rfl), (by first | decide +kernel | rfl)⟩, (by first | decide +kernel | rfl), (by first | decide +kernel | rfl), (by first | decide +kernel | rfl)⟩ (by first | decide +kernel | rfl)⟩
theorem witness_flitBad : ∃ t, FabricStep (.flitReceive 3 4095 3 9 false 3 0 (behind ({ seq := 4095, vc := 3, ack := 9, nak := false, cvc := 3, credit := 0 }) + 2 ^ 470) 0) (portAt live0) t := ⟨_, .flitBad _ _ _ _ ({ seq := 4095, vc := 3, ack := 9, nak := false, cvc := 3, credit := 0 }) ⟨(by first | decide +kernel | rfl), (by first | decide +kernel | rfl), (by first | decide +kernel | rfl), (by first | decide +kernel | rfl)⟩ (by first | decide +kernel | rfl)⟩
theorem witness_flit : ∃ t, FabricStep (.flitReceive 3 4095 0 9 false 3 0 (behind ({ seq := 4095, vc := 0, ack := 9, nak := false, cvc := 3, credit := 0 })) 0) (portAt live0) t := ⟨_, .flit _ _ _ ({ seq := 4095, vc := 0, ack := 9, nak := false, cvc := 3, credit := 0 }) ({ seq := 4095, vc := 0, ack := 9, nak := false, cvc := 3, credit := 0 }) ⟨⟨(by first | decide +kernel | rfl), (by first | decide +kernel | rfl), (by first | decide +kernel | rfl), (by first | decide +kernel | rfl)⟩, (by first | decide +kernel | rfl), (by first | decide +kernel | rfl)⟩ (by first | decide +kernel | rfl) (by first | decide +kernel | rfl) (by first | decide +kernel | rfl) ⟨⟨(by first | decide +kernel | rfl), (by first | decide +kernel | rfl)⟩, (by first | decide +kernel | rfl)⟩ (by first | decide +kernel | rfl)⟩
theorem witness_flitSunk : ∃ t, FabricStep (.flitReceive 3 4095 2 9 false 3 0 (behind ({ seq := 4095, vc := 2, ack := 9, nak := false, cvc := 3, credit := 0 })) 0) (portAt { live0 with stalled := [1] }) t := ⟨_, .flitSunk _ _ _ ({ seq := 4095, vc := 2, ack := 9, nak := false, cvc := 3, credit := 0 }) ({ seq := 4095, vc := 2, ack := 9, nak := false, cvc := 3, credit := 0 }) ⟨⟨(by first | decide +kernel | rfl), (by first | decide +kernel | rfl), (by first | decide +kernel | rfl), (by first | decide +kernel | rfl)⟩, (by first | decide +kernel | rfl), (by first | decide +kernel | rfl)⟩ (by first | decide +kernel | rfl) (by first | decide +kernel | rfl) (by first | decide +kernel | rfl) ⟨⟨(by first | decide +kernel | rfl), (by first | decide +kernel | rfl)⟩, (by first | decide +kernel | rfl)⟩⟩
theorem witness_flitForwarded : ∃ t, FabricStep (.flitReceive 3 4095 1 9 false 3 0 (behind ({ seq := 4095, vc := 1, ack := 9, nak := false, cvc := 3, credit := 0 })) 0) (portAt { live0 with stalled := [1] }) t := ⟨_, .flitForwarded _ _ _ _ ({ seq := 4095, vc := 1, ack := 9, nak := false, cvc := 3, credit := 0 }) ({ seq := 4095, vc := 1, ack := 9, nak := false, cvc := 3, credit := 0 }) ⟨⟨(by first | decide +kernel | rfl), (by first | decide +kernel | rfl), (by first | decide +kernel | rfl), (by first | decide +kernel | rfl)⟩, (by first | decide +kernel | rfl), (by first | decide +kernel | rfl)⟩ (by first | decide +kernel | rfl) (by first | decide +kernel | rfl) (by first | decide +kernel | rfl) ⟨⟨(by first | decide +kernel | rfl), (by first | decide +kernel | rfl)⟩, (by first | decide +kernel | rfl)⟩⟩
theorem witness_flitAnswers : ∃ t, FabricStep (.flitReceive 3 4095 2 9 false 3 0 (behind ({ seq := 4095, vc := 2, ack := 9, nak := false, cvc := 3, credit := 0 })) 1) ({ twoPorts with forwards := [(7, some 7), (3, some 7)] }) t := ⟨_, .flitAnswers _ _ _ 7 _ _ ({ seq := 4095, vc := 2, ack := 9, nak := false, cvc := 3, credit := 0 }) ({ seq := 4095, vc := 2, ack := 9, nak := false, cvc := 3, credit := 0 }) [(7, some 7)] [] ⟨⟨(by first | decide +kernel | rfl), (by first | decide +kernel | rfl), (by first | decide +kernel | rfl), (by first | decide +kernel | rfl)⟩, (by first | decide +kernel | rfl), (by first | decide +kernel | rfl)⟩ (by first | decide +kernel | rfl) (by first | decide +kernel | rfl) (by first | decide +kernel | rfl) ⟨⟨(by first | decide +kernel | rfl), (by first | decide +kernel | rfl)⟩, (by first | decide +kernel | rfl)⟩ (by first | decide +kernel | rfl) (by first | decide +kernel | rfl) (by first | decide +kernel | rfl) rfl⟩
theorem witness_flitForwards : ∃ t, FabricStep (.flitReceive 3 4095 0 9 false 3 0 (behind ({ seq := 4095, vc := 0, ack := 9, nak := false, cvc := 3, credit := 0 })) 8) (twoPorts) t := ⟨_, .flitForwards _ _ _ _ _ ({ seq := 4095, vc := 0, ack := 9, nak := false, cvc := 3, credit := 0 }) ({ seq := 4095, vc := 0, ack := 9, nak := false, cvc := 3, credit := 0 }) ⟨⟨(by first | decide +kernel | rfl), (by first | decide +kernel | rfl), (by first | decide +kernel | rfl), (by first | decide +kernel | rfl)⟩, (by first | decide +kernel | rfl), (by first | decide +kernel | rfl)⟩ (by first | decide +kernel | rfl) (by first | decide +kernel | rfl) (by first | decide +kernel | rfl) ⟨⟨(by first | decide +kernel | rfl), (by first | decide +kernel | rfl)⟩, (by first | decide +kernel | rfl)⟩ (by first | decide +kernel | rfl) (by first | decide +kernel | rfl) rfl (by first | decide +kernel | rfl) (by first | decide +kernel | rfl)⟩
theorem witness_flitStalls : ∃ t, FabricStep (.flitReceive 3 4095 0 9 false 3 0 (behind ({ seq := 4095, vc := 0, ack := 9, nak := false, cvc := 3, credit := 0 })) 0) (portAt { live0 with stalled := [1] }) t := ⟨_, .flitStalls _ _ _ _ _ ({ seq := 4095, vc := 0, ack := 9, nak := false, cvc := 3, credit := 0 }) ({ seq := 4095, vc := 0, ack := 9, nak := false, cvc := 3, credit := 0 }) ⟨⟨(by first | decide +kernel | rfl), (by first | decide +kernel | rfl), (by first | decide +kernel | rfl), (by first | decide +kernel | rfl)⟩, (by first | decide +kernel | rfl), (by first | decide +kernel | rfl)⟩ (by first | decide +kernel | rfl) (by first | decide +kernel | rfl) (by first | decide +kernel | rfl) ⟨⟨(by first | decide +kernel | rfl), (by first | decide +kernel | rfl)⟩, (by first | decide +kernel | rfl)⟩ rfl (by first | decide +kernel | rfl) (.inl (by first | decide +kernel | rfl))⟩
theorem witness_flitStallsNoBuffer : ∃ t, FabricStep (.flitReceive 3 4095 0 9 false 3 0 (behind ({ seq := 4095, vc := 0, ack := 9, nak := false, cvc := 3, credit := 0 })) 8) ({ twoPorts with forwards := List.replicate 32 (7, none) }) t := ⟨_, .flitStalls _ _ _ _ _ ({ seq := 4095, vc := 0, ack := 9, nak := false, cvc := 3, credit := 0 }) ({ seq := 4095, vc := 0, ack := 9, nak := false, cvc := 3, credit := 0 }) ⟨⟨(by first | decide +kernel | rfl), (by first | decide +kernel | rfl), (by first | decide +kernel | rfl), (by first | decide +kernel | rfl)⟩, (by first | decide +kernel | rfl), (by first | decide +kernel | rfl)⟩ (by first | decide +kernel | rfl) (by first | decide +kernel | rfl) (by first | decide +kernel | rfl) ⟨⟨(by first | decide +kernel | rfl), (by first | decide +kernel | rfl)⟩, (by first | decide +kernel | rfl)⟩ rfl (by first | decide +kernel | rfl) (.inr ⟨(by first | decide +kernel | rfl), .inl (by first | decide +kernel | rfl)⟩)⟩
theorem witness_flitStallsNoCredit : ∃ t, FabricStep (.flitReceive 3 4095 0 9 false 3 0 (behind ({ seq := 4095, vc := 0, ack := 9, nak := false, cvc := 3, credit := 0 })) 8) ({ twoPorts with uals := [(3, live0), (7, live0)] }) t := ⟨_, .flitStalls _ _ _ _ _ ({ seq := 4095, vc := 0, ack := 9, nak := false, cvc := 3, credit := 0 }) ({ seq := 4095, vc := 0, ack := 9, nak := false, cvc := 3, credit := 0 }) ⟨⟨(by first | decide +kernel | rfl), (by first | decide +kernel | rfl), (by first | decide +kernel | rfl), (by first | decide +kernel | rfl)⟩, (by first | decide +kernel | rfl), (by first | decide +kernel | rfl)⟩ (by first | decide +kernel | rfl) (by first | decide +kernel | rfl) (by first | decide +kernel | rfl) ⟨⟨(by first | decide +kernel | rfl), (by first | decide +kernel | rfl)⟩, (by first | decide +kernel | rfl)⟩ rfl (by first | decide +kernel | rfl) (.inr ⟨(by first | decide +kernel | rfl), .inr (by first | decide +kernel | rfl)⟩)⟩
theorem witness_flitIdle : ∃ t, FabricStep (.flitReceive 3 4095 3 9 false 3 0 (behind ({ seq := 4095, vc := 3, ack := 9, nak := false, cvc := 3, credit := 0 })) 0) (portAt live0) t := ⟨_, .flitIdle _ _ _ _ ({ seq := 4095, vc := 3, ack := 9, nak := false, cvc := 3, credit := 0 }) ({ seq := 4095, vc := 3, ack := 9, nak := false, cvc := 3, credit := 0 }) ⟨⟨(by first | decide +kernel | rfl), (by first | decide +kernel | rfl), (by first | decide +kernel | rfl), (by first | decide +kernel | rfl)⟩, (by first | decide +kernel | rfl), (by first | decide +kernel | rfl)⟩ (by first | decide +kernel | rfl) (by first | decide +kernel | rfl) (by first | decide +kernel | rfl) ⟨⟨(by first | decide +kernel | rfl), (by first | decide +kernel | rfl)⟩, (by first | decide +kernel | rfl)⟩⟩
theorem witness_flitOutOfSequence : ∃ t, FabricStep (.flitReceive 3 7 0 9 false 3 0 (behind ({ seq := 7, vc := 0, ack := 9, nak := false, cvc := 3, credit := 0 })) 0) (portAt live0) t := ⟨_, .flitOutOfSequence _ _ _ _ ({ seq := 7, vc := 0, ack := 9, nak := false, cvc := 3, credit := 0 }) ({ seq := 7, vc := 0, ack := 9, nak := false, cvc := 3, credit := 0 }) ⟨⟨(by first | decide +kernel | rfl), (by first | decide +kernel | rfl), (by first | decide +kernel | rfl), (by first | decide +kernel | rfl)⟩, (by first | decide +kernel | rfl), (by first | decide +kernel | rfl)⟩ (by first | decide +kernel | rfl) (by first | decide +kernel | rfl) ⟨⟨(by first | decide +kernel | rfl), (by first | decide +kernel | rfl)⟩, (by first | decide +kernel | rfl)⟩⟩
theorem witness_flitAck : ∃ t, FabricStep (.flitReceive 3 4095 3 1 false 3 0 (behind ({ seq := 4095, vc := 3, ack := 1, nak := false, cvc := 3, credit := 0 })) 0) (portAt { live0 with replay := [(0, 3), (1, 3), (2, 3)] }) t := ⟨_, .flitAck _ _ _ _ 3 ({ seq := 4095, vc := 3, ack := 1, nak := false, cvc := 3, credit := 0 }) ({ seq := 4095, vc := 3, ack := 1, nak := false, cvc := 3, credit := 0 }) [(0, 3)] [(2, 3)] ⟨⟨(by first | decide +kernel | rfl), (by first | decide +kernel | rfl), (by first | decide +kernel | rfl), (by first | decide +kernel | rfl)⟩, (by first | decide +kernel | rfl), (by first | decide +kernel | rfl)⟩ (by first | decide +kernel | rfl) (by first | decide +kernel | rfl) (by first | decide +kernel | rfl) (by first | decide +kernel | rfl) (by first | decide +kernel | rfl) (by first | decide +kernel | rfl) (by first | decide +kernel | rfl)⟩
theorem witness_flitCredit : ∃ t, FabricStep (.flitReceive 3 4095 3 9 false 2 2047 (behind ({ seq := 4095, vc := 3, ack := 9, nak := false, cvc := 2, credit := 2047 })) 0) (portAt live0) t := ⟨_, .flitCredit _ _ _ _ ({ seq := 4095, vc := 3, ack := 9, nak := false, cvc := 2, credit := 2047 }) ({ seq := 4095, vc := 3, ack := 9, nak := false, cvc := 2, credit := 2047 }) ⟨⟨(by first | decide +kernel | rfl), (by first | decide +kernel | rfl), (by first | decide +kernel | rfl), (by first | decide +kernel | rfl)⟩, (by first | decide +kernel | rfl), (by first | decide +kernel | rfl)⟩ (by first | decide +kernel | rfl) (by first | decide +kernel | rfl) (by first | decide +kernel | rfl) (by first | decide +kernel | rfl) (by first | decide +kernel | rfl) (by first | decide +kernel | rfl) (by first | decide +kernel | rfl) (by first | decide +kernel | rfl)⟩
theorem witness_flitNak : ∃ t, FabricStep (.flitReceive 3 4095 3 9 true 3 0 (behind ({ seq := 4095, vc := 3, ack := 9, nak := true, cvc := 3, credit := 0 })) 0) (portAt { live0 with failedReplays := 2, replay := [(2, 3)] }) t := ⟨_, .flitNak _ _ _ _ ({ seq := 4095, vc := 3, ack := 9, nak := true, cvc := 3, credit := 0 }) ({ seq := 4095, vc := 3, ack := 9, nak := true, cvc := 3, credit := 0 }) ⟨⟨(by first | decide +kernel | rfl), (by first | decide +kernel | rfl), (by first | decide +kernel | rfl), (by first | decide +kernel | rfl)⟩, (by first | decide +kernel | rfl), (by first | decide +kernel | rfl)⟩ (by first | decide +kernel | rfl) (by first | decide +kernel | rfl) (by first | decide +kernel | rfl) ⟨⟨(by first | decide +kernel | rfl), (by first | decide +kernel | rfl)⟩, (by first | decide +kernel | rfl)⟩ (by first | decide +kernel | rfl)⟩
theorem witness_flitRetrains : ∃ t, FabricStep (.flitReceive 3 4095 3 9 true 3 0 (behind ({ seq := 4095, vc := 3, ack := 9, nak := true, cvc := 3, credit := 0 })) 0) (portAt { live0 with failedReplays := 2, nakAck := some 9, level := 6, replay := [(2, 3)] }) t := ⟨_, .flitRetrains _ _ _ _ ({ seq := 4095, vc := 3, ack := 9, nak := true, cvc := 3, credit := 0 }) ({ seq := 4095, vc := 3, ack := 9, nak := true, cvc := 3, credit := 0 }) ⟨⟨(by first | decide +kernel | rfl), (by first | decide +kernel | rfl), (by first | decide +kernel | rfl), (by first | decide +kernel | rfl)⟩, (by first | decide +kernel | rfl), (by first | decide +kernel | rfl)⟩ (by first | decide +kernel | rfl) (by first | decide +kernel | rfl) (by first | decide +kernel | rfl) ⟨⟨(by first | decide +kernel | rfl), (by first | decide +kernel | rfl)⟩, (by first | decide +kernel | rfl)⟩ (by first | decide +kernel | rfl) (by first | decide +kernel | rfl) (by first | decide +kernel | rfl) (by first | decide +kernel | rfl) (by first | decide +kernel | rfl)⟩
theorem witness_flitRetires : ∃ t, FabricStep (.flitReceive 3 4095 3 9 true 3 0 (behind ({ seq := 4095, vc := 3, ack := 9, nak := true, cvc := 3, credit := 0 })) 0) (portAt { live0 with failedReplays := 2, nakAck := some 9, level := 7, replay := [(2, 3)] }) t := ⟨_, .flitRetires _ _ _ _ ({ seq := 4095, vc := 3, ack := 9, nak := true, cvc := 3, credit := 0 }) ({ seq := 4095, vc := 3, ack := 9, nak := true, cvc := 3, credit := 0 }) ⟨⟨(by first | decide +kernel | rfl), (by first | decide +kernel | rfl), (by first | decide +kernel | rfl), (by first | decide +kernel | rfl)⟩, (by first | decide +kernel | rfl), (by first | decide +kernel | rfl)⟩ (by first | decide +kernel | rfl) (by first | decide +kernel | rfl) (by first | decide +kernel | rfl) ⟨⟨(by first | decide +kernel | rfl), (by first | decide +kernel | rfl)⟩, (by first | decide +kernel | rfl)⟩ (by first | decide +kernel | rfl) (by first | decide +kernel | rfl) (by first | decide +kernel | rfl) (by first | decide +kernel | rfl)⟩
theorem witness_idleFlit : ∃ t, FabricStep (.idleFlit 3) (portAt { live0 with txSeq := 4095, cvc := 2, nakDue := true }) t := ⟨_, .idle _ _ ⟨(by first | decide +kernel | rfl), (by first | decide +kernel | rfl), (by first | decide +kernel | rfl), (by first | decide +kernel | rfl)⟩ (by first | decide +kernel | rfl) (by first | decide +kernel | rfl) (.inl (by first | decide +kernel | rfl))⟩
theorem witness_idleNoCredit : ∃ t, FabricStep (.idleFlit 3) (portAt { live0 with owed := 2 }) t := ⟨_, .idle _ _ ⟨(by first | decide +kernel | rfl), (by first | decide +kernel | rfl), (by first | decide +kernel | rfl), (by first | decide +kernel | rfl)⟩ (by first | decide +kernel | rfl) (by first | decide +kernel | rfl) (.inr (by first | decide +kernel | rfl))⟩
theorem witness_response : ∃ t, FabricStep (.idleFlit 3) (portAt { live0 with owed := 2, txSeq := 4095, last := [(2, 3)], sent := [(2, 2)] }) t := ⟨_, .response _ _ ⟨(by first | decide +kernel | rfl), (by first | decide +kernel | rfl), (by first | decide +kernel | rfl), (by first | decide +kernel | rfl)⟩ (by first | decide +kernel | rfl) (by first | decide +kernel | rfl) (by first | decide +kernel | rfl) (by first | decide +kernel | rfl)⟩
theorem witness_replayFlit : ∃ t, FabricStep (.idleFlit 3) (portAt { live0 with replay := [(7, 0)], resend := [(7, 0)] }) t := ⟨_, .replay _ _ 7 0 [] ⟨(by first | decide +kernel | rfl), (by first | decide +kernel | rfl), (by first | decide +kernel | rfl), (by first | decide +kernel | rfl)⟩ (by first | decide +kernel | rfl)⟩
theorem witness_retrained : ∃ t, FabricStep (.retrainComplete 3) (portAt { live0 with retrainSince := some 2, replay := [(7, 0)] }) t := ⟨_, .retrained _ _ 2 (by first | decide +kernel | rfl) (by first | decide +kernel | rfl)⟩
theorem witness_retrainFails : ∃ t, FabricStep (.retrainLimitExpiry 3) ({ portAt { live0 with retrainSince := some 2 } with cycle := 2 ^ 20 + 2 }) t := ⟨_, .retrainFails _ _ 2 (by first | decide +kernel | rfl) (by first | decide +kernel | rfl)⟩
theorem witness_decay : ∃ t, FabricStep (.retrainBucketDecay 3) ({ portAt { live0 with level := 3, decayAt := 5 } with cycle := 2 ^ 32 + 5 }) t := ⟨_, .decay _ _ 2 (by first | decide +kernel | rfl) (by first | decide +kernel | rfl) (by first | decide +kernel | rfl) (by first | decide +kernel | rfl) (.inr (by first | decide +kernel | rfl))⟩
theorem witness_decayAll : ∃ t, FabricStep (.retrainBucketDecay 3) ({ portAt { live0 with level := 1, decayAt := 5 } with cycle := 2 ^ 40 }) t := ⟨_, .decay _ _ 1 (by first | decide +kernel | rfl) (by first | decide +kernel | rfl) (by first | decide +kernel | rfl) (by first | decide +kernel | rfl) (.inl (by first | decide +kernel | rfl))⟩
theorem witness_stallRelease : ∃ t, FabricStep (.forwardStallRelease 3 0) (portAt { live0 with stalled := [0, 8], freed := [(0, 4095)] }) t := ⟨_, .stallRelease _ _ 0 [8] (by first | decide +kernel | rfl) (.inl (by first | decide +kernel | rfl))⟩
theorem witness_stallForwards : ∃ t, FabricStep (.forwardStallRelease 3 0) ({ twoPorts with uals := [(3, { live0 with stalled := [8] }), (7, sender)] }) t := ⟨_, .stallRelease _ _ 8 [] (by first | decide +kernel | rfl) (.inr (by first | decide +kernel | rfl))⟩
theorem witness_silence : ∃ t, FabricStep (.linkSilenceTimeout 3) ({ portAt live0 with cycle := 65536 }) t := ⟨_, .silence _ _ (by first | decide +kernel | rfl) (by first | decide +kernel | rfl) (by first | decide +kernel | rfl) (by first | decide +kernel | rfl) (by first | decide +kernel | rfl)⟩
theorem witness_fencedPort : ∃ t, FabricStep (.linkSilenceTimeout 3) ({ portAt live0 with dies := [(16, { off := true })] }) t := ⟨_, .fencedPort _ _ (by first | decide +kernel | rfl) (by first | decide +kernel | rfl) (by first | decide +kernel | rfl) (.inr (by first | decide +kernel | rfl))⟩
theorem witness_retiredPort : ∃ t, FabricStep (.linkSilenceTimeout 3) (portAt { live0 with retired := true }) t := ⟨_, .retiredPort _ _ (by first | decide +kernel | rfl) (by first | decide +kernel | rfl) (.inl (by first | decide +kernel | rfl))⟩
theorem witness_fatal : ∃ t, FabricStep (.fatalErrorNotice 3) (portAt live0) t := ⟨_, .fatal _ _ ⟨(by first | decide +kernel | rfl), (by first | decide +kernel | rfl), (by first | decide +kernel | rfl), (by first | decide +kernel | rfl)⟩ (by first | decide +kernel | rfl)⟩
theorem witness_portDown : ∃ t, FabricStep (.portDownNotice 127 3) (portAt live0) t := ⟨_, .portDown _ _ _ _ (by first | decide +kernel | rfl) (by first | decide +kernel | rfl) ⟨(by first | decide +kernel | rfl), (by first | decide +kernel | rfl), (by first | decide +kernel | rfl), (by first | decide +kernel | rfl)⟩ (by first | decide +kernel | rfl) rfl⟩
theorem witness_zeroed : ∃ t, FabricStep (.granuleZeroed 5 7) (pav0 { sw0 with dirty := [6, 7] }) t := ⟨_, .zeroed _ _ _ (by first | decide +kernel | rfl)⟩
theorem witness_quotaDone : ∃ t, FabricStep (.pavQuotaDone) ({ pav0 sw0 with pavQuota := BitVec.ofNat 64 (2 * 2 ^ 48 + 5 * 2 ^ 42 + 2 ^ 20 + 2 ^ 18), uals := [(5, { live0 with flights := [(.quota, 0, 133)], txSeq := 1 })] }) t := ⟨_, .quotaDone _ _ 5 (by first | decide +kernel | rfl) (by first | decide +kernel | rfl) (by first | decide +kernel | rfl) (by first | decide +kernel | rfl) rfl⟩
theorem witness_quotaLost : ∃ t, FabricStep (.pavQuotaDone) ({ pav0 sw0 with pavQuota := BitVec.ofNat 64 (2 * 2 ^ 48 + 5 * 2 ^ 42 + 2 ^ 20), fabLost := 32 }) t := ⟨_, .quotaLost _ (by first | decide +kernel | rfl) (by first | decide +kernel | rfl)⟩

end Sys2Proof.Tests.WitnessFabric
end

