-- ==== Sys2Proof/Tests/WitnessMemory.lean ====
section
/-!
SUPPORT. Witnesses: for every step of memory and its units a small state in which its rule applies.
-/

namespace Sys2Proof.Tests.WitnessMemory

open Sys2Proof.Machine Sys2Proof.Rules

set_option Elab.async false

/-- A machine with one group, number 0. -/
def lone (g : Group) : State := { groups := [(0, g)] }

/-- Its one outstanding instruction is p. -/
def doing (p : Pending) : State := lone { out := [p] }

def ldPiece : Piece := ⟨0, 0, 64, 4, 0, 0⟩
def ld : Pending := { pc := 0, todo := [.load ldPiece], result := true, dest := .scalar 1 4 false }
def st1 : Pending := { pc := 0, todo := [.store ldPiece [1, 2, 3, 4]] }
def st2 : Pending := { pc := 0, todo := [.store ldPiece [1, 2, 3, 4], .load ldPiece] }
def back : Pending := { pc := 0, result := true, writes := [.s 1 7] }
def at1 : Pending := { pc := 0, todo := [.atomic .add 4 [ldPiece] [(0, 5, 0), (3, 6, 0)]], result := true, atomic := true, dest := .lane 2 4 false }
def fl : Pending := { pc := 0, todo := [.hostFlush [2 ^ 40]] }
def iv : Pending := { pc := 0, todo := [.hostInvalidate [2 ^ 40]] }
def hostPiece : Piece := { ldPiece with addr := 2 ^ 46 + 64 }
def hostLd : Pending := { ld with todo := [.load hostPiece] }
def hostSt : Pending := { pc := 0, todo := [.store hostPiece [1, 2, 3, 4]] }
/-- Memory of switch 3, which has been declared lost. -/
def lostPiece : Piece := { ldPiece with addr := pavAddr 3 64 }
def lostLd : Pending := { ld with todo := [.load lostPiece] }
def lostSt : Pending := { pc := 0, todo := [.store lostPiece [1, 2, 3, 4]] }
def lost (p : Pending) : State := { doing p with fabLost := 8 }
/-- Memory of device 5; the request is on port 2. -/
def peerPiece : Piece := { ldPiece with addr := peerAddr 5 64 }
def peerLd : Pending := { ld with todo := [.load peerPiece] }
def onPort (p : Pending) : State := { doing p with uals := [(2, { trained := true, serve := true, flights := [(.access 0 (peerAddr 5 64 / 64), 0, 5)], txSeq := 1 })] }
/-- A group of plan 1 that asks for port 7, with these ports. -/
def ask : Pending := { pc := 0, todo := [.portQuery 7 5], result := true }
def asking (ps : Map Port) : State :=
  { groups := [(0, { plan := 1, task := 1, out := [ask] })], plans := [(1, { state := .running })], ports := ps }
/-- A reduction that has failed, of a group that has exited. -/
def lateRed : State :=
  { groups := [(0, { plan := 1, task := 1, exited := true, out := [{ pc := 0, atomic := true, failed := some (12, true), failOff := 24 }] })]
    plans := [(1, { state := .running })], tasks := [(1, { plan := 1, stage := 2, die := 0, running := true, groups := [0] })] }

theorem witness_load : ∃ t, MemoryStep (.loadResultReturn 0 0 0) (doing ld) t := ⟨_, .load _ _ _ _ [] [] ld ldPiece [] ⟨(by first | decide +kernel | rfl), (by first | decide +kernel | rfl), (by first | decide +kernel | rfl), (by first | decide +kernel | rfl), (by first | decide +kernel | rfl), (by first | decide +kernel | rfl), (by first | decide +kernel | rfl)⟩ (by first | decide +kernel | rfl) (by first | decide +kernel | rfl) (by first | decide +kernel | rfl)⟩
theorem witness_loadPeer : ∃ t, MemoryStep (.loadResultReturn 0 0 0) (onPort peerLd) t := ⟨_, .load _ _ _ _ [] [] peerLd peerPiece [] ⟨(by first | decide +kernel | rfl), (by first | decide +kernel | rfl), (by first | decide +kernel | rfl), (by first | decide +kernel | rfl), (by first | decide +kernel | rfl), (by first | decide +kernel | rfl), (by first | decide +kernel | rfl)⟩ (by first | decide +kernel | rfl) (by first | decide +kernel | rfl) (by first | decide +kernel | rfl)⟩
theorem witness_loadHost : ∃ t, MemoryStep (.loadResultReturn 0 0 0) (doing hostLd) t := ⟨_, .loadHost _ _ _ _ [] [] hostLd hostPiece ⟨(by first | decide +kernel | rfl), (by first | decide +kernel | rfl), (by first | decide +kernel | rfl), (by first | decide +kernel | rfl), (by first | decide +kernel | rfl)⟩ (by first | decide +kernel | rfl) (by first | decide +kernel | rfl)⟩
theorem witness_loadBad : ∃ t, MemoryStep (.loadResultReturn 0 0 0) ({ doing ld with bad := [(66, 1)] }) t := ⟨_, .loadBad _ _ _ _ [] [] ld ldPiece [] ⟨(by first | decide +kernel | rfl), (by first | decide +kernel | rfl), (by first | decide +kernel | rfl), (by first | decide +kernel | rfl), (by first | decide +kernel | rfl), (by first | decide +kernel | rfl), (by first | decide +kernel | rfl)⟩ (by first | decide +kernel | rfl) (by first | decide +kernel | rfl) (by first | decide +kernel | rfl) (by first | decide +kernel | rfl)⟩
theorem witness_loadLost : ∃ t, MemoryStep (.loadResultReturn 0 0 0) (lost lostLd) t := ⟨_, .loadLost _ _ _ _ [] [] lostLd lostPiece [] ⟨(by first | decide +kernel | rfl), (by first | decide +kernel | rfl), (by first | decide +kernel | rfl), (by first | decide +kernel | rfl), (by first | decide +kernel | rfl), (by first | decide +kernel | rfl), (by first | decide +kernel | rfl)⟩ (by first | decide +kernel | rfl) (by first | decide +kernel | rfl) (by first | decide +kernel | rfl)⟩
theorem witness_query : ∃ t, MemoryStep (.loadResultReturn 0 0 0) (asking [(7, { plan := 1, depth := 3, opened := true })]) t := ⟨_, .query _ _ _ _ 7 5 [] [] ask { plan := 1, depth := 3, opened := true } [] ⟨(by first | decide +kernel | rfl), (by first | decide +kernel | rfl), (by first | decide +kernel | rfl), (by first | decide +kernel | rfl), (by first | decide +kernel | rfl), (by first | decide +kernel | rfl), (by first | decide +kernel | rfl)⟩ (by first | decide +kernel | rfl) (by first | decide +kernel | rfl)⟩
theorem witness_queryNone : ∃ t, MemoryStep (.loadResultReturn 0 0 0) (asking []) t := ⟨_, .queryNone _ _ _ _ 7 5 [] [] ask [] ⟨(by first | decide +kernel | rfl), (by first | decide +kernel | rfl), (by first | decide +kernel | rfl), (by first | decide +kernel | rfl), (by first | decide +kernel | rfl), (by first | decide +kernel | rfl), (by first | decide +kernel | rfl)⟩ (fun _ h => nomatch h)⟩
theorem witness_queryOther : ∃ t, MemoryStep (.loadResultReturn 0 0 0) ({ asking [(7, { plan := 2, depth := 3, opened := true })] with plans := [(1, { state := .running }), (2, { state := .running, tenant := 5 })] }) t := ⟨_, .queryNone _ _ _ _ 7 5 [] [] ask [] ⟨(by first | decide +kernel | rfl), (by first | decide +kernel | rfl), (by first | decide +kernel | rfl), (by first | decide +kernel | rfl), (by first | decide +kernel | rfl), (by first | decide +kernel | rfl), (by first | decide +kernel | rfl)⟩ (fun x h => by cases h; decide +kernel)⟩
theorem witness_write : ∃ t, MemoryStep (.loadResultReturn 0 0 0) (doing back) t := ⟨_, .write _ _ _ _ back (.s 1 7) (by first | decide +kernel | rfl) ⟨(by first | decide +kernel | rfl), (by first | decide +kernel | rfl), (by first | decide +kernel | rfl)⟩ (by first | decide +kernel | rfl)⟩
theorem witness_flag : ∃ t, MemoryStep (.loadResultReturn 0 0 (1 + (64 * 2 + 9))) (doing { back with ff := FF.single 2 9 }) t := ⟨_, .flag _ _ _ 2 9 { back with ff := FF.single 2 9 } (by first | decide +kernel | rfl) ⟨(by first | decide +kernel | rfl), (by first | decide +kernel | rfl), (by first | decide +kernel | rfl)⟩ (by first | decide +kernel | rfl) (by first | decide +kernel | rfl) (by first | decide +kernel | rfl)⟩
theorem witness_written : ∃ t, MemoryStep (.loadResultReturn 0 0 321) (doing { back with ff := FF.single 2 9 }) t := ⟨_, .written _ _ _ _ { back with ff := FF.single 2 9 } (by first | decide +kernel | rfl) ⟨(by first | decide +kernel | rfl), (by first | decide +kernel | rfl), (by first | decide +kernel | rfl)⟩ (.inl (by first | decide +kernel | rfl)) (by first | decide +kernel | rfl)⟩
theorem witness_writtenNone : ∃ t, MemoryStep (.loadResultReturn 0 0 0) (doing { back with writes := [] }) t := ⟨_, .written _ _ _ _ { back with writes := [] } (by first | decide +kernel | rfl) ⟨(by first | decide +kernel | rfl), (by first | decide +kernel | rfl), (by first | decide +kernel | rfl)⟩ (.inr (by first | decide +kernel | rfl)) (by first | decide +kernel | rfl)⟩
theorem witness_store : ∃ t, MemoryStep (.storePerformed 0) (doing st1) t := ⟨_, .store _ _ [] [] st1 ldPiece [1, 2, 3, 4] ⟨(by first | decide +kernel | rfl), (by first | decide +kernel | rfl), (by first | decide +kernel | rfl), (by first | decide +kernel | rfl), (by first | decide +kernel | rfl), (by first | decide +kernel | rfl), (by first | decide +kernel | rfl)⟩ (by first | decide +kernel | rfl) (by first | decide +kernel | rfl) (by first | decide +kernel | rfl) (by first | decide +kernel | rfl) (by first | decide +kernel | rfl)⟩
theorem witness_storeMore : ∃ t, MemoryStep (.storePerformed 0) (doing st2) t := ⟨_, .storeMore _ _ [] [] st2 ldPiece [1, 2, 3, 4] _ _ ⟨(by first | decide +kernel | rfl), (by first | decide +kernel | rfl), (by first | decide +kernel | rfl), (by first | decide +kernel | rfl), (by first | decide +kernel | rfl), (by first | decide +kernel | rfl), (by first | decide +kernel | rfl)⟩ (by first | decide +kernel | rfl)⟩
theorem witness_storeHost : ∃ t, MemoryStep (.storePerformed 0) (doing hostSt) t := ⟨_, .storeHost _ _ [] [] hostSt hostPiece [1, 2, 3, 4] ⟨(by first | decide +kernel | rfl), (by first | decide +kernel | rfl), (by first | decide +kernel | rfl), (by first | decide +kernel | rfl), (by first | decide +kernel | rfl)⟩ (by first | decide +kernel | rfl) (by first | decide +kernel | rfl) (by first | decide +kernel | rfl) (by first | decide +kernel | rfl)⟩
theorem witness_storeLost : ∃ t, MemoryStep (.storePerformed 0) (lost lostSt) t := ⟨_, .storeLost _ _ [] [] lostSt lostPiece [1, 2, 3, 4] ⟨(by first | decide +kernel | rfl), (by first | decide +kernel | rfl), (by first | decide +kernel | rfl), (by first | decide +kernel | rfl), (by first | decide +kernel | rfl), (by first | decide +kernel | rfl), (by first | decide +kernel | rfl)⟩ (by first | decide +kernel | rfl) (by first | decide +kernel | rfl) (by first | decide +kernel | rfl) (by first | decide +kernel | rfl) (by first | decide +kernel | rfl)⟩
theorem witness_retry : ∃ t, MemoryStep (.retryHintExpiry 0) (lone { retryAt := some 0 }) t := ⟨_, .retry _ _ 0 (by first | decide +kernel | rfl) (by first | decide +kernel | rfl)⟩
theorem witness_redirect : ∃ t, MemoryStep (.sliceRedirect 0) ({ doing ld with dies := [(0, { mapGen := 1, stubs := [1] })] }) t := ⟨_, .redirect _ _ 64 (0, 0, .load ldPiece) (by first | decide +kernel | rfl) (by first | decide +kernel | rfl) (by first | decide +kernel | rfl) (by first | decide +kernel | rfl) (by first | decide +kernel | rfl)⟩
theorem witness_sliceRetire : ∃ t, MemoryStep (.sliceRetire 0 24 5) (lone {}) t := ⟨_, .sliceRetire _ _ _ _ [3, 4] [3, 4, 99, 100, 195, 196] _ (by first | decide +kernel | rfl) (by first | decide +kernel | rfl) (by first | decide +kernel | rfl) (by first | decide +kernel | rfl) (by first | decide +kernel | rfl) (by first | decide +kernel | rfl) (by first | decide +kernel | rfl) rfl (by first | decide +kernel | rfl)⟩
theorem witness_stubRemove : ∃ t, MemoryStep (.sliceStubRemove 0) ({ dies := [(0, { stubs := [1] })] }) t := ⟨_, .stubRemove _ _ (by first | decide +kernel | rfl) fun _ _ => .inr rfl⟩
theorem witness_sliceAdd : ∃ t, MemoryStep (.sliceAdd 0 3 2) (lone {}) t := ⟨_, .sliceAdd _ _ _ _ [1] (by first | decide +kernel | rfl) (by first | decide +kernel | rfl) (by first | decide +kernel | rfl) (by first | decide +kernel | rfl) (by first | decide +kernel | rfl) (by first | decide +kernel | rfl)⟩
theorem witness_refresh : ∃ t, MemoryStep (.orangeryRefreshAdvance) ({ cycle := 127 }) t := ⟨_, .refresh _⟩
theorem witness_flush : ∃ t, MemoryStep (.hostSyncPerformed 0) ({ doing fl with writeCombine := [(2 ^ 46, [9]), (2 ^ 46 + 64, [8])] }) t := ⟨_, .flush _ _ [] [] fl [2 ^ 40] ⟨(by first | decide +kernel | rfl), (by first | decide +kernel | rfl), (by first | decide +kernel | rfl), (by first | decide +kernel | rfl), (by first | decide +kernel | rfl), (by first | decide +kernel | rfl), (by first | decide +kernel | rfl)⟩ (by first | decide +kernel | rfl) (by first | decide +kernel | rfl) (by first | decide +kernel | rfl) (by first | decide +kernel | rfl)⟩
theorem witness_invalidate : ∃ t, MemoryStep (.hostSyncPerformed 0) ({ doing iv with hostCopies := [(2 ^ 46 / 64 + 2 ^ 41, [9]), (2 ^ 46 / 64 + 2 ^ 42 + 1, [9])] }) t := ⟨_, .invalidate _ _ [] [] iv [2 ^ 40] ⟨(by first | decide +kernel | rfl), (by first | decide +kernel | rfl), (by first | decide +kernel | rfl), (by first | decide +kernel | rfl), (by first | decide +kernel | rfl), (by first | decide +kernel | rfl), (by first | decide +kernel | rfl)⟩ (by first | decide +kernel | rfl) (by first | decide +kernel | rfl) (by first | decide +kernel | rfl) (by first | decide +kernel | rfl)⟩
theorem witness_hostWrite : ∃ t, MemoryStep (.hostBelvedereWrite 4194303 1 7) (lone {}) t := ⟨_, .hostWrite _ _ _ _ (by first | decide +kernel | rfl) (by first | decide +kernel | rfl)⟩
theorem witness_hostRead : ∃ t, MemoryStep (.hostBelvedereRead 4194303 1) (lone {}) t := ⟨_, .hostRead _ _ _ (by first | decide +kernel | rfl) (by first | decide +kernel | rfl)⟩
theorem witness_drain : ∃ t, MemoryStep (.hostWriteCombineDrain 1) ({ writeCombine := [(2 ^ 46, [9]), (2 ^ 46 + 64, [8])] }) t := ⟨_, .drain _ [(2 ^ 46, [9])] [] (2 ^ 46 + 64, [8]) (by first | decide +kernel | rfl) (by first | decide +kernel | rfl) (by first | decide +kernel | rfl)⟩
theorem witness_atomic : ∃ t, MemoryStep (.atomicRequestAtHome 0) (doing at1) t := ⟨_, .atomic _ _ _ [] [] at1 .add [ldPiece] [(0, 5, 0), (3, 6, 0)] [] ([(0, 0), (3, 5)], 11) ⟨(by first | decide +kernel | rfl), (by first | decide +kernel | rfl), (by first | decide +kernel | rfl), (by first | decide +kernel | rfl), (by first | decide +kernel | rfl), (by first | decide +kernel | rfl), (by first | decide +kernel | rfl)⟩ (by first | decide +kernel | rfl) (by first | decide +kernel | rfl) (by first | decide +kernel | rfl)⟩
theorem witness_reply : ∃ t, MemoryStep (.atomicReply 0 0 0) (doing { back with atomic := true }) t := ⟨_, .reply _ _ _ _ { back with atomic := true } (.s 1 7) ⟨(by first | decide +kernel | rfl), (by first | decide +kernel | rfl), (by first | decide +kernel | rfl)⟩ (by first | decide +kernel | rfl)⟩
theorem witness_replied : ∃ t, MemoryStep (.atomicReply 0 0 0) (doing { back with atomic := true, writes := [] }) t := ⟨_, .replied _ _ _ _ { back with atomic := true, writes := [] } ⟨(by first | decide +kernel | rfl), (by first | decide +kernel | rfl), (by first | decide +kernel | rfl)⟩ (.inr (by first | decide +kernel | rfl)) (by first | decide +kernel | rfl)⟩
theorem witness_repliedLate : ∃ t, MemoryStep (.atomicReply 0 0 0) (lateRed) t := ⟨_, .repliedLate _ _ _ _ 12 true _ ⟨(by first | decide +kernel | rfl), (by first | decide +kernel | rfl), (by first | decide +kernel | rfl)⟩ (.inr (by first | decide +kernel | rfl)) (by first | decide +kernel | rfl) (by first | decide +kernel | rfl)⟩
theorem witness_barrierWake : ∃ t, MemoryStep (.barrierWake 0) (lone { wait := some (.woken none 0 none) }) t := ⟨_, .barrierWake _ _ 0 none (by first | decide +kernel | rfl)⟩
theorem witness_barrierFault : ∃ t, MemoryStep (.barrierWake 0) (lone { wait := some (.woken none 0 (some { kind := 1 })) }) t := ⟨_, .barrierFault _ _ 0 none { kind := 1 } none (by first | decide +kernel | rfl)⟩
theorem witness_arborRelease : ∃ t, MemoryStep (.arborRelease 1 2) ({ plans := [(1, { state := .running, arbors := [⟨2, 1, 1⟩] })], cores := [(0, { stage := some (1, 0), arborA := [(2, 1)] })], groups := [(0, { plan := 1, wait := some (.arbor 2) })] }) t := ⟨_, .arborRelease _ _ _ { state := .running, arbors := [⟨2, 1, 1⟩] } ⟨2, 1, 1⟩ [0] (by first | decide +kernel | rfl) (by first | decide +kernel | rfl) (by first | decide +kernel | rfl) (by first | decide +kernel | rfl) (by first | decide +kernel | rfl)⟩

end Sys2Proof.Tests.WitnessMemory
end

