-- ==== Sys2Proof/Tests/WitnessPlans.lean ====
section
/-!
SUPPORT. Witnesses: the faults of the task instructions, and for every REASON a record that fails one of its checks.
-/

namespace Sys2Proof.Tests.WitnessPlans

open Sys2Proof.Machine Sys2Proof.Rules

set_option Elab.async false

/-- Group 0 runs task 1 of plan 1, on core 0, which holds stage 0 of that plan; stage 1 has cores on die 3. -/
def stage0 : StageDesc := { dieMask := 1, maxS := 1, minS := 1, initS := 1, quantum := 1024, roles := [{ groups := 1 }] }
def stage1 : StageDesc := { stage0 with dieMask := 8 }
def planA : Plan := { state := .running, tenant := 2, stages := [stage0, stage1] }
def task1 : Task := { plan := 1, stage := 0, die := 0, scratchSize := 4096, running := true, groups := [0], live := [0] }
def tasks0 : State :=
  { groups := [(0, { budget := 8, plan := 1, task := 1, segs := [(1, ⟨0, 4096, true, true, false, 1⟩)],
                     s := [(2, 2 ^ 32 * 9), (3, 2 ^ 32 * 9 + 1), (6, 100), (7, 200), (8, 2), (9, 0), (10, 1), (11, 2), (12, 3), (13, 1)] })]
    tasks := [(1, task1)], plans := [(1, planA)], cores := [(0, { stage := some (1, 0), resident := [1] })]
    nextTask := 2, serving := true }

def withPlan2 (p : Plan) : State := (tasks0.setMe { tasks0.me with mode := .supervisor }).setPlan 2 p
def plan2 : Plan := { tenant := 2, stages := [stage0] }
def withCore (c : Core) : State := tasks0.setCore 0 c
def waitingFor (s : State) (w : Wait) : State := s.setMe { s.me with wait := some w }
def queued1 : Task := { plan := 1, stage := 0, die := 0 }

/-- The record of a plan of one stage of one core, with MIN m, at the start of the region. -/
def headerW : List Nat := [2 ^ 32, 2 ^ 49, 0, 0, 0, 0, 0, 0]
def stageW (m : Nat) : List Nat :=
  [0, 0, 0, 0, 0, 0, 0, 0, 0, 0, 0, 0, 0, 0, 0, 0, 0, 2 ^ 48 + 2 ^ 24 + m * 2 ^ 16 + 2 ^ 8, 2 ^ 42, 0, 0, 0, 1, 0, 0, 0, 0, 0, 0, 0, 0, 0]
def recordAt (m : Nat) : State :=
  (tasks0.setMe { tasks0.me with mode := .supervisor }).write (scratchAddr 0 0) ((headerW ++ stageW m).flatMap (leBytes 8))

/-- The same plan's record with a pipe, two ports and a pattern: the header has one of each array but images, feeds and Arbor numbers. -/
def headerV : List Nat := [2 ^ 32 + 2 ^ 40 + 2 ^ 16 + 2, 2 ^ 49, 0, 64, 0, 0, 0, 0]
def stageV : List Nat := (stageW 1).set 21 (4096 * 2 ^ 32)
def pipeV : List Nat := [0, 2 ^ 48 * 8 + 2 ^ 32 * 4 + 2 ^ 21 + 2 ^ 14, 0, 0]
def portMsg : List Nat := [3]
def portHead : List Nat := [2 ^ 29 + 4]
/-- port 3 at position 0 and port 4 at position 1, its record places at 64 and its prefetch area at 512 -/
def patternV : List Nat := [3 + 4 * 2 ^ 16, 0, 2, 64 + 512 * 2 ^ 32]
def arraysV : Arrays := { stages := [stageV], pipes := [pipeV], ports := [portMsg, portHead], patterns := [patternV] }
/-- Die 0's message store is given away to other ports, or its pattern indices to other patterns. -/
def tasks1 : State := { tasks0 with ports := (List.range 3840).map fun i => (i + 8, { plan := 1, depth := 16 }) }
def tasks2 : State := { tasks0 with patterns := (List.range 512).map fun i => (i, { plan := 1, ports := [], stage := 0, role := 0, prio := 0, pfmask := 0, pfbase := 0, recbase := 0, disabled := false }) }

theorem witness_spawn127 : ∃ u k, TaskFault (.spawn true 2 127) (tasks0) u k := ⟨_, _, .spawn _ _ _ _ _ (by first | decide +kernel | rfl) ⟨(by first | decide +kernel | rfl), rfl⟩ (by first | decide +kernel | rfl) (.inl (by first | decide +kernel | rfl))⟩
theorem witness_spawnReserved : ∃ u k, TaskFault (.spawn true 6 6) (tasks0) u k := ⟨_, _, .spawn _ _ _ _ _ (by first | decide +kernel | rfl) ⟨(by first | decide +kernel | rfl), rfl⟩ (by first | decide +kernel | rfl) (.inr (.inl (by first | decide +kernel | rfl)))⟩
theorem witness_spawnReservedHigh : ∃ u k, TaskFault (.spawn true 5 6) (tasks0.setMe (tasks0.me.setS 5 (2 ^ 48))) u k := ⟨_, _, .spawn _ _ _ _ _ (by first | decide +kernel | rfl) ⟨(by first | decide +kernel | rfl), rfl⟩ (by first | decide +kernel | rfl) (.inr (.inr (.inl (by first | decide +kernel | rfl))))⟩
theorem witness_spawnNoStage : ∃ u k, TaskFault (.spawn true 8 6) (tasks0) u k := ⟨_, _, .spawn _ _ _ _ _ (by first | decide +kernel | rfl) ⟨(by first | decide +kernel | rfl), rfl⟩ (by first | decide +kernel | rfl) (.inr (.inr (.inr (.inr ⟨planA, (by first | decide +kernel | rfl), .inl (by first | decide +kernel | rfl)⟩))))⟩
theorem witness_spawnElsewhere : ∃ u k, TaskFault (.spawn true 2 6) (tasks0.setPlan 1 { planA with stages := [{ stage0 with sdev := 9 }] }) u k := ⟨_, _, .spawn _ _ _ _ _ (by first | decide +kernel | rfl) ⟨(by first | decide +kernel | rfl), rfl⟩ (by first | decide +kernel | rfl) (.inr (.inr (.inr (.inr ⟨{ planA with stages := [{ stage0 with sdev := 9 }] }, (by first | decide +kernel | rfl), .inr ⟨{ stage0 with sdev := 9 }, (by first | decide +kernel | rfl), (by first | decide +kernel | rfl)⟩⟩))))⟩
theorem witness_spawnDraining : ∃ u k, TaskFault (.spawn true 2 6) (tasks0.setPlan 1 { planA with state := .draining }) u k := ⟨_, _, .spawnDraining _ _ _ _ _ { planA with state := .draining } stage0 (by first | decide +kernel | rfl) ⟨(by first | decide +kernel | rfl), rfl⟩ (by first | decide +kernel | rfl) (by first | decide +kernel | rfl) (by first | decide +kernel | rfl) (by first | decide +kernel | rfl) (by first | decide +kernel | rfl) (by first | decide +kernel | rfl) (by first | decide +kernel | rfl) (by first | decide +kernel | rfl)⟩
theorem witness_planGoHandle : ∃ u k, TaskFault (.planGoRemove true 14 6 12) ({ tasks0 with groups := [(0, { budget := 8, plan := 1, task := 1, mode := .supervisor, s := [(6, 65536), (12, 3)] })] }) u k := ⟨_, _, .planGo _ _ _ _ _ _ _ (.remove _ _ _ _) (by first | decide +kernel | rfl) (by unfold HasRoom; decide +kernel) ⟨(by first | decide +kernel | rfl), rfl⟩ (by first | decide +kernel | rfl) (.inl (by first | decide +kernel | rfl))⟩
theorem witness_planGoAction : ∃ u k, TaskFault (.planGoStart true 14 12 6) ({ tasks0 with groups := [(0, { budget := 8, plan := 1, task := 1, mode := .supervisor, s := [(6, 65536), (12, 3)] })] }) u k := ⟨_, _, .planGo _ _ _ _ _ _ _ (.start _ _ _ _) (by first | decide +kernel | rfl) (by unfold HasRoom; decide +kernel) ⟨(by first | decide +kernel | rfl), rfl⟩ (by first | decide +kernel | rfl) (.inr (by first | decide +kernel | rfl))⟩
theorem witness_planLdMisaligned : ∃ u k, TaskFault (.planLd true 8 9 1) ((recordAt 1).setMe ((recordAt 1).me.setS 9 8)) u k := ⟨_, _, .planLd _ _ _ _ _ _ 1 (by first | decide +kernel | rfl) (by unfold HasRoom; decide +kernel) ⟨(by first | decide +kernel | rfl), rfl⟩ (by first | decide +kernel | rfl) (by first | decide +kernel | rfl) (by first | decide +kernel | rfl)⟩
theorem witness_planLdLimit : ∃ u k, TaskFault (.planLd true 8 9 1) ((recordAt 1).setMe ((recordAt 1).me.setS 9 4096)) u k := ⟨_, _, .planLd _ _ _ _ _ _ 4 (by first | decide +kernel | rfl) (by unfold HasRoom; decide +kernel) ⟨(by first | decide +kernel | rfl), rfl⟩ (by first | decide +kernel | rfl) (by first | decide +kernel | rfl) (by first | decide +kernel | rfl)⟩
theorem witness_planLdRead : ∃ u k, TaskFault (.planLd true 8 9 1) ((recordAt 1).setMe { (recordAt 1).me with segs := [(1, ⟨0, 4096, false, true, false, 1⟩)] }) u k := ⟨_, _, .planLd _ _ _ _ _ _ 6 (by first | decide +kernel | rfl) (by unfold HasRoom; decide +kernel) ⟨(by first | decide +kernel | rfl), rfl⟩ (by first | decide +kernel | rfl) (by first | decide +kernel | rfl) (by first | decide +kernel | rfl)⟩
theorem witness_planLdLong : ∃ u k, TaskFault (.planLd true 8 9 1) ((recordAt 1).setMe { (recordAt 1).me with segs := [(1, ⟨0, 300, true, true, false, 1⟩)] }) u k := ⟨_, _, .planLdLong _ _ (((recordAt 1).setMe { (recordAt 1).me with segs := [(1, ⟨0, 300, true, true, false, 1⟩)] }).performAll 0) _ _ _ _ _ (headerW.flatMap (leBytes 8)) (by first | decide +kernel | rfl) (by unfold HasRoom; decide +kernel) ⟨(by first | decide +kernel | rfl), rfl⟩ (by first | decide +kernel | rfl) (by first | decide +kernel | rfl) (by first | decide +kernel | rfl) (by first | decide +kernel | rfl) (by first | decide +kernel | rfl) (okOf (by decide +kernel)) (by first | decide +kernel | rfl) rfl⟩
theorem witness_planLdReserved : ∃ u k, TaskFault (.planLd true 8 9 1) ((recordAt 1).write (scratchAddr 0 7) [1]) u k := ⟨_, _, .planLdReserved _ _ (((recordAt 1).write (scratchAddr 0 7) [1]).performAll 0) _ _ _ _ _ ⟨[2 ^ 56 + 2 ^ 32, 2 ^ 49, 0, 0, 0, 0, 0, 0]⟩ { stages := [stageW 1] } (by first | decide +kernel | rfl) (by unfold HasRoom; decide +kernel) ⟨(by first | decide +kernel | rfl), rfl⟩ (by first | decide +kernel | rfl) (by first | decide +kernel | rfl) ⟨(by first | decide +kernel | rfl), ⟨(by first | decide +kernel | rfl), (by first | decide +kernel | rfl)⟩, (by first | decide +kernel | rfl), ⟨(([2 ^ 56 + 2 ^ 32, 2 ^ 49, 0, 0, 0, 0, 0, 0] : List Nat).flatMap (leBytes 8)), [[stageW 1], [], [], [], [], [], []], ((recordAt 1).write (scratchAddr 0 7) [1]).performAll 0, (okOf (by decide +kernel)), (by first | decide +kernel | rfl), (okOf (by decide +kernel)), (by first | decide +kernel | rfl)⟩, (by first | decide +kernel | rfl)⟩ (.inl (by first | decide +kernel | rfl)) rfl⟩

/-- A record of which each witness changes one thing: stage 0 on die 0, a pipe from it to itself, a port of each kind, a pattern over
both. -/
def good : Record := planRecord 9 ⟨headerV⟩ arraysV

theorem witness_goodPasses : tasks0.rejects good = none := by decide +kernel
theorem witness_reason1 : Violates tasks0 (planRecord 9 ⟨(headerV.set 0 (headerV.getD 0 0 - 2 ^ 32))⟩ arraysV) 1 0 ∧ tasks0.rejects (planRecord 9 ⟨(headerV.set 0 (headerV.getD 0 0 - 2 ^ 32))⟩ arraysV) = some (1, 0) :=
  ⟨.header (.inl (by first | decide +kernel | rfl)), by decide +kernel⟩
theorem witness_reason1Interval : Violates tasks0 (planRecord 9 ⟨(headerV.set 2 (1023))⟩ arraysV) 1 0 ∧ tasks0.rejects (planRecord 9 ⟨(headerV.set 2 (1023))⟩ arraysV) = some (1, 0) :=
  ⟨.header (.inr (.inl (by first | decide +kernel | rfl))), by decide +kernel⟩
theorem witness_reason1Gang : Violates tasks0 (planRecord 9 ⟨(headerV.set 5 (1))⟩ arraysV) 1 0 ∧ tasks0.rejects (planRecord 9 ⟨(headerV.set 5 (1))⟩ arraysV) = some (1, 0) :=
  ⟨.header (by first | decide +kernel | rfl), by decide +kernel⟩
theorem witness_reason1Port : Violates tasks0 (planRecord 9 ⟨(headerV.set 1 (2 ^ 49 + 3))⟩ arraysV) 1 0 ∧ tasks0.rejects (planRecord 9 ⟨(headerV.set 1 (2 ^ 49 + 3))⟩ arraysV) = some (1, 0) :=
  ⟨.header (by first | decide +kernel | rfl), by decide +kernel⟩
theorem witness_reason2 : Violates tasks0 (planRecord 9 ⟨headerV⟩ { arraysV with stages := [stageV.set 20 (2)] }) 2 0 ∧ tasks0.rejects (planRecord 9 ⟨headerV⟩ { arraysV with stages := [stageV.set 20 (2)] }) = some (2, 0) :=
  ⟨.segments 0 _ rfl (.inl (by first | decide +kernel | rfl)), by decide +kernel⟩
theorem witness_reason2Segment : Violates tasks0 (planRecord 9 ⟨headerV⟩ { arraysV with stages := [stageV.set 1 (2 ^ 4 + 2 ^ 5 + 2 ^ 6)] }) 2 0 ∧ tasks0.rejects (planRecord 9 ⟨headerV⟩ { arraysV with stages := [stageV.set 1 (2 ^ 4 + 2 ^ 5 + 2 ^ 6)] }) = some (2, 0) :=
  ⟨.segments 0 _ rfl (.inr (.inl (by first | decide +kernel | rfl))), by decide +kernel⟩
theorem witness_reason2Private : Violates tasks0 (planRecord 9 ⟨headerV⟩ { arraysV with stages := [stageV.set 1 (2 ^ 4 + 4 * 2 ^ 8)] }) 2 0 ∧ tasks0.rejects (planRecord 9 ⟨headerV⟩ { arraysV with stages := [stageV.set 1 (2 ^ 4 + 4 * 2 ^ 8)] }) = some (2, 0) :=
  ⟨.segments 0 _ rfl (by first | decide +kernel | rfl), by decide +kernel⟩
theorem witness_reason3 : Violates tasks0 (planRecord 9 ⟨headerV⟩ { arraysV with stages := [stageV.set 21 (2 ^ 44 + 9 * 2 ^ 4)] }) 3 0 ∧ tasks0.rejects (planRecord 9 ⟨headerV⟩ { arraysV with stages := [stageV.set 21 (2 ^ 44 + 9 * 2 ^ 4)] }) = some (3, 0) :=
  ⟨.team 0 _ rfl (by first | decide +kernel | rfl), by decide +kernel⟩
theorem witness_reason3Role : Violates tasks0 (planRecord 9 ⟨headerV⟩ { arraysV with stages := [stageV.set 22 (2 ^ 32 + 1)] }) 3 0 ∧ tasks0.rejects (planRecord 9 ⟨headerV⟩ { arraysV with stages := [stageV.set 22 (2 ^ 32 + 1)] }) = some (3, 0) :=
  ⟨.team 0 _ rfl (by first | decide +kernel | rfl), by decide +kernel⟩
theorem witness_reason4 : Violates tasks0 (planRecord 9 ⟨headerV⟩ { arraysV with stages := [stageV.set 17 (2 ^ 48 + 2 ^ 24 + 2 ^ 8)] }) 4 0 ∧ tasks0.rejects (planRecord 9 ⟨headerV⟩ { arraysV with stages := [stageV.set 17 (2 ^ 48 + 2 ^ 24 + 2 ^ 8)] }) = some (4, 0) :=
  ⟨.shares 0 _ rfl (.inl (by first | decide +kernel | rfl)), by decide +kernel⟩
theorem witness_reason4Cores : Violates tasks0 (planRecord 9 ⟨(headerV.set 0 (headerV.getD 0 0 + 2 ^ 32))⟩ { arraysV with stages := [stageV.set 17 (2 ^ 48 + 100 * 2 ^ 24 + 2 ^ 16 + 100 * 2 ^ 8), stageV.set 17 (2 ^ 48 + 100 * 2 ^ 24 + 2 ^ 16 + 100 * 2 ^ 8)] }) 4 1 ∧ tasks0.rejects (planRecord 9 ⟨(headerV.set 0 (headerV.getD 0 0 + 2 ^ 32))⟩ { arraysV with stages := [stageV.set 17 (2 ^ 48 + 100 * 2 ^ 24 + 2 ^ 16 + 100 * 2 ^ 8), stageV.set 17 (2 ^ 48 + 100 * 2 ^ 24 + 2 ^ 16 + 100 * 2 ^ 8)] }) = some (4, 1) :=
  ⟨.cores 1 0 0 (by first | decide +kernel | rfl) (by first | decide +kernel | rfl), by decide +kernel⟩
theorem witness_reason5 : Violates tasks0 (planRecord 9 ⟨headerV⟩ { arraysV with pipes := [pipeV.set 1 (pipeV.getD 1 0 - 2 ^ 14)] }) 5 0 ∧ tasks0.rejects (planRecord 9 ⟨headerV⟩ { arraysV with pipes := [pipeV.set 1 (pipeV.getD 1 0 - 2 ^ 14)] }) = some (5, 0) :=
  ⟨.pipe 0 _ rfl (.inl (by first | decide +kernel | rfl)), by decide +kernel⟩
theorem witness_reason5Home : Violates tasks0 (planRecord 9 ⟨headerV⟩ { arraysV with pipes := [pipeV.set 2 (2 ^ 45)] }) 5 0 ∧ tasks0.rejects (planRecord 9 ⟨headerV⟩ { arraysV with pipes := [pipeV.set 2 (2 ^ 45)] }) = some (5, 0) :=
  ⟨.pipe 0 _ rfl (.inr (by first | decide +kernel | rfl)), by decide +kernel⟩
theorem witness_reason5Resident : Violates tasks0 (planRecord 9 ⟨(headerV.set 3 (0))⟩ arraysV) 5 0 ∧ tasks0.rejects (planRecord 9 ⟨(headerV.set 3 (0))⟩ arraysV) = some (5, 0) :=
  ⟨.resident 0 0 (by first | decide +kernel | rfl), by decide +kernel⟩
theorem witness_reason5Quota : Violates tasks0 (planRecord 9 ⟨(headerV.set 3 (96 * 1024 + 1))⟩ arraysV) 5 0 ∧ tasks0.rejects (planRecord 9 ⟨(headerV.set 3 (96 * 1024 + 1))⟩ arraysV) = some (5, 0) :=
  ⟨.quota (by first | decide +kernel | rfl), by decide +kernel⟩
theorem witness_reason6 : Violates tasks0 (planRecord 9 ⟨headerV⟩ { arraysV with ports := [[2 ^ 30 + 3], portHead] }) 6 0 ∧ tasks0.rejects (planRecord 9 ⟨headerV⟩ { arraysV with ports := [[2 ^ 30 + 3], portHead] }) = some (6, 0) :=
  ⟨.port 0 _ _ rfl rfl (by first | decide +kernel | rfl), by decide +kernel⟩
theorem witness_reason6Twice : Violates tasks0 (planRecord 9 ⟨headerV⟩ { arraysV with ports := [portMsg, portHead, portMsg] }) 6 2 ∧ tasks0.rejects (planRecord 9 ⟨headerV⟩ { arraysV with ports := [portMsg, portHead, portMsg] }) = some (6, 2) :=
  ⟨.port 2 _ _ rfl rfl (by first | decide +kernel | rfl), by decide +kernel⟩
theorem witness_reason6Depths : Violates tasks1 (planRecord 9 ⟨headerV⟩ arraysV) 6 0 ∧ tasks1.rejects (planRecord 9 ⟨headerV⟩ arraysV) = some (6, 0) :=
  ⟨.depths 0 0 (by first | decide +kernel | rfl) (by first | decide +kernel | rfl), by decide +kernel⟩
theorem witness_reason7 : Violates tasks0 (planRecord 9 ⟨headerV⟩ { arraysV with patterns := [patternV.set 2 0] }) 7 0 ∧ tasks0.rejects (planRecord 9 ⟨headerV⟩ { arraysV with patterns := [patternV.set 2 0] }) = some (7, 0) :=
  ⟨.pattern 0 _ rfl (.inl (by first | decide +kernel | rfl)), by decide +kernel⟩
theorem witness_reason7Handler : Violates tasks0 (planRecord 9 ⟨headerV⟩ { arraysV with patterns := [patternV.set 2 (patternV.getD 2 0 + 2 ^ 21)] }) 7 0 ∧ tasks0.rejects (planRecord 9 ⟨headerV⟩ { arraysV with patterns := [patternV.set 2 (patternV.getD 2 0 + 2 ^ 21)] }) = some (7, 0) :=
  ⟨.pattern 0 _ rfl (.inr (by first | decide +kernel | rfl)), by decide +kernel⟩
theorem witness_reason7Indices : Violates tasks2 (planRecord 9 ⟨headerV⟩ arraysV) 7 0 ∧ tasks2.rejects (planRecord 9 ⟨headerV⟩ arraysV) = some (7, 0) :=
  ⟨.indices 0 0 (by first | decide +kernel | rfl) (by first | decide +kernel | rfl), by decide +kernel⟩
theorem witness_reason8 : Violates tasks0 (planRecord 9 ⟨(headerV.set 0 (headerV.getD 0 0))⟩ { arraysV with arbors := [[2 ^ 32 + 2]] }) 8 0 ∧ tasks0.rejects (planRecord 9 ⟨(headerV.set 0 (headerV.getD 0 0))⟩ { arraysV with arbors := [[2 ^ 32 + 2]] }) = some (8, 0) :=
  ⟨.arbor 0 _ rfl (by first | decide +kernel | rfl), by decide +kernel⟩
theorem witness_reason9 : Violates tasks0 (planRecord 9 ⟨headerV⟩ { arraysV with images := [[0, 1, 0, 0]] }) 9 0 ∧ tasks0.rejects (planRecord 9 ⟨headerV⟩ { arraysV with images := [[0, 1, 0, 0]] }) = some (9, 0) :=
  ⟨.image 0 _ rfl (by first | decide +kernel | rfl), by decide +kernel⟩
theorem witness_reason10 : Violates tasks0 (planRecord 9 ⟨headerV⟩ { arraysV with feeds := [[4]] }) 10 0 ∧ tasks0.rejects (planRecord 9 ⟨headerV⟩ { arraysV with feeds := [[4]] }) = some (10, 0) :=
  ⟨.feed 0 _ rfl (.inr (by first | decide +kernel | rfl)), by decide +kernel⟩
theorem witness_reason11 : Violates tasks0 (planRecord 9 ⟨(headerV.set 4 (2 ^ 12))⟩ arraysV) 11 0 ∧ tasks0.rejects (planRecord 9 ⟨(headerV.set 4 (2 ^ 12))⟩ arraysV) = some (11, 0) :=
  ⟨.plans (.inr (by first | decide +kernel | rfl)), by decide +kernel⟩

theorem witness_first : FirstViolation tasks0 (planRecord 9 ⟨headerV.set 5 1⟩ arraysV) 1 0 := by
  refine ⟨witness_reason1Gang.1, fun x y h => ?_⟩
  cases h <;> first | exact .inl (by decide) | exact .inr ⟨rfl, Nat.zero_le _⟩

/-- The record of one stage and nothing else passes every check. -/
def plain : Record := planRecord 9 ⟨headerW⟩ { stages := [stageW 1] }

theorem index_one {α : Type} {x y : α} {i : Nat} (h : [x][i]? = some y) : i = 0 ∧ x = y := by
  cases i with
  | zero => exact ⟨rfl, Option.some.inj h⟩
  | succ n => exact nomatch h

theorem index_none {α : Type} {y : α} {i : Nat} (h : ([] : List α)[i]? = some y) : False := nomatch h

theorem witness_noViolation : ∀ k i, ¬ Violates tasks0 plain k i := by
  intro k i h
  cases h with
  | header h => exact absurd h (by decide +kernel)
  | segments i d h b => obtain ⟨rfl, rfl⟩ := index_one (show [stageEntry (stageW 1)][i]? = _ from h); exact absurd b (by decide +kernel)
  | team i e h b => obtain ⟨rfl, rfl⟩ := index_one (show [stageW 1][i]? = _ from h); exact absurd b (by decide +kernel)
  | shares i d h b => obtain ⟨rfl, rfl⟩ := index_one (show [stageEntry (stageW 1)][i]? = _ from h); exact absurd b (by decide +kernel)
  | cores i v d hd b =>
    obtain ⟨hl, hb, -⟩ := b
    have hi : i = 0 := Nat.lt_one_iff.mp hl
    subst hi
    have hs : (coresAt plain v d).take 1 = [if bit 1 d = true ∧ 0 = v then 1 else 0] := rfl
    rw [hs, List.sum_singleton] at hb
    split at hb <;> omega
  | pipe i e h b => exact index_none (show ([] : List (List Nat))[i]? = _ from h)
  | resident i k b => exact absurd (show i < 0 from b.1) (Nat.not_lt_zero i)
  | quota h => exact absurd h (by decide +kernel)
  | port i e x h => exact index_none (show ([] : List (List Nat))[i]? = _ from h)
  | depths i d hd b => exact absurd (show i < 0 from b.1) (Nat.not_lt_zero i)
  | pattern i e h b => exact index_none (show ([] : List (List Nat))[i]? = _ from h)
  | indices i d hd b => exact absurd (show i < 0 from b.1) (Nat.not_lt_zero i)
  | arbor i x h b => exact index_none (show ([] : List ArborEntry)[i]? = _ from h)
  | image i e h b => exact index_none (show ([] : List (List Nat))[i]? = _ from h)
  | feed i x h b => exact index_none (show ([] : List (Nat × Nat))[i]? = _ from h)
  | plans h => exact absurd h (by decide +kernel)

end Sys2Proof.Tests.WitnessPlans
end

