-- ==== Sys2Proof/Tests/WitnessRest.lean ====
section
/-!
SUPPORT. Witnesses: for the statements on decoding, arithmetic, traps and the bytes of memory, for each clause values that
meet its premises, at the ends of its ranges.
-/

namespace Sys2Proof.Tests.WitnessRest

open Sys2Proof.Machine Sys2Proof.Rules
open Sys2Proof.Tests.WitnessAccess (acc0 okScalar cp0)
open Sys2Proof.Tests.WitnessPrefix (cpTarget bodyAt)

set_option Elab.async false

/-! The step and decoding. -/

/-- A control processor that runs, with w where it fetches next, and its turn to issue. -/
def turn (w : Word) (n : Nat) : State :=
  let s := cpTarget w n
  { s.setReg 16 .cp 1 with
    tape := [.issue 90128 []], groups := [(90128, { mode := .control, pc := 4, repcnt := n })], power := true }
/-- It holds the word it is at. -/
def atWord (w : Word) (n : Nat) : State := let s := turn 0 n; s.setGroup 90128 { s.group 90128 with word := some w }

/-- s takes the turn of a group that its pipe chooses, u the state it issues in and v that which holds w. -/
def Chosen (s u : State) (w : Word) (v : State) : Prop := ∃ gid held rest, s.tape = .issue gid held :: rest ∧ u = { s with tape := rest }
  ∧ u.choosable gid held = true ∧ (u.die (dieOfGid gid)).off = false ∧ Holds (u.chosen gid held) gid w v

theorem chosen_turn {s : State} {w : Word} (hs : s.tape = [.issue 90128 []])
    (h : ({ s with tape := [] } : State).choosable 90128 [] = true)
    (ho : (({ s with tape := [] } : State).die (dieOfGid 90128)).off = false)
    (hn : (({ s with tape := [] } : State).chosen 90128 []).group 90128 |>.word.isNone)
    (hw : (({ s with tape := [] } : State).chosen 90128 []).fetchWord 90128
      ((({ s with tape := [] } : State).chosen 90128 []).group 90128).pc = .ok w) : ∃ u v, Chosen s u w v :=
  ⟨_, _, _, _, _, hs, rfl, h, ho, .fetched _ (Option.isNone_iff_eq_none.1 hn) hw rfl⟩

theorem witness_step : (∃ u v, Chosen (turn 0xC0000000 0) u 0xC0000000 v) ∧ decode 0xC0000000 = .ok (.nop true)
    ∧ ((turn 0xC0000000 0).group 90128).repcnt = 0 :=
  ⟨chosen_turn (by decide +kernel) (by decide +kernel) (by decide +kernel) (by decide +kernel) (okOf (by decide +kernel)), okOf (by decide +kernel), by decide +kernel⟩

theorem witness_stepHeld : (∃ u v, Chosen (atWord 0xC0000000 0) u 0xC0000000 v) ∧ decode 0xC0000000 = .ok (.nop true)
    ∧ ((atWord 0xC0000000 0).group 90128).repcnt = 0 :=
  ⟨⟨_, _, 90128, [], [], by decide +kernel, rfl, by decide +kernel, by decide +kernel, .held (by decide +kernel)⟩, okOf (by decide +kernel), by decide +kernel⟩

theorem witness_stepRep : (∃ u v, Chosen (turn 0x961D4000 7) u 0x961D4000 v) ∧ decode 0x961D4000 = .ok (.rep 7 1 1 0)
    ∧ ((turn 0x961D4000 7).group 90128).repcnt = 7 :=
  ⟨chosen_turn (by decide +kernel) (by decide +kernel) (by decide +kernel) (by decide +kernel) (okOf (by decide +kernel)), okOf (by decide +kernel), by decide +kernel⟩

theorem witness_stepUnit : ∃ s u rest, (s : State).tape = .event (.retryHintExpiry 0) :: rest ∧ u = { s with tape := rest }
    ∧ encode (.retryHintExpiry 0) = none ∧ u.powered (.event (.retryHintExpiry 0)) = true :=
  ⟨{ tape := [.event (.retryHintExpiry 0)] }, _, [], rfl, rfl, by decide +kernel, by decide +kernel⟩

/-- Die 15 is off: neither a group of its last core nor a unit of it has a turn. -/
def dark : State := { dies := [(15, { off := true })] }
theorem witness_stepUnpowered : dark.powered (.issue 90111 []) = false ∧ dark.powered (.event (.storePerformed 84480)) = false
    ∧ dark.powered (.event (.storePerformed 84479)) = true := by decide +kernel

theorem witness_fetchFault : ∃ rest u t, (turn 0 0).tape = .issue 90128 [] :: rest ∧ u = ({ turn 0 0 with
      tape := rest, groups := [(90128, { mode := .control, pc := 2 ^ 18 + 2 ^ 15 })] } : State)
    ∧ u.choosable 90128 [] = true ∧ (u.die (dieOfGid 90128)).off = false ∧ (u.group 90128).word = none
    ∧ (u.chosen 90128 []).fetchWord 90128 (u.group 90128).pc = .error t :=
  ⟨_, _, { kind := 5, fetch := true, offset := 2 ^ 18 + 2 ^ 15 }, rfl, rfl, by decide +kernel, by decide +kernel, rfl, errOf (by decide +kernel)⟩

theorem witness_illegalWord : (∃ u v, Chosen (turn 0xBFFFFFFF 0) u 0xBFFFFFFF v) ∧ ∃ e, decode 0xBFFFFFFF = .error e :=
  ⟨chosen_turn (by decide +kernel) (by decide +kernel) (by decide +kernel) (by decide +kernel) (okOf (by decide +kernel)), .unassignedMajor, errOf (by decide +kernel)⟩

theorem witness_decodes : decode 0x30501920 = .ok (.vld false 40 6 2 .b4 0) := okOf (by decide +kernel)

/-! The scalar set. -/

theorem witness_scalar : (∃ f, ScalarTable (.sadd true 127 2 3) true 127 f) ∧ (∃ f, ScalarSelect (.scsel true 0 2 3) true 0 f)
    ∧ (∃ f, ScalarImmediate (.saddi true 10 2 1023) true 10 f) ∧ (∃ f, MaskTable (.mand true 126 2 3) true 126 f) ∧ Issuing acc0 :=
  ⟨⟨_, .sadd _ _ _ _⟩, ⟨_, .scsel _ _ _ _⟩, ⟨_, .saddi _ _ _ _⟩, ⟨_, .mand _ _ _ _⟩, rfl⟩

theorem witness_jump : Issuing acc0 ∧ (acc0.me.getS (2 : Reg).toNat).toNat % 4 = 0 ∧ (acc0.me.getS (4 : Reg).toNat).toNat % 4 ≠ 0 :=
  ⟨rfl, by decide +kernel, by decide +kernel⟩

theorem witness_branch : (∃ t f, Branch (.bz true 9 0xFFFF) true t f ∧ t acc0.me = true) ∧ (∃ t f, Branch (.bnz true 9 0x10000) true t f
    ∧ t acc0.me = false) ∧ Issuing acc0 :=
  ⟨⟨_, _, .bz _ _ _, by decide +kernel⟩, ⟨_, _, .bnz _ _ _, by decide +kernel⟩, rfl⟩

/-! The lane set. -/

theorem witness_laneArithmetic : ((∃ f, LaneTable (.vadd true 7 2 3) true [7, 2, 3] 7 f) ∧ LaneReady acc0 [7, 2, 3])
    ∧ ((∃ f, LaneMove (.vsel true 4 2 126) true [4, 2] 4 f) ∧ LaneReady acc0 [4, 2])
    ∧ ((∃ f, LaneClass (.vfclassF32 true 4 2) true [4, 2] 4 f) ∧ LaneReady acc0 [4, 2]) :=
  ⟨⟨⟨_, .vadd _ _ _ _⟩, rfl, by decide, by decide +kernel⟩, ⟨⟨_, .vsel _ _ _ _⟩, rfl, by decide, by decide +kernel⟩,
    ⟨_, .vfclassF32 _ _ _⟩, rfl, by decide, by decide +kernel⟩

theorem witness_laneFaults : (LaneInstr (.vadd true 8 2 3) [8, 2, 3] ∧ Issuing acc0 ∧ ∃ r ∈ [(8 : Reg), 2, 3], acc0.me.budget ≤ r.toNat)
    ∧ (LaneInstr (.vmov true 4 2) [4, 2] ∧ Issuing (cp0 0 0) ∧ (cp0 0 0).me.mode = .control) :=
  ⟨⟨.table _ _ _ _ _ (.vadd _ _ _ _), rfl, 8, List.mem_cons_self, by decide +kernel⟩, .move _ _ _ _ _ (.vmov _ _ _), rfl, rfl⟩

/-- The same of the memory and matrix classes, each naming a register at the budget of 8. -/
theorem witness_laneFaultsMemory : LaneInstr (.vld true 7 2 1 .b8 0) [2, 7, 8] ∧ LaneInstr (.vst true 5 2 1 .b16 0) [2, 5, 6, 7, 8]
    ∧ LaneInstr (.vatomCas true 6 2 1 .b8) [2, 6, 7, 8, 9] ∧ LaneInstr (.vredAdd true 8 2 1 .b4) [2, 8]
    ∧ LaneInstr (.vqblkE4m3 true 8 2) [8, 2] ∧ LaneInstr (.vpopa true 8) [8] ∧ acc0.me.budget = 8 :=
  ⟨.load _ _ _ _ _ _ _ _ (.vld _ _ _ _ _ _), .store _ _ _ _ _ _, .atomic _ _ _ _ _ _ _ _ (.vatomCas _ _ _ _ _),
    .atomic _ _ _ _ _ _ _ _ (.vredAdd _ _ _ _ _), .quantise _ _ _ _ _ (.vqblkE4m3 _ _ _), .pop _ _, by decide +kernel⟩

theorem witness_laneFloats : (∃ f, LaneFloat (.vfmaF32 true 4 2 3) true [4, 2, 3] 4 f) ∧ LaneReady acc0 [4, 2, 3] :=
  ⟨⟨_, .vfmaF32 _ _ _ _⟩, rfl, by decide, by decide +kernel⟩

theorem witness_stochastic : StochasticConvert (.vcvtSatSr true 7 2 18) true 7 2 18 true ∧ LaneReady acc0 [7, 2] :=
  ⟨.vcvtSatSr _ _ _ _, rfl, by decide, by decide +kernel⟩

theorem witness_floatCompare : ((∃ f, FloatCompare (.vfcmpEqF32 true 126 2 3) true [2, 3] 126 false f) ∧ LaneReady acc0 [2, 3])
    ∧ (∃ f, FloatCompare (.vfcmpEqF16x2 true 126 2 3) true [2, 3] 126 true f) :=
  ⟨⟨⟨_, .vfcmpEqF32 _ _ _ _⟩, rfl, by decide, by decide +kernel⟩, _, .vfcmpEqF16x2 _ _ _ _⟩

theorem witness_laneMasks : ((∃ f, LaneCompare (.vcmpEq true 126 2 3) true [2, 3] 126 f) ∧ LaneReady acc0 [2, 3])
    ∧ (∃ f, Vote (.voteAny true 10 2 127) true [2] 10 f) ∧ LaneReady acc0 [2] :=
  ⟨⟨⟨_, .vcmpEq _ _ _ _⟩, rfl, by decide, by decide +kernel⟩, ⟨_, .voteAny _ _ _ _⟩, rfl, by decide, by decide +kernel⟩

/-- 31 results are outstanding: the last that leave room for another. -/
def full : State := acc0.setMe { acc0.me with out := List.replicate 31 { pc := 0, result := true } }
theorem full_room : HasRoom full := by unfold HasRoom; decide +kernel

theorem witness_variableLatency : ((∃ f, SpecialFunction (.vrcp true 7 2) true [7, 2] 7 f) ∧ LaneReady full [7, 2] ∧ HasRoom full)
    ∧ ((∃ f, Shuffle (.vshflIdx true 7 2 3) true [7, 2, 3] 7 f) ∧ LaneReady full [7, 2, 3]) ∧ LaneReady full [7] :=
  ⟨⟨⟨_, .vrcp _ _ _⟩, ⟨rfl, by decide, by decide +kernel⟩, full_room⟩, ⟨⟨_, .vshflIdx _ _ _ _⟩, rfl, by decide, by decide +kernel⟩,
    rfl, by decide, by decide +kernel⟩

theorem witness_combine : Combine (.vlredAddI32 true 7 2) true 7 2 false .add ∧ Combine (.vscanAddI32 true 7 2) true 7 2 true .add
    ∧ LaneReady full [7, 2] ∧ HasRoom full :=
  ⟨.vlredAddI32 _ _ _, .vscanAddI32 _ _ _, ⟨rfl, by decide, by decide +kernel⟩, full_room⟩

theorem witness_sums : RedOp.isInt .add = true ∧ acc0.me.xm ≠ 0 ∧ acc0.me.xm.getLsbD 63 = true := by decide +kernel

/-- The same of a matrix team. -/
def matrix : State := { full with tasks := [(full.me.task, { full.myTask with tiles := 1 })] }
theorem witness_quantise : (Quantise (.vqblkE2m1x true 7 2) true 7 2 0 ∧ LaneReady matrix [7, 2] ∧ HasRoom matrix ∧ 0 < matrix.myTask.tiles)
    ∧ Issuing acc0 ∧ acc0.myTask.tiles = 0 :=
  ⟨⟨.vqblkE2m1x _ _ _, ⟨rfl, by decide, by decide +kernel⟩, by unfold HasRoom; decide +kernel, by decide +kernel⟩, rfl, by decide +kernel⟩

/-! Float arithmetic: the greatest and the least operands, and every special case. -/

theorem witness_computes : (∃ x one z, Computes fmtF32 ⟨0, false⟩ 0x7F7FFFFF 0x7F7FFFFF 0x80000001 .fma x one z)
    ∧ (∀ y ∈ readsOf .fma 0x7F7FFFFF 0x7F7FFFFF 0x80000001, IsFinite fmtF32 y) ∧ fmtF32 ∈ laneFormats :=
  ⟨⟨_, _, _, .fma⟩, by unfold IsFinite; decide +kernel, by decide +kernel⟩

theorem witness_quotient : IsFinite fmtF32 (0x7F7FFFFF : Word).toNat ∧ IsFinite fmtF32 (0x80000001 : Word).toNat
    ∧ units fmtF32 false (0x80000001 : Word).toNat ≠ 0 := by unfold IsFinite; decide +kernel

/-- Every code of a conversion from FP32, and one at each end of those to it; the types of pairs. -/
theorem witness_conversions : (0, 0) ∈ codesFrom ∧ (7, 7) ∈ codesFrom ∧ (5, 3) ∈ codesFrom ∧ (4, 7) ∈ codesFrom ∧ (0, 0) ∈ codesInto
    ∧ (7, 7) ∈ codesInto ∧ (6, 1) ∈ codesInto ∧ (6, 2) ∉ codesInto ∧ PairType .f16x2 fmtF16 ∧ PairType .bf16x2 fmtBF16 :=
  ⟨by decide, by decide, by decide, by decide, by decide, by decide, by decide, by decide, .f16, .bf16⟩

/-- The least and the greatest operand of a root. -/
theorem witness_roots : (IsFinite fmtF32 1 ∧ units fmtF32 false 1 = 1) ∧ IsFinite fmtF32 0x7F7FFFFF ∧ 0 < units fmtF32 true 0x7F7FFFFF := by
  unfold IsFinite; decide +kernel

/-- Exact operands of the special functions: -149 and 127, 2^-149 and 2^127, and quarter turns of every kind. -/
theorem witness_exact : (units fmtF32 false 0xC3150000 = -149 * 2 ^ 149 ∧ units fmtF32 true 0x42FE0000 = 127 * 2 ^ 149)
    ∧ (units fmtF32 false 1 = 2 ^ 0 ∧ units fmtF32 true 0x7F000000 = 2 ^ 276)
    ∧ (units fmtF32 true 0x80000000 = 0 * 2 ^ 147 ∧ units fmtF32 true 0xBE800000 = -1 * 2 ^ 147 ∧ units fmtF32 false 0x3F000000 = 2 * 2 ^ 147)
    ∧ QuarterTurns 0 true .sin 0x80000000 ∧ QuarterTurns (-1) true .sin 0xBF800000 ∧ QuarterTurns 1 false .sin 0x3F800000
    ∧ QuarterTurns 2 false .cos 0xBF800000 ∧ QuarterTurns (-1) true .cos 0 ∧ QuarterTurns 0 true .cos 0x3F800000 :=
  ⟨by decide +kernel, by decide +kernel, by decide +kernel, .sinZero rfl, .sinMinusOne rfl, .sinOne rfl, .cosMinusOne rfl, .cosZero rfl,
    .cosOne rfl⟩

/-- A quiet and a signalling NaN, infinities that cancel, one that stays, and zero by infinity. -/
theorem witness_special : Special fmtF32 false 0x7FC00000 0 0 .add (fmtF32.nanCode, {})
    ∧ Special fmtF32 false 0 0x7F800000 0x7F800001 .fma (fmtF32.nanCode, { nv := true })
    ∧ Special fmtF32 false 0x7F800000 0xFF800000 0 .add (fmtF32.nanCode, { nv := true })
    ∧ Special fmtF32 true 0x7F800000 0xBF800000 0 .mul (withSign fmtF32 true fmtF32.infCode, {}) ∧ CodeOf fmtF32 0xFF800000 :=
  ⟨.nan 0x7FC00000 false rfl (by decide +kernel) (by unfold IsNan; decide +kernel)
      ⟨nofun, fun h => h.elim (fun ⟨z, hz, hs⟩ => absurd hs (by revert z; unfold IsSig IsNan; decide +kernel)) (fun h => nomatch h.1)⟩,
    .product rfl (by unfold BadProduct IsInf IsFinite; decide +kernel),
    .cancel (by unfold IsNan; decide +kernel) nofun (.addRight (by unfold IsInf; decide +kernel)) (.addLeft (by unfold IsInf; decide +kernel)),
    .infinite true (by unfold IsNan; decide +kernel) (fun _ => by unfold BadProduct IsInf IsFinite; decide +kernel)
      (.mul (.inl (by unfold IsInf; decide +kernel))) (fun h => nomatch h), by unfold CodeOf; decide +kernel⟩

theorem witness_specialFunctions : SpecialValue .log2 0x80000001 0x7FC00000 { nv := true } ∧ SpecialValue .sin 0x4A800000 0 {}
    ∧ SpecialQuotient false 0x00000001 0x80000000 (withSign fmtF32 true fmtF32.infCode, { dz := true })
    ∧ SpecialQuotient true 0x00000001 0x80000000 (fmtF32.nanCode, { nv := true })
    ∧ IsNan fmtF32 (0x7F800001 : Word).toNat :=
  ⟨.negative _ _ (.inr (.inr rfl)) (by decide) (by decide), .sinLarge false 0x4A800000 (by decide) (by decide),
    .byZero (by unfold IsFinite; decide +kernel) (by unfold IsFinite; decide +kernel) (by decide +kernel) (by decide +kernel),
    .zeros (by unfold IsFinite; decide +kernel) (by unfold IsFinite; decide +kernel) (by decide +kernel) (by decide +kernel),
    by unfold IsNan; decide +kernel⟩

/-- A term of finite factors, and sums with each special case. -/
theorem witness_sums16 : FiniteTerm (-260) (.fin true 3 (-149), .fin false 1 (-100)) ∧ IsFinite fmtF32 0xFF7FFFFF
    ∧ SpecialSum 0 [(.nan false, .fin false 0 0)] 0x7FC00000 ∧ SpecialSum 0x7F800000 [(.inf true, .fin false 1 0)] 0x7FC00000
    ∧ SpecialSum 0 [(.inf true, .fin false 0 0)] 0x7FC00000
    ∧ SpecialSum 0 [(.inf true, .fin true 1 0), (.fin false 5 0, .fin true 0 0)] (withSign fmtF32 false 0x7F800000) := by
  refine ⟨⟨_, _, _, _, _, _, rfl, by decide⟩, by unfold IsFinite; decide +kernel, .nan (.inr ⟨_, List.mem_cons_self, false, .inl rfl⟩),
    .both fun s => ?_, .product _ List.mem_cons_self ⟨_, _, _, .inl rfl⟩, .infinite false (by unfold IsNan; decide +kernel) ?_ (.inr ?_) ?_⟩
  · cases s
    · exact .inl ⟨by unfold IsInf; decide +kernel, by decide +kernel⟩
    · exact .inr ⟨_, List.mem_cons_self, rfl⟩
  · intro p hp
    simp only [List.mem_cons, List.not_mem_nil, or_false] at hp
    rcases hp with rfl | rfl
    · exact ⟨fun s => by cases s <;> exact ⟨nofun, nofun⟩, fun ⟨_, _, _, h⟩ => by rcases h with h | h <;> cases h⟩
    · exact ⟨fun s => by cases s <;> exact ⟨nofun, nofun⟩, fun ⟨_, _, _, h⟩ => by rcases h with h | h <;> cases h⟩
  · exact ⟨_, List.mem_cons_self, rfl⟩
  · unfold IsInf; decide +kernel

theorem witness_blocks : (∀ c ∈ List.replicate 31 0 ++ [0x7F7FFFFF], IsFinite fmtF32 c) ∧ ∃ c ∈ [0x7F800000, 0], ¬ IsFinite fmtF32 c := by
  unfold IsFinite; decide +kernel

/-! Memory. -/

theorem witness_pieces : ∃ ps, 0 < 8 ∧ acc0.checkAccess 0 (acc0.asker acc0.me) 1 (segOf acc0 1) { r := true } (some 0) 4088 8 = .ok ps :=
  ⟨_, by decide, okScalar (by decide +kernel)⟩

theorem witness_canonical : ∃ s : State, Memory.wf s.mem = true ∧ ∃ t, step s = .next t :=
  ⟨{ mem := [⟨0, 7⟩, ⟨9, 1⟩], tape := [] }, by decide +kernel, _, rfl⟩

/-- Group 0 with a store of two bytes at the end of its die's scratchpad of core 0. -/
def storing : State := { groups := [(0, { task := 1, out := [{ pc := 0, todo := [.store ⟨0, 0, scratchAddr 0 0, 2, 0, 0⟩ [1, 2]] }] })] }

theorem witness_store : ∃ pre post p q bs, NextAccess storing 0 pre post p (.store q bs) [] ∧ storing.addrLost q.addr = false
    ∧ isHost q.addr = false ∧ storing.edgeDenied (storing.askerAt 0) q.key q.addr = false :=
  ⟨[], [], _, _, _, ⟨rfl, rfl, nofun, rfl, by decide +kernel, by decide +kernel, by decide +kernel⟩, by decide +kernel, by decide +kernel, by decide +kernel⟩

/-- A peer and the module hold one key under id 0. -/
def shared : State := let k := List.replicate 64 1; { acc0 with keys := [(keyTable (peerAddr 5 0) * 8192, k), (63 * 8192, k)] }

theorem witness_readAfterWrite : (isHost (scratchAddr 0 0) = false ∧ acc0.edgeDenied {} 0 (scratchAddr 0 0) = false
      ∧ keyTable (scratchAddr 0 0) = 63 ∧ shared.keys.get? (63 * 8192) = some (List.replicate 64 1))
    ∧ isHost (peerAddr 5 0) = false ∧ shared.edgeDenied {} 0 (peerAddr 5 0) = false ∧ keyTable (peerAddr 5 0) ≠ 63
    ∧ shared.keyTag 63 0 = shared.keyTag (keyTable (peerAddr 5 0)) 0
    ∧ shared.keys.get? (keyTable (peerAddr 5 0) * 8192) = some (List.replicate 64 1) := by decide +kernel

theorem witness_refusedAccess : (isPav (pavAddr 0 0) = true ∧ acc0.edgeDenied { tenant := 3 } 0 (pavAddr 0 0) = true)
    ∧ isPav (pavAddr 3 5) = true ∧ acc0.edgeDenied {} 8191 (pavAddr 3 5) = true := by decide +kernel

/-! Traps. -/

/-- A group of slot 0 of core 1 with an access and a result outstanding, in user mode, with traps enabled. -/
def group1 : Group :=
  { budget := 8, plan := 1, task := 1, pc := 64, s := [(0, 11), (1, 22), (2, 33), (3, 44), (4, 55)], repcnt := 5
    out := [{ pc := 60, todo := [.store ⟨0, 0, 4096, 4, 0, 0⟩ [1, 2, 3, 4]] }, { pc := 56, result := true, writes := [.s 5 99] }] }
def trapped (f : Group → Group) : State :=
  { groups := [(32, f group1)], cur := 32, cycle := 2 ^ 16, trapVec := 0x1230, trapBase := 3 * 2 ^ 20 + 1, keys := [(63 * 8192, [1])]
    tasks := [(1, { plan := 1, stage := 0, die := 0, running := true, groups := [32], live := [32] })] }

/-- Its frame's memory is served, and its task goes on. -/
theorem enters {s : State} (h : s.groupEnds 32 = false) (hc : s.canEnter 32 = true) : Enters s (s.drainGroup 32) 32 :=
  ⟨by decide, h, hc, rfl⟩

/-- The group g waits as w says; nothing else of it is outstanding. -/
def trappedIn (w : Wait) : State := trapped fun g => { g with wait := some w, out := [] }

/-- A `rep` word. -/
def arwPrefix : Word := 0x961D4000

theorem witness_trapEntry : ∃ d, Enters (trapped id) d 32 ∧ Enabled d ∧ ((trapped id).group 32).mode = .user
    ∧ (d.group 32).mode = .user ∧ ({ kind := 5 } : TrapInfo).late = false
    ∧ Interrupts { kind := 5 } (d.group 32).wait { kind := 5 } :=
  ⟨_, enters (by decide +kernel) (by decide +kernel), ⟨by decide +kernel, by decide +kernel⟩, by decide +kernel, by decide +kernel, rfl, .plain _ (.inl (by decide +kernel))⟩

/-- The same where a trap comes inside each wait of a `bar.arw` and of a `sendw`. -/
def InterruptsIn (w : Wait) : Prop :=
  ∃ d x, Enters (trappedIn w) d 32 ∧ Enabled d ∧ (d.group 32).mode = .user ∧ Interrupts { kind := 5 } (d.group 32).wait x ∧ x.wait ≠ 0

theorem interruptsIn {w : Wait} {x : TrapInfo} (h : (trappedIn w).groupEnds 32 = false) (hc : (trappedIn w).canEnter 32 = true)
    (he : Enabled ((trappedIn w).drainGroup 32)) (hm : (((trappedIn w).drainGroup 32).group 32).mode = .user)
    (hw : (((trappedIn w).drainGroup 32).group 32).wait = some w) (hx : Interrupts { kind := 5 } (some w) x) (hn : x.wait ≠ 0) :
    InterruptsIn w := ⟨_, x, enters h hc, he, hm, hw ▸ hx, hn⟩

theorem witness_trapInWait : InterruptsIn (.barrier (scratchAddr 1 0) 65535 true 1 0) ∧ InterruptsIn (.woken none 0 none (some 7))
    ∧ InterruptsIn (.ticket 6 8) ∧ InterruptsIn (.remoteTicket 3 6 8) :=
  ⟨interruptsIn (by decide +kernel) (by decide +kernel) ⟨by decide +kernel, by decide +kernel⟩ (by decide +kernel) (by decide +kernel)
      (.barrier _ _ _ _) nofun,
    interruptsIn (by decide +kernel) (by decide +kernel) ⟨by decide +kernel, by decide +kernel⟩ (by decide +kernel) (by decide +kernel)
      (.woken _ _ _ _) nofun,
    interruptsIn (by decide +kernel) (by decide +kernel) ⟨by decide +kernel, by decide +kernel⟩ (by decide +kernel) (by decide +kernel)
      (.ticket _ _) nofun,
    interruptsIn (by decide +kernel) (by decide +kernel) ⟨by decide +kernel, by decide +kernel⟩ (by decide +kernel) (by decide +kernel)
      (.remote _ _ _) nofun⟩

/-- The words of a record: of a plain instruction, of a prefix with its target, of neither, and of a prefix whose target cannot be
fetched. -/
theorem witness_words : WordsOf ((trapped fun g => { g with word := some 0xC0000000 })) 32 false 0xC0000000
    ∧ WordsOf (trapped fun g => { g with word := some arwPrefix, target := some 0x41 }) 32 false (arwPrefix.toNat * 2 ^ 32 + 0x41)
    ∧ WordsOf (trapped id) 32 true 0 ∧ WordsOf (trapped fun g => { g with word := some arwPrefix }) 32 true (arwPrefix.toNat * 2 ^ 32) := by
  refine ⟨.plain ?_, .prefixed ?_, .unfetched rfl, .target _ (by decide +kernel) (by unfold Prefix; decide) rfl⟩
  · unfold Prefix; decide +kernel
  · unfold Prefix; decide +kernel

theorem witness_doubleFault : ∃ s u d e, s = trapped (fun g => { g with mode := .supervisor }) ∧ u = { trapped id with trapBase := 3 * 2 ^ 20 }
    ∧ (Enters s d 32 ∧ (s.group 32).mode ≠ .control ∧ (d.group 32).mode = .supervisor ∧ Interrupts { kind := 5 } (d.group 32).wait { kind := 5 }
      ∧ d.trapBase.getLsbD 0 = true)
    ∧ Enters u e 32 ∧ (u.group 32).mode ≠ .control ∧ ¬ Enabled e ∧ Interrupts { kind := 5 } (e.group 32).wait { kind := 5 }
    ∧ e.trapBase.getLsbD 0 = false :=
  ⟨_, _, _, _, rfl, rfl, ⟨enters (by decide +kernel) (by decide +kernel), by decide +kernel, by decide +kernel,
      .plain _ (.inl (by decide +kernel)), by decide +kernel⟩,
    enters (by decide +kernel) (by decide +kernel), by decide +kernel, by unfold Enabled; decide +kernel, .plain _ (.inl (by decide +kernel)),
    by decide +kernel⟩

/-- What the two clauses of `trap` and `brk` ask of the state u that takes the trap. -/
def Breaks (s u d : State) : Prop := s = trapped (fun g => { g with pc := 2 ^ 56 - 4 }) ∧ Issuing s ∧ s.me.mode = .user
    ∧ s.me.wait = none ∧ Enters u d s.cur ∧ Enabled d ∧ (d.group s.cur).mode = .user

theorem witness_trap : ∃ s u d, u = s.setMe { s.me with instret := (s.me.instret + 1) % 2 ^ 64 } ∧ Breaks s u d :=
  ⟨_, _, _, rfl, rfl, rfl, by decide +kernel, by decide +kernel, enters (by decide +kernel) (by decide +kernel),
    ⟨by decide +kernel, by decide +kernel⟩, by decide +kernel⟩

theorem witness_brk : ∃ s d, Breaks s s d :=
  ⟨_, _, rfl, rfl, by decide +kernel, by decide +kernel, enters (by decide +kernel) (by decide +kernel),
    ⟨by decide +kernel, by decide +kernel⟩, by decide +kernel⟩

/-- Group 0 in its handler: its frame says to resume at 64 with n repetitions left, inside the wait w with VALUE v, and the
word there is x; its registers s0 to s3 are 11, 22, 0 and 44. -/
def framed (n w v : Nat) (x : Word) (bar : Nat) : State :=
  let s := { acc0 with trapVec := 0x1230, trapBase := 3 * 2 ^ 20 + 1, tickets := [(7, .consumed 0 3 4)], nextTicket := 8 }
  let s1 := s.setMe { s.me with mode := .supervisor, s := [(6, 5 + 2 ^ 32 * 9), (7, 2 ^ 23 + 5)] }
  let s2 := (s1.writePiece {} (leafKey 207) (s1.place 207 64) (leBytes 4 x.toNat)).writeNum (scratchAddr 0 256) 8 bar
  s2.writePiece {} 0 (s2.frameAddr 0) (([64, 60, n * 2 ^ 24 + w * 2 ^ 32, 0, 0, v * 2 ^ 32, 0, 0, 11, 22, 0, 44] : List Nat).flatMap (leBytes 8))
def arw : Word := 0xF7404100
def sendwAt : Word := 0xF6214308

/-- The group of u with s0 to s3 from its frame, in user mode; the state that a return from u restores. -/
def backMe (u : State) (n : Nat) : Group :=
  { u.me with mode := .user, repcnt := n, s := (((u.me.s.putD 0 0 (BitVec.ofNat 64 (frameDword u 8))).putD 0 1 (BitVec.ofNat 64 (frameDword u 9))).putD 0 2
      (BitVec.ofNat 64 (frameDword u 10))).putD 0 3 (BitVec.ofNat 64 (frameDword u 11)) }
def back (u : State) (n : Nat) : State := (frameReached u).setMe (backMe u n)

theorem back_me (u : State) (n : Nat) : (back u n).me = backMe u n := State.me_setMe ..

theorem backMe_getS (u : State) (n r : Nat) : (backMe u n).getS r =
    if r = 3 then BitVec.ofNat 64 (frameDword u 11) else if r = 2 then BitVec.ofNat 64 (frameDword u 10)
    else if r = 1 then BitVec.ofNat 64 (frameDword u 9) else if r = 0 then BitVec.ofNat 64 (frameDword u 8) else u.me.getS r := by
  show Map.getD _ r 0 = _
  simp only [backMe, Map.getD_putD]
  rfl

theorem back_restored (u : State) (n : Nat) : Restored u (back u n) n where
  restored r hr := by
    rw [back_me, backMe_getS]
    match r with
    | 0 | 1 | 2 | 3 => rfl
  scalars r hr := by
    rw [back_me, backMe_getS, if_neg (by omega), if_neg (by omega), if_neg (by omega), if_neg (by omega)]
  kept := ⟨_, rfl, by rw [back_me]; rfl⟩
  others := by rw [back_me]; rfl

/-- What the statement on returns asks, of a wait and a ticket where there is one. -/
def Returns (s : State) (n wait value : Nat) (word : Word) : Prop :=
  ∃ u v w, Supervisor s u ∧ isCp s.cur = false ∧ sReg u 9 = 0 ∧ GoodFrame u 64 n wait value word.toNat ∧ Restored u (back u n) n
    ∧ Inside (back u n) word.toNat value (if n = 0 then wait else 0) v w

/-- A frame that says so, at the start of the handler. -/
theorem returns {n wait value bar : Nat} {word : Word} {v : State} {w : Option Wait}
    (h : Supervisor (framed n wait value word bar) ((framed n wait value word bar).performAll 0))
    (hc : isCp (framed n wait value word bar).cur = false)
    (hs : sReg ((framed n wait value word bar).performAll 0) 9 = 0)
    (hg : GoodFrame ((framed n wait value word bar).performAll 0) 64 n wait value word.toNat)
    (hi : Inside (back ((framed n wait value word bar).performAll 0) n) word.toNat value (if n = 0 then wait else 0) v w) :
    Returns (framed n wait value word bar) n wait value word :=
  ⟨_, v, w, h, hc, hs, hg, back_restored _ _, hi⟩

theorem witness_return : Returns (framed 64 0 0 0xFFFFFFFF (0)) 64 0 0 0xFFFFFFFF :=
  returns ⟨by unfold Issuing; decide +kernel, by decide +kernel, by decide +kernel, rfl⟩ (by decide +kernel) (by decide +kernel)
    ⟨by decide +kernel, by decide +kernel, by decide +kernel, by decide +kernel, by decide +kernel, by decide +kernel, by decide +kernel, by decide +kernel, .inl rfl⟩
    (.plain)
theorem witness_returnRepetition : Returns (framed 1 1 2 arw (0)) 1 1 2 arw :=
  returns ⟨by unfold Issuing; decide +kernel, by decide +kernel, by decide +kernel, rfl⟩ (by decide +kernel) (by decide +kernel)
    ⟨by decide +kernel, by decide +kernel, by decide +kernel, by decide +kernel, by decide +kernel, by decide +kernel, by decide +kernel, by decide +kernel, .inr (.inl ⟨rfl, true, 1, 2, by decide +kernel⟩)⟩
    (.plain)
theorem witness_returnWaits : Returns (framed 0 1 2 arw (2 * 2 ^ 32 + 2 * 2 ^ 16)) 0 1 2 arw :=
  returns ⟨by unfold Issuing; decide +kernel, by decide +kernel, by decide +kernel, rfl⟩ (by decide +kernel) (by decide +kernel)
    ⟨by decide +kernel, by decide +kernel, by decide +kernel, by decide +kernel, by decide +kernel, by decide +kernel, by decide +kernel, by decide +kernel, .inr (.inl ⟨rfl, true, 1, 2, by decide +kernel⟩)⟩
    (.waits true 1 2 _ (by decide +kernel) (by decide +kernel) rfl (by decide +kernel) (by decide +kernel))
theorem witness_returnPassed : Returns (framed 0 1 2 arw (3 * 2 ^ 32 + 2 * 2 ^ 16)) 0 1 2 arw :=
  returns ⟨by unfold Issuing; decide +kernel, by decide +kernel, by decide +kernel, rfl⟩ (by decide +kernel) (by decide +kernel)
    ⟨by decide +kernel, by decide +kernel, by decide +kernel, by decide +kernel, by decide +kernel, by decide +kernel, by decide +kernel, by decide +kernel, .inr (.inl ⟨rfl, true, 1, 2, by decide +kernel⟩)⟩
    (.passed true 1 2 _ (by decide +kernel) (by decide +kernel) rfl (by decide +kernel) (by decide +kernel))
theorem witness_returnBadWord : Returns (framed 0 1 2 arw (2 ^ 48)) 0 1 2 arw :=
  returns ⟨by unfold Issuing; decide +kernel, by decide +kernel, by decide +kernel, rfl⟩ (by decide +kernel) (by decide +kernel)
    ⟨by decide +kernel, by decide +kernel, by decide +kernel, by decide +kernel, by decide +kernel, by decide +kernel, by decide +kernel, by decide +kernel, .inr (.inl ⟨rfl, true, 1, 2, by decide +kernel⟩)⟩
    (.badWord true 1 2 _ 1 (by decide +kernel) (by decide +kernel) rfl (by decide +kernel))
theorem witness_returnElsewhere : Returns (framed 0 1 2 0xF7408100 0) 0 1 2 0xF7408100 :=
  returns ⟨by unfold Issuing; decide +kernel, by decide +kernel, by decide +kernel, rfl⟩ (by decide +kernel) (by decide +kernel)
    ⟨by decide +kernel, by decide +kernel, by decide +kernel, by decide +kernel, by decide +kernel, by decide +kernel, by decide +kernel, by decide +kernel, .inr (.inl ⟨rfl, true, 2, 2, by decide +kernel⟩)⟩
    (.elsewhere true 2 2 (by decide +kernel) (by decide +kernel))
theorem witness_returnRemote : Returns (framed 0 2 7 0xF6214388 0) 0 2 7 0xF6214388 :=
  returns ⟨by unfold Issuing; decide +kernel, by decide +kernel, by decide +kernel, rfl⟩ (by decide +kernel) (by decide +kernel)
    ⟨by decide +kernel, by decide +kernel, by decide +kernel, by decide +kernel, by decide +kernel, by decide +kernel, by decide +kernel, by decide +kernel, .inr (.inr ⟨rfl, true, 5, 7, 8, by decide +kernel⟩)⟩
    (.remote true 5 7 8 (by decide +kernel) (by decide +kernel))
theorem witness_returnTicket : Returns (framed 0 2 7 sendwAt (0)) 0 2 7 sendwAt :=
  returns ⟨by unfold Issuing; decide +kernel, by decide +kernel, by decide +kernel, rfl⟩ (by decide +kernel) (by decide +kernel)
    ⟨by decide +kernel, by decide +kernel, by decide +kernel, by decide +kernel, by decide +kernel, by decide +kernel, by decide +kernel, by decide +kernel, .inr (.inr ⟨rfl, true, 5, 6, 8, by decide +kernel⟩)⟩
    (.ticket true 5 6 8 (.consumed 0 3 4) (by decide +kernel) (by decide +kernel) (by decide +kernel) (.inr (.inl ⟨_, _, rfl⟩)))
theorem witness_returnLost : Returns (framed 0 2 6 sendwAt (0)) 0 2 6 sendwAt :=
  returns ⟨by unfold Issuing; decide +kernel, by decide +kernel, by decide +kernel, rfl⟩ (by decide +kernel) (by decide +kernel)
    ⟨by decide +kernel, by decide +kernel, by decide +kernel, by decide +kernel, by decide +kernel, by decide +kernel, by decide +kernel, by decide +kernel, .inr (.inr ⟨rfl, true, 5, 6, 8, by decide +kernel⟩)⟩
    (.lost true 5 6 8 (by decide +kernel) (by decide +kernel) (by decide +kernel))

/-- What the three clauses on traps that no instruction raises have in common. -/
def Between (s d : State) : Prop :=
  Enters s d 32 ∧ Issuing { s with cur := 32 } ∧ Enabled d ∧ (s.group 32).mode = .user
    ∧ (s.group 32).due = none ∧ (d.group 32).mode = .user
    ∧ Plainly (s.group 32).wait ∧ 32 ∉ (s.die (dieOfGid 32)).doubleFaults ∧ (s.group 32).halted = false

theorem witness_lateTrap : ∃ s d e rest, s = trapped (fun g => { g with late := [{ pc := 40, kind := 8, unknown := false, rep := 0, off := 64 }, { pc := 44, kind := 9, unknown := true, rep := 2, no := 1 }] }) ∧ Between s d
    ∧ (s.group 32).stepDue = false ∧ (s.group 32).late ≠ [] ∧ (d.group 32).late = e :: rest :=
  ⟨_, _, _, _, rfl, ⟨enters (by decide +kernel) (by decide +kernel), rfl, ⟨by decide +kernel, by decide +kernel⟩, by decide +kernel, by decide +kernel, by decide +kernel, .inl (by decide +kernel),
    by decide +kernel, by decide +kernel⟩, by decide +kernel, by decide +kernel, rfl⟩

theorem witness_stepTrap : ∃ s d, s = trapped (fun g => { g with stepDue := true, wait := some (.tokens 3) }) ∧ Between s d
    ∧ (s.group 32).stepDue = true :=
  ⟨_, _, rfl, ⟨enters (by decide +kernel) (by decide +kernel), rfl, ⟨by decide +kernel, by decide +kernel⟩, by decide +kernel, by decide +kernel, by decide +kernel,
    .inr (.inr (.inr (.inl ⟨3, by decide +kernel⟩))), by decide +kernel, by decide +kernel⟩, by decide +kernel⟩

theorem witness_stepTimeout : ∃ s d, s = trapped (fun g => { g with stepArmed := true, wait := some .room, stepSince := 1 }) ∧ Between s d
    ∧ (s.group 32).stepArmed = true ∧ (s.group 32).wait ≠ none ∧ (s.group 32).stepSince ≠ 0 ∧ (s.group 32).stepSince + 65535 ≤ s.cycle :=
  ⟨_, _, rfl, ⟨enters (by decide +kernel) (by decide +kernel), rfl, ⟨by decide +kernel, by decide +kernel⟩, by decide +kernel, by decide +kernel, by decide +kernel,
    .inr (.inr (.inl (by decide +kernel))), by decide +kernel, by decide +kernel⟩, by decide +kernel⟩

theorem witness_denied : assigned 0x045 = false ∧ assigned 0xFFF = false ∧ (assigned 0x006 = true ∧ mayRead 0x006 acc0.me.mode = false)
    ∧ assigned 0x040 = true ∧ mayWrite 0x040 acc0.me.mode = false ∧ Issuing acc0 := by
  unfold Issuing; decide +kernel

theorem witness_supervisorOnly : SupervisorOnly (.tlbsync true) ∧ Issuing acc0 ∧ acc0.me.mode = .user := ⟨.tlbsync _, rfl, by decide +kernel⟩

/-- Pipe 63 of plan 1 with two consumers, consumer 1 selected. -/
def piped : State :=
  { groups := [(0, { plan := 1, task := 1, s := [(2, 63 + 256)] })], tasks := [(1, { plan := 1, stage := 0, die := 0, running := true, groups := [0], live := [0] })]
    pipes := [(127, { fmt := 0, rows := 1, cols := 16, producer := 0, consumers := [0, 0], depth := 2, resident := 1, cl := [0, 0], ret := [[], []] })] }

theorem witness_pquery : ∃ u v p, Issuing piped ∧ Settles piped u ∧ piped.me.mode ≠ .control ∧ Selects u 2 63 1 p ∧ Reaches u v p
    ∧ 1 < p.consumers.length :=
  ⟨_, _, _, rfl, ⟨by decide +kernel, rfl⟩, by decide +kernel, ⟨by decide, by decide, by decide +kernel, rfl, by decide +kernel⟩,
    ⟨by decide +kernel, rfl⟩, by decide +kernel⟩

/-! Writes that have waiters examined. -/

/-- Group 32 waits at the barrier word or object at the start of core 0's scratchpad. -/
def waiting (w : Wait) : State := { groups := [(32, { task := 1, wait := some w })] }

/-- A write of bs at offset k of it. -/
def Written (w : Wait) (k : Nat) (bs : List Byte) (t : State) : Prop := t = (waiting w).writeTagged (scratchAddr 0 k) bs 0

/-- The write of PHASE's last byte moves the phase; that of a byte before it leaves it. -/
theorem witness_barrierWrite : ∃ t u, Written (.barrier (scratchAddr 0 0) 0 true 1 0) 5 [1] t ∧ Reaches16 (scratchAddr 0 5) 1 (scratchAddr 0 0)
    ∧ ReadableBarrier t (scratchAddr 0 0) ∧ phaseOf t (scratchAddr 0 0) ≠ 0
    ∧ Written (.barrier (scratchAddr 0 0) 0 false 1 0) 0 [7, 0, 9, 0] u ∧ Reaches16 (scratchAddr 0 0) 4 (scratchAddr 0 0)
    ∧ ReadableBarrier u (scratchAddr 0 0) ∧ phaseOf u (scratchAddr 0 0) = 0 :=
  ⟨_, _, rfl, by unfold Reaches16; decide +kernel, ⟨by decide +kernel, by decide +kernel, by decide +kernel⟩, by decide +kernel,
    rfl, by unfold Reaches16; decide +kernel, ⟨by decide +kernel, by decide +kernel, by decide +kernel⟩, by decide +kernel⟩

/-- FAULT set, COUNT zero, and COUNT the largest and the least that is not. -/
theorem witness_objectWrite : ∃ t u v w, Written (.object (scratchAddr 0 0) 5 1 0) 4 [1] t ∧ Reaches8 (scratchAddr 0 4) 1 (scratchAddr 0 0)
    ∧ ReadableObject t (scratchAddr 0 0) ∧ 2 ^ 32 ≤ t.num (scratchAddr 0 0) 8
    ∧ Written (.object (scratchAddr 0 0) 5 1 0) 0 [0] u ∧ Reaches8 (scratchAddr 0 0) 1 (scratchAddr 0 0)
    ∧ ReadableObject u (scratchAddr 0 0) ∧ u.num (scratchAddr 0 0) 8 = 0
    ∧ Written (.object (scratchAddr 0 0) 5 1 0) 0 [255, 255, 255, 255] v ∧ Reaches8 (scratchAddr 0 0) 4 (scratchAddr 0 0)
    ∧ ReadableObject v (scratchAddr 0 0) ∧ v.num (scratchAddr 0 0) 8 = 2 ^ 32 - 1
    ∧ Written (.object (scratchAddr 0 0) 5 1 0) 0 [1] w ∧ ReadableObject w (scratchAddr 0 0) ∧ w.num (scratchAddr 0 0) 8 = 1 :=
  ⟨_, _, _, _, rfl, by unfold Reaches8; decide +kernel, ⟨by decide +kernel, by decide +kernel⟩, by decide +kernel,
    rfl, by unfold Reaches8; decide +kernel, ⟨by decide +kernel, by decide +kernel⟩, by decide +kernel,
    rfl, by unfold Reaches8; decide +kernel, ⟨by decide +kernel, by decide +kernel⟩, by decide +kernel,
    rfl, ⟨by decide +kernel, by decide +kernel⟩, by decide +kernel⟩

/-- The greatest header and payload that a flit holds. -/
theorem witness_header : ∃ (h : FlitHeader) (payload : List Byte), HeaderFits h ∧ payload.length = 52 :=
  ⟨⟨2 ^ 12 - 1, 3, 2 ^ 12 - 1, true, 3, 2 ^ 12 - 1⟩, List.replicate 52 255, by unfold HeaderFits; decide, rfl⟩

end Sys2Proof.Tests.WitnessRest
end

