-- ==== Sys2Proof/Tests/WitnessSystem.lean ====
section
/-!
SUPPORT. Witnesses: a small state for every system register read and written, and for every step of the key, measurement and attestation engines.
-/

namespace Sys2Proof.Tests.WitnessSystem

open Sys2Proof.Machine Sys2Proof.Rules

set_option Elab.async false

/-- Group 0 with its source register 2 at v, in a mode; or the control processor of link die 0. -/
def sys0 (mode : Mode) (v : Nat) : State :=
  { groups := [(0, { mode := mode, budget := 8, task := 1, s := [(2, BitVec.ofNat 64 v)] })]
    tasks := [(1, { plan := 1, stage := 0, die := 0, running := true, groups := [0], live := [0] })] }
def cp0 (v : Nat) : State := { groups := [(90128, { mode := .control, s := [(2, BitVec.ofNat 64 v)] })], cur := 90128 }

/-- What the statement on reads says of a read. -/
def ReadsSys (i : Instr) (s t : State) : Prop :=
  ∃ m r d n v, i = .sysr m r d ∧ r.toNat = n ∧ Issuing s ∧ mayRead n s.me.mode = true ∧ (isCounter n = true → HasRoom s)
    ∧ SysValue s n v ∧ t = if isCounter n then finished s m (s.me.pc + 4) (sResult s d v) else done m (withS s d v)

/-- What the statement on writes says of a write. -/
def WritesSys (i : Instr) (s t : State) : Prop :=
  ∃ m a n v u x, Writer i m a n ∧ Issuing s ∧ mayWrite n s.me.mode = true ∧ (n < 8 → u = s) ∧ (8 ≤ n → Settles s u)
    ∧ sReg s a = v ∧ SysWrite u n v x ∧ t = done m x

theorem witness_read_fpctl : ∃ t, ReadsSys (.sysr true 0 5) (sys0 .user 0) t := ⟨_, ⟨true, 0, 5, 0, _, rfl, (by first | decide +kernel | rfl), (by first | decide +kernel | rfl), (by first | decide +kernel | rfl), (fun _ => (by unfold HasRoom; decide +kernel)), .fpctl, rfl⟩⟩
theorem witness_read_srseed : ∃ t, ReadsSys (.sysr true 1 5) (sys0 .user 0) t := ⟨_, ⟨true, 1, 5, 1, _, rfl, (by first | decide +kernel | rfl), (by first | decide +kernel | rfl), (by first | decide +kernel | rfl), (fun _ => (by unfold HasRoom; decide +kernel)), .srseed, rfl⟩⟩
theorem witness_read_tags0 : ∃ t, ReadsSys (.sysr true 2 5) (sys0 .user 0) t := ⟨_, ⟨true, 2, 5, 2, _, rfl, (by first | decide +kernel | rfl), (by first | decide +kernel | rfl), (by first | decide +kernel | rfl), (fun _ => (by unfold HasRoom; decide +kernel)), .tags0, rfl⟩⟩
theorem witness_read_tags1 : ∃ t, ReadsSys (.sysr true 3 5) (sys0 .user 0) t := ⟨_, ⟨true, 3, 5, 3, _, rfl, (by first | decide +kernel | rfl), (by first | decide +kernel | rfl), (by first | decide +kernel | rfl), (fun _ => (by unfold HasRoom; decide +kernel)), .tags1, rfl⟩⟩
theorem witness_read_matrixCmds : ∃ t, ReadsSys (.sysr true 4 5) (sys0 .user 0) t := ⟨_, ⟨true, 4, 5, 4, _, rfl, (by first | decide +kernel | rfl), (by first | decide +kernel | rfl), (by first | decide +kernel | rfl), (fun _ => (by unfold HasRoom; decide +kernel)), (.matrixCmds { plan := 1, stage := 0, die := 0, running := true, groups := [0], live := [0] } (by first | decide +kernel | rfl)), rfl⟩⟩
theorem witness_read_instret : ∃ t, ReadsSys (.sysr true 5 5) (sys0 .user 0) t := ⟨_, ⟨true, 5, 5, 5, _, rfl, (by first | decide +kernel | rfl), (by first | decide +kernel | rfl), (by first | decide +kernel | rfl), (fun _ => (by unfold HasRoom; decide +kernel)), .instret, rfl⟩⟩
theorem witness_read_ptRoot : ∃ t, ReadsSys (.sysr true 6 5) (sys0 .supervisor 0) t := ⟨_, ⟨true, 6, 5, 6, _, rfl, (by first | decide +kernel | rfl), (by first | decide +kernel | rfl), (by first | decide +kernel | rfl), (fun _ => (by unfold HasRoom; decide +kernel)), .ptRoot, rfl⟩⟩
theorem witness_read_debug : ∃ t, ReadsSys (.sysr true 7 5) (sys0 .supervisor 0) t := ⟨_, ⟨true, 7, 5, 7, _, rfl, (by first | decide +kernel | rfl), (by first | decide +kernel | rfl), (by first | decide +kernel | rfl), (fun _ => (by unfold HasRoom; decide +kernel)), .debug, rfl⟩⟩
theorem witness_read_groupWidth : ∃ t, ReadsSys (.sysr true 64 5) (sys0 .user 0) t := ⟨_, ⟨true, 64, 5, 64, _, rfl, (by first | decide +kernel | rfl), (by first | decide +kernel | rfl), (by first | decide +kernel | rfl), (fun _ => (by unfold HasRoom; decide +kernel)), .groupWidth, rfl⟩⟩
theorem witness_read_location : ∃ t, ReadsSys (.sysr true 65 5) (cp0 0) t := ⟨_, ⟨true, 65, 5, 65, _, rfl, (by first | decide +kernel | rfl), (by first | decide +kernel | rfl), (by first | decide +kernel | rfl), (fun _ => (by unfold HasRoom; decide +kernel)), .location, rfl⟩⟩
theorem witness_read_cycles : ∃ t, ReadsSys (.sysr true 66 5) (sys0 .user 0) t := ⟨_, ⟨true, 66, 5, 66, _, rfl, (by first | decide +kernel | rfl), (by first | decide +kernel | rfl), (by first | decide +kernel | rfl), (fun _ => (by unfold HasRoom; decide +kernel)), .cycles, rfl⟩⟩
theorem witness_read_refresh : ∃ t, ReadsSys (.sysr true 67 5) (sys0 .user 0) t := ⟨_, ⟨true, 67, 5, 67, _, rfl, (by first | decide +kernel | rfl), (by first | decide +kernel | rfl), (by first | decide +kernel | rfl), (fun _ => (by unfold HasRoom; decide +kernel)), .refresh, rfl⟩⟩
theorem witness_read_service : ∃ t, ReadsSys (.sysr true 68 5) (sys0 .user 0) t := ⟨_, ⟨true, 68, 5, 68, _, rfl, (by first | decide +kernel | rfl), (by first | decide +kernel | rfl), (by first | decide +kernel | rfl), (fun _ => (by unfold HasRoom; decide +kernel)), .service, rfl⟩⟩
theorem witness_read_trapVec : ∃ t, ReadsSys (.sysr true 128 5) (sys0 .supervisor 0) t := ⟨_, ⟨true, 128, 5, 128, _, rfl, (by first | decide +kernel | rfl), (by first | decide +kernel | rfl), (by first | decide +kernel | rfl), (fun _ => (by unfold HasRoom; decide +kernel)), .trapVec, rfl⟩⟩
theorem witness_read_trapBase : ∃ t, ReadsSys (.sysr true 129 5) (sys0 .supervisor 0) t := ⟨_, ⟨true, 129, 5, 129, _, rfl, (by first | decide +kernel | rfl), (by first | decide +kernel | rfl), (by first | decide +kernel | rfl), (fun _ => (by unfold HasRoom; decide +kernel)), .trapBase, rfl⟩⟩
theorem witness_read_bulkLimit : ∃ t, ReadsSys (.sysr true 130 5) (sys0 .supervisor 0) t := ⟨_, ⟨true, 130, 5, 130, _, rfl, (by first | decide +kernel | rfl), (by first | decide +kernel | rfl), (by first | decide +kernel | rfl), (fun _ => (by unfold HasRoom; decide +kernel)), .bulkLimit, rfl⟩⟩
theorem witness_read_deadlock : ∃ t, ReadsSys (.sysr true 131 5) (sys0 .supervisor 0) t := ⟨_, ⟨true, 131, 5, 131, _, rfl, (by first | decide +kernel | rfl), (by first | decide +kernel | rfl), (by first | decide +kernel | rfl), (fun _ => (by unfold HasRoom; decide +kernel)), .deadlock, rfl⟩⟩
theorem witness_read_fabLost : ∃ t, ReadsSys (.sysr true 132 5) (sys0 .supervisor 0) t := ⟨_, ⟨true, 132, 5, 132, _, rfl, (by first | decide +kernel | rfl), (by first | decide +kernel | rfl), (by first | decide +kernel | rfl), (fun _ => (by unfold HasRoom; decide +kernel)), .fabLost, rfl⟩⟩
theorem witness_read_devLost0 : ∃ t, ReadsSys (.sysr true 133 5) (sys0 .supervisor 0) t := ⟨_, ⟨true, 133, 5, 133, _, rfl, (by first | decide +kernel | rfl), (by first | decide +kernel | rfl), (by first | decide +kernel | rfl), (fun _ => (by unfold HasRoom; decide +kernel)), .devLost0, rfl⟩⟩
theorem witness_read_devLost1 : ∃ t, ReadsSys (.sysr true 134 5) (sys0 .supervisor 0) t := ⟨_, ⟨true, 134, 5, 134, _, rfl, (by first | decide +kernel | rfl), (by first | decide +kernel | rfl), (by first | decide +kernel | rfl), (fun _ => (by unfold HasRoom; decide +kernel)), .devLost1, rfl⟩⟩
theorem witness_read_quota : ∃ t, ReadsSys (.sysr true 192 5) (cp0 0) t := ⟨_, ⟨true, 192, 5, 192, _, rfl, (by first | decide +kernel | rfl), (by first | decide +kernel | rfl), (by first | decide +kernel | rfl), (fun _ => (by unfold HasRoom; decide +kernel)), .quota, rfl⟩⟩
theorem witness_read_keyCtl : ∃ t, ReadsSys (.sysr true 193 5) (cp0 0) t := ⟨_, ⟨true, 193, 5, 193, _, rfl, (by first | decide +kernel | rfl), (by first | decide +kernel | rfl), (by first | decide +kernel | rfl), (fun _ => (by unfold HasRoom; decide +kernel)), .keyCtl, rfl⟩⟩
theorem witness_read_attest : ∃ t, ReadsSys (.sysr true 194 5) (cp0 0) t := ⟨_, ⟨true, 194, 5, 194, _, rfl, (by first | decide +kernel | rfl), (by first | decide +kernel | rfl), (by first | decide +kernel | rfl), (fun _ => (by unfold HasRoom; decide +kernel)), .attest, rfl⟩⟩
theorem witness_read_measExt : ∃ t, ReadsSys (.sysr true 195 5) (cp0 0) t := ⟨_, ⟨true, 195, 5, 195, _, rfl, (by first | decide +kernel | rfl), (by first | decide +kernel | rfl), (by first | decide +kernel | rfl), (fun _ => (by unfold HasRoom; decide +kernel)), .measExt, rfl⟩⟩
theorem witness_read_meas : ∃ t, ReadsSys (.sysr true 383 5) (sys0 .supervisor 0) t := ⟨_, ⟨true, 383, 5, 383, _, rfl, (by first | decide +kernel | rfl), (by first | decide +kernel | rfl), (by first | decide +kernel | rfl), (fun _ => (by unfold HasRoom; decide +kernel)), (.meas 15 7 (by first | decide +kernel | rfl) (by first | decide +kernel | rfl)), rfl⟩⟩
theorem witness_write_fpctl : ∃ t, WritesSys (.sysw true 0 2) (sys0 .user (7)) t := ⟨_, ⟨true, 2, 0, 7, _, _, .sysw _ _ _, (by first | decide +kernel | rfl), (by first | decide +kernel | rfl), (fun _ => rfl), (fun h => absurd h (by decide)), (by first | decide +kernel | rfl), .fpctl _ (by first | decide +kernel | rfl), rfl⟩⟩
theorem witness_write_srseed : ∃ t, WritesSys (.srseedWrite true 2) (sys0 .user (2 ^ 32 - 1)) t := ⟨_, ⟨true, 2, 1, 2 ^ 32 - 1, _, _, .srseedWrite _ _, (by first | decide +kernel | rfl), (by first | decide +kernel | rfl), (fun _ => rfl), (fun h => absurd h (by decide)), (by first | decide +kernel | rfl), .srseed _ (by first | decide +kernel | rfl), rfl⟩⟩
theorem witness_write_ptRoot : ∃ t, WritesSys (.sysw true 6 2) (sys0 .supervisor (2 ^ 46 - 2 ^ 12)) t := ⟨_, ⟨true, 2, 6, 2 ^ 46 - 2 ^ 12, _, _, .sysw _ _ _, (by first | decide +kernel | rfl), (by first | decide +kernel | rfl), (fun _ => rfl), (fun h => absurd h (by decide)), (by first | decide +kernel | rfl), .ptRoot _ (by first | decide +kernel | rfl) (by first | decide +kernel | rfl), rfl⟩⟩
theorem witness_write_debug : ∃ t, WritesSys (.sysw true 7 2) (sys0 .supervisor (1)) t := ⟨_, ⟨true, 2, 7, 1, _, _, .sysw _ _ _, (by first | decide +kernel | rfl), (by first | decide +kernel | rfl), (fun _ => rfl), (fun h => absurd h (by decide)), (by first | decide +kernel | rfl), .debug true, rfl⟩⟩
theorem witness_write_trapVec : ∃ t, WritesSys (.sysw true 128 2) (cp0 (2 ^ 56 - 4)) t := ⟨_, ⟨true, 2, 128, 2 ^ 56 - 4, _, _, .sysw _ _ _, (by first | decide +kernel | rfl), (by first | decide +kernel | rfl), (fun h => absurd h (by decide)), (fun _ => ⟨(by first | decide +kernel | rfl), rfl⟩), (by first | decide +kernel | rfl), .trapVec _ (by first | decide +kernel | rfl) (by first | decide +kernel | rfl), rfl⟩⟩
theorem witness_write_trapBase : ∃ t, WritesSys (.sysw true 129 2) (sys0 .supervisor (2 ^ 36 - 6 * 2 ^ 20 + 1)) t := ⟨_, ⟨true, 2, 129, 2 ^ 36 - 6 * 2 ^ 20 + 1, _, _, .sysw _ _ _, (by first | decide +kernel | rfl), (by first | decide +kernel | rfl), (fun h => absurd h (by decide)), (fun _ => ⟨(by first | decide +kernel | rfl), rfl⟩), (by first | decide +kernel | rfl), .trapBase _ (by first | decide +kernel | rfl) (by first | decide +kernel | rfl) (by first | decide +kernel | rfl), rfl⟩⟩
theorem witness_write_bulkLimit : ∃ t, WritesSys (.sysw true 130 2) (sys0 .supervisor (1024)) t := ⟨_, ⟨true, 2, 130, 1024, _, _, .sysw _ _ _, (by first | decide +kernel | rfl), (by first | decide +kernel | rfl), (fun h => absurd h (by decide)), (fun _ => ⟨(by first | decide +kernel | rfl), rfl⟩), (by first | decide +kernel | rfl), .bulkLimit _ (by first | decide +kernel | rfl) (by first | decide +kernel | rfl), rfl⟩⟩
theorem witness_write_deadlock : ∃ t, WritesSys (.sysw true 131 2) (sys0 .supervisor (65536)) t := ⟨_, ⟨true, 2, 131, 65536, _, _, .sysw _ _ _, (by first | decide +kernel | rfl), (by first | decide +kernel | rfl), (fun h => absurd h (by decide)), (fun _ => ⟨(by first | decide +kernel | rfl), rfl⟩), (by first | decide +kernel | rfl), .deadlock _ (by first | decide +kernel | rfl) (by first | decide +kernel | rfl), rfl⟩⟩
theorem witness_write_fabLost : ∃ t, WritesSys (.fabLostClear true 2) ({ cp0 (2 ^ 47) with fabLost := BitVec.ofNat 64 (2 ^ 47 + 1) }) t := ⟨_, ⟨true, 2, 132, 2 ^ 47, _, _, .fabLostClear _ _, (by first | decide +kernel | rfl), (by first | decide +kernel | rfl), (fun h => absurd h (by decide)), (fun _ => ⟨(by first | decide +kernel | rfl), rfl⟩), (by first | decide +kernel | rfl), .fabLost _ (by first | decide +kernel | rfl) (by first | decide +kernel | rfl), rfl⟩⟩
theorem witness_write_devLost0 : ∃ t, WritesSys (.devLostClear true false 2) (cp0 (2)) t := ⟨_, ⟨true, 2, 133, 2, _, _, .devLostClear _ false _, (by first | decide +kernel | rfl), (by first | decide +kernel | rfl), (fun h => absurd h (by decide)), (fun _ => ⟨(by first | decide +kernel | rfl), rfl⟩), (by first | decide +kernel | rfl), .devLost0 _ (by first | decide +kernel | rfl) (by first | decide +kernel | rfl), rfl⟩⟩
theorem witness_write_devLost1 : ∃ t, WritesSys (.devLostClear true true 2) (cp0 (2 ^ 63)) t := ⟨_, ⟨true, 2, 134, 2 ^ 63, _, _, .devLostClear _ true _, (by first | decide +kernel | rfl), (by first | decide +kernel | rfl), (fun h => absurd h (by decide)), (fun _ => ⟨(by first | decide +kernel | rfl), rfl⟩), (by first | decide +kernel | rfl), .devLost1 _ (by first | decide +kernel | rfl) (by first | decide +kernel | rfl), rfl⟩⟩
theorem witness_write_quota : ∃ t, WritesSys (.pavQuotaWrite true 2) (cp0 (65535 * 2 ^ 48 + 47 * 2 ^ 42 + 2 ^ 18)) t := ⟨_, ⟨true, 2, 192, 65535 * 2 ^ 48 + 47 * 2 ^ 42 + 2 ^ 18, _, _, .pavQuotaWrite _ _, (by first | decide +kernel | rfl), (by first | decide +kernel | rfl), (fun h => absurd h (by decide)), (fun _ => ⟨(by first | decide +kernel | rfl), rfl⟩), (by first | decide +kernel | rfl), .quota 65535 47 (2 ^ 18) (by first | decide +kernel | rfl) (by first | decide +kernel | rfl) (by first | decide +kernel | rfl) (by first | decide +kernel | rfl), rfl⟩⟩
theorem witness_write_keyNone : ∃ t, WritesSys (.sysw true 193 2) (cp0 (63 * 2 ^ 38 + 64 * 2 ^ 16 + 8191)) t := ⟨_, ⟨true, 2, 193, 63 * 2 ^ 38 + 64 * 2 ^ 16 + 8191, _, _, .sysw _ _ _, (by first | decide +kernel | rfl), (by first | decide +kernel | rfl), (fun h => absurd h (by decide)), (fun _ => ⟨(by first | decide +kernel | rfl), rfl⟩), (by first | decide +kernel | rfl), .keyNone 63 64 8191 (by first | decide +kernel | rfl) (by first | decide +kernel | rfl) (by first | decide +kernel | rfl) (by first | decide +kernel | rfl) (by first | decide +kernel | rfl), rfl⟩⟩
theorem witness_write_keyLoad : ∃ t, WritesSys (.keyLoad true 2) (cp0 (47 * 2 ^ 38 + 1 * 2 ^ 34 + 64 * 2 ^ 16 + 8191)) t := ⟨_, ⟨true, 2, 193, 47 * 2 ^ 38 + 1 * 2 ^ 34 + 64 * 2 ^ 16 + 8191, _, _, .keyLoad _ _, (by first | decide +kernel | rfl), (by first | decide +kernel | rfl), (fun h => absurd h (by decide)), (fun _ => ⟨(by first | decide +kernel | rfl), rfl⟩), (by first | decide +kernel | rfl), .key 47 1 64 8191 (by first | decide +kernel | rfl) (by first | decide +kernel | rfl) (by first | decide +kernel | rfl) (by first | decide +kernel | rfl) (by first | decide +kernel | rfl) (by first | decide +kernel | rfl), rfl⟩⟩
theorem witness_write_keyClear : ∃ t, WritesSys (.keyClear true 2) (cp0 (63 * 2 ^ 38 + 2 * 2 ^ 34 + 0 * 2 ^ 16 + 5)) t := ⟨_, ⟨true, 2, 193, 63 * 2 ^ 38 + 2 * 2 ^ 34 + 0 * 2 ^ 16 + 5, _, _, .keyClear _ _, (by first | decide +kernel | rfl), (by first | decide +kernel | rfl), (fun h => absurd h (by decide)), (fun _ => ⟨(by first | decide +kernel | rfl), rfl⟩), (by first | decide +kernel | rfl), .key 63 2 0 5 (by first | decide +kernel | rfl) (by first | decide +kernel | rfl) (by first | decide +kernel | rfl) (by first | decide +kernel | rfl) (by first | decide +kernel | rfl) (by first | decide +kernel | rfl), rfl⟩⟩
theorem witness_write_attest : ∃ t, WritesSys (.attestStart true 2) (cp0 (2 ^ 22 + 64)) t := ⟨_, ⟨true, 2, 194, 2 ^ 22 + 64, _, _, .attestStart _ _, (by first | decide +kernel | rfl), (by first | decide +kernel | rfl), (fun h => absurd h (by decide)), (fun _ => ⟨(by first | decide +kernel | rfl), rfl⟩), (by first | decide +kernel | rfl), .attest 64 (by first | decide +kernel | rfl) (by first | decide +kernel | rfl), rfl⟩⟩
theorem witness_write_attestIdle : ∃ t, WritesSys (.sysw true 194 2) (cp0 (64)) t := ⟨_, ⟨true, 2, 194, 64, _, _, .sysw _ _ _, (by first | decide +kernel | rfl), (by first | decide +kernel | rfl), (fun h => absurd h (by decide)), (fun _ => ⟨(by first | decide +kernel | rfl), rfl⟩), (by first | decide +kernel | rfl), .attestIdle _ (by first | decide +kernel | rfl) (by first | decide +kernel | rfl), rfl⟩⟩
theorem witness_write_meas : ∃ t, WritesSys (.measExtend true 2) (cp0 (2 ^ 18 * 2 ^ 26 + 0 * 2 ^ 8 + 15)) t := ⟨_, ⟨true, 2, 195, 2 ^ 18 * 2 ^ 26 + 0 * 2 ^ 8 + 15, _, _, .measExtend _ _, (by first | decide +kernel | rfl), (by first | decide +kernel | rfl), (fun h => absurd h (by decide)), (fun _ => ⟨(by first | decide +kernel | rfl), rfl⟩), (by first | decide +kernel | rfl), .meas (2 ^ 18) 0 15 (by first | decide +kernel | rfl) (by first | decide +kernel | rfl) (by first | decide +kernel | rfl) (by first | decide +kernel | rfl) (by first | decide +kernel | rfl), rfl⟩⟩
theorem witness_keyLoad : ∃ t, SystemStep (.keyOpDone) ({ cp0 0 with keyCtl := BitVec.ofNat 64 (63 * 2 ^ 38 + 2 ^ 36 + 1 * 2 ^ 34 + 64 * 2 ^ 16 + 5), busy := [(keyEngine, 16)] } |>.write (sramAddr 16 64) [1, 2, 3]) t := ⟨_, .keyLoad _ 63 5 (sramAddr 16 64) ⟨(by first | decide +kernel | rfl), (by first | decide +kernel | rfl), (by first | decide +kernel | rfl), (by first | decide +kernel | rfl), ⟨16, (by first | decide +kernel | rfl), (by first | decide +kernel | rfl)⟩⟩ (fun h => absurd h (by decide)) (by first | decide +kernel | rfl)⟩
theorem witness_keyFull : ∃ t, SystemStep (.keyOpDone) ({ cp0 0 with keyCtl := BitVec.ofNat 64 (63 * 2 ^ 38 + 2 ^ 36 + 1 * 2 ^ 34 + 64 * 2 ^ 16 + 5), busy := [(keyEngine, 16)], keys := [(63 * 8192 + 5, [1])] }) t := ⟨_, .keyFull _ 63 5 (sramAddr 16 64) ⟨(by first | decide +kernel | rfl), (by first | decide +kernel | rfl), (by first | decide +kernel | rfl), (by first | decide +kernel | rfl), ⟨16, (by first | decide +kernel | rfl), (by first | decide +kernel | rfl)⟩⟩ (fun h => absurd h (by decide)) (by first | decide +kernel | rfl)⟩
theorem witness_keyLost : ∃ t, SystemStep (.keyOpDone) ({ cp0 0 with keyCtl := BitVec.ofNat 64 (5 * 2 ^ 38 + 2 ^ 36 + 2 * 2 ^ 34 + 64 * 2 ^ 16 + 5), busy := [(keyEngine, 16)], fabLost := 32 }) t := ⟨_, .keyLost _ 2 5 5 (sramAddr 16 64) ⟨(by first | decide +kernel | rfl), (by first | decide +kernel | rfl), (by first | decide +kernel | rfl), (by first | decide +kernel | rfl), ⟨16, (by first | decide +kernel | rfl), (by first | decide +kernel | rfl)⟩⟩ (by first | decide +kernel | rfl) (by first | decide +kernel | rfl)⟩
theorem witness_keyClear : ∃ t, SystemStep (.keyOpDone) ({ cp0 0 with keyCtl := BitVec.ofNat 64 (63 * 2 ^ 38 + 2 ^ 36 + 2 * 2 ^ 34 + 64 * 2 ^ 16 + 5), busy := [(keyEngine, 16)], keys := [(63 * 8192 + 5, [1])] }) t := ⟨_, .keyClear _ 63 5 (sramAddr 16 64) ⟨(by first | decide +kernel | rfl), (by first | decide +kernel | rfl), (by first | decide +kernel | rfl), (by first | decide +kernel | rfl), ⟨16, (by first | decide +kernel | rfl), (by first | decide +kernel | rfl)⟩⟩ (fun h => absurd h (by decide)) (by first | decide +kernel | rfl)⟩
theorem witness_keySwitch : ∃ t, SystemStep (.keyOpDone) ({ cp0 0 with keyCtl := BitVec.ofNat 64 (5 * 2 ^ 38 + 2 ^ 36 + 2 * 2 ^ 34 + 64 * 2 ^ 16 + 5), busy := [(keyEngine, 16)], keys := [(5 * 8192 + 5, [1])], uals := [(5, { trained := true, serve := true, flights := [(.key, 0, 133)], txSeq := 1 })] }) t := ⟨_, .keyClear _ 5 5 (sramAddr 16 64) ⟨(by first | decide +kernel | rfl), (by first | decide +kernel | rfl), (by first | decide +kernel | rfl), (by first | decide +kernel | rfl), ⟨16, (by first | decide +kernel | rfl), (by first | decide +kernel | rfl)⟩⟩ (fun _ => ⟨(by first | decide +kernel | rfl), (by first | decide +kernel | rfl)⟩) (by first | decide +kernel | rfl)⟩
theorem witness_meas : ∃ t, SystemStep (.measExtendDone) ({ cp0 0 with measExt := BitVec.ofNat 64 (2 ^ 46 + 3 * 2 ^ 26 + 15), busy := [(measEngine, 16)] }) t := ⟨_, .meas _ 16 (by first | decide +kernel | rfl) (by first | decide +kernel | rfl)⟩
theorem witness_attest : ∃ t, SystemStep (.attestDone 1) ({ cp0 0 with attest := BitVec.ofNat 64 (2 ^ 22 + 64), attestData := List.replicate 66 1 }) t := ⟨_, .attest _ _ (by first | decide +kernel | rfl) (by first | decide +kernel | rfl)⟩
theorem witness_attestFails : ∃ t, SystemStep (.attestDone 0) ({ cp0 0 with attest := BitVec.ofNat 64 (2 ^ 22 + 64), attestData := [1] }) t := ⟨_, .attestFails _ (by first | decide +kernel | rfl)⟩

end Sys2Proof.Tests.WitnessSystem
end

