-- ==== Sys2Proof/Tests/WitnessTasks.lean ====
section
/-!
SUPPORT. Witnesses: for every rule of the task and plan instructions, and every step of the schedulers, a small state in which it applies.
-/

namespace Sys2Proof.Tests.WitnessTasks

open Sys2Proof.Machine Sys2Proof.Rules

set_option Elab.async false

/-- Group 0 runs task 1 of plan 1, on core 0, which holds stage 0 of that plan; stage 1 has cores on die 3. -/
def stage0 : StageDesc := { dieMask := 1, maxS := 1, minS := 1, initS := 1, quantum := 1024, roles := [{ groups := 1 }] }
def stage1 : StageDesc := { stage0 with dieMask := 8 }
def planA : Plan := { state := .running, tenant := 2, stages := [stage0, stage1] }
def task1 : Task := { plan := 1, stage := 0, die := 0, scratchSize := 4096, running := true, groups := [0], live := [0] }
def tasks0 : State :=
  { groups := [(0, { budget := 8, plan := 1, task := 1, segs := [(1, ⟨0, 4096, true, true, false, 1⟩)],
                     s := [(2, 2 ^ 32 * 9), (3, 2 ^ 32 * 9 + 1), (6, 100), (7, 200), (8, 2), (9, 0), (10, 1), (11, 2), (12, 3), (13, 1)] })]
    tasks := [(1, task1)], plans := [(1, planA)], cores := [(0, { stage := some (1, 0), resident := [1] })]
    nextTask := 2, serving := true }

def withPlan2 (p : Plan) : State := (tasks0.setMe { tasks0.me with mode := .supervisor }).setPlan 2 p
def plan2 : Plan := { tenant := 2, stages := [stage0] }
def withCore (c : Core) : State := tasks0.setCore 0 c
def waitingFor (s : State) (w : Wait) : State := s.setMe { s.me with wait := some w }
def queued1 : Task := { plan := 1, stage := 0, die := 0 }

/-- The record of a plan of one stage of one core, with MIN m, at the start of the region. -/
def headerW : List Nat := [2 ^ 32, 2 ^ 49, 0, 0, 0, 0, 0, 0]
def stageW (m : Nat) : List Nat :=
  [0, 0, 0, 0, 0, 0, 0, 0, 0, 0, 0, 0, 0, 0, 0, 0, 0, 2 ^ 48 + 2 ^ 24 + m * 2 ^ 16 + 2 ^ 8, 2 ^ 42, 0, 0, 0, 1, 0, 0, 0, 0, 0, 0, 0, 0, 0]
def recordAt (m : Nat) : State :=
  (tasks0.setMe { tasks0.me with mode := .supervisor }).write (scratchAddr 0 0) ((headerW ++ stageW m).flatMap (leBytes 8))

/-- The same with an image whose source is not mapped. -/
def headerI : List Nat := headerW.set 7 (2 ^ 48)
def imageW : List Nat := [2 ^ 30, 0, 256, 0]
def imageAt : State :=
  (tasks0.setMe { tasks0.me with mode := .supervisor }).write (scratchAddr 0 0) ((headerI ++ stageW 1 ++ imageW).flatMap (leBytes 8))

/-- Plan 2 is a gang plan whose commit word, at the first granule of switch 0, is w. -/
def gangPlan : Plan := { plan2 with gang := true, state := .committing, timeout := 65536 }
def gangAt (w : Nat) : State :=
  ({ waitingFor (withPlan2 gangPlan) (.gang 2 8) with
     tlb := [⟨2816, 0, 0, 463⟩], keys := [(0, [1]), (63 * 8192, [1])], switches := [(0, { allocs := [⟨0, 1, 2⟩] })]
     uals := [(0, { trained := true, everTrained := true, serve := true, lastGood := 9, txSeq := 2, flights := [(.ask 0, 0, 128), (.event 2, 1, 128)] })] }).writePiece { tenant := 2 } 0
    (pavAddr 0 0) (leBytes 8 w)
/-- Port 3 is in service; the notice of device 9 has come in. -/
def heard (s : State) : State := s.setUal 3 { trained := true, everTrained := true, serve := true, lastGood := 9 }
def noticed9 (s : State) : State := (s.noticeFrom 9).getD {}
/-- Stage 1 has a record in the cluster queue of die 0 and no core that takes it; stage 0's only team has run long. -/
def starved : State :=
  { withCore { stage := some (1, 0), resident := [1] } with
    cycle := 2048, tasks := [(1, { task1 with scratchSize := 16 }), (2, { queued1 with stage := 1 })], clusters := [(0, { runq := [2] })]
    dies := [(0, { eff := [(32, 1), (33, 3)] })]
    plans := [(1, { planA with stages := [stage0, stage0] })] }
/-- Cores 0 and 1 are stage 0's and core 2 stage 1's; a pipe from 0 to 1 is full of committed slots. -/
def planR : Plan := { planA with interval := 1024, npipes := 1, stages := [{ stage0 with maxS := 2 }, { stage0 with maxS := 2 }] }
def pressed : State :=
  { tasks0.setPlan 1 planR with
    cycle := 1024, cores := [(0, { stage := some (1, 0), resident := [1] }), (1, { stage := some (1, 0) }), (2, { stage := some (1, 1) })]
    tasks := [(1, task1), (2, { queued1 with stage := 1 })], clusters := [(0, { runq := [2] })]
    pipes := [(64, { producer := 0, consumers := [1], depth := 1, resident := 1, res := 1, tail := 0, cl := [0], ret := [[]]
                     slots := [(0, { st := .committed, cs := [.pending] })] })] }
theorem noMove : NoMove pressed 1 0 planR := by
  intro x hx
  have h : x = 0 ∨ x = 1 := by
    rcases hx with h | h
    · have : x < 2 := h
      omega
    · exact .inl h
  rcases h with rfl | rfl <;> decide +kernel

theorem witness_exit : ∃ t, TaskRule (.exit true) (tasks0) t := ⟨_, .exit _ _ (by first | decide +kernel | rfl) (by first | decide +kernel | rfl) (by first | decide +kernel | rfl)⟩
theorem witness_spawnHere : ∃ t, TaskRule (.spawn true 2 6) (tasks0) t := ⟨_, .spawnHere _ _ _ _ _ 0 planA stage0 (by first | decide +kernel | rfl) ⟨(by first | decide +kernel | rfl), rfl⟩ (by first | decide +kernel | rfl) ⟨(by first | decide +kernel | rfl), ⟨(by first | decide +kernel | rfl), (by first | decide +kernel | rfl), (by first | decide +kernel | rfl)⟩, (by first | decide +kernel | rfl), (by first | decide +kernel | rfl), (by first | decide +kernel | rfl), (by first | decide +kernel | rfl)⟩ ⟨(by first | decide +kernel | rfl), (by first | decide +kernel | rfl)⟩ (by first | decide +kernel | rfl)⟩
theorem witness_spawnOverflows : ∃ t, TaskRule (.spawn true 2 6) (withCore { stage := some (1, 0), resident := [1], runq := List.replicate 16 2 }) t := ⟨_, .spawnOverflows _ _ _ _ _ _ 0 planA stage0 (by first | decide +kernel | rfl) ⟨(by first | decide +kernel | rfl), rfl⟩ (by first | decide +kernel | rfl) ⟨(by first | decide +kernel | rfl), ⟨(by first | decide +kernel | rfl), (by first | decide +kernel | rfl), (by first | decide +kernel | rfl)⟩, (by first | decide +kernel | rfl), (by first | decide +kernel | rfl), (by first | decide +kernel | rfl), (by first | decide +kernel | rfl)⟩ ⟨(by first | decide +kernel | rfl), (by first | decide +kernel | rfl)⟩ (by first | decide +kernel | rfl) (by first | decide +kernel | rfl) rfl⟩
theorem witness_spawnOverflowsFar : ∃ t, TaskRule (.spawn true 2 6) ((withCore { stage := some (1, 0), resident := [1], runq := List.replicate 16 2 }).setCluster 0 { runq := List.replicate 57 2 }) t := ⟨_, .spawnOverflowsFar _ _ _ _ _ _ 0 planA stage0 (by first | decide +kernel | rfl) ⟨(by first | decide +kernel | rfl), rfl⟩ (by first | decide +kernel | rfl) ⟨(by first | decide +kernel | rfl), ⟨(by first | decide +kernel | rfl), (by first | decide +kernel | rfl), (by first | decide +kernel | rfl)⟩, (by first | decide +kernel | rfl), (by first | decide +kernel | rfl), (by first | decide +kernel | rfl), (by first | decide +kernel | rfl)⟩ ⟨(by first | decide +kernel | rfl), (by first | decide +kernel | rfl)⟩ (by first | decide +kernel | rfl) (by first | decide +kernel | rfl) (by first | decide +kernel | rfl) rfl⟩
theorem witness_spawnAway : ∃ t, TaskRule (.spawn true 3 6) (tasks0) t := ⟨_, .spawnAway _ _ _ _ _ 1 planA stage1 (by first | decide +kernel | rfl) ⟨(by first | decide +kernel | rfl), rfl⟩ (by first | decide +kernel | rfl) ⟨(by first | decide +kernel | rfl), ⟨(by first | decide +kernel | rfl), (by first | decide +kernel | rfl), (by first | decide +kernel | rfl)⟩, (by first | decide +kernel | rfl), (by first | decide +kernel | rfl), (by first | decide +kernel | rfl), (by first | decide +kernel | rfl)⟩ (by first | decide +kernel | rfl) (by first | decide +kernel | rfl)⟩
theorem witness_spawnOwnDie : ∃ t, TaskRule (.spawn true 2 6) (withCore { stage := some (1, 0), resident := [1], moving := some 1 }) t := ⟨_, .spawnAway _ _ _ _ _ 0 planA stage0 (by first | decide +kernel | rfl) ⟨(by first | decide +kernel | rfl), rfl⟩ (by first | decide +kernel | rfl) ⟨(by first | decide +kernel | rfl), ⟨(by first | decide +kernel | rfl), (by first | decide +kernel | rfl), (by first | decide +kernel | rfl)⟩, (by first | decide +kernel | rfl), (by first | decide +kernel | rfl), (by first | decide +kernel | rfl), (by first | decide +kernel | rfl)⟩ (by first | decide +kernel | rfl) (by first | decide +kernel | rfl)⟩
theorem witness_spawnWaits : ∃ t, TaskRule (.spawn true 2 6) (((withCore { stage := some (1, 0), resident := [1], runq := List.replicate 16 2 }).setCluster 0 { runq := List.replicate 57 2 }).setDie 0 { runq := [(32, List.replicate 2041 2)] }) t := ⟨_, .spawnWaits _ _ _ _ _ 0 planA stage0 (by first | decide +kernel | rfl) ⟨(by first | decide +kernel | rfl), rfl⟩ (by first | decide +kernel | rfl) ⟨(by first | decide +kernel | rfl), ⟨(by first | decide +kernel | rfl), (by first | decide +kernel | rfl), (by first | decide +kernel | rfl)⟩, (by first | decide +kernel | rfl), (by first | decide +kernel | rfl), (by first | decide +kernel | rfl), (by first | decide +kernel | rfl)⟩ (.inl ⟨⟨(by first | decide +kernel | rfl), (by first | decide +kernel | rfl)⟩, (by first | decide +kernel | rfl), (by first | decide +kernel | rfl), (by first | decide +kernel | rfl)⟩)⟩
theorem witness_spawnAwayWaits : ∃ t, TaskRule (.spawn true 3 6) (tasks0.setDie 3 { runq := [(33, List.replicate 2048 2)] }) t := ⟨_, .spawnWaits _ _ _ _ _ 1 planA stage1 (by first | decide +kernel | rfl) ⟨(by first | decide +kernel | rfl), rfl⟩ (by first | decide +kernel | rfl) ⟨(by first | decide +kernel | rfl), ⟨(by first | decide +kernel | rfl), (by first | decide +kernel | rfl), (by first | decide +kernel | rfl)⟩, (by first | decide +kernel | rfl), (by first | decide +kernel | rfl), (by first | decide +kernel | rfl), (by first | decide +kernel | rfl)⟩ (.inr ⟨(by first | decide +kernel | rfl), (by first | decide +kernel | rfl)⟩)⟩
theorem witness_planLd : ∃ t, TaskRule (.planLd true 8 9 1) (recordAt 1) t := ⟨_, .planLd _ _ ((recordAt 1).performAll 0) ((recordAt 1).performAll 0) ((recordAt 1).performAll 0) _ _ _ _ ⟨headerW⟩ ({ stages := [stageW 1] }) [] (by first | decide +kernel | rfl) (by unfold HasRoom; decide +kernel) ⟨(by first | decide +kernel | rfl), rfl⟩ (by first | decide +kernel | rfl) (by first | decide +kernel | rfl) ⟨(by first | decide +kernel | rfl), ⟨(by first | decide +kernel | rfl), (by first | decide +kernel | rfl)⟩, (by first | decide +kernel | rfl), ⟨(headerW.flatMap (leBytes 8)), [[stageW 1], [], [], [], [], [], []], (recordAt 1).performAll 0, (okOf (by decide +kernel)), (by first | decide +kernel | rfl), (okOf (by decide +kernel)), (by first | decide +kernel | rfl)⟩, (by first | decide +kernel | rfl)⟩ ⟨(by first | decide +kernel | rfl), (by first | decide +kernel | rfl)⟩ (by first | decide +kernel | rfl) (by first | decide +kernel | rfl) (okOf (by decide +kernel)) (okOf (by decide +kernel))⟩
theorem witness_planLdRejects : ∃ t, TaskRule (.planLd true 8 9 1) (recordAt 0) t := ⟨_, .planLdRejects _ _ ((recordAt 0).performAll 0) ((recordAt 0).performAll 0) _ _ _ _ ⟨headerW⟩ ({ stages := [stageW 0] }) 4 0 (by first | decide +kernel | rfl) (by unfold HasRoom; decide +kernel) ⟨(by first | decide +kernel | rfl), rfl⟩ (by first | decide +kernel | rfl) (by first | decide +kernel | rfl) ⟨(by first | decide +kernel | rfl), ⟨(by first | decide +kernel | rfl), (by first | decide +kernel | rfl)⟩, (by first | decide +kernel | rfl), ⟨(headerW.flatMap (leBytes 8)), [[stageW 0], [], [], [], [], [], []], (recordAt 0).performAll 0, (okOf (by decide +kernel)), (by first | decide +kernel | rfl), (okOf (by decide +kernel)), (by first | decide +kernel | rfl)⟩, (by first | decide +kernel | rfl)⟩ ⟨(by first | decide +kernel | rfl), (by first | decide +kernel | rfl)⟩ (by first | decide +kernel | rfl) (by first | decide +kernel | rfl) (okOf (by decide +kernel))⟩
theorem witness_planLdWaits : ∃ t, TaskRule (.planLd true 8 9 1) ({ recordAt 1 with serving := false }) t := ⟨_, .planLdWaits _ _ _ _ _ _ (by first | decide +kernel | rfl) (by unfold HasRoom; decide +kernel) ⟨(by first | decide +kernel | rfl), rfl⟩ (by first | decide +kernel | rfl) (by first | decide +kernel | rfl)⟩
theorem witness_planStart : ∃ t, TaskRule (.planGoStart true 14 8 9) (withPlan2 plan2) t := ⟨_, .start _ _ _ _ _ _ _ 2 plan2 [(1, 0)] (.start _ _ _ _) (by first | decide +kernel | rfl) (by unfold HasRoom; decide +kernel) ⟨(by first | decide +kernel | rfl), rfl⟩ (by first | decide +kernel | rfl) ⟨(by first | decide +kernel | rfl), (by first | decide +kernel | rfl), (by first | decide +kernel | rfl)⟩ (by first | decide +kernel | rfl) (by first | decide +kernel | rfl) (by first | decide +kernel | rfl) (by first | decide +kernel | rfl)⟩
theorem witness_planStartFails : ∃ t, TaskRule (.planGoStart true 14 8 9) (withPlan2 { plan2 with stages := [{ stage0 with initS := 177 }] }) t := ⟨_, .startFails _ _ _ _ _ _ _ 2 { plan2 with stages := [{ stage0 with initS := 177 }] } (.start _ _ _ _) (by first | decide +kernel | rfl) (by unfold HasRoom; decide +kernel) ⟨(by first | decide +kernel | rfl), rfl⟩ (by first | decide +kernel | rfl) ⟨(by first | decide +kernel | rfl), (by first | decide +kernel | rfl), (by first | decide +kernel | rfl)⟩ (by first | decide +kernel | rfl) (by first | decide +kernel | rfl) (by first | decide +kernel | rfl)⟩
theorem witness_planStartGang : ∃ t, TaskRule (.planGoStart true 14 8 9) (withPlan2 { plan2 with gang := true }) t := ⟨_, .startGang _ _ _ _ _ _ _ 2 { plan2 with gang := true } [(1, 0)] (.start _ _ _ _) (by first | decide +kernel | rfl) (by unfold HasRoom; decide +kernel) ⟨(by first | decide +kernel | rfl), rfl⟩ (by first | decide +kernel | rfl) ⟨(by first | decide +kernel | rfl), (by first | decide +kernel | rfl), (by first | decide +kernel | rfl)⟩ (by first | decide +kernel | rfl) (by first | decide +kernel | rfl) (by first | decide +kernel | rfl) (by first | decide +kernel | rfl)⟩
theorem witness_drainFinish : ∃ t, TaskRule (.planGoDrainFinish true 14 13 10) (withPlan2 plan2) t := ⟨_, .drainFinish _ _ _ _ _ _ _ 1 planA (.drainFinish _ _ _ _) (by first | decide +kernel | rfl) (by unfold HasRoom; decide +kernel) ⟨(by first | decide +kernel | rfl), rfl⟩ (by first | decide +kernel | rfl) ⟨(by first | decide +kernel | rfl), (by first | decide +kernel | rfl), (by first | decide +kernel | rfl)⟩ (by first | decide +kernel | rfl) (by first | decide +kernel | rfl)⟩
theorem witness_drainOwn : ∃ t, TaskRule (.planGoDrainDiscard true 14 13 11) (withPlan2 plan2) t := ⟨_, .drainOwn _ _ _ _ _ _ _ 1 planA (.drainDiscard _ _ _ _) (by first | decide +kernel | rfl) (by unfold HasRoom; decide +kernel) ⟨(by first | decide +kernel | rfl), rfl⟩ (by first | decide +kernel | rfl) ⟨(by first | decide +kernel | rfl), (by first | decide +kernel | rfl), (by first | decide +kernel | rfl)⟩ (by first | decide +kernel | rfl) (by first | decide +kernel | rfl) (by first | decide +kernel | rfl)⟩
theorem witness_drainDiscard : ∃ t, TaskRule (.planGoDrainDiscard true 14 8 11) (withPlan2 { plan2 with state := .running }) t := ⟨_, .drainDiscard _ _ _ _ _ _ _ 2 { plan2 with state := .running } (.drainDiscard _ _ _ _) (by first | decide +kernel | rfl) (by unfold HasRoom; decide +kernel) ⟨(by first | decide +kernel | rfl), rfl⟩ (by first | decide +kernel | rfl) ⟨(by first | decide +kernel | rfl), (by first | decide +kernel | rfl), (by first | decide +kernel | rfl)⟩ (by first | decide +kernel | rfl) (by first | decide +kernel | rfl) (by first | decide +kernel | rfl)⟩
theorem witness_planRemove : ∃ t, TaskRule (.planGoRemove true 14 8 12) (withPlan2 plan2) t := ⟨_, .remove _ _ _ _ _ _ _ 2 plan2 (.remove _ _ _ _) (by first | decide +kernel | rfl) (by unfold HasRoom; decide +kernel) ⟨(by first | decide +kernel | rfl), rfl⟩ (by first | decide +kernel | rfl) ⟨(by first | decide +kernel | rfl), (by first | decide +kernel | rfl), (by first | decide +kernel | rfl)⟩ (by first | decide +kernel | rfl) (by first | decide +kernel | rfl)⟩
theorem witness_planWrongState : ∃ t, TaskRule (.planGoRemove true 14 13 12) (withPlan2 plan2) t := ⟨_, .wrongState _ _ _ _ _ _ _ 1 3 planA (.remove _ _ _ _) (by first | decide +kernel | rfl) (by unfold HasRoom; decide +kernel) ⟨(by first | decide +kernel | rfl), rfl⟩ (by first | decide +kernel | rfl) ⟨(by first | decide +kernel | rfl), (by first | decide +kernel | rfl), (by first | decide +kernel | rfl)⟩ (by first | decide +kernel | rfl) (.inr (.inr ⟨(by first | decide +kernel | rfl), .inl (by first | decide +kernel | rfl)⟩))⟩
theorem witness_planStartRunning : ∃ t, TaskRule (.planGoStart true 14 13 9) (withPlan2 plan2) t := ⟨_, .wrongState _ _ _ _ _ _ _ 1 0 planA (.start _ _ _ _) (by first | decide +kernel | rfl) (by unfold HasRoom; decide +kernel) ⟨(by first | decide +kernel | rfl), rfl⟩ (by first | decide +kernel | rfl) ⟨(by first | decide +kernel | rfl), (by first | decide +kernel | rfl), (by first | decide +kernel | rfl)⟩ (by first | decide +kernel | rfl) (.inl ⟨(by first | decide +kernel | rfl), (by first | decide +kernel | rfl)⟩)⟩
theorem witness_planDrainInstalled : ∃ t, TaskRule (.planGoDrainDiscard true 14 8 11) (withPlan2 plan2) t := ⟨_, .wrongState _ _ _ _ _ _ _ 2 2 plan2 (.drainDiscard _ _ _ _) (by first | decide +kernel | rfl) (by unfold HasRoom; decide +kernel) ⟨(by first | decide +kernel | rfl), rfl⟩ (by first | decide +kernel | rfl) ⟨(by first | decide +kernel | rfl), (by first | decide +kernel | rfl), (by first | decide +kernel | rfl)⟩ (by first | decide +kernel | rfl) (.inr (.inl ⟨.inr (by first | decide +kernel | rfl), (by first | decide +kernel | rfl)⟩))⟩
theorem witness_noPlan : ∃ t, TaskRule (.planGoRemove true 14 12 12) (withPlan2 plan2) t := ⟨_, .noPlan _ _ _ _ _ _ _ 3 3 (.remove _ _ _ _) (by first | decide +kernel | rfl) (by unfold HasRoom; decide +kernel) ⟨(by first | decide +kernel | rfl), rfl⟩ (by first | decide +kernel | rfl) ⟨(by first | decide +kernel | rfl), (by first | decide +kernel | rfl), (by first | decide +kernel | rfl)⟩ (by first | decide +kernel | rfl) (by first | decide +kernel | rfl)⟩
theorem witness_planLdImage : ∃ t, TaskRule (.planLd true 8 9 1) (imageAt) t := ⟨_, .planLdImage _ _ (imageAt.performAll 0) (imageAt.performAll 0) (imageAt.performAll 0) _ _ _ _ ⟨headerI⟩ ({ stages := [stageW 1], images := [imageW] }) 0 (by first | decide +kernel | rfl) (by unfold HasRoom; decide +kernel) ⟨(by first | decide +kernel | rfl), rfl⟩ (by first | decide +kernel | rfl) (by first | decide +kernel | rfl) ⟨(by first | decide +kernel | rfl), ⟨(by first | decide +kernel | rfl), (by first | decide +kernel | rfl)⟩, (by first | decide +kernel | rfl), ⟨headerI.flatMap (leBytes 8), [[stageW 1], [], [], [], [], [], [imageW]], (imageAt.performAll 0), (okOf (by decide +kernel)), (by first | decide +kernel | rfl), (okOf (by decide +kernel)), (by first | decide +kernel | rfl)⟩, (by first | decide +kernel | rfl)⟩ ⟨(by first | decide +kernel | rfl), (by first | decide +kernel | rfl)⟩ (by first | decide +kernel | rfl) (by first | decide +kernel | rfl) (errOf (by decide +kernel)) (okOf (by decide +kernel))⟩
theorem witness_planLdArray : ∃ t, TaskRule (.planLd true 8 9 1) (({ recordAt 1 with bad := [(scratchAddr 0 100, 1)] } : State)) t := ⟨_, .planLdArray _ _ (({ recordAt 1 with bad := [(scratchAddr 0 100, 1)] } : State).performAll 0) (({ recordAt 1 with bad := [(scratchAddr 0 100, 1)] } : State).performAll 0) (({ recordAt 1 with bad := [(scratchAddr 0 100, 1)] } : State).performAll 0) _ _ _ _ (headerW.flatMap (leBytes 8)) _ 0 (by first | decide +kernel | rfl) (by unfold HasRoom; decide +kernel) ⟨(by first | decide +kernel | rfl), rfl⟩ (by first | decide +kernel | rfl) (by first | decide +kernel | rfl) (by first | decide +kernel | rfl) (okOf (by decide +kernel)) (by first | decide +kernel | rfl) (by first | decide +kernel | rfl) rfl (by first | decide +kernel | rfl) (by first | decide +kernel | rfl) (errOf (by decide +kernel)) (okOf (by decide +kernel))⟩
theorem witness_planLdHeader : ∃ t, TaskRule (.planLd true 8 9 1) ((recordAt 1).setMe { (recordAt 1).me with segs := [(1, ⟨0, 4096, true, true, false, 2⟩)] }) t := ⟨_, .planLdHeader _ _ (((recordAt 1).setMe { (recordAt 1).me with segs := [(1, ⟨0, 4096, true, true, false, 2⟩)] }).performAll 0) _ _ _ _ 0 (by first | decide +kernel | rfl) (by unfold HasRoom; decide +kernel) ⟨(by first | decide +kernel | rfl), rfl⟩ (by first | decide +kernel | rfl) (by first | decide +kernel | rfl) (by first | decide +kernel | rfl) (by first | decide +kernel | rfl) (by first | decide +kernel | rfl) (errOf (by decide +kernel))⟩
theorem witness_dispatch : ∃ t, TaskStep (.taskDispatch 0) ({ withCore { stage := some (1, 0), runq := [2] } with tasks := [(1, task1), (2, queued1)], groups := [] }) t := ⟨_, .dispatch _ _ 1 0 2 0 [] [0] queued1 planA stage0 ⟨(by first | decide +kernel | rfl), (by first | decide +kernel | rfl), (by first | decide +kernel | rfl), (by first | decide +kernel | rfl)⟩ (by first | decide +kernel | rfl) (by first | decide +kernel | rfl) (by first | decide +kernel | rfl) (by first | decide +kernel | rfl) (by first | decide +kernel | rfl) (by first | decide +kernel | rfl) (by first | decide +kernel | rfl) (.inl (by first | decide +kernel | rfl))⟩
theorem witness_resume : ∃ t, TaskStep (.taskDispatch 0) ({ withCore { stage := some (1, 0), saved := [2] } with tasks := [(2, { queued1 with held := [(0, { pc := 64 })], groups := [0], live := [0] })], groups := [] }) t := ⟨_, .resume _ _ 1 0 2 [] ({ queued1 with held := [(0, { pc := 64 })], groups := [0], live := [0] }) ⟨(by first | decide +kernel | rfl), (by first | decide +kernel | rfl), (by first | decide +kernel | rfl), (by first | decide +kernel | rfl)⟩ (by first | decide +kernel | rfl) (by first | decide +kernel | rfl) (by first | decide +kernel | rfl) (by first | decide +kernel | rfl)⟩
theorem witness_taskStart : ∃ t, TaskStep (.taskStart 1) (tasks0.setTask 1 { task1 with starting := true }) t := ⟨_, .start _ _ { task1 with starting := true } (by first | decide +kernel | rfl) (by first | decide +kernel | rfl) (by first | decide +kernel | rfl) (by first | decide +kernel | rfl) (fun _ h => absurd (show _ ∈ ([] : List Entry) from h) List.not_mem_nil)⟩
theorem witness_taskStartFaults : ∃ t, TaskStep (.taskStart 1) (tasks0.setTask 1 { task1 with starting := true, prefFailed := some (8, 1, 64) }) t := ⟨_, .startFaults _ _ 0 8 1 64 ({ task1 with starting := true, prefFailed := some (8, 1, 64) }) (by first | decide +kernel | rfl) (by first | decide +kernel | rfl) (by first | decide +kernel | rfl) (by first | decide +kernel | rfl) (fun _ h => absurd (show _ ∈ ([] : List Entry) from h) List.not_mem_nil) (by first | decide +kernel | rfl)⟩
theorem witness_exitDrained : ∃ t, TaskStep (.groupExitDrained 0) (waitingFor (tasks0.setTask 1 ({ task1 with groups := [0, 1], live := [0, 1] })) .exitDrain) t := ⟨_, .exit _ _ 1 ({ task1 with groups := [0, 1], live := [0, 1] }) [] ⟨(by first | decide +kernel | rfl), (by first | decide +kernel | rfl), (by first | decide +kernel | rfl), (by first | decide +kernel | rfl), (by first | decide +kernel | rfl)⟩ (by first | decide +kernel | rfl)⟩
theorem witness_exitTask : ∃ t, TaskStep (.groupExitDrained 0) (waitingFor (tasks0) .exitDrain) t := ⟨_, .exitTask _ _ task1 ⟨(by first | decide +kernel | rfl), (by first | decide +kernel | rfl), (by first | decide +kernel | rfl), (by first | decide +kernel | rfl), (by first | decide +kernel | rfl)⟩ (by first | decide +kernel | rfl) (by first | decide +kernel | rfl) (by first | decide +kernel | rfl) (by first | decide +kernel | rfl)⟩
theorem witness_exitLast : ∃ t, TaskStep (.groupExitDrained 0) (waitingFor (tasks0.setTask 1 ({ task1 with cmds := [{ id := 0, op := .mzero, owner := 5, tile := 0 }] })) .exitDrain) t := ⟨_, .exitLast _ _ ({ task1 with cmds := [{ id := 0, op := .mzero, owner := 5, tile := 0 }] }) ⟨(by first | decide +kernel | rfl), (by first | decide +kernel | rfl), (by first | decide +kernel | rfl), (by first | decide +kernel | rfl), (by first | decide +kernel | rfl)⟩ (by first | decide +kernel | rfl) (by first | decide +kernel | rfl)⟩
theorem witness_exitTaskLater : ∃ t, TaskStep (.groupExitDrained 0) ((tasks0.setTask 1 ({ task1 with live := [] })).setGroup 0 { tasks0.group 0 with exited := true }) t := ⟨_, .exitTaskLater _ _ ({ task1 with live := [] }) (by first | decide +kernel | rfl) (by first | decide +kernel | rfl) (by first | decide +kernel | rfl) (by first | decide +kernel | rfl) (by first | decide +kernel | rfl) (by first | decide +kernel | rfl) (by first | decide +kernel | rfl) (by first | decide +kernel | rfl)⟩
theorem witness_overflow : ∃ t, TaskStep (.queueOverflow 0) (waitingFor (withCore { stage := some (1, 0), runq := List.replicate 16 2 }) (.queue 1 0)) t := ⟨_, .overflow _ _ 1 0 0 ((waitingFor (withCore { stage := some (1, 0), runq := List.replicate 16 2 }) (.queue 1 0)).me) (by first | decide +kernel | rfl) (by first | decide +kernel | rfl) (by first | decide +kernel | rfl) (by first | decide +kernel | rfl) (by first | decide +kernel | rfl) (by first | decide +kernel | rfl) (by first | decide +kernel | rfl)⟩
theorem witness_overflowMove : ∃ t, TaskStep (.queueOverflow 0) (withCore { stage := some (1, 0), moving := some 1, runq := [4, 5] }) t := ⟨_, .overflowMove _ _ 1 0 1 (by first | decide +kernel | rfl) (by first | decide +kernel | rfl) (by first | decide +kernel | rfl) (by first | decide +kernel | rfl) (by first | decide +kernel | rfl)⟩
theorem witness_underflow : ∃ t, TaskStep (.queueUnderflow 0) ({ withCore { stage := some (1, 0), runq := [3] } with tasks := [(1, task1), (2, queued1)], clusters := [(0, { runq := [2] })] }) t := ⟨_, .underflow _ _ 1 0 2 [] (by first | decide +kernel | rfl) (by first | decide +kernel | rfl) (by first | decide +kernel | rfl) (by first | decide +kernel | rfl) (by first | decide +kernel | rfl) (by first | decide +kernel | rfl)⟩
theorem witness_recompute : ∃ t, TaskStep (.priorityRecompute 15) (tasks0.setDie 15 { effDue := true }) t := ⟨_, .recompute _ _ (by first | decide +kernel | rfl) (by first | decide +kernel | rfl)⟩
theorem witness_preempt : ∃ t, TaskStep (.preemptTick 0) ({ tasks0 with cycle := 1024 }) t := ⟨_, .preempt _ _ _ ⟨(by first | decide +kernel | rfl), (by first | decide +kernel | rfl), (by first | decide +kernel | rfl)⟩ rfl (noneOf (by decide +kernel))⟩
theorem witness_preempts : ∃ t, TaskStep (.preemptTick 0) (starved) t := ⟨_, .preempts _ (idleReturned starved 0) _ _ (33, 3) (0, 1) ⟨(by first | decide +kernel | rfl), (by first | decide +kernel | rfl), (by first | decide +kernel | rfl)⟩ rfl (by first | decide +kernel | rfl) (by first | decide +kernel | rfl) rfl⟩
theorem witness_lends : ∃ t, TaskStep (.preemptTick 0) ((withCore { stage := some (1, 0), resident := [1], saving := some (1, 1) }).setTask 1 { task1 with scratchSize := 16 }) t := ⟨_, .lends _ _ 0 1 1 (by first | decide +kernel | rfl) (by first | decide +kernel | rfl) (by first | decide +kernel | rfl) (by first | decide +kernel | rfl) (by first | decide +kernel | rfl) (fun _ _ h => absurd h (Nat.not_lt_zero _))⟩
theorem witness_rebalanceIdle : ∃ t, TaskStep (.rebalanceTick 1 5) ({ tasks0.setPlan 1 ({ planA with interval := 1024, stages := [stage0] }) with cycle := 1024 }) t := ⟨_, .rebalanceIdle _ _ _ 1 ({ planA with interval := 1024, stages := [stage0] }) ⟨(by first | decide +kernel | rfl), (by first | decide +kernel | rfl), (by first | decide +kernel | rfl), (by first | decide +kernel | rfl), (by first | decide +kernel | rfl)⟩ (.inr (.inr (.inl (by first | decide +kernel | rfl))))⟩
theorem witness_rebalance : ∃ t, TaskStep (.rebalanceTick 1 0) (pressed) t := ⟨_, .rebalance _ _ _ _ 1 1 0 planR ⟨(by first | decide +kernel | rfl), (by first | decide +kernel | rfl), (by first | decide +kernel | rfl), (by first | decide +kernel | rfl), (by first | decide +kernel | rfl)⟩ (by first | decide +kernel | rfl) noMove (by first | decide +kernel | rfl) (by first | decide +kernel | rfl) (by first | decide +kernel | rfl) (by first | decide +kernel | rfl) rfl⟩
theorem witness_rebalanceMoving : ∃ t, TaskStep (.rebalanceTick 1 0) (pressed.setCore 1 { stage := some (1, 0), moving := some 1 }) t := ⟨_, .rebalanceIdle _ _ _ 1 planR ⟨(by first | decide +kernel | rfl), (by first | decide +kernel | rfl), (by first | decide +kernel | rfl), (by first | decide +kernel | rfl), (by first | decide +kernel | rfl)⟩ (.inr (.inl ⟨0, (by first | decide +kernel | rfl), 1, (by first | decide +kernel | rfl), (by first | decide +kernel | rfl)⟩))⟩
theorem witness_moveLoad : ∃ t, TaskStep (.coreMoveLoad 0 7) (withCore { stage := some (1, 0), moving := some 1 }) t := ⟨_, .moveLoad _ _ _ 1 0 1 (by first | decide +kernel | rfl) (by first | decide +kernel | rfl) (by first | decide +kernel | rfl) (by first | decide +kernel | rfl) (by first | decide +kernel | rfl) (by first | decide +kernel | rfl)⟩
theorem witness_deadlock : ∃ t, TaskStep (.deadlockDetect 1) ({ tasks0.setPlan 1 ({ planA with waitingSince := some 0, drain := 1 }) with cycle := 0x1000000 }) t := ⟨_, .deadlock _ _ 0 ({ planA with waitingSince := some 0, drain := 1 }) (by first | decide +kernel | rfl) (by first | decide +kernel | rfl) (by first | decide +kernel | rfl) (by first | decide +kernel | rfl) (by first | decide +kernel | rfl)⟩
theorem witness_quiescence : ∃ t, TaskStep (.drainQuiescence 2) (withPlan2 { plan2 with state := .draining }) t := ⟨_, .quiescence _ _ { plan2 with state := .draining } (by first | decide +kernel | rfl) (by first | decide +kernel | rfl) (by first | decide +kernel | rfl) (by first | decide +kernel | rfl)⟩
theorem witness_gangStarts : ∃ t, TaskStep (.gangStateObserve 0) (gangAt (2 ^ 16)) t := ⟨_, .gangStarts _ _ _ 2 8 (pavAddr 0 0) 0 (2 ^ 16) gangPlan [(1, 0)] ⟨(by first | decide +kernel | rfl), (by first | decide +kernel | rfl), (by first | decide +kernel | rfl), (okOf (by decide +kernel)), rfl⟩ (by first | decide +kernel | rfl) (by first | decide +kernel | rfl) (by first | decide +kernel | rfl)⟩
theorem witness_gangStartsShort : ∃ t, TaskStep (.gangStateObserve 0) ((gangAt (2 ^ 16)).setPlan 2 { gangPlan with memberGone := true, drain := 2 }) t := ⟨_, .gangStartsShort _ _ _ 2 8 (pavAddr 0 0) 0 (2 ^ 16) { gangPlan with memberGone := true, drain := 2 } [(1, 0)] ⟨(by first | decide +kernel | rfl), (by first | decide +kernel | rfl), (by first | decide +kernel | rfl), (okOf (by decide +kernel)), rfl⟩ (by first | decide +kernel | rfl) (by first | decide +kernel | rfl) (by first | decide +kernel | rfl)⟩
theorem witness_gangFaults : ∃ t, TaskStep (.gangStateObserve 0) (gangAt (2 ^ 18)) t := ⟨_, .gangFaults _ _ _ 2 8 (pavAddr 0 0) 0 gangPlan (by first | decide +kernel | rfl) (by first | decide +kernel | rfl) (by first | decide +kernel | rfl) (okOf (by decide +kernel)) (by first | decide +kernel | rfl) (by first | decide +kernel | rfl) rfl⟩
theorem witness_gangAborts : ∃ t, TaskStep (.gangStateObserve 0) (gangAt (2 ^ 17)) t := ⟨_, .gangAborts _ _ _ 2 8 (pavAddr 0 0) 0 (2 ^ 17) gangPlan ⟨(by first | decide +kernel | rfl), (by first | decide +kernel | rfl), (by first | decide +kernel | rfl), (okOf (by decide +kernel)), rfl⟩ (by first | decide +kernel | rfl)⟩
theorem witness_gangLoses : ∃ t, TaskStep (.gangStateObserve 0) ({ gangAt 0 with fabLost := 1 }) t := ⟨_, .gangLoses _ _ 2 8 gangPlan (by first | decide +kernel | rfl) (by first | decide +kernel | rfl) (errOf (by decide +kernel))⟩
theorem witness_gangCommits : ∃ t, TaskStep (.gangStateObserve 0) (gangAt 1) t := ⟨_, .gangDecides _ _ _ 2 8 (pavAddr 0 0) 0 1 1 gangPlan ⟨(by first | decide +kernel | rfl), (by first | decide +kernel | rfl), (by first | decide +kernel | rfl), (okOf (by decide +kernel)), rfl⟩ (by first | decide +kernel | rfl) (by first | decide +kernel | rfl) (.inr (by first | decide +kernel | rfl))⟩
theorem witness_gangRejects : ∃ t, TaskStep (.gangStateObserve 0) (gangAt 256) t := ⟨_, .gangDecides _ _ _ 2 8 (pavAddr 0 0) 0 256 2 gangPlan ⟨(by first | decide +kernel | rfl), (by first | decide +kernel | rfl), (by first | decide +kernel | rfl), (okOf (by decide +kernel)), rfl⟩ (by first | decide +kernel | rfl) (by first | decide +kernel | rfl) (.inl (by first | decide +kernel | rfl))⟩
theorem witness_gangTimeout : ∃ t, TaskStep (.gangTimeout 0) ({ gangAt 1 with cycle := 65536 }) t := ⟨_, .gangTimeout _ _ _ 2 8 (pavAddr 0 0) 0 1 gangPlan ⟨(by first | decide +kernel | rfl), (by first | decide +kernel | rfl), (by first | decide +kernel | rfl), (okOf (by decide +kernel)), rfl⟩ (by first | decide +kernel | rfl) (by first | decide +kernel | rfl) (by first | decide +kernel | rfl)⟩
theorem witness_memberLost : ∃ t, TaskStep (.memberLostNotice 2 9) (heard (withPlan2 ({ plan2 with gang := true, state := .running, drain := 2, stages := [stage0, { stage0 with sdev := 9 }] }))) t := ⟨_, .memberLost _ (noticed9 (heard (withPlan2 ({ plan2 with gang := true, state := .running, drain := 2, stages := [stage0, { stage0 with sdev := 9 }] })))) _ _ ({ plan2 with gang := true, state := .running, drain := 2, stages := [stage0, { stage0 with sdev := 9 }] }) (by first | decide +kernel | rfl) (by first | decide +kernel | rfl) (by first | decide +kernel | rfl) (.inl (by first | decide +kernel | rfl))⟩
theorem witness_memberLostEarly : ∃ t, TaskStep (.memberLostNotice 2 9) ((gangAt 1).setPlan 2 ({ gangPlan with stages := [stage0, { stage0 with sdev := 9 }] })) t := ⟨_, .memberLostEarly _ (noticed9 ((gangAt 1).setPlan 2 ({ gangPlan with stages := [stage0, { stage0 with sdev := 9 }] }))) _ _ _ (pavAddr 0 0) 0 1 ({ gangPlan with stages := [stage0, { stage0 with sdev := 9 }] }) (by first | decide +kernel | rfl) (by first | decide +kernel | rfl) (by first | decide +kernel | rfl) (.inr (by first | decide +kernel | rfl)) (by first | decide +kernel | rfl) (okOf (by decide +kernel)) (by first | decide +kernel | rfl) rfl⟩

end Sys2Proof.Tests.WitnessTasks
end

