-- ==== Sys2Proof/Tests/WitnessTraps.lean ====
section
/-!
SUPPORT. Witnesses: for every rule of the system class, and every step that ends a shootdown or a double fault, a small state in which it applies.
-/

namespace Sys2Proof.Tests.WitnessTraps

open Sys2Proof.Machine Sys2Proof.Rules

set_option Elab.async false

/-- Group 0 of task 1 of plan 1 in supervisor mode, with segment 1 on its region, and registers 2 to 9 with operands. -/
def stageP : StageDesc := { dieMask := 1, maxS := 1, minS := 1, initS := 1, quantum := 1024, privBlk := 4, privBase := 4096, scratch := 4096 }
def planP : Plan := { state := .running, tenant := 2, stages := [stageP] }
def taskP : Task := { plan := 1, stage := 0, die := 0, scratchBase := 256, scratchSize := 4096, running := true, groups := [0], live := [0] }
def super0 : State :=
  { groups := [(0, { mode := .supervisor, budget := 8, plan := 1, task := 1, segs := [(1, ⟨256, 4096, true, true, false, 1⟩)],
                     s := [(2, 1), (3, 2), (4, 0), (5, 7), (6, 2 ^ 16 + 7), (7, 2 ^ 17), (8, 2 ^ 21 + 5), (9, 8192), (10, 2 ^ 36 - 2 ^ 21)] })]
    tasks := [(1, taskP)], plans := [(1, planP)], cores := [(0, { stage := some (1, 0), resident := [1] })], nextTask := 2
    tlb := [⟨0, 7, 2, 15⟩, ⟨2816, 7, 3, 15⟩, ⟨1, 8, 2, 15⟩], keys := [(63 * 8192 + 5, [1])] }
def withDesc (w0 w1 : Nat) : State := super0.write (scratchAddr 0 256) ([w0, w1].flatMap (leBytes 8))
def withPlan2 (p : Plan) : State := super0.setPlan 2 p
def plan2 : Plan := { state := .running, tenant := 2, stages := [stageP] }
def savedAt (area : Nat) : SavedPlan := { area := area, key := 5, cores := [{ core := 1, stage := 0 }] }
def plan2Saved : Plan := { plan2 with state := .saved, saved := some (savedAt (2 ^ 21)) }
def pend0 : Pending := { pc := 0, todo := [.load ⟨0, 0, 64, 4, 0, 0⟩] }
/-- A group of plan 2 that cannot stop yet: it waits for a tlbsync. -/
def withTeam2 : State :=
  { (withPlan2 plan2).setCore 1 { stage := some (2, 0), resident := [4] } with
    groups := [(0, super0.me), (32, { plan := 2, task := 4, wait := some .tlbsync })]
    tasks := [(1, taskP), (4, { plan := 2, stage := 0, die := 0, core := 1, running := true, groups := [32], live := [32] })] }

theorem witness_endReturn : ∃ t, TrapRule (.tretEndReturn true 2) (super0) t := ⟨_, .endReturn _ _ _ _ ⟨(by first | decide +kernel | rfl), (by first | decide +kernel | rfl), ⟨(by first | decide +kernel | rfl), rfl⟩⟩ (by first | decide +kernel | rfl)⟩
theorem witness_endDiscard : ∃ t, TrapRule (.tretEndDiscard true 3) (super0) t := ⟨_, .endDiscard _ _ _ _ ⟨(by first | decide +kernel | rfl), (by first | decide +kernel | rfl), ⟨(by first | decide +kernel | rfl), rfl⟩⟩ (by first | decide +kernel | rfl)⟩
theorem witness_segldPriv : ∃ t, TrapRule (.segld true 3 4 1) (withDesc (0) (0 + 2 ^ 4 + 2 ^ 5 + 4 * 2 ^ 8)) t := ⟨_, .segld _ _ ((withDesc (0) (0 + 2 ^ 4 + 2 ^ 5 + 4 * 2 ^ 8)).performAll 0) ((withDesc (0) (0 + 2 ^ 4 + 2 ^ 5 + 4 * 2 ^ 8)).performAll 0) _ _ _ _ [⟨0, 0, scratchAddr 0 256, 16, 0, 0⟩] ((withDesc (0) (0 + 2 ^ 4 + 2 ^ 5 + 4 * 2 ^ 8)).bytes (scratchAddr 0 256) 16) taskP stageP ⟨0, 4, true, true, false, 0⟩ ⟨4096, 4, true, true, false, 0⟩ (0) (0 + 2 ^ 4 + 2 ^ 5 + 4 * 2 ^ 8) ⟨(by first | decide +kernel | rfl), (by first | decide +kernel | rfl), ⟨(by first | decide +kernel | rfl), rfl⟩⟩ (by first | decide +kernel | rfl) (okOf (by decide +kernel)) (by first | decide +kernel | rfl) (okOf (by decide +kernel)) (by first | decide +kernel | rfl) (by first | decide +kernel | rfl) (by first | decide +kernel | rfl) ⟨(by first | decide +kernel | rfl), (by first | decide +kernel | rfl), (by first | decide +kernel | rfl), (by first | decide +kernel | rfl), (by first | decide +kernel | rfl)⟩ (by first | decide +kernel | rfl) (by first | decide +kernel | rfl) (by first | decide +kernel | rfl) (by first | decide +kernel | rfl) (.priv 0 4 true true false (by first | decide +kernel | rfl) (by first | decide +kernel | rfl) (by first | decide +kernel | rfl) (by first | decide +kernel | rfl) (by first | decide +kernel | rfl))⟩
theorem witness_segldScratch : ∃ t, TrapRule (.segld true 3 4 1) (withDesc (64) (1 + 2 ^ 4 + 4032 * 2 ^ 8)) t := ⟨_, .segld _ _ ((withDesc (64) (1 + 2 ^ 4 + 4032 * 2 ^ 8)).performAll 0) ((withDesc (64) (1 + 2 ^ 4 + 4032 * 2 ^ 8)).performAll 0) _ _ _ _ [⟨0, 0, scratchAddr 0 256, 16, 0, 0⟩] ((withDesc (64) (1 + 2 ^ 4 + 4032 * 2 ^ 8)).bytes (scratchAddr 0 256) 16) taskP stageP ⟨64, 4032, true, false, false, 1⟩ ⟨320, 4032, true, false, false, 1⟩ (64) (1 + 2 ^ 4 + 4032 * 2 ^ 8) ⟨(by first | decide +kernel | rfl), (by first | decide +kernel | rfl), ⟨(by first | decide +kernel | rfl), rfl⟩⟩ (by first | decide +kernel | rfl) (okOf (by decide +kernel)) (by first | decide +kernel | rfl) (okOf (by decide +kernel)) (by first | decide +kernel | rfl) (by first | decide +kernel | rfl) (by first | decide +kernel | rfl) ⟨(by first | decide +kernel | rfl), (by first | decide +kernel | rfl), (by first | decide +kernel | rfl), (by first | decide +kernel | rfl), (by first | decide +kernel | rfl)⟩ (by first | decide +kernel | rfl) (by first | decide +kernel | rfl) (by first | decide +kernel | rfl) (by first | decide +kernel | rfl) (.scratchpad 64 4032 true false false (by first | decide +kernel | rfl) (by first | decide +kernel | rfl))⟩
theorem witness_segldGlobal : ∃ t, TrapRule (.segld true 3 4 1) (withDesc (2 ^ 55) (2 + 2 ^ 4 + 2 ^ 6 + 2 ^ 55 * 2 ^ 8)) t := ⟨_, .segld _ _ ((withDesc (2 ^ 55) (2 + 2 ^ 4 + 2 ^ 6 + 2 ^ 55 * 2 ^ 8)).performAll 0) ((withDesc (2 ^ 55) (2 + 2 ^ 4 + 2 ^ 6 + 2 ^ 55 * 2 ^ 8)).performAll 0) _ _ _ _ [⟨0, 0, scratchAddr 0 256, 16, 0, 0⟩] ((withDesc (2 ^ 55) (2 + 2 ^ 4 + 2 ^ 6 + 2 ^ 55 * 2 ^ 8)).bytes (scratchAddr 0 256) 16) taskP stageP ⟨2 ^ 55, 2 ^ 55, true, false, true, 2⟩ ⟨2 ^ 55, 2 ^ 55, true, false, true, 2⟩ (2 ^ 55) (2 + 2 ^ 4 + 2 ^ 6 + 2 ^ 55 * 2 ^ 8) ⟨(by first | decide +kernel | rfl), (by first | decide +kernel | rfl), ⟨(by first | decide +kernel | rfl), rfl⟩⟩ (by first | decide +kernel | rfl) (okOf (by decide +kernel)) (by first | decide +kernel | rfl) (okOf (by decide +kernel)) (by first | decide +kernel | rfl) (by first | decide +kernel | rfl) (by first | decide +kernel | rfl) ⟨(by first | decide +kernel | rfl), (by first | decide +kernel | rfl), (by first | decide +kernel | rfl), (by first | decide +kernel | rfl), (by first | decide +kernel | rfl)⟩ (by first | decide +kernel | rfl) (by first | decide +kernel | rfl) (by first | decide +kernel | rfl) (by first | decide +kernel | rfl) (.global _ _ _ _ _ (by first | decide +kernel | rfl) (by first | decide +kernel | rfl))⟩
theorem witness_segldOrangery : ∃ t, TrapRule (.segld true 3 4 1) (withDesc (0) (3 + 2 ^ 4 + 768 * 2 ^ 20 * 2 ^ 8)) t := ⟨_, .segld _ _ ((withDesc (0) (3 + 2 ^ 4 + 768 * 2 ^ 20 * 2 ^ 8)).performAll 0) ((withDesc (0) (3 + 2 ^ 4 + 768 * 2 ^ 20 * 2 ^ 8)).performAll 0) _ _ _ _ [⟨0, 0, scratchAddr 0 256, 16, 0, 0⟩] ((withDesc (0) (3 + 2 ^ 4 + 768 * 2 ^ 20 * 2 ^ 8)).bytes (scratchAddr 0 256) 16) taskP stageP ⟨0, 768 * 2 ^ 20, true, false, false, 3⟩ ⟨0, 768 * 2 ^ 20, true, false, false, 3⟩ (0) (3 + 2 ^ 4 + 768 * 2 ^ 20 * 2 ^ 8) ⟨(by first | decide +kernel | rfl), (by first | decide +kernel | rfl), ⟨(by first | decide +kernel | rfl), rfl⟩⟩ (by first | decide +kernel | rfl) (okOf (by decide +kernel)) (by first | decide +kernel | rfl) (okOf (by decide +kernel)) (by first | decide +kernel | rfl) (by first | decide +kernel | rfl) (by first | decide +kernel | rfl) ⟨(by first | decide +kernel | rfl), (by first | decide +kernel | rfl), (by first | decide +kernel | rfl), (by first | decide +kernel | rfl), (by first | decide +kernel | rfl)⟩ (by first | decide +kernel | rfl) (by first | decide +kernel | rfl) (by first | decide +kernel | rfl) (by first | decide +kernel | rfl) (.orangery _ _ _ _ (by first | decide +kernel | rfl))⟩
theorem witness_segldPavilion : ∃ t, TrapRule (.segld true 3 4 1) (withDesc (0) (4 + 2 ^ 4)) t := ⟨_, .segld _ _ ((withDesc (0) (4 + 2 ^ 4)).performAll 0) ((withDesc (0) (4 + 2 ^ 4)).performAll 0) _ _ _ _ [⟨0, 0, scratchAddr 0 256, 16, 0, 0⟩] ((withDesc (0) (4 + 2 ^ 4)).bytes (scratchAddr 0 256) 16) taskP stageP ⟨0, 0, true, false, false, 4⟩ ⟨0, 0, true, false, false, 4⟩ (0) (4 + 2 ^ 4) ⟨(by first | decide +kernel | rfl), (by first | decide +kernel | rfl), ⟨(by first | decide +kernel | rfl), rfl⟩⟩ (by first | decide +kernel | rfl) (okOf (by decide +kernel)) (by first | decide +kernel | rfl) (okOf (by decide +kernel)) (by first | decide +kernel | rfl) (by first | decide +kernel | rfl) (by first | decide +kernel | rfl) ⟨(by first | decide +kernel | rfl), (by first | decide +kernel | rfl), (by first | decide +kernel | rfl), (by first | decide +kernel | rfl), (by first | decide +kernel | rfl)⟩ (by first | decide +kernel | rfl) (by first | decide +kernel | rfl) (by first | decide +kernel | rfl) (by first | decide +kernel | rfl) (.pavilion _ _ _ _ _ (by first | decide +kernel | rfl) (by first | decide +kernel | rfl))⟩
theorem witness_segldBelvedere : ∃ t, TrapRule (.segld true 3 4 1) (withDesc (0) (5 + 2 ^ 5 + 2 ^ 22 * 2 ^ 8)) t := ⟨_, .segld _ _ ((withDesc (0) (5 + 2 ^ 5 + 2 ^ 22 * 2 ^ 8)).performAll 0) ((withDesc (0) (5 + 2 ^ 5 + 2 ^ 22 * 2 ^ 8)).performAll 0) _ _ _ _ [⟨0, 0, scratchAddr 0 256, 16, 0, 0⟩] ((withDesc (0) (5 + 2 ^ 5 + 2 ^ 22 * 2 ^ 8)).bytes (scratchAddr 0 256) 16) taskP stageP ⟨0, 2 ^ 22, false, true, false, 5⟩ ⟨0, 2 ^ 22, false, true, false, 5⟩ (0) (5 + 2 ^ 5 + 2 ^ 22 * 2 ^ 8) ⟨(by first | decide +kernel | rfl), (by first | decide +kernel | rfl), ⟨(by first | decide +kernel | rfl), rfl⟩⟩ (by first | decide +kernel | rfl) (okOf (by decide +kernel)) (by first | decide +kernel | rfl) (okOf (by decide +kernel)) (by first | decide +kernel | rfl) (by first | decide +kernel | rfl) (by first | decide +kernel | rfl) ⟨(by first | decide +kernel | rfl), (by first | decide +kernel | rfl), (by first | decide +kernel | rfl), (by first | decide +kernel | rfl), (by first | decide +kernel | rfl)⟩ (by first | decide +kernel | rfl) (by first | decide +kernel | rfl) (by first | decide +kernel | rfl) (by first | decide +kernel | rfl) (.belvedere _ _ _ _ _ (by first | decide +kernel | rfl) (by first | decide +kernel | rfl))⟩
theorem witness_tlbinvPage : ∃ t, TrapRule (.tlbinv true 9 5) (super0.setMe { super0.me with ctx := 7, out := [pend0] }) t := ⟨_, .tlbinvPage _ _ _ _ 2 7 (by first | decide +kernel | rfl) (by first | decide +kernel | rfl) (by first | decide +kernel | rfl) (by first | decide +kernel | rfl) (by first | decide +kernel | rfl) (by first | decide +kernel | rfl)⟩
theorem witness_tlbinvContext : ∃ t, TrapRule (.tlbinv true 4 6) (super0.setMe { super0.me with ctx := 7, out := [pend0] }) t := ⟨_, .tlbinvContext _ _ _ _ 7 (by first | decide +kernel | rfl) (by first | decide +kernel | rfl) (by first | decide +kernel | rfl) (by first | decide +kernel | rfl) (by first | decide +kernel | rfl)⟩
theorem witness_tlbinvAll : ∃ t, TrapRule (.tlbinv true 4 7) (super0.setMe { super0.me with ctx := 7, out := [pend0] }) t := ⟨_, .tlbinvAll _ _ _ _ (by first | decide +kernel | rfl) (by first | decide +kernel | rfl) (by first | decide +kernel | rfl) (by first | decide +kernel | rfl)⟩
theorem witness_tlbsync : ∃ t, TrapRule (.tlbsync true) (super0) t := ⟨_, .tlbsync _ _ (by first | decide +kernel | rfl) (by first | decide +kernel | rfl)⟩
theorem witness_ctxsave : ∃ t, TrapRule (.ctxsave true 14 3 8) (withPlan2 plan2) t := ⟨_, .ctxsave _ _ _ _ _ _ 2 (2 ^ 21) 5 plan2 ⟨(by first | decide +kernel | rfl), (by first | decide +kernel | rfl), ⟨(by first | decide +kernel | rfl), rfl⟩⟩ ⟨⟨(by first | decide +kernel | rfl), (by first | decide +kernel | rfl)⟩, ⟨(by first | decide +kernel | rfl), (by first | decide +kernel | rfl), (by first | decide +kernel | rfl)⟩, (by first | decide +kernel | rfl)⟩ (by first | decide +kernel | rfl) (by first | decide +kernel | rfl) (by first | decide +kernel | rfl) (by first | decide +kernel | rfl) (by first | decide +kernel | rfl) (by first | decide +kernel | rfl) (by first | decide +kernel | rfl)⟩
theorem witness_ctxsaveCore : ∃ t, TrapRule (.ctxsave true 14 3 8) ((withPlan2 plan2).setCore 1 { stage := some (2, 0) }) t := ⟨_, .ctxsave _ _ _ _ _ _ 2 (2 ^ 21) 5 plan2 ⟨(by first | decide +kernel | rfl), (by first | decide +kernel | rfl), ⟨(by first | decide +kernel | rfl), rfl⟩⟩ ⟨⟨(by first | decide +kernel | rfl), (by first | decide +kernel | rfl)⟩, ⟨(by first | decide +kernel | rfl), (by first | decide +kernel | rfl), (by first | decide +kernel | rfl)⟩, (by first | decide +kernel | rfl)⟩ (by first | decide +kernel | rfl) (by first | decide +kernel | rfl) (by first | decide +kernel | rfl) (by first | decide +kernel | rfl) (by first | decide +kernel | rfl) (by first | decide +kernel | rfl) (by first | decide +kernel | rfl)⟩
theorem witness_ctxsaveWaits : ∃ t, TrapRule (.ctxsave true 14 3 8) (withTeam2) t := ⟨_, .ctxsaveWaits _ _ _ _ _ _ 2 (2 ^ 21) 5 plan2 ⟨(by first | decide +kernel | rfl), (by first | decide +kernel | rfl), ⟨(by first | decide +kernel | rfl), rfl⟩⟩ ⟨⟨(by first | decide +kernel | rfl), (by first | decide +kernel | rfl)⟩, ⟨(by first | decide +kernel | rfl), (by first | decide +kernel | rfl), (by first | decide +kernel | rfl)⟩, (by first | decide +kernel | rfl)⟩ (by first | decide +kernel | rfl) (by first | decide +kernel | rfl) (by first | decide +kernel | rfl) (by first | decide +kernel | rfl) (by first | decide +kernel | rfl) (by first | decide +kernel | rfl)⟩
theorem witness_ctxsaveNone : ∃ t, TrapRule (.ctxsave true 14 3 8) (super0) t := ⟨_, .ctxsaveNone _ _ _ _ _ _ 2 (2 ^ 21) 5 ⟨(by first | decide +kernel | rfl), (by first | decide +kernel | rfl), ⟨(by first | decide +kernel | rfl), rfl⟩⟩ ⟨⟨(by first | decide +kernel | rfl), (by first | decide +kernel | rfl)⟩, ⟨(by first | decide +kernel | rfl), (by first | decide +kernel | rfl), (by first | decide +kernel | rfl)⟩, (by first | decide +kernel | rfl)⟩ (by first | decide +kernel | rfl)⟩
theorem witness_ctxsaveState : ∃ t, TrapRule (.ctxsave true 14 2 8) (super0) t := ⟨_, .ctxsaveState _ _ _ _ _ _ 1 (2 ^ 21) 5 planP ⟨(by first | decide +kernel | rfl), (by first | decide +kernel | rfl), ⟨(by first | decide +kernel | rfl), rfl⟩⟩ ⟨⟨(by first | decide +kernel | rfl), (by first | decide +kernel | rfl)⟩, ⟨(by first | decide +kernel | rfl), (by first | decide +kernel | rfl), (by first | decide +kernel | rfl)⟩, (by first | decide +kernel | rfl)⟩ (by first | decide +kernel | rfl) (by first | decide +kernel | rfl)⟩
theorem witness_ctxsaveArea : ∃ t, TrapRule (.ctxsave true 14 3 10) ((withPlan2 plan2).setCore 1 { stage := some (2, 0) }) t := ⟨_, .ctxsaveArea _ _ _ _ _ _ 2 (2 ^ 36 - 2 ^ 21) 0 plan2 (0, 1) ⟨(by first | decide +kernel | rfl), (by first | decide +kernel | rfl), ⟨(by first | decide +kernel | rfl), rfl⟩⟩ ⟨⟨(by first | decide +kernel | rfl), (by first | decide +kernel | rfl)⟩, ⟨(by first | decide +kernel | rfl), (by first | decide +kernel | rfl), (by first | decide +kernel | rfl)⟩, (by first | decide +kernel | rfl)⟩ (by first | decide +kernel | rfl) (by first | decide +kernel | rfl) (by first | decide +kernel | rfl) (by first | decide +kernel | rfl) (by first | decide +kernel | rfl)⟩
theorem witness_ctxsaveKey : ∃ t, TrapRule (.ctxsave true 14 3 8) ({ withPlan2 plan2 with keys := [] }) t := ⟨_, .ctxsaveKey _ _ _ _ _ _ 2 (2 ^ 21) 5 plan2 ⟨(by first | decide +kernel | rfl), (by first | decide +kernel | rfl), ⟨(by first | decide +kernel | rfl), rfl⟩⟩ ⟨⟨(by first | decide +kernel | rfl), (by first | decide +kernel | rfl)⟩, ⟨(by first | decide +kernel | rfl), (by first | decide +kernel | rfl), (by first | decide +kernel | rfl)⟩, (by first | decide +kernel | rfl)⟩ (by first | decide +kernel | rfl) (by first | decide +kernel | rfl) (by first | decide +kernel | rfl) (by first | decide +kernel | rfl) (by first | decide +kernel | rfl)⟩
theorem witness_ctxrest : ∃ t, TrapRule (.ctxrest true 14 3 8) (withPlan2 plan2Saved) t := ⟨_, .ctxrest _ _ _ _ _ _ 2 (2 ^ 21) 5 plan2Saved (savedAt (2 ^ 21)) ⟨(by first | decide +kernel | rfl), (by first | decide +kernel | rfl), ⟨(by first | decide +kernel | rfl), rfl⟩⟩ ⟨⟨(by first | decide +kernel | rfl), (by first | decide +kernel | rfl)⟩, ⟨(by first | decide +kernel | rfl), (by first | decide +kernel | rfl), (by first | decide +kernel | rfl)⟩, (by first | decide +kernel | rfl)⟩ (by first | decide +kernel | rfl) (by first | decide +kernel | rfl) (by first | decide +kernel | rfl) (by first | decide +kernel | rfl) (by first | decide +kernel | rfl) (by first | decide +kernel | rfl) (by first | decide +kernel | rfl) (by first | decide +kernel | rfl) (by first | decide +kernel | rfl) (by first | decide +kernel | rfl)⟩
theorem witness_ctxrestTaken : ∃ t, TrapRule (.ctxrest true 14 3 8) ((withPlan2 plan2Saved).setCore 1 { stage := some (1, 0) }) t := ⟨_, .ctxrestTaken _ _ _ _ _ _ 2 (2 ^ 21) 5 plan2Saved (savedAt (2 ^ 21)) ⟨(by first | decide +kernel | rfl), (by first | decide +kernel | rfl), ⟨(by first | decide +kernel | rfl), rfl⟩⟩ ⟨⟨(by first | decide +kernel | rfl), (by first | decide +kernel | rfl)⟩, ⟨(by first | decide +kernel | rfl), (by first | decide +kernel | rfl), (by first | decide +kernel | rfl)⟩, (by first | decide +kernel | rfl)⟩ (by first | decide +kernel | rfl) (by first | decide +kernel | rfl) (by first | decide +kernel | rfl) (by first | decide +kernel | rfl) (by first | decide +kernel | rfl) (by first | decide +kernel | rfl) (by first | decide +kernel | rfl) (by first | decide +kernel | rfl) (by first | decide +kernel | rfl) (by first | decide +kernel | rfl)⟩
theorem witness_ctxrestNone : ∃ t, TrapRule (.ctxrest true 14 3 8) (super0) t := ⟨_, .ctxrestNone _ _ _ _ _ _ 2 (2 ^ 21) 5 ⟨(by first | decide +kernel | rfl), (by first | decide +kernel | rfl), ⟨(by first | decide +kernel | rfl), rfl⟩⟩ ⟨⟨(by first | decide +kernel | rfl), (by first | decide +kernel | rfl)⟩, ⟨(by first | decide +kernel | rfl), (by first | decide +kernel | rfl), (by first | decide +kernel | rfl)⟩, (by first | decide +kernel | rfl)⟩ (by first | decide +kernel | rfl)⟩
theorem witness_ctxrestState : ∃ t, TrapRule (.ctxrest true 14 3 8) (withPlan2 plan2) t := ⟨_, .ctxrestState _ _ _ _ _ _ 2 (2 ^ 21) 5 plan2 ⟨(by first | decide +kernel | rfl), (by first | decide +kernel | rfl), ⟨(by first | decide +kernel | rfl), rfl⟩⟩ ⟨⟨(by first | decide +kernel | rfl), (by first | decide +kernel | rfl)⟩, ⟨(by first | decide +kernel | rfl), (by first | decide +kernel | rfl), (by first | decide +kernel | rfl)⟩, (by first | decide +kernel | rfl)⟩ (by first | decide +kernel | rfl) (by first | decide +kernel | rfl)⟩
theorem witness_ctxrestBad : ∃ t, TrapRule (.ctxrest true 14 3 8) ({ withPlan2 plan2Saved with bad := [(2 ^ 21 + 9, 1)] }) t := ⟨_, .ctxrestBad _ _ _ _ _ _ 2 (2 ^ 21) 5 plan2Saved (savedAt (2 ^ 21)) (0, 1) ⟨(by first | decide +kernel | rfl), (by first | decide +kernel | rfl), ⟨(by first | decide +kernel | rfl), rfl⟩⟩ ⟨⟨(by first | decide +kernel | rfl), (by first | decide +kernel | rfl)⟩, ⟨(by first | decide +kernel | rfl), (by first | decide +kernel | rfl), (by first | decide +kernel | rfl)⟩, (by first | decide +kernel | rfl)⟩ (by first | decide +kernel | rfl) (by first | decide +kernel | rfl) (by first | decide +kernel | rfl) (by first | decide +kernel | rfl) (by first | decide +kernel | rfl) (by first | decide +kernel | rfl) (by first | decide +kernel | rfl) (by first | decide +kernel | rfl)⟩
theorem witness_ctxrestWaits : ∃ t, TrapRule (.ctxrest true 14 3 8) ((withPlan2 plan2Saved).startUnit 0 .hbm 3) t := ⟨_, .ctxrestWaits _ _ _ _ _ _ 2 (2 ^ 21) 5 plan2Saved (savedAt (2 ^ 21)) (0, 1) ⟨(by first | decide +kernel | rfl), (by first | decide +kernel | rfl), ⟨(by first | decide +kernel | rfl), rfl⟩⟩ ⟨⟨(by first | decide +kernel | rfl), (by first | decide +kernel | rfl)⟩, ⟨(by first | decide +kernel | rfl), (by first | decide +kernel | rfl), (by first | decide +kernel | rfl)⟩, (by first | decide +kernel | rfl)⟩ (by first | decide +kernel | rfl) (by first | decide +kernel | rfl) (by first | decide +kernel | rfl) (by first | decide +kernel | rfl) (by first | decide +kernel | rfl) (by first | decide +kernel | rfl) (by first | decide +kernel | rfl)⟩
theorem witness_tlbsyncDone : ∃ t, TrapStep (.tlbsyncComplete 0) (super0.setMe { super0.me with wait := some .tlbsync, invs := [(0, 7, 9), (1, 9, 0)], out := [{ pend0 with todo := [] }] }) t := ⟨_, .tlbsync _ _ (by first | decide +kernel | rfl) (by first | decide +kernel | rfl) (by first | decide +kernel | rfl)⟩
theorem witness_doubleFault : ∃ t, TrapStep (.trapEntry 0) (super0.setDie 0 { doubleFaults := [0] }) t := ⟨_, .doubleFault _ _ (by first | decide +kernel | rfl)⟩
theorem witness_ended : ∃ t, TrapStep (.trapEntry 0) ({ super0 with tasks := [(1, { taskP with ending := some true })] }) t := ⟨_, .ended _ _ { taskP with ending := some true } true (by first | decide +kernel | rfl) (by first | decide +kernel | rfl) (by first | decide +kernel | rfl) (by first | decide +kernel | rfl)⟩

end Sys2Proof.Tests.WitnessTraps
end

/-!
The issue of a group's next word (R31, R62 to R65), for any statement about a turn of the tape: what the choice of a
group and a fetch leave of the group itself, and one equation of the step per kind of turn.
-/

namespace Sys2Proof.Machine

theorem Map.get?_mapKeyed {α : Type} (f : Nat → α → α) (k : Nat) (m : Map α) :
    Map.get? k (Map.mapKeyed f m) = (Map.get? k m).map (f k) := by
  induction m with
  | nil => rfl
  | cons p t ih =>
    obtain ⟨j, v⟩ := p
    by_cases h : j = k
    · simp [Map.mapKeyed, Map.get?, h]
    · simpa [Map.mapKeyed, Map.get?, h] using ih

/-! What a pipe's choice leaves. -/

@[simp] theorem State.chosen_cur (s : State) (gid : Nat) (held : List Nat) : (s.chosen gid held).cur = gid := rfl

/-- Of the group it chooses, a pipe changes its own pass-over count alone (R64). -/
theorem State.group_chosen (s : State) (gid : Nat) (held : List Nat) :
    (s.chosen gid held).group gid = if s.nextIsGroup gid then { s.group gid with passScalar := 0 }
      else { s.group gid with passVector := 0 } := by
  simp only [State.group, State.chosen, Map.getD, Map.get?_mapKeyed, if_true]
  cases Map.get? gid s.groups with
  | some g => rfl
  | none => cases s.nextIsGroup gid <;> rfl

@[simp] theorem State.word_chosen (s : State) (gid : Nat) (held : List Nat) :
    ((s.chosen gid held).group gid).word = (s.group gid).word := by rw [State.group_chosen]; split <;> rfl
@[simp] theorem State.pc_chosen (s : State) (gid : Nat) (held : List Nat) :
    ((s.chosen gid held).group gid).pc = (s.group gid).pc := by rw [State.group_chosen]; split <;> rfl
@[simp] theorem State.repcnt_chosen (s : State) (gid : Nat) (held : List Nat) :
    ((s.chosen gid held).group gid).repcnt = (s.group gid).repcnt := by rw [State.group_chosen]; split <;> rfl

/-! What a fetch leaves: slice maps and violation counts apart, the machine as it was (R155, R335). -/

@[simp] theorem State.redirect_cur (s : State) (unit a : Nat) : (s.redirect unit a).cur = s.cur := by
  unfold State.redirect; split <;> rfl
@[simp] theorem State.redirect_groups (s : State) (unit a : Nat) : (s.redirect unit a).groups = s.groups := by
  unfold State.redirect; split <;> rfl
@[simp] theorem State.afterRead_cur (s : State) (who : Asker) (key a : Nat) : (s.afterRead who key a).cur = s.cur := by
  unfold State.afterRead; split <;> simp
@[simp] theorem State.afterRead_groups (s : State) (who : Asker) (key a : Nat) :
    (s.afterRead who key a).groups = s.groups := by unfold State.afterRead; split <;> simp
@[simp] theorem State.afterFetch_cur (s : State) (gid pc : Nat) : (s.afterFetch gid pc).cur = s.cur := by
  unfold State.afterFetch; split <;> simp
@[simp] theorem State.afterFetch_groups (s : State) (gid pc : Nat) : (s.afterFetch gid pc).groups = s.groups := by
  unfold State.afterFetch; split <;> simp
@[simp] theorem State.afterFetch_group (s : State) (gid pc k : Nat) : (s.afterFetch gid pc).group k = s.group k := by
  simp [State.group]

/-! The step of a turn. -/

/-- A step takes the first turn of the tape, then a cycle passes (log 1). -/
theorem step_of_tape {s : State} {t : Turn} {rest : List Turn} (h : s.tape = t :: rest) :
    step s = thenTick (({ s with tape := rest } : State).turn t) := by simp [step, State.move, h]

/-- Units without power do nothing (R375, R386). -/
theorem State.turn_unpowered {s : State} {t : Turn} (h : s.powered t = false) : s.turn t = .next s := by
  simp [State.turn, h]

/-- The turn of a unit is the row it names, if that row has no word. -/
theorem State.turn_event {s : State} {e : Instr} (hp : s.powered (.event e) = true) (he : encode e = none) :
    s.turn (.event e) = exec e s := by simp [State.turn, hp, he]

/-- Issuing needs the group's own die alone. -/
theorem State.powered_issue (s : State) (gid : Nat) (held : List Nat) :
    s.powered (.issue gid held) = !(s.die (dieOfGid gid)).off := by
  simp [State.powered, State.allOn, State.turnDies]

/-- The turn of a group that its pipe chooses issues its next word (R64). -/
theorem State.turn_issue {s : State} {gid : Nat} {held : List Nat} (hc : s.choosable gid held = true)
    (hd : (s.die (dieOfGid gid)).off = false) : s.turn (.issue gid held) = s.issueNext gid held := by
  simp [State.turn, State.powered_issue, hd, State.issueTurn, hc]

end Sys2Proof.Machine

namespace Sys2Proof.Rules

open Sys2Proof.Machine

theorem Holds.cur_eq {u v : State} {gid : Nat} {w : Word} (h : Holds u gid w v) : v.cur = u.cur := by
  cases h with
  | held _ => rfl
  | fetched x _ _ hx => subst hx; simp

theorem Holds.repcnt_eq {u v : State} {gid : Nat} {w : Word} (h : Holds u gid w v) :
    (v.group gid).repcnt = (u.group gid).repcnt := by
  cases h with
  | held _ => rfl
  | fetched x _ _ hx => subst hx; simp

/-- Where the chosen group holds a word, the issue runs that word (R31, R62). -/
theorem Holds.issueNext {s v : State} {gid : Nat} {held : List Nat} {w : Word}
    (h : Holds (s.chosen gid held) gid w v) : s.issueNext gid held = runWord w v := by
  cases h with
  | held hw =>
    rw [State.word_chosen] at hw
    simp [State.issueNext, hw]
  | fetched x hw hf hx =>
    rw [State.word_chosen] at hw
    rw [State.pc_chosen] at hf hx
    subst hx
    simp [State.issueNext, hw, hf, State.setMe, State.me]

/-- The chosen group, with its word in v, is the group that v runs next, at the REPCNT it had (R87). -/
theorem Holds.me_repcnt {s v : State} {gid : Nat} {held : List Nat} {w : Word}
    (h : Holds (s.chosen gid held) gid w v) : v.me.repcnt = (s.group gid).repcnt := by
  rw [State.me, h.cur_eq, State.chosen_cur, h.repcnt_eq, State.repcnt_chosen]

end Sys2Proof.Rules

namespace Sys2Proof.Proofs

open Sys2Proof.Machine Sys2Proof.Rules

/-- Settles O2: each of its clauses is the step's equation for one kind of turn, and the word of an issue runs as the
instruction it decodes to. -/
theorem stepRunsTheDecodedInstruction : Obligations.StepRunsTheDecodedInstruction := by
  refine ⟨?issue, ?unit, ?unpowered⟩
  case issue =>
    rintro s u v gid held rest w i ht rfl hc hd hw hdec hrep
    rw [← hw.me_repcnt] at hrep
    rw [step_of_tape ht, State.turn_issue hc hd, hw.issueNext, Laws.runWord_ok hdec hrep]
  case unit =>
    rintro s u e rest ht rfl he hp
    rw [step_of_tape ht, State.turn_event hp he]
  case unpowered =>
    rintro s u t rest ht rfl hp
    rw [step_of_tape ht, State.turn_unpowered hp, thenTick]

end Sys2Proof.Proofs

/-!
The bits of a mask that is made of a predicate on threads (R94, R107).
-/

namespace Sys2Proof.Machine

/-- The number whose bits below n are p's. -/
def bitSum (p : Nat → Bool) (n : Nat) : Nat := (List.range n).foldl (fun acc t => if p t then acc + 2 ^ t else acc) 0

theorem bitSum_succ (p : Nat → Bool) (n : Nat) :
    bitSum p (n + 1) = if p n then bitSum p n + 2 ^ n else bitSum p n := by
  simp [bitSum, List.range_succ]

theorem bitSum_lt (p : Nat → Bool) (n : Nat) : bitSum p n < 2 ^ n := by
  induction n with
  | zero => simp [bitSum]
  | succ n ih => rw [bitSum_succ]; split <;> omega

theorem testBit_bitSum (p : Nat → Bool) (n t : Nat) : (bitSum p n).testBit t = (decide (t < n) && p t) := by
  induction n with
  | zero => simp [bitSum]
  | succ n ih =>
    rw [bitSum_succ]
    rcases Nat.lt_trichotomy t n with h | rfl | h
    · split
      · rw [Nat.add_comm, Nat.testBit_two_pow_add_gt h, ih]; simp [h, Nat.lt_succ_of_lt h]
      · rw [ih]; simp [h, Nat.lt_succ_of_lt h]
    · have hz : (bitSum p t).testBit t = false := Nat.testBit_lt_two_pow (bitSum_lt p t)
      split
      · rw [Nat.add_comm, Nat.testBit_two_pow_add_eq, hz]; simp [*]
      · rw [hz]; simp [*]
    · have hb : bitSum p n < 2 ^ t := (bitSum_lt p n).trans (Nat.pow_lt_pow_right (by omega) h)
      have hb' : bitSum p n + 2 ^ n < 2 ^ t := by
        have := bitSum_lt p n
        have : 2 ^ (n + 1) ≤ 2 ^ t := Nat.pow_le_pow_right (by omega) h
        omega
      have hn : ¬ t < n + 1 := by omega
      split
      · rw [Nat.testBit_lt_two_pow hb']; simp [hn]
      · rw [Nat.testBit_lt_two_pow hb]; simp [hn]

theorem getLsbD_maskOf (p : Nat → Bool) {t : Nat} (h : t < 64) : (maskOf p).getLsbD t = p t := by
  change (BitVec.ofNat 64 (bitSum p 64)).getLsbD t = p t
  rw [BitVec.getLsbD_ofNat, testBit_bitSum]
  simp [h]

end Sys2Proof.Machine

/-!
What an instruction leaves that issues, and whose result stays outstanding: the equations between the machine's own
operations and the terms of the statements, and what each gate in front of a body lets through.
-/

namespace Sys2Proof.Rules

open Sys2Proof.Machine

/-! Retiring, and an instruction added to those outstanding. -/

theorem retire_eq_finished (s : State) (m : Bool) (pc : Nat) : s.retire m pc = finished s m pc s.me := rfl

theorem add_eq_queued (g : Group) (p : Pending) : g.add p = queued g p := rfl

/-- What retiring leaves of the issuing group does not depend on what stood in its place before. -/
@[simp] theorem finished_setMe (s : State) (g h : Group) (m : Bool) (pc : Nat) :
    finished (s.setMe g) m pc h = finished s m pc h := by
  simp [finished, State.setMe, State.setGroup]

theorem HasRoom.outstanding_lt {s : State} (h : HasRoom s) : s.me.outstanding < 32 := h

/-- With room for one more result a variable-latency instruction issues (R71). -/
theorem push_of_hasRoom {s : State} (h : HasRoom s) (p : Pending) : s.push p = .ok (s.setMe (queued s.me p)) := by
  have hlt : ¬ 32 ≤ s.me.outstanding := Nat.not_le.mpr h.outstanding_lt
  simp [State.push, hlt, add_eq_queued]

theorem withResult_of_hasRoom {s : State} (h : HasRoom s) (b : Body) : withResult b s = b s := by
  simp [withResult, Nat.not_le.mpr h.outstanding_lt]

/-- An issued instruction whose body leaves the issuing group as g (R62). -/
theorem issue_setMe {s v : State} {m : Bool} {b : Body} {g : Group} (h : Issuing s) (hb : b s = .ok (v.setMe g))
    (hpc : g.pc = s.me.pc) : issue m b s = .next (finished v m (s.me.pc + 4) g) := by
  rw [issue_ok h m hb, retire_eq_finished, State.me_setMe, finished_setMe, hpc]

theorem issue_done {s v : State} {m : Bool} {b : Body} (h : Issuing s) (hb : b s = .ok v) :
    issue m b s = .next (done m v) := issue_ok h m hb

theorem issue_blocked {s v : State} {m : Bool} {b : Body} {w : Wait} (h : Issuing s) (hb : b s = .wait v w) :
    issue m b s = .next (blocked v m w) := by rw [issue_next h, hb]; rfl

theorem issue_illegal {s v : State} {m : Bool} {b : Body} (h : Issuing s) (hb : b s = illegal v) :
    issue m b s = .next (v.takeTrap v.cur (some { kind := 1 })) := issue_fault h m hb

/-! The gates in front of a body (R22, R30). -/

theorem coreOnly_core {s : State} (h : s.me.mode ≠ .control) (b : Body) : coreOnly b s = b s := by simp [coreOnly, h]

theorem coreOnly_control {s : State} (h : s.me.mode = .control) (b : Body) : coreOnly b s = illegal s := by simp [coreOnly, h]

theorem tilesOnly_ready {s : State} (h : s.me.mode ≠ .control) (ht : s.myTask.tiles ≠ 0) (b : Body) :
    tilesOnly b s = b s := by simp [tilesOnly, coreOnly_core h, ht]

/-- Without tiles a matrix instruction is illegal, on a control processor too (R22, R30). -/
theorem tilesOnly_noTiles {s : State} (ht : s.myTask.tiles = 0) (b : Body) : tilesOnly b s = illegal s := by
  by_cases h : s.me.mode = .control
  · exact coreOnly_control h _
  · simp [tilesOnly, coreOnly_core h, ht]

/-- A lane-set instruction of variable latency that may issue (R21, R30, R71). -/
theorem laneResult_ready {s : State} {rs : List Reg} (h : LaneReady s rs) (hr : HasRoom s)
    (f : Group → List RegWrite × FF) : laneResult (rs.map BitVec.toNat) f s
      = .ok (s.setMe (queued s.me { pc := 0, writes := (f s.me).1, ff := (f s.me).2, result := true })) := by
  obtain ⟨-, hc, hb⟩ := h
  have hregs : (rs.map BitVec.toNat).any (fun r => decide (s.me.budget ≤ r)) = false := by
    rw [List.any_eq_false]
    intro r hm
    obtain ⟨q, hq, rfl⟩ := List.mem_map.mp hm
    simpa using hb q hq
  simp [laneResult, hc, hregs, State.pushResult, push_of_hasRoom hr]

/-- The sets that threads' flags make hold, at each active thread, that thread's flags (R94). -/
theorem flagsRaised_ofThreads (xm : Mask) (h : Nat → Flags) :
    FlagsRaised xm {} (FF.ofThreads fun t => if xm.getLsbD t then h t else Flags.none) h := by
  intro t ht
  simp only [FF.ofThreads, getLsbD_maskOf _ ht]
  cases xm.getLsbD t <;> simp [Flags.none]

theorem FlagsRaised.congr {xm : Mask} {f g : FF} {h k : Nat → Flags} (hr : FlagsRaised xm f g h)
    (he : ∀ t < 64, h t = k t) : FlagsRaised xm f g k := fun t ht => he t ht ▸ hr t ht

/-! Block quantisation (R293, R294): what vqblk queues. -/

/-- The block of a thread as vqblk picks it: the first of the group's two for threads 0 to 31, the second for the
others (R293). -/
def halfBlock (g : Group) (a : Reg) (fn t : Nat) : Block := if t < 32 then quantBlock g a fn 0 else quantBlock g a fn 32

/-- The flags that vqblk raises in a thread, by that block (R294). -/
def halfFlags (g : Group) (a : Reg) (fn t : Nat) : Flags :=
  { quantFlags g a fn t with nx := differs (quantIn g a t) ((halfBlock g a fn t).value fn (t % 32)) }

theorem halfBlock_eq (g : Group) (a : Reg) (fn : Nat) {t : Nat} (ht : t < 64) :
    halfBlock g a fn t = quantBlock g a fn t := by
  have h : t / 32 = if t < 32 then 0 else 1 := by split <;> omega
  unfold halfBlock quantBlock
  rw [h]
  split <;> rfl

theorem halfFlags_eq (g : Group) (a : Reg) (fn : Nat) {t : Nat} (ht : t < 64) :
    halfFlags g a fn t = quantFlags g a fn t := by
  rw [halfFlags, halfBlock_eq g a fn ht]; rfl

/-- What vqblk answers once it may issue. -/
theorem quantiseBody_ready {s : State} {d a : Reg} (fn : Nat) (hl : LaneReady s [d, a]) (hr : HasRoom s)
    (ht : s.myTask.tiles ≠ 0) : quantiseBody fn d a s = .ok (s.setMe (queued s.me
      { pc := 0
        writes := (active s.me).map fun t => .v d.toNat t ((halfBlock s.me a fn t).word fn (t % 32))
        ff := FF.ofThreads fun t => if s.me.xm.getLsbD t then halfFlags s.me a fn t else Flags.none, result := true })) := by
  rw [quantiseBody, tilesOnly_ready hl.2.1 ht]
  exact (laneResult_ready hl hr _).trans rfl

theorem quantiseBody_noTiles {s : State} (fn : Nat) (d a : Reg) (ht : s.myTask.tiles = 0) :
    quantiseBody fn d a s = illegal s := tilesOnly_noTiles ht _

/-- The issue of each block quantisation is that of its format's body. -/
theorem Quantise.exec_eq {i : Instr} {m : Bool} {d a : Reg} {fn : Nat} (h : Quantise i m d a fn) (s : State) :
    exec i s = issue m (quantiseBody fn d a) s := by cases h <;> rfl

theorem Quantise.queuesLanes {i : Instr} {m : Bool} {d a : Reg} {fn : Nat} {s : State} (h : Quantise i m d a fn)
    (hl : LaneReady s [d, a]) (hr : HasRoom s) (ht : s.myTask.tiles ≠ 0) :
    QueuesLanes i m s d.toNat (fun t => (quantBlock s.me a fn t).word fn (t % 32)) (quantFlags s.me a fn) := by
  have hb : ∀ t ∈ active s.me, halfBlock s.me a fn t = quantBlock s.me a fn t := fun t hm =>
    halfBlock_eq s.me a fn (List.mem_range.mp (List.mem_filter.mp hm).1)
  refine ⟨_, (flagsRaised_ofThreads s.me.xm (halfFlags s.me a fn)).congr fun t => halfFlags_eq s.me a fn, ?_⟩
  rw [h.exec_eq, issue_setMe hl.1 (quantiseBody_ready fn hl hr ht) rfl,
    List.map_congr_left fun t hm => by rw [hb t hm]]
  rfl

end Sys2Proof.Rules

namespace Sys2Proof.Proofs

open Sys2Proof.Machine Sys2Proof.Rules

/-- Settles O23: with tiles each form queues the words of its two blocks; without, it is illegal. -/
theorem blockQuantisation : Obligations.BlockQuantisation := by
  refine ⟨?quantises, ?noTiles⟩
  case quantises =>
    intro i m d a fn s h hl hr ht
    exact h.queuesLanes hl hr ht.ne'
  case noTiles =>
    intro i m d a fn s h hi ht
    rw [h.exec_eq, issue_illegal hi (quantiseBody_noTiles fn d a ht)]

/-- A group of budget 1 with no active thread, which has one vector register alone. -/
def oneRegister : State := { groups := [(0, { budget := 1 })] }

/-- cas on a byte, which R36 does not list: no word encodes it, and it is not well-formed. -/
def byteCas : Instr := .vatomCas false 0 0 0 .b1

/-- LaneInstr lists V(0) and V(1) for it, twice the one register of a byte. -/
theorem laneInstr_byteCas : LaneInstr byteCas [0, 0, 1] := .atomic _ _ _ _ _ _ _ _ (.vatomCas false 0 0 0 .b1)

/-- Its meaning checks V(0) alone, since the datum of two bytes fits in one register, and so it issues. -/
theorem exec_byteCas_oneRegister : ∃ t, exec byteCas oneRegister = .next t ∧ t.me.instret = 1 := ⟨_, rfl, rfl⟩

theorem instret_takeTrap_oneRegister :
    (oneRegister.takeTrap oneRegister.cur (some { kind := 1 })).me.instret = 0 := rfl

/-- Refutes O15: its first clause ranges over instructions that no word encodes. Of those, cas of one byte (and of two)
names two registers in LaneInstr, where its meaning names one; below a budget of 1 it issues. -/
theorem not_laneFaults : ¬ Obligations.LaneFaults := by
  rintro ⟨hbudget, -⟩
  obtain ⟨t, ht, hissued⟩ := exec_byteCas_oneRegister
  have htrap := hbudget byteCas [0, 0, 1] oneRegister laneInstr_byteCas rfl (.inr ⟨1, by decide, by decide⟩)
  rw [ht] at htrap
  cases htrap
  rw [instret_takeTrap_oneRegister] at hissued
  exact absurd hissued (by decide)

end Sys2Proof.Proofs

/-!
A control processor stays one while what it has issued is performed (R30, R159): of a group's mode, only a store to
the control register of a processor says anything, and it says the same.
-/

namespace Sys2Proof.Machine

theorem Map.get?_mapVals {α : Type} (f : α → α) (k : Nat) (m : Map α) :
    Map.get? k (Map.mapVals f m) = (Map.get? k m).map f := by
  induction m with
  | nil => rfl
  | cons p t ih =>
    obtain ⟨j, v⟩ := p
    by_cases h : j = k
    · simp [Map.mapVals, Map.get?, h]
    · simpa [Map.mapVals, Map.get?, h] using ih

/-- t issues from the same group as s, and every control processor of s is one in t. -/
structure StaysControl (s t : State) : Prop where
  cur : t.cur = s.cur
  mode : ∀ n, (s.group n).mode = .control → (t.group n).mode = .control

namespace StaysControl

variable {s t u : State}

theorem refl (s : State) : StaysControl s s := ⟨rfl, fun _ h => h⟩

theorem trans (h : StaysControl s t) (k : StaysControl t u) : StaysControl s u :=
  ⟨k.cur.trans h.cur, fun n hn => k.mode n (h.mode n hn)⟩

/-- What leaves every group as it was. -/
theorem of_groups (hc : t.cur = s.cur) (hg : t.groups = s.groups) : StaysControl s t :=
  ⟨hc, fun n h => by simpa only [State.group, hg] using h⟩

/-- A step after which a control processor is one still, taken for each element of a list. -/
theorem foldl {α : Type} {f : State → α → State} (hf : ∀ s x, StaysControl s (f s x)) (l : List α) (s : State) :
    StaysControl s (l.foldl f s) := by
  induction l generalizing s with
  | nil => exact refl s
  | cons x l ih => exact (hf s x).trans (ih _)

/-- A group is replaced by one that is a control processor if it was. -/
theorem setGroup {n : Nat} {g : Group} (h : (s.group n).mode = .control → g.mode = .control) :
    StaysControl s (s.setGroup n g) := by
  refine ⟨rfl, fun k hk => ?_⟩
  by_cases hkn : k = n
  · subst hkn; simpa using h hk
  · simpa [State.group_setGroup_ne s hkn] using hk

theorem ite {c : Prop} [Decidable c] (ht : StaysControl s t) (hu : StaysControl s u) : StaysControl s (if c then t else u) := by
  split <;> assumption

end StaysControl

/-! Memory. -/

/-- A group that a write wakes changes its wait alone (R195, R214). -/
theorem Group.examined_mode (s : State) (a n : Nat) (g : Group) : (g.examined s a n).mode = g.mode := by
  unfold Group.examined
  split
  · dsimp only; repeat' split
    all_goals rfl
  · dsimp only; repeat' split
    all_goals rfl
  · rfl

theorem State.examine_staysControl (s : State) (a n : Nat) : StaysControl s (s.examine a n) := by
  unfold State.examine
  split
  · refine ⟨rfl, fun k hk => ?_⟩
    simp only [State.group, Map.getD, Map.get?_mapVals] at hk ⊢
    cases hg : Map.get? k s.groups with
    | none => simp [hg] at hk
    | some g => simpa [hg, Group.examined_mode] using hk
  · exact .refl s

theorem State.writeTagged_staysControl (s : State) (a : Nat) (bs : List Byte) (tag : Nat) :
    StaysControl s (s.writeTagged a bs tag) :=
  .trans (t := { s with mem := memWrite s.mem a bs, bad := clearBad s.bad a bs.length, byteKey := retag s.byteKey a bs.length tag })
    (.of_groups rfl rfl) (State.examine_staysControl _ a bs.length)

theorem State.violate_staysControl (s : State) (k a : Nat) : StaysControl s (s.violate k a) := .of_groups (by simp) (by simp)

theorem State.writePiece_staysControl (s : State) (who : Asker) (key a : Nat) (bs : List Byte) :
    StaysControl s (s.writePiece who key a bs) :=
  .ite (s.violate_staysControl _ _) (.ite (.of_groups rfl rfl) (s.writeTagged_staysControl _ _ _))

theorem State.flushLines_staysControl (s : State) (lines : List Nat) : StaysControl s (s.flushLines lines) :=
  (StaysControl.foldl (fun s (e : Nat × List Byte) => s.writeTagged_staysControl e.1 e.2 0) _ s).trans (.of_groups rfl rfl)

theorem State.atomicAt_staysControl (s : State) (who : Asker) (p : Pending) (op : AtomOp) (n : Nat) (ps : List Piece)
    (xs : List (Nat × Nat × Nat)) : StaysControl s (s.atomicAt who p op n ps xs).1 := by
  unfold State.atomicAt
  split
  · exact s.violate_staysControl _ _
  · split
    · exact .refl s
    · exact .foldl (fun s q => s.writePiece_staysControl who q.key q.addr _) ps s

theorem State.allocateAt_staysControl {s : State} {tenant n w : Nat} {r : State × Nat} (h : s.allocateAt tenant n w = .ok r) :
    StaysControl s r.1 := by
  unfold State.allocateAt at h
  dsimp only at h
  split at h
  · cases h
  · split at h <;> cases h
    exact .of_groups rfl rfl

theorem State.pavStep_staysControl (s : State) (tenant : Nat) (op : PavOp) : StaysControl s (s.pavStep tenant op).1 := by
  cases op with
  | alloc n ws last d =>
    unfold State.pavStep
    dsimp only
    split
    · exact .refl s
    · next w rest hw =>
      split
      · next r hr => exact State.allocateAt_staysControl hr
      · exact .refl s
  | free w off d =>
    unfold State.pavStep State.deallocate
    dsimp only
    repeat' split
    all_goals exact .of_groups rfl rfl
  | query w d => exact .refl s

/-! Control space (R367, R370). -/

theorem State.writeStart_staysControl (s : State) (die : Nat) (r : CtlReg) (v done : Nat) (started : Bool) (step : Nat) :
    StaysControl s (s.writeStart die r v done started step) := .ite (.of_groups rfl rfl) (.of_groups rfl rfl)

theorem State.startUnit_staysControl (s : State) (die : Nat) (r : CtlReg) (unit : Nat) :
    StaysControl s (s.startUnit die r unit) := .of_groups rfl rfl

theorem State.setUal_staysControl (s : State) (p : Nat) (u : UalPort) : StaysControl s (s.setUal p u) := .of_groups rfl rfl

theorem State.retireFenced_staysControl (s : State) : StaysControl s s.retireFenced :=
  .foldl (fun st p => st.setUal_staysControl p { st.ual p with serve := false, trained := false, retired := true }) _ s

theorem State.writeRail_staysControl (s : State) (die v : Nat) : StaysControl s (s.writeRail die v) := by
  unfold State.writeRail
  extract_lets old good want en goods err s1 s2 s3 d s4
  have h2 : StaysControl s s2 := .trans (t := s1) (.of_groups rfl rfl)
    (.foldl (f := fun st i =>
      if want i then (if bit old i then st else st.startUnit die .rail i) else st.stopUnit die .rail i)
      (fun _ _ => .ite (.ite (.refl _) (.of_groups rfl rfl)) (.of_groups rfl rfl)) _ s1)
  have h3 : StaysControl s s3 := h2.trans (.ite (.of_groups rfl rfl) (.refl _))
  have h4 : StaysControl s s4 := h3.trans (.ite (.of_groups rfl rfl) (.refl _))
  exact h4.trans (.ite (.refl _) (.of_groups rfl rfl))

theorem State.ctlWrite_staysControl (s : State) (who die : Nat) (r : CtlReg) (v : Nat) :
    StaysControl s (s.ctlWrite who die r v) := by
  cases r with
  | rail => exact s.writeRail_staysControl die v
  | cp =>
    refine .ite (.trans (t := s.setReg die .cp (v % 2)) (.of_groups rfl rfl) (.setGroup fun _ => rfl)) (.of_groups rfl rfl)
  | haltq => exact .refl s
  | fuse => exact .refl s
  | devId => exact .ite (.of_groups rfl rfl) (.of_groups rfl rfl)
  | sram => exact .ite (.refl s) (s.writeTagged_staysControl _ _ _)
  | hbm =>
    refine .ite (.refl s) ?_
    have h (x : Nat) : StaysControl s (if bit v 0 then ((s.setReg die .hbm x).startUnit die .hbm 0).stepBegins 5
        else s.setReg die .hbm x) := .ite (.of_groups rfl rfl) (.of_groups rfl rfl)
    exact .ite ((h _).trans (State.startUnit_staysControl _ _ _ _)) (h _)
  | mr => exact .ite (.refl s) (s.writeStart_staysControl _ _ _ _ _ _)
  | ual p =>
    have h := s.writeStart_staysControl die (.ual p) v (maskBits 2 1) (bit v 0) 8
    exact .trans (.ite (h.trans (State.retireFenced_staysControl _)) h) (State.setUal_staysControl _ _ _)
  | ucie | core | pcie | arbCmd | orgTest => exact s.writeStart_staysControl _ _ _ _ _ _
  | page | arbTest | flash | cap => exact .of_groups rfl rfl

theorem State.afterCtlRead_staysControl (s : State) (die : Nat) (r : CtlReg) : StaysControl s (s.afterCtlRead die r) := by
  unfold State.afterCtlRead
  split <;> exact .of_groups rfl rfl

/-! Ports, and the accesses of a group. -/

theorem State.land_staysControl (s : State) (f : Flight) (a : Nat) : StaysControl s (s.land f a) := by
  unfold State.land State.response
  repeat' split
  all_goals exact .of_groups rfl rfl

theorem State.landAccess_staysControl (s : State) (gid : Nat) (a : Access) (u : State) :
    StaysControl u (s.landAccess gid a u) := .foldl (fun _ _ => State.land_staysControl _ _ _) _ u

theorem performAccess_staysControl (gid : Nat) (who : Asker) (s : State) (p : Pending) (a : Access) :
    StaysControl s (performAccess gid who s p a).1 := by
  unfold performAccess
  split
  · exact .refl s
  cases a with
  | load q => 
    dsimp only
    split
    · exact .refl s
    · exact .of_groups (by simp) (by simp)
  | store q bs => exact s.writePiece_staysControl _ _ _ _
  | atomic op n ps xs => exact s.atomicAt_staysControl _ _ _ _ _ _
  | hostFlush lines => exact s.flushLines_staysControl lines
  | hostInvalidate lines => exact .of_groups rfl rfl
  | ctlStore a n v =>
    dsimp only
    split
    · exact s.ctlWrite_staysControl _ _ _ _
    · exact .refl s
  | ctlLoad a n =>
    dsimp only
    split
    · exact s.afterCtlRead_staysControl _ _
    · exact .refl s
  | portQuery id d => exact .refl s
  | pavilion op =>
    have h := s.pavStep_staysControl who.tenant op
    dsimp only
    split <;> rename_i heq <;> simpa only [heq] using h

/-- A fold that carries something beside the machine. -/
theorem StaysControl.foldl_pair {α β : Type} {f : State × β → α → State × β} (hf : ∀ x a, StaysControl x.1 (f x a).1)
    (l : List α) (x : State × β) : StaysControl x.1 (l.foldl f x).1 := by
  induction l generalizing x with
  | nil => exact refl _
  | cons a l ih => exact (hf x a).trans (ih _)

theorem performPending_staysControl (gid : Nat) (who : Asker) (s : State) (p : Pending) :
    StaysControl s (performPending gid who s p).1 :=
  .foldl_pair (fun x a => (performAccess_staysControl gid who x.1 x.2 a).trans (x.1.landAccess_staysControl gid a _))
    p.todo (s, { p with todo := [] })

/-- Performing what a group has issued leaves control processors what they are. -/
theorem State.performAll_staysControl (s : State) (gid : Nat) : StaysControl s (s.performAll gid) := by
  unfold State.performAll
  dsimp only
  refine .trans (.foldl_pair (β := List Pending) (fun x p => performPending_staysControl gid _ x.1 p) _ (s, [])) (.setGroup fun h => h)

end Sys2Proof.Machine

/-!
Checks at issue (R209, R284, R291, R297): a list of tests, beside what the machine computes of them. A list is compared
part by part, each with the function of the model that makes its tests.
-/

namespace Sys2Proof.Rules

open Sys2Proof.Machine

/-! The first test that fails. -/

@[simp] theorem firstKind_nil : firstKind [] = none := rfl

@[simp] theorem firstKind_cons (x : Bool × Nat) (l : List (Bool × Nat)) :
    firstKind (x :: l) = if x.1 then some x.2 else firstKind l := by
  obtain ⟨_ | _, k⟩ := x <;> rfl

@[simp] theorem firstKind_append (l m : List (Bool × Nat)) : firstKind (l ++ m) = (firstKind l).or (firstKind m) := by
  simp [firstKind, Option.map_or]

theorem firstKind_eq_none_iff {l : List (Bool × Nat)} : firstKind l = none ↔ ∀ t ∈ l, t.1 = false := by
  simp [firstKind, List.find?_eq_none]

theorem firstKind_test_eq_none {p : Prop} [Decidable p] {k : Nat} {l : List (Bool × Nat)} :
    firstKind (test p k :: l) = none ↔ ¬ p ∧ firstKind l = none := by
  by_cases hp : p <;> simp [hp]

theorem firstKind_append_eq_none {l m : List (Bool × Nat)} :
    firstKind (l ++ m) = none ↔ firstKind l = none ∧ firstKind m = none := by
  rw [firstKind_append, Option.or_eq_none_iff]

/-- Two tests of one kind are one test. -/
theorem firstKind_merge (p q : Prop) [Decidable p] [Decidable q] (k : Nat) (l : List (Bool × Nat)) :
    firstKind (test p k :: test q k :: l) = firstKind (test (p ∨ q) k :: l) := by
  by_cases hp : p <;> by_cases hq : q <;> simp [hp, hq]

/-- The kind of the first test that fails, where all are of one kind. -/
theorem firstKind_of_kind {l : List (Bool × Nat)} {k : Nat} (hk : ∀ t ∈ l, t.2 = k) (h : firstKind l ≠ none) :
    firstKind l = some k := by
  induction l with
  | nil => simp at h
  | cons t l ih =>
    rw [firstKind_cons] at h ⊢
    split at h
    · next ht => rw [if_pos ht, hk t List.mem_cons_self]
    · next ht => rw [if_neg ht]; exact ih (fun u hu => hk u (List.mem_cons_of_mem t hu)) h

/-! The first fault of a list. -/

@[simp] theorem firstOf_nil : firstOf [] = none := rfl

@[simp] theorem firstOf_cons (o : Option TrapInfo) (l : List (Option TrapInfo)) : firstOf (o :: l) = o.or (firstOf l) := by
  cases o <;> rfl

@[simp] theorem firstOf_append (l m : List (Option TrapInfo)) : firstOf (l ++ m) = (firstOf l).or (firstOf m) := by
  induction l with
  | nil => rfl
  | cons o l ih => simp [ih, Option.or_assoc]

theorem firstOf_map_eq_none {α : Type} {f : α → Option TrapInfo} {l : List α} :
    firstOf (l.map f) = none ↔ ∀ a ∈ l, f a = none := by
  induction l with
  | nil => simp
  | cons a l ih => simp [ih]

/-- A trap that the instruction takes itself, resuming at its own address. -/
structure Precise (x : TrapInfo) : Prop where
  late : x.late = false
  fetch : x.fetch = false
  src : x.src = 0
  resume : x.resume = none

/-- A fault that is found agrees with a list of tests: it is of the kind of the first that fails, and there is none if none
fails. -/
inductive Judged (l : List (Bool × Nat)) : Option TrapInfo → Prop where
  | pass : firstKind l = none → Judged l none
  | fail (x : TrapInfo) : Precise x → firstKind l = some x.kind → Judged l (some x)

/-- The same of a check that has a value where it passes. -/
inductive Yields {α : Type} (l : List (Bool × Nat)) (a : α) : Except TrapInfo α → Prop where
  | pass : firstKind l = none → Yields l a (.ok a)
  | fail (x : TrapInfo) : Precise x → firstKind l = some x.kind → Yields l a (.error x)

namespace Judged

variable {l m : List (Bool × Nat)} {o o' : Option TrapInfo}

theorem eq_none (h : Judged l o) (hl : firstKind l = none) : o = none := by
  cases h with
  | pass => rfl
  | fail x _ hk => simp [hl] at hk

theorem congr (h : Judged m o) (hl : firstKind l = firstKind m) : Judged l o := by
  cases h with
  | pass hm => exact .pass (hl.trans hm)
  | fail x hx hm => exact .fail x hx (hl.trans hm)

theorem eq_none_of_not {p : Prop} [Decidable p] {k : Nat} (h : Judged [test p k] o) (hp : ¬ p) : o = none :=
  h.eq_none (by simp [hp])

theorem firstKind_eq_none (h : Judged l o) (ho : o = none) : firstKind l = none := by
  cases h with
  | pass hl => exact hl
  | fail x _ _ => cases ho

theorem nil : Judged [] none := .pass rfl

/-- A test that the function makes itself. -/
theorem ite {p c : Prop} [Decidable p] [Decidable c] {x : TrapInfo} (hx : Precise x) (hc : c ↔ p) (h : ¬ p → Judged l o) :
    Judged (test p x.kind :: l) (if c then some x else o) := by
  by_cases hp : p
  · rw [if_pos (hc.mpr hp)]; exact .fail x hx (by simp [hp])
  · rw [if_neg (mt hc.mp hp)]
    exact (h hp).congr (by simp [hp])

/-- One test. -/
theorem of_test {p c : Prop} [Decidable p] [Decidable c] {x : TrapInfo} (hx : Precise x) (hc : c ↔ p) :
    Judged [test p x.kind] (if c then some x else none) := .ite hx hc fun _ => .nil

/-- What is tested after a list that passes. -/
theorem append (h : Judged l o) (h' : firstKind l = none → Judged m o') : Judged (l ++ m) (o.or o') := by
  cases h with
  | pass hl =>
    cases h' hl with
    | pass hm => exact .pass (by simp [hl, hm])
    | fail x hx hm => exact .fail x hx (by simp [hl, hm])
  | fail x hx hl => exact .fail x hx (by simp [hl])

/-- Two tests of one kind. -/
theorem or {p q : Prop} [Decidable p] [Decidable q] {k : Nat} (h : Judged [test p k] o) (h' : Judged [test q k] o') :
    Judged [test (p ∨ q) k] (o.or o') :=
  (h.append fun _ => h').congr (firstKind_merge p q k []).symm

/-- One test of each of a list of things. -/
theorem any {α : Type} {p : α → Prop} [DecidablePred p] {k : Nat} {f : α → Option TrapInfo} (h : ∀ a, Judged [test (p a) k] (f a))
    (as : List α) : Judged [test (∃ a ∈ as, p a) k] (firstOf (as.map f)) := by
  induction as with
  | nil => exact .pass (by simp)
  | cons a as ih =>
    have h2 := (h a).or ih
    rw [List.map_cons, firstOf_cons]
    simpa only [List.mem_cons, exists_eq_or_imp] using h2

/-- Every test of each of a list of things. -/
theorem flatMap {α : Type} {g : α → List (Bool × Nat)} {f : α → Option TrapInfo} {as : List α}
    (h : ∀ a ∈ as, Judged (g a) (f a)) :
    Judged (as.flatMap g) (firstOf (as.map f)) := by
  induction as with
  | nil => exact nil
  | cons a as ih =>
    rw [List.flatMap_cons, List.map_cons, firstOf_cons]
    exact (h a List.mem_cons_self).append fun _ => ih fun b hb => h b (List.mem_cons_of_mem a hb)

end Judged

namespace Yields

variable {α : Type} {l m : List (Bool × Nat)} {a : α} {r : Except TrapInfo α}

theorem eq_ok (h : Yields l a r) (hl : firstKind l = none) : r = .ok a := by
  cases h with
  | pass => rfl
  | fail x _ hk => simp [hl] at hk

theorem ok : Yields [] a (.ok a) := .pass rfl

/-- What is tested after a list that passes. -/
theorem option {o : Option TrapInfo} : Judged l o → (firstKind l = none → Yields m a r) →
    Yields (l ++ m) a (match o with | some x => .error x | none => r) := by
  intro ho h
  cases ho with
  | pass hl =>
    cases h hl with
    | pass hm => exact .pass (by simp [hl, hm])
    | fail x hx hm => exact .fail x hx (by simp [hl, hm])
  | fail x hx hl => exact .fail x hx (by simp [hl])

/-- The same of the last tests. -/
theorem option_last {o : Option TrapInfo} (ho : Judged l o) :
    Yields l a (match (generalizing := false) o with | some x => .error x | none => .ok a) := by
  have h := option (a := a) (m := []) ho fun _ => .ok
  rwa [List.append_nil] at h

/-- Tests made by another function that has a value, if it finds no fault. -/
theorem except {β : Type} {b : β} {q : Except TrapInfo β} (hq : Yields l b q) (hf : ∀ x, q = .error x → r = .error x)
    (h : q = .ok b → Yields m a r) : Yields (l ++ m) a r := by
  cases hq with
  | pass hl =>
    cases h rfl with
    | pass hm => exact .pass (by simp [hl, hm])
    | fail x hx hm => exact .fail x hx (by simp [hl, hm])
  | fail x hx hl => rw [hf x rfl]; exact .fail x hx (by simp [hl])

/-- A test that the function makes itself. -/
theorem ite {p c : Prop} [Decidable p] [Decidable c] {x : TrapInfo} (hx : Precise x) (hc : c ↔ p) (h : ¬ p → Yields l a r) :
    Yields (test p x.kind :: l) a (if c then .error x else r) := by
  by_cases hp : p
  · rw [if_pos (hc.mpr hp)]; exact .fail x hx (by simp [hp])
  · rw [if_neg (mt hc.mp hp)]
    cases h hp with
    | pass hl => exact .pass (by simp [hp, hl])
    | fail y hy hl => exact .fail y hy (by simp [hp, hl])

/-- Tests of one kind that the function makes at once. -/
theorem of_kind {c : Prop} [Decidable c] {x : TrapInfo} (hx : Precise x) (hk : ∀ t ∈ l, t.2 = x.kind)
    (hc : c ↔ firstKind l ≠ none) :
    Yields l a (if c then .error x else .ok a) := by
  by_cases h : c
  · rw [if_pos h]; exact .fail x hx (firstKind_of_kind hk (hc.mp h))
  · rw [if_neg h]; exact .pass (not_not.mp (mt hc.mpr h))

end Yields

/-- A body's effect that is the fault of the first test that fails, if one does. -/
def Checks (s : State) (l : List (Bool × Nat)) (e : Eff) : Prop :=
  ∀ n, firstKind l = some n → ∃ x, Precise x ∧ x.kind = n ∧ e = .fault s x

namespace Checks

variable {s : State} {l m : List (Bool × Nat)} {e : Eff}

theorem nil : Checks s [] e := fun _ h => by simp at h

/-- A test that the body makes itself. -/
theorem ite {p c : Prop} [Decidable p] [Decidable c] {x : TrapInfo} (hx : Precise x) (hc : c ↔ p) (h : ¬ p → Checks s l e) :
    Checks s (test p x.kind :: l) (if c then .fault s x else e) := by
  intro n hn
  by_cases hp : p
  · rw [if_pos (hc.mpr hp)]
    exact ⟨x, hx, by simpa [hp] using hn, rfl⟩
  · rw [if_neg (mt hc.mp hp)]
    exact h hp n (by simpa [hp] using hn)

/-- Tests of one kind that the body makes at once. -/
theorem of_kind {c : Prop} [Decidable c] (hk : ∀ t ∈ l, t.2 = 1) (hc : c ↔ firstKind l ≠ none)
    (h : firstKind l = none → Checks s m e) :
    Checks s (l ++ m) (if c then Machine.illegal s else e) := by
  intro n hn
  by_cases hp : c
  · rw [if_pos hp]
    have h1 : n = 1 := by simpa [firstKind_of_kind hk (hc.mp hp)] using hn.symm
    exact ⟨{ kind := 1 }, ⟨rfl, rfl, rfl, rfl⟩, h1.symm, rfl⟩
  · rw [if_neg hp]
    have hl : firstKind l = none := not_not.mp (mt hc.mpr hp)
    exact h hl n (by simpa [hl] using hn)

/-- A test whose failure is an illegal instruction. -/
theorem illegal {p c : Prop} [Decidable p] [Decidable c] (hc : c ↔ p) (h : ¬ p → Checks s l e) :
    Checks s (test p 1 :: l) (if c then Machine.illegal s else e) := ite (x := { kind := 1 }) ⟨rfl, rfl, rfl, rfl⟩ hc h

/-- Tests made by a function of the model that finds the first fault, if there is one. -/
theorem option {o : Option TrapInfo} (ho : Judged l o) (hf : ∀ x, o = some x → e = .fault s x)
    (h : o = none → Checks s m e) : Checks s (l ++ m) e := by
  intro n hn
  cases ho with
  | pass hl => exact h rfl n (by simpa [hl] using hn)
  | fail x hx hl => exact ⟨x, hx, by simpa [hl] using hn, hf x rfl⟩

/-- The same of the last tests. -/
theorem option_last {o : Option TrapInfo} (ho : Judged l o) (hf : ∀ x, o = some x → e = .fault s x) : Checks s l e := by
  simpa using option (m := []) ho hf fun _ => nil

/-- Tests made by a function of the model that has a value, if it finds no fault. -/
theorem except {α : Type} {a : α} {r : Except TrapInfo α} (hr : Yields l a r) (hf : ∀ x, r = .error x → e = .fault s x)
    (h : r = .ok a → Checks s m e) : Checks s (l ++ m) e := by
  intro n hn
  cases hr with
  | pass hl => exact h rfl n (by simpa [hl] using hn)
  | fail x hx hl => exact ⟨x, hx, by simpa [hl] using hn, hf x rfl⟩

/-- The same of the last tests. -/
theorem except_last {α : Type} {a : α} {r : Except TrapInfo α} (hr : Yields l a r) (hf : ∀ x, r = .error x → e = .fault s x) :
    Checks s l e := by
  simpa using except (m := []) hr hf fun _ => nil

/-- An instruction whose body makes the checks takes the fault of the first that fails. -/
theorem faultsWith {i : Instr} {r : State} {n : Nat} {b : Bool} {body : Body} (h : Checks s l (body r)) (hi : Issuing r)
    (hx : exec i r = issue b body r) (hn : firstKind l = some n) : FaultsWith i r s n := by
  obtain ⟨x, ⟨hl, hf, hs, hr⟩, hk, he⟩ := h n hn
  exact ⟨x, hk, hl, hf, hs, hr, hx.trans (issue_fault hi b he)⟩

end Checks

end Sys2Proof.Rules

/-!
The parts of the checks of the matrix instructions: for each function of the model that makes some of them, the tests
that it makes (R204, R209, R270, R271, R284, R297).
-/

namespace Sys2Proof.Rules

open Sys2Proof.Machine

/-! Address records. -/

theorem halfBytes_eq_halves (fmt : Nat) : halfBytes fmt = halves fmt := by
  rcases Nat.lt_or_ge fmt 14 with h | h
  · interval_cases fmt <;> rfl
  · obtain ⟨n, rfl⟩ := Nat.exists_eq_add_of_le' h
    rfl

theorem rb_eq_rowBytes (r : Rec) : r.rb = rowBytes r := by simp only [Rec.rb, rowBytes, halfBytes_eq_halves]

/-- The swizzle is legal (R205). -/
theorem swizzleOk_iff (r : Rec) : r.swizzleOk = true ↔ (r.swz ≠ 0 → r.space = 1 ∧ r.kind = 0 ∧ rowBytes r % (16 * 2 ^ r.swz) = 0
    ∧ r.base % (16 * 2 ^ r.swz) = 0 ∧ r.pitch % (16 * 2 ^ r.swz) = 0) := by
  simp only [Rec.swizzleOk, rb_eq_rowBytes, Bool.or_eq_true, Bool.and_eq_true, beq_iff_eq]
  by_cases h : r.swz = 0 <;> simp [h, and_assoc]

/-- Step 3 of R209 on a record. -/
theorem ok_iff_goodRecord (r : Rec) : r.ok = true ↔ GoodRecord r := by
  have h2 : r.cols % 2 = 1 ↔ ¬ r.cols % 2 = 0 := by omega
  simp only [Rec.ok, Bool.and_eq_true, Bool.not_eq_true', decide_eq_true_eq, bne_iff_ne, swizzleOk_iff, GoodRecord, Nat.pos_iff_ne_zero,
    Bool.and_eq_false_iff, beq_eq_false_iff_ne]
  rcases (by omega : r.kind = 0 ∨ r.kind = 1 ∨ 1 < r.kind) with hk | hk | hk
  · simp [hk]; tauto
  · by_cases hs : r.space = 0 <;> cases hd : r.dir <;> simp [hk, hs] <;> tauto
  · simp [Nat.not_le.mpr hk]

theorem teamAlign_judged (off align : Nat) : Judged [test (off % align ≠ 0) 1] (teamAlign off align) :=
  Judged.of_test (x := { kind := 1, offset := off }) ⟨rfl, rfl, rfl, rfl⟩ Iff.rfl

theorem teamInside_judged (s : State) (off n : Nat) : Judged [test (s.myTask.scratchSize < off + n) 4] (s.teamInside off n) :=
  Judged.of_test (x := { kind := 4, offset := off }) ⟨rfl, rfl, rfl, rfl⟩ Iff.rfl

theorem teamBad_judged (s : State) (off n : Nat) : Judged [test (s.isBad (s.teamAddr off) n = true) 8] (s.teamBad off n) :=
  Judged.of_test (x := { kind := 8, offset := off }) ⟨rfl, rfl, rfl, rfl⟩ Iff.rfl

theorem objectReserved_judged (s : State) (off : Nat) : Judged [test (2 ^ 33 ≤ s.num (s.teamAddr off) 8) 1] (s.objectReserved off) :=
  Judged.of_test (x := { kind := 1, offset := off }) ⟨rfl, rfl, rfl, rfl⟩ Iff.rfl

/-- The first three tests of R209, on the places of records and objects. -/
theorem placesInReach_judged (s : State) (offs objs : List Nat) :
    Judged [test ((∃ o ∈ offs, o % 32 ≠ 0) ∨ ∃ o ∈ objs, o % 8 ≠ 0) 1,
        test ((∃ o ∈ offs, s.myTask.scratchSize < o + 32) ∨ ∃ o ∈ objs, s.myTask.scratchSize < o + 8) 4,
        test ((∃ o ∈ offs, s.isBad (s.teamAddr o) 32 = true) ∨ ∃ o ∈ objs, s.isBad (s.teamAddr o) 8 = true) 8]
      (firstOf (offs.map (teamAlign · 32) ++ objs.map (teamAlign · 8) ++ offs.map (s.teamInside · 32)
        ++ objs.map (s.teamInside · 8) ++ offs.map (s.teamBad · 32) ++ objs.map (s.teamBad · 8))) := by
  have h := ((Judged.any (teamAlign_judged · 32) offs).or (Judged.any (teamAlign_judged · 8) objs)).append fun _ =>
    ((Judged.any (teamInside_judged s · 32) offs).or (Judged.any (teamInside_judged s · 8) objs)).append fun _ =>
    (Judged.any (teamBad_judged s · 32) offs).or (Judged.any (teamBad_judged s · 8) objs)
  simp only [firstOf_append, Option.or_assoc] at h ⊢
  exact h

/-- The third step of R209, on the fields of records and objects. -/
theorem fields_judged (s : State) (offs objs : List Nat) :
    Judged [test ((∃ o ∈ offs, ¬ GoodRecord (s.recAt o)) ∨ ∃ o ∈ objs, 2 ^ 33 ≤ s.num (s.teamAddr o) 8) 1]
      (firstOf ((List.zip offs (offs.map s.recAt)).map (fun x => if x.2.ok then none else some { kind := 1, offset := x.1 })
        ++ objs.map s.objectReserved)) := by
  have hrec (o : Nat) : Judged [test (¬ GoodRecord (s.recAt o)) 1]
      (if (s.recAt o).ok then none else some { kind := 1, offset := o }) := by
    rw [← ite_not]
    exact Judged.of_test (x := { kind := 1, offset := o }) ⟨rfl, rfl, rfl, rfl⟩ (not_congr (ok_iff_goodRecord _))
  have hzip : List.zip offs (offs.map s.recAt) = offs.map fun o => (o, s.recAt o) := List.map_prod_left_eq_zip.symm
  rw [hzip, List.map_map, firstOf_append]
  exact (Judged.any hrec offs).or (Judged.any (objectReserved_judged s) objs)

/-- Steps 1 to 3 of R209. -/
theorem copyRecords_yields (s : State) (offs : List Nat) (obj : Option Nat) :
    Yields (recordChecks s offs obj.toList) (offs.map s.recAt) (s.copyRecords offs obj) := by
  have hf := fields_judged s offs obj.toList
  exact .option (placesInReach_judged s offs obj.toList) fun _ => .option (m := []) hf fun _ => .ok

/-- Step 4 of R209. -/
theorem recSpaceOk_iff (s : State) (r : Rec) : s.recSpaceOk r = true ↔ GoodSpace s r := by
  unfold State.recSpaceOk GoodSpace
  by_cases h : r.kind = 0 <;> simp [h]

/-- R136 for a copy's destination. -/
theorem orangeryDenied_iff (s : State) (r : Rec) :
    s.orangeryDenied ((recSeg s r).base + r.base) r.rows r.pitch r.rb = true ↔ OrangeryShut s r := by
  simp only [State.orangeryDenied, OrangeryShut, State.orangeryMapped, rb_eq_rowBytes, Bool.or_eq_true, List.any_eq_true,
    Bool.and_eq_true, decide_eq_true_eq, beq_iff_eq, and_assoc]

/-- Step 6 of R209. -/
theorem recSegment_judged (s : State) (dst : Bool) (r : Rec) : Judged (segmentChecks s dst r) (s.recSegment dst r) := by
  have hx (k : Nat) : Precise { kind := k, seg := some r.seg, offset := r.base } := ⟨rfl, rfl, rfl, rfl⟩
  unfold segmentChecks State.recSegment
  by_cases hk : r.kind = 0
  · rw [if_neg (not_not.mpr hk), if_neg (not_not.mpr hk)]
    refine .ite (hx 4) (by rw [rb_eq_rowBytes]) fun _ => ?_
    by_cases hd : dst = true ∧ (recSeg s r).space = 3
    · rw [if_pos hd]
      exact .ite (l := [_]) (hx 14) (by simp [hd, orangeryDenied_iff]) fun _ => .pass (by simp [hd])
    · rw [if_neg hd]
      refine .congr (m := [test ((dst = true ∧ (recSeg s r).space ≠ 3 ∧ (recSeg s r).w = false)
        ∨ (dst = false ∧ (recSeg s r).r = false)) 6]) (.of_test (hx 6) ?_) (by simp [← and_assoc, hd])
      cases dst <;> simp_all
  · rw [if_pos hk, if_pos hk]; exact .nil

/-- Step 7 of R209. -/
theorem recPipe_judged (s : State) (dst : Bool) (r : Rec) : Judged (slotChecks s dst r) (s.recPipe dst r) := by
  have hx : Precise { kind := 10 } := ⟨rfl, rfl, rfl, rfl⟩
  unfold slotChecks State.recPipe State.pipe?
  by_cases hk : r.kind = 0
  · rw [if_pos hk, if_pos hk]; exact .nil
  · rw [if_neg hk, if_neg hk]
    cases Map.get? (s.me.plan * 64 + r.pipe) s.pipes with
    | none => exact .fail { kind := 1 } ⟨rfl, rfl, rfl, rfl⟩ rfl
    | some p =>
      refine .congr (m := [test (r.dir = dst) 10, test (r.dir = false ∧ p.producer ≠ s.myTask.stage) 10,
        test (r.dir = true ∧ p.consumers[r.cursor]? ≠ some s.myTask.stage) 10,
        test (r.fmt ≠ p.fmt ∨ r.rows ≠ p.rows ∨ r.cols ≠ p.cols) 10]) ?_ (by simp only [firstKind_merge, or_assoc])
      exact .ite hx Iff.rfl fun _ => .ite hx (by simp) fun _ => .ite hx Iff.rfl fun _ => .of_test hx Iff.rfl

/-! Translation. -/

theorem firstFault_eq_firstOf {α : Type} (f : α → Option TrapInfo) (l : List α) : firstFault f l = firstOf (l.map f) := by
  induction l with
  | nil => rfl
  | cons a l ih =>
    rw [List.map_cons, firstOf_cons, ← ih]
    cases h : f a <;> simp [firstFault, h]

/-- The fault that one byte's translation gives (R141, R146). -/
theorem pageFault_eq (s : State) (va : Nat) :
    pageFault s va = match s.leafFor (s.asker s.me) false va with
      | .error k => some k
      | .ok l => s.leafDenies { r := true } l := by
  unfold pageFault State.leafFor State.leafDenies
  cases s.leaf? (s.asker s.me) va with
  | error k => rfl
  | ok e =>
    by_cases hl : s.leafLost e = true
    · simp [hl]
    · simp [hl]

/-- The translation of one byte, with the place that a fault names. -/
theorem spot_judged (s : State) (va off : Nat) :
    Judged [((pageFault s va).isSome, (pageFault s va).getD 0)]
      (match s.leafFor (s.asker s.me) false va with
        | .error k => some { kind := k, offset := off }
        | .ok l => (s.leafDenies { r := true } l).map fun k => { kind := k, offset := off }) := by
  rw [pageFault_eq]
  cases s.leafFor (s.asker s.me) false va with
  | error k => exact .fail { kind := k, offset := off } ⟨rfl, rfl, rfl, rfl⟩ rfl
  | ok l =>
    cases hd : s.leafDenies { r := true } l with
    | none => simp only [hd, Option.map_none, Option.isSome_none, Option.getD_none]; exact .pass rfl
    | some k => simp only [hd, Option.map_some, Option.isSome_some, Option.getD_some]; exact .fail _ ⟨rfl, rfl, rfl, rfl⟩ rfl

/-- The translation of rows in global space. -/
theorem translateSide_judged (s : State) (g : Segment) (e : Side) (off rows n : Nat) (hslot : e.isSlot = false)
    (hspace : e.space = g.space) (hbase : g.space = 2 → e.base = g.base + off) :
    Judged (pageChecks s g off e.pitch rows n) (s.translateSide e rows n) := by
  unfold pageChecks State.translateSide
  by_cases hg : g.space = 2
  · simp only [hslot, hspace, hg, ne_eq, not_true_eq_false, if_false, or_false, Bool.false_eq_true, firstFault_eq_firstOf, rowPlaces,
      List.map_flatMap, List.map_map, hbase hg]
    refine .flatMap fun i _ => ?_
    rw [List.map_eq_flatMap]
    exact .flatMap fun o _ => spot_judged s _ _
  · simp only [hspace, hg, ne_eq, not_false_eq_true, or_true, if_true]
    exact .nil

end Sys2Proof.Rules

/-!
Format blocks and scale planes (R269 to R271): the model's tests beside those of the statements.
-/

namespace Sys2Proof.Rules

open Sys2Proof.Machine

/-! Formats. -/

theorem fmtClass_eq (fmt : Nat) : fmtClass fmt
    = if fmt = 8 then 1 else if fmt = 9 then 2 else if fmt = 5 ∨ fmt = 6 then 3 else if fmt = 4 then 4 else 0 := by
  rcases Nat.lt_or_ge fmt 10 with h | h
  · interval_cases fmt <;> rfl
  · obtain ⟨n, rfl⟩ := Nat.exists_eq_add_of_le' h
    simp [fmtClass]

/-- K of `mma` (R282). -/
theorem denseK_eq_denseDepth (fmt : Nat) : denseK fmt = denseDepth fmt := by
  unfold denseK denseDepth
  rw [fmtClass_eq]
  split_ifs <;> first | rfl | omega

theorem denseK_mul (sparse : Bool) (fmt : Nat) : denseK fmt * (if sparse = true then 2 else 1) = depthOf sparse fmt := rfl

theorem depthOf_eq (sparse : Bool) (fmt : Nat) :
    depthOf sparse fmt = if sparse then 2 * denseDepth fmt else denseDepth fmt := by
  cases sparse <;> simp [depthOf, denseK_eq_denseDepth, Nat.mul_comm]

theorem oneClass_iff (x y : Nat) : OneClass x y ↔ fmtClass x ≠ 0 ∧ fmtClass x = fmtClass y := by
  rw [fmtClass_eq, fmtClass_eq]
  constructor
  · rintro (⟨rfl, rfl⟩ | ⟨rfl, rfl⟩ | ⟨rfl | rfl, rfl | rfl⟩ | ⟨rfl, rfl⟩) <;> decide
  · rintro ⟨h0, h⟩
    unfold OneClass
    split_ifs at h h0 <;> omega

theorem recFmtOk_iff (r : Rec) (fmt : Nat) : recFmtOk r.fmt fmt = true ↔ FmtMeets r fmt := by
  rcases Nat.lt_or_ge fmt 10 with h | h
  · interval_cases fmt <;> simp [recFmtOk, FmtMeets]
  · obtain ⟨n, rfl⟩ := Nat.exists_eq_add_of_le' h
    simp [recFmtOk, FmtMeets]

/-- The shape of the record of a sparse operand's metadata (R287). -/
theorem metaShape_iff (s : State) (r : Rec) (k : Nat) : metaShape r k = true ∧ s.recSpaceOk r = true ↔ MetaShape s r k := by
  simp only [metaShape, recSpaceOk_iff, MetaShape, Bool.and_eq_true, beq_iff_eq, decide_eq_true_eq]
  tauto

/-! Planes. -/

theorem pitchOk_iff (f : OperandFmt) (k : Nat) : pitchOk f k = true ↔ ¬ ShortPitch f k := by
  have hp : f.packed k = packedPitch f k := rfl
  simp only [pitchOk, ShortPitch, hp, Bool.or_eq_true, bne_iff_ne, beq_iff_eq, decide_eq_true_eq]
  omega

theorem planeLimit_judged (s : State) (f : OperandFmt) (rows k : Nat) :
    Judged [test (PlaneBeyond s f rows k) 4] (s.me.planeLimit f rows k) :=
  .of_test (x := { kind := 4, seg := some f.sseg, offset := f.soff }) ⟨rfl, rfl, rfl, rfl⟩ Iff.rfl

theorem planeRead_judged (s : State) (f : OperandFmt) : Judged [test (PlaneDenied s f) 6] (s.me.planeRead f) :=
  .of_test (x := { kind := 6, seg := some f.sseg, offset := f.soff }) ⟨rfl, rfl, rfl, rfl⟩ (by simp [PlaneDenied, Group.planeSeg])

theorem smodeOk_iff (f : OperandFmt) (h : fmtClass f.fmt ≠ 0) : smodeOk f = true
    ↔ (f.fmt = 4 → f.smode = 1) ∧ (f.fmt = 5 ∨ f.fmt = 6 → f.smode ≤ 2) ∧ (f.fmt = 8 ∨ f.fmt = 9 → f.smode = 0) := by
  have hf : f.fmt = 8 ∨ f.fmt = 9 ∨ f.fmt = 5 ∨ f.fmt = 6 ∨ f.fmt = 4 := by
    rw [fmtClass_eq] at h
    split_ifs at h <;> tauto
  rcases hf with hf | hf | hf | hf | hf <;> simp [smodeOk, hf]

theorem fmtZeros_iff (f : OperandFmt) : fmtZeros f = true
    ↔ (f.smode ≠ 1 → f.soff = 0 ∧ f.sseg = 0 ∧ f.pitch = 0) ∧ (f.smode ≠ 2 → f.tscale = 0) := by
  simp only [fmtZeros, Bool.and_eq_true, Bool.or_eq_true, beq_iff_eq, and_assoc, or_iff_not_imp_left]

theorem planeOk_iff (s : State) (f : OperandFmt) : planeAligned f = true ∧ s.me.planeSpaceOk f = true
    ↔ (f.smode = 1 → f.soff % entryBytes f = 0 ∧ f.pitch % entryBytes f = 0
      ∧ 1 ≤ (planeOf s f).space ∧ (planeOf s f).space ≤ 3) := by
  have hseg : s.me.planeSeg f = planeOf s f := rfl
  have hent : planeEntry f.fmt = entryBytes f := rfl
  by_cases hm : f.smode = 1 <;> simp [planeAligned, Group.planeSpaceOk, hseg, hent, hm, and_assoc, -List.getD_eq_getElem?_getD]

/-- A half of a block satisfies R271. -/
theorem goodHalf_iff (s : State) (f : OperandFmt) (h : fmtClass f.fmt ≠ 0) :
    GoodHalf s f ↔ smodeOk f = true ∧ fmtZeros f = true ∧ planeAligned f = true ∧ s.me.planeSpaceOk f = true := by
  rw [planeOk_iff, fmtZeros_iff, smodeOk_iff f h]
  simp only [GoodHalf, and_assoc]

/-- The tests of a format block that need no K (R271). -/
theorem readBlock_fields (s : State) (fb : FormatBlock) :
    (fb.reserved || fmtClass fb.a.fmt == 0 || fmtClass fb.a.fmt != fmtClass fb.b.fmt || !smodeOk fb.a || !smodeOk fb.b
        || !fmtZeros fb.a || !fmtZeros fb.b || !planeAligned fb.a || !planeAligned fb.b || !s.me.planeSpaceOk fb.a
        || !s.me.planeSpaceOk fb.b) = false
      ↔ fb.reserved = false ∧ OneClass fb.a.fmt fb.b.fmt ∧ GoodHalf s fb.a ∧ GoodHalf s fb.b := by
  by_cases hc : OneClass fb.a.fmt fb.b.fmt
  · have h := (oneClass_iff _ _).mp hc
    rw [goodHalf_iff s fb.a h.1, goodHalf_iff s fb.b (h.2 ▸ h.1)]
    simp [h.2, h.2 ▸ h.1, hc]
    tauto
  · simp only [hc, false_and, and_false, iff_false]
    rw [oneClass_iff, not_and_or, not_not] at hc
    rcases hc with hc | hc <;> simp [hc]

theorem readBlock_yields (s : State) (off : Nat) : Yields (blockChecks s off) (blockOf s off) (s.readBlock off) := by
  have hplace : Judged [test (off % 32 ≠ 0) 1, test (s.myTask.scratchSize < off + 32) 4,
      test (s.isBad (s.teamAddr off) 32 = true) 8] (firstOf [teamAlign off 32, s.teamInside off 32, s.teamBad off 32]) := by
    have h := (teamAlign_judged off 32).append fun _ => (teamInside_judged s off 32).append fun _ => teamBad_judged s off 32
    simpa using h
  refine .option hplace fun _ => .of_kind (x := { kind := 1, offset := off }) ⟨rfl, rfl, rfl, rfl⟩ (by simp) ?_
  rw [← Bool.not_eq_false]
  refine not_congr ((readBlock_fields s (blockOf s off)).trans ?_)
  simp only [firstKind_test_eq_none, firstKind_nil, not_not, Bool.not_eq_true, and_true]

/-! Places. -/

/-- The place of every KIND 0 side in global space is its segment's base and the record's (R135). -/
theorem target_global {s : State} {g : Segment} (h : g.space = 2) (gid t a : Nat) : s.target gid g t a = g.base + a := by
  simp [State.target, h]

/-- The side of a KIND 0 record. -/
theorem sideOf_record (s : State) (off : Nat) {r : Rec} (h : r.kind = 0) :
    (s.sideOf off r).isSlot = false ∧ (s.sideOf off r).space = r.space ∧ (s.sideOf off r).base = s.target s.cur (recSeg s r) 0 r.base
      ∧ (s.sideOf off r).pitch = r.pitch := by
  simp [State.sideOf, h]

/-- The rows of a record, in global space. -/
theorem recPages_judged (s : State) (off : Nat) (r : Rec) (h : GoodSpace s r) :
    Judged (recPages s r) (s.translateSide (s.sideOf off r) r.rows r.rb) := by
  by_cases hk : r.kind = 0
  · obtain ⟨hslot, hspace, hbase, hpitch⟩ := sideOf_record s off hk
    rw [recPages, if_neg (not_not.mpr hk), rb_eq_rowBytes, ← hpitch]
    exact translateSide_judged s (recSeg s r) _ _ _ _ hslot (hspace.trans (h hk).1) fun hg => hbase.trans (target_global hg _ _ _)
  · rw [recPages, if_pos hk]
    simp [State.translateSide, State.sideOf, hk, Judged.nil]

/-- The rows of a scale plane, in global space. -/
theorem planePages_judged (s : State) (f : OperandFmt) (rows k : Nat) :
    Judged (planePages s f rows k)
      (s.translateSide (s.planeStage f rows k).side (s.planeStage f rows k).rows (s.planeStage f rows k).rb) := by
  unfold planePages State.planeStage
  by_cases hm : f.smode = 1
  · rw [if_pos hm, if_neg (not_not.mpr hm)]
    exact translateSide_judged s (planeOf s f) (s.planeSide f k) f.soff rows _ rfl rfl fun hg => target_global hg s.cur 0 f.soff
  · rw [if_neg hm, if_pos hm]
    exact .nil

/-- The same of the plane of an `mvm`'s matrix. -/
theorem matrixPlane_judged (s : State) (fb : FormatBlock) (rows k : Nat) :
    Judged (planePages s fb.b rows k) (s.translateSide (matrixPlane s fb k) rows (fb.b.packed k)) := by
  unfold planePages matrixPlane
  by_cases hm : fb.b.smode = 1
  · rw [if_pos hm, if_neg (not_not.mpr hm)]
    exact translateSide_judged s (planeOf s fb.b) (s.planeSide fb.b k) fb.b.soff rows _ rfl rfl fun hg => target_global hg s.cur 0 fb.b.soff
  · rw [if_neg hm, if_pos hm]
    exact .nil

end Sys2Proof.Rules

/-!
Matrix instructions at issue: the gates before a body's own checks (R22, R30, R278, R280), and the parts of the checks
of a multiply (R284).
-/

namespace Sys2Proof.Rules

open Sys2Proof.Machine

/-! The gates. -/

/-- Performing a group's own accesses makes no control processor of it. -/
theorem Settles.mode_ne_control {s u : State} (h : Settles s u) (hu : u.me.mode ≠ .control) : s.me.mode ≠ .control := by
  obtain ⟨-, rfl⟩ := h
  have hk := s.performAll_staysControl s.cur
  intro hs
  apply hu
  rw [State.me, hk.cur]
  exact hk.mode _ hs

theorem ordered_settles {s u : State} (h : Settles s u) (b : Body) : Machine.ordered b s = b u := by
  obtain ⟨hc, rfl⟩ := h
  simp [Machine.ordered, hc]

theorem matrixGate_empty {s : State} (h : s.me.matFault = none) (b : Body) : matrixGate b s = b s := by
  simp [matrixGate, h]

theorem matrixGate_full {s : State} {k tile off : Nat} (h : s.me.matFault = some (k, tile, off)) (b : Body) :
    matrixGate b s = .fault (s.setMe { s.me with matFault := none }) { kind := k, src := 2, tile := tile, offset := off } := by
  simp [matrixGate, h]

section
variable {s u : State} {t : BitVec 3}

/-- A command on a tile that the team has, with room in the queue (R22, R278). -/
theorem commandBody_room (hs : Settles s u) (hm : s.me.mode ≠ .control) (hr : u.myTask.cmds.length < 8)
    (ht : t.toNat < u.myTask.tiles) (b : Body) : commandBody t b s = matrixGate b u := by
  rw [commandBody, coreOnly_core hm, ordered_settles hs, if_neg (Nat.not_le.mpr hr), if_neg (Nat.not_le.mpr ht)]

theorem commandBody_mayCommand (hs : Settles s u) (hm : MayCommand u t) (b : Body) : commandBody t b s = b u := by
  obtain ⟨⟨hmode, -, hslot⟩, hr, ht⟩ := hm
  rw [commandBody_room hs (hs.mode_ne_control hmode) hr ht, matrixGate_empty hslot]

theorem commandBody_noTile (hs : Settles s u) (hm : s.me.mode ≠ .control) (hr : u.myTask.cmds.length < 8)
    (ht : u.myTask.tiles ≤ t.toNat) (b : Body) : commandBody t b s = illegal u := by
  rw [commandBody, coreOnly_core hm, ordered_settles hs, if_neg (Nat.not_le.mpr hr), if_pos ht]

theorem commandBody_waits (hs : Settles s u) (hm : s.me.mode ≠ .control) (hr : 8 ≤ u.myTask.cmds.length) (b : Body) :
    commandBody t b s = .wait u .room := by
  rw [commandBody, coreOnly_core hm, ordered_settles hs, if_pos hr]

end

/-- Every matrix command is a body behind the gate of commands. -/
theorem Commands.exec_eq {i : Instr} {t : BitVec 3} (h : Commands i t) :
    ∃ m b, ∀ s, exec i s = issue m (commandBody t b) s := by
  cases h <;> exact ⟨_, _, fun _ => rfl⟩

theorem tokenFull_eq_false {g : Group} {k : Nat} (h : (g.token k).pend < 255) : g.tokenFull k = false :=
  decide_eq_false (Nat.not_le.mpr h)

theorem getS_eq_sReg (s : State) (r : Reg) : (s.me.getS r.toNat).toNat = sReg s r := rfl

/-! The records of a multiply. -/

theorem latched_eq (b : Reg) : (b.toNat == 0) = decide (b = 0) := by
  rw [Bool.eq_iff_iff, beq_iff_eq, decide_eq_true_eq, ← BitVec.toNat_inj]; rfl

theorem multiplyRecs_latched {α : Type} (sparse : Bool) (x y z : α) : multiplyRecs sparse 0 x y z = [y] := by
  cases sparse <;> rfl

theorem multiplyRecs_fresh {α : Type} (sparse : Bool) {b : Reg} (hb : b ≠ 0) (x y z : α) :
    multiplyRecs sparse b x y z = x :: y :: (if sparse then [z] else []) := by
  rw [multiplyRecs, if_neg hb, bne_iff_ne.mpr hb, Bool.and_true]; rfl

theorem multiplyRecs_eq {α : Type} (sparse : Bool) (b : Reg) (x y z : α) :
    (if b = 0 then [] else [x]) ++ [y] ++ (if (sparse && !decide (b = 0)) = true then [z] else []) = multiplyRecs sparse b x y z := by
  rw [multiplyRecs, ← beq_eq_decide]; rfl

theorem map_multiplyRecs {α β : Type} (f : α → β) (sparse : Bool) (b : Reg) (x y z : α) :
    (multiplyRecs sparse b x y z).map f = multiplyRecs sparse b (f x) (f y) (f z) := by
  by_cases hb : b = 0
  · rw [hb, multiplyRecs_latched, multiplyRecs_latched]; rfl
  · rw [multiplyRecs_fresh sparse hb, multiplyRecs_fresh sparse hb]; cases sparse <;> rfl

/-- Which of the records is which (R284, R287). -/
theorem headD_multiplyRecs (sparse : Bool) {b : Reg} (hb : b ≠ 0) (x y z d : Rec) : (multiplyRecs sparse b x y z).headD d = x := by
  rw [multiplyRecs_fresh sparse hb]; rfl

theorem second_multiplyRecs (sparse : Bool) (b : Reg) (x y z d : Rec) :
    (if b = 0 then multiplyRecs sparse b x y z else (multiplyRecs sparse b x y z).tail).headD d = y := by
  by_cases hb : b = 0
  · rw [if_pos hb, hb, multiplyRecs_latched]; rfl
  · rw [if_neg hb, multiplyRecs_fresh sparse hb]; rfl

theorem last_multiplyRecs {b : Reg} (hb : b ≠ 0) (x y z d : Rec) : (multiplyRecs true b x y z).getLastD d = z := by
  rw [multiplyRecs_fresh true hb]; rfl

/-! The parts of the checks of a multiply. -/

theorem planes_judged (s : State) (fb : FormatBlock) (ra rb k : Nat) :
    Judged [test (PlaneBeyond s fb.a ra k ∨ PlaneBeyond s fb.b rb k) 4, test (PlaneDenied s fb.a ∨ PlaneDenied s fb.b) 6]
      (firstOf [s.me.planeLimit fb.a ra k, s.me.planeLimit fb.b rb k, s.me.planeRead fb.a, s.me.planeRead fb.b]) := by
  have h := ((planeLimit_judged s fb.a ra k).or (planeLimit_judged s fb.b rb k)).append fun _ =>
    (planeRead_judged s fb.a).or (planeRead_judged s fb.b)
  simpa [Option.or_assoc] using h

theorem multiplySegments_judged (s : State) (b : Reg) (rA : Rec) (recs : List Rec) :
    Judged ((if b = 0 then [] else slotChecks s false rA) ++ recs.flatMap (segmentChecks s false))
      (firstOf ((if b = 0 then [] else [s.recPipe false rA]) ++ recs.map (s.recSegment false))) := by
  rw [firstOf_append]
  refine .append ?_ fun _ => .flatMap fun r _ => recSegment_judged s false r
  split
  · exact .nil
  · simpa using recPipe_judged s false rA

/-- The pages of the operands and their planes. -/
theorem multiplyPages_judged (s : State) (b c : Reg) (fb : FormatBlock) (k : Nat) (rA rB : Rec)
    (hA : b ≠ 0 → GoodSpace s rA ∧ rA.rows = 64) (hB : GoodSpace s rB ∧ rB.rows = 64) :
    Judged ((if b = 0 then [] else recPages s rA) ++ (recPages s rB ++ ((if b = 0 then [] else planePages s fb.a 64 k)
        ++ planePages s fb.b 64 k)))
      (firstOf ([stageA s b rA, stageB s c rB, stageAPlane s b fb k, s.planeStage fb.b 64 k].map
        fun x => s.translateSide x.side x.rows x.rb)) := by
  have hempty : s.translateSide ({} : Stage).side ({} : Stage).rows ({} : Stage).rb = none := rfl
  have hjA : Judged (if b = 0 then [] else recPages s rA)
      (s.translateSide (stageA s b rA).side (stageA s b rA).rows (stageA s b rA).rb) := by
    unfold stageA
    split
    · exact hempty ▸ .nil
    · next hb =>
      obtain ⟨hs, hr⟩ := hA hb
      exact hr ▸ recPages_judged s (sReg s b) rA hs
  have hjB : Judged (recPages s rB) (s.translateSide (stageB s c rB).side (stageB s c rB).rows (stageB s c rB).rb) := by
    have h := recPages_judged s (sReg s c) rB hB.1
    rw [hB.2] at h
    exact h
  have hjAp : Judged (if b = 0 then [] else planePages s fb.a 64 k)
      (s.translateSide (stageAPlane s b fb k).side (stageAPlane s b fb k).rows (stageAPlane s b fb k).rb) := by
    unfold stageAPlane
    split
    · exact hempty ▸ .nil
    · exact planePages_judged s fb.a 64 k
  have h := hjA.append fun _ => hjB.append fun _ => hjAp.append fun _ => planePages_judged s fb.b 64 k
  simpa using h

end Sys2Proof.Rules

/-!
The multiplies (R282 to R288): their faults in the order of R284, and the command that they enter.
-/

namespace Sys2Proof.Rules

open Sys2Proof.Machine

theorem pitches_iff (fa fb : OperandFmt) (k : Nat) :
    (!pitchOk fa k || !pitchOk fb k) = true ↔ ShortPitch fa k ∨ ShortPitch fb k := by
  rw [← not_iff_not, not_or, ← pitchOk_iff, ← pitchOk_iff]
  simp

theorem multiplyRecs_congr {α : Type} {sparse : Bool} {b : Reg} {x x' y z z' : α} (hx : b ≠ 0 → x = x')
    (hz : (sparse && !decide (b = 0)) = true → z = z') : multiplyRecs sparse b x y z = multiplyRecs sparse b x' y z' := by
  by_cases hb : b = 0
  · rw [hb, multiplyRecs_latched, multiplyRecs_latched]
  · rw [multiplyRecs_fresh sparse hb, multiplyRecs_fresh sparse hb, hx hb]
    cases sparse
    · rfl
    · rw [hz (by simpa using hb)]

theorem first_multiplyRecs (sparse : Bool) {b : Reg} (h : b ≠ 0) (x y z : Rec) :
    (if b = 0 then ({} : Rec) else (multiplyRecs sparse b x y z).headD ({} : Rec)) = x := by
  rw [if_neg h, headD_multiplyRecs sparse h]

theorem meta_multiplyRecs {sparse : Bool} {b : Reg} (h : (sparse && !decide (b = 0)) = true) (x y z : Rec) :
    (multiplyRecs sparse b x y z).getLastD ({} : Rec) = z := by
  obtain ⟨rfl, h⟩ := Bool.and_eq_true_iff.mp h
  exact last_multiplyRecs (by simpa using h) ..

/-- The shape of A's record (R284). -/
theorem shapeA_iff (s : State) (r : Rec) (fmt : Nat) :
    (r.rows == 64 && r.cols == denseK fmt && recFmtOk r.fmt fmt
        && (r.kind == 1 && r.dir || (r.kind == 0 && s.recSpaceOk r && (r.space == 1 || r.space == 2)))) = true
      ↔ r.rows = 64 ∧ r.cols = denseDepth fmt ∧ FmtMeets r fmt
        ∧ ((r.kind = 1 ∧ r.dir = true) ∨ (r.kind = 0 ∧ GoodSpace s r ∧ (r.space = 1 ∨ r.space = 2))) := by
  simp only [Bool.and_eq_true, Bool.or_eq_true, beq_iff_eq, recFmtOk_iff, recSpaceOk_iff, denseK_eq_denseDepth, and_assoc]

/-- The shape of B's record (R284). -/
theorem shapeB_iff (s : State) (r : Rec) (fmt k : Nat) :
    (r.rows == 64 && r.cols == k && recFmtOk r.fmt fmt && r.kind == 0 && s.recSpaceOk r && decide (1 ≤ r.space ∧ r.space ≤ 3)) = true
      ↔ r.rows = 64 ∧ r.cols = k ∧ FmtMeets r fmt ∧ r.kind = 0 ∧ GoodSpace s r ∧ 1 ≤ r.space ∧ r.space ≤ 3 := by
  simp only [Bool.and_eq_true, beq_iff_eq, recFmtOk_iff, recSpaceOk_iff, decide_eq_true_eq, and_assoc]

/-- The shapes of a multiply's records, those that it has. -/
theorem shapes_iff {latched useMeta x y z : Bool} {p q r : Prop} [Decidable p] [Decidable q] [Decidable r]
    (hx : latched = false → (x = true ↔ p)) (hy : y = true ↔ q) (hz : useMeta = true → (z = true ↔ r)) :
    (!latched && !x || !y || useMeta && !z) = true
      ↔ firstKind [test (latched = false ∧ ¬ p) 1, test (¬ q) 1, test (useMeta = true ∧ ¬ r) 1] ≠ none := by
  rw [← not_iff_not, not_not, firstKind_test_eq_none, firstKind_test_eq_none, firstKind_test_eq_none, ← hy]
  cases latched <;> cases useMeta <;> simp_all [and_assoc]

theorem shapes_pass {latched useMeta x y z : Bool} (hx : latched = false → x = true) (hy : y = true)
    (hz : useMeta = true → z = true) : (!latched && !x || !y || useMeta && !z) = false := by
  cases latched <;> cases useMeta <;> simp_all

/-- The faults of a multiply at issue, in the order of R284. -/
theorem multiply_checks {s u : State} {t : BitVec 3} (hs : Settles s u) (hm : MayCommand u t) (sparse : Bool) (a b c : Reg) :
    Checks u (multiplyChecks u sparse a b c) (multiplyBody sparse t a b c s) := by
  rw [multiplyBody, commandBody_mayCommand hs hm]
  simp only [multiplyChecks, latched_eq, decide_eq_true_eq, multiplyRecs_eq, ← depthOf_eq, getS_eq_sReg, denseK_mul]
  simp only [List.append_assoc, List.cons_append, List.nil_append]
  refine .ite (x := { kind := 3 }) ⟨rfl, rfl, rfl, rfl⟩ Iff.rfl fun _ => ?_
  refine .except (readBlock_yields u (sReg u a)) (fun x hx => by rw [hx]) fun hb => ?_
  rw [hb]
  refine .illegal (pitches_iff _ _ _) fun _ => ?_
  refine .option (l := [_, _]) (planes_judged u _ _ _ _) (fun x hx => by rw [hx]) fun hp => ?_
  rw [hp]
  refine .illegal (by cases sparse <;> simp) fun _ => ?_
  refine .except (copyRecords_yields u _ none) (fun x hx => by rw [hx]) fun hr => ?_
  rw [hr, map_multiplyRecs]
  dsimp only
  rw [second_multiplyRecs]
  have hA : b ≠ 0 → _ = u.recAt (sReg u b) :=
    fun h => first_multiplyRecs sparse h _ (u.recAt (sReg u c)) (u.recAt (blockOf u (sReg u a)).mdrec)
  have hM : (sparse && !decide (b = 0)) = true → _ = u.recAt (blockOf u (sReg u a)).mdrec :=
    fun h => meta_multiplyRecs h (u.recAt (sReg u b)) (u.recAt (sReg u c)) _
  generalize (if b = 0 then ({} : Rec) else _) = rA at hA ⊢
  generalize (multiplyRecs sparse b _ _ _).getLastD ({} : Rec) = rM at hM ⊢
  have hstage : (if b = 0 then {} else Stage.start (u.sideOf (sReg u b) rA) 64 rA.rb) = stageA u b (u.recAt (sReg u b)) :=
    ite_congr rfl (fun _ => rfl) fun h => by rw [hA h]
  have hpipe : (if b = 0 then [] else [u.recPipe false rA]) = if b = 0 then [] else [u.recPipe false (u.recAt (sReg u b))] :=
    ite_congr rfl (fun _ => rfl) fun h => by rw [hA h]
  rw [multiplyRecs_congr hA hM, hstage, hpipe]
  refine .of_kind (l := [_, _, _]) (by simp) (shapes_iff (fun h => ?_) (shapeB_iff u _ _ _) fun h => ?_) fun hshape => ?_
  · rw [hA (by simpa using h)]; exact shapeA_iff u _ _
  · rw [hM h, Bool.and_eq_true]; exact metaShape_iff u _ _
  rw [firstKind_test_eq_none, firstKind_test_eq_none, firstKind_test_eq_none] at hshape
  obtain ⟨hsA, hsB, -⟩ := hshape
  refine .illegal (by cases u.myTask.latch <;> simp) fun _ => ?_
  rw [← List.append_assoc]
  refine .option (multiplySegments_judged u b _ _) (fun x hx => by rw [hx]) fun hseg => ?_
  rw [hseg]
  refine .option_last (multiplyPages_judged u b c _ _ _ _ (fun h => ?_) ?_) fun x hx => ?_
  · obtain ⟨hrows, -, -, ⟨hk, -⟩ | ⟨-, hs, -⟩⟩ := not_not.mp (not_and.mp hsA (by simpa using h))
    · exact ⟨fun h0 => absurd (h0.symm.trans hk) (by decide), hrows⟩
    · exact ⟨hs, hrows⟩
  · obtain ⟨hrows, -, -, -, hs, -⟩ := not_not.mp hsB
    exact ⟨hs, hrows⟩
  · rw [stageB, stageAPlane] at hx
    rw [hx]

/-- MDREC is a field of 19 bits (R270). -/
theorem blockOf_mdrec_lt (s : State) (off : Nat) : (blockOf s off).mdrec < 2 ^ 19 := Nat.mod_lt _ (by norm_num)

theorem multiplies_of_firstKind {s : State} {sparse : Bool} {a b c : Reg} (h : firstKind (multiplyChecks s sparse a b c) = none) :
    Multiplies s sparse a b c (blockOf s (sReg s a)) (s.recAt (sReg s b)) (s.recAt (sReg s c))
      (s.recAt (blockOf s (sReg s a)).mdrec) := by
  simp only [multiplyChecks, decide_eq_true_eq, multiplyRecs_eq, ← depthOf_eq, firstKind_append_eq_none, firstKind_test_eq_none,
    firstKind_nil, and_true, and_assoc, not_and_not_right, not_not, ne_eq] at h
  obtain ⟨hxm, hblock, hpitch, hlimit, hread, hmd, hrec, hA, hBrows, hBcols, hBfmt, hBkind, hBspace, hBlo, hBhi, hM, hL, hslot, hseg,
    hpagesA, hpagesB, hplaneA, hplaneB⟩ := h
  have hA' (hb : b ≠ 0) := hA (by simpa using hb)
  have hgA (hb : b ≠ 0) : GoodSpace s (s.recAt (sReg s b)) ∧ (s.recAt (sReg s b)).rows = 64 := by
    obtain ⟨hrows, -, -, ⟨hk, -⟩ | ⟨-, hs, -⟩⟩ := hA' hb
    · exact ⟨fun h0 => absurd (h0.symm.trans hk) (by decide), hrows⟩
    · exact ⟨hs, hrows⟩
  exact
    { full := hxm
      block := (readBlock_yields s _).eq_ok hblock
      pitches := by simpa only [pitchOk_iff, ← not_or] using hpitch
      limits := ⟨(planeLimit_judged s _ _ _).eq_none_of_not fun hp => hlimit (.inl hp),
        (planeLimit_judged s _ _ _).eq_none_of_not fun hp => hlimit (.inr hp)⟩
      rights := ⟨(planeRead_judged s _).eq_none_of_not fun hp => hread (.inl hp),
        (planeRead_judged s _).eq_none_of_not fun hp => hread (.inr hp)⟩
      mdrec := by
        have hlt := blockOf_mdrec_lt s (sReg s a)
        refine ⟨?_, hlt⟩
        cases sparse
        · exact (Nat.mod_eq_of_lt hlt).trans (by simpa using hmd)
        · simpa using hmd
      records := by rw [(copyRecords_yields s _ none).eq_ok hrec, map_multiplyRecs]
      shapeA := by simpa only [recFmtOk_iff, recSpaceOk_iff, denseK_eq_denseDepth] using hA'
      shapeB := ⟨hBrows, hBcols, (recFmtOk_iff _ _).mpr hBfmt, hBkind, (recSpaceOk_iff s _).mpr hBspace, hBlo, hBhi⟩
      shapeM := fun hs hb => (metaShape_iff s _ _).mpr (hM (by simpa [hs] using hb))
      latch := fun hb => by
        have hl := not_and.mp hL hb
        simpa [Option.any_eq_true] using hl
      pipe := fun hb => (recPipe_judged s false _).eq_none (by simpa only [if_neg hb] using hslot)
      segments := firstOf_map_eq_none.mp ((Judged.flatMap fun r _ => recSegment_judged s false r).eq_none hseg)
      pages := firstOf_map_eq_none.mp ((multiplyPages_judged s b c _ _ _ _ hgA ⟨hBspace, hBrows⟩).eq_none
        (by simp only [firstKind_append_eq_none, hpagesA, hpagesB, hplaneA, hplaneB, and_self])) }

/-- A multiply whose checks pass enters its command. -/
theorem multiplyBody_ok {s u : State} {t : BitVec 3} (hs : Settles s u) (hm : MayCommand u t) {sparse : Bool} {a b c : Reg}
    {fb : FormatBlock} {rA rB rM : Rec} (h : Multiplies u sparse a b c fb rA rB rM) :
    multiplyBody sparse t a b c s = .ok (multiplyCmd u sparse t b c fb rA rB rM) := by
  obtain ⟨hfull, hblock, ⟨hpA, hpB⟩, ⟨hlA, hlB⟩, ⟨hrA, hrB⟩, ⟨hmd, hmdlt⟩, hrecs, hA, hB, hM, hlatch, hpipe, hsegs,
    hpages⟩ := h
  have hmdrec : (if sparse then fb.mdrec % 32 != 0 else fb.mdrec != 0) = false := by
    cases sparse
    · simpa [Nat.mod_eq_of_lt hmdlt] using (Nat.mod_eq_of_lt hmdlt).symm.trans hmd
    · simpa using hmd
  rw [multiplyBody, commandBody_mayCommand hs hm]
  simp only [latched_eq, decide_eq_true_eq, multiplyRecs_eq, getS_eq_sReg, hblock, denseK_mul, hpA, hpB, hlA, hlB, hrA, hrB, hmdrec, hrecs,
    hfull, ne_eq, not_true_eq_false, if_false, Bool.not_true, Bool.or_false, Bool.false_eq_true, firstOf_cons, firstOf_nil, Option.or_none]
  rw [second_multiplyRecs]
  have hrA' : b ≠ 0 → _ = rA := fun h => first_multiplyRecs sparse h _ rB rM
  have hrM' : (sparse && !decide (b = 0)) = true → _ = rM := fun h => meta_multiplyRecs h rA rB _
  generalize (if b = 0 then ({} : Rec) else _) = rA' at hrA' ⊢
  generalize (multiplyRecs sparse b _ _ _).getLastD ({} : Rec) = rM' at hrM' ⊢
  have hstage : (if b = 0 then {} else Stage.start (u.sideOf (sReg u b) rA') 64 rA'.rb) = stageA u b rA :=
    ite_congr rfl (fun _ => rfl) fun h => by rw [hrA' h]
  have hpipes : firstOf (if b = 0 then [] else [u.recPipe false rA']) = none := by
    split
    · rfl
    · next hb => rw [hrA' hb, hpipe hb]; rfl
  have hmeta : (if (sparse && !decide (b = 0)) = true then Stage.start (u.sideOf fb.mdrec rM') 64 rM'.rb else {})
      = stageMeta u sparse b fb rM := ite_congr rfl (fun h => by rw [hrM' h]) fun _ => rfl
  rw [multiplyRecs_congr hrA' hrM', hstage, hmeta, firstOf_append, hpipes, firstOf_map_eq_none.mpr hsegs]
  have hstages := firstOf_map_eq_none.mpr hpages
  rw [stageB, stageAPlane] at hstages
  rw [shapes_pass (fun h => ?_) ?_ fun h => ?_, if_neg Bool.false_ne_true, if_neg ?_, Option.or_none, hstages]
  · rfl
  · intro h
    obtain ⟨h0, hl⟩ := Bool.and_eq_true_iff.mp h
    obtain ⟨l, hl', hsp, hhalf⟩ := hlatch (of_decide_eq_true h0)
    simp [hl', hsp, hhalf] at hl
  · obtain ⟨hr, hc, hf, hk, hsp, hpart⟩ := hB
    simp [hr, hc, hf, hk, hsp, hpart]
  · have hb : b ≠ 0 := of_decide_eq_false h
    obtain ⟨hr, hc, hf, hk⟩ := hA hb
    simp [hrA' hb, hr, hc, hf, hk, and_assoc]
  · obtain ⟨hsp, hb⟩ := Bool.and_eq_true_iff.mp h
    rw [hrM' h, Bool.and_eq_true]
    exact hM hsp (by simpa using hb)

end Sys2Proof.Rules

/-!
The bytes of memory as numbers (R2), and the format block among them (R270).
-/

namespace Sys2Proof.Machine

theorem leNat_append (xs ys : List Byte) : leNat (xs ++ ys) = leNat xs + 256 ^ xs.length * leNat ys := by
  induction xs with
  | nil => simp [leNat]
  | cons x xs ih => simp only [List.cons_append, leNat, ih, List.length_cons, pow_succ]; ring

theorem leNat_lt (xs : List Byte) : leNat xs < 256 ^ xs.length := by
  induction xs with
  | nil => simp [leNat]
  | cons x xs ih =>
    have hx := x.isLt
    simp only [leNat, List.length_cons, pow_succ]
    omega

theorem State.num_lt (s : State) (a n : Nat) : s.num a n < 256 ^ n := by
  simpa [State.num, State.bytes] using leNat_lt (s.bytes a n)

/-- A range of bytes is its first part and its second. -/
theorem State.num_add (s : State) (a m n : Nat) : s.num a (m + n) = s.num a m + 256 ^ m * s.num (a + m) n := by
  have hb : s.bytes a (m + n) = s.bytes a m ++ s.bytes (a + m) n := by
    simp [State.bytes, List.range_add, Function.comp_def, Nat.add_assoc]
  rw [State.num, hb, leNat_append]
  simp [State.num, State.bytes]

/-- Bytes i to i + j - 1 of a range. -/
theorem State.num_slice (s : State) (a i j k : Nat) : s.num (a + i) j = s.num a (i + j + k) / 256 ^ i % 256 ^ j := by
  rw [Nat.add_assoc, s.num_add a i, s.num_add (a + i) j, Nat.add_mul_div_left _ _ (by positivity),
    Nat.div_eq_of_lt (s.num_lt a i), Nat.zero_add, Nat.add_mul_mod_self_left, Nat.mod_eq_of_lt (s.num_lt _ _)]

end Sys2Proof.Machine

namespace Sys2Proof.Rules

open Sys2Proof.Machine

/-- A half of a format block, from its doubleword and its pitch (R270). -/
theorem operandFmt_halfAt (s : State) (off i pitch : Nat) (hp : pitch = s.num (s.teamAddr off + 20 + 2 * i) 2) :
    HalfAt s off i (operandFmt (s.num (s.teamAddr off + 8 * i) 8) pitch) := by
  have h0 := s.num_slice (s.teamAddr off + 8 * i) 0 1 7
  have h1 := s.num_slice (s.teamAddr off + 8 * i) 1 1 6
  have h2 := s.num_slice (s.teamAddr off + 8 * i) 2 1 5
  have h3 := s.num_slice (s.teamAddr off + 8 * i) 3 5 0
  norm_num at h0 h1 h2 h3
  constructor <;> simp only [operandFmt, bits] <;> omega

/-- The block that the machine reads is the one that stands in scratchpad (R270). -/
theorem blockAt_blockOf (s : State) (off : Nat) : BlockAt s off (blockOf s off) := by
  have hw2 (i j k : Nat) := s.num_slice (s.teamAddr off + 16) i j k
  have hpa := hw2 4 2 2
  have hpb := hw2 6 2 0
  have hmd := hw2 0 3 5
  have hres := hw2 2 2 4
  norm_num [Nat.add_assoc] at hpa hpb hmd hres
  have h00 := s.num_slice (s.teamAddr off) 0 1 7
  have h02 := s.num_slice (s.teamAddr off) 2 1 5
  have h10 := s.num_slice (s.teamAddr off + 8) 0 1 7
  have h12 := s.num_slice (s.teamAddr off + 8) 2 1 5
  norm_num [Nat.add_assoc] at h00 h02 h10 h12
  exact
    { a := operandFmt_halfAt s off 0 _ (by simpa [bits] using hpa.symm)
      b := operandFmt_halfAt s off 1 _ (by simpa [bits] using hpb.symm)
      mdrec := by simp only [blockOf, formatBlock, bits]; omega
      half := rfl
      reserved := by
        simp only [blockOf, formatBlock, bits, Bool.or_eq_true, bne_iff_ne]
        omega }

end Sys2Proof.Rules

/-!
The tile moves (R291), and the row that `vpopa` delivers (R280, R292).
-/

namespace Sys2Proof.Rules

open Sys2Proof.Machine

/-- The checks of a tile move's record. -/
theorem tileRecord_yields (s : State) (a : Reg) (dst : Bool) (obj : Option Nat) :
    Yields (tileChecks s a dst obj) (s.recAt (sReg s a)) (s.tileRecord (sReg s a) dst obj) := by
  unfold tileChecks State.tileRecord
  dsimp only
  rw [List.append_assoc]
  refine .except (copyRecords_yields s [sReg s a] obj) (fun x hx => by rw [hx]) fun hok => ?_
  rw [hok]
  refine .ite (l := segmentChecks s dst _) (x := { kind := 1, offset := sReg s a }) ⟨rfl, rfl, rfl, rfl⟩ ?_ fun _ =>
    .option_last (recSegment_judged s dst _)
  simp only [← recSpaceOk_iff, List.map_cons, List.headD_cons, Bool.not_eq_true', ← Bool.not_eq_true, not_and_or, not_or, not_le, ne_eq]

theorem tileRecord_of_firstKind {s : State} {a : Reg} {dst : Bool} {obj : Option Nat} (h : firstKind (tileChecks s a dst obj) = none) :
    TileRecord s a dst obj (s.recAt (sReg s a)) := by
  simp only [tileChecks, firstKind_append_eq_none, firstKind_test_eq_none, firstKind_nil, and_true, and_assoc, not_not] at h
  obtain ⟨hrec, hk, hs, hg, hf, hrows, hcols, hp, hseg⟩ := h
  exact ⟨(copyRecords_yields s _ obj).eq_ok hrec, hk, hs, (recSpaceOk_iff s _).mpr hg, hf, hrows, hcols, hp,
    (recSegment_judged s dst _).eq_none hseg⟩

theorem tileRecord_ok {s : State} {a : Reg} {dst : Bool} {obj : Option Nat} {r : Rec} (h : TileRecord s a dst obj r) :
    s.tileRecord (sReg s a) dst obj = .ok r := by
  obtain ⟨hrec, hk, hs, hg, hf, hrows, hcols, hp, hseg⟩ := h
  have hp' : ¬ r.pitch < 256 := Nat.not_lt.mpr hp
  have hf' : ¬ (r.fmt ≠ 10 ∧ r.fmt ≠ 2) := by omega
  simp [State.tileRecord, hrec, hk, hs, hg, hrows, hcols, hseg, hp', hf']

theorem object_eq (s : State) (b : Reg) : s.me.object b = objectOf s b := by
  have h := latched_eq b
  rw [beq_eq_decide, decide_eq_decide] at h
  exact ite_congr (propext h) (fun _ => rfl) fun _ => rfl

section
variable {s u : State} {t : BitVec 3}

theorem mldaccBody_ok (hs : Settles s u) (hm : MayCommand u t) {a : Reg} {r : Rec} (h : TileRecord u a false none r) :
    mldaccBody t a s = .ok (u.enterCmd { u.newCmd .mldacc t with
      side := u.sideOf (sReg u a) r, stages := [{ Stage.start (u.sideOf (sReg u a) r) 64 256 with direct := false }] } none) := by
  rw [mldaccBody, commandBody_mayCommand hs hm]
  have ht := tileRecord_ok h
  rw [sReg] at ht
  simp only [ht]
  rfl

theorem mldacc_checks (hs : Settles s u) (hm : MayCommand u t) (a : Reg) :
    Checks u (tileChecks u a false none) (mldaccBody t a s) := by
  rw [mldaccBody, commandBody_mayCommand hs hm]
  refine .except_last (tileRecord_yields u a false none) fun x hx => ?_
  rw [sReg] at hx
  simp only [hx]

theorem mstaccBody_ok (hs : Settles s u) (hm : MayCommand u t) {a b : Reg} {r : Rec} (h : TileRecord u a true (objectOf u b) r) :
    mstaccBody t a b s = .ok (u.enterCmd { u.newCmd .mstacc t with
      side := u.sideOf (sReg u a) r, obj := (objectOf u b).map u.teamAddr } none) := by
  rw [mstaccBody, commandBody_mayCommand hs hm]
  have ht := tileRecord_ok h
  rw [sReg] at ht
  simp only [object_eq, ht]
  rfl

theorem mstacc_checks (hs : Settles s u) (hm : MayCommand u t) (a b : Reg) :
    Checks u (tileChecks u a true (objectOf u b)) (mstaccBody t a b s) := by
  rw [mstaccBody, commandBody_mayCommand hs hm]
  refine .except_last (tileRecord_yields u a true _) fun x hx => ?_
  rw [sReg] at hx
  simp only [object_eq, hx]

end

/-! The oldest row of the accumulator queue (R292). -/

/-- What `vpopa` does with an empty fault slot. -/
def popRow (d : Reg) : Body := fun u => match u.myTask.accq with
  | [] => .wait u .accRow
  | r :: rest => (u.modTask u.me.task fun t => { t with accq := rest }).pushResult
      (u.me.actives.map fun i => .v d.toNat i (r.getD i 0))

/-- `vpopa` passes its tests, and the fault slot is asked (R280). -/
theorem vpopaBody_gate {s : State} {d : Reg} (hm : s.me.mode ≠ .control) (ht : s.myTask.tiles ≠ 0) (hr : HasRoom s)
    (hd : d.toNat < s.me.budget) : vpopaBody d s = matrixGate (popRow d) s := by
  rw [vpopaBody, coreOnly_core hm, if_neg (by omega), withResult_of_hasRoom hr]
  rfl

theorem vpopaBody_noTiles {s : State} (d : Reg) (hm : s.me.mode ≠ .control) (ht : s.myTask.tiles = 0) : vpopaBody d s = illegal s := by
  rw [vpopaBody, coreOnly_core hm, if_pos (Or.inr ht)]

theorem popRow_nil {s : State} (d : Reg) (h : s.myTask.accq = []) : popRow d s = .wait s .accRow := by
  simp only [popRow, h]

theorem popRow_cons {s : State} (d : Reg) {r : Lanes} {rest : List Lanes} (hr : HasRoom s) (h : s.myTask.accq = r :: rest) :
    popRow d s = .ok ((s.modTask s.me.task fun t => { t with accq := rest }).setMe (queued s.me
      { pc := s.me.pc, writes := (active s.me).map fun t => .v d.toNat t (r.getD t 0), result := true })) := by
  simp only [popRow, h]
  exact push_of_hasRoom (s := s.modTask s.me.task fun t => { t with accq := rest }) hr _

end Sys2Proof.Rules

/-!
The matrix-vector product at issue (R295 to R297).
-/

namespace Sys2Proof.Rules

open Sys2Proof.Machine

/-! Stack-matrix layout (R295). -/

/-- The leaf and the place of a virtual address, where it translates. -/
def leafPlace (s : State) (va : Nat) : Option (Nat × Nat) := (s.leaf? (s.asker s.me) va).toOption.map fun e => (e, s.place e va)

/-- The leaf and the stack of one. -/
def leafStack (x : Nat × Nat) : Nat × Nat := (x.1, x.2 / 2 ^ 36)

theorem leafFor_of_pageFault {s : State} {va : Nat} (h : pageFault s va = none) :
    s.leafFor (s.asker s.me) false va = s.leaf? (s.asker s.me) va := by
  unfold pageFault at h
  unfold State.leafFor
  cases hl : s.leaf? (s.asker s.me) va with
  | error k => rfl
  | ok e =>
    have hlost : s.leafLost e = false := by
      by_contra hlost
      simp [hl, Bool.not_eq_false _ ▸ hlost] at h
    simp [hlost]

theorem pageChecks_pass {s : State} {g : Segment} {off pitch rows n : Nat} (hg : g.space = 2)
    (h : firstKind (pageChecks s g off pitch rows n) = none) :
    ∀ va ∈ rowPlaces (g.base + off) pitch rows n, pageFault s va = none := by
  intro va hva
  rw [pageChecks, if_neg (not_not.mpr hg), firstKind_eq_none_iff, List.forall_mem_map] at h
  exact Option.isSome_eq_false_iff.mp (h va hva) |> Option.isNone_iff_eq_none.mp

/-- Where every page translates, the leaves of a side are those of its rows' places. -/
theorem sideLeaves_eq {s : State} {e : Side} {rows n : Nat} (h : ∀ va ∈ rowPlaces e.base e.pitch rows n, pageFault s va = none) :
    s.sideLeaves e rows n = (rowPlaces e.base e.pitch rows n).filterMap (leafPlace s) := by
  have hl (va : Nat) (hva : va ∈ rowPlaces e.base e.pitch rows n) : (match s.leafFor (s.asker s.me) false va with
      | .ok l => some (l, s.place l va)
      | .error _ => none) = leafPlace s va := by
    rw [leafFor_of_pageFault (h va hva), leafPlace]
    cases s.leaf? (s.asker s.me) va <;> rfl
  rw [← List.filterMap_congr hl, rowPlaces, List.filterMap_flatMap]
  simp only [List.filterMap_map]
  rfl

theorem oneStack_iff (s : State) (vas : List Nat) : OneStack s vas ↔
    ((vas.filterMap (leafPlace s)).all fun l => leafAperture l.1 == 1 && decide (2 ≤ leafPsize l.1)
      && stackOf l.2 == stackOf ((vas.filterMap (leafPlace s)).headD (0, 0)).2) = true := by
  have hl : (vas.filterMap fun va => (s.leaf? (s.asker s.me) va).toOption.map fun e => (e, s.place e va / 2 ^ 36))
      = (vas.filterMap (leafPlace s)).map leafStack := by
    rw [List.map_filterMap]
    congr 1
    funext va
    simp [leafPlace, leafStack, Function.comp_def]
  unfold OneStack
  rw [hl]
  generalize vas.filterMap (leafPlace s) = ls
  rw [List.forall_mem_map]
  cases ls with
  | nil => simp
  | cons x xs =>
    simp only [List.all_eq_true, List.map_cons, List.head?_cons, Option.map_some, Option.some.injEq, List.headD_cons,
      Bool.and_eq_true, beq_iff_eq, decide_eq_true_eq, leafStack, stackOf, and_assoc]

/-- The places of a matrix and its plane that lie in global space (R297). -/
def matrixPlaces (s : State) (r : Rec) (f : OperandFmt) (n : Nat) : List Nat :=
  rowPlaces ((recSeg s r).base + r.base) r.pitch r.rows (rowBytes r)
    ++ if f.smode = 1 ∧ (planeOf s f).space = 2 then rowPlaces ((planeOf s f).base + f.soff) (planePitch f n) r.rows (packedPitch f n)
       else []

theorem recLeaves_eq {s : State} {off : Nat} {r : Rec} (hk : r.kind = 0) (hs : r.space = 2)
    (hg : GoodSpace s r) (hr : firstKind (recPages s r) = none) : s.sideLeaves (s.sideOf off r) r.rows r.rb
      = (rowPlaces ((recSeg s r).base + r.base) r.pitch r.rows (rowBytes r)).filterMap (leafPlace s) := by
  obtain ⟨hslot, hspace, hbase, hpitch⟩ := sideOf_record s off hk
  have hseg : (recSeg s r).space = 2 := (hg hk).1.symm.trans hs
  have hbase' : (s.sideOf off r).base = (recSeg s r).base + r.base := hbase.trans (target_global hseg _ _ _)
  rw [recPages, if_neg (not_not.mpr hk)] at hr
  have hpass := pageChecks_pass hseg hr
  rw [← hbase', ← hpitch] at hpass ⊢
  rw [rb_eq_rowBytes]
  exact sideLeaves_eq hpass

theorem planeLeaves_eq {s : State} {fb : FormatBlock} {rows n : Nat} (hp : firstKind (planePages s fb.b rows n) = none) :
    (if (matrixPlane s fb n).space = 2 then s.sideLeaves (matrixPlane s fb n) rows (fb.b.packed n) else [])
      = (if fb.b.smode = 1 ∧ (planeOf s fb.b).space = 2
          then rowPlaces ((planeOf s fb.b).base + fb.b.soff) (planePitch fb.b n) rows (packedPitch fb.b n) else []).filterMap
          (leafPlace s) := by
  by_cases hm : fb.b.smode = 1
  · have hplane : matrixPlane s fb n = s.planeSide fb.b n := if_pos hm
    have hspace : (s.planeSide fb.b n).space = (planeOf s fb.b).space := rfl
    rw [planePages, if_neg (not_not.mpr hm)] at hp
    rw [hplane, hspace]
    by_cases hs : (planeOf s fb.b).space = 2
    · have hbase : (s.planeSide fb.b n).base = (planeOf s fb.b).base + fb.b.soff := target_global hs _ _ _
      rw [if_pos hs, if_pos ⟨hm, hs⟩, ← hbase]
      exact sideLeaves_eq (by rw [hbase]; exact pageChecks_pass hs hp)
    · rw [if_neg hs, if_neg fun h => hs h.2, List.filterMap_nil]
  · have hplane : matrixPlane s fb n = {} := if_neg hm
    rw [hplane, if_neg (by decide), if_neg fun h => hm h.1, List.filterMap_nil]

/-- The model's test of the layout is R295's. -/
theorem stackLayout_iff {s : State} {off : Nat} {r : Rec} {fb : FormatBlock} {n : Nat} (hk : r.kind = 0) (hs : r.space = 2)
    (hg : GoodSpace s r) (hr : firstKind (recPages s r) = none) (hp : firstKind (planePages s fb.b r.rows n) = none) :
    s.stackLayout r (s.sideOf off r)
        (if (matrixPlane s fb n).space = 2 then s.sideLeaves (matrixPlane s fb n) r.rows (fb.b.packed n) else []) = true
      ↔ ¬ (r.base % 256 ≠ 0 ∨ r.pitch % 512 ≠ 256 ∨ r.pitch < rowBytes r ∨ ¬ OneStack s (matrixPlaces s r fb.b n)) := by
  rw [State.stackLayout, recLeaves_eq hk hs hg hr, planeLeaves_eq hp, ← List.filterMap_append, not_or, not_or, not_or, not_not,
    oneStack_iff, rb_eq_rowBytes]
  simp only [matrixPlaces, Bool.and_eq_true, beq_iff_eq, decide_eq_true_eq, ne_eq, not_not, not_lt, and_assoc]

/-! The checks. -/

/-- The segments that a product names, and the limits of its planes. -/
theorem productSegments_judged (s : State) (fb : FormatBlock) (rA rB rD : Rec) (n : Nat) :
    Judged (segmentChecks s false rA ++ (segmentChecks s false rB ++ (segmentChecks s true rD
        ++ [test (PlaneBeyond s fb.a 1 n ∨ PlaneBeyond s fb.b rB.rows n) 4])))
      (firstOf [s.recSegment false rA, s.recSegment false rB, s.recSegment true rD, s.me.planeLimit fb.a 1 n,
        s.me.planeLimit fb.b rB.rows n]) := by
  have h := (recSegment_judged s false rA).append fun _ => (recSegment_judged s false rB).append fun _ =>
    (recSegment_judged s true rD).append fun _ => (planeLimit_judged s fb.a 1 n).or (planeLimit_judged s fb.b rB.rows n)
  simpa using h

/-- The pages of the matrix and its plane. -/
theorem productPages_judged (s : State) (off : Nat) (fb : FormatBlock) (r : Rec) (n : Nat) (h : GoodSpace s r) :
    Judged (recPages s r ++ planePages s fb.b r.rows n)
      (firstOf [s.translateSide (s.sideOf off r) r.rows r.rb, s.translateSide (matrixPlane s fb n) r.rows (fb.b.packed n)]) := by
  have hj := (recPages_judged s off r h).append fun _ => matrixPlane_judged s fb r.rows n
  simpa using hj

/-- The gates before the checks of `mvm`. -/
theorem mvmBody_eq (k : BitVec 3) (a b c : Reg) : ∃ core : State → Body, ∀ s, mvmBody k a b c s
    = coreOnly (Machine.ordered fun s => if s.me.tokenFull k.toNat then .wait s .room else if s.myTask.tiles = 0 then illegal s
      else matrixGate (core s) s) s := ⟨_, fun _ => rfl⟩

end Sys2Proof.Rules

/-!
The matrix-vector product (R295 to R297): its faults in the order of R297, and the product that it starts.
-/

namespace Sys2Proof.Rules

open Sys2Proof.Machine

/-- The shapes of a product's records, and the pitches of its planes (R295, R297). -/
theorem productShape_iff (s : State) (fb : FormatBlock) (rA rB rD : Rec) :
    (rA.kind == 0 && rA.space == 1 && rA.rows == 1 && rA.cols % 32 == 0 && rB.kind == 0 && rB.space == 2
          && rB.cols == rA.cols && rD.kind == 0 && rD.space == 1 && (rD.fmt == 10 || rD.fmt == 2) && rD.rows == 1
          && rD.cols == rB.rows && recFmtOk rA.fmt fb.a.fmt && recFmtOk rB.fmt fb.b.fmt && pitchOk fb.a rA.cols && pitchOk fb.b rA.cols
          && [rA, rB, rD].all s.recSpaceOk) = true
      ↔ ¬ (¬ (rA.kind = 0 ∧ rA.space = 1 ∧ rA.rows = 1 ∧ rA.cols % 32 = 0 ∧ FmtMeets rA fb.a.fmt
          ∧ rB.kind = 0 ∧ rB.space = 2 ∧ rB.cols = rA.cols ∧ FmtMeets rB fb.b.fmt
          ∧ rD.kind = 0 ∧ rD.space = 1 ∧ (rD.fmt = 10 ∨ rD.fmt = 2) ∧ rD.rows = 1 ∧ rD.cols = rB.rows
          ∧ GoodSpace s rA ∧ GoodSpace s rB ∧ GoodSpace s rD) ∨ ShortPitch fb.a rA.cols ∨ ShortPitch fb.b rA.cols) := by
  simp only [not_or, not_not, ← pitchOk_iff, ← recFmtOk_iff, ← recSpaceOk_iff, List.all_cons, List.all_nil, Bool.and_eq_true,
    Bool.or_eq_true, beq_iff_eq, and_true, and_assoc]
  tauto

theorem planeRights_judged (s : State) (fb : FormatBlock) :
    Judged [test (PlaneDenied s fb.a ∨ PlaneDenied s fb.b) 6] (firstOf [s.me.planeRead fb.a, s.me.planeRead fb.b]) := by
  simpa using (planeRead_judged s fb.a).or (planeRead_judged s fb.b)

/-- The steps of R297, each beside what the model makes of it. -/
theorem productSteps_eq {α : Type} (block rights records shape segA segB segD limit pages planes layout : List α) :
    block ++ rights ++ records ++ shape ++ segA ++ segB ++ segD ++ limit ++ pages ++ planes ++ layout
      = block ++ (rights ++ (records ++ (shape ++ ((segA ++ (segB ++ (segD ++ limit))) ++ ((pages ++ planes) ++ layout))))) := by
  simp only [List.append_assoc]

section
variable {s u : State} {k : BitVec 3}

/-- The faults of a product at issue, in the order of R297. -/
theorem product_checks (hs : Settles s u) (hm : MatrixGroup u) (hk : (u.me.token k.toNat).pend < 255) (a b c : Reg) :
    Checks u (productChecks u a b c) (mvmBody k a b c s) := by
  obtain ⟨hmode, htiles, hslot⟩ := hm
  rw [mvmBody, coreOnly_core (hs.mode_ne_control hmode), ordered_settles hs]
  simp only [tokenFull_eq_false hk, Bool.false_eq_true, if_false, htiles, getS_eq_sReg, matrixGate_empty hslot]
  unfold productChecks
  dsimp only
  rw [productSteps_eq]
  refine .except (readBlock_yields u (sReg u a)) (fun x hx => by rw [hx]) fun hb => ?_
  rw [hb]
  dsimp only
  refine .option (planeRights_judged u _) (fun x hx => by rw [hx]) fun hp => ?_
  rw [hp]
  refine .except (copyRecords_yields u _ none) (fun x hx => by rw [hx]) fun hr => ?_
  rw [hr]
  have hplane (n : Nat) : (if (blockOf u (sReg u a)).b.smode = 1 then u.planeSide (blockOf u (sReg u a)).b n else {})
      = matrixPlane u (blockOf u (sReg u a)) n := rfl
  simp only [List.map_cons, List.map_nil, List.headD_cons, List.getD_cons_succ, List.getD_cons_zero, List.singleton_append, hplane]
  refine .illegal (by rw [Bool.not_eq_true', ← Bool.not_eq_true, productShape_iff, not_not]) fun hshape => ?_
  obtain ⟨-, -, -, -, -, hkB, hsB, -, -, -, -, -, -, -, -, hgB, -⟩ := not_not.mp (not_or.mp hshape).1
  refine .option (productSegments_judged u _ _ _ _ _) (fun x hx => by rw [hx]) fun hseg => ?_
  rw [hseg]
  have hpages := productPages_judged u (sReg u c) (blockOf u (sReg u a)) _ (u.recAt (sReg u b)).cols hgB
  refine .option hpages (fun x hx => by rw [hx]) fun hpass => ?_
  rw [hpass]
  obtain ⟨hpB, hpP⟩ := firstKind_append_eq_none.mp (hpages.firstKind_eq_none hpass)
  have hl := stackLayout_iff (off := sReg u c) hkB hsB hgB hpB hpP
  exact .illegal (by rw [Bool.not_eq_true', ← Bool.not_eq_true, hl, not_not]; rfl) fun _ => .nil

/-- The product that `mvm` starts, counted by its token (R295, R296). -/
def startedProduct (u : State) (k : BitVec 3) (b c : Reg) (fb : FormatBlock) (rA rB rD : Rec) : State :=
  let v := u.setMe (u.me.setToken k.toNat { u.me.token k.toNat with pend := (u.me.token k.toNat).pend + 1 })
  { v with
    nextTicket := v.nextTicket + 1
    mvms := v.mvms.put v.nextTicket
      { owner := u.cur, task := u.me.task, plan := u.me.plan, who := u.asker u.me, token := k.toNat, k := rA.cols
        n := rB.rows, fa := fb.a, fb := fb.b, a := Stage.start (u.sideOf (sReg u b) rA) 1 rA.rb
        ap := u.planeStage fb.a 1 rA.cols, b := Stage.start (u.sideOf (sReg u c) rB) rB.rows rB.rb
        bp := u.planeStage fb.b rB.rows rA.cols, dst := u.sideOf fb.mdrec rD, todo := [(0, 4 * rB.rows)] } }

/-- A product whose checks pass starts. -/
theorem mvmBody_ok (hs : Settles s u) (hm : MatrixGroup u) {a b c : Reg} {fb : FormatBlock} {rA rB rD : Rec}
    (h : Products u k a b c fb rA rB rD) : mvmBody k a b c s = .ok (startedProduct u k b c fb rA rB rD) := by
  obtain ⟨hmode, htiles, hslot⟩ := hm
  obtain ⟨hpend, hblock, hrecs, ⟨hkA, hsA, hrowsA, hcolsA, hfA⟩, ⟨hkB, hsB, hcolsB, hfB⟩, ⟨hkD, hsD, hfD, hrowsD, hcolsD⟩,
    ⟨hgA, hgB, hgD⟩, ⟨hpA, hpB⟩, ⟨hsegA, hsegB, hsegD⟩, ⟨hlA, hlB⟩, ⟨hrA, hrB⟩, ⟨hpages, hplane⟩, hlayout⟩ := h
  have hmp (n : Nat) : (if fb.b.smode = 1 then u.planeSide fb.b n else {}) = matrixPlane u fb n := rfl
  rw [mvmBody, coreOnly_core (hs.mode_ne_control hmode), ordered_settles hs]
  simp only [tokenFull_eq_false hpend, Bool.false_eq_true, if_false, htiles, getS_eq_sReg, matrixGate_empty hslot, hblock, hrA,
    hrB, hrecs, hmp, firstOf_cons, firstOf_nil, Option.or_none, List.headD_cons, List.getD_cons_succ, List.getD_cons_zero, hsegA,
    hsegB, hsegD, hlA, hlB, hpages, hplane, hlayout, Bool.not_true]
  rw [if_neg]
  · rfl
  · rcases hfD with hfD | hfD <;>
      simp [hkA, hsA, hrowsA, hcolsA, hfA, hkB, hsB, hcolsB, hfB, hkD, hsD, hfD, hrowsD, hcolsD, hpA, hpB, hgA, hgB, hgD]

theorem products_of_firstKind {s : State} {k : BitVec 3} {a b c : Reg} (hk : (s.me.token k.toNat).pend < 255)
    (h : firstKind (productChecks s a b c) = none) :
    Products s k a b c (blockOf s (sReg s a)) (s.recAt (sReg s b)) (s.recAt (sReg s c)) (s.recAt (blockOf s (sReg s a)).mdrec) := by
  unfold productChecks at h
  dsimp only at h
  rw [productSteps_eq] at h
  simp only [firstKind_append_eq_none, firstKind_test_eq_none, firstKind_nil, and_true, and_assoc] at h
  obtain ⟨hblock, hread, hrec, hshape, hsegA, hsegB, hsegD, hlimit, hpages, hplane, hlayout⟩ := h
  obtain ⟨hrecs, hpitch⟩ := not_or.mp hshape
  obtain ⟨hkA, hsA, hrowsA, hcolsA, hfA, hkB, hsB, hcolsB, hfB, hkD, hsD, hfD, hrowsD, hcolsD, hgA, hgB, hgD⟩ := not_not.mp hrecs
  have hlast := stackLayout_iff (off := sReg s c) hkB hsB hgB hpages hplane
  exact
    { room := hk
      block := (readBlock_yields s _).eq_ok hblock
      records := (copyRecords_yields s _ none).eq_ok hrec
      vector := ⟨hkA, hsA, hrowsA, hcolsA, (recFmtOk_iff _ _).mpr hfA⟩
      matrix := ⟨hkB, hsB, hcolsB, (recFmtOk_iff _ _).mpr hfB⟩
      result := ⟨hkD, hsD, hfD, hrowsD, hcolsD⟩
      spaces := ⟨(recSpaceOk_iff s _).mpr hgA, (recSpaceOk_iff s _).mpr hgB, (recSpaceOk_iff s _).mpr hgD⟩
      pitches := by simpa only [pitchOk_iff, ← not_or] using hpitch
      segments := ⟨(recSegment_judged s _ _).eq_none hsegA, (recSegment_judged s _ _).eq_none hsegB,
        (recSegment_judged s _ _).eq_none hsegD⟩
      limits := ⟨(planeLimit_judged s _ _ _).eq_none_of_not fun hp => hlimit (.inl hp),
        (planeLimit_judged s _ _ _).eq_none_of_not fun hp => hlimit (.inr hp)⟩
      rights := ⟨(planeRead_judged s _).eq_none_of_not fun hp => hread (.inl hp),
        (planeRead_judged s _).eq_none_of_not fun hp => hread (.inr hp)⟩
      pages := ⟨(recPages_judged s _ _ hgB).eq_none hpages, (matrixPlane_judged s _ _ _).eq_none hplane⟩
      layout := hlast.mpr hlayout }

end

end Sys2Proof.Rules

/-!
The matrix instructions settled: what each does once its checks pass, and the fault that it takes before (R22, R280).
-/

namespace Sys2Proof.Rules

open Sys2Proof.Machine

/-- The gates before the checks of `mvm` are passed, but for the fault slot (R22, R280). -/
theorem mvmBody_gate {s u : State} {k : BitVec 3} (hs : Settles s u) (hm : s.me.mode ≠ .control)
    (hk : (u.me.token k.toNat).pend < 255) (ht : u.myTask.tiles ≠ 0) (a b c : Reg) :
    ∃ core, mvmBody k a b c s = matrixGate core u := by
  obtain ⟨core, hcore⟩ := mvmBody_eq k a b c
  refine ⟨core u, ?_⟩
  rw [hcore, coreOnly_core hm, ordered_settles hs, tokenFull_eq_false hk, if_neg Bool.false_ne_true, if_neg ht]

theorem mvmBody_noTiles {s u : State} {k : BitVec 3} (hs : Settles s u) (hm : s.me.mode ≠ .control)
    (hk : (u.me.token k.toNat).pend < 255) (ht : u.myTask.tiles = 0) (a b c : Reg) : mvmBody k a b c s = illegal u := by
  obtain ⟨core, hcore⟩ := mvmBody_eq k a b c
  rw [hcore, coreOnly_core hm, ordered_settles hs, tokenFull_eq_false hk, if_neg Bool.false_ne_true, if_pos ht]

/-- `exit` asks the fault slot too (R280). -/
theorem exitBody_eq : exitBody = coreOnly (matrixGate fun s => .wait s .exitDrain) := by
  unfold exitBody matrixGate
  rfl

/-- An illegal instruction is a precise fault of kind 1. -/
theorem faultsWith_illegal {i : Instr} {s u : State} {m : Bool} {b : Body} (hi : Issuing s) (hx : exec i s = issue m b s)
    (hb : b s = illegal u) : FaultsWith i s u 1 :=
  ⟨{ kind := 1 }, rfl, rfl, rfl, rfl, rfl, hx.trans (issue_illegal hi hb)⟩

theorem MatrixRule.exec_eq {i : Instr} {s t : State} (h : MatrixRule i s t) : exec i s = .next t := by
  cases h with
  | mma _ u m t a b c fb rA rB rM hi hs hm h => exact issue_done hi (multiplyBody_ok hs hm h)
  | mmaSp _ u m t a b c fb rA rB rM hi hs hm h => exact issue_done hi (multiplyBody_ok hs hm h)
  | mzero _ u m t hi hs hm => exact issue_done hi (commandBody_mayCommand hs hm _)
  | mrows _ u m t hi hs hm => exact issue_done hi (commandBody_mayCommand hs hm _)
  | waits _ u m t hi hs hm hr => exact issue_blocked hi (commandBody_waits hs hm hr _)
  | mldacc _ u m t a r hi hs hm h => exact issue_done hi (mldaccBody_ok hs hm h)
  | mstacc _ u m t a b r hi hs hm h => exact issue_done hi (mstaccBody_ok hs hm h)
  | vpopa _ m d r rest hi hr hm hd hq =>
    obtain ⟨hmode, htiles, hslot⟩ := hm
    have hb : vpopaBody d s = _ :=
      (vpopaBody_gate hmode htiles hr hd).trans ((matrixGate_empty hslot _).trans (popRow_cons d hr hq))
    exact issue_setMe hi hb rfl
  | vpopaBlocks _ m d hi hr hm hd hq =>
    obtain ⟨hmode, htiles, hslot⟩ := hm
    exact issue_blocked hi ((vpopaBody_gate hmode htiles hr hd).trans ((matrixGate_empty hslot _).trans (popRow_nil d hq)))
  | mvm _ u m k a b c fb rA rB rD hi hs hm h => exact issue_done hi (mvmBody_ok hs hm h)

theorem MatrixFault.faultsWith {i : Instr} {s u : State} {k : Nat} (h : MatrixFault i s u k) : FaultsWith i s u k := by
  cases h with
  | tile _ _ _ t hc hi hs hm hr ht =>
    obtain ⟨m, b, hx⟩ := hc.exec_eq
    exact faultsWith_illegal hi (hx s) (commandBody_noTile hs hm hr ht b)
  | pop _ m d hi hm ht => exact faultsWith_illegal hi rfl (vpopaBody_noTiles d hm ht)
  | product _ _ m k a b c hi hs hm hk ht => exact faultsWith_illegal hi rfl (mvmBody_noTiles hs hm hk ht a b c)
  | mma _ _ m t a b c n hi hs hm hn => exact (multiply_checks hs hm false a b c).faultsWith hi rfl hn
  | mmaSp _ _ m t a b c n hi hs hm hn => exact (multiply_checks hs hm true a b c).faultsWith hi rfl hn
  | mldacc _ _ m t a n hi hs hm hn => exact (mldacc_checks hs hm a).faultsWith hi rfl hn
  | mstacc _ _ m t a b n hi hs hm hn => exact (mstacc_checks hs hm a b).faultsWith hi rfl hn
  | mvm _ _ m k a b c n hi hs hm hk hn => exact (product_checks hs hm hk a b c).faultsWith hi rfl hn

/-- R280: a full fault slot is emptied and raised before an instruction's own checks. -/
theorem RaisesSlot.exec_eq {i : Instr} {s u : State} (h : RaisesSlot i s u) {k tile off : Nat} (hf : u.me.matFault = some (k, tile, off)) :
    exec i s = .next ((u.setMe { u.me with matFault := none }).takeTrap u.cur
      (some { kind := k, src := 2, tile := tile, offset := off })) := by
  cases h with
  | command _ _ _ t hc hi hs hm hr ht =>
    obtain ⟨m, b, hx⟩ := hc.exec_eq
    exact (hx s).trans (issue_fault hi m ((commandBody_room hs hm hr ht b).trans (matrixGate_full hf b)))
  | mvm _ _ m k a b c hi hs hm hk ht =>
    obtain ⟨core, hcore⟩ := mvmBody_gate hs hm hk ht a b c
    exact issue_fault hi m (hcore.trans (matrixGate_full hf core))
  | vpopa _ m d hi hr hm ht hd => exact issue_fault hi m ((vpopaBody_gate hm ht hr hd).trans (matrixGate_full hf _))
  | exit _ m hi hm =>
    exact issue_fault hi m ((congrFun exitBody_eq s).trans ((coreOnly_core hm _).trans (matrixGate_full hf _)))

end Sys2Proof.Rules

namespace Sys2Proof.Proofs

open Sys2Proof.Machine Sys2Proof.Rules

/-- Settles O40: the checks of each instruction are judged part by part, each part beside the function of the model that
makes it; the first that fails gives the fault, and where all pass the command is the rule's. -/
theorem matrixInstructions : Obligations.MatrixInstructions :=
  ⟨fun _ _ _ h => h.exec_eq, fun _ _ _ _ h => h.faultsWith, fun _ _ _ _ _ _ h hf => h.exec_eq hf, blockAt_blockOf,
    fun _ _ _ _ _ _ _ _ => ⟨multiplies_of_firstKind, tileRecord_of_firstKind, products_of_firstKind⟩⟩

end Sys2Proof.Proofs

/-!
The round trip of every row of the opcode table (R31, R34, R37, R38).
-/

namespace Sys2Proof.Laws.RoundTrip

/-- Every row of the opcode table, in its order, by its own law. -/
theorem statement_all : ∀ i : Instr, Statement i :=
  @Instr.rec Statement
    vadd vsub vaddsI32 vaddsN32 vsubsI32 vsubsN32 vaddS vsubS vaddsI32S vaddsN32S vsubsI32S vsubsN32S vmul vmulhI32
    vmulhN32 vmad vdivI32 vdivN32 vremI32 vremN32 vmulS vmulhI32S vmulhN32S vmadS vdivI32S vdivN32S vremI32S vremN32S
    vand vor vxor vandn vshl vshr vsra vrol vandS vorS vxorS vandnS vshlS vshrS vsraS vrolS vminI32 vmaxI32 vminN32
    vmaxN32 vabsI32 vclz vpopc vbrev vminI32S vmaxI32S vminN32S vmaxN32S vcmpEq vcmpNe vcmpLt vcmpLe vcmpGt vcmpGe
    vcmpLo vcmpLs vcmpHi vcmpHs vcmpEqS vcmpNeS vcmpLtS vcmpLeS vcmpGtS vcmpGeS vcmpLoS vcmpLsS vcmpHiS vcmpHsS vsel
    vmov vmovS vtid vaddi vmovi vandi vori vxori vshli vshri vsrai vmuli vfaddF32 vfsubF32 vfmulF32 vfminF32 vfmaxF32
    vfmaF32 vfmsF32 vfnmaF32 vfaddF16x2 vfsubF16x2 vfmulF16x2 vfminF16x2 vfmaxF16x2 vfmaF16x2 vfmsF16x2 vfnmaF16x2
    vfaddBf16x2 vfsubBf16x2 vfmulBf16x2 vfminBf16x2 vfmaxBf16x2 vfmaBf16x2 vfmsBf16x2 vfnmaBf16x2 vfaddF32S vfsubF32S
    vfmulF32S vfminF32S vfmaxF32S vfmaF32S vfmsF32S vfnmaF32S vfcmpEqF32 vfcmpNeF32 vfcmpLtF32 vfcmpLeF32 vfcmpGtF32
    vfcmpGeF32 vfcmpUnF32 vfcmpEqF16x2 vfcmpNeF16x2 vfcmpLtF16x2 vfcmpLeF16x2 vfcmpGtF16x2 vfcmpGeF16x2 vfcmpUnF16x2
    vfcmpEqBf16x2 vfcmpNeBf16x2 vfcmpLtBf16x2 vfcmpLeBf16x2 vfcmpGtBf16x2 vfcmpGeBf16x2 vfcmpUnBf16x2 vfclassF32
    vfclassF16x2 vfclassBf16x2 vrcp vrsq vsqrt vexp2 vlog2 vsin vcos vtanh vfdivF32 vfdivF32S vcvt vcvtSr vcvtSat
    vcvtSatSr vqblkE2m1x vqblkE4m3 vqblkE5m2 vpopa vshflIdx vshflUp vshflDown vshflXor vperm8Lo vperm8Hi vbcast vext
    vlredAddI32 vlredMinI32 vlredMaxI32 vlredMinN32 vlredMaxN32 vlredFaddF32 vlredFminF32 vlredFmaxF32 vscanAddI32
    vscanMinI32 vscanMaxI32 vscanMinN32 vscanMaxN32 vscanFaddF32 vscanFminF32 vscanFmaxF32 voteAny voteAll voteBallot
    vfirst vld vlds vst vatomAdd vatomSub vatomMinI vatomMaxI vatomMinN vatomMaxN vatomAnd vatomOr vatomXor vatomXchg
    vatomCas vatomFadd vatomFmin vatomFmax vatomAddBf16x2 vredAdd vredSub vredMinI vredMaxI vredMinN vredMaxN vredAnd
    vredOr vredXor vredFadd vredFmin vredFmax vredAddBf16x2 nop yield exit sadd ssub saddsI64 saddsN64 ssubsI64
    ssubsN64 smul smulhI64 smulhN64 sdivI64 sdivN64 sremI64 sremN64 sand sor sxor sandn sshl sshr ssra srol sminI64
    smaxI64 sminN64 smaxN64 sabsI64 sclz spopc sbrev scmpEq scmpNe scmpLt scmpLe scmpGt scmpGe scmpLo scmpLs scmpHi
    scmpHs smov scsel saddi sandi sori sxori sshli sshri ssrai smovi mand mor mxor mandn mnot mpopc mffs mfls mffNv
    mffDz mffOf mffUf mffNx mffclr rep limm br call bz bnz bmz bmnz jr jalr sld slds sst satomAdd satomSub satomMinI
    satomMaxI satomMinN satomMaxN satomAnd satomOr satomXor satomXchg satomCas satomFadd satomFmin satomFmax
    satomAddBf16x2 hflush hinval sysr sysw trap tretResume tretEndReturn tretEndDiscard brk segld tlbinv tlbsync
    ctxsave ctxrest cpy cpyMc cpyRow cpyClose kwait kwaitObj qfence mcready preserve pcommit pclaim prelease pquery
    send sendw pportq jen jdis barArr barWait barArw abarArr abarWait abarTest mma mmaSp mzero mrows mldacc mstacc mvm
    planLd planGoStart planGoDrainFinish planGoDrainDiscard planGoRemove spawn pvalloc pvfree pvq loadResultReturn
    storePerformed retryHintExpiry sliceRedirect sliceRetire sliceStubRemove orangeryRefreshAdvance tlbsyncComplete
    hostSyncPerformed hostBelvedereWrite hostBelvedereRead atomicRequestAtHome atomicReply barrierWake arborRelease
    copyEntryStart copyPiece copyEntryComplete kwaitObjWake fenceEntryHead multicastSort multicastResort multicastAck
    holdingBufferDrain bulkStreamClose bulkStreamTimeout pipeRefillStart pipeRefillComplete preserveUnblock
    pipeHeadRise messageAdmission waiterAdmission messageReturn runQueueEntryFree taskRecordEntry sendwComplete
    hostDoorbellWrite hostDoorbellRead faultEventAdmit taskDispatch taskStart groupExitDrained queueOverflow
    queueUnderflow priorityRecompute preemptTick rebalanceTick coreMoveLoad deadlockDetect drainQuiescence
    gangStateObserve gangTimeout flitReceive idleFlit retrainComplete retrainLimitExpiry retrainBucketDecay
    forwardStallRelease linkSilenceTimeout fatalErrorNotice portDownNotice matrixCommandStart operandFetchComplete
    multiplyStart multiplyComplete mrowsRowEnter mvmComplete trapEntry stepBlockTimeout srseedWrite keyLoad keyClear
    keyOpDone measExtend measExtendDone attestStart attestDone pavQuotaWrite pavQuotaDone fabLostClear devLostClear
    controlRegWrite railEnable railGood railLimitExpiry cpRun cpHaltqRead hbmInit hbmInitDone hbmTrain hbmTrainDone
    hbmTrainLimitExpiry hbmServe hbmMrGo hbmMrDone ucieTrain ucieTrainDone ucieTrainLimitExpiry pcieTrain
    pcieTrainDone pcieTrainLimitExpiry cxlEnable ualTrain ualTrainDone ualTrainLimitExpiry ualServe arbTestGo
    arbTestDone coreTestGo coreTestDone orgTestGo orgTestDone flashProgram flashWordStored powerOn powerCapCheck
    dieOvertemp powerLoss granuleZeroed hostWriteCombineDrain memberLostNotice sliceAdd

end Sys2Proof.Laws.RoundTrip

namespace Sys2Proof.Proofs

/-- Settles O5: row by row of the opcode table. -/
theorem decodeGivesBackEncoded : Obligations.DecodeGivesBackEncoded := Laws.RoundTrip.statement_all

end Sys2Proof.Proofs

/-!
A group that its pipe chooses is there, in every state in which its word runs, and so the word's meaning is a next
state (R52, R63).
-/

namespace Sys2Proof.Machine

theorem State.has_of_choosable {s : State} {gid : Nat} {held : List Nat} (h : s.choosable gid held = true) :
    s.groups.has gid = true := by
  simp only [State.choosable, State.eligible, Bool.and_eq_true] at h
  tauto

@[simp] theorem Map.has_mapKeyed {α : Type} (f : Nat → α → α) (k : Nat) (m : Map α) :
    Map.has (Map.mapKeyed f m) k = Map.has m k := by simp [Map.has, Map.get?_mapKeyed]

@[simp] theorem State.has_chosen (s : State) (gid : Nat) (held : List Nat) (k : Nat) :
    (s.chosen gid held).groups.has k = s.groups.has k := by simp [State.chosen]

@[simp] theorem State.has_setMe_cur (s : State) (g : Group) : (s.setMe g).groups.has s.cur = true := by simp [State.setMe]

end Sys2Proof.Machine

namespace Sys2Proof.Rules

open Sys2Proof.Machine

/-- The group that a fetch is for is there in the state that holds its word. -/
theorem Holds.issuing {u v : State} {gid : Nat} {w : Word} (h : Holds u gid w v) (hc : u.cur = gid)
    (hg : u.groups.has gid = true) : Issuing v := by
  subst hc
  cases h with
  | held _ => exact hg
  | fetched x _ _ hx => subst hx; simp [Issuing]

end Sys2Proof.Rules

namespace Sys2Proof.Machine

open Sys2Proof.Rules

/-! Every meaning goes on. -/

theorem goesOn_next (s : State) : goesOn (.next s) := ⟨s, rfl⟩

theorem goesOn_thenTick {o : Out} (h : goesOn o) : goesOn (thenTick o) := by
  obtain ⟨s, rfl⟩ := h; exact goesOn_next _

theorem goesOn_issue {s : State} (h : Issuing s) (m : Bool) (b : Body) : goesOn (issue m b s) := ⟨_, issue_next h m b⟩

/-! The own cycle of `rep` and `limm` (R42, R44). -/

/-- The state in which the group at a `rep` or `limm` holds the target w, fetched now. -/
def State.withTarget (s : State) (w : Word) : State :=
  let u := s.afterFetch s.cur (wrap64 (s.me.pc + 4))
  u.setMe { u.me with target := some w }

@[simp] theorem State.withTarget_cur (s : State) (w : Word) : (s.withTarget w).cur = s.cur := by simp [State.withTarget]

theorem State.fetchTarget_error {s : State} {t : TrapInfo} (h : s.fetchWord s.cur (wrap64 (s.me.pc + 4)) = .error t)
    (ok : Word → Bool) : s.fetchTarget ok = .next (s.takeTrap s.cur (some t)) := by
  simp only [State.fetchTarget, h]

theorem State.fetchTarget_ok {s : State} {w : Word} (h : s.fetchWord s.cur (wrap64 (s.me.pc + 4)) = .ok w)
    (ok : Word → Bool) : s.fetchTarget ok
      = .next (if ok w then s.withTarget w else (s.withTarget w).takeTrap (s.withTarget w).cur (some { kind := 1 })) := by
  simp only [State.fetchTarget, h]
  split <;> rfl

theorem State.goesOn_fetchTarget (s : State) (ok : Word → Bool) : goesOn (s.fetchTarget ok) := by
  cases h : s.fetchWord s.cur (wrap64 (s.me.pc + 4)) with
  | error t => exact ⟨_, State.fetchTarget_error h ok⟩
  | ok w => exact ⟨_, State.fetchTarget_ok h ok⟩

theorem goesOn_execRep {s : State} (h : Issuing s) (n : BitVec 6) (d a b : BitVec 2) : goesOn (execRep n d a b s) := by
  have h' : s.groups.has s.cur = true := h
  simp only [execRep, h', Bool.not_true, Bool.false_eq_true, if_false]
  split
  · exact s.goesOn_fetchTarget _
  · split
    · exact goesOn_next _
    · split <;> exact goesOn_next _

theorem goesOn_execLimm {s : State} (h : Issuing s) (p : BitVec 24) : goesOn (execLimm p s) := by
  have h' : s.groups.has s.cur = true := h
  simp only [execLimm, h', Bool.not_true, Bool.false_eq_true, if_false]
  split
  · exact s.goesOn_fetchTarget _
  · split <;> exact goesOn_next _

theorem goesOn_runWord {s : State} (h : Issuing s) (w : Word) : goesOn (runWord w s) := by
  unfold runWord
  dsimp only
  split
  · split
    · exact goesOn_issue h _ _
    · exact goesOn_execRep h ..
  · split
    · exact goesOn_issue h _ _
    · exact goesOn_execLimm h _
  · split
    · split <;> exact goesOn_issue h _ _
    · exact goesOn_issue h _ _

theorem State.goesOn_issueNext {s : State} {gid : Nat} (h : s.groups.has gid = true) (held : List Nat) :
    goesOn (s.issueNext gid held) := by
  have hu : (s.chosen gid held).groups.has gid = true := by simpa using h
  unfold State.issueNext
  dsimp only
  split
  · exact goesOn_runWord hu _
  · split
    · exact goesOn_next _
    · exact goesOn_runWord (by simp [Issuing]) _

/-- A row of the opcode table that has no word is a unit's step, and each such step answers a state (log 1). -/
theorem goesOn_exec_of_noWord (e : Instr) (h : encode e = none) (s : State) : goesOn (exec e s) := by
  cases e <;> cases h <;> exact ⟨_, rfl⟩

theorem goesOn_event (s : State) (r : Option State) : goesOn (event s r) := ⟨_, rfl⟩

theorem State.goesOn_turn (s : State) (t : Turn) : goesOn (s.turn t) := by
  cases hp : s.powered t with
  | false => rw [State.turn_unpowered hp]; exact goesOn_next s
  | true =>
    simp only [State.turn, hp, Bool.not_true, Bool.false_eq_true, if_false]
    cases t with
    | issue gid held =>
      show goesOn (s.issueTurn gid held)
      unfold State.issueTurn
      split
      · exact State.goesOn_issueNext (State.has_of_choosable ‹_›) held
      · exact goesOn_next s
    | event e =>
      show goesOn (if (encode e).isNone then exec e s else .next s)
      split
      · exact goesOn_exec_of_noWord e (Option.isNone_iff_eq_none.mp ‹_›) s
      · exact goesOn_next s
    | hostCacheFill c sector => dsimp only; split <;> exact goesOn_next _
    | hostWrite a bs => dsimp only; split <;> exact goesOn_next _
    | remoteSwitch sw w => dsimp only; split <;> exact goesOn_next _
    | _ => exact ⟨_, rfl⟩

theorem State.has_of_nextIssuer {s : State} {k : Nat} (h : s.nextIssuer = some k) : s.groups.has k = true := by
  have hk := List.mem_of_getElem? h
  exact State.has_of_choosable (List.mem_filter.mp hk).2

theorem State.goesOn_auto (s : State) : goesOn s.auto := by
  unfold State.auto
  split
  · exact goesOn_next _
  · split
    · exact State.goesOn_issueNext (State.has_of_nextIssuer ‹_›) []
    · exact goesOn_event ..

theorem State.goesOn_move (s : State) : goesOn s.move := by
  unfold State.move
  split
  · exact State.goesOn_turn ..
  · exact s.goesOn_auto

end Sys2Proof.Machine

namespace Sys2Proof.Proofs

open Sys2Proof.Machine Sys2Proof.Rules

/-- Settles O1: what moves is a unit, whose step answers a state, or a group that is there, whose word does. -/
theorem noStepStops : Obligations.NoStepStops := fun s => goesOn_thenTick s.goesOn_move

/-- Settles O3: the step is the issue of the chosen group, which meets the fault of its fetch, or holds the word that is
no instruction. -/
theorem wordsThatCannotRunTrap : Obligations.WordsThatCannotRunTrap := by
  rintro s u gid held rest ht rfl hc hd
  have hstep : step s = thenTick (({ s with tape := rest } : State).issueNext gid held) := by
    rw [step_of_tape ht, State.turn_issue hc hd]
  refine ⟨fun t hw hf => ?noFetch, fun w e v hw hdec => ?noInstr⟩
  case noFetch => rw [hstep, State.issueNext, hw, hf]; rfl
  case noInstr =>
    have hv : Issuing v := hw.issuing rfl (by simpa using State.has_of_choosable hc)
    have hcur : v.cur = gid := hw.cur_eq
    rw [hstep, hw.issueNext, Laws.runWord_error hdec, issue_illegal hv rfl, hcur]
    rfl

end Sys2Proof.Proofs

/-!
Branches (R39, R83): their targets, and the issue of an instruction that goes elsewhere.
-/

namespace Sys2Proof.Rules

open Sys2Proof.Machine

/-! The integers of the rules (R77), as Lean's own readings of a pattern. -/

theorem si_eq_toInt {w : Nat} (x : BitVec w) : si x = x.toInt := by
  rw [si, BitVec.toInt_eq_msb_cond, BitVec.msb_eq_getLsbD_last]

theorem un_eq_zero_iff {w : Nat} {x : BitVec w} : un x = 0 ↔ x = 0 := by
  rw [un, Int.natCast_eq_zero, BitVec.toNat_eq, BitVec.ofNat_eq_ofNat, BitVec.toNat_zero]

/-! Branches (R39, R83). -/

theorem branchTo_eq_target {w : Nat} (pc : Nat) (o : BitVec w) : branchTo pc o = target pc o := by
  rw [branchTo, target, si_eq_toInt]; norm_num

theorem issue_goto {s v : State} {m : Bool} {b : Body} {pc : Nat} (h : Issuing s) (hb : b s = .goto v pc) :
    issue m b s = .next (finished v m pc v.me) := by rw [issue_next h, hb]; rfl

theorem branchOn_issue {s : State} (h : Issuing s) (m : Bool) (c : Dword → Bool) (a : Reg) (o : BitVec 17) :
    issue m (branchOn c a o) s
      = .next (finished s m (if c (s.me.getS a.toNat) then target s.me.pc o else s.me.pc + 4) s.me) := by
  cases hc : c (s.me.getS a.toNat) with
  | true =>
    have hb : branchOn c a o s = .goto s (branchTo s.me.pc o) := by simp [branchOn, hc]
    rw [issue_goto h hb, branchTo_eq_target, if_pos rfl]
  | false =>
    have hb : branchOn c a o s = .ok s := by simp [branchOn, hc]
    exact issue_done h hb

theorem branchOn_zero {s : State} (h : Issuing s) (m : Bool) (a : Reg) (o : BitVec 17) :
    issue m (branchOn (· == 0) a o) s
      = .next (finished s m (if decide (un (s.me.getS a.toNat) = 0) then target s.me.pc o else s.me.pc + 4) s.me) := by
  rw [branchOn_issue h]
  simp only [beq_iff_eq, decide_eq_true_eq, un_eq_zero_iff]

theorem branchOn_nonzero {s : State} (h : Issuing s) (m : Bool) (a : Reg) (o : BitVec 17) :
    issue m (branchOn (· != 0) a o) s
      = .next (finished s m (if decide (un (s.me.getS a.toNat) ≠ 0) then target s.me.pc o else s.me.pc + 4) s.me) := by
  rw [branchOn_issue h]
  simp only [bne_iff_ne, decide_eq_true_eq, ne_eq, un_eq_zero_iff]

theorem Branch.exec_eq {i : Instr} {m : Bool} {t : Group → Bool} {f : Nat → Nat} (h : Branch i m t f) {s : State}
    (hi : Issuing s) : exec i s = .next (finished s m (if t s.me then f s.me.pc else s.me.pc + 4) s.me) := by
  cases h with
  | br m o => exact (issue_goto hi rfl).trans (by rw [branchTo_eq_target]; rfl)
  | bz m a o => exact branchOn_zero hi m a o
  | bnz m a o => exact branchOn_nonzero hi m a o
  | bmz m a o => exact branchOn_zero hi m a o
  | bmnz m a o => exact branchOn_nonzero hi m a o

theorem exec_call {s : State} (h : Issuing s) (m : Bool) (o : BitVec 24) : exec (.call m o) s
    = .next (finished s m (target s.me.pc o) (s.me.setS 125 (BitVec.ofNat 64 (s.me.pc + 4)))) := by
  refine (issue_goto h rfl).trans ?_
  rw [branchTo_eq_target, State.me_setMe, finished_setMe]

end Sys2Proof.Rules

namespace Sys2Proof.Proofs

open Sys2Proof.Machine Sys2Proof.Rules

/-- Settles O11: each branch is the issue of its body, whose target is that of R39. -/
theorem branchTargets : Obligations.BranchTargets :=
  ⟨fun _ _ _ _ _ h hi => h.exec_eq hi, fun _ m o hi => exec_call hi m o⟩

end Sys2Proof.Proofs

/-!
Supervisor instructions in user mode (R51), and words that the spec writes out.
-/

namespace Sys2Proof.Rules

open Sys2Proof.Machine

theorem supervisorOnly_user {s : State} (h : s.me.mode = .user) (b : Body) :
    supervisorOnly b s = .fault s { kind := 2 } := by simp [supervisorOnly, h, privilege]

/-- Whatever else an instruction marked (S) tests, it tests the mode first (R51). -/
theorem SupervisorOnly.exec_eq {i : Instr} (h : SupervisorOnly i) :
    ∃ m b, ∀ s, exec i s = issue m (supervisorOnly b) s := by cases h <;> exact ⟨_, _, fun _ => rfl⟩

end Sys2Proof.Rules

namespace Sys2Proof.Proofs

open Sys2Proof.Machine Sys2Proof.Rules

/-- Settles O50: the test of the mode is the first thing that each body makes. -/
theorem supervisorInstructionsInUserMode : Obligations.SupervisorInstructionsInUserMode := by
  intro i s h hi hu
  obtain ⟨m, b, hx⟩ := h.exec_eq
  rw [hx, issue_fault hi m (supervisorOnly_user hu b)]

/-- Settles O4: the decoder evaluates each word. -/
theorem wordsOfTheSpecDecode : Obligations.WordsOfTheSpecDecode := by
  unfold Obligations.WordsOfTheSpecDecode
  decide

end Sys2Proof.Proofs

/-!
The other way round (R31, R33): a word that decodes is the word of its instruction. First, a word is put together from its
own fields, format by format; then every row of the decoder's tables gives an instruction whose word has the fields the
row was read from.
-/

namespace Sys2Proof

/-- Two fields of a word that stand next to each other are one field. -/
theorem append_extract (w : Word) {lo mid n k : Nat} (h : mid = lo + n) :
    w.extractLsb' mid k ++ w.extractLsb' lo n = w.extractLsb' lo (k + n) := by
  subst h
  ext i hi
  simp only [BitVec.getElem_append, BitVec.getElem_extractLsb']
  split
  · rfl
  · congr 1; omega

/-- A bit of a word is a field of one bit. -/
theorem ofBool_getLsbD (w : Word) (k : Nat) : BitVec.ofBool (w.getLsbD k) = w.extractLsb' k 1 := by
  ext i hi; simp [BitVec.getElem_extractLsb', show i = 0 by omega]

theorem topByte_fields (w : Word) :
    topByte (w.getLsbD 31) (w.getLsbD 30) (w.extractLsb' 24 6) = w.extractLsb' 24 8 := by
  simp only [topByte, ofBool_getLsbD]
  exact (congrArg (· ++ w.extractLsb' 24 6) (append_extract w (mid := 31) (lo := 30) rfl)).trans
    (append_extract w (mid := 30) (lo := 24) rfl)

/-- The top byte, from what the word has in its places. -/
theorem topByte_of {w : Word} {set m : Bool} {maj : BitVec 6} (h1 : w.getLsbD 31 = set) (h2 : w.getLsbD 30 = m)
    (h3 : w.extractLsb' 24 6 = maj) : topByte set m maj = w.extractLsb' 24 8 := by
  rw [← topByte_fields, h1, h2, h3]

section
variable {w : Word} {set m : Bool} {maj : BitVec 6}
  (hset : w.getLsbD 31 = set) (hm : w.getLsbD 30 = m) (hmaj : w.extractLsb' 24 6 = maj)
include hset hm hmaj

theorem wordR_fields : wordR set m maj (w.extractLsb' 21 3) (w.extractLsb' 14 7) (w.extractLsb' 7 7)
    (w.extractLsb' 0 7) = w := by
  rw [wordR, topByte_of hset hm hmaj, append_extract (mid := 24) (lo := 21) w rfl,
    append_extract (mid := 21) (lo := 14) w rfl, append_extract (mid := 14) (lo := 7) w rfl,
    append_extract (mid := 7) (lo := 0) w rfl]
  exact extract_all w

theorem wordI_fields : wordI set m maj (w.extractLsb' 17 7) (w.extractLsb' 10 7) (w.extractLsb' 0 10) = w := by
  rw [wordI, topByte_of hset hm hmaj, append_extract (mid := 24) (lo := 17) w rfl,
    append_extract (mid := 17) (lo := 10) w rfl, append_extract (mid := 10) (lo := 0) w rfl]
  exact extract_all w

theorem wordM_fields {z : Size} (hz : z.code = w.extractLsb' 4 3) :
    wordM set m maj (w.extractLsb' 17 7) (w.extractLsb' 10 7) (w.extractLsb' 7 3) z (w.extractLsb' 0 4) = w := by
  rw [wordM, hz, topByte_of hset hm hmaj, append_extract (mid := 24) (lo := 17) w rfl,
    append_extract (mid := 17) (lo := 10) w rfl, append_extract (mid := 10) (lo := 7) w rfl,
    append_extract (mid := 7) (lo := 4) w rfl, append_extract (mid := 4) (lo := 0) w rfl]
  exact extract_all w

end

section
variable {w : Word} {m : Bool} {maj : BitVec 6}
  (hset : w.getLsbD 31 = true) (hm : w.getLsbD 30 = m) (hmaj : w.extractLsb' 24 6 = maj)
include hset hm hmaj

theorem wordB17_fields : wordB17 m maj (w.extractLsb' 17 7) (w.extractLsb' 0 17) = w := by
  rw [wordB17, topByte_of hset hm hmaj, append_extract (mid := 24) (lo := 17) w rfl,
    append_extract (mid := 17) (lo := 0) w rfl]
  exact extract_all w

theorem wordB24_fields : wordB24 m maj (w.extractLsb' 0 24) = w := by
  rw [wordB24, topByte_of hset hm hmaj, append_extract (mid := 24) (lo := 0) w rfl]
  exact extract_all w

theorem wordX_fields : wordX m maj (w.extractLsb' 21 3) (w.extractLsb' 14 7) (w.extractLsb' 7 7)
    (w.extractLsb' 0 7) = w := by
  rw [wordX, topByte_of hset hm hmaj, append_extract (mid := 24) (lo := 21) w rfl,
    append_extract (mid := 21) (lo := 14) w rfl, append_extract (mid := 14) (lo := 7) w rfl,
    append_extract (mid := 7) (lo := 0) w rfl]
  exact extract_all w

end

theorem wordS_fields {w : Word} {m : Bool} (hset : w.getLsbD 31 = true) (hm : w.getLsbD 30 = m)
    (hmaj : w.extractLsb' 24 6 = 37) : wordS m (w.extractLsb' 12 12) (w.extractLsb' 5 7) (w.extractLsb' 0 5) = w := by
  rw [wordS, topByte_of hset hm hmaj, append_extract (mid := 24) (lo := 12) w rfl,
    append_extract (mid := 12) (lo := 5) w rfl, append_extract (mid := 5) (lo := 0) w rfl]
  exact extract_all w

theorem wordRep_fields {w : Word} (hset : w.getLsbD 31 = true) (hm : w.getLsbD 30 = false)
    (hmaj : w.extractLsb' 24 6 = 22) (hlow : w.extractLsb' 0 12 = 0) :
    wordRep (w.extractLsb' 18 6) (w.extractLsb' 16 2) (w.extractLsb' 14 2) (w.extractLsb' 12 2) = w := by
  rw [wordRep, ← BitVec.ofNat_eq_ofNat, ← hlow, topByte_of hset hm hmaj, append_extract (mid := 24) (lo := 18) w rfl,
    append_extract (mid := 18) (lo := 16) w rfl, append_extract (mid := 16) (lo := 14) w rfl,
    append_extract (mid := 14) (lo := 12) w rfl, append_extract (mid := 12) (lo := 0) w rfl]
  exact extract_all w

theorem wordLimm_fields {w : Word} (hset : w.getLsbD 31 = true) (hm : w.getLsbD 30 = false)
    (hmaj : w.extractLsb' 24 6 = 23) : wordLimm (w.extractLsb' 0 24) = w := by
  rw [wordLimm, topByte_of hset hm hmaj, append_extract (mid := 24) (lo := 0) w rfl]
  exact extract_all w

theorem Size.code_of_ofCode {c : BitVec 3} {z : Size} (h : Size.ofCode c = some z) : z.code = c := by
  revert c z; decide

/-- A field whose upper bits are zero is its lower bits, widened. -/
theorem widen_narrow {k v : Nat} {x : BitVec v} (h : hiIs k 0 x = true) : (x.setWidth k).setWidth v = x := by
  have hx : x.toNat < 2 ^ k := by
    have h0 : x.toNat / 2 ^ k = 0 := by simpa [hiIs] using h
    exact (Nat.div_eq_zero_iff_lt (by positivity)).mp h0
  apply BitVec.eq_of_toNat_eq
  rw [BitVec.toNat_setWidth, BitVec.toNat_setWidth, Nat.mod_eq_of_lt hx, Nat.mod_eq_of_lt x.isLt]

theorem bitField_getLsbD {b : Reg} (h : hiIs 1 0 b = true) : bitField (b.getLsbD 0) = b := by
  revert b; decide

theorem hiLo_narrow {i : BitVec 10} (h : hiIs 3 64 i = true) : hiLo 64 3 (i.setWidth 3) = i := by
  have h8 : i.toNat / 8 = 64 := by simpa [hiIs] using h
  apply BitVec.eq_of_toNat_eq
  have := i.isLt
  simp only [hiLo, BitVec.toNat_ofNat, BitVec.toNat_setWidth]
  omega

end Sys2Proof

namespace Sys2Proof.Laws

/-- What a decoder answers stands for the word w: an instruction it answers is well-formed and has the word w. -/
def StandsFor (x : Decoded Instr) (w : Word) : Prop := ∀ i, x = .ok i → i.wellFormed = true ∧ encode i = some w

theorem standsFor_ok {i : Instr} {w : Word} (hi : i.wellFormed = true) (hw : encode i = some w) : StandsFor (.ok i) w := by
  intro j hj; cases hj; exact ⟨hi, hw⟩

theorem standsFor_error {e : DecodeError} {w : Word} : StandsFor (.error e) w := fun _ h => by cases h

theorem standsFor_fields {c : Bool} {i : Instr} {w : Word}
    (h : c = true → i.wellFormed = true ∧ encode i = some w) : StandsFor (fields c i) w := by
  cases c
  · exact standsFor_error
  · exact standsFor_ok (h rfl).1 (h rfl).2

theorem standsFor_operand {c : Bool} {i : Instr} {w : Word} (hi : i.wellFormed = c) (hw : encode i = some w) :
    StandsFor (operand c i) w := by
  cases c
  · exact standsFor_error
  · exact standsFor_ok hi hw

theorem standsFor_opSize {n : Nat} {z : Size} {i : Instr} {w : Word} (hi : i.wellFormed = opSizeOk n z)
    (hw : encode i = some w) : StandsFor (opSize n z i) w := by
  unfold opSize
  split
  case isTrue h => exact standsFor_ok (hi.trans h) hw
  case isFalse => exact standsFor_error

theorem standsFor_sizeUpTo {n : Nat} {z : Size} {i : Instr} {w : Word} (hi : i.wellFormed = decide (z.bytes ≤ n))
    (hw : encode i = some w) : StandsFor (sizeUpTo n z i) w := by
  unfold sizeUpTo
  split
  case isTrue h => exact standsFor_ok (hi.trans (decide_eq_true h)) hw
  case isFalse => exact standsFor_error

theorem standsFor_lr (maj fn : Nat) (m : Bool) (d a b : Reg) :
    StandsFor (decodeLR maj fn m d a b) (wordR false m (BitVec.ofNat 6 maj) (BitVec.ofNat 3 fn) d a b) := by
  unfold decodeLR
  split <;> first
    | with_reducible exact standsFor_error
    | (split <;> first
        | with_reducible exact standsFor_error
        | ((with_reducible refine standsFor_ok ?_ ?_) <;> rfl)
        | ((with_reducible refine standsFor_operand ?_ ?_) <;> rfl)
        | (refine standsFor_fields fun h => ⟨rfl, ?_⟩
           simp only [Bool.and_eq_true, beq_iff_eq] at h
           simp only [h]
           rfl))

theorem standsFor_gr (maj fn : Nat) (m : Bool) (d a b : Reg) :
    StandsFor (decodeGR maj fn m d a b) (wordR true m (BitVec.ofNat 6 maj) (BitVec.ofNat 3 fn) d a b) := by
  unfold decodeGR
  split <;> first
    | with_reducible exact standsFor_error
    | (split <;> first
        | with_reducible exact standsFor_error
        | ((with_reducible refine standsFor_ok ?_ ?_) <;> rfl)
        | (refine standsFor_fields fun h => ⟨rfl, congrArg some ?_⟩
           simp -failIfUnchanged only [Bool.and_eq_true, beq_iff_eq] at h
           simp only [h, widen_narrow, bitField_getLsbD]
           rfl))

theorem standsFor_li (maj : Nat) (m : Bool) (d a : Reg) (i : BitVec 10) :
    StandsFor (decodeLI maj m d a i) (wordI false m (BitVec.ofNat 6 maj) d a i) := by
  unfold decodeLI
  split <;> first
    | with_reducible exact standsFor_error
    | ((with_reducible refine standsFor_ok ?_ ?_) <;> rfl)
    | (refine standsFor_fields fun h => ⟨rfl, congrArg some ?_⟩
       simp -failIfUnchanged only [beq_iff_eq] at h
       simp only [h, widen_narrow]
       rfl)

theorem standsFor_gi (maj : Nat) (m : Bool) (d a : Reg) (i : BitVec 10) :
    StandsFor (decodeGI maj m d a i) (wordI true m (BitVec.ofNat 6 maj) d a i) := by
  unfold decodeGI
  split <;> first
    | with_reducible exact standsFor_error
    | ((with_reducible refine standsFor_ok ?_ ?_) <;> rfl)
    | (refine standsFor_fields fun h => ⟨rfl, congrArg some ?_⟩
       simp -failIfUnchanged only [Bool.and_eq_true, beq_iff_eq] at h
       simp only [h, widen_narrow]
       rfl)
    | (split
       · exact standsFor_fields fun h => ⟨rfl, congrArg (fun x => some (wordI true m 50 d a x)) (hiLo_narrow h)⟩
       · refine standsFor_fields fun h => ⟨rfl, congrArg some ?_⟩
         simp only [Bool.and_eq_true, beq_iff_eq] at h
         simp only [h, widen_narrow]
         rfl)

/-- A field is the numeral it is equal to. -/
theorem eq_ofNat_of_toNat {k n : Nat} {x : BitVec k} (h : x.toNat = n) : x = BitVec.ofNat k n := by
  subst h; simp

theorem standsFor_lm (maj : Nat) (m : Bool) (d a : Reg) (g : BitVec 3) (z : Size) (i : BitVec 4) :
    StandsFor (decodeLM maj m d a g z i) (wordM false m (BitVec.ofNat 6 maj) d a g z i) := by
  unfold decodeLM
  split <;> first
    | with_reducible exact standsFor_error
    | ((with_reducible refine standsFor_ok ?_ ?_) <;> rfl)
    | ((with_reducible refine standsFor_sizeUpTo ?_ ?_) <;> rfl)
    | (split <;> first
        | with_reducible exact standsFor_error
        | next h => rw [eq_ofNat_of_toNat h]; exact standsFor_opSize rfl rfl)

theorem standsFor_gim (maj : Nat) (m : Bool) (d a : Reg) (g : BitVec 3) (z : Size) (i : BitVec 4) :
    StandsFor (decodeGIM maj m d a g z i) (wordM true m (BitVec.ofNat 6 maj) d a g z i) := by
  unfold decodeGIM
  split <;> first
    | with_reducible exact standsFor_error
    | ((with_reducible refine standsFor_ok ?_ ?_) <;> rfl)
    | ((with_reducible refine standsFor_sizeUpTo ?_ ?_) <;> rfl)
    | (split <;> first
        | with_reducible exact standsFor_error
        | next h => rw [eq_ofNat_of_toNat h]; exact standsFor_opSize rfl rfl)

theorem standsFor_gb17 (maj : Nat) (m : Bool) (a : Reg) (o : BitVec 17) :
    StandsFor (decodeGB17 maj m a o) (wordB17 m (BitVec.ofNat 6 maj) a o) := by
  unfold decodeGB17
  split <;> first
    | with_reducible exact standsFor_error
    | ((with_reducible refine standsFor_ok ?_ ?_) <;> rfl)

theorem standsFor_gb24 (maj : Nat) (m : Bool) (o : BitVec 24) :
    StandsFor (decodeGB24 maj m o) (wordB24 m (BitVec.ofNat 6 maj) o) := by
  unfold decodeGB24
  split <;> first
    | with_reducible exact standsFor_error
    | ((with_reducible refine standsFor_ok ?_ ?_) <;> rfl)

theorem standsFor_gx (maj : Nat) (m : Bool) (k : BitVec 3) (a b c : Reg) :
    StandsFor (decodeGX maj m k a b c) (wordX m (BitVec.ofNat 6 maj) k a b c) := by
  unfold decodeGX
  split <;> first
    | with_reducible exact standsFor_error
    | ((with_reducible refine standsFor_ok ?_ ?_) <;> rfl)
    | (refine standsFor_fields fun h => ⟨rfl, congrArg some ?_⟩
       simp -failIfUnchanged only [Bool.and_eq_true, beq_iff_eq] at h
       simp only [h, widen_narrow]
       rfl)
    | (split <;> first
        | with_reducible exact standsFor_error
        | (next h => rw [eq_ofNat_of_toNat h]; exact standsFor_ok rfl rfl)
        | (next hc =>
           rw [eq_ofNat_of_toNat hc]
           refine standsFor_fields fun h => ⟨rfl, congrArg some ?_⟩
           simp -failIfUnchanged only [Bool.and_eq_true, beq_iff_eq] at h
           simp only [h]
           rfl))

/-- `sysw` to a register whose write is a row of its own stands for that row's word (R347). -/
theorem standsFor_syswInstr (m : Bool) (r : BitVec 12) (s : Reg) : StandsFor (.ok (syswInstr m r s)) (wordS m r s 1) := by
  unfold syswInstr
  split <;> first
    | next h => rw [eq_ofNat_of_toNat h]; exact standsFor_ok rfl rfl
    | (refine standsFor_ok ?_ rfl
       simp only [Instr.wellFormed, ownRow, *]
       rfl)

theorem standsFor_gs (maj fn : Nat) (m : Bool) (r : BitVec 12) (s : Reg) :
    StandsFor (decodeGS maj fn m r s) (wordS m r s (BitVec.ofNat 5 fn)) := by
  unfold decodeGS
  split
  · split
    · exact standsFor_ok rfl rfl
    · exact standsFor_syswInstr m r s
    · exact standsFor_error
  · exact standsFor_error

/-- The formats of the lane set (R34). -/
theorem laneFormat_cases {maj : Nat} {f : Format} (h : laneFormat maj = some f) : f = .lr ∨ f = .li ∨ f = .lm := by
  unfold laneFormat at h
  split_ifs at h <;> simp_all

/-- The group set has no lane format (R37, R38). -/
theorem groupFormat_ne (c : BitVec 6) :
    groupFormat c.toNat ≠ some .lr ∧ groupFormat c.toNat ≠ some .li ∧ groupFormat c.toNat ≠ some .lm := by
  revert c; decide

/-- The formats that stand for one major each (R48). -/
theorem groupFormat_single (c : BitVec 6) : (groupFormat c.toNat = some .gs → c = 37) ∧
    (groupFormat c.toNat = some .rep → c = 22) ∧ (groupFormat c.toNat = some .limm → c = 23) := by
  revert c; decide

/-- What a word decodes to has the word, and is well-formed (R31, R33). -/
theorem standsFor_decode (w : Word) : StandsFor (decode w) w := by
  have hmaj : w.extractLsb' 24 6 = BitVec.ofNat 6 (w.extractLsb' 24 6).toNat := eq_ofNat_of_toNat rfl
  have hfn : w.extractLsb' 21 3 = BitVec.ofNat 3 (w.extractLsb' 21 3).toNat := eq_ofNat_of_toNat rfl
  have h5 : w.extractLsb' 0 5 = BitVec.ofNat 5 (w.extractLsb' 0 5).toNat := eq_ofNat_of_toNat rfl
  dsimp only [decode]
  cases hset : w.getLsbD 31 with
  | false =>
    simp only [Bool.false_eq_true, if_false]
    cases hf : laneFormat (w.extractLsb' 24 6).toNat with
    | none => exact standsFor_error
    | some f =>
      obtain rfl | rfl | rfl := laneFormat_cases hf
      · have h := standsFor_lr (w.extractLsb' 24 6).toNat (w.extractLsb' 21 3).toNat (w.getLsbD 30)
          (w.extractLsb' 14 7) (w.extractLsb' 7 7) (w.extractLsb' 0 7)
        rwa [← hfn, wordR_fields hset rfl hmaj] at h
      · have h := standsFor_li (w.extractLsb' 24 6).toNat (w.getLsbD 30) (w.extractLsb' 17 7) (w.extractLsb' 10 7)
          (w.extractLsb' 0 10)
        rwa [wordI_fields hset rfl hmaj] at h
      · dsimp only
        cases hz : Size.ofCode (w.extractLsb' 4 3) with
        | none => exact standsFor_error
        | some z =>
          have h := standsFor_lm (w.extractLsb' 24 6).toNat (w.getLsbD 30) (w.extractLsb' 17 7) (w.extractLsb' 10 7)
            (w.extractLsb' 7 3) z (w.extractLsb' 0 4)
          rwa [wordM_fields hset rfl hmaj (Size.code_of_ofCode hz)] at h
  | true =>
    simp only [if_true]
    cases hf : groupFormat (w.extractLsb' 24 6).toNat with
    | none => exact standsFor_error
    | some f =>
      obtain ⟨hlr, hli, hlm⟩ := groupFormat_ne (w.extractLsb' 24 6)
      obtain ⟨hgs, hrep, hlimm⟩ := groupFormat_single (w.extractLsb' 24 6)
      cases f with
      | lr => exact absurd hf hlr
      | li => exact absurd hf hli
      | lm => exact absurd hf hlm
      | gr =>
        have h := standsFor_gr (w.extractLsb' 24 6).toNat (w.extractLsb' 21 3).toNat (w.getLsbD 30)
          (w.extractLsb' 14 7) (w.extractLsb' 7 7) (w.extractLsb' 0 7)
        rwa [← hfn, wordR_fields hset rfl hmaj] at h
      | gi =>
        have h := standsFor_gi (w.extractLsb' 24 6).toNat (w.getLsbD 30) (w.extractLsb' 17 7) (w.extractLsb' 10 7)
          (w.extractLsb' 0 10)
        rwa [wordI_fields hset rfl hmaj] at h
      | gim =>
        dsimp only
        cases hz : Size.ofCode (w.extractLsb' 4 3) with
        | none => exact standsFor_error
        | some z =>
          have h := standsFor_gim (w.extractLsb' 24 6).toNat (w.getLsbD 30) (w.extractLsb' 17 7) (w.extractLsb' 10 7)
            (w.extractLsb' 7 3) z (w.extractLsb' 0 4)
          rwa [wordM_fields hset rfl hmaj (Size.code_of_ofCode hz)] at h
      | gb17 =>
        have h := standsFor_gb17 (w.extractLsb' 24 6).toNat (w.getLsbD 30) (w.extractLsb' 17 7) (w.extractLsb' 0 17)
        rwa [wordB17_fields hset rfl hmaj] at h
      | gb24 =>
        have h := standsFor_gb24 (w.extractLsb' 24 6).toNat (w.getLsbD 30) (w.extractLsb' 0 24)
        rwa [wordB24_fields hset rfl hmaj] at h
      | gx =>
        have h := standsFor_gx (w.extractLsb' 24 6).toNat (w.getLsbD 30) (w.extractLsb' 21 3) (w.extractLsb' 14 7)
          (w.extractLsb' 7 7) (w.extractLsb' 0 7)
        rwa [wordX_fields hset rfl hmaj] at h
      | gs =>
        have h := standsFor_gs (w.extractLsb' 24 6).toNat (w.extractLsb' 0 5).toNat (w.getLsbD 30)
          (w.extractLsb' 12 12) (w.extractLsb' 5 7)
        rwa [← h5, wordS_fields hset rfl (hgs hf)] at h
      | rep =>
        dsimp only
        cases hm : w.getLsbD 30 with
        | true => exact standsFor_error
        | false =>
          refine standsFor_fields fun hlow => ⟨rfl, congrArg some ?_⟩
          exact wordRep_fields hset hm (hrep hf) (eq_of_beq hlow)
      | limm =>
        dsimp only
        cases hm : w.getLsbD 30 with
        | true => exact standsFor_error
        | false => exact standsFor_ok rfl (congrArg some (wordLimm_fields hset hm (hlimm hf)))

end Sys2Proof.Laws

namespace Sys2Proof.Proofs

/-- Settles O6: format by format, the word is put together again from the fields it was read from. -/
theorem decodedWordsEncodeBack : Obligations.DecodedWordsEncodeBack := by
  unfold Obligations.DecodedWordsEncodeBack
  exact fun w i h => Laws.standsFor_decode w i h

end Sys2Proof.Proofs

/-!
The own cycles of `rep` and `limm` (R42 to R46, R109): what may follow one of them, and what each of the two takes.
-/

namespace Sys2Proof.Laws

open Sys2Proof.Machine Sys2Proof.Rules

/-- A word is an instruction's when it decodes. -/
theorem exists_encodes_iff (w : Word) : (∃ k, Encodes w k) ↔ ∃ i, decode w = .ok i := by
  constructor
  · rintro ⟨k, hw, hk⟩
    exact ⟨_, RoundTrip.statement_all k w hw hk⟩
  · rintro ⟨i, hi⟩
    obtain ⟨h1, h2⟩ := standsFor_decode w i hi
    exact ⟨i, h2, h1⟩

/-- A word that is neither `rep` nor `limm` is an instruction when a body is read from it (R31). -/
theorem decodes_iff_body {w : Word} (h1 : wordFormat w ≠ some .rep) (h2 : wordFormat w ≠ some .limm) :
    (∃ i, decode w = .ok i) ↔ ∃ b, bodyWord w = .ok b := by
  have h := agrees_word w h1 h2
  cases hd : decode w <;> cases hb : bodyWord w <;> simp_all [Agrees]

theorem mayFollow_iff {s : State} {w : Word} (h1 : wordFormat w ≠ some .rep) (h2 : wordFormat w ≠ some .limm) :
    s.me.mayFollow w = true ↔ MayFollow s w := by
  rw [MayFollow, exists_encodes_iff, decodes_iff_body h1 h2, Group.mayFollow]
  cases bodyWord w <;> cases hm : s.me.mode <;> cases hw : w.getLsbD 31 <;> simp

theorem ownCycle_of_fetchTarget {i : Instr} {s : State} {ok : Word → Bool} {takes : Word → Prop}
    (he : exec i s = s.fetchTarget ok) (hok : ∀ w, ok w = true ↔ takes w) : OwnCycle i s takes := by
  refine ⟨fun t h => he.trans (State.fetchTarget_error h ok), ?_⟩
  rintro w u ⟨hf, v, rfl, rfl⟩
  have hn := he.trans (State.fetchTarget_ok hf ok)
  refine ⟨fun hw => ?_, fun hw => ?_⟩
  · rw [hn, if_pos ((hok w).mpr hw)]; rfl
  · rw [hn, if_neg (fun h => hw ((hok w).mp h)), State.withTarget_cur]; rfl

/-! `rep`. -/

theorem exec_rep_unfetched {s : State} (h : Unfetched s) (n : BitVec 6) (d a b : BitVec 2) :
    exec (.rep n d a b) s = s.fetchTarget (s.me.repTarget (n.toNat + 1) b) := by
  obtain ⟨hi, ht⟩ := h
  have hi' : s.groups.has s.cur = true := hi
  show execRep n d a b s = _
  simp only [execRep, hi', ht, Bool.not_true, Bool.false_eq_true, if_false]

/-- A word is `rep` or `limm` only by its major in the group set (R48). -/
theorem not_prefix {w : Word} (h22 : w.getLsbD 31 = true → w.extractLsb' 24 6 ≠ 22)
    (h23 : w.getLsbD 31 = true → w.extractLsb' 24 6 ≠ 23) : wordFormat w ≠ some .rep ∧ wordFormat w ≠ some .limm := by
  simp only [wordFormat]
  cases hs : w.getLsbD 31 with
  | false => exact ⟨fun hf => by simpa using laneFormat_cases hf, fun hf => by simpa using laneFormat_cases hf⟩
  | true =>
    obtain ⟨-, hr, hl⟩ := groupFormat_single (w.extractLsb' 24 6)
    exact ⟨fun hf => h22 hs (hr hf), fun hf => h23 hs (hl hf)⟩

/-- The target of a `rep` is neither `rep` nor `limm`. -/
theorem not_prefix_of_repeatable {w : Word} (h : repeatable w = true) :
    wordFormat w ≠ some .rep ∧ wordFormat w ≠ some .limm := by
  refine not_prefix (fun hs hm => ?_) (fun hs hm => ?_) <;>
    (simp only [repeatable, hs, hm, if_true] at h; exact absurd h (by decide))

theorem fieldOf_major (w : Word) : fieldOf w 24 6 = (w.extractLsb' 24 6).toNat := by
  simp [fieldOf, Nat.shiftRight_eq_div_pow]

/-- A word of the lane set that decodes has a format. -/
theorem laneFormat_of_decode {w : Word} (hs : w.getLsbD 31 = false) (h : ∃ i, decode w = .ok i) :
    (laneFormat (w.extractLsb' 24 6).toNat).isSome = true := by
  obtain ⟨i, hi⟩ := h
  simp only [decode, hs, Bool.false_eq_true, if_false] at hi
  cases hf : laneFormat (w.extractLsb' 24 6).toNat with
  | none => simp only [hf, reduceCtorEq] at hi
  | some f => rfl

theorem repeatable_iff {w : Word} (h : ∃ i, decode w = .ok i) : repeatable w = true ↔ Repeatable w := by
  rw [Repeatable, fieldOf_major, repeatable]
  cases hs : w.getLsbD 31 with
  | false => simp only [Bool.false_eq_true, if_false, laneFormat_of_decode hs h, true_or]
  | true => simp

theorem repTarget_iff (s : State) (n : BitVec 6) (b : BitVec 2) (w : Word) :
    s.me.repTarget (n.toNat + 1) b w = true ↔ RepTarget s n b w := by
  simp only [Group.repTarget, Bool.and_eq_true, Bool.or_eq_true, beq_iff_eq, decide_eq_true_eq]
  constructor
  · rintro ⟨⟨⟨hr, h3⟩, hc⟩, hf⟩
    obtain ⟨h1, h2⟩ := not_prefix_of_repeatable hr
    have hm := (mayFollow_iff h1 h2).mp hf
    exact ⟨(repeatable_iff ((exists_encodes_iff w).mp hm.1)).mp hr, h3, hc, hm⟩
  · rintro ⟨hr, h3, hc, hm⟩
    have hr' := (repeatable_iff ((exists_encodes_iff w).mp hm.1)).mpr hr
    obtain ⟨h1, h2⟩ := not_prefix_of_repeatable hr'
    exact ⟨⟨⟨hr', h3⟩, hc⟩, (mayFollow_iff h1 h2).mpr hm⟩

end Sys2Proof.Laws

/-!
The machine's integer arithmetic computes r of the tables of R79 and R106, at every width.
-/

namespace Sys2Proof.Rules

open Sys2Proof.Machine

variable {w : Nat} (a b : BitVec w)

theorem low_natCast (n : Nat) : low w (n : Int) = BitVec.ofNat w n := BitVec.ofInt_natCast w n

theorem clamp_eq_clampInt {x lo hi : Int} (h : lo ≤ hi) : clamp x lo hi = clampInt x lo hi := by
  unfold clamp clampInt
  split_ifs <;> omega

theorem result_add : Op.add.result a b = a + b := by
  simp only [Op.result, un, ← Nat.cast_add, low_natCast]
  rw [BitVec.ofNat_add]; simp

theorem result_sub : Op.sub.result a b = a - b := by
  apply BitVec.eq_of_toInt_eq
  rw [Op.result, un, un, low, BitVec.toInt_ofInt, BitVec.toInt_sub, BitVec.toInt_eq_toNat_bmod,
    BitVec.toInt_eq_toNat_bmod, Int.sub_bmod_bmod, Int.bmod_sub_bmod]

theorem satS_bounds (w : Nat) : (-(2 ^ (w - 1)) : Int) ≤ 2 ^ (w - 1) - 1 := by
  have : (0 : Int) < 2 ^ (w - 1) := by positivity
  omega

theorem result_addsS : Op.addsS.result a b = addsS a b := by
  simp only [Op.result, addsS, satS, low, si_eq_toInt]
  rw [clamp_eq_clampInt (satS_bounds w)]; push_cast; rfl

theorem result_subsS : Op.subsS.result a b = subsS a b := by
  simp only [Op.result, subsS, satS, low, si_eq_toInt]
  rw [clamp_eq_clampInt (satS_bounds w)]; push_cast; rfl

theorem satN_bounds (w : Nat) : (0 : Int) ≤ 2 ^ w - 1 := by
  have : (0 : Int) < 2 ^ w := by positivity
  omega

theorem result_addsN : Op.addsN.result a b = addsN a b := by
  simp only [Op.result, addsN, satN, low, un]
  rw [clamp_eq_clampInt (satN_bounds w)]; push_cast; rfl

theorem result_subsN : Op.subsN.result a b = subsN a b := by
  simp only [Op.result, subsN, satN, low, un]
  rw [clamp_eq_clampInt (satN_bounds w)]; push_cast; rfl

theorem result_mul : Op.mul.result a b = a * b := by
  simp only [Op.result, un, ← Nat.cast_mul, low_natCast]
  rw [BitVec.ofNat_mul]; simp

/-- r of `vmad` (R106). -/
theorem low_mad (c : BitVec w) : low w (un c + un a * un b) = c + a * b := by
  simp only [un, ← Nat.cast_mul, ← Nat.cast_add, low_natCast, BitVec.ofNat_add, BitVec.ofNat_mul]; simp

theorem result_mulhS : Op.mulhS.result a b = mulhS a b := by
  simp only [Op.result, mulhS, low, si_eq_toInt]; push_cast; rfl

theorem result_mulhN : Op.mulhN.result a b = mulhN a b := by
  simp only [Op.result, mulhN, un, ← low_natCast]; push_cast; rfl

theorem low_ones (w : Nat) : low w (2 ^ w - 1) = BitVec.allOnes w := by
  have h : (2 ^ w - 1 : Int) = ((2 ^ w - 1 : Nat) : Int) := by
    rw [Nat.cast_sub Nat.one_le_two_pow]; push_cast; rfl
  rw [h, low_natCast, BitVec.allOnes, BitVec.ofNatLT_eq_ofNat]

theorem result_divS : Op.divS.result a b = divS a b := by
  simp only [Op.result, divS, un_eq_zero_iff, low_ones, si_eq_toInt]; rfl

theorem result_divN : Op.divN.result a b = divN a b := by
  simp only [Op.result, divN, un_eq_zero_iff, low_ones]
  simp only [un, ← low_natCast]; push_cast; rfl

theorem result_remS : Op.remS.result a b = remS a b := by
  simp only [Op.result, remS, un_eq_zero_iff, si_eq_toInt, low]

theorem result_remN : Op.remN.result a b = remN a b := by
  simp only [Op.result, remN, un_eq_zero_iff]
  simp only [un, ← low_natCast]
  rw [Nat.cast_sub (Nat.mul_div_le _ _)]; push_cast; rfl

theorem result_and : Op.and.result a b = a &&& b := rfl
theorem result_or : Op.or.result a b = a ||| b := rfl
theorem result_xor : Op.xor.result a b = a ^^^ b := rfl
theorem result_andn : Op.andn.result a b = andn a b := rfl

theorem result_shl : Op.shl.result a b = shl a b := by
  simp only [Op.result, shl, un]
  rw [show (a.toNat : Int) * 2 ^ (b.toNat % w) = ((a.toNat * 2 ^ (b.toNat % w) : Nat) : Int) by push_cast; rfl, low_natCast]
  exact BitVec.eq_of_toNat_eq (by simp [Nat.shiftLeft_eq])

theorem result_shr : Op.shr.result a b = shr a b := by
  simp only [Op.result, shr, un]
  rw [show (a.toNat : Int) / 2 ^ (b.toNat % w) = ((a.toNat / 2 ^ (b.toNat % w) : Nat) : Int) by push_cast; rfl, low_natCast]
  apply BitVec.eq_of_toNat_eq
  rw [BitVec.toNat_ofNat, BitVec.toNat_ushiftRight, Nat.shiftRight_eq_div_pow,
    Nat.mod_eq_of_lt ((Nat.div_le_self _ _).trans_lt a.isLt)]

theorem result_sra : Op.sra.result a b = sra a b := by
  simp only [Op.result, sra, si_eq_toInt, low, BitVec.sshiftRight, Int.shiftRight_eq_div_pow]
  push_cast; rfl

theorem result_rol : Op.rol.result a b = rol a b := by
  rcases Nat.eq_zero_or_pos w with rfl | hw
  · exact Subsingleton.elim _ _
  have hk : b.toNat % w < w := Nat.mod_lt _ hw
  simp only [Op.result, rol, un]
  generalize b.toNat % w = k at hk
  have hc : (a.toNat : Int) * 2 ^ k + a.toNat / 2 ^ (w - k) = ((a.toNat * 2 ^ k + a.toNat / 2 ^ (w - k) : Nat) : Int) := by
    push_cast; rfl
  have hw' : 2 ^ w = 2 ^ (w - k) * 2 ^ k := by rw [← pow_add, Nat.sub_add_cancel hk.le]
  have hy : a.toNat / 2 ^ (w - k) < 2 ^ k := by
    rw [Nat.div_lt_iff_lt_mul (by positivity), Nat.mul_comm, ← hw']; exact a.isLt
  rw [hc, low_natCast]
  apply BitVec.eq_of_toNat_eq
  rw [BitVec.toNat_rotateLeft, BitVec.toNat_ofNat, Nat.mod_eq_of_lt hk, Nat.shiftLeft_eq, Nat.shiftRight_eq_div_pow, hw',
    Nat.mul_mod_mul_right, Nat.mul_comm (a.toNat % _), ← Nat.two_pow_add_eq_or_of_lt hy]
  have hx : a.toNat * 2 ^ k + a.toNat / 2 ^ (w - k) = 2 ^ k * (a.toNat % 2 ^ (w - k)) + a.toNat / 2 ^ (w - k)
      + 2 ^ (w - k) * 2 ^ k * (a.toNat / 2 ^ (w - k)) := by
    conv_lhs => arg 1; rw [← Nat.mod_add_div a.toNat (2 ^ (w - k))]
    ring
  have hlt : 2 ^ k * (a.toNat % 2 ^ (w - k)) + a.toNat / 2 ^ (w - k) < 2 ^ (w - k) * 2 ^ k := by
    have hr : a.toNat % 2 ^ (w - k) + 1 ≤ 2 ^ (w - k) := Nat.mod_lt _ (by positivity)
    calc _ < 2 ^ k * (a.toNat % 2 ^ (w - k) + 1) := by rw [Nat.mul_succ]; omega
      _ ≤ 2 ^ k * 2 ^ (w - k) := Nat.mul_le_mul_left _ hr
      _ = _ := Nat.mul_comm _ _
  rw [hx, Nat.add_mul_mod_self_left, Nat.mod_eq_of_lt hlt]

theorem length_takeWhile_range {p : Nat → Bool} {n k : Nat} (hk : k ≤ n) (h1 : ∀ i, i < k → p i = true)
    (h2 : k < n → p k = false) : ((List.range n).takeWhile p).length = k := by
  obtain ⟨m, rfl⟩ := Nat.exists_eq_add_of_le hk
  rw [List.range_add, List.takeWhile_append_of_pos (by simpa using h1)]
  cases m with
  | zero => simp
  | succ m => simp [List.range_succ_eq_map, h2 (by omega)]

/-- A number has its highest one below place bitLen. -/
theorem lt_two_pow_bitLen (n : Nat) : n < 2 ^ bitLen n := by
  unfold bitLen
  split
  · simp [*]
  · exact Nat.lt_log2_self

theorem testBit_bitLen_sub_one {n : Nat} (h : 0 < bitLen n) : n.testBit (bitLen n - 1) = true := by
  unfold bitLen at *
  split at h
  · exact absurd h (lt_irrefl 0)
  · rw [if_neg ‹_›, Nat.add_sub_cancel]
    exact Nat.testBit_log2 ‹_›

theorem bitLen_le {x : BitVec w} : bitLen x.toNat ≤ w := by
  by_contra h
  have h1 := Nat.ge_two_pow_of_testBit (testBit_bitLen_sub_one (n := x.toNat) (by omega))
  have h2 : 2 ^ w ≤ 2 ^ (bitLen x.toNat - 1) := Nat.pow_le_pow_right (by omega) (by omega)
  have := x.isLt
  omega

theorem result_clz : Op.clz.result a b = clz a := by
  have hl := bitLen_le (x := a)
  simp only [Op.result, clz, low_natCast]
  congr 1
  apply length_takeWhile_range (Nat.sub_le _ _)
  · intro i hi
    have hz : a.toNat < 2 ^ (w - 1 - i) :=
      (lt_two_pow_bitLen _).trans_le (Nat.pow_le_pow_right (by omega) (by omega))
    simp [BitVec.getLsbD, Nat.testBit_lt_two_pow hz]
  · intro hi
    have h1 := testBit_bitLen_sub_one (n := a.toNat) (by omega)
    rw [show w - 1 - (w - bitLen a.toNat) = bitLen a.toNat - 1 by omega]
    simp [BitVec.getLsbD, h1]

theorem brev_sum : brev a = BitVec.ofNat w (bitSum (fun j => a.getLsbD (w - 1 - j)) w) := by
  have hsum (f : Nat → Nat) (p : Nat → Bool) (n : Nat) : (List.range n).foldl (fun acc j => if p j then acc + f j else acc) 0
      = ∑ j ∈ Finset.range n, if p j then f j else 0 := by
    induction n with
    | zero => rfl
    | succ n ih => rw [List.range_succ, List.foldl_append, ih, Finset.sum_range_succ]; simp; split <;> simp
  rw [brev, bitSum, hsum, hsum (fun j => 2 ^ j), ← Finset.sum_range_reflect]
  congr 1
  refine Finset.sum_congr rfl fun j hj => ?_
  rw [show w - 1 - (w - 1 - j) = j by have := Finset.mem_range.mp hj; omega]

theorem result_brev : Op.brev.result a b = brev a := by
  rw [brev_sum]
  apply BitVec.eq_of_getLsbD_eq
  intro i hi
  show a.reverse.getLsbD i = _
  rw [BitVec.getLsbD_reverse, BitVec.getMsbD, BitVec.getLsbD_ofNat, testBit_bitSum, ← Bool.and_assoc, Bool.and_self]

theorem result_minS : Op.minS.result a b = minS a b := by simp only [Op.result, minS, si_eq_toInt]
theorem result_maxS : Op.maxS.result a b = maxS a b := by simp only [Op.result, maxS, si_eq_toInt]
theorem result_minN : Op.minN.result a b = minN a b := by simp only [Op.result, minN, un, Nat.cast_le]
theorem result_maxN : Op.maxN.result a b = maxN a b := by simp only [Op.result, maxN, un, Nat.cast_le]

theorem result_abs : Op.abs.result a b = absS a := by
  simp only [Op.result, absS, si_eq_toInt, low_natCast]

theorem result_popc : Op.popc.result a b = popc a := by
  simp only [Op.result, popc, ones, low_natCast, List.countP_eq_length_filter]

/-- Of a register, the place of its lowest one, or 64. -/
theorem ffs64_eq (x : Dword) : BitVec.ofNat 64 (((List.range 64).filter fun i => x.getLsbD i).head?.getD 64) = ffs64 x := by
  rw [ffs64, List.head?_filter]

theorem getLast?_filter_range {p : Nat → Bool} {n k : Nat} (hk : k < n) (hp : p k = true)
    (h : ∀ i, k < i → p i = false) : ((List.range n).filter p).getLast? = some k := by
  obtain ⟨m, rfl⟩ := Nat.exists_eq_add_of_le hk
  have hnil : ((List.range m).map (k + 1 + ·)).filter p = [] := by
    rw [List.filter_eq_nil_iff]
    intro i hi
    obtain ⟨j, -, rfl⟩ := List.mem_map.mp hi
    simp [h (k + 1 + j) (by omega)]
  rw [List.range_add, List.filter_append, hnil, List.append_nil, List.range_succ, List.filter_append]
  simp [hp]

/-- Of a register, the place of its highest one, or 64. -/
theorem fls64_eq (x : Dword) : BitVec.ofNat 64 (((List.range 64).filter fun i => x.getLsbD i).getLast?.getD 64) = fls64 x := by
  unfold fls64
  split
  case isTrue h => simp [h]
  case isFalse h =>
    have hn : x.toNat ≠ 0 := fun h0 => h (BitVec.eq_of_toNat_eq h0)
    have hpos : 0 < bitLen x.toNat := by simp [bitLen, hn]
    have hle := bitLen_le (x := x)
    rw [getLast?_filter_range (p := fun i => x.getLsbD i) (n := 64) (k := bitLen x.toNat - 1) (by omega)
      (testBit_bitLen_sub_one hpos)]
    · rfl
    · intro i hi
      exact Nat.testBit_lt_two_pow ((lt_two_pow_bitLen _).trans_le (Nat.pow_le_pow_right (by omega) (by omega)))

theorem allOrNone_eq (c : Bool) : allOrNone c = boolMask c := rfl

theorem test_eq : Rel.eq.test a b = Cond.eq.holds a b := by
  simp [Rel.test, Cond.holds, si_eq_toInt, BitVec.toInt_inj, beq_eq_decide]
theorem test_ne : Rel.ne.test a b = Cond.ne.holds a b := by
  simp [Rel.test, Cond.holds, si_eq_toInt, BitVec.toInt_inj, bne, beq_eq_decide]
theorem test_lt : Rel.lt.test a b = Cond.lt.holds a b := by simp only [Rel.test, Cond.holds, si_eq_toInt]
theorem test_le : Rel.le.test a b = Cond.le.holds a b := by simp only [Rel.test, Cond.holds, si_eq_toInt]
theorem test_gt : Rel.gt.test a b = Cond.gt.holds a b := by simp only [Rel.test, Cond.holds, si_eq_toInt, gt_iff_lt]
theorem test_ge : Rel.ge.test a b = Cond.ge.holds a b := by simp only [Rel.test, Cond.holds, si_eq_toInt, ge_iff_le]
theorem test_lo : Rel.lo.test a b = Cond.lo.holds a b := by simp only [Rel.test, Cond.holds, un, Nat.cast_lt]
theorem test_ls : Rel.ls.test a b = Cond.ls.holds a b := by simp only [Rel.test, Cond.holds, un, Nat.cast_le]
theorem test_hi : Rel.hi.test a b = Cond.hi.holds a b := by simp only [Rel.test, Cond.holds, un, gt_iff_lt, Nat.cast_lt]
theorem test_hs : Rel.hs.test a b = Cond.hs.holds a b := by simp only [Rel.test, Cond.holds, un, ge_iff_le, Nat.cast_le]

end Sys2Proof.Rules

/-!
`limm` and its target (R45, R46, R88): the body that the literal makes of the target's word, and what it does.
-/

namespace Sys2Proof.Rules

open Sys2Proof.Machine

/-- The two words issue as one, behind which the group goes on (R88). -/
theorem exec_limm_held {s : State} {w : Word} {p : BitVec 24} {b : Body} {m : Bool} {g : Group} (h : Held s w)
    (hb : literalBody p w = some b) (hm : w.getLsbD 30 = m) (hv : b s = .ok (s.setMe g)) (hpc : g.pc = s.me.pc) :
    exec (.limm p) s = .next (afterPair m s g) := by
  obtain ⟨hi, ht⟩ := h
  have hi' : s.groups.has s.cur = true := hi
  show execLimm p s = _
  simp only [execLimm, hi', ht, hb, hv, hm, Bool.not_true, Bool.false_eq_true, if_false, retire_eq_finished,
    finished_setMe, State.me_setMe, hpc, afterPair]

theorem signExtend_literal (p : BitVec 24) (i : BitVec 10) : BitVec.ofInt 64 (literal10 p i) = (p ++ i).signExtend 64 := rfl

theorem setWidth_literal (p : BitVec 24) (i : BitVec 10) : BitVec.ofInt 32 (literal10 p i) = (p ++ i).setWidth 32 :=
  BitVec.signExtend_eq_setWidth_of_le _ (by decide)

theorem LongScalar.body {j : Instr} {m : Bool} {d : Reg} {f : Group → BitVec 24 → Dword} (h : LongScalar j m d f)
    {w : Word} (hw : encode j = some w) (p : BitVec 24) :
    w.getLsbD 30 = m ∧ literalBody p w = some (groupBody fun g => g.setS d.toNat (f g p)) := by
  cases h <;> cases hw <;> refine ⟨wordI_marker .., ?_⟩ <;>
    simp only [literalBody, wordI_set, wordI_major, wordI_d, wordI_a, wordI_i, if_true, result_add, ← signExtend_literal] <;> rfl

theorem LongLane.body {j : Instr} {m : Bool} {rs : List Reg} {d : Reg} {f : Group → BitVec 24 → Nat → Word}
    (h : LongLane j m rs d f) {w : Word} (hw : encode j = some w) (p : BitVec 24) :
    w.getLsbD 30 = m ∧ literalBody p w = some (laneBody (rs.map BitVec.toNat) fun g => g.setV d.toNat (f g p)) := by
  cases h <;> cases hw <;> refine ⟨wordI_marker .., ?_⟩ <;>
    simp only [literalBody, wordI_set, wordI_major, wordI_d, wordI_a, wordI_i, Bool.false_eq_true, if_false, result_add,
      result_mul, ← setWidth_literal] <;> rfl

/-! Loads and stores. -/

/-- One that returns no result never waits for room (R71). -/
theorem push_of_no_result {s : State} {p : Pending} (h : p.result = false) : s.push p = .ok (s.setMe (queued s.me p)) := by
  simp [State.push, h, add_eq_queued]

/-- Where every thread's access passes its checks, the pieces stand in thread order (R146, R159). -/
theorem collect_ok {α : Type} {f : α → Except TrapInfo (List Access)} {P : α → List Access} {l : List α}
    (h : ∀ t ∈ l, f t = .ok (P t)) : collect f l = .ok (l.flatMap P) := by
  induction l with
  | nil => rfl
  | cons x l ih =>
    simp only [collect, h x (List.mem_cons_self ..), ih fun t ht => h t (List.mem_cons_of_mem _ ht), List.flatMap_cons]

/-- The registers of a lane access are in order (R21, R35, R146). -/
theorem lane_registers {s : State} {a d : Reg} {n : Nat} (hl : LaneReady s [a]) (hd : DatumReady s d n) :
    (!valigned d.toNat n || (a.toNat :: vgroup d.toNat n).any fun r => decide (s.me.budget ≤ r)) = false := by
  obtain ⟨-, -, ha⟩ := hl
  obtain ⟨hal, hb⟩ := hd
  have ha' : a.toNat < s.me.budget := ha a (List.mem_singleton_self a)
  simp only [valigned, hal, beq_self_eq_true, Bool.not_true, Bool.false_or, List.any_eq_false, List.mem_cons, vgroup,
    List.mem_map, List.mem_range, decide_eq_true_eq, not_le]
  rintro r (rfl | ⟨k, hk, rfl⟩)
  · exact ha'
  · exact hb k hk

section
variable {s : State} {a d : Reg} {g : BitVec 3} {n : Nat} {e : Int}

theorem laneLoad_checked {P : Nat → List Piece} (hl : LaneReady s [a]) (hr : HasRoom s) (hd : DatumReady s d n)
    (hc : Checked s g { r := true } (fun t => s.me.laneOffset a.toNat t n e) n P) (sg : Bool) :
    laneLoad n sg d.toNat a.toNat g.toNat e s = .ok (s.setMe (queued s.me {
      seg := some g.toNat, lanes := true, pc := s.me.pc, result := true, dest := .lane d.toNat n sg
      todo := (active s.me).flatMap fun t => (P t).map Access.load })) := by
  simp only [Checked, segOf] at hc
  have hregs := lane_registers hl hd
  obtain ⟨-, hm, -⟩ := hl
  simp only [laneLoad, coreOnly_core hm, hregs, Bool.false_eq_true, if_false]
  rw [collect_ok (P := fun t => (P t).map Access.load)]
  · exact push_of_hasRoom hr _
  · intro t ht; rw [hc t ht]; rfl

theorem laneStore_checked {P : Nat → List Piece} (hl : LaneReady s [a]) (hd : DatumReady s d n)
    (hc : Checked s g { w := true } (fun t => s.me.laneOffset a.toNat t n e) n P) :
    laneStore n d.toNat a.toNat g.toNat e s = .ok (s.setMe (queued s.me {
      seg := some g.toNat, lanes := true, pc := s.me.pc
      todo := (active s.me).flatMap fun t => stores (laneBytes s d t n) (P t) })) := by
  simp only [Checked, segOf] at hc
  have hregs := lane_registers hl hd
  obtain ⟨-, hm, -⟩ := hl
  simp only [laneStore, coreOnly_core hm, hregs, Bool.false_eq_true, if_false]
  rw [collect_ok (P := fun t => stores (laneBytes s d t n) (P t))]
  · exact push_of_no_result rfl
  · intro t ht; rw [hc t ht]; simp [Except.map, storesOf, stores, Group.laneDatum, laneBytes, vgroup, List.flatMap_map]

theorem saligned_of_even (h : n = 16 → d.toNat % 2 = 0) : saligned d.toNat n = true := by
  have := d.isLt
  by_cases hn : n = 16
  · have := h hn
    simp [saligned, hn, this]; omega
  · simp [saligned, hn]

theorem isCtlSpace_of_noRegisters (h : NoRegisters s g) : isCtlSpace (s.me.seg s.cur g.toNat).space = false := by
  obtain ⟨h10, h11⟩ := h
  simp only [segOf] at h10 h11
  simp [isCtlSpace, h10, h11]

theorem scalarLoad_checked {ps : List Piece} (hg : NoRegisters s g) (hr : HasRoom s) (hd : n = 16 → d.toNat % 2 = 0)
    (hc : ScalarChecked s g { r := true } (s.me.scalarOffset a.toNat n e) n ps) (sg : Bool) :
    scalarLoad n sg d.toNat a.toNat g.toNat e s = .ok (s.setMe (queued s.me {
      seg := some g.toNat, pc := s.me.pc, result := true, dest := .scalar d.toNat n sg, todo := ps.map Access.load })) := by
  simp only [ScalarChecked, segOf] at hc
  simp only [scalarLoad, saligned_of_even hd, isCtlSpace_of_noRegisters hg, hc, Bool.not_true, Bool.false_eq_true, if_false]
  exact push_of_hasRoom hr _

theorem scalarStore_checked {ps : List Piece} (hg : NoRegisters s g) (hd : n = 16 → d.toNat % 2 = 0)
    (hc : ScalarChecked s g { w := true } (s.me.scalarOffset a.toNat n e) n ps) :
    scalarStore n d.toNat a.toNat g.toNat e s = .ok (s.setMe (queued s.me {
      seg := some g.toNat, pc := s.me.pc, todo := stores (scalarBytes s d n) ps })) := by
  simp only [ScalarChecked, segOf] at hc
  simp only [scalarStore, saligned_of_even hd, isCtlSpace_of_noRegisters hg, hc, Bool.not_true, Bool.false_eq_true, if_false]
  exact push_of_no_result rfl

end

/-! The offsets with the 28-bit literal (R45, R85, R145). -/

theorem longLaneOff_eq (s : State) (a : Reg) (t n : Nat) (p : BitVec 24) (e : BitVec 4) :
    longLaneOff s a t n p e = s.me.laneOffset a.toNat t n (literal4 p e) := by
  rw [longLaneOff, si_eq_toInt]; rfl

theorem longScalarOff_eq (s : State) (a : Reg) (n : Nat) (p : BitVec 24) (e : BitVec 4) :
    longScalarOff s a n p e = s.me.scalarOffset a.toNat n (literal4 p e) := by
  rw [longScalarOff, si_eq_toInt]; rfl

/-! The bodies of the extended accesses. -/

section
variable {m : Bool} {d a : Reg} {g : BitVec 3} {z : Size} {e : BitVec 4} {w : Word} {j : Instr} {sg : Bool}

theorem LaneLoad.body (h : LaneLoad j m d a g z e sg) (hw : encode j = some w) (p : BitVec 24) :
    w.getLsbD 30 = m ∧ literalBody p w = some (laneLoad z.bytes sg d.toNat a.toNat g.toNat (literal4 p e)) := by
  cases h <;> cases hw <;> refine ⟨wordM_marker .., ?_⟩ <;>
    simp only [literalBody, wordM_set, wordM_major, wordM_d, wordM_a, wordM_g, wordM_s, wordM_i, Size.ofCode_code,
      Bool.false_eq_true, if_false] <;> rfl

theorem ScalarLoad.body (h : ScalarLoad j m d a g z e sg) (hw : encode j = some w) (p : BitVec 24) :
    w.getLsbD 30 = m ∧ literalBody p w = some (scalarLoad z.bytes sg d.toNat a.toNat g.toNat (literal4 p e)) := by
  cases h <;> cases hw <;> refine ⟨wordM_marker .., ?_⟩ <;>
    simp only [literalBody, wordM_set, wordM_major, wordM_d, wordM_a, wordM_g, wordM_s, wordM_i, Size.ofCode_code,
      if_true] <;> rfl

theorem vst_body (hw : encode (.vst m d a g z e) = some w) (p : BitVec 24) :
    w.getLsbD 30 = m ∧ literalBody p w = some (laneStore z.bytes d.toNat a.toNat g.toNat (literal4 p e)) := by
  cases hw
  refine ⟨wordM_marker .., ?_⟩
  simp only [literalBody, wordM_set, wordM_major, wordM_d, wordM_a, wordM_g, wordM_s, wordM_i, Size.ofCode_code,
    Bool.false_eq_true, if_false]
  rfl

theorem sst_body (hw : encode (.sst m d a g z e) = some w) (p : BitVec 24) :
    w.getLsbD 30 = m ∧ literalBody p w = some (scalarStore z.bytes d.toNat a.toNat g.toNat (literal4 p e)) := by
  cases hw
  refine ⟨wordM_marker .., ?_⟩
  simp only [literalBody, wordM_set, wordM_major, wordM_d, wordM_a, wordM_g, wordM_s, wordM_i, Size.ofCode_code, if_true]
  rfl

end

theorem LimmRule.exec_eq {p : BitVec 24} {s t : State} (h : LimmRule p s t) : exec (.limm p) s = .next t := by
  cases h with
  | scalar _ _ w j m d f hh he hj =>
    obtain ⟨hm, hb⟩ := hj.body he.1 p
    exact exec_limm_held hh hb hm rfl (by simp)
  | lane _ _ w j m rs d f hl hh he hj =>
    obtain ⟨hm, hb⟩ := hj.body he.1 p
    obtain ⟨-, hc, hr⟩ := hl
    exact exec_limm_held hh hb hm (laneBody_ok _ hc (by simpa using hr)) (by simp)
  | laneLoad _ _ w j m d a g z e sg P hl hr hh he hj hd hc =>
    obtain ⟨hm, hb⟩ := hj.body he.1 p
    simp only [longLaneOff_eq] at hc
    exact exec_limm_held hh hb hm (laneLoad_checked hl hr hd hc sg) rfl
  | laneStore _ _ w m d a g z e P hl hh he hd hc =>
    obtain ⟨hm, hb⟩ := vst_body he.1 p
    simp only [longLaneOff_eq] at hc
    exact exec_limm_held hh hb hm (laneStore_checked hl hd hc) rfl
  | scalarLoad _ _ w j m d a g z e sg ps hg hr hh he hj hd hc =>
    obtain ⟨hm, hb⟩ := hj.body he.1 p
    rw [longScalarOff_eq] at hc
    exact exec_limm_held hh hb hm (scalarLoad_checked hg hr hd hc sg) rfl
  | scalarStore _ _ w m d a g z e ps hg hh he hd hc =>
    obtain ⟨hm, hb⟩ := sst_body he.1 p
    rw [longScalarOff_eq] at hc
    exact exec_limm_held hh hb hm (scalarStore_checked hg hd hc) rfl

/-! The targets of `limm` (R43, R46). -/

theorem LongTarget.literalBody_isSome {j : Instr} (h : LongTarget j) {w : Word} (hw : encode j = some w) (p : BitVec 24) :
    (literalBody p w).isSome = true := by
  cases h with
  | scalar _ _ _ _ hj => rw [(hj.body hw p).2]; rfl
  | lane _ _ _ _ _ hj => rw [(hj.body hw p).2]; rfl
  | laneLoad _ _ _ _ _ _ _ _ hj => rw [(hj.body hw p).2]; rfl
  | laneStore => rw [(vst_body hw p).2]; rfl
  | scalarLoad _ _ _ _ _ _ _ _ hj => rw [(hj.body hw p).2]; rfl
  | scalarStore => rw [(sst_body hw p).2]; rfl

theorem not_prefix_of_literalBody {p : BitVec 24} {w : Word} (h : (literalBody p w).isSome = true) :
    wordFormat w ≠ some .rep ∧ wordFormat w ≠ some .limm := by
  refine Laws.not_prefix (fun hs hm => ?_) (fun hs hm => ?_) <;>
    (simp only [literalBody, hs, hm, if_true] at h; exact Bool.noConfusion h)

section
variable {maj : Nat} {m : Bool} {d a : Reg} {j : Instr}

theorem longTarget_of_decodeLI {i : BitVec 10} (hm : maj ∈ [14, 15, 16, 17, 18, 22])
    (h : decodeLI maj m d a i = .ok j) : LongTarget j := by
  simp only [List.mem_cons, List.not_mem_nil, or_false] at hm
  rcases hm with rfl | rfl | rfl | rfl | rfl | rfl
  · cases h; exact .lane _ _ _ _ _ (.vaddi ..)
  · simp only [decodeLI, fields] at h
    split at h
    · cases h; exact .lane _ _ _ _ _ (.vmovi ..)
    · cases h
  · cases h; exact .lane _ _ _ _ _ (.vandi ..)
  · cases h; exact .lane _ _ _ _ _ (.vori ..)
  · cases h; exact .lane _ _ _ _ _ (.vxori ..)
  · cases h; exact .lane _ _ _ _ _ (.vmuli ..)

theorem longTarget_of_decodeGI {i : BitVec 10} (hm : maj ∈ [8, 9, 10, 11, 15])
    (h : decodeGI maj m d a i = .ok j) : LongTarget j := by
  simp only [List.mem_cons, List.not_mem_nil, or_false] at hm
  rcases hm with rfl | rfl | rfl | rfl | rfl
  · cases h; exact .scalar _ _ _ _ (.saddi ..)
  · cases h; exact .scalar _ _ _ _ (.sandi ..)
  · cases h; exact .scalar _ _ _ _ (.sori ..)
  · cases h; exact .scalar _ _ _ _ (.sxori ..)
  · simp only [decodeGI, fields] at h
    split at h
    · cases h; exact .scalar _ _ _ _ (.smovi ..)
    · cases h

variable {g : BitVec 3} {z : Size} {e : BitVec 4}

theorem longTarget_of_decodeLM (hm : maj ∈ [48, 49, 50]) (h : decodeLM maj m d a g z e = .ok j) : LongTarget j := by
  simp only [List.mem_cons, List.not_mem_nil, or_false] at hm
  rcases hm with rfl | rfl | rfl
  · cases h; exact .laneLoad _ _ _ _ _ _ _ _ (.vld ..)
  · simp only [decodeLM, sizeUpTo] at h
    split at h
    · cases h; exact .laneLoad _ _ _ _ _ _ _ _ (.vlds ..)
    · cases h
  · cases h; exact .laneStore ..

theorem longTarget_of_decodeGIM (hm : maj ∈ [32, 33, 34]) (h : decodeGIM maj m d a g z e = .ok j) : LongTarget j := by
  simp only [List.mem_cons, List.not_mem_nil, or_false] at hm
  rcases hm with rfl | rfl | rfl
  · cases h; exact .scalarLoad _ _ _ _ _ _ _ _ (.sld ..)
  · simp only [decodeGIM, sizeUpTo] at h
    split at h
    · cases h; exact .scalarLoad _ _ _ _ _ _ _ _ (.slds ..)
    · cases h
  · cases h; exact .scalarStore ..

end

/-- The majors that have a body with a literal: five and six of immediates, three and three of accesses (R46). -/
theorem literalBody_majors {p : BitVec 24} {w : Word} (h : (literalBody p w).isSome = true) :
    (w.getLsbD 31 = true ∧ (w.extractLsb' 24 6).toNat ∈ [8, 9, 10, 11, 15])
    ∨ (w.getLsbD 31 = true ∧ (w.extractLsb' 24 6).toNat ∈ [32, 33, 34])
    ∨ (w.getLsbD 31 = false ∧ (w.extractLsb' 24 6).toNat ∈ [14, 15, 16, 17, 18, 22])
    ∨ (w.getLsbD 31 = false ∧ (w.extractLsb' 24 6).toNat ∈ [48, 49, 50]) := by
  cases hs : w.getLsbD 31 with
  | true =>
    simp only [literalBody, hs, if_true] at h
    split at h <;> simp_all
  | false =>
    simp only [literalBody, hs, Bool.false_eq_true, if_false] at h
    split at h <;> simp_all

theorem longTarget_of_decode {p : BitVec 24} {w : Word} {j : Instr} (h : (literalBody p w).isSome = true)
    (hd : decode w = .ok j) : LongTarget j := by
  rcases literalBody_majors h with ⟨hs, hm⟩ | ⟨hs, hm⟩ | ⟨hs, hm⟩ | ⟨hs, hm⟩
  · have hf : groupFormat (w.extractLsb' 24 6).toNat = some .gi := by
      generalize (w.extractLsb' 24 6).toNat = k at hm
      revert k; decide
    simp only [decode, hs, hf, if_true] at hd
    exact longTarget_of_decodeGI hm hd
  · have hf : groupFormat (w.extractLsb' 24 6).toNat = some .gim := by
      generalize (w.extractLsb' 24 6).toNat = k at hm
      revert k; decide
    simp only [decode, hs, hf, if_true] at hd
    split at hd
    · cases hd
    · exact longTarget_of_decodeGIM hm hd
  · have hf : laneFormat (w.extractLsb' 24 6).toNat = some .li := by
      generalize (w.extractLsb' 24 6).toNat = k at hm
      revert k; decide
    simp only [decode, hs, hf, Bool.false_eq_true, if_false] at hd
    exact longTarget_of_decodeLI hm hd
  · have hf : laneFormat (w.extractLsb' 24 6).toNat = some .lm := by
      generalize (w.extractLsb' 24 6).toNat = k at hm
      revert k; decide
    simp only [decode, hs, hf, Bool.false_eq_true, if_false] at hd
    split at hd
    · cases hd
    · exact longTarget_of_decodeLM hm hd

theorem limmTarget_iff (p : BitVec 24) (s : State) (w : Word) :
    ((literalBody p w).isSome && s.me.mayFollow w) = true ↔ LimmTarget s w := by
  rw [Bool.and_eq_true]
  constructor
  · rintro ⟨hb, hf⟩
    obtain ⟨h1, h2⟩ := not_prefix_of_literalBody hb
    have hm := (Laws.mayFollow_iff h1 h2).mp hf
    obtain ⟨i, hi⟩ := (Laws.exists_encodes_iff w).mp hm.1
    obtain ⟨hwf, hw⟩ := Laws.standsFor_decode w i hi
    exact ⟨⟨i, ⟨hw, hwf⟩, longTarget_of_decode hb hi⟩, hm⟩
  · rintro ⟨⟨j, ⟨hw, -⟩, hj⟩, hm⟩
    have hb := hj.literalBody_isSome hw p
    obtain ⟨h1, h2⟩ := not_prefix_of_literalBody hb
    exact ⟨hb, (Laws.mayFollow_iff h1 h2).mpr hm⟩

theorem exec_limm_unfetched {s : State} (h : Unfetched s) (p : BitVec 24) :
    exec (.limm p) s = s.fetchTarget fun w => (literalBody p w).isSome && s.me.mayFollow w := by
  obtain ⟨hi, ht⟩ := h
  have hi' : s.groups.has s.cur = true := hi
  show execLimm p s = _
  simp only [execLimm, hi', ht, Bool.not_true, Bool.false_eq_true, if_false]

end Sys2Proof.Rules

namespace Sys2Proof.Proofs

open Sys2Proof.Machine Sys2Proof.Rules

/-- Settles O58: the first cycle is the fetch of a target that has a body with a literal; the second is that body. -/
theorem longImmediates : Obligations.LongImmediates := by
  unfold Obligations.LongImmediates
  exact ⟨fun p s h => Laws.ownCycle_of_fetchTarget (exec_limm_unfetched h p) (limmTarget_iff p s),
    fun p s t h => h.exec_eq⟩

end Sys2Proof.Proofs

/-!
`rep` (R42 to R44, R46, R86, R87): the repetition's word, and what is left of the group behind it.
-/

namespace Sys2Proof.Rules

open Sys2Proof.Machine

/-! The stepped word (R44). -/

/-- The fields that step leave the top byte alone. -/
theorem Stepped.top {w x : Word} {i sd sa sb : Nat} (h : Stepped w i sd sa sb x) : x.toNat / 2 ^ 24 = w.toNat / 2 ^ 24 := by
  cases h with
  | three _ hd ha hb hx =>
    simp only [fieldAt] at hd ha hb
    generalize i * sd = u at *
    generalize i * sa = v at *
    generalize i * sb = t at *
    omega
  | two _ _ hd ha hx =>
    simp only [fieldAt] at hd ha
    generalize i * sd = u at *
    generalize i * sa = v at *
    omega

theorem Stepped.marker {w x : Word} {i sd sa sb : Nat} (h : Stepped w i sd sa sb x) : x.getLsbD 30 = w.getLsbD 30 := by
  have h' := h.top
  simp only [BitVec.getLsbD, Nat.testBit_eq_decide_div_mod_eq]
  congr 2
  omega

/-- The step answers the stepped word, where no field passes 127. -/
theorem Stepped.stepWord_eq {w x : Word} {i sd sa sb : Nat} (h : Stepped w i sd sa sb x) : stepWord w i sd sa sb = some x := by
  have hx32 := x.isLt
  cases h with
  | three ht hd ha hb hx =>
    simp only [fieldAt] at hd ha hb
    have hs : w.toNat + i * (sd * 2 ^ 14 + sa * 2 ^ 7 + sb) = x.toNat := by rw [hx]; ring
    have hb' : w.toNat / 2 ^ 0 % 128 + i * sb ≤ 127 := hb
    simp only [stepWord, fieldPlaces, ht, if_true, Nat.not_lt.mpr hd, Nat.not_lt.mpr ha, Nat.not_lt.mpr hb', decide_false,
      Bool.or_self, Bool.and_false, Bool.false_eq_true, if_false, hs]
    simp
  | two ht hsb hd ha hx =>
    subst hsb
    simp only [fieldAt] at hd ha
    have hs : w.toNat + i * (sd * 2 ^ 17 + sa * 2 ^ 10 + 0) = x.toNat := by rw [hx]; ring
    simp only [stepWord, fieldPlaces, ht, Bool.false_eq_true, if_false, Nat.not_lt.mpr hd, Nat.not_lt.mpr ha, decide_false,
      Bool.or_self, Bool.false_and, hs]
    simp

/-- What the step answers is the stepped word, of a word that has the field that steps. -/
theorem stepped_of_stepWord {w x : Word} {i sd sa sb : Nat} (h3 : hasThird w = true ∨ sb = 0)
    (h : stepWord w i sd sa sb = some x) : Stepped w i sd sa sb x := by
  have hw32 := w.isLt
  cases ht : hasThird w with
  | true =>
    simp only [stepWord, fieldPlaces, ht, if_true, Bool.true_and] at h
    split at h
    · cases h
    · rename_i hp
      simp only [Bool.or_eq_true, decide_eq_true_eq, not_or, not_lt] at hp
      obtain ⟨⟨hd, ha⟩, hb⟩ := hp
      cases h
      refine .three _ ht hd ha (by simpa [fieldAt] using hb) ?_
      rw [BitVec.toNat_ofNat, Nat.mul_add, Nat.mul_add, ← Nat.mul_assoc, ← Nat.mul_assoc]
      generalize i * sd = u at *
      generalize i * sa = v at *
      generalize i * sb = t at *
      omega
  | false =>
    have hsb : sb = 0 := h3.resolve_left (by simp [ht])
    subst hsb
    simp only [stepWord, fieldPlaces, ht, Bool.false_eq_true, if_false, Bool.false_and, Bool.or_false] at h
    split at h
    · cases h
    · rename_i hp
      simp only [Bool.or_eq_true, decide_eq_true_eq, not_or, not_lt] at hp
      obtain ⟨hd, ha⟩ := hp
      cases h
      refine .two _ ht rfl hd ha ?_
      rw [BitVec.toNat_ofNat, Nat.mul_add, Nat.mul_add, ← Nat.mul_assoc, ← Nat.mul_assoc]
      generalize i * sd = u at *
      generalize i * sa = v at *
      omega

/-! What a repetition leaves (R44, R86). -/

/-- The accesses that a body has added carry the repetition's number, and the group goes on. -/
theorem applyRep_ok (v : State) (n : BitVec 6) (i : Nat) (m : Bool) {old new : List Pending} (h : v.me.out = old ++ new) :
    applyRep m (n.toNat + 1) i old.length (.ok v)
      = afterRepetition v n i m { v.me with out := old ++ new.map fun p => { p with rep := i } } := by
  have hmark : v.markRep i old.length = v.setMe { v.me with out := old ++ new.map fun p => { p with rep := i } } := by
    simp only [State.markRep, h, List.take_left, List.drop_left]
  simp only [applyRep, hmark, afterRepetition, Nat.add_right_cancel_iff]
  split
  · simp only [retire_eq_finished, State.me_setMe, State.setMe_setMe, finished_setMe]
  · have hn : n.toNat + 1 - i - 1 = n.toNat - i := by omega
    simp only [State.again, retire_eq_finished, State.me_setMe, State.setMe_setMe, finished_setMe, hn]
    rfl

/-- REPCNT before the repetition does not matter behind it. -/
theorem afterRepetition_setMe (s : State) (h g : Group) (n : BitVec 6) (i : Nat) (m : Bool) (k : Nat) :
    afterRepetition (s.setMe h) n i m { g with repcnt := k } = afterRepetition s n i m g := by
  simp only [afterRepetition, finished_setMe]

section
variable {s : State} {n : BitVec 6} {d a b : BitVec 2} {w x : Word} {i : Nat}

/-- A field that would pass 127 is illegal (R44). -/
theorem exec_rep_passes (h : Held s w) (hi : i = repetition (n.toNat + 1) s.me.repcnt)
    (hx : stepWord w i d.toNat a.toNat b.toNat = none) :
    exec (.rep n d a b) s = .next ((withRepcnt s (n.toNat + 1 - i)).takeTrap s.cur (some { kind := 1 })) := by
  obtain ⟨hg, ht⟩ := h
  have hg' : s.groups.has s.cur = true := hg
  subst hi
  rw [repetition] at hx ⊢
  show execRep n d a b s = _
  simp only [execRep, hg', ht, hx, Bool.not_true, Bool.false_eq_true, if_false, withRepcnt]
  rfl

theorem Repeats.exec_eq (h : Repeats s n d a b w x i) {body : Body} (hb : bodyWord x = .ok body) :
    exec (.rep n d a b) s
      = .next (applyRep (w.getLsbD 30) (n.toNat + 1) i s.me.out.length (body (withRepcnt s (n.toNat + 1 - i)))) := by
  obtain ⟨⟨hg, ht⟩, -, hi, hx⟩ := h
  have hg' : s.groups.has s.cur = true := hg
  have hx' := hx.stepWord_eq
  subst hi
  rw [repetition] at hx' ⊢
  show execRep n d a b s = _
  simp only [execRep, hg', ht, hx', hb, Bool.not_true, Bool.false_eq_true, if_false, withRepcnt]

end

end Sys2Proof.Rules

/-!
The rows of R79 to R82 and R106, R108, R109 as bodies: each writes one register with the result of its table.
-/

namespace Sys2Proof.Machine

/-! What body is read from a word of each format. -/

theorem bodyWord_lr (m : Bool) (maj : BitVec 6) (fn : BitVec 3) (d a b : Reg) (h : laneFormat maj.toNat = some .lr) :
    bodyWord (wordR false m maj fn d a b) = bodyLR maj.toNat fn.toNat d a b := by
  simp only [bodyWord, wordR_set, wordR_major, wordR_fn, wordR_d, wordR_a, wordR_b, h, if_false, Bool.false_eq_true]

theorem bodyWord_gr (m : Bool) (maj : BitVec 6) (fn : BitVec 3) (d a b : Reg) (h : groupFormat maj.toNat = some .gr) :
    bodyWord (wordR true m maj fn d a b) = bodyGR maj.toNat fn.toNat d a b := by
  simp only [bodyWord, wordR_set, wordR_major, wordR_fn, wordR_d, wordR_a, wordR_b, h, if_true]

theorem bodyWord_li (m : Bool) (maj : BitVec 6) (d a : Reg) (i : BitVec 10) (h : laneFormat maj.toNat = some .li) :
    bodyWord (wordI false m maj d a i) = bodyLI maj.toNat d a i := by
  simp only [bodyWord, wordI_set, wordI_major, wordI_d, wordI_a, wordI_i, h, if_false, Bool.false_eq_true]

theorem bodyWord_gi (m : Bool) (maj : BitVec 6) (d a : Reg) (i : BitVec 10) (h : groupFormat maj.toNat = some .gi) :
    bodyWord (wordI true m maj d a i) = bodyGI maj.toNat d a i := by
  simp only [bodyWord, wordI_set, wordI_major, wordI_d, wordI_a, wordI_i, h, if_true]

end Sys2Proof.Machine

namespace Sys2Proof.Rules

open Sys2Proof.Machine Sys2Proof.Laws.RoundTrip

/-- The word x writes S(t) with f of the group and has marker m. -/
def WritesS (x : Word) (m : Bool) (t : Reg) (f : Group → Dword) : Prop :=
  x.getLsbD 30 = m ∧ bodyWord x = .ok (groupBody fun g => g.setS t.toNat (f g))

/-- The word x, which names the vector registers rs, writes V(t) with f of the group in each thread and has marker m. -/
def WritesV (x : Word) (m : Bool) (rs : List Reg) (t : Reg) (f : Group → Nat → Word) : Prop :=
  x.getLsbD 30 = m ∧ bodyWord x = .ok (laneBody (rs.map BitVec.toNat) fun g => g.setV t.toNat (f g))

section
variable {j : Instr} {m : Bool} {t : Reg} {f : Group → Dword} {x : Word}

theorem ScalarTable.writesS (h : ScalarTable j m t f) (hx : encode j = some x) : WritesS x m t f := by
  cases h <;> cases hx <;> refine ⟨wordR_marker .., (bodyWord_gr _ _ _ _ _ _ rfl).trans ?_⟩ <;>
    simp only [result_add, result_sub, result_addsS, result_addsN, result_subsS, result_subsN, result_mul, result_mulhS,
      result_mulhN, result_divS, result_divN, result_remS, result_remN, result_and, result_or, result_xor, result_andn,
      result_shl, result_shr, result_sra, result_rol, result_minS, result_maxS, result_minN, result_maxN, result_abs,
      result_clz, result_popc, result_brev] <;> rfl

theorem ScalarSelect.writesS (h : ScalarSelect j m t f) (hx : encode j = some x) : WritesS x m t f := by
  cases h <;> cases hx <;> refine ⟨wordR_marker .., (bodyWord_gr _ _ _ _ _ _ rfl).trans ?_⟩ <;>
    simp -failIfUnchanged only [test_eq, test_ne, test_lt, test_le, test_gt, test_ge, test_lo, test_ls, test_hi, test_hs] <;> rfl

theorem ofInt_field {k : Nat} (c : BitVec k) (v : Nat) : BitVec.ofInt v (c.toNat : Int) = c.setWidth v := by
  rw [BitVec.ofInt_natCast, BitVec.ofNat_toNat]

/-- The count of a shift (R81, R109): a field of its own within the immediate. -/
theorem fields_count {k : Nat} (hk : k ≤ 10) (c : BitVec k) (b : BitVec k → Body) :
    fields (hiIs k 0 (c.setWidth 10)) (b ((c.setWidth 10).setWidth k)) = .ok (b c) := by
  rw [fields_ok (small_hi c), small_back c hk]

theorem ScalarImmediate.writesS (h : ScalarImmediate j m t f) (hx : encode j = some x) : WritesS x m t f := by
  cases h <;> cases hx <;> refine ⟨wordI_marker .., (bodyWord_gi _ _ _ _ _ rfl).trans ?_⟩
  case sshli a c => simp only [result_shl, ← ofInt_field c 64]; exact fields_count (by decide) c (sshliBody t a)
  case sshri a c => simp only [result_shr, ← ofInt_field c 64]; exact fields_count (by decide) c (sshriBody t a)
  case ssrai a c => simp only [result_sra, ← ofInt_field c 64]; exact fields_count (by decide) c (ssraiBody t a)
  all_goals
    simp -failIfUnchanged only [result_add, result_and, result_or, result_xor]
    rfl

theorem MaskTable.writesS (h : MaskTable j m t f) (hx : encode j = some x) : WritesS x m t f := by
  cases h <;> cases hx <;> refine ⟨wordR_marker .., (bodyWord_gr _ _ _ _ _ _ rfl).trans ?_⟩
  case mffNv n => cases n <;> rfl
  case mffDz n => cases n <;> rfl
  case mffOf n => cases n <;> rfl
  case mffUf n => cases n <;> rfl
  case mffNx n => cases n <;> rfl
  all_goals
    simp -failIfUnchanged only [result_and, result_or, result_xor, result_andn, result_popc, ffs64_eq, fls64_eq]
    rfl

end

section
variable {j : Instr} {m : Bool} {rs : List Reg} {t : Reg} {f : Group → Nat → Word} {x : Word}

theorem LaneTable.writesV (h : LaneTable j m rs t f) (hx : encode j = some x) : WritesV x m rs t f := by
  cases h <;> cases hx <;> refine ⟨wordR_marker .., (bodyWord_lr _ _ _ _ _ _ rfl).trans ?_⟩
  all_goals
    simp only [result_add, result_sub, result_addsS, result_addsN, result_subsS, result_subsN, result_mul, result_mulhS,
      result_mulhN, result_divS, result_divN, result_remS, result_remN, result_and, result_or, result_xor, result_andn,
      result_shl, result_shr, result_sra, result_rol, result_minS, result_maxS, result_minN, result_maxN, result_abs,
      result_clz, result_popc, result_brev, low_mad]
    rfl

theorem LaneMove.writesV (h : LaneMove j m rs t f) (hx : encode j = some x) : WritesV x m rs t f := by
  cases h <;> cases hx
  case vsel => exact ⟨wordR_marker .., (bodyWord_lr _ _ _ _ _ _ rfl).trans rfl⟩
  case vmov => exact ⟨wordR_marker .., (bodyWord_lr _ _ _ _ _ _ rfl).trans rfl⟩
  case vmovS => exact ⟨wordR_marker .., (bodyWord_lr _ _ _ _ _ _ rfl).trans rfl⟩
  case vtid => exact ⟨wordR_marker .., (bodyWord_lr _ _ _ _ _ _ rfl).trans rfl⟩
  all_goals refine ⟨wordI_marker .., (bodyWord_li _ _ _ _ _ rfl).trans ?_⟩
  case vshli a c => simp only [result_shl]; exact fields_count (by decide) c (vshliBody t a)
  case vshri a c => simp only [result_shr]; exact fields_count (by decide) c (vshriBody t a)
  case vsrai a c => simp only [result_sra]; exact fields_count (by decide) c (vsraiBody t a)
  all_goals
    simp -failIfUnchanged only [result_add, result_and, result_or, result_xor, result_mul]
    rfl

theorem LaneClass.writesV (h : LaneClass j m rs t f) (hx : encode j = some x) : WritesV x m rs t f := by
  cases h <;> cases hx <;> exact ⟨wordR_marker .., (bodyWord_lr _ _ _ _ _ _ rfl).trans rfl⟩

end

end Sys2Proof.Rules

/-!
The repetitions of `rep` (R44, R46, R86): of a row that writes one register, and of any other body.
-/

namespace Sys2Proof.Rules

open Sys2Proof.Machine

theorem ScalarTable.repcnt {j : Instr} {m : Bool} {t : Reg} {f : Group → Dword} (h : ScalarTable j m t f) (g : Group) (k : Nat) :
    f { g with repcnt := k } = f g := by cases h <;> rfl

theorem ScalarSelect.repcnt {j : Instr} {m : Bool} {t : Reg} {f : Group → Dword} (h : ScalarSelect j m t f) (g : Group) (k : Nat) :
    f { g with repcnt := k } = f g := by cases h <;> rfl

theorem ScalarImmediate.repcnt {j : Instr} {m : Bool} {t : Reg} {f : Group → Dword} (h : ScalarImmediate j m t f) (g : Group)
    (k : Nat) : f { g with repcnt := k } = f g := by cases h <;> rfl

theorem MaskTable.repcnt {j : Instr} {m : Bool} {t : Reg} {f : Group → Dword} (h : MaskTable j m t f) (g : Group) (k : Nat) :
    f { g with repcnt := k } = f g := by cases h <;> rfl

theorem LaneTable.repcnt {j : Instr} {m : Bool} {rs : List Reg} {t : Reg} {f : Group → Nat → Word} (h : LaneTable j m rs t f)
    (g : Group) (k : Nat) : f { g with repcnt := k } = f g := by cases h <;> rfl

theorem LaneMove.repcnt {j : Instr} {m : Bool} {rs : List Reg} {t : Reg} {f : Group → Nat → Word} (h : LaneMove j m rs t f)
    (g : Group) (k : Nat) : f { g with repcnt := k } = f g := by cases h <;> rfl

theorem LaneClass.repcnt {j : Instr} {m : Bool} {rs : List Reg} {t : Reg} {f : Group → Nat → Word} (h : LaneClass j m rs t f)
    (g : Group) (k : Nat) : f { g with repcnt := k } = f g := by cases h <;> rfl

section
variable {s : State} {n : BitVec 6} {d a b : BitVec 2} {w x : Word} {i : Nat} {m : Bool} {t : Reg}

/-- A body that adds nothing outstanding. -/
theorem Repeats.exec_adds_none (h : Repeats s n d a b w x i) {body : Body} (hb : bodyWord x = .ok body)
    (hm : x.getLsbD 30 = m) {g : Group} (hout : g.out = s.me.out)
    (hv : body (withRepcnt s (n.toNat + 1 - i)) = .ok (s.setMe { g with repcnt := n.toNat + 1 - i })) :
    exec (.rep n d a b) s = .next (afterRepetition s n i m g) := by
  rw [h.exec_eq hb, hv, applyRep_ok _ n i _ (old := s.me.out) (new := []) (by simp [hout]), ← h.stepped.marker, hm,
    State.me_setMe, List.map_nil, List.append_nil, ← hout]
  exact congrArg _ (afterRepetition_setMe s _ g n i m _)

theorem WritesS.repeated {f : Group → Dword} (hx : WritesS x m t f) (hf : ∀ g k, f { g with repcnt := k } = f g)
    (h : Repeats s n d a b w x i) :
    exec (.rep n d a b) s = .next (afterRepetition s n i m (s.me.setS t.toNat (f s.me))) := by
  obtain ⟨hm, hb⟩ := hx
  refine h.exec_adds_none hb hm rfl ?_
  simp only [groupBody, withRepcnt, State.me_setMe, State.setMe_setMe, hf]
  rfl

theorem WritesV.repeated {rs : List Reg} {f : Group → Nat → Word} (hx : WritesV x m rs t f)
    (hf : ∀ g k, f { g with repcnt := k } = f g) (hl : LaneReady s rs) (h : Repeats s n d a b w x i) :
    exec (.rep n d a b) s = .next (afterRepetition s n i m (s.me.setV t.toNat (f s.me))) := by
  obtain ⟨hm, hb⟩ := hx
  obtain ⟨-, hc, hr⟩ := hl
  refine h.exec_adds_none hb hm rfl ?_
  rw [laneBody_ok _ (by simpa [withRepcnt] using hc) (by simpa [withRepcnt] using hr)]
  simp only [withRepcnt, State.me_setMe, State.setMe_setMe, hf]
  rfl

end

end Sys2Proof.Rules

namespace Sys2Proof.Proofs

open Sys2Proof.Machine Sys2Proof.Rules

/-- Settles O57: the first cycle is the fetch of a repeatable target; each further issue is the body of the target's
stepped word, whose row says what it writes, and the group stays at the `rep` or goes on behind the target. -/
theorem repeatedInstructions : Obligations.RepeatedInstructions := by
  unfold Obligations.RepeatedInstructions
  intro s n d a b
  refine ⟨fun h => Laws.ownCycle_of_fetchTarget (Laws.exec_rep_unfetched h n d a b) (Laws.repTarget_iff s n b), ?_, ?_⟩
  · intro w i hw _ hi h3 hno
    refine exec_rep_passes hw hi ?_
    have h3' : hasThird w = true ∨ b.toNat = 0 := h3.imp_right fun hb => by rw [hb]; rfl
    exact Option.eq_none_iff_forall_ne_some.mpr fun x hx => hno x (stepped_of_stepWord h3' hx)
  · intro w x i h
    refine ⟨?_, ?_, fun body hb => ⟨fun v t hv => ?_, fun v new hv hout => ?_⟩⟩
    · rintro j m t f ⟨hx, -⟩ (hj | hj | hj | hj) <;> exact (hj.writesS hx).repeated hj.repcnt h
    · rintro j m rs t f ⟨hx, -⟩ hl (hj | hj | hj) <;> exact (hj.writesV hx).repeated hj.repcnt hl h
    · rw [h.exec_eq hb, hv]; rfl
    · rw [h.exec_eq hb, hv, applyRep_ok v n i _ hout]

end Sys2Proof.Proofs

/-!
The group set's rows that write one scalar register (R79 to R82), and its control instructions (R78, R82, R84).
-/

namespace Sys2Proof.Rules

open Sys2Proof.Machine Sys2Proof.Laws

section
variable {i : Instr} {m : Bool} {d : Reg} {f : Group → Dword}

/-- A word that writes one scalar register stands alone, and its instruction is the issue of the body read from it (R31). -/
theorem WritesS.exec_eq {x : Word} (h : WritesS x m d f) (hx : Encodes x i) (hc : canonical i = i) (s : State) :
    exec i s = issue m (groupBody fun g => g.setS d.toNat (f g)) s := by
  obtain ⟨hm, hb⟩ := h
  have hd : decode x = .ok i := hc ▸ RoundTrip.statement_all i x hx.1 hx.2
  have hp : wordFormat x ≠ some .rep ∧ wordFormat x ≠ some .limm := by
    constructor <;> intro hf <;> simp only [bodyWord, show (if x.getLsbD 31 then groupFormat (x.extractLsb' 24 6).toNat
      else laneFormat (x.extractLsb' 24 6).toNat) = _ from hf, reduceCtorEq] at hb
  have ha := agrees_word x hp.1 hp.2
  rw [hd, hb, hm] at ha
  exact ha.1 s

theorem ScalarTable.encodes (h : ScalarTable i m d f) : ∃ x, Encodes x i ∧ canonical i = i := by
  cases h <;> exact ⟨_, ⟨rfl, rfl⟩, rfl⟩

theorem ScalarSelect.encodes (h : ScalarSelect i m d f) : ∃ x, Encodes x i ∧ canonical i = i := by
  cases h <;> exact ⟨_, ⟨rfl, rfl⟩, rfl⟩

theorem ScalarImmediate.encodes (h : ScalarImmediate i m d f) : ∃ x, Encodes x i ∧ canonical i = i := by
  cases h <;> exact ⟨_, ⟨rfl, rfl⟩, rfl⟩

theorem MaskTable.encodes (h : MaskTable i m d f) : ∃ x, Encodes x i ∧ canonical i = i := by
  cases h <;> exact ⟨_, ⟨rfl, rfl⟩, rfl⟩

/-- An instruction that writes one scalar register changes nothing else (R69). -/
theorem writesScalar_of_exec {s : State} (hi : Issuing s)
    (h : exec i s = issue m (groupBody fun g => g.setS d.toNat (f g)) s) : WritesScalar i m s d.toNat (f s.me) :=
  ⟨s.me.setS d.toNat (f s.me), h.trans (issue_setMe hi rfl rfl), rfl, fun _ => Group.getS_setS .., fun _ => rfl⟩

end
end Sys2Proof.Rules

namespace Sys2Proof.Proofs

open Sys2Proof.Machine Sys2Proof.Rules

/-- Settles O9: each row's word writes S(sd) with r of its table, and the instruction is the issue of that write. -/
theorem scalarResults : Obligations.ScalarResults := by
  rintro i m d f s (h | h | h | h) hi <;> obtain ⟨x, hx, hc⟩ := h.encodes <;>
    exact writesScalar_of_exec hi ((h.writesS hx.1).exec_eq hx hc s)
end Sys2Proof.Proofs

namespace Sys2Proof.Rules

open Sys2Proof.Machine

theorem jumped_eq (g : Group) : g.jumped = jumped g := by
  unfold Group.jumped jumped
  split <;> simp [*]

section
variable {s : State} (hi : Issuing s) (m : Bool) (d a : Reg)
include hi

theorem exec_nop : exec (.nop m) s = .next (done m s) := 
  (issue_setMe hi rfl rfl).trans rfl

theorem exec_yield : exec (.yield m) s = .next
    { finished s m (s.me.pc + 4) { s.me with age := s.nextAge, passScalar := 0, passVector := 0 } with nextAge := s.nextAge + 1 } :=
  issue_setMe (v := { s with nextAge := s.nextAge + 1 }) (b := yieldBody) hi rfl rfl

/-- `mffclr` of the half above W (R82). -/
theorem exec_mffclr_above : exec (.mffclr m a true) s = .next (done m s) := (issue_setMe hi rfl rfl).trans rfl

theorem exec_mffclr : exec (.mffclr m a false) s
    = .next (finished s m (s.me.pc + 4) { s.me with ff := s.me.ff.clear (s.me.getS a.toNat) }) := issue_setMe hi rfl rfl

/-- `jr` to a multiple of 4 (R84). -/
theorem exec_jr (ha : (s.me.getS a.toNat).toNat % 4 = 0) :
    exec (.jr m a) s = .next (finished s m (s.me.getS a.toNat).toNat (jumped s.me)) := by
  have hb : jumpTo none a.toNat s = .goto (s.setMe s.me.jumped) (s.me.getS a.toNat).toNat := by simp [jumpTo, ha]
  rw [← jumped_eq]
  exact (issue_goto hi hb).trans (by rw [State.me_setMe, finished_setMe])

theorem exec_jalr (ha : (s.me.getS a.toNat).toNat % 4 = 0) : exec (.jalr m d a) s
    = .next (finished s m (s.me.getS a.toNat).toNat ((jumped s.me).setS d.toNat (BitVec.ofNat 64 (s.me.pc + 4)))) := by
  have hb : jumpTo (some d.toNat) a.toNat s = .goto (s.setMe ((jumped s.me).setS d.toNat (BitVec.ofNat 64 (s.me.pc + 4))))
      (s.me.getS a.toNat).toNat := by simp [jumpTo, ha, jumped_eq]; rfl
  exact (issue_goto hi hb).trans (by rw [State.me_setMe, finished_setMe])

/-- A jump to any other address is illegal (R84). -/
theorem jumpTo_misaligned (link : Option Nat) (ha : (s.me.getS a.toNat).toNat % 4 ≠ 0) :
    issue m (jumpTo link a.toNat) s = .next (s.takeTrap s.cur (some { kind := 1 })) :=
  issue_illegal hi (by simp [jumpTo, ha])

end

end Sys2Proof.Rules

namespace Sys2Proof.Proofs

open Sys2Proof.Machine Sys2Proof.Rules

/-- Settles O10: each is the issue of its body. -/
theorem groupControl : Obligations.GroupControl := fun _ m d a hi =>
  ⟨exec_nop hi m, exec_yield hi m, exec_mffclr_above hi m a, ⟨_, exec_mffclr hi m a, rfl, rfl, rfl, rfl, rfl, rfl⟩,
    fun ha => ⟨exec_jr hi m a ha, exec_jalr hi m d a ha⟩,
    fun ha => ⟨jumpTo_misaligned hi m a none ha, jumpTo_misaligned hi m a (some d.toNat) ha⟩⟩

end Sys2Proof.Proofs

/-!
Lane instructions of variable latency: special functions, quotients, and words moved between threads (R115 to R119, R123).
-/

namespace Sys2Proof.Rules

open Sys2Proof.Machine

/-! Special functions and quotients (R123): each thread's word and flags. -/

section
variable {i : Instr} {m : Bool} {rs : List Reg} {d : Reg} {s : State}

/-- A result of variable latency whose words and flags are those of the active threads (R67, R71). -/
theorem queuesLanes_of_exec (f : Group → Nat → Word) (h : Nat → Flags) (w : Group → FF)
    (hl : LaneReady s rs) (hr : HasRoom s) (hf : FlagsRaised s.me.xm {} (w s.me) h)
    (he : exec i s = issue m (laneResult (rs.map BitVec.toNat) fun g => (g.actives.map fun t => .v d.toNat t (f g t), w g)) s) :
    QueuesLanes i m s d.toNat (f s.me) h :=
  ⟨w s.me, hf, he.trans (issue_setMe hl.1 (laneResult_ready hl hr _) rfl)⟩

theorem SpecialFunction.exec_eq {f : Group → Nat → Word × Flags} (h : SpecialFunction i m rs d f) (s : State) :
    exec i s = issue m (laneResult (rs.map BitVec.toNat) fun g =>
      (g.actives.map fun t => .v d.toNat t (f g t).1, g.flagSets fun t => (f g t).2)) s := by
  cases h <;> rfl

/-! Words moved between threads (R115 to R119). -/

/-- Byte k of the 16-byte table of `vperm8`, as the machine reads it from the two registers side by side (R119). -/
theorem tableByte_eq (g : Group) (b : Reg) {k : Nat} (hk : k < 16) :
    ((g.getS b.toNat).toNat + 2 ^ 64 * (g.getS (b.toNat + 1)).toNat) / 256 ^ k % 256 = tableByte g b k := by
  have hlo : (g.getS b.toNat).toNat < 256 ^ 8 := (g.getS b.toNat).isLt
  rw [tableByte, show (2 : Nat) ^ 64 = 256 ^ 8 by norm_num]
  split
  case isTrue h8 =>
    obtain ⟨n, hn⟩ : ∃ n, 8 = k + (n + 1) := ⟨7 - k, by omega⟩
    rw [hn, pow_add, Nat.mul_assoc, Nat.add_mul_div_left _ _ (by positivity), pow_succ, Nat.mul_right_comm, Nat.add_mul_mod_self_right]
  case isFalse h8 =>
    obtain ⟨n, rfl⟩ := Nat.exists_eq_add_of_le (Nat.not_lt.mp h8)
    rw [pow_add, ← Nat.div_div_eq_div_mul, Nat.add_mul_div_left _ _ (by positivity), Nat.div_eq_of_lt hlo, Nat.zero_add,
      Nat.add_sub_cancel_left]

theorem foldl_range_four (f : Nat → Nat → Nat) : (List.range 4).foldl f 0 = f (f (f (f 0 0) 1) 2) 3 := rfl

/-- Four bytes put together, the lowest first. -/
theorem word_of_bytes (t : Nat → Nat) :
    t 0 + 256 * t 1 + 65536 * t 2 + 16777216 * t 3 = (List.range 4).foldl (fun n k => n + t k * 256 ^ k) 0 := by
  rw [foldl_range_four]
  omega

theorem perm8Word_eq (g : Group) (b : Reg) (hi : Bool) (x : Word) :
    perm8Word hi ((g.getS b.toNat).toNat + 2 ^ 64 * (g.getS (b.toNat + 1)).toNat) x = permuted g b hi x := by
  have hsel (k : Nat) : (if hi = true then x.toNat / 256 ^ k % 256 / 16 else x.toNat / 256 ^ k % 256 % 16) < 16 := by
    split <;> omega
  simp only [perm8Word, permuted, tableByte_eq g b (hsel _)]
  exact congrArg (BitVec.ofNat 32) (word_of_bytes fun k =>
    tableByte g b (if hi = true then x.toNat / 256 ^ k % 256 / 16 else x.toNat / 256 ^ k % 256 % 16))

theorem Shuffle.exec_eq {f : Group → Nat → Word} (h : Shuffle i m rs d f) (s : State) :
    exec i s = issue m (laneResult (rs.map BitVec.toNat) fun g => (g.actives.map fun t => .v d.toNat t (f g t), {})) s := by
  cases h with
  | vperm8Lo => simp only [← perm8Word_eq]; rfl
  | vperm8Hi => simp only [← perm8Word_eq]; rfl
  | _ => rfl

theorem exec_vext {a b : Reg} (hl : LaneReady s [a]) (hr : HasRoom s) : exec (.vext m d a b) s
    = .next (finished s m (s.me.pc + 4) (sResult s d ((s.me.getV a.toNat ((s.me.getS b.toNat).toNat % 64)).setWidth 64))) :=
  issue_setMe hl.1 (laneResult_ready hl hr _) rfl

/-- No thread raises a flag. -/
theorem flagsRaised_none (xm : Mask) : FlagsRaised xm {} {} fun _ => {} := fun t _ => by simp

end
end Sys2Proof.Rules

namespace Sys2Proof.Proofs

open Sys2Proof.Machine Sys2Proof.Rules

/-- Settles O21: with room each queues its result; the words are those of its row, and no flag but a special function's. -/
theorem variableLatencyLaneInstructions : Obligations.VariableLatencyLaneInstructions := by
  refine ⟨?special, ?shuffle, fun m d a b s hl hr => exec_vext hl hr⟩
  case special =>
    intro i m rs d f s h hl hr
    exact queuesLanes_of_exec (fun g t => (f g t).1) _ (fun g => g.flagSets fun t => (f g t).2) hl hr
      (flagsRaised_ofThreads s.me.xm _) (h.exec_eq s)
  case shuffle =>
    intro i m rs d f s h hl hr
    exact queuesLanes_of_exec f _ (fun _ => {}) hl hr (flagsRaised_none s.me.xm) (h.exec_eq s)
end Sys2Proof.Proofs

/-!
Accesses that fault at issue: the lowest thread that fails a check, and misnamed registers (R146, R188, R191, R193).
-/

namespace Sys2Proof.Rules

open Sys2Proof.Machine

/-! The threads below the lowest that fails (R146). -/

/-- The active threads ascend: those before t in their list are those below it. -/
theorem active_split {g : Group} {t : Nat} (h : t ∈ active g) :
    ∃ pre post, active g = pre ++ t :: post ∧ ∀ u ∈ pre, u ∈ active g ∧ u < t := by
  obtain ⟨pre, post, hs⟩ := List.append_of_mem h
  have hsorted : (active g).Pairwise (· < ·) := List.pairwise_lt_range.filter _
  rw [hs, List.pairwise_append] at hsorted
  exact ⟨pre, post, hs, fun u hu => ⟨hs ▸ List.mem_append_left _ hu, hsorted.2.2 u hu t (List.mem_cons_self ..)⟩⟩

/-- The accesses of a group stop at the lowest thread whose check fails. -/
theorem collect_lowest {g : Group} {t : Nat} {x : TrapInfo} {P : Nat → List Piece} {chk : Nat → Except TrapInfo (List Piece)}
    (F : Nat → List Piece → List Access) (ht : t ∈ active g) (hx : chk t = .error x)
    (hP : ∀ u ∈ active g, u < t → chk u = .ok (P u)) : collect (fun u => (chk u).map (F u)) g.actives = .error x := by
  obtain ⟨pre, post, hs, hpre⟩ := active_split ht
  rw [show g.actives = active g from rfl, hs]
  clear hs
  induction pre with
  | nil => simp only [List.nil_append, collect, hx]; rfl
  | cons u pre ih =>
    obtain ⟨hu, hut⟩ := hpre u (List.mem_cons_self ..)
    simp only [List.cons_append, collect, hP u hu hut, ih fun v hv => hpre v (List.mem_cons_of_mem _ hv)]
    rfl

theorem requests_error {s : State} {op : AtomOp} {ret : Bool} {n d a seg : Nat} {sg : Segment} {P : Nat → List Piece}
    {pre post : List Nat} {t : Nat} {x : TrapInfo}
    (hp : ∀ u ∈ pre, s.checkAtomic seg sg ret (some u) (s.me.getV a u).toNat n = .ok (P u))
    (ht : s.checkAtomic seg sg ret (some t) (s.me.getV a t).toNat n = .error x) (acc : List (Nat × Access)) :
    s.requests op ret n d a seg sg (pre ++ t :: post) acc = .error x := by
  induction pre generalizing acc with
  | nil => simp only [List.nil_append, State.requests, ht]
  | cons u pre ih =>
    simp only [List.cons_append, State.requests, hp u (List.mem_cons_self ..)]
    exact ih (fun v hv => hp v (List.mem_cons_of_mem _ hv)) _

/-! The bodies of the accesses (R145, R190). -/

theorem laneOff_eq (s : State) (a : Reg) (t n : Nat) (e : BitVec 4) : laneOff s a t n e = s.me.laneOffset a.toNat t n e.toInt := by
  rw [laneOff, si_eq_toInt]; rfl

section
variable {i : Instr} {m : Bool} {d a : Reg} {g : BitVec 3} {z : Size} {e : BitVec 4}

theorem LaneLoad.exec_eq {sg : Bool} (h : LaneLoad i m d a g z e sg) (s : State) :
    exec i s = issue m (laneLoad z.bytes sg d.toNat a.toNat g.toNat e.toInt) s := by cases h <;> rfl

theorem ScalarLoad.exec_eq {sg : Bool} (h : ScalarLoad i m d a g z e sg) (s : State) :
    exec i s = issue m (scalarLoad z.bytes sg d.toNat a.toNat g.toNat e.toInt) s := by cases h <;> rfl

theorem exec_vst (s : State) : exec (.vst m d a g z e) s = issue m (laneStore z.bytes d.toNat a.toNat g.toNat e.toInt) s := rfl

theorem exec_sst (s : State) : exec (.sst m d a g z e) s = issue m (scalarStore z.bytes d.toNat a.toNat g.toNat e.toInt) s := rfl

theorem LaneAtomic.exec_eq {op : AtomOp} {ret : Bool} (h : LaneAtomic i m d a g z op ret) (s : State) :
    exec i s = issue m (laneAtomic op ret z.bytes d.toNat a.toNat g.toNat) s := by cases h <;> rfl

theorem ScalarAtomic.exec_eq {op : AtomOp} (h : ScalarAtomic i m d a g z op) (s : State) :
    exec i s = issue m (scalarAtomic op z.bytes d.toNat a.toNat g.toNat) s := by cases h <;> rfl

end

/-! The lowest failing thread. -/

section
variable {s : State} {d a : Reg} {g : BitVec 3} {n t : Nat} {e : Int} {x : TrapInfo} {P : Nat → List Piece}

theorem laneLoad_fault (hl : LaneReady s [a]) (hd : DatumReady s d n) (ht : t ∈ active s.me) (sg : Bool)
    (hx : s.checkAccess s.cur (s.asker s.me) g.toNat (segOf s g) { r := true } (some t) (s.me.laneOffset a.toNat t n e) n = .error x)
    (hP : ∀ u ∈ active s.me, u < t →
      s.checkAccess s.cur (s.asker s.me) g.toNat (segOf s g) { r := true } (some u) (s.me.laneOffset a.toNat u n e) n = .ok (P u)) :
    laneLoad n sg d.toNat a.toNat g.toNat e s = .fault s x := by
  have hc := collect_lowest (fun _ ps => ps.map Access.load) ht hx hP
  rw [segOf] at hc
  simp only [laneLoad, coreOnly_core hl.2.1, lane_registers hl hd, hc, Bool.false_eq_true, if_false]

theorem laneStore_fault (hl : LaneReady s [a]) (hd : DatumReady s d n) (ht : t ∈ active s.me)
    (hx : s.checkAccess s.cur (s.asker s.me) g.toNat (segOf s g) { w := true } (some t) (s.me.laneOffset a.toNat t n e) n = .error x)
    (hP : ∀ u ∈ active s.me, u < t →
      s.checkAccess s.cur (s.asker s.me) g.toNat (segOf s g) { w := true } (some u) (s.me.laneOffset a.toNat u n e) n = .ok (P u)) :
    laneStore n d.toNat a.toNat g.toNat e s = .fault s x := by
  have hc := collect_lowest (fun t ps => storesOf (s.me.laneDatum d.toNat t n) ps) ht hx hP
  rw [segOf] at hc
  simp only [laneStore, coreOnly_core hl.2.1, lane_registers hl hd, hc, Bool.false_eq_true, if_false]

/-- The registers of an atomic are in order (R21, R188). -/
theorem atomic_registers {op : AtomOp} (hn : n = 4 ∨ n = 8) (h : AtomReady s op d a n) :
    (!atomAligned op d.toNat n || (a.toNat :: atomRegs op d.toNat n).any fun r => decide (s.me.budget ≤ r)) = false := by
  obtain ⟨ha, hal, hcas, hb⟩ := h
  have hk : vregs (if op = .cas then 2 * n else n) = vregs n * (if op = .cas then 2 else 1) := by
    rcases hn with rfl | rfl <;> split <;> rfl
  have haligned : atomAligned op d.toNat n = true := by
    rcases hn with rfl | rfl
    · simpa [atomAligned, imp_iff_not_or] using hcas
    · have h8 := hal rfl
      by_cases ho : op = .cas <;> simpa [atomAligned, vregs, ho] using h8
  simp only [haligned, Bool.not_true, Bool.false_or, List.any_eq_false, List.mem_cons, atomRegs, vgroup, hk, List.mem_map,
    List.mem_range, decide_eq_true_eq, not_le]
  rintro r (rfl | ⟨k, hlt, rfl⟩)
  · exact ha
  · exact hb k hlt

theorem laneAtomic_fault {op : AtomOp} {ret : Bool} (hl : LaneReady s [a]) (hd : AtomReady s op d a n) (hn : n = 4 ∨ n = 8)
    (hp : (segOf s g).space = 0 → n = 4) (ht : t ∈ active s.me)
    (hx : s.checkAtomic g.toNat (segOf s g) ret (some t) (s.me.getV a.toNat t).toNat n = .error x)
    (hP : ∀ u ∈ active s.me, u < t → s.checkAtomic g.toNat (segOf s g) ret (some u) (s.me.getV a.toNat u).toNat n = .ok (P u)) :
    laneAtomic op ret n d.toNat a.toNat g.toNat s = .fault s x := by
  obtain ⟨pre, post, hs, hpre⟩ := active_split ht
  have hregs := atomic_registers hn hd
  have hp' : ¬ ((s.me.seg s.cur g.toNat).space = 0 ∧ n = 8) := fun h => by have := hp h.1; omega
  simp only [segOf] at hx hP
  simp only [laneAtomic, coreOnly_core hl.2.1, hregs, Bool.false_eq_true, if_false, hp', show s.me.actives = active s.me from rfl, hs,
    requests_error (P := P) (fun u hu => hP u (hpre u hu).1 (hpre u hu).2) hx]

end

/-- What the check of an atomic's thread answers, in the terms of R191. -/
theorem checkAtomic_eq (s : State) (seg : Nat) (sg : Segment) (ret : Bool) (t : Option Nat) (off n : Nat) :
    s.checkAtomic seg sg ret t off n = if off % n = 0 then
        s.checkAccess s.cur (s.asker s.me) seg sg { r := ret, w := true, atomic := true } t (off : Int) n
      else .error { kind := 1, thread := t, seg := some seg, offset := off } := by
  rw [State.checkAtomic, ite_not]

theorem bytes_of_word {z : Size} (h : z = .b4 ∨ z = .b8) : z.bytes = 4 ∨ z.bytes = 8 := h.imp (congrArg _) (congrArg _)

theorem LaneAccess.traps {i : Instr} {s : State} {chk : Nat → Except TrapInfo (List Piece)} {t : Nat} {x : TrapInfo}
    {P : Nat → List Piece} (h : LaneAccess s i chk) (ht : t ∈ active s.me) (hx : chk t = .error x)
    (hP : ∀ u ∈ active s.me, u < t → chk u = .ok (P u)) : exec i s = .next (s.takeTrap s.cur (some x)) := by
  cases h with
  | load _ m d a g z e sg h hl hd =>
    simp only [laneOff_eq] at hx hP
    rw [h.exec_eq]
    exact issue_fault hl.1 m (laneLoad_fault hl hd ht sg hx hP)
  | store m d a g z e hl hd =>
    simp only [laneOff_eq] at hx hP
    exact issue_fault hl.1 m (laneStore_fault hl hd ht hx hP)
  | atomic _ m d a g z op ret h hl hd hz hp =>
    simp only [un, ← checkAtomic_eq] at hx hP
    rw [h.exec_eq]
    exact issue_fault hl.1 m (laneAtomic_fault hl hd (bytes_of_word hz) (fun h0 => congrArg _ (hp h0)) ht hx hP)

/-! Accesses whose registers, width or space are illegal (R85, R146, R188, R191, R193). -/

/-- On a control processor it is illegal anyway (R30). -/
theorem coreOnly_illegal {s : State} {b : Body} (h : b s = illegal s) : coreOnly b s = illegal s := by
  unfold coreOnly
  split
  · rfl
  · exact h

theorem Misnamed.illegal {i : Instr} {s : State} (h : Misnamed s i) :
    ∃ m b, (∀ u, exec i u = issue m b u) ∧ b s = Machine.illegal s := by
  cases h with
  | laneLoad _ m d a g z e sg h hd =>
    exact ⟨m, _, h.exec_eq, coreOnly_illegal (by simp [valigned, hd])⟩
  | laneStore m d a g z e hd => exact ⟨m, _, fun u => exec_vst u, coreOnly_illegal (by simp [valigned, hd])⟩
  | laneAtomic _ m d a g z op ret h h8 h4 hz =>
    refine ⟨m, _, h.exec_eq, coreOnly_illegal ?_⟩
    have hal : atomAligned op d.toNat z.bytes = false := by
      rcases hz with rfl | rfl
      · obtain ⟨rfl, hd⟩ := h4 rfl
        simp [atomAligned, Size.bytes, hd]
      · simpa [atomAligned, Size.bytes] using h8 rfl
    simp [hal]
  | laneWide _ m d a g op ret h hp =>
    refine ⟨m, _, h.exec_eq, coreOnly_illegal ?_⟩
    rw [segOf] at hp
    simp [hp, Size.bytes]
  | scalarLoad _ m d a g e sg h hd =>
    exact ⟨m, _, h.exec_eq, by simp [Machine.scalarLoad, saligned, Size.bytes, hd]⟩
  | scalarStore m d a g e hd => exact ⟨m, _, fun u => exec_sst u, by simp [Machine.scalarStore, saligned, Size.bytes, hd]⟩
  | scalarAtomic _ m d a g z op h hc =>
    refine ⟨m, _, h.exec_eq, ?_⟩
    rw [segOf] at hc
    rcases hc with ⟨rfl, hd⟩ | hc
    · simp [Machine.scalarAtomic, hd]
    · have hsp : ((s.me.seg s.cur g.toNat).space = 0 ∧ z.bytes = 8) ∨ isCtlSpace (s.me.seg s.cur g.toNat).space = true := by
        rcases hc with ⟨h0, rfl⟩ | h1 | h1 <;> simp [*, isCtlSpace, Size.bytes]
      simp [Machine.scalarAtomic, hsp]

end Sys2Proof.Rules

namespace Sys2Proof.Proofs

open Sys2Proof.Machine Sys2Proof.Rules

/-- Settles O26: the checks stop at the lowest thread that fails, and a misnamed access is illegal before any check. -/
theorem laneAccessFaults : Obligations.LaneAccessFaults := by
  refine ⟨fun i s chk t x P h ht hx hP => h.traps ht hx hP, ?misnamed⟩
  case misnamed =>
    intro i s h hi
    obtain ⟨m, b, hb, hs⟩ := h.illegal
    exact (hb s).trans (issue_illegal hi hs)

end Sys2Proof.Proofs

/-!
Where the pieces of an access lie: cutting a range at the multiples of a number (R135, R167).
-/

namespace Sys2Proof.Rules

open Sys2Proof.Machine

/-! Where the pieces of an access lie (R135, R167). -/

/-- Positions 0 to n of n bytes from a at which pieces of q start and end: the ends, and the multiples of q. -/
abbrev SplitAt (q a n i : Nat) : Prop := i = 0 ∨ i = n ∨ (i < n ∧ (a + i) % q = 0)

/-- A piece from position i to position j, between two neighbours of those. -/
abbrev SplitPiece (q a n i j : Nat) : Prop :=
  i < j ∧ j ≤ n ∧ SplitAt q a n i ∧ SplitAt q a n j ∧ ∀ k < j, i < k → ¬ SplitAt q a n k

/-- The first piece ends at the next multiple of q, or with the bytes. -/
theorem splitPiece_first {q a n : Nat} (hq : 0 < q) (hn : 0 < n) : SplitPiece q a n 0 (min n (q - a % q)) := by
  have hr : a % q < q := Nat.mod_lt _ hq
  refine ⟨by omega, by omega, .inl rfl, ?_, ?_⟩
  · rcases Nat.lt_or_ge (q - a % q) n with h | h
    · refine .inr (.inr ⟨by omega, ?_⟩)
      rw [Nat.min_eq_right h.le, ← Nat.mod_add_mod, Nat.add_sub_cancel' hr.le, Nat.mod_self]
    · exact .inr (.inl (Nat.min_eq_left h))
  · rintro k hk h0 (h | h | ⟨-, h⟩)
    · omega
    · omega
    · rw [← Nat.mod_add_mod, Nat.mod_eq_of_lt (by omega)] at h
      omega

/-- Behind a place the places are those of the bytes that are left. -/
theorem splitAt_add {q a n c i : Nat} (h0 : 0 < c) (hn : c ≤ n) (hc : SplitAt q a n c) :
    SplitAt q a n (c + i) ↔ SplitAt q (a + c) (n - c) i := by
  rw [SplitAt, SplitAt, ← Nat.add_assoc]
  constructor
  · rintro (h | h | ⟨h, hm⟩)
    · omega
    · exact .inr (.inl (by omega))
    · exact .inr (.inr ⟨by omega, hm⟩)
  · rintro (rfl | h | ⟨h, hm⟩)
    · exact hc
    · exact .inr (.inl (by omega))
    · exact .inr (.inr ⟨by omega, hm⟩)

/-- The pieces are the first one and those of the bytes behind it. -/
theorem splitPiece_iff {q a n i j c : Nat} (hc : SplitPiece q a n 0 c) :
    SplitPiece q a n i j ↔ (i = 0 ∧ j = c) ∨ ∃ x y, SplitPiece q (a + c) (n - c) x y ∧ i = c + x ∧ j = c + y := by
  obtain ⟨h0, hn, -, hat, hno⟩ := hc
  constructor
  · rintro ⟨hij, hj, hi', hj', hk⟩
    by_cases hi : i = 0
    · subst hi
      have h1 : ¬ c < j := fun h => hk c h h0 hat
      have h2 : ¬ j < c := fun h => hno j h hij hj'
      exact .inl ⟨rfl, by omega⟩
    · have hci : c ≤ i := Nat.not_lt.mp fun h => hno i h (Nat.pos_of_ne_zero hi) hi'
      obtain ⟨x, rfl⟩ := Nat.exists_eq_add_of_le hci
      obtain ⟨y, rfl⟩ := Nat.exists_eq_add_of_le (hci.trans hij.le)
      refine .inr ⟨x, y, ⟨by omega, by omega, (splitAt_add h0 hn hat).mp hi', (splitAt_add h0 hn hat).mp hj', ?_⟩, rfl, rfl⟩
      exact fun k h1 h2 h => hk (c + k) (by omega) (by omega) ((splitAt_add h0 hn hat).mpr h)
  · rintro (⟨rfl, rfl⟩ | ⟨x, y, ⟨hxy, hy, hx', hy', hk⟩, rfl, rfl⟩)
    · exact ⟨h0, hn, .inl rfl, hat, hno⟩
    · refine ⟨by omega, by omega, (splitAt_add h0 hn hat).mpr hx', (splitAt_add h0 hn hat).mpr hy', fun k h1 h2 h => ?_⟩
      obtain ⟨z, rfl⟩ := Nat.exists_eq_add_of_le (show c ≤ k by omega)
      exact hk z (by omega) (by omega) ((splitAt_add h0 hn hat).mp h)

/-- Cutting a range at the multiples of q gives its pieces. -/
theorem mem_splitRange {q : Nat} (hq : 0 < q) {fuel a n : Nat} (hf : n < fuel) {p : Nat × Nat} :
    p ∈ splitRange q fuel a n ↔ ∃ i j, SplitPiece q a n i j ∧ p = (a + i, j - i) := by
  induction fuel generalizing a n with
  | zero => omega
  | succ fuel ih =>
    rw [splitRange]
    split
    case isTrue h0 => simp only [List.not_mem_nil, false_iff]; rintro ⟨i, j, ⟨hij, hj, -⟩, -⟩; omega
    case isFalse h0 =>
      have hc := splitPiece_first (a := a) hq (Nat.pos_of_ne_zero h0)
      generalize min n (q - a % q) = c at hc
      have h0c := hc.1
      simp only [List.mem_cons, ih (show n - c < fuel by omega), splitPiece_iff hc]
      constructor
      · rintro (rfl | ⟨x, y, h, rfl⟩)
        · exact ⟨0, c, .inl ⟨rfl, rfl⟩, rfl⟩
        · exact ⟨c + x, c + y, .inr ⟨x, y, h, rfl, rfl⟩, by rw [Nat.add_assoc, Nat.add_sub_add_left]⟩
      · rintro ⟨i, j, ⟨rfl, rfl⟩ | ⟨x, y, h, rfl, rfl⟩, rfl⟩
        · exact .inl rfl
        · exact .inr ⟨x, y, h, by rw [Nat.add_assoc, Nat.add_sub_add_left]⟩

/-- They ascend. -/
theorem splitRange_sorted {q : Nat} (hq : 0 < q) {fuel a n : Nat} (hf : n < fuel) :
    (splitRange q fuel a n).Pairwise fun p r => p.1 < r.1 := by
  induction fuel generalizing a n with
  | zero => omega
  | succ fuel ih =>
    rw [splitRange]
    split
    case isTrue => exact .nil
    case isFalse h0 =>
      have h0c := (splitPiece_first (a := a) hq (Nat.pos_of_ne_zero h0)).1
      generalize min n (q - a % q) = c at h0c
      have hf' : n - c < fuel := by omega
      refine .cons (fun p hp => ?_) (ih hf')
      obtain ⟨i, j, -, rfl⟩ := (mem_splitRange hq hf').mp hp
      show a < a + c + i
      omega

/-- Outside the space of each thread of its own, a target lies a fixed distance from its offset (R135). -/
theorem target_eq_add {s : State} {gid : Nat} {g : Segment} (h : g.space ≠ 0) (t x : Nat) :
    s.target gid g t x = s.target gid g 0 0 + x := by
  unfold State.target
  split <;> simp_all [scratchAddr, orangeryAddr, belvedereAddr, sramAddr] <;> omega

theorem mem_cut {s : State} {gid : Nat} {g : Segment} {a n : Nat} {p : Nat × Nat} :
    p ∈ s.cut gid g a n ↔ ∃ i j, PieceFrom s gid g a n i j ∧ p = (a + i, j - i) := by
  unfold State.cut
  by_cases h : g.space = 0
  · simp only [PieceFrom, Bound, h, if_true]
    exact mem_splitRange (by decide) (Nat.lt_succ_self n)
  · have hb (i : Nat) : Bound s gid g a n i ↔ SplitAt 16 (a + s.target gid g 0 0 % 16) n i := by
      simp only [Bound, SplitAt, h, if_false, target_eq_add h 0 (a + i)]
      have : (s.target gid g 0 0 + (a + i)) % 16 = (a + s.target gid g 0 0 % 16 + i) % 16 := by omega
      rw [this]
    simp only [h, if_false, PieceFrom, hb, List.mem_map, mem_splitRange (show 0 < 16 by decide) (Nat.lt_succ_self n)]
    constructor
    · rintro ⟨_, ⟨i, j, hp, rfl⟩, rfl⟩
      exact ⟨i, j, hp, Prod.ext (by simp only; omega) rfl⟩
    · rintro ⟨i, j, hp, rfl⟩
      exact ⟨_, ⟨i, j, hp, rfl⟩, Prod.ext (by simp only; omega) rfl⟩

theorem cut_sorted (s : State) (gid : Nat) (g : Segment) (a n : Nat) : (s.cut gid g a n).Pairwise fun p r => p.1 < r.1 := by
  unfold State.cut
  split
  · exact splitRange_sorted (by decide) (Nat.lt_succ_self n)
  · simp only [List.pairwise_map]
    refine (splitRange_sorted (by decide) (Nat.lt_succ_self n)).imp_of_mem fun {p r} hp hr hpr => ?_
    obtain ⟨i, j, -, rfl⟩ := (mem_splitRange (by decide) (Nat.lt_succ_self n)).mp hp
    show a + _ + i - _ < _
    simp only at hpr
    omega

end Sys2Proof.Rules

/-!
The first check of R146 and R191 that an access fails, at the lowest piece that fails it.
-/

namespace Sys2Proof.Rules

open Sys2Proof.Machine

/-! The first check that a piece fails (R146). -/

theorem firstFault_none {α : Type} {f : α → Option TrapInfo} {l : List α} (h : ∀ p ∈ l, f p = none) : firstFault f l = none := by
  induction l with
  | nil => rfl
  | cons p l ih => simp only [firstFault, h p (List.mem_cons_self ..), ih fun r hr => h r (List.mem_cons_of_mem _ hr)]

theorem firstFault_append {α : Type} {f : α → Option TrapInfo} {pre post : List α} {p : α} {x : TrapInfo}
    (h : ∀ r ∈ pre, f r = none) (hp : f p = some x) : firstFault f (pre ++ p :: post) = some x := by
  induction pre with
  | nil => simp only [List.nil_append, firstFault, hp]
  | cons r pre ih =>
    simp only [List.cons_append, firstFault, h r (List.mem_cons_self ..), ih fun v hv => h v (List.mem_cons_of_mem _ hv)]

section
variable {s : State} {gid : Nat} {g : Segment} {a n : Nat} {F : Nat → Nat → Prop} {f : Nat × Nat → Option TrapInfo}

/-- A check that no piece fails answers no fault. -/
theorem firstFault_noPiece (h : NoPiece s gid g a n F)
    (hf : ∀ i j, PieceFrom s gid g a n i j → ¬ F (a + i) (a + j) → f (a + i, j - i) = none) :
    firstFault f (s.cut gid g a n) = none := by
  refine firstFault_none fun p hp => ?_
  obtain ⟨i, j, hij, rfl⟩ := mem_cut.mp hp
  obtain ⟨hlt, hj, -⟩ := id hij
  exact hf i j hij (h i (by omega) j (by omega) hij)

/-- One that a piece fails answers the fault of the lowest such piece. -/
theorem firstFault_lowest {o : Nat} {x : TrapInfo} (h : LowestPiece s gid g a n F o)
    (hf : ∀ i j, PieceFrom s gid g a n i j → ¬ F (a + i) (a + j) → f (a + i, j - i) = none)
    (hx : ∀ i j, PieceFrom s gid g a n i j → o = a + i → F (a + i) (a + j) → f (a + i, j - i) = some x) :
    firstFault f (s.cut gid g a n) = some x := by
  obtain ⟨i, -, ho, ⟨j, -, hij, hF⟩, hlow⟩ := h
  obtain ⟨pre, post, hs⟩ := List.append_of_mem (mem_cut.mpr ⟨i, j, hij, rfl⟩)
  have hsorted := cut_sorted s gid g a n
  rw [hs, List.pairwise_append] at hsorted
  obtain ⟨-, -, hpre⟩ := hsorted
  rw [hs]
  refine firstFault_append (fun p hp => ?_) (hx i j hij ho hF)
  obtain ⟨k, l, hkl, rfl⟩ := mem_cut.mp (hs ▸ List.mem_append_left _ hp)
  have hk : a + k < a + i := hpre _ hp _ (List.mem_cons_self ..)
  obtain ⟨-, hl, -⟩ := id hkl
  exact hf k l hkl (hlow k (by omega) l (by omega) hkl)

end

/-! Translation and the rights of a leaf (R141, R146, R191). -/

theorem walkFrom_error {s : State} {va l t k : Nat} (h : walkFrom s va l t = .error k) : k = 5 ∨ k = 8 := by
  induction l generalizing t with
  | zero =>
    simp only [walkFrom] at h
    split_ifs at h <;> cases h <;> simp only [true_or, or_true]
  | succ l ih =>
    simp only [walkFrom] at h
    generalize (if l = 3 then bits va 55 48 else bits va (20 + 9 * (l + 1)) (12 + 9 * (l + 1))) = i at h
    split_ifs at h
    · cases h; exact .inr rfl
    · cases h; exact .inl rfl
    · exact ih h
    · cases h; exact .inl rfl
    · cases h; exact .inl rfl

theorem leaf?_error {s : State} {who : Asker} {va k : Nat} (h : s.leaf? who va = .error k) : k = 5 ∨ k = 8 := by
  unfold State.leaf? at h
  split at h
  · split at h <;> cases h
    exact .inl rfl
  · unfold State.walk at h
    split at h
    · cases h; exact .inl rfl
    · exact walkFrom_error h

/-- A translation fails as R141 and R146 say. -/
theorem leafFor_error_iff {s : State} {who : Asker} {g : Segment} {va k : Nat} :
    s.leafFor who (g.space == 4) va = .error k ↔ Untranslated s who g va k := by
  unfold State.leafFor Untranslated
  cases h : s.leaf? who va with
  | error k' => simp [Except.toOption]
  | ok e =>
    simp only [Except.toOption, Option.mem_def, Option.some.injEq, exists_eq_left', reduceCtorEq, false_or]
    simp only [Bool.and_eq_true, beq_iff_eq, bne_iff_ne]
    grind

theorem leafFor_ok {s : State} {who : Asker} {g : Segment} {va : Nat}
    (h : ¬ (Untranslated s who g va 5 ∨ Untranslated s who g va 8 ∨ Untranslated s who g va 12)) :
    ∃ e, s.leafFor who (g.space == 4) va = .ok e ∧ s.leaf? who va = .ok e := by
  simp only [← leafFor_error_iff] at h
  unfold State.leafFor at h ⊢
  cases hl : s.leaf? who va with
  | error k =>
    rcases leaf?_error hl with rfl | rfl <;> simp [hl] at h
  | ok e =>
    simp only [hl] at h
    refine ⟨e, ?_, rfl⟩
    split_ifs at h ⊢ <;> simp_all

/-- A leaf denies an access as R146 and R191 say. -/
theorem leafDenies_iff {s : State} {need : Need} {e k : Nat} : s.leafDenies need e = some k ↔ Denies s need e k := by
  unfold State.leafDenies Denies
  simp only [Bool.and_eq_true, Bool.or_eq_true, beq_iff_eq, bne_iff_ne, Bool.not_eq_true', or_assoc]
  grind

/-- It denies with kind 6 or 7. -/
theorem leafDenies_none {s : State} {need : Need} {e : Nat} (h : ¬ (Denies s need e 6 ∨ Denies s need e 7)) :
    s.leafDenies need e = none := by
  simp only [← leafDenies_iff] at h
  unfold State.leafDenies at h ⊢
  split_ifs at h ⊢ <;> simp_all

/-- The record of a failing check, as the machine makes it (R146). -/
theorem fault_eq (seg : Nat) (t : Option Nat) (k : Nat) (o : Int) :
    ({ kind := k, thread := t, seg := some seg, offset := (o % (2 ^ 64 : Nat)).toNat } : TrapInfo) = faultOf seg t k o := by
  rw [faultOf, Nat.cast_pow, Nat.cast_ofNat]

theorem translated_iff (n : Nat) : translated n = true ↔ n = 0 ∨ n = 2 ∨ n = 4 := by
  simp [translated, or_assoc]

/-- An access whose first failing check is known answers that check's fault (R146, R191). -/
theorem AccessFault.checkAccess_eq {s : State} {gid : Nat} {who : Asker} {g : Segment} {need : Need} {t : Option Nat} {a : Int}
    {n k : Nat} {o : Int} (h : AccessFault s gid who g need (t.getD 0) a n k o) (seg : Nat) :
    s.checkAccess gid who seg g need t a n = .error (faultOf seg t k o) := by
  have hneg (b : Nat) : ¬ (b : Int) < 0 := by omega
  have hend {b i j : Nat} (h : PieceFrom s gid g b n i j) : b + i + (j - i) = b + j := by
    obtain ⟨hij, -⟩ := h
    omega
  have hno14 (h : ¬ (need.w = true ∧ g.space = 3)) : (need.w && g.space == 3) = false := by simpa using h
  have hno6 (hr : need.r = true → g.r = true) (hw : need.w = true → g.w = true) : (need.r && !g.r || need.w && !g.w) = false := by
    simp_all
  have hsp' (h : g.space = 0 ∨ g.space = 2 ∨ g.space = 4) : translated g.space = true := by simpa [translated, or_assoc] using h
  simp only [State.checkAccess, fault_eq]
  cases h with
  | negative h => simp only [h, if_true]
  | limit b o ha h =>
    subst ha
    simp only [hneg, if_false, Int.toNat_natCast]
    rw [firstFault_lowest (x := faultOf seg t 4 o) h]
    · intro i j hij hF; simp only [hend hij, hF, if_false]
    · intro i j hij ho hF; simp only [hend hij, hF, if_true, ho]
  | orangery b ha hlim hw h3 =>
    subst ha
    have h14 : (need.w && g.space == 3) = true := by simp [hw, h3]
    simp only [hneg, if_false, Int.toNat_natCast]
    rw [firstFault_noPiece hlim fun i j hij hF => by simp only [hend hij, hF, if_false]]
    simp only [h14, if_true]
  | permission b ha hlim h14 hp =>
    subst ha
    have h6 : (need.r && !g.r || need.w && !g.w) = true := by simpa using hp
    simp only [hneg, if_false, Int.toNat_natCast, hno14 h14, h6, if_true, Bool.false_eq_true]
    rw [firstFault_noPiece hlim fun i j hij hF => by simp only [hend hij, hF, if_false]]
  | translation b o k ha hlim h14 hr hw hsp h hk =>
    subst ha
    simp only [hneg, if_false, Int.toNat_natCast, hno14 h14, hno6 hr hw, Bool.false_eq_true, hsp' hsp, if_true]
    rw [firstFault_noPiece hlim fun i j hij hF => by simp only [hend hij, hF, if_false]]
    dsimp only
    rw [firstFault_lowest (x := faultOf seg t k o) h]
    · intro i j hij hF
      obtain ⟨e, he, -⟩ := leafFor_ok hF
      simp only [he]
    · intro i j hij ho hF
      subst ho
      simp only [leafFor_error_iff.mpr hk]
  | leaf b o k ha hlim h14 hr hw hsp hpass h hk =>
    subst ha
    have hleaf {i j : Nat} (hij : PieceFrom s gid g b n i j) : ∃ e, s.leafFor who (g.space == 4) (s.target gid g (t.getD 0) (b + i)) = .ok e
        ∧ s.leaf? who (s.target gid g (t.getD 0) (b + i)) = .ok e := by
      obtain ⟨hlt, hj, -⟩ := id hij
      exact leafFor_ok (hpass i (by omega) j (by omega) hij)
    simp only [hneg, if_false, Int.toNat_natCast, hno14 h14, hno6 hr hw, Bool.false_eq_true, hsp' hsp, if_true]
    rw [firstFault_noPiece hlim fun i j hij hF => by simp only [hend hij, hF, if_false]]
    dsimp only
    rw [firstFault_noPiece hpass fun i j hij _ => by obtain ⟨e, he, -⟩ := hleaf hij; simp only [he]]
    dsimp only
    rw [firstFault_lowest (x := faultOf seg t k o) h]
    · intro i j hij hF
      obtain ⟨e, he, hv⟩ := hleaf hij
      simp only [Denied, hv, Except.toOption, Option.mem_def, Option.some.injEq, exists_eq_left'] at hF
      simp only [he, leafDenies_none hF, Option.map_none]
    · intro i j hij ho hF
      subst ho
      obtain ⟨e, he, hv⟩ := hleaf hij
      simp only [Denied, hv, Except.toOption, Option.mem_def, Option.some.injEq, exists_eq_left'] at hk
      simp only [he, leafDenies_iff.mpr hk, Option.map_some]

end Sys2Proof.Rules

/-!
Scalar loads and stores at issue (R85).
-/

namespace Sys2Proof.Rules

open Sys2Proof.Machine

/-! Scalar loads and stores (R85). -/

theorem scalarOff_eq (s : State) (a : Reg) (n : Nat) (e : BitVec 4) : scalarOff s a n e = s.me.scalarOffset a.toNat n e.toInt := by
  rw [scalarOff, si_eq_toInt]; rfl

/-- An instruction whose accesses stand outstanding leaves memory as it is (R159). -/
theorem queuesAccess_of_body {i : Instr} {m : Bool} {b : Body} {s : State} {p : Pending} (hi : Issuing s) (he : exec i s = issue m b s)
    (hb : b s = .ok (s.setMe (queued s.me { p with pc := s.me.pc }))) : QueuesAccess i m s p :=
  ⟨he.trans (issue_setMe hi hb rfl), fun _ => rfl⟩

section
variable {s : State} {d a : Reg} {g : BitVec 3} {n k : Nat} {e : Int} {o : Int}

theorem scalarLoad_fault (hg : NoRegisters s g) (hd : n = 16 → d.toNat % 2 = 0) (sg : Bool)
    (h : AccessFault s s.cur (s.asker s.me) (segOf s g) { r := true } 0 (s.me.scalarOffset a.toNat n e) n k o) :
    scalarLoad n sg d.toNat a.toNat g.toNat e s = .fault s (faultOf g.toNat none k o) := by
  have hc := AccessFault.checkAccess_eq (t := none) h g.toNat
  rw [segOf] at hc
  simp only [scalarLoad, saligned_of_even hd, isCtlSpace_of_noRegisters hg, hc, Bool.not_true, Bool.false_eq_true, if_false]

theorem scalarStore_fault (hg : NoRegisters s g) (hd : n = 16 → d.toNat % 2 = 0)
    (h : AccessFault s s.cur (s.asker s.me) (segOf s g) { w := true } 0 (s.me.scalarOffset a.toNat n e) n k o) :
    scalarStore n d.toNat a.toNat g.toNat e s = .fault s (faultOf g.toNat none k o) := by
  have hc := AccessFault.checkAccess_eq (t := none) h g.toNat
  rw [segOf] at hc
  simp only [scalarStore, saligned_of_even hd, isCtlSpace_of_noRegisters hg, hc, Bool.not_true, Bool.false_eq_true, if_false]

end

end Sys2Proof.Rules

namespace Sys2Proof.Proofs

open Sys2Proof.Machine Sys2Proof.Rules

/-- Settles O12: an access that passes is queued by its body; one that fails meets the fault of its first failing check, which
the machine's own check answers. -/
theorem scalarAccesses : Obligations.ScalarAccesses := by
  refine ⟨?loads, ?stores, ?faults⟩
  case loads =>
    intro i m d a g z e sg ps s h hi hr hg hd hc
    rw [scalarOff_eq] at hc
    exact queuesAccess_of_body hi (h.exec_eq s) (scalarLoad_checked hg hr hd hc sg)
  case stores =>
    intro m d a g z e ps s hi hg hd hc
    rw [scalarOff_eq] at hc
    exact queuesAccess_of_body hi (exec_sst s) (scalarStore_checked hg hd hc)
  case faults =>
    intro m d a g z e k o s hi hg hd
    rw [scalarOff_eq]
    refine ⟨fun i sg h hf => ?_, fun hf => issue_fault hi m (scalarStore_fault hg hd hf)⟩
    exact (h.exec_eq s).trans (issue_fault hi m (scalarLoad_fault hg hd sg hf))

end Sys2Proof.Proofs

/-!
A core that a multicast tile is on its way into: TaskStep lends it, the machine waits (R217, R315).
-/

namespace Sys2Proof.Rules

open Sys2Proof.Machine

/-! A core that a multicast tile is on its way into is not lent yet (R217, R315; log 77). -/

/-- A tile that drains from the holding buffer of cluster 0 into core 0 (R218). -/
def parkedTile : ParkedTile :=
  { id := 1, startNo := 1, channel := 0, late := [0], rows := 1, rb := 64, fmt := 0, plan := 1, bytes := []
    drain := some { core := 0, dst := {}, obj := none, todo := [(0, 64)] } }

/-- Core 0 has no team left to save and is to be lent to stage 0 of plan 1, while the tile is still on its way into it. -/
def deliveredCore : State :=
  { cores := [(0, { saving := some (1, 0) })], clusters := [(0, { parked := [parkedTile] })] }

theorem deliveredCore_delivering : deliveredCore.delivering 0 (fun _ => true) = true := rfl

theorem deliveredCore_saving_ne {c : Nat} (h : c ≠ 0) : (deliveredCore.core c).saving = none := by
  simp [State.core, Map.getD, Map.get?, deliveredCore, Ne.symm h]

/-- TaskStep lends the core: `lends` asks only that its teams can be saved. -/
theorem taskStep_deliveredCore : TaskStep (.preemptTick 0) deliveredCore (deliveredCore.lend 0 1 0) :=
  .lends _ 0 0 1 0 (by decide) rfl (by simp [coresOf]) rfl (fun _ h => nomatch h) fun _ _ h => nomatch h

/-- The machine waits for the tile: no core of the die can be saved. -/
theorem trySaved_deliveredCore : deliveredCore.trySaved 0 = none := by
  have hc : ∀ c ∈ coresOf 0, ((deliveredCore.core c).saving.bind fun x =>
      if (deliveredCore.core c).resident.all deliveredCore.canHold && !deliveredCore.delivering c (fun _ => true)
      then some (c, x) else none) = none := by
    intro c _
    by_cases h : c = 0
    · subst h; simp [deliveredCore_delivering]
    · simp [deliveredCore_saving_ne h]
  unfold State.trySaved
  rw [List.findSome?_eq_none_iff.mpr hc]
  split <;> rfl

/-- Nor is a tick of pre-emption due, so the step changes nothing. -/
theorem exec_preemptTick_deliveredCore : exec (.preemptTick 0) deliveredCore = .next deliveredCore := by
  show event deliveredCore (deliveredCore.tryPreemptTick 0) = _
  have hd : 16 ≤ 0 ∨ deliveredCore.cycle < (deliveredCore.die 0).preemptedAt + 1024 := .inr (by decide)
  simp only [State.tryPreemptTick, trySaved_deliveredCore, if_pos hd]
  rfl

theorem deliveredCore_lend_ne : deliveredCore ≠ deliveredCore.lend 0 1 0 := by
  intro h
  have hs : (deliveredCore.core 0).saving = ((deliveredCore.lend 0 1 0).core 0).saving := congrArg (fun s => (s.core 0).saving) h
  exact absurd hs (by decide)

end Sys2Proof.Rules

namespace Sys2Proof.Proofs

open Sys2Proof.Machine Sys2Proof.Rules

/-- Refutes O43: its clause `lends` lends a core whose teams can be saved, without the condition that no multicast tile is on
its way into it (log 77); of a core that a parked tile drains into, the model's tick waits for the tile. -/
theorem not_taskSteps : ¬ Obligations.TaskSteps := by
  unfold Obligations.TaskSteps
  intro h
  have hn := h _ _ _ taskStep_deliveredCore
  rw [exec_preemptTick_deliveredCore] at hn
  exact deliveredCore_lend_ne (Host.Outcome.next.inj hn)

end Sys2Proof.Proofs

/-!
What keeps the groups of the machine: accesses, traps, the events of the join units, drains and starts of plans.
-/

namespace Sys2Proof.Machine

/-! No group is lost while accesses are performed, traps are taken and the join units make their events: only the end of a task
takes groups away (R311). -/

/-- t issues from the same group as s and has every group of s. -/
structure KeepsGroups (s t : State) : Prop where
  cur : t.cur = s.cur
  has : ∀ n, s.groups.has n = true → t.groups.has n = true

namespace KeepsGroups

variable {s t u : State}

theorem refl (s : State) : KeepsGroups s s := ⟨rfl, fun _ h => h⟩

theorem trans (h : KeepsGroups s t) (k : KeepsGroups t u) : KeepsGroups s u :=
  ⟨k.cur.trans h.cur, fun n hn => k.has n (h.has n hn)⟩

/-- What leaves every group as it was. -/
theorem of_groups (hc : t.cur = s.cur) (hg : t.groups = s.groups) : KeepsGroups s t := ⟨hc, fun n h => by rwa [hg]⟩

/-- Before and after a step that keeps the groups, one that leaves each as it was. -/
theorem after (k : KeepsGroups t u) (hc : t.cur = s.cur) (hg : t.groups = s.groups) : KeepsGroups s u :=
  (of_groups hc hg).trans k

theorem andThen (h : KeepsGroups s t) (hc : u.cur = t.cur) (hg : u.groups = t.groups) : KeepsGroups s u :=
  h.trans (of_groups hc hg)

/-- A step that keeps the groups, taken for each element of a list. -/
theorem foldl {α : Type} {f : State → α → State} (hf : ∀ s x, KeepsGroups s (f s x)) (l : List α) (s : State) :
    KeepsGroups s (l.foldl f s) := by
  induction l generalizing s with
  | nil => exact refl s
  | cons x l ih => exact (hf s x).trans (ih _)

/-- A fold that carries something beside the machine. -/
theorem foldl_pair {α β : Type} {f : State × β → α → State × β} (hf : ∀ x a, KeepsGroups x.1 (f x a).1)
    (l : List α) (x : State × β) : KeepsGroups x.1 (l.foldl f x).1 := by
  induction l generalizing x with
  | nil => exact refl _
  | cons a l ih => exact (hf x a).trans (ih _)

theorem ite {c : Prop} [Decidable c] (ht : KeepsGroups s t) (hu : KeepsGroups s u) : KeepsGroups s (if c then t else u) := by
  split <;> assumption

theorem getD {r : Option State} (hr : ∀ u, r = some u → KeepsGroups s u) (ht : KeepsGroups s t) :
    KeepsGroups s (r.getD t) := by
  cases r with
  | none => exact ht
  | some u => exact hr u rfl

theorem setGroup (s : State) (n : Nat) (g : Group) : KeepsGroups s (s.setGroup n g) :=
  ⟨rfl, fun k hk => by simp [State.setGroup, Map.has_put, hk]⟩

theorem setMe (s : State) (g : Group) : KeepsGroups s (s.setMe g) := setGroup s s.cur g

/-- An operation as of another group. -/
theorem asGroup {f : State → State} (hf : ∀ s, KeepsGroups s (f s)) (s : State) (gid : Nat) :
    KeepsGroups s (s.asGroup gid f) :=
  ⟨rfl, fun n hn => (hf { s with cur := gid }).has n hn⟩

end KeepsGroups

/-! Memory. -/

theorem State.examine_keepsGroups (s : State) (a n : Nat) : KeepsGroups s (s.examine a n) := by
  unfold State.examine
  split
  · refine ⟨rfl, fun k hk => ?_⟩
    simpa [Map.has, Map.get?_mapVals] using hk
  · exact .refl s

theorem State.writeTagged_keepsGroups (s : State) (a : Nat) (bs : List Byte) (tag : Nat) :
    KeepsGroups s (s.writeTagged a bs tag) :=
  .trans (t := { s with mem := memWrite s.mem a bs, bad := clearBad s.bad a bs.length, byteKey := retag s.byteKey a bs.length tag })
    (.of_groups rfl rfl) (State.examine_keepsGroups _ a bs.length)

theorem State.violate_keepsGroups (s : State) (k a : Nat) : KeepsGroups s (s.violate k a) := .of_groups (by simp) (by simp)

theorem State.writePiece_keepsGroups (s : State) (who : Asker) (key a : Nat) (bs : List Byte) :
    KeepsGroups s (s.writePiece who key a bs) :=
  .ite (s.violate_keepsGroups _ _) (.ite (.of_groups rfl rfl) (s.writeTagged_keepsGroups _ _ _))

theorem State.redirect_keepsGroups (s : State) (unit a : Nat) : KeepsGroups s (s.redirect unit a) :=
  .ite (.of_groups rfl rfl) (.refl s)

/-! Control space (R367, R370). -/

theorem State.writeStart_keepsGroups (s : State) (die : Nat) (r : CtlReg) (v done : Nat) (started : Bool) (step : Nat) :
    KeepsGroups s (s.writeStart die r v done started step) := .ite (.of_groups rfl rfl) (.of_groups rfl rfl)

theorem State.retireFenced_keepsGroups (s : State) : KeepsGroups s s.retireFenced :=
  .foldl (f := fun st p => st.setUal p { st.ual p with serve := false, trained := false, retired := true })
    (fun _ _ => .of_groups rfl rfl) _ s

theorem State.writeRail_keepsGroups (s : State) (die v : Nat) : KeepsGroups s (s.writeRail die v) := by
  unfold State.writeRail
  extract_lets old good want en goods err s1 s2 s3 d s4
  have h2 : KeepsGroups s s2 := .trans (t := s1) (.of_groups rfl rfl)
    (.foldl (f := fun st i =>
      if want i then (if bit old i then st else st.startUnit die .rail i) else st.stopUnit die .rail i)
      (fun _ _ => .ite (.ite (.refl _) (.of_groups rfl rfl)) (.of_groups rfl rfl)) _ s1)
  have h3 : KeepsGroups s s3 := h2.trans (.ite (.of_groups rfl rfl) (.refl _))
  have h4 : KeepsGroups s s4 := h3.trans (.ite (.of_groups rfl rfl) (.refl _))
  exact h4.trans (.ite (.refl _) (.of_groups rfl rfl))

theorem State.ctlWrite_keepsGroups (s : State) (who die : Nat) (r : CtlReg) (v : Nat) :
    KeepsGroups s (s.ctlWrite who die r v) := by
  cases r with
  | rail => exact s.writeRail_keepsGroups die v
  | cp => exact .ite (.trans (t := s.setReg die .cp (v % 2)) (.of_groups rfl rfl) (.setGroup _ _ _)) (.of_groups rfl rfl)
  | haltq => exact .refl s
  | fuse => exact .refl s
  | devId => exact .ite (.of_groups rfl rfl) (.of_groups rfl rfl)
  | sram => exact .ite (.refl s) (s.writeTagged_keepsGroups _ _ _)
  | hbm =>
    have h (x : Nat) : KeepsGroups s (if bit v 0 then ((s.setReg die .hbm x).startUnit die .hbm 0).stepBegins 5
        else s.setReg die .hbm x) := .ite (.of_groups rfl rfl) (.of_groups rfl rfl)
    exact .ite (.refl s) (.ite ((h _).trans (.of_groups rfl rfl)) (h _))
  | mr => exact .ite (.refl s) (s.writeStart_keepsGroups _ _ _ _ _ _)
  | ual p =>
    have h := s.writeStart_keepsGroups die (.ual p) v (maskBits 2 1) (bit v 0) 8
    exact .trans (.ite (h.trans (State.retireFenced_keepsGroups _)) h) (.of_groups rfl rfl)
  | ucie | core | pcie | arbCmd | orgTest => exact s.writeStart_keepsGroups _ _ _ _ _ _
  | page | arbTest | flash | cap => exact .of_groups rfl rfl

theorem State.afterCtlRead_keepsGroups (s : State) (die : Nat) (r : CtlReg) : KeepsGroups s (s.afterCtlRead die r) := by
  unfold State.afterCtlRead
  split <;> exact .of_groups rfl rfl

/-! The accesses of a group. -/

theorem State.flushLines_keepsGroups (s : State) (lines : List Nat) : KeepsGroups s (s.flushLines lines) :=
  (KeepsGroups.foldl (fun s (e : Nat × List Byte) => s.writeTagged_keepsGroups e.1 e.2 0) _ s).trans (.of_groups rfl rfl)

theorem State.atomicAt_keepsGroups (s : State) (who : Asker) (p : Pending) (op : AtomOp) (n : Nat) (ps : List Piece)
    (xs : List (Nat × Nat × Nat)) : KeepsGroups s (s.atomicAt who p op n ps xs).1 := by
  unfold State.atomicAt
  split
  · exact s.violate_keepsGroups _ _
  · split
    · exact .refl s
    · exact .foldl (fun s q => s.writePiece_keepsGroups who q.key q.addr _) ps s

theorem State.allocateAt_keepsGroups {s : State} {tenant n w : Nat} {r : State × Nat} (h : s.allocateAt tenant n w = .ok r) :
    KeepsGroups s r.1 := by
  unfold State.allocateAt at h
  dsimp only at h
  split at h
  · cases h
  · split at h <;> cases h
    exact .of_groups rfl rfl

theorem State.pavStep_keepsGroups (s : State) (tenant : Nat) (op : PavOp) : KeepsGroups s (s.pavStep tenant op).1 := by
  cases op with
  | alloc n ws last d =>
    unfold State.pavStep
    dsimp only
    split
    · exact .refl s
    · split
      · next hr => exact State.allocateAt_keepsGroups hr
      · exact .refl s
  | free w off d =>
    unfold State.pavStep State.deallocate
    dsimp only
    repeat' split
    all_goals exact .of_groups rfl rfl
  | query w d => exact .refl s

theorem State.land_keepsGroups (s : State) (f : Flight) (a : Nat) : KeepsGroups s (s.land f a) := by
  unfold State.land State.response
  repeat' split
  all_goals exact .of_groups rfl rfl

theorem performAccess_keepsGroups (gid : Nat) (who : Asker) (s : State) (p : Pending) (a : Access) :
    KeepsGroups s (performAccess gid who s p a).1 := by
  unfold performAccess
  split
  · exact .refl s
  cases a with
  | load q =>
    dsimp only
    split
    · exact .refl s
    · exact .of_groups (by simp) (by simp)
  | store q bs => exact s.writePiece_keepsGroups _ _ _ _
  | atomic op n ps xs => exact s.atomicAt_keepsGroups _ _ _ _ _ _
  | hostFlush lines => exact s.flushLines_keepsGroups lines
  | hostInvalidate lines => exact .of_groups rfl rfl
  | ctlStore a n v =>
    dsimp only
    split
    · exact s.ctlWrite_keepsGroups _ _ _ _
    · exact .refl s
  | ctlLoad a n =>
    dsimp only
    split
    · exact s.afterCtlRead_keepsGroups _ _
    · exact .refl s
  | portQuery id d => exact .refl s
  | pavilion op =>
    have h := s.pavStep_keepsGroups who.tenant op
    dsimp only
    split <;> rename_i heq <;> simpa only [heq] using h

theorem performPending_keepsGroups (gid : Nat) (who : Asker) (s : State) (p : Pending) :
    KeepsGroups s (performPending gid who s p).1 :=
  .foldl_pair (fun x a => (performAccess_keepsGroups gid who x.1 x.2 a).trans
    (.foldl (fun _ _ => State.land_keepsGroups _ _ _) _ _)) p.todo (s, { p with todo := [] })

theorem State.performAll_keepsGroups (s : State) (gid : Nat) : KeepsGroups s (s.performAll gid) := by
  unfold State.performAll
  dsimp only
  exact .trans (.foldl_pair (β := List Pending) (fun x p => performPending_keepsGroups gid _ x.1 p) _ (s, [])) (.setGroup _ _ _)

/-! Traps (R353, R355, R369). -/

theorem State.drainGroup_keepsGroups (s : State) (gid : Nat) : KeepsGroups s (s.drainGroup gid) :=
  (s.performAll_keepsGroups gid).trans (.setGroup _ _ _)

theorem State.writeDwords_keepsGroups (s : State) (a : Nat) (l : List Nat) : KeepsGroups s (s.writeDwords a l) := by
  induction l generalizing s a with
  | nil => exact .refl s
  | cons x t ih => exact (s.writeTagged_keepsGroups a _ _).trans (ih _ _)

theorem State.cpTrap_keepsGroups (s : State) (gid : Nat) (early : Option TrapInfo) : KeepsGroups s (s.cpTrap gid early) := by
  refine (s.drainGroup_keepsGroups gid).trans ?_
  unfold State.cpTrap
  exact .ite (.setGroup _ _ _) ((State.writeDwords_keepsGroups _ _ _).trans (.setGroup _ _ _))

theorem State.enterTrap_keepsGroups (s : State) (gid : Nat) (early : Option TrapInfo) :
    KeepsGroups s (s.enterTrap gid early) := by
  unfold State.enterTrap
  refine .ite (s.cpTrap_keepsGroups gid early) ?_
  extract_lets s1 g c0 c resume sup en vec fr dbl late s0 s2 d s3 s4 g1
  have h1 : KeepsGroups s s1 := s.drainGroup_keepsGroups gid
  have h0 : KeepsGroups s s0 := h1.trans (.ite (.foldl (fun _ _ => State.redirect_keepsGroups _ _ _) _ _) (.refl _))
  have h2 : KeepsGroups s s2 := .ite (h0.trans (State.writeDwords_keepsGroups _ _ _)) h1
  refine .ite (h2.trans (.trans (.setGroup _ _ _) (.of_groups rfl rfl))) ?_
  exact h2.trans ((State.writeDwords_keepsGroups _ _ _).trans ((State.writeDwords_keepsGroups _ _ _).trans (.setGroup _ _ _)))

theorem State.takeTrap_keepsGroups (s : State) (gid : Nat) (early : Option TrapInfo) : KeepsGroups s (s.takeTrap gid early) :=
  .ite (.setGroup _ _ _) (.ite (s.enterTrap_keepsGroups gid early) (.setGroup _ _ _))

theorem State.refuse_keepsGroups (s : State) (gid : Nat) (t : TrapInfo) : KeepsGroups s (s.refuse gid t) :=
  .ite (.trans (.setGroup _ _ _) (State.takeTrap_keepsGroups _ _ _)) (.refl s)

theorem State.finishWait_keepsGroups (s : State) (gid : Nat) : KeepsGroups s (s.finishWait gid) :=
  .asGroup (fun _ => .ite (.trans (.setMe _ _) (.trans (.setMe _ _) (.setMe _ _))) (.trans (.setMe _ _) (.setMe _ _))) s gid

/-! Pipes, ports and patterns. -/

theorem State.risePort_keepsGroups (s : State) (port : Nat) : KeepsGroups s (s.risePort port) :=
  .ite (.refl s) (.of_groups rfl rfl)

theorem State.setPipe_keepsGroups (s : State) (h n : Nat) (p : Pipe) : KeepsGroups s (s.setPipe h n p) := by
  unfold State.setPipe
  extract_lets old s0 s1
  have h1 : KeepsGroups s s1 := .ite (.of_groups rfl rfl) (.of_groups rfl rfl)
  exact .ite (.refl s) (h1.trans (.foldl (fun st c => .foldl State.risePort_keepsGroups _ st) _ s1))

theorem State.takeItem_keepsGroups (s : State) (task port pattern : Nat) : KeepsGroups s (s.takeItem task port pattern).1 := by
  unfold State.takeItem
  split
  · exact .refl s
  split
  · split
    · exact .refl s
    · split
      · exact .refl s
      · exact s.setPipe_keepsGroups _ _ _
  · split
    · exact .refl s
    · extract_lets s1 d s2 s3
      have h2 : KeepsGroups s s2 := .ite (.of_groups rfl rfl) (.of_groups rfl rfl)
      refine h2.trans ?_
      dsimp only [s3]
      split <;> exact .of_groups rfl rfl

theorem State.takeItems_keepsGroups (s : State) (task pattern : Nat) (ports : List Nat) :
    KeepsGroups s (State.takeItems task pattern ports s).1 := by
  induction ports generalizing s with
  | nil => exact .refl s
  | cons k t ih => exact (s.takeItem_keepsGroups task k pattern).trans (ih _)

theorem State.fire_keepsGroups (s : State) (key : Nat) (p : Pattern) : KeepsGroups s (s.fire key p) := by
  unfold State.fire
  extract_lets t got d s1 x s2
  have h1 : KeepsGroups s s1 := (s.takeItems_keepsGroups t key p.ports).andThen rfl rfl
  have h2 : KeepsGroups s s2 := h1.andThen rfl rfl
  exact h2.andThen rfl rfl

theorem State.hold_keepsGroups (s : State) (key : Nat) : KeepsGroups s (s.hold key) := by
  unfold State.hold
  split
  · exact .refl s
  · exact .ite (.refl s) (.of_groups rfl rfl)

theorem State.evaluate_keepsGroups (port fuel : Nat) (s : State) : KeepsGroups s (State.evaluate port fuel s) := by
  induction fuel generalizing s with
  | zero => exact .refl s
  | succ n ih =>
    unfold State.evaluate
    split
    · exact .refl s
    · exact (s.fire_keepsGroups _ _).trans ((ih _).after rfl rfl)

theorem State.evalPort_keepsGroups (s : State) (port : Nat) : KeepsGroups s (s.evalPort port) :=
  (State.evaluate_keepsGroups port _ s).trans (.foldl State.hold_keepsGroups _ _)

/-! The events of a join unit (R247, R252, R253). -/

theorem State.takeMessage_keepsGroups (s : State) (key : Nat) (m : Message) : KeepsGroups s (s.takeMessage key m) :=
  (State.evalPort_keepsGroups _ key).after rfl rfl

theorem State.openTicket_keepsGroups (s : State) (gid : Nat) (d : Option Nat) : KeepsGroups s (s.openTicket gid d).1 := by
  cases d with
  | none => exact .refl s
  | some r => exact .of_groups rfl rfl

theorem State.sent_keepsGroups (s : State) (gid : Nat) (d : Option Nat) (ticket : Nat) :
    KeepsGroups s (s.sent gid d ticket) := by
  unfold State.sent
  refine .ite (.refl s) ?_
  cases d with
  | none => exact s.finishWait_keepsGroups gid
  | some r => exact .setGroup s gid _

theorem State.admitFrom_keepsGroups (s : State) (key gid : Nat) (m : Message) (d : Option Nat) :
    KeepsGroups s (s.admitFrom key gid m d) :=
  ((s.openTicket_keepsGroups gid d).trans (State.sent_keepsGroups _ gid d _)).trans (State.takeMessage_keepsGroups _ key _)

theorem State.tryWaiterAdmission_keepsGroups {s u : State} {d : Nat} (h : s.tryWaiterAdmission d = some u) :
    KeepsGroups s u := by
  unfold State.tryWaiterAdmission at h
  split at h
  · cases h
  · cases h
    dsimp only
    split
    · exact .of_groups rfl rfl
    · split
      · exact .of_groups rfl rfl
      · exact (State.admitFrom_keepsGroups _ _ _ _ _).after rfl rfl

theorem State.tryHeadRise_keepsGroups {s u : State} {d : Nat} (h : s.tryHeadRise d = some u) : KeepsGroups s u := by
  unfold State.tryHeadRise at h
  split at h
  · split at h <;> cases h
    exact (State.evalPort_keepsGroups _ _).after rfl rfl
  · cases h

theorem State.tryEntryFree_keepsGroups {s u : State} {d : Nat} (h : s.tryEntryFree d = some u) : KeepsGroups s u := by
  unfold State.tryEntryFree at h
  split at h
  · split at h <;> cases h
    dsimp only
    split
    · exact .of_groups rfl rfl
    · refine KeepsGroups.andThen ((State.fire_keepsGroups _ _ _).after ?_ ?_) rfl rfl <;> rfl
  · cases h

theorem State.nextDue_keepsGroups {s u : State} {d : Nat} (h : s.nextDue d = some u) : KeepsGroups s u := by
  unfold State.nextDue at h
  cases ha : s.tryWaiterAdmission d with
  | some v => rw [ha] at h; cases h; exact State.tryWaiterAdmission_keepsGroups ha
  | none =>
    cases hr : s.tryHeadRise d with
    | some v => rw [ha, hr] at h; cases h; exact State.tryHeadRise_keepsGroups hr
    | none => rw [ha, hr] at h; exact State.tryEntryFree_keepsGroups h

theorem State.settleDue_keepsGroups (d fuel : Nat) (s : State) : KeepsGroups s (State.settleDue d fuel s) := by
  induction fuel generalizing s with
  | zero => exact .refl s
  | succ n ih =>
    unfold State.settleDue
    split
    · exact .refl s
    · exact (State.nextDue_keepsGroups ‹_›).trans (ih _)

theorem State.settled_keepsGroups (s : State) (d : Nat) : KeepsGroups s (s.settled d) := State.settleDue_keepsGroups d _ s

theorem State.closePort_keepsGroups (s : State) (key : Nat) : KeepsGroups s (s.closePort key) := by
  refine (s.settled_keepsGroups (dieOfPort key)).trans ?_
  unfold State.closePort
  dsimp only
  split
  · exact .refl _
  · exact (KeepsGroups.foldl (fun st (w : Waiter) => st.refuse_keepsGroups w.gid { kind := 6 }) _ _).after rfl rfl

/-! Drains and starts of plans (R306, R318, R319). -/

theorem State.endClaims_keepsGroups (s : State) (tid plan : Nat) (returns : Bool) :
    KeepsGroups s (s.endClaims tid plan returns) := by
  refine .foldl (fun st n => ?_) _ s
  split
  · exact st.setPipe_keepsGroups _ _ _
  · exact .refl st

theorem State.discardRecord_keepsGroups (s : State) (h tid : Nat) : KeepsGroups s (s.discardRecord h tid) := by
  unfold State.discardRecord
  split
  · exact .refl s
  · extract_lets n
    have hc := State.endClaims_keepsGroups { s with tasks := Map.del tid s.tasks } tid h false
    exact (hc.after (s := s) rfl rfl).andThen (State.modPlan_cur ..) (State.modPlan_groups ..)

theorem State.entryFreed_keepsGroups (s : State) (d key n : Nat) : KeepsGroups s (s.entryFreed d key n) :=
  .ite (.of_groups rfl rfl) (.refl s)

theorem State.discardQueued_keepsGroups (s : State) (gone : List Nat) : KeepsGroups s (s.discardQueued gone) := by
  refine .trans (t := s.unqueue gone.contains) (.of_groups rfl rfl) (.foldl (fun _ d => .foldl (fun u q => ?_) _ _) _ _)
  split
  · exact .refl u
  · exact u.entryFreed_keepsGroups _ _ _

theorem State.refusePreserve_keepsGroups (s : State) (gid : Nat) : KeepsGroups s (s.refusePreserve gid) := by
  unfold State.refusePreserve
  split
  · exact .trans (.setGroup _ _ _) (State.takeTrap_keepsGroups _ _ _)
  · exact .refl s

theorem State.beginDrain_keepsGroups (s : State) (h : Nat) (discard : Bool) : KeepsGroups s (s.beginDrain h discard) := by
  unfold State.beginDrain
  split
  · exact .refl s
  · extract_lets s1 s2 gone s3 s4
    have h1 : KeepsGroups s s1 := (KeepsGroups.foldl State.closePort_keepsGroups _ _).after rfl rfl
    have h2 : KeepsGroups s s2 := h1.trans (.ite (.of_groups rfl rfl) (.refl _))
    have h3 : KeepsGroups s s3 := h2.trans
      ((State.discardQueued_keepsGroups _ gone).trans (.foldl (fun st => st.discardRecord_keepsGroups h) _ _))
    have h4 : KeepsGroups s s4 := h3.trans (.foldl (f := fun st c => st.setCore c { st.core c with moving := none })
      (fun _ _ => .of_groups rfl rfl) _ _)
    exact .ite h4 (h4.trans (.foldl (fun _ _ => State.refusePreserve_keepsGroups _ _) _ _))

theorem State.feedLaunch_keepsGroups (h fuel : Nat) (s : State) : KeepsGroups s (State.feedLaunch h fuel s) := by
  induction fuel generalizing s with
  | zero => exact .refl s
  | succ n ih =>
    unfold State.feedLaunch
    split
    · exact .ite (.refl s) ((ih _).after rfl rfl)
    · exact .refl s

theorem State.beginPlan_keepsGroups (s : State) (h : Nat) : KeepsGroups s (s.beginPlan h) :=
  (State.feedLaunch_keepsGroups h _ _).after rfl rfl

theorem State.placeCores_keepsGroups (s : State) (h : Nat) (l : List (Nat × Nat)) : KeepsGroups s (s.placeCores h l) :=
  .foldl (f := fun st (x : Nat × Nat) => st.setCore x.1 { st.core x.1 with stage := some (h, x.2), moveL := 0 })
    (fun _ _ => .of_groups rfl rfl) _ s

/-! A discard drain also ends tasks: it keeps the issuing group's number (R319, R354). -/

theorem foldl_cur {α : Type} {f : State → α → State} (hf : ∀ s x, (f s x).cur = s.cur) (l : List α) (s : State) :
    (l.foldl f s).cur = s.cur := by
  induction l generalizing s with
  | nil => rfl
  | cons x l ih => exact (ih _).trans (hf s x)

theorem State.lentOver_cur (s : State) (c : Nat) : (s.lentOver c).cur = s.cur := by
  unfold State.lentOver State.coreReturn
  dsimp only
  repeat' split
  all_goals rfl

theorem State.freeTeam_cur (s : State) (tid : Nat) (t : Task) : (s.freeTeam tid t).cur = s.cur := by
  unfold State.freeTeam
  extract_lets s1 core s2 d s3
  have h3 : s3.cur = s.cur := by dsimp only [s3]; split <;> rfl
  split
  · exact (s3.lentOver_cur _).trans h3
  · exact h3

theorem State.endTask_cur (s : State) (tid : Nat) (returns : Bool) : (s.endTask tid returns).cur = s.cur := by
  unfold State.endTask
  split
  · rfl
  · next t _ =>
    extract_lets s1 s2 msgs s3
    have h2 : s2.cur = s.cur := (State.endClaims_keepsGroups (s1.freeTeam tid t) tid t.plan returns).cur.trans (s1.freeTeam_cur tid t)
    clear_value s2
    have h3 : s3.cur = s.cur := by dsimp only [s3]; split <;> exact h2
    clear_value s3
    split <;> exact h3

theorem State.interrupt_cur {s u : State} {gid : Nat} (h : s.interrupt gid = some u) : u.cur = s.cur := by
  unfold State.interrupt at h
  split at h <;> cases h
  · exact (State.settleDue_keepsGroups _ _ s).cur
  · rfl

theorem State.stopGroup_cur (s : State) (gid : Nat) : (s.stopGroup gid).cur = s.cur := by
  show ((s.interrupt gid).getD s).cur = s.cur
  cases h : s.interrupt gid with
  | none => rfl
  | some u => exact State.interrupt_cur h

theorem State.endSettled_cur {s u : State} {tid : Nat} (h : s.endSettled tid = some u) : u.cur = s.cur := by
  unfold State.endSettled at h
  split at h
  · cases h
  · obtain ⟨returns, -, hr⟩ := Option.bind_eq_some_iff.mp h
    split at hr <;> cases hr
    exact (State.endTask_cur _ _ _).trans (foldl_cur (fun s n => (s.performAll_keepsGroups n).cur) _ s)

theorem State.finishTask_cur (s : State) (tid : Nat) (returns : Bool) : (s.finishTask tid returns).cur = s.cur := by
  unfold State.finishTask
  split
  · rfl
  · split
    · exact s.endTask_cur tid returns
    · next t _ _ =>
      extract_lets s1 s2
      have h2 : s2.cur = s.cur := foldl_cur State.stopGroup_cur t.groups s1
      cases h : s2.endSettled tid with
      | none => exact h2
      | some u => exact (State.endSettled_cur h).trans h2

theorem State.discardDrain_cur (s : State) (h : Nat) : (s.discardDrain h).cur = s.cur := by
  unfold State.discardDrain
  exact (foldl_cur (fun st (t : Nat × Task) => (State.modPlan_cur ..).trans (st.finishTask_cur t.1 false)) _ _).trans
    (s.beginDrain_keepsGroups h true).cur

end Sys2Proof.Machine

/-!
The least index at which a list of checks fails, and the REASONS of a rejection in ascending order (R305).
-/

namespace Sys2Proof.Rules

open Sys2Proof.Machine

/-- An answer is the least index of which P holds, and none where it holds of none. -/
structure Reports (o : Option Nat) (P : Nat → Prop) : Prop where
  fails : ∀ {i}, o = some i → P i
  least : ∀ {j}, P j → ∃ i, o = some i ∧ i ≤ j

namespace Reports

variable {o : Option Nat} {P Q : Nat → Prop} {l : List (Option Nat)}

theorem congr (h : Reports o P) (hpq : ∀ i, P i ↔ Q i) : Reports o Q :=
  ⟨fun ho => (hpq _).mp (h.fails ho), fun hq => h.least ((hpq _).mpr hq)⟩

theorem eq_none (h : Reports o P) (hp : ∀ i, ¬ P i) : o = none := by
  cases o with
  | none => rfl
  | some i => exact absurd (h.fails rfl) (hp i)

theorem eq_some (h : Reports o P) {i : Nat} (hi : P i) (hl : ∀ j, P j → i ≤ j) : o = some i := by
  obtain ⟨j, hj, hle⟩ := h.least hi
  rw [hj, Nat.le_antisymm hle (hl j (h.fails hj))]

/-- One check of the record as a whole, which is reported with index 0. -/
theorem flag (b : Bool) : Reports (if b then some 0 else none) fun i => i = 0 ∧ b = true := by
  constructor
  · intro i hi
    split at hi <;> cases hi
    exact ⟨rfl, ‹_›⟩
  · rintro j ⟨rfl, hb⟩
    exact ⟨0, if_pos hb, Nat.le_refl 0⟩

/-! Several checks of one REASON: the least of their answers. -/

theorem leastOf_nil : Reports (leastOf []) fun _ => False := ⟨fun h => (nomatch h), False.elim⟩

theorem leastOf_cons (ho : Reports o P) (hl : Reports (leastOf l) Q) : Reports (leastOf (o :: l)) fun i => P i ∨ Q i := by
  cases o with
  | none =>
    refine ⟨fun hi => .inr (hl.fails hi), ?_⟩
    rintro j (hp | hq)
    · obtain ⟨i, hi, -⟩ := ho.least hp
      cases hi
    · exact hl.least hq
  | some a =>
    have hcons : leastOf (some a :: l) = some ((leastOf l).elim a fun b => if b < a then b else a) := by
      cases h : leastOf l <;> simp_all [leastOf, bestOf]
    rw [hcons]
    constructor
    · rintro i ⟨⟩
      cases h : leastOf l with
      | none => exact .inl (ho.fails rfl)
      | some b =>
        simp only [Option.elim]
        split
        · exact .inr (hl.fails h)
        · exact .inl (ho.fails rfl)
    · intro j hj
      refine ⟨_, rfl, ?_⟩
      rcases hj with hp | hq
      · obtain ⟨i, hi, hij⟩ := ho.least hp
        cases hi
        cases leastOf l with
        | none => exact hij
        | some b => simp only [Option.elim]; split <;> omega
      · obtain ⟨i, hi, hij⟩ := hl.least hq
        simp only [hi, Option.elim]
        split <;> omega

/-- One check. -/
theorem leastOf_one (ho : Reports o P) : Reports (leastOf [o]) P := (leastOf_cons ho leastOf_nil).congr fun _ => or_iff_left id

/-- A check for each element of a list. -/
theorem leastOf_map {α : Type} {f : α → Option Nat} {P : α → Nat → Prop} (hf : ∀ x, Reports (f x) (P x)) (l : List α) :
    Reports (leastOf (l.map f)) fun i => ∃ x ∈ l, P x i := by
  induction l with
  | nil => exact leastOf_nil.congr fun _ => by simp
  | cons x l ih => exact (leastOf_cons (hf x) ih).congr fun i => by simp

/-! The entries of an array in order. -/

theorem find?_range (n : Nat) (p : Nat → Bool) : Reports ((List.range n).find? p) fun i => i < n ∧ p i = true := by
  constructor
  · intro i hi
    obtain ⟨hp, hn, -⟩ := List.find?_range_eq_some.mp hi
    exact ⟨List.mem_range.mp hn, hp⟩
  · rintro j ⟨hj, hp⟩
    obtain ⟨i, hi⟩ := Option.isSome_iff_exists.mp (List.find?_isSome.mpr ⟨j, List.mem_range.mpr hj, hp⟩)
    refine ⟨i, hi, Nat.le_of_not_lt fun hji => ?_⟩
    have hno := (List.find?_range_eq_some.mp hi).2.2 j hji
    simp [hp] at hno

theorem firstIndex {α : Type} (bad : Nat → α → Bool) (l : List α) :
    Reports (firstIndex bad l) fun i => ∃ x, l[i]? = some x ∧ bad i x = true := by
  have hf : Machine.firstIndex bad l = (List.range l.length).find? fun i => l[i]?.any (bad i) := by
    have hz : List.range l.length = (List.zip (List.range l.length) l).map Prod.fst := by simp [List.map_fst_zip]
    conv => rhs; rw [hz, List.find?_map]
    unfold Machine.firstIndex
    congr 1
    refine List.find?_congr fun x hx => ?_
    obtain ⟨k, hk, rfl⟩ := List.mem_iff_getElem.mp hx
    have hkl : k < l.length := by simpa using hk
    simp [List.getElem?_eq_getElem hkl]
  rw [hf]
  refine (find?_range _ _).congr fun i => ?_
  cases h : l[i]? with
  | none => simp
  | some x => simp [(List.getElem?_eq_some_iff.mp h).1]

/-- The entry at which a running sum passes a bound. -/
theorem sumPasses (bound : Nat) (l : List Nat) : Reports (sumPasses bound l) (PassesAt bound l) := by
  have h := find?_range l.length fun i => decide (bound < (l.take (i + 1)).foldl (· + ·) 0)
  refine ⟨fun {i} hi => ?_, fun {j} ⟨hj, hb, _⟩ => h.least ⟨hj, by simpa [← List.sum_eq_foldl] using hb⟩⟩
  obtain ⟨hl, hb⟩ := h.fails hi
  simp only [decide_eq_true_eq, ← List.sum_eq_foldl] at hb
  refine ⟨hl, hb, ?_⟩
  cases i with
  | zero => exact Nat.zero_le _
  | succ k =>
    refine Nat.le_of_not_lt fun hk => ?_
    obtain ⟨m, hm, hmk⟩ := h.least (j := k) ⟨by omega, by simpa [← List.sum_eq_foldl] using hk⟩
    cases hi.symm.trans hm
    omega

end Reports

/-! The REASONS in ascending order. -/

/-- What the checks of a REASON answer. -/
def answers (s : State) (r : Record) : Nat → Option Nat
  | 1 => leastOf [if s.reason1 r then some 0 else none]
  | 2 => leastOf [firstIndex (fun _ d => s.reason2 d) r.stages]
  | 3 => leastOf [firstIndex (fun _ e => reason3 e (stageEntry e)) r.a.stages]
  | 4 => leastOf [firstIndex (fun _ d => s.reason4 r.h d) r.stages,
      leastOf ((r.stages.map StageDesc.sdev).eraseDups.map fun v => leastOf ((List.range 16).map fun d =>
        sumPasses 176 (coresAt r v d)))]
  | 5 => leastOf [firstIndex (fun _ e => s.reason5 r.stages e (pipeEntry e)) r.a.pipes,
      leastOf ((r.pipes.map Pipe.home).eraseDups.map fun k => sumPasses (1024 * quotaOf r.h) (residentAt r k)),
      if decide (96 * 1024 < s.plans.foldl (fun n p => if p.2.state == .saved then n else n + p.2.l2quota) (quotaOf r.h))
        then some 0 else none]
  | 6 => leastOf [firstIndex (fun i e => s.reason6 r e i (r.ports.getD i (0, { plan := 0 }))) r.a.ports,
      leastOf ((List.range 16).map fun d => sumPasses (61440 - s.installedDepths d) (depthsAt s r d))]
  | 7 => leastOf [firstIndex (fun _ e => s.reason7 r e (patternEntry 0 e)) r.a.patterns,
      leastOf ((List.range 16).map fun d => sumPasses (512 - (s.patterns.filter fun q => dieOfPattern q.1 == d).length)
        (r.patterns.map fun p => if p.1 = d ∧ r.here s.device p = true then 1 else 0))]
  | 8 => leastOf [firstIndex (fun i x => s.reason8 r.stages r.arbors i x) r.arbors]
  | 9 => leastOf [firstIndex (fun _ e => s.reason9 e) r.a.images]
  | 10 => leastOf [firstIndex (fun _ x => s.reason10 r x) r.feeds]
  | _ => leastOf [if s.reason11 r.h then some 0 else none]

theorem rejects_eq (s : State) (r : Record) :
    s.rejects r = firstSome ((List.range' 1 11).map fun k => (answers s r k).map fun i => (k, i)) := rfl

theorem firstSome_eq_none {α : Type} {l : List (Option α)} (h : ∀ o ∈ l, o = none) : firstSome l = none := by
  induction l with
  | nil => rfl
  | cons o t ih =>
    rw [h o List.mem_cons_self]
    exact ih fun x hx => h x (List.mem_cons_of_mem _ hx)

/-- The first answer of ascending REASONS n, n + 1, … is that of the lowest with one. -/
theorem firstSome_range' (f : Nat → Option Nat) {n m k i : Nat} (hk : f k = some i) (hn : n ≤ k) (hm : k < n + m)
    (hl : ∀ j, n ≤ j → j < k → f j = none) :
    firstSome ((List.range' n m).map fun j => (f j).map fun x => (j, x)) = some (k, i) := by
  induction m generalizing n with
  | zero => omega
  | succ m ih =>
    rw [List.range'_succ, List.map_cons]
    rcases Nat.lt_or_eq_of_le hn with h | rfl
    · rw [hl n (Nat.le_refl n) h]
      exact ih h (by omega) fun j hj => hl j (by omega)
    · rw [hk]; rfl

end Sys2Proof.Rules

/-!
The checks of a plan record, REASON by REASON, as the machine makes them and as R305 states them.
-/

namespace Sys2Proof.Rules

open Sys2Proof.Machine

theorem ownPort_iff (s : State) (r : Record) (id : Nat) (kind : Port → Bool) :
    r.ownPort s.device id kind = true ↔ OwnPort s r id kind := by
  simp [Record.ownPort, OwnPort, and_assoc]

theorem reason1_iff (s : State) (r : Record) : s.reason1 r = true ↔ BadHeader s r := by
  unfold State.reason1
  cases hg : r.h.gang with
  | false => simp [BadHeader, BadGang, hg, ownPort_iff, or_assoc]
  | true => cases hl : s.leaf? (s.recordAsker r.h) (commitOf r.h) <;>
      simp [BadHeader, BadGang, hg, hl, Except.toOption, ownPort_iff, or_assoc]

theorem segmentBad_iff (blk : Nat) (g : Segment) : segmentBad blk g = true ↔ BadSegment blk g := by
  unfold segmentBad
  split
  case h_7 h0 h1 h2 h3 h4 h5 =>
    have h : 5 < g.space := by simp only [imp_false] at h0 h1 h2 h3 h4 h5; omega
    simp [BadSegment, h]
  all_goals simp [BadSegment, *, or_assoc]

theorem reason2_iff (s : State) (d : StageDesc) : s.reason2 d = true ↔ BadSegments s d := by
  simp [State.reason2, BadSegments, segmentBad_iff, or_assoc, and_assoc]

theorem reason3_iff (e : List Nat) (d : StageDesc) : reason3 e d = true ↔ BadTeam e d := by
  simp [reason3, BadTeam, ← List.sum_eq_foldl, or_assoc]

theorem reason4_iff (s : State) (h : Header) (d : StageDesc) : s.reason4 h d = true ↔ BadShares s h d := by
  simp [State.reason4, BadShares, or_assoc]

theorem reason5_iff (s : State) (l : List StageDesc) (e : List Nat) (p : Pipe) :
    s.reason5 l e p = true ↔ BadPipe l e p ∨ BadHome s l p := by
  simp only [State.reason5, BadPipe, BadHome, maskOf, devOf, Bool.or_eq_true, Bool.and_eq_true, List.any_eq_true, List.all_eq_true,
    decide_eq_true_eq, beq_iff_eq, bne_iff_ne, ne_eq, Bool.not_eq_true', or_assoc]
  repeat refine or_congr_right ?_
  simp only [and_or_left, and_assoc, or_assoc]
  exact or_congr_right or_left_comm

theorem reason6_iff (s : State) (r : Record) (e : List Nat) (i : Nat) (x : Nat × Port) :
    s.reason6 r e i x = true ↔ BadPort s r e i x := by
  unfold State.reason6
  cases hp : r.pipes[x.2.pipe]? with
  | none => simp [BadPort, or_assoc, List.getElem?_eq_none_iff.mp hp]
  | some p =>
    simp [BadPort, or_assoc, State.homedOn, hp, Nat.not_le.mpr (List.getElem?_eq_some_iff.mp hp).1, imp_iff_not_or]

theorem reason8_iff (s : State) (r : Record) (i : Nat) (x : ArborEntry) :
    s.reason8 r.stages r.arbors i x = true ↔ BadArbor s r i x := by
  have hk : ∀ k < r.stages.length, ((match r.stages[k]? with
      | some d => d.minS != d.maxS
      | none => true) = true ↔ (r.stages.getD k {}).minS ≠ (r.stages.getD k {}).maxS) := by
    intro k hk
    simp [List.getElem?_eq_getElem hk]
  simp only [State.reason8, Bool.or_eq_true, Bool.and_eq_true, List.any_eq_true, List.mem_range, or_assoc, beq_iff_eq, bne_iff_ne]
  refine or_congr_right (or_congr_right (or_congr_right (or_congr_right ?_)))
  exact exists_congr fun k => (and_congr_right fun h => and_congr_right fun _ => hk k h).trans (by rw [List.mem_range])

theorem reason9_iff (s : State) (e : List Nat) : s.reason9 e = true ↔ BadImage s e := by
  simp [State.reason9, BadImage, or_assoc]

theorem reason10_iff (s : State) (r : Record) (x : Nat × Nat) :
    s.reason10 r x = true ↔ (r.h.nstages ≤ x.1 ∨ ¬ OwnPort s r x.2 fun p => !p.isHead) := by
  rw [← ownPort_iff]
  simp [State.reason10]

theorem reason11_iff (s : State) (h : Header) : s.reason11 h = true ↔ (64 ≤ s.plans.length ∨
    ∃ p ∈ s.plans, p.2.context = h.context ∧ (p.2.ptRoot ≠ h.ptRoot ∨ p.2.tenant ≠ h.tenant)) := by
  simp [State.reason11]

end Sys2Proof.Rules

/-!
REASON 7, the patterns of a record (R248, R249, R257).
-/

namespace Sys2Proof.Rules

open Sys2Proof.Machine

/-- A list repeats an element where one stands among those before it. -/
theorem not_nodup_iff_mem_take {l : List Nat} : (∃ i, i < l.length ∧ l.getD i 0 ∈ l.take i) ↔ ¬ l.Nodup := by
  rw [List.nodup_iff_pairwise_ne, List.pairwise_iff_getElem]
  push Not
  constructor
  · rintro ⟨i, hi, hm⟩
    obtain ⟨k, hk, he⟩ := List.mem_iff_getElem.mp hm
    simp only [List.length_take] at hk
    refine ⟨k, i, by omega, hi, by omega, ?_⟩
    simpa [List.getD_eq_getElem?_getD, hi] using he
  · rintro ⟨k, i, hk, hi, hlt, he⟩
    refine ⟨i, hi, List.mem_iff_getElem.mpr ⟨k, by simpa using ⟨hlt, hk⟩, ?_⟩⟩
    simpa [List.getD_eq_getElem?_getD, hi] using he

theorem reason7_iff (s : State) (r : Record) (e : List Nat) (x : Nat × Pattern) :
    s.reason7 r e x = true ↔ BadPositions s r e x.2
      ∨ (r.stages[x.2.stage]?).all (fun d => decide (BadHandler s r x.1 x.2 d)) = true := by
  unfold State.reason7
  extract_lets stages pipes p n dev port hd bytes pf pfEnd
  have hbytes : bytes = tileBytes s r x.2 := by
    funext i
    show (match portIn s r x.2 i with
      | some y => ((r.pipes[y.pipe]?).map Pipe.slotBytes).getD 0
      | none => 0) = _
    cases h : portIn s r x.2 i <;> simp [tileBytes, h]
  have hport : port = portFor s r x.2 := rfl
  have hheads : hd = heads s r x.2 := rfl
  have hpf : pf = prefPlaces s r x.2 := by simp only [pf, hbytes]; rfl
  have hend : pfEnd = prefEnd s r x.2 := by simp only [pfEnd, hbytes, hpf]; rfl
  clear_value pfEnd pf bytes hd port
  subst hend hpf hbytes hheads hport
  have hdup : (List.range n).any (fun i => (p.ports.take i).contains (p.ports.getD i 0)) = true ↔ ¬ p.ports.Nodup := by
    simpa [n] using not_nodup_iff_mem_take (l := p.ports)
  have hcursor (i : Nat) : (match portFor s r x.2 (x.2.ports.getD i 0) with
      | some y => (r.pipes[y.pipe]?.bind fun q => q.consumers[y.cursor]?) != some x.2.stage
      | none => true) = true
      ↔ ((portIn s r x.2 i).bind fun y => (r.pipes[y.pipe]?).bind fun q => q.consumers[y.cursor]?) ≠ some x.2.stage := by
    show _ ↔ ((portFor s r x.2 (x.2.ports.getD i 0)).bind _) ≠ _
    cases portFor s r x.2 (x.2.ports.getD i 0) <;> simp
  simp only [Bool.or_eq_true, hdup]
  cases hs : r.stages[x.2.stage]? with
  | none => simp [p, n, BadPositions]
  | some d =>
    simp only [p, n, BadPositions, BadHandler, Option.all_some, decide_eq_true_eq, or_assoc, beq_iff_eq, bne_iff_ne,
      List.length_eq_zero_iff]
    refine or_congr_right (or_congr_right (or_congr_right (.trans (or_congr ?empty (or_congr ?ports ?handler)) or_left_comm)))
    case empty => simp
    case ports => simp only [List.any_eq_true, Option.isNone_iff_eq_none]
    case handler =>
      refine or_congr_right (or_congr_right ?_)
      simp only [Bool.or_eq_true, or_assoc, decide_eq_true_eq, Bool.not_eq_true']
      refine or_congr_right (or_congr_right (or_congr ?cursors (or_congr ?prefetched (or_congr ?records ?area))))
      case cursors => exact List.any_eq_true.trans (exists_congr fun i => and_congr_right fun _ => hcursor i)
      case prefetched => simp only [List.any_eq_true, Bool.and_eq_true, Bool.not_eq_true', List.contains_eq_mem, decide_eq_false_iff_not]
      case records => simp only [Bool.and_eq_true, Bool.not_eq_true', List.isEmpty_eq_false_iff, decide_eq_true_eq, ne_eq]
      case area => simp only [Bool.and_eq_true, Bool.or_eq_true, Bool.not_eq_true', List.isEmpty_eq_false_iff, decide_eq_true_eq, ne_eq]

end Sys2Proof.Rules

/-!
A record is rejected with the lowest REASON and its lowest index (R305).
-/

namespace Sys2Proof.Rules

open Sys2Proof.Machine

/-! Each REASON's answer is the least index of which one of its checks fails (R305). -/

/-- What passes a bound is not a sum of zeros. -/
theorem exists_ne_zero_of_passesAt {b i : Nat} {l : List Nat} (h : PassesAt b l i) : ∃ x ∈ l, x ≠ 0 := by
  by_contra hz
  push Not at hz
  have hs : (l.take (i + 1)).sum = 0 := List.sum_eq_zero fun x hx => hz x (List.mem_of_mem_take hx)
  obtain ⟨-, hb, -⟩ := h
  omega

/-- A sum over the entries that pass a test, and the same as the loop that the machine makes. -/
theorem foldl_add_if {α : Type} (p : α → Prop) [DecidablePred p] (f : α → Nat) (l : List α) (n : Nat) :
    l.foldl (fun n x => if p x then n + f x else n) n = n + (l.map fun x => if p x then f x else 0).sum := by
  induction l generalizing n with
  | nil => rfl
  | cons x l ih => rw [List.foldl_cons, ih]; split <;> simp_all [Nat.add_assoc]

theorem installedDepths_eq (s : State) (d : Nat) : s.installedDepths d = heldDepths s d :=
  (foldl_add_if _ _ s.ports 0).trans (Nat.zero_add _)

theorem quotas_eq (s : State) (n : Nat) :
    s.plans.foldl (fun n p => if p.2.state == .saved then n else n + p.2.l2quota) n = n + quotas s := by
  unfold quotas
  induction s.plans generalizing n with
  | nil => rfl
  | cons p l ih =>
    rw [List.foldl_cons, ih]
    by_cases h : p.2.state = .saved <;> simp [h, Nat.add_assoc]

/-- The first entry that fails a check, stated as a proposition. -/
theorem Reports.entries {α : Type} {bad : Nat → α → Bool} {Bad : Nat → α → Prop} (l : List α)
    (h : ∀ i x, bad i x = true ↔ Bad i x) : Reports (Machine.firstIndex bad l) fun i => ∃ x, l[i]? = some x ∧ Bad i x :=
  (Reports.firstIndex bad l).congr fun i => exists_congr fun x => and_congr_right fun _ => h i x

/-- The first entry at which a sum on some die passes its bound. -/
theorem Reports.perDie (bound : Nat → Nat) (l : Nat → List Nat) :
    Reports (leastOf ((List.range 16).map fun d => Machine.sumPasses (bound d) (l d))) fun i => ∃ d < 16, PassesAt (bound d) (l d) i :=
  (Reports.leastOf_map (fun d => Reports.sumPasses (bound d) (l d)) _).congr fun i => by simp only [List.mem_range]

theorem reports_header (s : State) (r : Record) : Reports (answers s r 1) (Violates s r 1) := by
  refine (Reports.leastOf_one (.flag (s.reason1 r))).congr fun i => ⟨?_, ?_⟩
  · rintro ⟨rfl, h⟩
    exact .header ((reason1_iff s r).mp h)
  · rintro ⟨h⟩
    exact ⟨rfl, (reason1_iff s r).mpr h⟩

theorem reports_segments (s : State) (r : Record) : Reports (answers s r 2) (Violates s r 2) := by
  refine (Reports.leastOf_one (.entries r.stages fun _ => reason2_iff s)).congr fun i => ⟨?_, ?_⟩
  · rintro ⟨d, hd, h⟩
    exact .segments i d hd h
  · intro h
    cases h with
    | segments _ d hd h => exact ⟨d, hd, h⟩

theorem reports_team (s : State) (r : Record) : Reports (answers s r 3) (Violates s r 3) := by
  refine (Reports.leastOf_one (.entries r.a.stages fun _ e => reason3_iff e (stageEntry e))).congr fun i => ⟨?_, ?_⟩
  · rintro ⟨e, he, h⟩
    exact .team i e he h
  · intro h
    cases h with
    | team _ e he h => exact ⟨e, he, h⟩

theorem reports_shares (s : State) (r : Record) : Reports (answers s r 4) (Violates s r 4) := by
  have hcores : Reports (leastOf ((r.stages.map StageDesc.sdev).eraseDups.map fun v => leastOf ((List.range 16).map fun d =>
      sumPasses 176 (coresAt r v d)))) fun i => ∃ v, ∃ d < 16, PassesAt 176 (coresAt r v d) i := by
    refine (Reports.leastOf_map (fun v => .perDie (fun _ => 176) (coresAt r v)) _).congr fun i => ⟨?_, ?_⟩
    · rintro ⟨v, -, hv⟩
      exact ⟨v, hv⟩
    · rintro ⟨v, d, hd, hp⟩
      obtain ⟨y, hy, hne⟩ := exists_ne_zero_of_passesAt hp
      obtain ⟨x, hx, rfl⟩ := List.mem_map.mp hy
      have hv : x.sdev = v := by by_contra h; simp [h] at hne
      exact ⟨v, List.mem_eraseDups.mpr (List.mem_map.mpr ⟨x, hx, hv⟩), d, hd, hp⟩
  refine (Reports.leastOf_cons (.entries r.stages fun _ => reason4_iff s r.h) (.leastOf_one hcores)).congr fun i => ⟨?_, ?_⟩
  · rintro (⟨d, hd, h⟩ | ⟨v, d, hd, hp⟩)
    · exact .shares i d hd h
    · exact .cores i v d hd hp
  · intro h
    cases h with
    | shares _ d hd h => exact .inl ⟨d, hd, h⟩
    | cores _ v d hd hp => exact .inr ⟨v, d, hd, hp⟩

theorem reports_pipes (s : State) (r : Record) : Reports (answers s r 5) (Violates s r 5) := by
  have hres : Reports (leastOf ((r.pipes.map Pipe.home).eraseDups.map fun k =>
      sumPasses (1024 * quotaOf r.h) (residentAt r k))) fun i => ∃ k, PassesAt (1024 * quotaOf r.h) (residentAt r k) i := by
    refine (Reports.leastOf_map (fun k => .sumPasses _ (residentAt r k)) _).congr fun i => ⟨?_, ?_⟩
    · rintro ⟨k, -, hk⟩
      exact ⟨k, hk⟩
    · rintro ⟨k, hp⟩
      obtain ⟨y, hy, hne⟩ := exists_ne_zero_of_passesAt hp
      obtain ⟨x, hx, rfl⟩ := List.mem_map.mp hy
      have hk : x.home = k := by by_contra h; simp [h] at hne
      exact ⟨k, List.mem_eraseDups.mpr (List.mem_map.mpr ⟨x, hx, hk⟩), hp⟩
  refine (Reports.leastOf_cons (.entries r.a.pipes fun _ e => reason5_iff s r.stages e (pipeEntry e))
    (.leastOf_cons hres (.leastOf_one (.flag _)))).congr fun i => ⟨?_, ?_⟩
  · rintro (⟨e, he, h⟩ | ⟨k, hp⟩ | ⟨rfl, hq⟩)
    · exact .pipe i e he h
    · exact .resident i k hp
    · exact .quota (by simpa only [quotas_eq, decide_eq_true_eq] using hq)
  · intro h
    cases h with
    | pipe _ e he h => exact .inl ⟨e, he, h⟩
    | resident _ k hp => exact .inr (.inl ⟨k, hp⟩)
    | quota hq => exact .inr (.inr ⟨rfl, by simpa only [quotas_eq, decide_eq_true_eq] using hq⟩)

theorem reports_ports (s : State) (n : Nat) (h : Header) (a : Arrays) :
    Reports (answers s (planRecord n h a) 6) (Violates s (planRecord n h a) 6) := by
  have hport {i : Nat} {e : List Nat} (he : a.ports[i]? = some e) : (planRecord n h a).ports[i]? = some (portEntry n e) := by
    simp [planRecord, he]
  refine (Reports.leastOf_cons (.entries a.ports fun i e => reason6_iff s (planRecord n h a) e i _)
    (.leastOf_one (.perDie _ (depthsAt s (planRecord n h a))))).congr fun i => ⟨?_, ?_⟩
  · rintro (⟨e, he, hb⟩ | ⟨d, hd, hp⟩)
    · exact .port i e (portEntry n e) he (hport he) (by simpa [List.getD_eq_getElem?_getD, hport he] using hb)
    · exact .depths i d hd (by rwa [installedDepths_eq] at hp)
  · intro h
    cases h with
    | port _ e x he hx hb => exact .inl ⟨e, he, by simpa [List.getD_eq_getElem?_getD, hx] using hb⟩
    | depths _ d hd hp => exact .inr ⟨d, hd, by rwa [installedDepths_eq]⟩

theorem reports_patterns (s : State) (r : Record) : Reports (answers s r 7) (Violates s r 7) := by
  refine (Reports.leastOf_cons (.entries r.a.patterns fun _ e => reason7_iff s r e (patternEntry 0 e))
    (.leastOf_one (.perDie _ fun d => r.patterns.map fun p => if p.1 = d ∧ r.here s.device p = true then 1 else 0))).congr
    fun i => ⟨?_, ?_⟩
  · rintro (⟨e, he, h⟩ | ⟨d, hd, hp⟩)
    · exact .pattern i e he h
    · exact .indices i d hd hp
  · intro h
    cases h with
    | pattern _ e he h => exact .inl ⟨e, he, h⟩
    | indices _ d hd hp => exact .inr ⟨d, hd, hp⟩

theorem reports_arbors (s : State) (r : Record) : Reports (answers s r 8) (Violates s r 8) := by
  refine (Reports.leastOf_one (.entries r.arbors (reason8_iff s r))).congr fun i => ⟨?_, ?_⟩
  · rintro ⟨x, hx, h⟩
    exact .arbor i x hx h
  · intro h
    cases h with
    | arbor _ x hx h => exact ⟨x, hx, h⟩

theorem reports_images (s : State) (r : Record) : Reports (answers s r 9) (Violates s r 9) := by
  refine (Reports.leastOf_one (.entries r.a.images fun _ => reason9_iff s)).congr fun i => ⟨?_, ?_⟩
  · rintro ⟨e, he, h⟩
    exact .image i e he h
  · intro h
    cases h with
    | image _ e he h => exact ⟨e, he, h⟩

theorem reports_feeds (s : State) (r : Record) : Reports (answers s r 10) (Violates s r 10) := by
  refine (Reports.leastOf_one (.entries r.feeds fun _ => reason10_iff s r)).congr fun i => ⟨?_, ?_⟩
  · rintro ⟨x, hx, h⟩
    exact .feed i x hx h
  · intro h
    cases h with
    | feed _ x hx h => exact ⟨x, hx, h⟩

theorem reports_plans (s : State) (r : Record) : Reports (answers s r 11) (Violates s r 11) := by
  refine (Reports.leastOf_one (.flag (s.reason11 r.h))).congr fun i => ⟨?_, ?_⟩
  · rintro ⟨rfl, h⟩
    exact .plans ((reason11_iff s r.h).mp h)
  · intro h
    cases h with
    | plans h => exact ⟨rfl, (reason11_iff s r.h).mpr h⟩

/-- No check is of another REASON. -/
theorem Violates.mem_range {s : State} {r : Record} {k i : Nat} (h : Violates s r k i) : 1 ≤ k ∧ k < 12 := by
  cases h <;> decide

theorem reports_answers (s : State) {n : Nat} {h : Header} {a : Arrays} {r : Record} (hr : r = planRecord n h a) {k : Nat}
    (hk : 1 ≤ k) (hk' : k < 12) : Reports (answers s r k) (Violates s r k) := by
  interval_cases k
  · exact reports_header s r
  · exact reports_segments s r
  · exact reports_team s r
  · exact reports_shares s r
  · exact reports_pipes s r
  · exact hr ▸ reports_ports s n h a
  · exact reports_patterns s r
  · exact reports_arbors s r
  · exact reports_images s r
  · exact reports_feeds s r
  · exact reports_plans s r

/-- A record is rejected with the lowest REASON of which a check fails, and the lowest index of it (R305). -/
theorem rejects_of_firstViolation {s : State} {n : Nat} {h : Header} {a : Arrays} {r : Record} (hr : r = planRecord n h a)
    {k i : Nat} (hv : FirstViolation s r k i) : s.rejects r = some (k, i) := by
  obtain ⟨hki, hleast⟩ := hv
  obtain ⟨hk, hk'⟩ := hki.mem_range
  have hsome : answers s r k = some i := (reports_answers s hr hk hk').eq_some hki fun j hj => by
    rcases hleast k j hj with h | ⟨-, h⟩
    · omega
    · exact h
  rw [rejects_eq]
  refine firstSome_range' (answers s r) hsome hk hk' fun j hj hjk => ?_
  refine (reports_answers s hr hj (by omega)).eq_none fun x hx => ?_
  rcases hleast j x hx with h | ⟨h, -⟩ <;> omega

/-- One that fails no check is not rejected. -/
theorem rejects_eq_none {s : State} {n : Nat} {h : Header} {a : Arrays} {r : Record} (hr : r = planRecord n h a)
    (hv : ∀ k i, ¬ Violates s r k i) : s.rejects r = none := by
  rw [rejects_eq]
  refine firstSome_eq_none fun o ho => ?_
  obtain ⟨k, hk, rfl⟩ := List.mem_map.mp ho
  rw [List.mem_range'_1] at hk
  rw [(reports_answers s hr hk.1 (by omega)).eq_none (hv k), Option.map_none]

end Sys2Proof.Rules

/-!
`exit` and `spawn` (R78, R309, R312), and the gates of the plan instructions (R51, R71, R159).
-/

namespace Sys2Proof.Rules

open Sys2Proof.Machine

/-! `exit` and `spawn` (R78, R309). -/

theorem exitBody_waits {s : State} (hc : s.me.mode ≠ .control) (hf : s.me.matFault = none) : exitBody s = .wait s .exitDrain := by
  rw [exitBody_eq, coreOnly_core hc, matrixGate_empty hf]

/-- The bits of S(sa) that `spawn` reads, as bit ranges of the register: STAGE, and the two reserved ranges. -/
theorem spawn_bits (v : Dword) : bits v.toNat 31 5 = v.toNat % 2 ^ 32 / 2 ^ 5 ∧ (bits v.toNat 63 48 = 0 ↔ v.toNat < 2 ^ 48) := by
  have hv : v.toNat < 2 ^ 64 := v.isLt
  unfold bits
  constructor <;> omega

theorem reg_toNat_eq_127 {b : Reg} : b.toNat = 127 ↔ b = 127 := ⟨fun h => BitVec.eq_of_toNat_eq h, fun h => h ▸ rfl⟩

/-- What MaySpawn says of the operands, as `spawn` tests it. -/
theorem MaySpawn.operands {u : State} {a b : Reg} {x : Nat} {p : Plan} {d : StageDesc} (h : MaySpawn u a b x p d) :
    ¬ (b.toNat = 127 ∨ bits (u.me.getS a.toNat).toNat 31 5 ≠ 0 ∨ bits (u.me.getS a.toNat).toNat 63 48 ≠ 0)
      ∧ (u.me.getS a.toNat).toNat % 32 = x := by
  obtain ⟨hx, hv, hlt⟩ := h.stage
  unfold sReg at hv hlt
  obtain ⟨h1, h2⟩ := spawn_bits (u.me.getS a.toNat)
  rw [h1, reg_toNat_eq_127, ne_eq, ne_eq, h2]
  exact ⟨fun hbad => by rcases hbad with hb | hb | hb; exacts [h.registers hb, hb (by omega), hb hlt], by omega⟩

section Spawn

variable {s u v : State} {a b : Reg} {x : Nat} {p : Plan} {d : StageDesc}

/-- A `spawn` that may make its task does so where its record finds room, and waits otherwise. -/
theorem spawnBody_eq (hs : Settles s u) (hc : s.me.mode ≠ .control) (h : MaySpawn u a b x p d) :
    spawnBody a b s = (u.spawnInto u.me.plan x d (messageOf u a b)).elim (.wait u (.queue u.me.plan x)) .ok := by
  obtain ⟨hbad, hx⟩ := h.operands
  have hd : u.stageDesc u.me.plan x = some d := by simp [State.stageDesc, h.plan, h.desc]
  have hm : (p.state == PlanState.draining) = false := by simpa using h.notDraining
  unfold spawnBody
  rw [coreOnly_core hc, ordered_settles hs]
  dsimp only
  rw [if_neg hbad, hx, h.plan, hd]
  dsimp only
  rw [if_neg (not_not.mpr h.here), hm]
  show (match u.spawnInto u.me.plan x d (messageOf u a b) with
    | some v => Eff.ok v
    | none => .wait u (.queue u.me.plan x)) = _
  cases u.spawnInto u.me.plan x d (messageOf u a b) <;> rfl

/-- Of the core's own stage, a record goes where a place in the core queue makes room for it. -/
theorem spawnInto_own (h : OwnQueue u x) (m : Message) (d : StageDesc) : u.spawnInto u.me.plan x d m
    = (if (u.core (myCore u)).runq.length < 16 then some u else u.overflow (myCore u)).map fun v =>
      (v.newTask { plan := u.me.plan, stage := x, die := dieOfCore (myCore u), arg := some m }).setCore (myCore u)
        { v.core (myCore u) with runq := (v.core (myCore u)).runq ++ [v.nextTask] } := by
  obtain ⟨hst, hmv⟩ := h
  have h : (u.core (coreOfGid u.cur)).stage = some (u.me.plan, x) ∧ (u.core (coreOfGid u.cur)).moving.isNone = true :=
    ⟨hst, Option.isNone_iff_eq_none.mpr hmv⟩
  unfold State.spawnInto
  dsimp only
  rw [if_pos h]
  rfl

/-- Of another stage, or where the core is to move, it goes to the stage's die queue, if there is room. -/
theorem spawnInto_away (h : ¬ OwnQueue u x) (m : Message) (d : StageDesc) : u.spawnInto u.me.plan x d m
    = if u.dieFree (spawnDie u d) (u.me.plan * 32 + x) = 0 then none
      else some ((u.newTask { plan := u.me.plan, stage := x, die := spawnDie u d, arg := some m }).toDieQueue (spawnDie u d)
        (u.me.plan * 32 + x) [u.nextTask]) := by
  have h : ¬ ((u.core (coreOfGid u.cur)).stage = some (u.me.plan, x) ∧ (u.core (coreOfGid u.cur)).moving.isNone = true) :=
    fun hb => h ⟨hb.1, Option.isNone_iff_eq_none.mp hb.2⟩
  have hdie : spawnDie u d = if bit d.dieMask (dieOfCore (coreOfGid u.cur)) then dieOfCore (coreOfGid u.cur)
      else lowestDie d.dieMask := by
    unfold spawnDie myCore bit
    simp only [Nat.testBit_eq_decide_div_mod_eq, decide_eq_true_eq, beq_iff_eq]
  rw [hdie]
  unfold State.spawnInto
  dsimp only
  rw [if_neg h]
  rfl

theorem youngest_length {q : List Nat} (h : q.length = 16) : (q.drop (q.length - 8)).length = 8 := by
  rw [List.length_drop]; omega

/-- The eight youngest records of a full core queue move to the cluster queue, or else to the die queue (R312). -/
theorem overflow_own (h : OwnQueue u x) (hl : (u.core (myCore u)).runq.length = 16) :
    u.overflow (myCore u)
      = if myRoom u 8 then some ((keepsOlder u).setCluster (myCluster u)
          { u.cluster (myCluster u) with runq := (u.cluster (myCluster u)).runq ++ youngest (u.core (myCore u)).runq })
        else if 8 ≤ u.dieFree (dieOfCore (myCore u)) (u.me.plan * 32 + x) then
          some ((keepsOlder u).toDieQueue (dieOfCore (myCore u)) (u.me.plan * 32 + x) (youngest (u.core (myCore u)).runq))
        else none := by
  unfold State.overflow
  dsimp only
  split
  · next hst => rw [h.1] at hst; cases hst
  · next hst =>
    rw [h.1] at hst
    cases hst
    rw [youngest_length hl]
    rfl

/-- With a place in the core queue, and the machine as an overflow step has left it. -/
theorem spawnBody_here (hs : Settles s u) (hc : s.me.mode ≠ .control) (h : MaySpawn u a b x p d) (ho : OwnQueue u x)
    (hv : (if (u.core (myCore u)).runq.length < 16 then some u else u.overflow (myCore u)) = some v) (hcur : v.cur = u.cur) :
    spawnBody a b s = .ok (spawnedHere v (spawnTask u a b x (dieOfCore (myCore u)))) := by
  have hcore : myCore v = myCore u := by unfold myCore; rw [hcur]
  rw [spawnBody_eq hs hc h, spawnInto_own ho, hv]
  unfold spawnedHere
  rw [hcore]
  rfl

theorem spawnBody_away (hs : Settles s u) (hc : s.me.mode ≠ .control) (h : MaySpawn u a b x p d) (ho : ¬ OwnQueue u x)
    (hf : 0 < u.dieFree (spawnDie u d) (u.me.plan * 32 + x)) : spawnBody a b s = .ok
      ((u.newTask (spawnTask u a b x (spawnDie u d))).toDieQueue (spawnDie u d) (u.me.plan * 32 + x) [u.nextTask]) := by
  rw [spawnBody_eq hs hc h, spawnInto_away ho, if_neg hf.ne']
  rfl

theorem spawnBody_waits (hs : Settles s u) (hc : s.me.mode ≠ .control) (h : MaySpawn u a b x p d)
    (hw : (OwnQueue u x ∧ (u.core (myCore u)).runq.length = 16 ∧ ¬ myRoom u 8
        ∧ u.dieFree (dieOfCore (myCore u)) (u.me.plan * 32 + x) < 8)
      ∨ (¬ OwnQueue u x ∧ u.dieFree (spawnDie u d) (u.me.plan * 32 + x) = 0)) :
    spawnBody a b s = .wait u (.queue u.me.plan x) := by
  rw [spawnBody_eq hs hc h]
  rcases hw with ⟨ho, hl, hr, hf⟩ | ⟨ho, hf⟩
  · rw [spawnInto_own ho, if_neg (by omega), overflow_own ho hl, if_neg hr, if_neg (Nat.not_le.mpr hf)]; rfl
  · rw [spawnInto_away ho, if_pos hf]; rfl

/-- Bad operands, no such stage, and a stage elsewhere are illegal (R309). -/
theorem spawnBody_illegal (hs : Settles s u) (hc : s.me.mode ≠ .control)
    (h : b = 127 ∨ sReg u a % 2 ^ 32 / 2 ^ 5 ≠ 0 ∨ 2 ^ 48 ≤ sReg u a ∨ u.plan? u.me.plan = none
      ∨ ∃ p, u.plan? u.me.plan = some p ∧ (p.stages.length ≤ sReg u a % 2 ^ 5
        ∨ ∃ d, p.stages[sReg u a % 2 ^ 5]? = some d ∧ d.sdev ≠ u.device)) : spawnBody a b s = illegal u := by
  obtain ⟨h1, h2⟩ := spawn_bits (u.me.getS a.toNat)
  unfold spawnBody
  rw [coreOnly_core hc, ordered_settles hs]
  dsimp only
  split
  · rfl
  · next hbad =>
    rw [reg_toNat_eq_127, h1, ne_eq, ne_eq, h2] at hbad
    simp only [not_or, not_not] at hbad
    obtain ⟨hb, hv, hlt⟩ := hbad
    rcases h with h | h | h | h | ⟨p, hp, h⟩
    · exact absurd h hb
    · exact absurd hv h
    · exact absurd hlt (Nat.not_lt.mpr h)
    · rw [h]
    · rw [hp]
      rcases h with h | ⟨d, hd, hdev⟩
      · have hn : u.stageDesc u.me.plan ((u.me.getS a.toNat).toNat % 32) = none := by
          simpa [State.stageDesc, hp, sReg] using h
        rw [hn]
      · have hn : u.stageDesc u.me.plan ((u.me.getS a.toNat).toNat % 32) = some d := by
          simpa [State.stageDesc, hp, sReg] using hd
        rw [hn]
        exact if_pos hdev

theorem spawnBody_draining (hs : Settles s u) (hc : s.me.mode ≠ .control) (hb : b ≠ 127)
    (hv : sReg u a % 2 ^ 32 / 2 ^ 5 = 0) (hlt : sReg u a < 2 ^ 48) (hp : u.plan? u.me.plan = some p)
    (hd : p.stages[sReg u a % 2 ^ 5]? = some d) (hdev : d.sdev = u.device) (hst : p.state = .draining) :
    spawnBody a b s = .fault u { kind := 6 } := by
  obtain ⟨h1, h2⟩ := spawn_bits (u.me.getS a.toNat)
  have hbad : ¬ (b.toNat = 127 ∨ bits (u.me.getS a.toNat).toNat 31 5 ≠ 0 ∨ bits (u.me.getS a.toNat).toNat 63 48 ≠ 0) := by
    rw [h1, reg_toNat_eq_127, ne_eq, ne_eq, h2]
    simpa only [not_or, not_not] using ⟨hb, hv, hlt⟩
  have hn : u.stageDesc u.me.plan ((u.me.getS a.toNat).toNat % 32) = some d := by simpa [State.stageDesc, hp, sReg] using hd
  unfold spawnBody
  rw [coreOnly_core hc, ordered_settles hs]
  dsimp only
  rw [if_neg hbad, hp, hn]
  dsimp only
  rw [if_neg (not_not.mpr hdev), hst]
  rfl

end Spawn

/-! The gates of the plan instructions (R51, R71, R159). -/

theorem supervisorOnly_allowed {s : State} (h : s.me.mode ≠ .user) (b : Body) : supervisorOnly b s = b s := by
  simp [supervisorOnly, h]

/-- A supervisor instruction with room for its result runs its body once the group's own accesses are performed. -/
theorem supervisorResult_settles {s u : State} (hm : s.me.mode ≠ .user) (hr : HasRoom s) (hs : Settles s u) (b : Body) :
    supervisorOnly (withResult (Machine.ordered b)) s = b u := by
  rw [supervisorOnly_allowed hm, withResult_of_hasRoom hr, ordered_settles hs]

/-! `plan.go` (R304, R306 to R308). -/

theorem PlanGo.exec_eq {i : Instr} {m : Bool} {d a b : Reg} (h : PlanGo i m d a b) (s : State) :
    exec i s = issue m (planGo d a b) s := by
  cases h <;> rfl

/-- The issuing group is there after its own accesses. -/
theorem Settles.has_cur {s u : State} (h : Settles s u) (hi : Issuing s) : u.groups.has u.cur = true := by
  obtain ⟨-, rfl⟩ := h
  have hk := s.performAll_keepsGroups s.cur
  rw [hk.cur]
  exact hk.has _ hi

theorem status_of_has {v : State} (h : v.groups.has v.cur = true) (d : Reg) (n : Nat) : v.status d n = .ok (withStatus v d n) :=
  if_pos h

theorem status_of_keeps {u v : State} (hu : u.groups.has u.cur = true) (hk : KeepsGroups u v) (d : Reg) (n : Nat) :
    v.status d n = .ok (withStatus v d n) :=
  status_of_has (by rw [hk.cur]; exact hk.has _ hu) d n

end Sys2Proof.Rules

/-!
`plan.go` and `plan.ld` (R298, R304 to R308), and the obligation of the task instructions.
-/

namespace Sys2Proof.Rules

open Sys2Proof.Machine

/-- What lets `plan.go` come to its action: the mode, room for the status, and the operands (R51, R71, R308). -/
structure PlanSelects (s u : State) (a b : Reg) (h act : Nat) : Prop where
  issuing : Issuing s
  room : HasRoom s
  settles : Settles s u
  mode : s.me.mode ≠ .user
  action : PlanAction u a b h act

/-- The actions of `plan.go` on a plan that is there (R304, R306, R307, R318, R319). -/
def planAct (u : State) (d : Reg) (h : Nat) (p : Plan) : Nat → Eff
  | 0 =>
    if p.state != .installed then u.status d 4
    else match u.placement h p with
      | none => u.status d 1
      | some l =>
        if p.gang then .wait (u.modPlan h fun q => { q with state := .committing, gangSince := u.cycle }) (.gang h d.toNat)
        else ((u.placeCores h l).beginPlan h).status d 0
  | 1 => if p.state != .running then u.status d 4 else (u.beginDrain h false).status d 0
  | 2 => if p.state != .running then u.status d 4 else (u.discardDrain h).status d 0
  | _ =>
    if p.state == .installed || p.state == .aborted || p.state == .quiescent || p.state == .saved then
      .wait (u.removePlan h) (.removal d.toNat)
    else u.status d 4

namespace PlanSelects

variable {s u : State} {d a b : Reg} {h act : Nat} {p : Plan} {l : List (Nat × Nat)}

theorem has_cur (hs : PlanSelects s u a b h act) : u.groups.has u.cur = true := hs.settles.has_cur hs.issuing

/-- A handle that names no plan (R308). -/
theorem noPlan (hs : PlanSelects s u a b h act) (ha : act ≤ 3) (hp : u.plan? h = none) :
    planGo d a b s = .ok (withStatus u d 5) := by
  obtain ⟨hh, hlt, hact⟩ := hs.action
  have hbad : ¬ (2 ^ 16 ≤ h ∨ 3 < act) := by omega
  unfold sReg at hh hact
  simp only [planGo, supervisorResult_settles hs.mode hs.room hs.settles, hh, hact, if_neg hbad, hp]
  exact status_of_has hs.has_cur d 5

/-- Of a plan that is there the action is taken. -/
theorem acts (hs : PlanSelects s u a b h act) (ha : act ≤ 3) (hp : u.plan? h = some p) :
    planGo d a b s = planAct u d h p act := by
  obtain ⟨hh, hlt, hact⟩ := hs.action
  have hbad : ¬ (2 ^ 16 ≤ h ∨ 3 < act) := by omega
  unfold sReg at hh hact
  simp only [planGo, supervisorResult_settles hs.mode hs.room hs.settles, hh, hact, if_neg hbad, hp]
  interval_cases act <;> rfl

/-- An action that the plan's state does not allow (R304). -/
theorem wrongState (hs : PlanSelects s u a b h act) (hp : u.plan? h = some p) (hn : NotValid p act) :
    planGo d a b s = .ok (withStatus u d 4) := by
  have hst := status_of_has hs.has_cur d 4
  have ha : act ≤ 3 := by rcases hn with ⟨rfl, -⟩ | ⟨rfl | rfl, -⟩ | ⟨rfl, -⟩ <;> omega
  rw [hs.acts ha hp]
  rcases hn with ⟨rfl, hq⟩ | ⟨rfl | rfl, hq⟩ | ⟨rfl, hq | hq | hq⟩ <;> simpa [planAct, hq] using hst

theorem start (hs : PlanSelects s u a b h 0) (hp : u.plan? h = some p) (hst : p.state = .installed) (hg : p.gang = false)
    (hl : u.placement h p = some l) : planGo d a b s = .ok (withStatus ((u.placeCores h l).beginPlan h) d 0) := by
  have hk : KeepsGroups u ((u.placeCores h l).beginPlan h) :=
    (u.placeCores_keepsGroups h l).trans (State.beginPlan_keepsGroups _ h)
  rw [hs.acts (by omega) hp]
  simpa [planAct, hst, hl, hg] using status_of_keeps hs.has_cur hk d 0

theorem startFails (hs : PlanSelects s u a b h 0) (hp : u.plan? h = some p) (hst : p.state = .installed)
    (hl : u.placement h p = none) : planGo d a b s = .ok (withStatus u d 1) := by
  rw [hs.acts (by omega) hp]
  simpa [planAct, hst, hl] using status_of_has hs.has_cur d 1

theorem startGang (hs : PlanSelects s u a b h 0) (hp : u.plan? h = some p) (hst : p.state = .installed) (hg : p.gang = true)
    (hl : u.placement h p = some l) : planGo d a b s
      = .wait (u.modPlan h fun q => { q with state := .committing, gangSince := u.cycle }) (.gang h d.toNat) := by
  rw [hs.acts (by omega) hp]
  simp [planAct, hst, hl, hg]

theorem drainFinish (hs : PlanSelects s u a b h 1) (hp : u.plan? h = some p) (hst : p.state = .running) :
    planGo d a b s = .ok (withStatus (u.beginDrain h false) d 0) := by
  rw [hs.acts (by omega) hp]
  simpa [planAct, hst] using status_of_keeps hs.has_cur (u.beginDrain_keepsGroups h false) d 0

/-- The discard drain, whose status is written if the issuing group is still there (R319). -/
theorem drainDiscard (hs : PlanSelects s u a b h 2) (hp : u.plan? h = some p) (hst : p.state = .running) :
    planGo d a b s = (u.discardDrain h).status d 0 := by
  rw [hs.acts (by omega) hp]
  simp [planAct, hst]

theorem remove (hs : PlanSelects s u a b h 3) (hp : u.plan? h = some p)
    (hst : p.state = .installed ∨ p.state = .aborted ∨ p.state = .quiescent ∨ p.state = .saved) :
    planGo d a b s = .wait (u.removePlan h) (.removal d.toNat) := by
  rw [hs.acts (by omega) hp]
  rcases hst with hst | hst | hst | hst <;> simp [planAct, hst]

end PlanSelects

/-- Reserved bits of the handle, and no such action (R308). -/
theorem planGo_illegal {s u : State} {d a b : Reg} (hr : HasRoom s) (hs : Settles s u) (hm : s.me.mode ≠ .user)
    (h : 2 ^ 16 ≤ sReg u a ∨ 3 < sReg u b) : planGo d a b s = illegal u := by
  unfold planGo
  rw [supervisorResult_settles hm hr hs]
  exact if_pos h

/-! `plan.ld` (R298, R305). -/

/-- What lets `plan.ld` come to its record: the mode, room for the handle, and service (R51, R71, R384). -/
structure PlanLoads (s u : State) : Prop where
  room : HasRoom s
  settles : Settles s u
  mode : s.me.mode ≠ .user
  level : u.level ≠ 0

/-- The header lies in a segment that may be read, at a multiple of 64 (R298). -/
structure HeaderAt (u : State) (a : Reg) (g : BitVec 3) : Prop where
  aligned : recordPlace u a g % 64 = 0
  inside : sReg u a + 64 ≤ (segOf u g).limit
  mayRead : (segOf u g).r = true

section PlanLd

variable {s u v w y : State} {m : Bool} {d a : Reg} {g : BitVec 3} {bs : List Byte} {h : Header} {x : Arrays} {i k : Nat}
  {imgs : List (List Nat × List Byte)} {l : List (List (List Nat))}

theorem planLd_waits (hr : HasRoom s) (hs : Settles s u) (hm : s.me.mode ≠ .user) (hl : u.level = 0) :
    planLdBody d a g s = .wait u .service := by
  unfold planLdBody
  rw [supervisorResult_settles hm hr hs]
  exact if_pos hl

/-- The first check of the header's place that fails (R298). -/
theorem PlanLoads.placeFault (hp : PlanLoads s u) (hk : firstKind [test (recordPlace u a g % 64 ≠ 0) 1,
    test ((segOf u g).limit < sReg u a + 64) 4, test ((segOf u g).r = false) 6] = some k) :
    planLdBody d a g s = .fault u { kind := k, seg := some g.toNat, offset := sReg u a } := by
  unfold planLdBody
  rw [supervisorResult_settles hp.mode hp.room hp.settles]
  dsimp only
  rw [if_neg hp.level]
  by_cases h1 : recordPlace u a g % 64 = 0
  · by_cases h2 : (segOf u g).limit < sReg u a + 64
    · obtain rfl : 4 = k := by simpa [h1, h2] using hk
      exact (if_neg (not_not.mpr h1)).trans (if_pos h2)
    · cases h3 : (segOf u g).r with
      | true => simp [h1, h2, h3] at hk
      | false =>
        obtain rfl : 6 = k := by simpa [h1, h2, h3] using hk
        exact (if_neg (not_not.mpr h1)).trans ((if_neg h2).trans (if_pos (show (!(segOf u g).r) = true by rw [h3]; rfl)))
  · obtain rfl : 1 = k := by simpa [h1] using hk
    exact if_pos h1

/-- Past the checks of its place, the header is read. -/
theorem PlanLoads.headerUnread (hp : PlanLoads s u) (hh : HeaderAt u a g)
    (hb : u.readRecord 0 (segOf u g) (sReg u a) 64 = .error (some i, v)) :
    planLdBody d a g s = v.planLoaded d (2 ^ 63 + 12 * 2 ^ 32) := by
  obtain ⟨ha, hi, hr⟩ := hh
  unfold recordPlace segOf sReg at *
  unfold planLdBody
  rw [supervisorResult_settles hp.mode hp.room hp.settles]
  simp [hp.level, ha, hr, hb, Nat.not_lt.mpr hi]

theorem PlanLoads.tooLong (hp : PlanLoads s u) (hh : HeaderAt u a g)
    (hb : u.readRecord 0 (segOf u g) (sReg u a) 64 = .ok (bs, v))
    (hl : (segOf u g).limit < sReg u a + Header.size ⟨dwordsOf 8 bs⟩) :
    planLdBody d a g s = .fault (v.landAll (.ask v.cur)) { kind := 4, seg := some g.toNat, offset := sReg u a } := by
  obtain ⟨ha, hi, hr⟩ := hh
  unfold recordPlace segOf sReg at *
  unfold planLdBody
  rw [supervisorResult_settles hp.mode hp.room hp.settles]
  simp [hp.level, ha, hr, hb, Nat.not_lt.mpr hi, hl]

theorem PlanLoads.reads (hp : PlanLoads s u) (hh : HeaderAt u a g)
    (hb : u.readRecord 0 (segOf u g) (sReg u a) 64 = .ok (bs, v)) (he : h = ⟨dwordsOf 8 bs⟩)
    (hl : sReg u a + h.size ≤ (segOf u g).limit) (hc : u.commitHeard h = true) :
    planLdBody d a g s = u.loadPlan v d (segOf u g) (sReg u a) h := by
  obtain ⟨ha, hi, hr⟩ := hh
  unfold recordPlace segOf sReg at *
  subst he
  unfold planLdBody
  rw [supervisorResult_settles hp.mode hp.room hp.settles]
  simp [hp.level, ha, hr, hb, Nat.not_lt.mpr hi, Nat.not_lt.mpr hl, hc]

/-- A record in reach is read whole. -/
theorem PlanLoads.record (hp : PlanLoads s u) (hr : PlanRecord u a g h x v) :
    ∃ u' l, planLdBody d a g s = u.loadPlan u' d (segOf u g) (sReg u a) h
      ∧ State.readArrays (segOf u g) (sReg u a) h.arrays u' = .ok (l, v) ∧ x = arraysOf l := by
  obtain ⟨bs, l, u', hb, he, ha, hx⟩ := hr.bytes
  exact ⟨u', l, hp.reads ⟨hr.aligned, hr.inside.1, hr.mayRead⟩ hb he hr.inside.2 hr.commit, ha, hx⟩

theorem planLoaded_eq (v : State) (d : Reg) (n : Nat) :
    v.planLoaded d n = .ok (withStatus (v.landAll (.ask v.cur)) d n) := rfl

theorem rejectPlan_ok (hy : v.commitAdd h 256 = .ok y) (d : Reg) (k i : Nat) :
    v.rejectPlan d h k i = y.planLoaded d (2 ^ 63 + k * 2 ^ 32 + i * 2 ^ 16) := by
  unfold State.rejectPlan
  rw [hy]

theorem PlanLoads.reserved (hp : PlanLoads s u) (hr : PlanRecord u a g h x v) (hx : h.reserved = true ∨ x.reserved = true) :
    planLdBody d a g s = illegal (v.landAll (.ask v.cur)) := by
  obtain ⟨u', l, hb, ha, rfl⟩ := hp.record (d := d) hr
  rw [hb]
  unfold State.loadPlan
  rw [ha]
  exact if_pos ((Bool.or_eq_true _ _).mpr hx)

/-- A record without reserved bits comes to the checks of its REASONS, once step 11 of service allows it (R305, R384). -/
theorem PlanLoads.rejects (hp : PlanLoads s u) (hr : PlanRecord u a g h x v) (hx : NoReserved h x)
    (ht : v.awaitsTest (planRecord (newHandle v) h x) = false)
    (hj : v.rejects (planRecord (newHandle v) h x) = some (k, i)) : planLdBody d a g s = v.rejectPlan d h k i := by
  obtain ⟨u', l, hb, ha, rfl⟩ := hp.record (d := d) hr
  unfold newHandle at ht hj
  rw [hb]
  unfold State.loadPlan
  simp [ha, hx.1, hx.2, ht, hj]

theorem PlanLoads.imageUnread (hp : PlanLoads s u) (hr : PlanRecord u a g h x v) (hx : NoReserved h x)
    (ht : v.awaitsTest (planRecord (newHandle v) h x) = false) (hj : v.rejects (planRecord (newHandle v) h x) = none)
    (hi : State.readImages (v.recordAsker h) 0 x.images v = .error (some i, w)) :
    planLdBody d a g s = w.rejectPlan d h 12 i := by
  obtain ⟨u', l, hb, ha, rfl⟩ := hp.record (d := d) hr
  unfold newHandle at ht hj
  rw [hb]
  unfold State.loadPlan
  simp [ha, hx.1, hx.2, ht, hj, hi]

theorem PlanLoads.installs (hp : PlanLoads s u) (hr : PlanRecord u a g h x v) (hx : NoReserved h x)
    (ht : v.awaitsTest (planRecord (newHandle v) h x) = false) (hj : v.rejects (planRecord (newHandle v) h x) = none)
    (hi : State.readImages (v.recordAsker h) 0 x.images v = .ok (imgs, w)) (hy : w.commitAdd h 1 = .ok y) :
    planLdBody d a g s = (y.installPlan (newHandle v) (planRecord (newHandle v) h x) imgs).planLoaded d (newHandle v) := by
  obtain ⟨u', l, hb, ha, rfl⟩ := hp.record (d := d) hr
  unfold newHandle at *
  rw [hb]
  unfold State.loadPlan
  simp [ha, hx.1, hx.2, ht, hj, hi, hy]

theorem PlanLoads.arrayUnread (hp : PlanLoads s u) (hh : HeaderAt u a g)
    (hb : u.readRecord 0 (segOf u g) (sReg u a) 64 = .ok (bs, v)) (he : h = ⟨dwordsOf 8 bs⟩)
    (hl : sReg u a + h.size ≤ (segOf u g).limit) (hc : u.commitHeard h = true)
    (ha : State.readArrays (segOf u g) (sReg u a) h.arrays v = .error (some i, w)) :
    planLdBody d a g s = w.rejectPlan d h 12 i := by
  rw [hp.reads hh hb he hl hc]
  unfold State.loadPlan
  rw [ha]

end PlanLd

/-! The rules and the faults of the task class. -/

/-- Each rule is what its instruction does. -/
theorem TaskRule.exec_eq {i : Instr} {s t : State} (h : TaskRule i s t) : exec i s = .next t := by
  cases h with
  | exit _ m hi hc hf => exact issue_blocked hi (exitBody_waits hc hf)
  | spawnHere _ u m a b x p d hi hs hc hm ho hl => exact issue_done hi (spawnBody_here hs hc hm ho (if_pos hl) rfl)
  | spawnOverflows _ u v m a b x p d hi hs hc hm ho hl hr hv =>
    subst hv
    refine issue_done hi (spawnBody_here hs hc hm ho ?_ rfl)
    rw [if_neg (by omega), overflow_own ho hl, if_pos hr]
  | spawnOverflowsFar _ u v m a b x p d hi hs hc hm ho hl hr hf hv =>
    subst hv
    refine issue_done hi (spawnBody_here hs hc hm ho ?_ rfl)
    rw [if_neg (by omega), overflow_own ho hl, if_neg hr, if_pos hf]
  | spawnAway _ u m a b x p d hi hs hc hm ho hf => exact issue_done hi (spawnBody_away hs hc hm ho hf)
  | spawnWaits _ u m a b x p d hi hs hc hm hw => exact issue_blocked hi (spawnBody_waits hs hc hm hw)
  | planLd _ u v w y m d a g h x imgs hi hr hs hm hl hp hx ht hj hg hy =>
    exact issue_done hi (PlanLoads.installs ⟨hr, hs, hm, hl⟩ hp hx ht hj hg hy)
  | planLdRejects _ u v y m d a g h x k j hi hr hs hm hl hp hx ht hj hy =>
    exact issue_done hi ((PlanLoads.rejects ⟨hr, hs, hm, hl⟩ hp hx ht hj).trans (rejectPlan_ok hy d k j))
  | planLdHeader _ u v m d a g j hi hr hs hm hl ha hn hg hb =>
    exact issue_done hi (PlanLoads.headerUnread ⟨hr, hs, hm, hl⟩ ⟨ha, hn, hg⟩ hb)
  | planLdArray _ u v w y m d a g bs h j hi hr hs hm hl ha hb hn hg he hz hc hx hy =>
    exact issue_done hi ((PlanLoads.arrayUnread ⟨hr, hs, hm, hl⟩ ⟨ha, hn, hg⟩ hb he hz hc hx).trans (rejectPlan_ok hy d 12 j))
  | planLdImage _ u v w y m d a g h x j hi hr hs hm hl hp hx ht hj hg hy =>
    exact issue_done hi ((PlanLoads.imageUnread ⟨hr, hs, hm, hl⟩ hp hx ht hj hg).trans (rejectPlan_ok hy d 12 j))
  | planLdWaits _ u m d a g hi hr hs hm hl => exact issue_blocked hi (planLd_waits hr hs hm hl)
  | start _ _ u m d a b h p l hi his hr hs hm ha hp hst hg hl =>
    rw [hi.exec_eq]
    exact issue_done his (PlanSelects.start ⟨his, hr, hs, hm, ha⟩ hp hst hg hl)
  | startFails _ _ u m d a b h p hi his hr hs hm ha hp hst hl =>
    rw [hi.exec_eq]
    exact issue_done his (PlanSelects.startFails ⟨his, hr, hs, hm, ha⟩ hp hst hl)
  | startGang _ _ u m d a b h p l hi his hr hs hm ha hp hst hg hl =>
    rw [hi.exec_eq]
    exact issue_blocked his (PlanSelects.startGang ⟨his, hr, hs, hm, ha⟩ hp hst hg hl)
  | drainFinish _ _ u m d a b h p hi his hr hs hm ha hp hst =>
    rw [hi.exec_eq]
    exact issue_done his (PlanSelects.drainFinish ⟨his, hr, hs, hm, ha⟩ hp hst)
  | drainDiscard _ _ u m d a b h p hi his hr hs hm ha hp hst hg =>
    rw [hi.exec_eq]
    refine issue_done his ((PlanSelects.drainDiscard ⟨his, hr, hs, hm, ha⟩ hp hst).trans (status_of_has ?_ d 0))
    rwa [u.discardDrain_cur]
  | drainOwn _ _ u m d a b h p hi his hr hs hm ha hp hst hg =>
    have hgone : (u.discardDrain h).status d 0 = .gone (u.discardDrain h) := by
      unfold State.status
      rw [u.discardDrain_cur, hg]
      rfl
    rw [hi.exec_eq, issue_next his, PlanSelects.drainDiscard ⟨his, hr, hs, hm, ha⟩ hp hst, hgone]
    rfl
  | remove _ _ u m d a b h p hi his hr hs hm ha hp hst =>
    rw [hi.exec_eq]
    exact issue_blocked his (PlanSelects.remove ⟨his, hr, hs, hm, ha⟩ hp hst)
  | wrongState _ _ u m d a b h act p hi his hr hs hm ha hp hn =>
    rw [hi.exec_eq]
    exact issue_done his (PlanSelects.wrongState ⟨his, hr, hs, hm, ha⟩ hp hn)
  | noPlan _ _ u m d a b h act hi his hr hs hm ha hle hp =>
    rw [hi.exec_eq]
    exact issue_done his (PlanSelects.noPlan ⟨his, hr, hs, hm, ha⟩ hle hp)

/-- A precise fault with its operands. -/
theorem faultsWith_fault {i : Instr} {s u : State} {m : Bool} {b : Body} {k : Nat} {g : Option Nat} {o : Nat} (hi : Issuing s)
    (hx : exec i s = issue m b s) (hb : b s = .fault u { kind := k, seg := g, offset := o }) : FaultsWith i s u k :=
  ⟨{ kind := k, seg := g, offset := o }, rfl, rfl, rfl, rfl, rfl, hx.trans (issue_fault hi m hb)⟩

/-- Each fault is taken. -/
theorem TaskFault.faultsWith {i : Instr} {s u : State} {k : Nat} (h : TaskFault i s u k) : FaultsWith i s u k := by
  cases h with
  | spawn _ _ m a b hi hs hc h => exact faultsWith_illegal hi rfl (spawnBody_illegal hs hc h)
  | spawnDraining _ _ m a b p d hi hs hc hb hv hlt hp hd hdev hst =>
    exact faultsWith_fault hi rfl (spawnBody_draining hs hc hb hv hlt hp hd hdev hst)
  | planGo _ _ _ m d a b hi his hr hs hm h => exact faultsWith_illegal his (hi.exec_eq s) (planGo_illegal hr hs hm h)
  | planLd _ _ m d a g _ hi hr hs hm hl hk => exact faultsWith_fault hi rfl (PlanLoads.placeFault ⟨hr, hs, hm, hl⟩ hk)
  | planLdLong _ u v _ m d a g bs hi hr hs hm hl ha hn hg hb hz hw =>
    subst hw
    exact faultsWith_fault hi rfl (PlanLoads.tooLong ⟨hr, hs, hm, hl⟩ ⟨ha, hn, hg⟩ hb hz)
  | planLdReserved _ u v _ m d a g h x hi hr hs hm hl hp hx hw =>
    subst hw
    exact faultsWith_illegal hi rfl (PlanLoads.reserved ⟨hr, hs, hm, hl⟩ hp hx)

end Sys2Proof.Rules

namespace Sys2Proof.Proofs

open Sys2Proof.Machine Sys2Proof.Rules

/-- Settles O42: each rule and each fault is what the instruction's body answers, and the REASONS are tried in ascending order,
each of which reports its lowest index. -/
theorem taskInstructions : Obligations.TaskInstructions :=
  ⟨fun _ _ _ h => h.exec_eq, fun _ _ _ _ h => h.faultsWith, fun _ _ _ _ _ hr =>
    ⟨fun _ _ hv => rejects_of_firstViolation hr hv, rejects_eq_none hr⟩⟩

end Sys2Proof.Proofs

/-!
Lane loads and stores at issue (R145, R146, R159).
-/

namespace Sys2Proof.Proofs

open Sys2Proof.Machine Sys2Proof.Rules

/-- Settles O25: the body of an access whose threads all pass queues their pieces in thread order. -/
theorem laneAccesses : Obligations.LaneAccesses := by
  refine ⟨?loads, ?stores⟩
  case loads =>
    intro i m d a g z e sg P s h hl hr hd hc
    simp only [laneOff_eq] at hc
    exact queuesAccess_of_body hl.1 (h.exec_eq s) (laneLoad_checked hl hr hd hc sg)
  case stores =>
    intro m d a g z e P s hl hd hc
    simp only [laneOff_eq] at hc
    exact queuesAccess_of_body hl.1 (exec_vst s) (laneStore_checked hl hd hc)

end Sys2Proof.Proofs

/-!
`hflush` and `hinval` at issue (R149).
-/

namespace Sys2Proof.Rules

open Sys2Proof.Machine

/-- n virtual line addresses from va up. -/
def linesUp (va n : Nat) : List Nat := (List.range n).map fun k => va + 64 * k

theorem linesUp_succ (va n : Nat) : linesUp va (n + 1) = va :: linesUp (va + 64) n := by
  simp only [linesUp, List.range_succ_eq_map, List.map_cons, List.map_map, Nat.mul_zero, Nat.add_zero, List.cons.injEq,
    true_and]
  exact List.map_congr_left fun k _ => by simp only [Function.comp_apply]; omega

/-- Where every line has a leaf, the host lines are those whose leaf has the host's aperture. -/
theorem hostLines_ok {s : State} {leaf : Nat → Nat} {va n : Nat}
    (h : ∀ x ∈ linesUp va n, s.leaf? (s.asker s.me) x = .ok (leaf x)) :
    s.hostLines va n = .ok (((linesUp va n).filter fun x => leafAperture (leaf x) == 4).map fun x => s.place (leaf x) x / 64) := by
  induction n generalizing va with
  | zero => rfl
  | succ n ih =>
    rw [linesUp_succ] at h ⊢
    simp only [State.hostLines, h va (List.mem_cons_self ..), ih fun x hx => h x (List.mem_cons_of_mem _ hx),
      List.filter_cons, beq_iff_eq]
    split <;> rfl

theorem linesOf_eq (x len : Nat) : linesOf x len = linesUp (x / 64 * 64) ((x + len - 1) / 64 - x / 64 * 64 / 64 + 1) := by
  rw [Nat.mul_div_cancel _ (by decide), linesOf, linesUp]

section
variable {i : Instr} {m : Bool} {g : BitVec 3} {a b : Reg} {acc : List Nat → Access} {s : State} {leaf : Nat → Nat}

theorem HostSync.exec_eq (h : HostSync i m g a b acc) (s : State) :
    exec i s = issue m (hostSync acc g.toNat a.toNat b.toNat) s := by cases h <;> rfl

theorem hostSync_empty (hb : sReg s b = 0) : hostSync acc g.toNat a.toNat b.toNat s = .ok s := by
  rw [sReg] at hb
  simp only [hostSync, hb, if_true]

/-- On a range of a global segment whose pages all translate, the body goes by the host lines of the range alone. -/
theorem hostSync_eq (hb : 0 < sReg s b) (hg : (segOf s g).space = 2) (hlim : sReg s a + sReg s b ≤ (segOf s g).limit)
    (hleaf : ∀ va ∈ linesOf ((segOf s g).base + sReg s a) (sReg s b), s.leaf? (s.asker s.me) va = .ok (leaf va))
    {ls : List Nat} (hls : ls = ((linesOf ((segOf s g).base + sReg s a) (sReg s b)).filter
      fun va => leafAperture (leaf va) == 4).map fun va => s.place (leaf va) va / 64) :
    hostSync acc g.toNat a.toNat b.toNat s
      = if ls.isEmpty then .ok s else s.push { pc := 0, todo := [acc ls], seg := some g.toNat } := by
  rw [linesOf_eq] at hleaf hls
  have hl := hostLines_ok hleaf
  rw [← hls] at hl
  simp only [segOf, sReg] at hb hg hlim hl
  simp only [hostSync, Nat.pos_iff_ne_zero.mp hb, hg, hl, Nat.not_lt.mpr hlim, if_false, not_true_eq_false, ne_eq]

end

end Sys2Proof.Rules

namespace Sys2Proof.Proofs

open Sys2Proof.Machine Sys2Proof.Rules

/-- Settles O29: the body goes by the host lines of the range, of which there are none or some. -/
theorem hostSynchronisation : Obligations.HostSynchronisation := by
  intro i m g a b acc s h hi
  refine ⟨fun hb => (h.exec_eq s).trans (issue_done hi (hostSync_empty hb)), fun leaf hb hg hlim hleaf => ⟨?none, ?some⟩⟩
  case none =>
    intro hno
    refine (h.exec_eq s).trans (issue_done hi ((hostSync_eq hb hg hlim hleaf rfl).trans (if_pos ?_)))
    simpa using hno
  case some =>
    intro ⟨va, hva, h4⟩
    refine queuesAccess_of_body hi (h.exec_eq s) ((hostSync_eq hb hg hlim hleaf rfl).trans ((if_neg ?_).trans
      (push_of_no_result rfl)))
    simpa using ⟨va, hva, h4⟩

end Sys2Proof.Proofs

/-!
The checks of an access (R146, R191): one of them fails, or all are passed and the pieces cover the access.
-/

namespace Sys2Proof.Rules

open Sys2Proof.Machine

/-! The pieces of an access cover its bytes (R135, R167). -/

theorem splitRange_bytes {q : Nat} (hq : 0 < q) {fuel a n : Nat} (hf : n < fuel) :
    (splitRange q fuel a n).flatMap (fun p => List.range' p.1 p.2) = List.range' a n := by
  induction fuel generalizing a n with
  | zero => omega
  | succ fuel ih =>
    rw [splitRange]
    split
    case isTrue h0 => subst h0; rfl
    case isFalse h0 =>
      have hc := splitPiece_first (a := a) hq (Nat.pos_of_ne_zero h0)
      generalize min n (q - a % q) = c at hc
      obtain ⟨h0c, hcn, -⟩ := hc
      rw [List.flatMap_cons, ih (by omega), List.range'_append_1, Nat.add_sub_cancel' hcn]

theorem cut_bytes (s : State) (gid : Nat) (g : Segment) (a n : Nat) :
    (s.cut gid g a n).flatMap (fun p => List.range' p.1 p.2) = List.range' a n := by
  unfold State.cut
  split
  · exact splitRange_bytes (by decide) (Nat.lt_succ_self n)
  · dsimp only
    generalize s.target gid g 0 0 % 16 = skew
    have hb := congrArg (List.map (· - skew)) (splitRange_bytes (q := 16) (a := a + skew) (by decide) (Nat.lt_succ_self n))
    rw [List.map_sub_range' (Nat.le_add_left ..), Nat.add_sub_cancel, List.map_flatMap] at hb
    rw [List.flatMap_map, ← hb]
    refine List.flatMap_congr fun p hp => ?_
    obtain ⟨i, j, -, rfl⟩ := (mem_splitRange (by decide) (Nat.lt_succ_self n)).mp hp
    simp only
    rw [List.map_sub_range' (by omega)]

section
variable {s : State} {gid : Nat} {who : Asker} {g : Segment} {need : Need} {t b n : Nat}

/-- Some piece fails a test, the lowest such, or none does. -/
theorem noPiece_or_lowest (F : Nat → Nat → Prop) : NoPiece s gid g b n F ∨ ∃ o, LowestPiece s gid g b n F o := by
  classical
  refine or_iff_not_imp_left.mpr fun h => ?_
  have hex : ∃ i, i < n ∧ ∃ j < n + 1, PieceFrom s gid g b n i j ∧ F (b + i) (b + j) := by
    simpa only [NoPiece, not_forall, not_not, exists_prop] using h
  obtain ⟨hi, hj⟩ := Nat.find_spec hex
  refine ⟨b + Nat.find hex, Nat.find hex, hi, rfl, hj, fun k hk j hjn hp hF => ?_⟩
  exact Nat.find_min hex hk ⟨hk.trans hi, j, hjn, hp, hF⟩

/-- A piece whose translation fails (R141, R146). -/
abbrev Unmapped (s : State) (gid : Nat) (who : Asker) (g : Segment) (t p : Nat) : Prop :=
  Untranslated s who g (s.target gid g t p) 5 ∨ Untranslated s who g (s.target gid g t p) 8
    ∨ Untranslated s who g (s.target gid g t p) 12

/-- A piece that its leaf denies (R146, R191). -/
abbrev Refused (s : State) (gid : Nat) (who : Asker) (g : Segment) (need : Need) (t p : Nat) : Prop :=
  Denied s who need (s.target gid g t p) 6 ∨ Denied s who need (s.target gid g t p) 7

/-- No check of an access at offset b fails. -/
structure Passes (s : State) (gid : Nat) (who : Asker) (g : Segment) (need : Need) (t b n : Nat) : Prop where
  limit : NoPiece s gid g b n fun _ e => g.limit < e
  writable : ¬ (need.w = true ∧ g.space = 3)
  read : need.r = true → g.r = true
  write : need.w = true → g.w = true
  mapped : translated g.space = true → NoPiece s gid g b n fun p _ => Unmapped s gid who g t p
  allowed : translated g.space = true → NoPiece s gid g b n fun p _ => Refused s gid who g need t p

/-- An access fails one of the checks, or it passes all. -/
theorem accessFault_or_passes (a : Int) (n : Nat) :
    (∃ k o, AccessFault s gid who g need t a n k o) ∨ ∃ b : Nat, a = b ∧ Passes s gid who g need t b n := by
  rcases lt_or_ge a 0 with ha | ha
  · exact .inl ⟨_, _, .negative ha⟩
  obtain ⟨b, rfl⟩ := Int.eq_ofNat_of_zero_le ha
  rcases noPiece_or_lowest (s := s) (gid := gid) (g := g) (b := b) (n := n) fun _ e => g.limit < e with hlim | ⟨o, hlim⟩
  swap
  · exact .inl ⟨_, _, .limit b o rfl hlim⟩
  by_cases h3 : need.w = true ∧ g.space = 3
  · exact .inl ⟨_, _, .orangery b rfl hlim h3.1 h3.2⟩
  by_cases h6 : (need.r = true ∧ g.r = false) ∨ (need.w = true ∧ g.w = false)
  · exact .inl ⟨_, _, .permission b rfl hlim h3 h6⟩
  simp only [not_or, not_and, Bool.not_eq_false] at h6
  obtain ⟨hr, hw⟩ := h6
  by_cases ht : translated g.space = true
  swap
  · exact .inr ⟨b, rfl, hlim, h3, hr, hw, fun h => absurd h ht, fun h => absurd h ht⟩
  have hsp := (translated_iff _).mp ht
  rcases noPiece_or_lowest (s := s) (gid := gid) (g := g) (b := b) (n := n) fun p _ => Unmapped s gid who g t p with hmap | ⟨o, hmap⟩
  swap
  · obtain ⟨i, -, rfl, ⟨j, -, -, h⟩, -⟩ := id hmap
    rcases h with h | h | h <;> exact .inl ⟨_, _, .translation b _ _ rfl hlim h3 hr hw hsp hmap h⟩
  rcases noPiece_or_lowest (s := s) (gid := gid) (g := g) (b := b) (n := n) fun p _ => Refused s gid who g need t p with hall | ⟨o, hall⟩
  swap
  · obtain ⟨i, -, rfl, ⟨j, -, -, h⟩, -⟩ := id hall
    rcases h with h | h <;> exact .inl ⟨_, _, .leaf b _ _ rfl hlim h3 hr hw hsp hmap hall h⟩
  exact .inr ⟨b, rfl, hlim, h3, hr, hw, fun _ => hmap, fun _ => hall⟩

/-- One that passes lies within its segment's limit. -/
theorem Passes.le_limit (h : Passes s gid who g need t b n) (hn : 0 < n) : b + n ≤ g.limit := by
  have hlast : b + n - 1 ∈ (s.cut gid g b n).flatMap fun p => List.range' p.1 p.2 := by
    rw [cut_bytes, List.mem_range'_1]; omega
  obtain ⟨p, hp, hmem⟩ := List.mem_flatMap.mp hlast
  obtain ⟨i, j, hij, rfl⟩ := mem_cut.mp hp
  obtain ⟨hlt, hj, -⟩ := id hij
  have := h.limit i (by omega) j (by omega) hij
  rw [List.mem_range'_1] at hmem
  simp only at hmem
  omega

end

section
variable {s : State} {gid : Nat} {who : Asker} {g : Segment} {need : Need} {t : Option Nat} {b n : Nat}

/-- An access that passes answers one piece for each of those it is cut into. -/
theorem Passes.checkAccess_eq (h : Passes s gid who g need (t.getD 0) b n) (seg : Nat) :
    ∃ f : Nat × Nat → Piece, (∀ p, (f p).pos = p.1 - b ∧ (f p).len = p.2)
      ∧ s.checkAccess gid who seg g need t b n = .ok ((s.cut gid g b n).map f) := by
  obtain ⟨hlim, h3, hr, hw, hmap, hall⟩ := h
  have hneg : ¬ (b : Int) < 0 := by omega
  have h14 : (need.w && g.space == 3) = false := by simpa using h3
  have h6 : (need.r && !g.r || need.w && !g.w) = false := by simp_all
  simp only [State.checkAccess, hneg, if_false, Int.toNat_natCast, h14, h6, Bool.false_eq_true]
  rw [firstFault_noPiece hlim fun i j hij hF => if_neg (by obtain ⟨hlt, -⟩ := hij; simp only; omega)]
  by_cases ht : translated g.space = true
  · have hleaf {i j : Nat} (hij : PieceFrom s gid g b n i j) : ∃ e, s.leafFor who (g.space == 4) (s.target gid g (t.getD 0) (b + i)) = .ok e
        ∧ s.leaf? who (s.target gid g (t.getD 0) (b + i)) = .ok e := by
      obtain ⟨hlt, hj, -⟩ := id hij
      exact leafFor_ok (hmap ht i (by omega) j (by omega) hij)
    simp only [ht, if_true]
    rw [firstFault_noPiece (hmap ht) fun i j hij _ => by obtain ⟨e, he, -⟩ := hleaf hij; simp only [he]]
    dsimp only
    rw [firstFault_noPiece (hall ht)]
    · refine ⟨_, fun p => ?_, rfl⟩
      split <;> exact ⟨rfl, rfl⟩
    · intro i j hij hF
      obtain ⟨e, he, hv⟩ := hleaf hij
      simp only [Refused, Denied, hv, Except.toOption, Option.mem_def, Option.some.injEq, exists_eq_left'] at hF
      simp only [he, leafDenies_none hF, Option.map_none]
  · simp only [ht, Bool.false_eq_true, if_false]
    exact ⟨_, fun p => ⟨rfl, rfl⟩, rfl⟩

/-- The pieces cover the bytes of the access in order. -/
theorem pieces_cover {f : Nat × Nat → Piece} (hf : ∀ p, (f p).pos = p.1 - b ∧ (f p).len = p.2) :
    (((s.cut gid g b n).map f).flatMap fun p => (List.range p.len).map (p.pos + ·)) = List.range n := by
  have hb := congrArg (List.map (· - b)) (cut_bytes s gid g b n)
  rw [List.map_sub_range' (Nat.le_refl b), Nat.sub_self, List.map_flatMap] at hb
  rw [List.flatMap_map, List.range_eq_range', ← hb]
  refine List.flatMap_congr fun p hp => ?_
  obtain ⟨i, j, -, rfl⟩ := mem_cut.mp hp
  rw [(hf _).1, (hf _).2, List.map_sub_range' (Nat.le_add_right ..), List.range'_eq_map_range]

theorem checkAccess_error_iff {a : Int} {seg : Nat} {x : TrapInfo} : s.checkAccess gid who seg g need t a n = .error x
    ↔ ∃ k o, AccessFault s gid who g need (t.getD 0) a n k o ∧ x = faultOf seg t k o := by
  constructor
  · intro hx
    rcases accessFault_or_passes (s := s) (gid := gid) (who := who) (g := g) (need := need) (t := t.getD 0) a n with ⟨k, o, h⟩ | ⟨b, rfl, h⟩
    · rw [h.checkAccess_eq seg] at hx
      exact ⟨k, o, h, (Except.error.inj hx).symm⟩
    · obtain ⟨f, -, hok⟩ := h.checkAccess_eq seg
      rw [hok] at hx
      cases hx
  · rintro ⟨k, o, h, rfl⟩
    exact h.checkAccess_eq seg

theorem checkAccess_ok {a : Int} {seg : Nat} {ps : List Piece} (hn : 0 < n)
    (h : s.checkAccess gid who seg g need t a n = .ok ps) :
    0 ≤ a ∧ a + n ≤ g.limit ∧ (ps.flatMap fun p => (List.range p.len).map (p.pos + ·)) = List.range n := by
  rcases accessFault_or_passes (s := s) (gid := gid) (who := who) (g := g) (need := need) (t := t.getD 0) a n with ⟨k, o, hf⟩ | ⟨b, rfl, hp⟩
  · rw [hf.checkAccess_eq seg] at h
    cases h
  · obtain ⟨f, hf, hok⟩ := hp.checkAccess_eq seg
    rw [hok] at h
    cases h
    exact ⟨Int.natCast_nonneg b, by exact_mod_cast hp.le_limit hn, pieces_cover hf⟩

end

end Sys2Proof.Rules

/-!
The walk of a page table (R139 to R141).
-/

namespace Sys2Proof.Rules

open Sys2Proof.Machine

theorem leafPsize_lt (e : Nat) : leafPsize e < 4 := Nat.mod_lt _ (by decide)

theorem leafOk_iff (l e : Nat) : leafOk l e = true ↔ GoodLeaf l e := by
  unfold leafOk GoodLeaf
  simp only [Bool.and_eq_true, and_assoc]
  refine and_congr ?level (and_congr ?frame ?aperture)
  case level =>
    match l with
    | 0 => simp
    | 1 => simp
    | 2 => simp
    | l + 3 => simp
  case frame =>
    have hp := leafPsize_lt e
    generalize leafPsize e = ps at hp
    match ps with
    | 0 => simp [pageBits, Nat.mod_one]
    | 1 => simp [pageBits]; omega
    | 2 => simp [pageBits]; omega
    | 3 => simp [pageBits]; omega
  case aperture =>
    generalize leafAperture e = ap
    match ap with
    | 0 => simp
    | 1 => simp; omega
    | 2 => simp; omega
    | 3 => simp; omega
    | 4 => simp
    | ap + 5 => simp

theorem goodPointer_iff {e : Nat} (h : isPointer e = true) :
    (e = 1 + leafFrame e * 2 ^ 30 ∧ leafFrame e * 4096 < 2 ^ 40) ↔ GoodPointer e := by
  rw [GoodPointer]
  simp only [h, true_and]
  exact and_congr_right fun _ => by omega

/-- The number of the entry that a walk reads at a level above the lowest (R139). -/
theorem walkIndex {va l : Nat} (h : l ≤ 3) : (if l = 3 then bits va 55 48 else bits va (20 + 9 * (l + 1)) (12 + 9 * (l + 1)))
    = va / 2 ^ (12 + 9 * (l + 1)) % (if l + 1 = 4 then 256 else 512) := by
  by_cases h3 : l = 3
  · subst h3; rfl
  · have : 20 + 9 * (l + 1) + 1 - (12 + 9 * (l + 1)) = 9 := by omega
    simp only [h3, show ¬ l + 1 = 4 by omega, if_false, bits, this, Nat.reducePow]

section
variable {s : State} {va l t i e : Nat}

theorem unserved_iff : (s.stackDown (t / 2 ^ 36) || s.isBad (t + 8 * i) 8) = true ↔ ¬ Served s t i := by
  rw [Served, Bool.or_eq_true]
  cases s.stackDown (t / 2 ^ 36) <;> simp

/-- The lowest level, where no entry may be a pointer (R139). -/
theorem walkFrom_zero (h : WalkEntry s va 0 t i e) : walkFrom s va 0 t
    = if s.stackDown (t / 2 ^ 36) || s.isBad (t + 8 * i) 8 then .error 8
      else if !leafV e || isPointer e || !leafOk 0 e then .error 5
      else if leafPsize e ≠ 1 then .ok e
      else if s.isBad (t + 8 * (i / 16 * 16)) 128 then .error 8
      else if (List.range 16).all fun j => s.num (t + 8 * (i / 16 * 16) + 8 * j) 8 == e then .ok e
      else .error 5 := by
  obtain ⟨rfl, rfl⟩ := h
  rfl

theorem walkFrom_succ (hl : l ≤ 3) (h : WalkEntry s va (l + 1) t i e) : walkFrom s va (l + 1) t
    = if s.stackDown (t / 2 ^ 36) || s.isBad (t + 8 * i) 8 then .error 8
      else if !leafV e then .error 5
      else if isPointer e then
        if e = 1 + leafFrame e * 2 ^ 30 ∧ leafFrame e * 4096 < 2 ^ 40 then walkFrom s va l (leafFrame e * 4096) else .error 5
      else if leafOk (l + 1) e then .ok e else .error 5 := by
  obtain ⟨rfl, rfl⟩ := h
  simp only [walkFrom, walkIndex hl]

theorem walkFrom_unserved (hl : l ≤ 4) (h : WalkEntry s va l t i e) (hs : ¬ Served s t i) : walkFrom s va l t = .error 8 := by
  have hs := unserved_iff.mpr hs
  cases l with
  | zero => rw [walkFrom_zero h, if_pos hs]
  | succ l => rw [walkFrom_succ (Nat.le_of_succ_le_succ hl) h, if_pos hs]

theorem walkFrom_bad (hl : l ≤ 4) (h : WalkEntry s va l t i e) (hs : Served s t i)
    (hb : leafV e = false ∨ (l = 0 ∧ isPointer e = true) ∨ (isPointer e = true ∧ ¬ GoodPointer e)
      ∨ (isPointer e = false ∧ ¬ GoodLeaf l e)) : walkFrom s va l t = .error 5 := by
  have hs : ¬ (s.stackDown (t / 2 ^ 36) || s.isBad (t + 8 * i) 8) = true := fun h => unserved_iff.mp h hs
  cases l with
  | zero =>
    rw [walkFrom_zero h, if_neg hs, if_pos]
    rw [← leafOk_iff] at hb
    rcases hb with hv | ⟨-, hp⟩ | ⟨hp, -⟩ | ⟨-, hb⟩
    · simp [hv]
    · simp [hp]
    · simp [hp]
    · simp [hb]
  | succ l =>
    rw [walkFrom_succ (Nat.le_of_succ_le_succ hl) h, if_neg hs]
    rcases hb with hv | ⟨h0, -⟩ | ⟨hp, hb⟩ | ⟨hp, hb⟩
    · rw [if_pos (by rw [hv]; rfl)]
    · cases h0
    · rw [if_pos hp, if_neg ((goodPointer_iff hp).not.mpr hb), ite_self]
    · rw [hp, if_neg Bool.false_ne_true, if_neg ((leafOk_iff _ _).not.mpr hb), ite_self]

theorem walkFrom_pointer (hl : l ≤ 3) (h : WalkEntry s va (l + 1) t i e) (hs : Served s t i) (hp : GoodPointer e) :
    walkFrom s va (l + 1) t = walkFrom s va l (leafFrame e * 4096) := by
  have hs : ¬ (s.stackDown (t / 2 ^ 36) || s.isBad (t + 8 * i) 8) = true := fun h => unserved_iff.mp h hs
  have hv : leafV e = true := by
    have := hp.1
    simp only [isPointer, Bool.and_eq_true] at this
    exact this.1.1.1
  rw [walkFrom_succ hl h, if_neg hs, if_neg (by rw [hv]; decide), if_pos hp.1, if_pos ((goodPointer_iff hp.1).mpr hp)]

/-- A leaf of 64 KiB has its block to be read; any other ends the walk. -/
theorem walkFrom_leaf (hl : l ≤ 4) (h : WalkEntry s va l t i e) (hs : Served s t i) (hv : leafV e = true)
    (hp : isPointer e = false) (hg : GoodLeaf l e) : walkFrom s va l t = if leafPsize e ≠ 1 then .ok e
      else if s.isBad (t + 8 * (i / 16 * 16)) 128 then .error 8
      else if (List.range 16).all fun j => s.num (t + 8 * (i / 16 * 16) + 8 * j) 8 == e then .ok e
      else .error 5 := by
  have hs : ¬ (s.stackDown (t / 2 ^ 36) || s.isBad (t + 8 * i) 8) = true := fun h => unserved_iff.mp h hs
  cases l with
  | zero =>
    rw [walkFrom_zero h, if_neg hs, if_neg]
    simp [hv, hp, (leafOk_iff 0 e).mpr hg]
  | succ l =>
    have hsize : leafPsize e ≠ 1 := by
      obtain ⟨⟨h0, -⟩ | ⟨-, h2⟩ | ⟨-, h2⟩, -⟩ := hg <;> omega
    rw [walkFrom_succ (Nat.le_of_succ_le_succ hl) h, if_neg hs, if_neg (by rw [hv]; decide), hp, if_neg Bool.false_ne_true,
      if_pos ((leafOk_iff _ _).mpr hg), if_pos hsize]

theorem sameBlock_iff : ((List.range 16).all fun j => s.num (t + 8 * (i / 16 * 16) + 8 * j) 8 == e) = true ↔ SameBlock s t i e := by
  simp only [SameBlock, List.all_eq_true, List.mem_range, beq_iff_eq]

end

/-- A walk ends at the leaf that R139 gives. -/
theorem Walks.walkFrom_eq {s : State} {va l t e : Nat} (h : Walks s va l t e) (hl : l ≤ 4) : walkFrom s va l t = .ok e := by
  induction h with
  | leaf l t i e he hs hv hp hg hblock =>
    rw [walkFrom_leaf hl he hs hv hp hg]
    by_cases h1 : leafPsize e = 1
    · obtain ⟨hbad, hsame⟩ := hblock h1
      rw [if_neg (not_not.mpr h1), hbad, if_neg Bool.false_ne_true, if_pos (sameBlock_iff.mpr hsame)]
    · rw [if_pos h1]
  | pointer l t i e x he hs hp _ ih =>
    rw [walkFrom_pointer (Nat.le_of_succ_le_succ hl) he hs hp, ih (Nat.le_of_succ_le hl)]

/-- Or with the fault of R141. -/
theorem WalkFault.walkFrom_eq {s : State} {va l t k : Nat} (h : WalkFault s va l t k) (hl : l ≤ 4) :
    walkFrom s va l t = .error k := by
  induction h with
  | unread l t i e he hs => exact walkFrom_unserved hl he hs
  | bad l t i e he hs hb => exact walkFrom_bad hl he hs hb
  | block t i e he hs hv hp hg h1 hbad hsame =>
    rw [walkFrom_leaf hl he hs hv hp hg, if_neg (not_not.mpr h1), hbad, if_neg Bool.false_ne_true,
      if_neg (sameBlock_iff.not.mpr hsame)]
  | blockUnread t i e he hs hv hp hg h1 hbad =>
    rw [walkFrom_leaf hl he hs hv hp hg, if_neg (not_not.mpr h1), if_pos hbad]
  | pointer l t i e k he hs hp _ ih =>
    rw [walkFrom_pointer (Nat.le_of_succ_le_succ hl) he hs hp, ih (Nat.le_of_succ_le hl)]

theorem walk_unmapped {s : State} {root va : Nat} (h : 2 ^ 56 ≤ va) : s.walk root va = .error 5 := if_pos (.inl h)

theorem walk_eq_walkFrom {s : State} {root va : Nat} (hva : va < 2 ^ 56) (hr : root < 2 ^ 40) :
    s.walk root va = walkFrom s va 4 root :=
  if_neg (not_or.mpr ⟨Nat.not_le.mpr hva, Nat.not_le.mpr hr⟩)

end Sys2Proof.Rules

namespace Sys2Proof.Proofs

open Sys2Proof.Machine Sys2Proof.Rules

/-- Settles O27: an access fails a check or passes them all, and the machine's own check answers accordingly; a walk is read
off entry by entry. -/
theorem accessPieces : Obligations.AccessPieces := by
  refine ⟨?access, ?walk⟩
  case access =>
    intro s gid k seg g need t a n hn
    exact ⟨fun ps h => checkAccess_ok hn h, fun x => checkAccess_error_iff⟩
  case walk =>
    refine fun s root va e k => ⟨walk_unmapped, fun hva hr => ?_⟩
    rw [walk_eq_walkFrom hva hr]
    exact ⟨fun h => h.walkFrom_eq le_rfl, fun h => h.walkFrom_eq le_rfl⟩

end Sys2Proof.Proofs

/-!
A double fault's, a shootdown's and a task's end, the context instructions and `segld` (R144, R354 to R360).
-/

namespace Sys2Proof.Machine

/-! Putting a saved plan back keeps every group (R360). -/

theorem State.enterContext_keepsGroups (s : State) (c ctx : Nat) : KeepsGroups s (s.enterContext c ctx) := by
  unfold State.enterContext
  split <;> exact .of_groups rfl rfl

theorem State.resumeTeam_keepsGroups (s : State) (c tid : Nat) (t : Task) : KeepsGroups s (s.resumeTeam c tid t) := by
  unfold State.resumeTeam
  extract_lets s1 a s2 s3
  have h1 : KeepsGroups s s1 :=
    (s.enterContext_keepsGroups c _).trans (.foldl (fun u (g : Nat × Group) => .setGroup u g.1 g.2) _ _)
  have h3 : KeepsGroups s s3 := h1.andThen rfl rfl
  exact h3.trans ((State.examine_keepsGroups _ _ _).after rfl rfl)

theorem State.restoreCore_keepsGroups (s : State) (h : Nat) (x : SavedCore) : KeepsGroups s (s.restoreCore h x) := by
  unfold State.restoreCore
  extract_lets k other s1
  have h1 : KeepsGroups s s1 := .of_groups rfl rfl
  refine h1.trans (.foldl (fun u tid => ?_) _ _)
  split
  · exact u.resumeTeam_keepsGroups _ _ _
  · exact .refl u

theorem State.evalPattern_keepsGroups (key fuel : Nat) (s : State) : KeepsGroups s (State.evalPattern key fuel s) := by
  induction fuel generalizing s with
  | zero => exact .refl s
  | succ n ih =>
    unfold State.evalPattern
    split
    · exact .refl s
    · exact .ite ((s.fire_keepsGroups _ _).trans ((ih _).after rfl rfl)) (s.hold_keepsGroups key)

theorem State.restorePlan_keepsGroups (s : State) (h : Nat) (x : SavedPlan) : KeepsGroups s (s.restorePlan h x) := by
  unfold State.restorePlan
  extract_lets s1 s2 s3 s4
  have h1 : KeepsGroups s s1 := (KeepsGroups.foldl (fun u c => u.restoreCore_keepsGroups h c) _ _).after rfl rfl
  have h2 : KeepsGroups s s2 := by
    refine h1.trans (.foldl ?_ _ _)
    exact fun _ _ => .of_groups rfl rfl
  have h3 : KeepsGroups s s3 := by
    refine h2.trans (.foldl ?_ _ _)
    exact fun _ _ => .of_groups rfl rfl
  have h4 : KeepsGroups s s4 := h3.andThen rfl rfl
  exact h4.trans (.foldl (fun u _ => (u.settled_keepsGroups _).trans (State.evalPattern_keepsGroups _ _ _)) _ _)

end Sys2Proof.Machine

namespace Sys2Proof.Rules

open Sys2Proof.Machine

/-! The gates of a supervisor instruction of a core (R51, R159). -/

section
variable {s u : State}

theorem Supervisor.gates (h : Supervisor s u) (b : Body) : supervisorOnly (coreOnly (Machine.ordered b)) s = b u := by
  obtain ⟨-, hm, hs⟩ := h
  rw [supervisorOnly_allowed (by rw [hm]; decide), coreOnly_core (by rw [hm]; decide), ordered_settles hs]

theorem Supervisor.issuing (h : Supervisor s u) : Issuing s := h.1

theorem Supervisor.has_cur (h : Supervisor s u) : u.groups.has u.cur = true := h.2.2.has_cur h.1

/-! The end of a task (R354). -/

theorem tret_end (h : Supervisor s u) {a : Reg} {returns : Bool} (ha : sReg u a = if returns then 1 else 2) :
    tret a s = .gone (u.finishTask u.me.task returns) := by
  rw [sReg] at ha
  rw [tret, h.gates, ha]
  cases returns <;> rfl

theorem issue_gone {v : State} {m : Bool} {b : Body} (h : Issuing s) (hb : b s = .gone v) : issue m b s = .next v := by
  rw [issue_next h, hb]; rfl

/-! The removal of translations (R358). -/

theorem shootDown_eq (s : State) (scope ctx page : Nat) :
    s.shootDown s.cur scope ctx page = tlbWithout s (fun e => e.named (scope, ctx, page)) (scope, ctx, page) := rfl

theorem tlbinv_page {a b : Reg} {page ctx : Nat} (hm : s.me.mode ≠ .user) (hc : ctx < 2 ^ 16) (ha : sReg s a = page * 4096)
    (hlt : sReg s a < 2 ^ 56) (hb : sReg s b = ctx) :
    tlbinvBody a b s = .ok (tlbWithout s (fun e => e.ctx == ctx && coversPage e page) (0, ctx, page)) := by
  rw [ha] at hlt
  rw [sReg] at ha hb
  have h1 : bits ctx 63 18 = 0 := by simp only [bits]; omega
  have h2 : bits ctx 17 16 = 0 := by simp only [bits]; omega
  have h3 : ¬ (bits (page * 4096) 63 56 ≠ 0 ∨ bits (page * 4096) 11 0 ≠ 0) := by simp only [bits]; omega
  have h4 : bits ctx 15 0 = ctx := by simp only [bits]; omega
  have h5 : bits (page * 4096) 55 12 = page := by simp only [bits]; omega
  simp only [tlbinvBody, supervisorOnly_allowed hm, ha, hb, h1, h2, ne_eq, not_true_eq_false, if_false, if_neg h3, h4, h5]
  rfl

theorem tlbinv_context {a b : Reg} {ctx : Nat} (hm : s.me.mode ≠ .user) (hc : ctx < 2 ^ 16) (ha : sReg s a = 0)
    (hb : sReg s b = 2 ^ 16 + ctx) : tlbinvBody a b s = .ok (tlbWithout s (fun e => e.ctx == ctx) (1, ctx, 0)) := by
  rw [sReg] at ha hb
  have h1 : bits (2 ^ 16 + ctx) 63 18 = 0 := by simp only [bits]; omega
  have h2 : bits (2 ^ 16 + ctx) 17 16 = 1 := by simp only [bits]; omega
  have h4 : bits (2 ^ 16 + ctx) 15 0 = ctx := by simp only [bits]; omega
  simp only [tlbinvBody, supervisorOnly_allowed hm, ha, hb, h1, h2, ne_eq, not_true_eq_false, if_false, h4]
  rfl

theorem tlbinv_all {a b : Reg} (hm : s.me.mode ≠ .user) (ha : sReg s a = 0) (hb : sReg s b = 2 ^ 17) :
    tlbinvBody a b s = .ok (tlbWithout s (fun _ => true) (2, 0, 0)) := by
  rw [sReg] at ha hb
  simp only [tlbinvBody, supervisorOnly_allowed hm, ha, hb]
  rfl

/-! `segld` (R133, R134, R357). -/

theorem natOf_lt (b : Bool) : natOf b < 2 := by cases b <;> decide

theorem bit_eq {n k : Nat} {b : Bool} (h : n / 2 ^ k % 2 = natOf b) : bit n k = b := by
  rw [bit, h]; cases b <;> rfl

theorem segmentOf_words {x : Segment} {w0 w1 : Nat} (h : DescriptorWords x w0 w1) :
    segmentOf w0 w1 = x ∧ descReserved w0 w1 = false := by
  obtain ⟨base, limit, r, w, e, space⟩ := x
  obtain ⟨hb, hl, hs, hw0, hw1⟩ := h
  have hr := natOf_lt r
  have hw := natOf_lt w
  have he := natOf_lt e
  simp only at hb hl hs hw0 hw1
  constructor
  · have h4 : bit w1 4 = r := bit_eq (by omega)
    have h5 : bit w1 5 = w := bit_eq (by omega)
    have h6 : bit w1 6 = e := bit_eq (by omega)
    simp only [segmentOf, bits, h4, h5, h6, Segment.mk.injEq, true_and]
    omega
  · have h7 : bit w1 7 = false := bit_eq (by simp only [natOf, Bool.false_eq_true, if_false] at *; omega)
    have h3 : bit w1 3 = false := bit_eq (by simp only [natOf, Bool.false_eq_true, if_false] at *; omega)
    simp only [descReserved, bits, h7, h3, Bool.or_false, bne_eq_false_iff_eq]
    omega

/-- A descriptor that satisfies R134 is not bad, and becomes the segment that the group sees. -/
theorem Loads.segment {blk size block region : Nat} {x y : Segment} (h : Loads blk size block region x y) :
    segmentBad blk x = false ∧ (x.space == 1 && decide (size < x.base + x.limit)) = false ∧ relocate region block x = y := by
  cases h with
  | priv b l r w e hxw hb hl h1 h2 =>
    refine ⟨?_, rfl, rfl⟩
    simpa [segmentBad, hxw, hb, hl, h2] using h1
  | scratchpad b l r w e hxw h1 => exact ⟨by simp [segmentBad, hxw], by simpa using h1, rfl⟩
  | global b l r w e hxw h1 => exact ⟨by simpa [segmentBad, hxw] using h1, rfl, rfl⟩
  | orangery b l r e h1 => exact ⟨by simpa [segmentBad] using h1, rfl, rfl⟩
  | pavilion b l r w e hxw h1 => exact ⟨by simpa [segmentBad, hxw] using h1, rfl, rfl⟩
  | belvedere b l r w e hxw h1 => exact ⟨by simpa [segmentBad, hxw] using h1, rfl, rfl⟩

theorem Loads.ownSegment {v : State} {t : Task} {d : StageDesc} {x y : Segment} {w0 w1 : Nat} (hw : DescriptorWords x w0 w1)
    (ht : v.task? v.me.task = some t) (hd : v.stageDesc t.plan t.stage = some d)
    (h : Loads d.privBlk t.scratchSize (d.privBase + v.cur * d.privBlk * 64) t.scratchBase x y) :
    v.badDescriptor w0 w1 = false ∧ v.ownSegment (segmentOf w0 w1) = y := by
  obtain ⟨hx, hr⟩ := segmentOf_words hw
  obtain ⟨hbad, hsize, hy⟩ := h.segment
  constructor
  · simp only [State.badDescriptor, hx, hr, ht, hd, Option.getD_some, Option.map_some, hbad, hsize, Bool.or_false]
  · simp only [State.ownSegment, hx, ht, hd, Option.getD_some, Option.map_some, StageDesc.privateBlock, hy]

theorem segld_ok (h : Supervisor s u) {w v : State} {n g : BitVec 3} {a : Reg} {ps : List Piece} {bs : List Byte} {t : Task}
    {d : StageDesc} {x y : Segment} {w0 w1 : Nat} (ha : sReg u a % 16 = 0) (hc : ScalarChecked u g { r := true } (sReg u a) 16 ps)
    (hr : ∀ p ∈ ps, u.readable (.ask u.cur) p.addr = true) (hb : readPlaces 0 (u.asker u.me) ps u = .ok (bs, w))
    (hv : v = w.landAll (.ask w.cur)) (h0 : leNat (bs.take 8) = w0) (h1 : leNat (bs.drop 8) = w1) (hw : DescriptorWords x w0 w1)
    (hme : v.me = u.me) (hcur : v.cur = u.cur) (ht : v.task? u.me.task = some t) (hd : v.stageDesc t.plan t.stage = some d)
    (hl : Loads d.privBlk t.scratchSize (d.privBase + u.cur * d.privBlk * 64) t.scratchBase x y) :
    segldBody n a g s = .ok (v.setMe { u.me with segs := u.me.segs.put n.toNat y }) := by
  rw [← hcur] at hl
  rw [← hme] at ht
  obtain ⟨hbad, hown⟩ := hl.ownSegment hw ht hd
  have hall : (ps.all fun p => u.readable (.ask u.cur) p.addr) = true := List.all_eq_true.mpr hr
  simp only [ScalarChecked, segOf, sReg] at ha hc
  rw [segldBody, h.gates]
  simp only [ha, ne_eq, not_true_eq_false, if_false, hc, hall, Bool.not_true, Bool.false_eq_true, hb, ← hv, h0, h1, hbad, hown]

/-! `ctxsave` and `ctxrest` (R359, R360). -/

variable {a b : Reg} {h area key : Nat}

/-- The operands as the machine takes them apart. -/
theorem CtxOperands.fields (ho : CtxOperands s a b h area key) : (s.me.getS a.toNat).toNat = h
    ∧ ctxOperandsBad h (s.me.getS b.toNat).toNat = false ∧ areaBase (s.me.getS b.toNat).toNat = area
    ∧ bits (s.me.getS b.toNat).toNat 12 0 = key := by
  obtain ⟨⟨ha, hlt⟩, ⟨hb, hmod, harea⟩, hkey⟩ := ho
  rw [sReg] at ha hb
  rw [hb]
  refine ⟨ha, ?_, ?_, ?_⟩
  · simp only [ctxOperandsBad, bits, Bool.or_eq_false_iff, bne_eq_false_iff_eq]; omega
  · simp only [areaBase, bits]; omega
  · simp only [bits]; omega

/-- What `ctxsave` does to a plan that is there, its operands legal. -/
def saveOf (u : State) (d : Reg) (h area key : Nat) (p : Plan) : Eff :=
  if p.state ≠ .running ∨ u.me.plan = h then u.status d 4
  else if !areaFits area (u.coresFor h) then u.status d 6
  else if !u.hasKey 63 key then u.status d 7
  else if !u.canStop h ∨ u.spillWaits h then .wait u .service
  else .wait (u.savePlan h area key (u.coresFor h)) (.removal d.toNat)

theorem ctxsaveBody_none (hs : Supervisor s u) (ho : CtxOperands u a b h area key) (hp : u.plan? h = none) (d : Reg) :
    ctxsaveBody d a b s = .ok (withStatus u d 5) := by
  obtain ⟨ha, hbad, -, -⟩ := ho.fields
  rw [ctxsaveBody, hs.gates]
  simp only [ha, hbad, hp, Bool.false_eq_true, if_false]
  exact status_of_has hs.has_cur d 5

theorem ctxsaveBody_some (hs : Supervisor s u) (ho : CtxOperands u a b h area key) {p : Plan} (hp : u.plan? h = some p) (d : Reg) :
    ctxsaveBody d a b s = saveOf u d h area key p := by
  obtain ⟨ha, hbad, hbase, hkey⟩ := ho.fields
  rw [ctxsaveBody, hs.gates]
  simp only [ha, hbad, hp, hbase, hkey, Bool.false_eq_true, if_false, saveOf]

theorem areaFits_iff {cores : List Nat} : areaFits area cores = true ↔ ∀ x ∈ placedOn cores, area + (x.2 * 2 ^ 21 + 2 ^ 22) ≤ 2 ^ 36 := by
  simp only [areaFits, List.all_eq_true]
  exact forall₂_congr fun _ _ => decide_eq_true_iff

/-- What `ctxrest` does to a plan that has been saved, its operands legal. -/
def restoreOf (u : State) (d : Reg) (h area key : Nat) (p : Plan) (x : SavedPlan) : Eff :=
  if u.me.plan = h ∨ p.state ≠ .saved then u.status d 4
  else if area = x.area ∧ ((placedOn (x.cores.map SavedCore.core)).any fun y => u.retrains y.1) then .wait u .service
  else if area ≠ x.area ∨ ((placedOn (x.cores.map SavedCore.core)).any fun y => u.isBad (y.1 * 2 ^ 36 + x.area) (areaSize y.2)) then
    u.status d 6
  else if !u.hasKey 63 key then u.status d 7
  else if key ≠ x.key then u.status d 6
  else if !u.placesFree h p x then u.status d 1
  else (u.restorePlan h x).status d 0

theorem restoreOf_mine {p : Plan} {x : SavedPlan} {d : Reg} (hst : p.state = .saved) (hown : u.me.plan ≠ h) :
    restoreOf u d h area key p x
      = if area = x.area ∧ ((placedOn (x.cores.map SavedCore.core)).any fun y => u.retrains y.1) then .wait u .service
        else if area ≠ x.area ∨ ((placedOn (x.cores.map SavedCore.core)).any fun y => u.isBad (y.1 * 2 ^ 36 + x.area) (areaSize y.2)) then
          u.status d 6
        else if !u.hasKey 63 key then u.status d 7
        else if key ≠ x.key then u.status d 6
        else if !u.placesFree h p x then u.status d 1
        else (u.restorePlan h x).status d 0 :=
  if_neg (not_or.mpr ⟨hown, not_not.mpr hst⟩)

theorem not_retrains {l : List (Nat × Nat)} {p : Prop} (h : ∀ y ∈ l, u.retrains y.1 = false) :
    ¬ (p ∧ (l.any fun y => u.retrains y.1) = true) := by
  rintro ⟨-, hy⟩
  obtain ⟨y, hy, hr⟩ := List.any_eq_true.mp hy
  exact Bool.false_ne_true ((h y hy).symm.trans hr)

/-- With its area readable and its key there, a saved plan is put back as soon as its places are free. -/
theorem restoreOf_readable {p : Plan} {x : SavedPlan} {d : Reg} (hst : p.state = .saved) (hown : u.me.plan ≠ h)
    (harea : x.area = area) (hre : ∀ y ∈ placedOn (x.cores.map SavedCore.core), u.retrains y.1 = false) (hxk : x.key = key)
    (hkey : u.hasKey 63 key = true)
    (hbad : ∀ y ∈ placedOn (x.cores.map SavedCore.core), u.isBad (y.1 * 2 ^ 36 + area) (y.2 * 2 ^ 21 + 2 ^ 22) = false) :
    restoreOf u d h area key p x = if !u.placesFree h p x then u.status d 1 else (u.restorePlan h x).status d 0 := by
  subst harea hxk
  have hread : ((placedOn (x.cores.map SavedCore.core)).any fun y => u.isBad (y.1 * 2 ^ 36 + x.area) (areaSize y.2)) = false :=
    List.any_eq_false.mpr fun y hy => Bool.eq_false_iff.mp (hbad y hy)
  rw [restoreOf_mine hst hown, if_neg (not_retrains hre), hread]
  simp only [hkey, ne_eq, not_true_eq_false, Bool.false_eq_true, or_self, Bool.not_true, if_false]

theorem ctxrestBody_none (hs : Supervisor s u) (ho : CtxOperands u a b h area key) (hp : u.plan? h = none) (d : Reg) :
    ctxrestBody d a b s = .ok (withStatus u d 5) := by
  obtain ⟨ha, hbad, -, -⟩ := ho.fields
  rw [ctxrestBody, hs.gates]
  simp only [ha, hbad, hp, Bool.false_eq_true, if_false]
  exact status_of_has hs.has_cur d 5

theorem ctxrestBody_unsaved (hs : Supervisor s u) (ho : CtxOperands u a b h area key) {p : Plan} (hp : u.plan? h = some p)
    (hx : p.saved = none) (d : Reg) : ctxrestBody d a b s = .ok (withStatus u d 4) := by
  obtain ⟨ha, hbad, -, -⟩ := ho.fields
  rw [ctxrestBody, hs.gates]
  simp only [ha, hbad, hp, hx, Bool.false_eq_true, if_false]
  exact status_of_has hs.has_cur d 4

theorem ctxrestBody_saved (hs : Supervisor s u) (ho : CtxOperands u a b h area key) {p : Plan} {x : SavedPlan}
    (hp : u.plan? h = some p) (hx : p.saved = some x) (d : Reg) : ctxrestBody d a b s = restoreOf u d h area key p x := by
  obtain ⟨ha, hbad, hbase, hkey⟩ := ho.fields
  rw [ctxrestBody, hs.gates]
  simp only [ha, hbad, hp, hx, hbase, hkey, Bool.false_eq_true, if_false, restoreOf]

/-! Steps without an instruction (R144, R354). -/

/-- A removal is complete once no TLB holds what it names, and nothing translated under one is left (R144). -/
theorem tryShootdown_done {gid : Nat} (htlb : ∀ x ∈ (s.group gid).invs, ∀ e ∈ s.tlb, e.named x = false)
    (hout : ∀ x ∈ (s.group gid).invs, ∀ g ∈ s.groups, (x.1 = 2 ∨ g.2.ctx = x.2.1) → ∀ p ∈ g.2.out, p.todo = [])
    (f : State → State) : s.tryShootdown gid f = some (f (s.setGroup gid { s.group gid with invs := [] })) := by
  have hfind : ((s.group gid).invs.find? fun x => s.tlb.any fun e => e.named x) = none := by
    simpa using htlb
  have hany : (s.group gid).invs.any s.accessesOf = false := by
    refine List.any_eq_false.mpr fun x hx => Bool.eq_false_iff.mp (List.any_eq_false.mpr fun g hg h => ?_)
    simp only [Bool.and_eq_true, Bool.or_eq_true, beq_iff_eq, List.any_eq_true, Bool.not_eq_true', List.isEmpty_eq_false_iff] at h
    obtain ⟨⟨-, hctx⟩, p, hp, hne⟩ := h
    exact hne (hout x hx g hg hctx p hp)
  simp only [State.tryShootdown, hfind, hany, Bool.false_eq_true, if_false]

/-- A task whose groups have stopped is over once they can be drained (R354). -/
theorem tryTrapEntry_ended {gid : Nat} {t : Task} {returns : Bool} (hd : gid ∉ (s.die (dieOfGid gid)).doubleFaults)
    (ht : s.task? (s.group gid).task = some t) (he : t.ending = some returns) (hdrain : ∀ g ∈ t.groups, s.canDrain g = true) :
    s.tryTrapEntry gid = some ((t.groups.foldl State.performAll s).endTask (s.group gid).task returns) := by
  have hd' : (s.die (dieOfGid gid)).doubleFaults.contains gid = false := by simpa using hd
  have hends : s.groupEnds gid = true := by simp [State.groupEnds, ht, he]
  have hset : s.teamSettles t = true := List.all_eq_true.mpr hdrain
  simp only [State.tryTrapEntry, hd', hends, State.endSettled, ht, he, hset, Bool.false_eq_true, if_false, if_true,
    Option.bind_some]

/-! Each rule, and each step. -/

theorem TrapRule.exec_eq {i : Instr} {s t : State} (h : TrapRule i s t) : exec i s = .next t := by
  cases h with
  | endReturn _ u m a hs ha => exact issue_gone hs.issuing (tret_end (returns := true) hs ha)
  | endDiscard _ u m a hs ha => exact issue_gone hs.issuing (tret_end (returns := false) hs ha)
  | segld _ u w v m n g a ps bs t d x y w0 w1 hs ha hc hr hb hv h0 h1 hw hme hcur ht hd hl =>
    exact issue_done hs.issuing (segld_ok hs ha hc hr hb hv h0 h1 hw hme hcur ht hd hl)
  | tlbinvPage _ m a b page ctx hi hm hc ha hlt hb => exact issue_done hi (tlbinv_page hm hc ha hlt hb)
  | tlbinvContext _ m a b ctx hi hm hc ha hb => exact issue_done hi (tlbinv_context hm hc ha hb)
  | tlbinvAll _ m a b hi hm ha hb => exact issue_done hi (tlbinv_all hm ha hb)
  | tlbsync _ m hi hm => exact issue_blocked hi (supervisorOnly_allowed hm _)
  | ctxsave _ u m d a b h area key p hs ho hp hst hown hkey hfit hstop hspill =>
    refine issue_blocked hs.issuing ((ctxsaveBody_some hs ho hp d).trans ?_)
    simp [saveOf, hst, hown, areaFits_iff.mpr hfit, hkey, hstop, hspill]
  | ctxsaveWaits _ u m d a b h area key p hs ho hp hst hown hkey hfit hwait =>
    refine issue_blocked hs.issuing ((ctxsaveBody_some hs ho hp d).trans ?_)
    simp [saveOf, hst, hown, areaFits_iff.mpr hfit, hkey, hwait]
  | ctxsaveNone _ u m d a b h area key hs ho hp => exact issue_done hs.issuing (ctxsaveBody_none hs ho hp d)
  | ctxsaveState _ u m d a b h area key p hs ho hp hst =>
    refine issue_done hs.issuing ((ctxsaveBody_some hs ho hp d).trans ?_)
    rw [saveOf, if_pos hst, status_of_has hs.has_cur]
  | ctxsaveArea _ u m d a b h area key p x hs ho hp hst hown hx hlt =>
    refine issue_done hs.issuing ((ctxsaveBody_some hs ho hp d).trans ?_)
    have hfit : areaFits area (u.coresFor h) = false :=
      Bool.eq_false_iff.mpr fun hf => absurd (areaFits_iff.mp hf x hx) (Nat.not_le.mpr hlt)
    simp [saveOf, hst, hown, hfit, status_of_has hs.has_cur]
  | ctxsaveKey _ u m d a b h area key p hs ho hp hst hown hfit hkey =>
    refine issue_done hs.issuing ((ctxsaveBody_some hs ho hp d).trans ?_)
    simp [saveOf, hst, hown, areaFits_iff.mpr hfit, hkey, status_of_has hs.has_cur]
  | ctxrest _ u m d a b h area key p x hs ho hp hst hx hown harea hre hxk hkey hbad hfree =>
    refine issue_done hs.issuing ((ctxrestBody_saved hs ho hp hx d).trans ?_)
    rw [restoreOf_readable hst hown harea hre hxk hkey hbad, hfree]
    exact status_of_keeps hs.has_cur (u.restorePlan_keepsGroups h x) d 0
  | ctxrestWaits _ u m d a b h area key p x y hs ho hp hst hx hown harea hy hre =>
    refine issue_blocked hs.issuing ((ctxrestBody_saved hs ho hp hx d).trans ?_)
    exact (restoreOf_mine hst hown).trans (if_pos ⟨harea.symm, List.any_eq_true.mpr ⟨y, hy, hre⟩⟩)
  | ctxrestTaken _ u m d a b h area key p x hs ho hp hst hx hown harea hre hxk hkey hbad hfree =>
    refine issue_done hs.issuing ((ctxrestBody_saved hs ho hp hx d).trans ?_)
    rw [restoreOf_readable hst hown harea hre hxk hkey hbad, hfree]
    exact status_of_has hs.has_cur d 1
  | ctxrestNone _ u m d a b h area key hs ho hp => exact issue_done hs.issuing (ctxrestBody_none hs ho hp d)
  | ctxrestState _ u m d a b h area key p hs ho hp hx => exact issue_done hs.issuing (ctxrestBody_unsaved hs ho hp hx d)
  | ctxrestBad _ u m d a b h area key p x y hs ho hp hst hx hown harea hre hy hbad =>
    refine issue_done hs.issuing ((ctxrestBody_saved hs ho hp hx d).trans ?_)
    rw [← harea] at hbad
    rw [restoreOf_mine hst hown, if_neg (not_retrains hre), if_pos (.inr (List.any_eq_true.mpr ⟨y, hy, hbad⟩)),
      status_of_has hs.has_cur]

theorem TrapStep.exec_eq {i : Instr} {s t : State} (h : TrapStep i s t) : exec i s = .next t := by
  cases h with
  | tlbsync _ gid hw htlb hout =>
    exact congrArg (fun r : Option State => (.next (r.getD s) : Out)) ((if_pos hw).trans (tryShootdown_done htlb hout _))
  | doubleFault _ gid hd =>
    exact congrArg (fun r : Option State => (.next (r.getD s) : Out)) (if_pos (List.contains_iff_mem.mpr hd))
  | ended _ gid t returns hd ht he hdrain =>
    exact congrArg (fun r : Option State => (.next (r.getD s) : Out)) (tryTrapEntry_ended hd ht he hdrain)

end

end Sys2Proof.Rules

namespace Sys2Proof.Proofs

open Sys2Proof.Machine Sys2Proof.Rules

/-- Settles O56: each rule is what the instruction's body answers behind its gates, and each step what the machine tries. -/
theorem systemInstructions : Obligations.SystemInstructions := ⟨fun _ _ _ h => h.exec_eq, fun _ _ _ h => h.exec_eq⟩

end Sys2Proof.Proofs

/-!
The steps of memory: a `pportq` of which no result is awaited.
-/

namespace Sys2Proof.Rules

open Sys2Proof.Machine

/-- A `pportq` that has not taken its place, outstanding as an instruction without a result; `issue` makes none such. -/
def resultlessQuery : Pending := { pc := 0, todo := [.portQuery 0 0] }

/-- A group with that query outstanding, on a module with no port. -/
def resultlessState : State := { groups := [(0, { out := [resultlessQuery] })] }

theorem nextAccess_resultlessQuery : NextAccess resultlessState 0 [] [] resultlessQuery (.portQuery 0 0) [] where
  out := rfl
  todo := rfl
  older := fun _ h => nomatch h
  asked := rfl
  ordinary := rfl
  hint := rfl
  place := rfl

/-- What `queryNone` makes of it: the query stays outstanding, with the zero it is to write. -/
def resultlessAnswered : State :=
  withOut resultlessState 0 [afterAccess { resultlessQuery with writes := [scalarResult 0 0] } []]

theorem memoryStep_resultlessQuery : MemoryStep (.loadResultReturn 0 0 0) resultlessState resultlessAnswered :=
  .queryNone _ _ _ _ _ _ [] [] _ [] nextAccess_resultlessQuery fun _ h => nomatch h

theorem out_resultlessAnswered : (resultlessAnswered.group 0).out.length = 1 := rfl

/-- The machine drops an instruction without a result when its last access is performed. -/
theorem exec_resultlessQuery : ∃ t, exec (.loadResultReturn 0 0 0) resultlessState = .next t ∧ (t.group 0).out = [] := ⟨_, rfl, rfl⟩

end Sys2Proof.Rules

namespace Sys2Proof.Proofs

open Sys2Proof.Machine Sys2Proof.Rules

/-- Refutes O31: its clauses `query` and `queryNone` keep the instruction until its register is written, whether or not it has a
result; the model drops one without a result at its last access. The clauses for loads have the missing condition
(`p.result = true`). -/
theorem not_memorySteps : ¬ Obligations.MemorySteps := by
  unfold Obligations.MemorySteps
  intro h
  obtain ⟨t, ht, hout⟩ := exec_resultlessQuery
  rw [h _ _ _ memoryStep_resultlessQuery] at ht
  cases ht
  exact absurd (out_resultlessAnswered.symm.trans (congrArg List.length hout)) (by decide)

end Sys2Proof.Proofs

/-!
Reading after writing under one key (R160, R362).
-/

namespace Sys2Proof.Machine

/-! Key tags after a write. -/

/-- Tagging a run of bytes one after another: the bytes of the run carry the tag. -/
theorem getD_foldl_putD (m : Map Nat) (a tag n i : Nat) (hi : i < n) :
    Map.getD ((List.range n).foldl (fun u j => Map.putD 0 (a + j) tag u) m) (a + i) 0 = tag := by
  induction n with
  | zero => omega
  | succ n ih =>
    rw [List.range_succ, List.foldl_append, List.foldl_cons, List.foldl_nil, Map.getD_putD]
    split
    · rfl
    · exact ih (by omega)

/-- Every byte that a write covers carries the write's tag. -/
theorem getD_retag (m : Map Nat) (a n tag i : Nat) (hi : i < n) : Map.getD (retag m a n tag) (a + i) 0 = tag :=
  getD_foldl_putD _ a tag n i hi

theorem State.writeTagged_byteKey (s : State) (a : Nat) (bs : List Byte) (tag : Nat) :
    (s.writeTagged a bs tag).byteKey = retag s.byteKey a bs.length tag := by
  unfold State.writeTagged State.examine; split <;> rfl

/-! The bytes that a write leaves, read under its tag. -/

/-- Under the tag that a byte carries, and which is no mixture of two keys, it is read as it stands. -/
theorem State.readTagged_same {s : State} {a tag : Nat} (ht : tag < 2 ^ 514) (h : Map.getD s.byteKey a 0 = tag) :
    s.readTagged a tag = s.byte a := by
  simp only [State.readTagged]
  rw [if_pos ⟨ht, .inl h⟩]

theorem State.readTagged_writeTagged (s : State) (a i : Nat) (bs : List Byte) {tag : Nat} (ht : tag < 2 ^ 514)
    (hi : i < bs.length) : (s.writeTagged a bs tag).readTagged (a + i) tag = bs.getD i 0 := by
  rw [State.readTagged_same ht (by rw [State.writeTagged_byteKey]; exact getD_retag _ _ _ _ _ hi), byte_writeTagged,
    if_pos ⟨by omega, by omega⟩, Nat.add_sub_cancel_left]

theorem State.range_readTagged_writeTagged (s : State) (a : Nat) (bs : List Byte) {tag : Nat} (ht : tag < 2 ^ 514) :
    (List.range bs.length).map (fun i => (s.writeTagged a bs tag).readTagged (a + i) tag) = bs := by
  refine List.ext_getElem (by simp) fun i h _ => ?_
  have hi : i < bs.length := by simpa using h
  simp [s.readTagged_writeTagged a i bs ht hi, hi]

/-! Writes leave keys and edges alone. -/

theorem State.keyTag_writeTagged (s : State) (a table id tag : Nat) (bs : List Byte) :
    (s.writeTagged a bs tag).keyTag table id = s.keyTag table id := by
  unfold State.keyTag; rw [State.writeTagged_keys]

theorem State.tagAt_writeTagged (s : State) (a b id tag : Nat) (bs : List Byte) :
    (s.writeTagged a bs tag).tagAt b id = s.tagAt b id := by
  simp only [State.tagAt, State.keyTag_writeTagged]

theorem State.edgeDenied_writeTagged (s : State) (who : Asker) (key a b tag : Nat) (bs : List Byte) :
    (s.writeTagged a bs tag).edgeDenied who key b = s.edgeDenied who key b := by
  simp only [State.edgeDenied, State.pavOwns, State.switch, State.hasKey, State.writeTagged_switches, State.writeTagged_keys]

/-! Tags of the keys of the edges. -/

/-- A key of 64 bytes gives a tag below those of mixtures, and no key gives none. -/
theorem State.keyTag_lt {s : State} {table id : Nat} (h : ∀ k, s.keys.get? (table * 8192 + id) = some k → k.length = 64) :
    s.keyTag table id < 2 ^ 514 := by
  unfold State.keyTag
  split
  · next k hk =>
    calc leNat k + 1 ≤ 256 ^ 64 := h k hk ▸ leNat_lt k
      _ = 2 ^ (8 * 64) := (Nat.pow_mul 2 8 64).symm
      _ < 2 ^ 514 := Nat.pow_lt_pow_right (Nat.lt_succ_self 1) (Nat.lt_add_of_pos_right Nat.two_pos)
  · exact Nat.two_pow_pos 514

/-- Where the module's own table has the home's key, an access behind an encrypting edge carries the home's tag. -/
theorem State.tagAt_eq {s : State} {a id : Nat} (ho : keyTable a = 63 ∨ s.keyTag 63 id = s.keyTag (keyTable a) id) :
    s.tagAt a id = if keyed a then s.keyTag (keyTable a) id else 0 := by
  cases hk : keyed a <;> simp only [State.tagAt, hk, if_pos ho] <;> rfl

theorem State.tagAt_lt {s : State} {a id : Nat} (ho : keyTable a = 63 ∨ s.keyTag 63 id = s.keyTag (keyTable a) id)
    (h : ∀ k, s.keys.get? (keyTable a * 8192 + id) = some k → k.length = 64) : s.tagAt a id < 2 ^ 514 := by
  rw [State.tagAt_eq ho]
  split
  · exact State.keyTag_lt h
  · exact Nat.two_pow_pos 514

/-! Pieces. -/

/-- A piece that an edge lets pass to a place outside host memory is written under the key's tag. -/
theorem State.writePiece_eq {s : State} {who : Asker} {key a : Nat} (bs : List Byte) (he : s.edgeDenied who key a = false)
    (hh : isHost a = false) : s.writePiece who key a bs = s.writeTagged a bs (s.tagAt a key) := by
  simp [State.writePiece, he, hh]

theorem State.readPiece_eq {s : State} {who : Asker} {key a n : Nat} (he : s.edgeDenied who key a = false)
    (hh : isHost a = false) :
    s.readPiece who key a n = (List.range n).map fun i => s.readTagged (a + i) (s.tagAt a key) := by
  simp [State.readPiece, he, hh]

end Sys2Proof.Machine

namespace Sys2Proof.Proofs

open Sys2Proof.Machine

/-- Settles O33: the bytes carry the tag of the key they are written under, which is the tag they are read under. -/
theorem readAfterWrite : Obligations.ReadAfterWrite := by
  intro s who key a bs hh he ho hk
  rw [State.writePiece_eq bs he hh, State.readPiece_eq ((s.edgeDenied_writeTagged ..).trans he) hh, State.tagAt_writeTagged]
  exact s.range_readTagged_writeTagged a bs (State.tagAt_lt ho hk)

end Sys2Proof.Proofs


/-!
A store to memory of the module, performed (R159, R160).
-/

namespace Sys2Proof.Rules

open Sys2Proof.Machine

/-! The next access of a group (R159). -/

theorem flatMap_zipIdx_nil {pre : List Pending} (h : ∀ q ∈ pre, q.todo = []) (n : Nat) :
    ((pre.zipIdx n).flatMap fun p => p.1.todo.zipIdx.map fun a => (p.2, a.2, a.1)) = [] := by
  refine List.flatMap_eq_nil_iff.mpr fun p hp => ?_
  rw [h p.1 (List.fst_mem_of_mem_zipIdx hp)]; rfl

variable {s : State} {gid : Nat} {pre post : List Pending} {p : Pending} {a : Access} {more : List Access}

namespace NextAccess

/-- The access is the first of those that the group has outstanding. -/
theorem accesses_eq (h : NextAccess s gid pre post p a more) : ∃ rest, (s.group gid).accesses = (pre.length, 0, a) :: rest := by
  rw [Group.accesses, h.out, List.zipIdx_append, List.flatMap_append, flatMap_zipIdx_nil (fun q hq => (h.older q hq).1),
    List.zipIdx_cons, List.flatMap_cons, h.todo]
  simp

/-- No instruction up to that of the access awaits another module's answer (R261). -/
theorem ahead_gt (h : NextAccess s gid pre post p a more) : pre.length < (s.group gid).ahead := by
  have hpre : pre.findIdx? (fun q => q.remote.isSome) = none :=
    List.findIdx?_eq_none_iff.mpr fun q hq => by rw [(h.older q hq).2]; rfl
  rw [Group.ahead, h.out, List.findIdx?_append, hpre, List.findIdx?_cons, h.asked]
  cases hpost : post.findIdx? fun q => q.remote.isSome with
  | none => simp
  | some i => simp

/-- It is the next in the group's program order, unless it is one of `hflush` or `hinval`, which wait for earlier accesses. -/
theorem nextAccess_eq (h : NextAccess s gid pre post p a more) (ha : a.isHost = false) :
    (s.group gid).nextAccess = some (pre.length, 0, a) := by
  obtain ⟨rest, hrest⟩ := h.accesses_eq
  have hahead := h.ahead_gt
  simp only [Group.nextAccess, hrest, List.dropWhile_cons, h.ordinary, ha, Bool.false_eq_true, if_false, Bool.false_and,
    if_neg (Nat.not_le.mpr hahead)]

/-- A step that may perform it does. -/
theorem tryPerform_eq (h : NextAccess s gid pre post p a more) (ha : a.isHost = false) {ok : Access → Bool} (hok : ok a = true) :
    s.tryPerform gid ok = some (s.performAt gid (pre.length, 0, a)) := by
  have hmay : (ok a && s.canPlace gid a) = true := by rw [hok, h.place]; rfl
  simp [State.tryPerform, h.hint, h.nextAccess_eq ha, Option.filter, hmay]

end NextAccess

end Sys2Proof.Rules

namespace Sys2Proof.Machine

/-! What follows an access leaves memory as the access has left it. -/

@[simp] theorem State.land_mem (s : State) (f : Flight) (x : Nat) : (s.land f x).mem = s.mem := by
  unfold State.land State.response
  repeat' split
  all_goals rfl

@[simp] theorem State.landAccess_mem (s : State) (gid : Nat) (a : Access) (u : State) : (s.landAccess gid a u).mem = u.mem := by
  unfold State.landAccess
  exact List.foldlRecOn (motive := fun v : State => v.mem = u.mem) _ _ rfl fun v hv x _ => (v.land_mem _ x).trans hv

theorem State.performAt_mem {s : State} {gid i : Nat} {j : Nat} {a : Access} {p : Pending} (h : (s.group gid).out[i]? = some p) :
    (s.performAt gid (i, j, a)).mem = (performAccess gid (s.askerAt gid) s { p with todo := dropAt p.todo j } a).1.mem := by
  simp only [State.performAt, h, State.setGroup_mem]
  split
  · rfl
  · exact State.landAccess_mem ..

/-- A store to a place whose owner is not lost writes its piece. -/
theorem performAccess_store {s : State} {q : Piece} (h : s.addrLost q.addr = false) (gid : Nat) (who : Asker) (p : Pending)
    (bs : List Byte) : performAccess gid who s p (.store q bs) = (s.writePiece who q.key q.addr bs, p) := by
  simp [performAccess, State.placesOf, h]

end Sys2Proof.Machine

namespace Sys2Proof.Proofs

open Sys2Proof.Machine Sys2Proof.Rules

/-- Settles O32: the store is the access that its step performs, and what follows its writing leaves memory alone. -/
theorem storesWriteTheirBytes : Obligations.StoresWriteTheirBytes := by
  intro s gid pre post p q bs h hl hh he
  refine ⟨s.performAt gid (pre.length, 0, .store q bs), congrArg (event s) (h.tryPerform_eq rfl rfl), fun a => ?_⟩
  have hout : (s.group gid).out[pre.length]? = some p := by rw [h.out]; simp
  rw [State.byte, State.performAt_mem hout, performAccess_store hl, State.writePiece_eq bs he hh]
  exact byte_writeTagged ..

end Sys2Proof.Proofs

/-!
What the functions of the machine do to memory (R160): most leave it as it was, and the others keep its canonical form (log 2).
-/

namespace Sys2Proof.Machine

/-- P holds of the memory of the state that may be there, if it is. -/
def MemOfSome (P : List Host.Cell → Prop) (o : Option State) : Prop := ∀ u, o = some u → P u.mem

/-- P holds of the memory of the next state, if there is one. -/
def MemOfNext (P : List Host.Cell → Prop) (o : Out) : Prop := ∀ u, o = .next u → P u.mem

/-- The state that a body's effect carries. -/
def Eff.state : Eff → State
  | .ok s | .goto s _ | .fault s _ | .wait s _ | .gone s | .resume s _ _ _ => s

section

variable {P : List Host.Cell → Prop} {s t : State} {o o' : Option State} {c : Prop} [Decidable c] {α β : Type}

/-! Choices and loops. -/

@[simp] theorem State.mem_ite : (if c then s else t).mem = if c then s.mem else t.mem := apply_ite ..

@[simp] theorem State.fst_mem_ite {x y : State × α} : (if c then x else y).1.mem = if c then x.1.mem else y.1.mem :=
  apply_ite (fun z : State × α => z.1.mem) ..

@[simp] theorem Memory.wf_ite {m n : List Host.Cell} :
    Memory.wf (if c then m else n) = if c then Memory.wf m else Memory.wf n := apply_ite ..

@[simp] theorem State.foldl_mem {f : State → α → State} {l : List α} (hf : ∀ s x, (f s x).mem = s.mem) (s : State) :
    (l.foldl f s).mem = s.mem :=
  List.foldlRecOn (motive := fun t : State => t.mem = s.mem) l f rfl fun t ht x _ => (hf t x).trans ht

@[simp] theorem State.foldl_wf {f : State → α → State} {l : List α}
    (hf : ∀ s x, Memory.wf s.mem = true → Memory.wf (f s x).mem = true) (h : Memory.wf s.mem = true) :
    Memory.wf (l.foldl f s).mem = true :=
  List.foldlRecOn (motive := fun t : State => Memory.wf t.mem = true) l f h fun t ht x _ => hf t x ht

theorem State.foldl_write_wf (f : α → Nat) (g : α → List Byte) (l : List α) (h : Memory.wf s.mem = true) :
    Memory.wf (l.foldl (fun st x => st.write (f x) (g x)) s).mem = true :=
  State.foldl_wf (fun _ _ hst => write_wf hst _ _) h

theorem State.foldl_fst_wf {f : State × β → α → State × β} {l : List α} {b : State × β}
    (hf : ∀ b x, Memory.wf b.1.mem = true → Memory.wf (f b x).1.mem = true) (h : Memory.wf b.1.mem = true) :
    Memory.wf (l.foldl f b).1.mem = true :=
  List.foldlRecOn (motive := fun b : State × β => Memory.wf b.1.mem = true) l f h fun b hb x _ => hf b x hb

@[simp] theorem Memory.wf_memWrite {m : List Host.Cell} (h : Memory.wf m = true) (a : Nat) (bs : List Byte) :
    Memory.wf (memWrite m a bs) = true := memWrite_wf h a bs

@[simp] theorem Memory.wf_filter {m : List Host.Cell} (h : Memory.wf m = true) (p : Host.Cell → Bool) :
    Memory.wf (m.filter p) = true := filter_wf h p

theorem State.mem_update (f : State → State) (hf : ∀ u, (f u).mem = u.mem) (h : P s.mem) : P (f s).mem := (hf s).symm ▸ h

theorem State.wf_of_mem (ht : t.mem = s.mem) (h : Memory.wf s.mem = true) : Memory.wf t.mem = true := ht ▸ h

theorem State.mem_of_fst {x : State × α} {a : α} (hx : x.1.mem = s.mem) (h : x = (t, a)) : t.mem = s.mem := by
  subst h; exact hx

/-! A state that may be there. -/

@[simp] theorem memOfSome_none : MemOfSome P none := fun _ h => nomatch h

@[simp] theorem memOfSome_some : MemOfSome P (some s) ↔ P s.mem :=
  ⟨fun h => h s rfl, fun h _ hu => Option.some.inj hu ▸ h⟩

@[simp] theorem memOfSome_ite : MemOfSome P (if c then o else o') ↔ if c then MemOfSome P o else MemOfSome P o' := by
  split <;> rfl

@[simp] theorem memOfSome_orElse (ho : MemOfSome P o) (ho' : MemOfSome P o') : MemOfSome P (o <|> o') := by
  cases o with
  | none => exact ho'
  | some u => exact ho

@[simp] theorem memOfSome_bind {x : Option α} {f : α → Option State} (hf : ∀ a, MemOfSome P (f a)) :
    MemOfSome P (x.bind f) := by
  cases x with
  | none => exact memOfSome_none
  | some a => exact hf a

theorem memOfSome_bind_state {f : State → Option State} (ho : MemOfSome P o) (hf : ∀ u, P u.mem → MemOfSome P (f u)) :
    MemOfSome P (o.bind f) := by
  cases o with
  | none => exact memOfSome_none
  | some a => exact hf a (ho a rfl)

@[simp] theorem memOfSome_map {f : State → State} (ho : MemOfSome P o) (hf : ∀ u, P u.mem → P (f u).mem) :
    MemOfSome P (o.map f) := by
  cases o with
  | none => exact memOfSome_none
  | some a => exact memOfSome_some.mpr (hf a (ho a rfl))

@[simp] theorem memOfSome_findSome? {l : List α} {f : α → Option State} (hf : ∀ a, MemOfSome P (f a)) :
    MemOfSome P (l.findSome? f) := by
  intro u hu
  obtain ⟨a, _, ha⟩ := List.exists_of_findSome?_eq_some hu
  exact hf a u ha

@[simp] theorem State.getD_mem (ho : MemOfSome (· = s.mem) o) : (o.getD s).mem = s.mem := by
  cases o with
  | none => rfl
  | some u => exact ho u rfl

theorem State.getD_wf (ho : MemOfSome (Memory.wf · = true) o) (h : Memory.wf s.mem = true) :
    Memory.wf (o.getD s).mem = true := by
  cases o with
  | none => exact h
  | some u => exact ho u rfl

/-! Effects and outcomes. -/

@[simp] theorem Eff.state_ok : (Eff.ok s).state = s := rfl
@[simp] theorem Eff.state_goto {pc : Nat} : (Eff.goto s pc).state = s := rfl
@[simp] theorem Eff.state_fault {x : TrapInfo} : (Eff.fault s x).state = s := rfl
@[simp] theorem Eff.state_wait {w : Wait} : (Eff.wait s w).state = s := rfl
@[simp] theorem Eff.state_gone : (Eff.gone s).state = s := rfl
@[simp] theorem Eff.state_resume {pc : Nat} {w : Option Wait} {m : Bool} : (Eff.resume s pc w m).state = s := rfl
@[simp] theorem illegal_state : (illegal s).state = s := rfl
@[simp] theorem privilege_state : (privilege s).state = s := rfl

@[simp] theorem Eff.state_ite {e e' : Eff} : (if c then e else e').state = if c then e.state else e'.state := apply_ite ..

@[simp] theorem memOfNext_next : MemOfNext P (.next s) ↔ P s.mem :=
  ⟨fun h => h s rfl, fun h _ hu => Host.Outcome.next.inj hu ▸ h⟩

@[simp] theorem memOfNext_fault {f : Fault} : MemOfNext P (.fault f) := fun _ h => nomatch h

end

end Sys2Proof.Machine

/-! What each function of the machine does to memory, in the order in which they call one another. -/

namespace Sys2Proof.Machine

variable {P : List Host.Cell → Prop} {s : State}

/-! What is lost, stopped or ended: waits, entries, gangs and operations. -/

@[simp] theorem State.trackWaiting_mem : (s.trackWaiting).mem = s.mem := rfl

@[simp] theorem State.loseLine_mem (gid line o : Nat) : (s.loseLine gid line o).mem = s.mem := by
  unfold State.loseLine
  dsimp only
  repeat' split
  all_goals simp

@[simp] theorem State.loseFetch_mem (task id : Nat) (stages : List Nat) (o : Nat) :
    (s.loseFetch task id stages o).mem = s.mem := rfl

@[simp] theorem State.examine_mem (a n : Nat) : (s.examine a n).mem = s.mem := by simp [State.examine]

@[simp] theorem State.objectFault_wf (obj : Option Nat) (h : Memory.wf s.mem = true) :
    Memory.wf (s.objectFault obj).mem = true := by unfold State.objectFault; split <;> simp [h]

@[simp] theorem State.countDown_wf (obj : Option Nat) (n : Nat) (h : Memory.wf s.mem = true) :
    Memory.wf (s.countDown obj n).mem = true := by unfold State.countDown; split <;> simp [h]

@[simp] theorem State.countWritten_wf (e : Entry) (h : Memory.wf s.mem = true) : Memory.wf (s.countWritten e).mem = true :=
  State.foldl_wf (fun _ _ => State.countDown_wf _ _) h

@[simp] theorem State.setHead_mem (core q : Nat) (e : Entry) : (s.setHead core q e).mem = s.mem := rfl

@[simp] theorem State.forget_mem (gone : Flight → Bool) : (s.forget gone).mem = s.mem := rfl

@[simp] theorem State.forgetEntry_mem (core q : Nat) : (s.forgetEntry core q).mem = s.mem := rfl

@[simp] theorem State.tokenFail_mem (gid task : Nat) (k : Option Nat) (f : TokenFault) :
    (s.tokenFail gid task k f).mem = s.mem := by unfold State.tokenFail; split <;> simp

@[simp] theorem State.stopEntry_wf (core q : Nat) (e : Entry) (kind off : Nat) (h : Memory.wf s.mem = true) :
    Memory.wf (s.stopEntry core q e kind off).mem = true := by
  unfold State.stopEntry
  have h1 := State.objectFault_wf e.obj (State.countWritten_wf (s := (s.forgetEntry core q).setHead core q
    { e with stopped := true, todo := [], moving := [] }) e h)
  dsimp only
  split
  · rw [State.modTask_mem]
    simp [h1]
  · rw [State.setCluster_mem]
    exact State.foldl_wf (fun _ _ => State.objectFault_wf _) (by rwa [State.tokenFail_mem])
  · rwa [State.modTask_mem]
  · rwa [State.tokenFail_mem]

@[simp] theorem State.stopMvm_mem (op : Nat) (m : Mvm) (kind off : Nat) : (s.stopMvm op m kind off).mem = s.mem := by
  simp [State.stopMvm]

theorem State.asGroup_wf {f : State → State} (hf : ∀ u, Memory.wf u.mem = true → Memory.wf (f u).mem = true) (gid : Nat)
    (h : Memory.wf s.mem = true) : Memory.wf (s.asGroup gid f).mem = true := hf _ h

@[simp] theorem State.asGroup_mem {f : State → State} (hf : ∀ u, (f u).mem = u.mem) (gid : Nat) :
    (s.asGroup gid f).mem = s.mem := hf _

@[simp] theorem State.retire_mem (m : Bool) (pc : Nat) : (s.retire m pc).mem = s.mem := rfl

@[simp] theorem State.again_mem : (s.again).mem = s.mem := rfl

@[simp] theorem State.finishWait_mem (gid : Nat) : (s.finishWait gid).mem = s.mem := by simp [State.finishWait]

@[simp] theorem State.loseAsk_mem (gid dev : Nat) : (s.loseAsk gid dev).mem = s.mem := by
  unfold State.loseAsk
  dsimp only
  repeat' split
  all_goals simp

@[simp] theorem State.endGang_mem (gid d n : Nat) : (s.endGang gid d n).mem = s.mem := by simp [State.endGang]

@[simp] theorem State.abortPlan_mem (plan : Nat) : (s.abortPlan plan).mem = s.mem := rfl

/-! Accesses as they are performed, those of control space among them. -/

@[simp] theorem State.afterRead_mem (who : Asker) (key a : Nat) : (s.afterRead who key a).mem = s.mem := by
  simp [State.afterRead]

@[simp] theorem State.writePiece_wf (who : Asker) (key a : Nat) (bs : List Byte) (h : Memory.wf s.mem = true) :
    Memory.wf (s.writePiece who key a bs).mem = true := Machine.writePiece_wf h who key a bs

@[simp] theorem State.writePieces_wf (who : Asker) (ps : List Piece) (bs : List Byte) (h : Memory.wf s.mem = true) :
    Memory.wf (s.writePieces who ps bs).mem = true :=
  State.foldl_wf (fun _ _ => State.writePiece_wf _ _ _ _) h

@[simp] theorem State.atomicAt_wf (who : Asker) (p : Pending) (op : AtomOp) (n : Nat) (ps : List Piece)
    (xs : List (Nat × Nat × Nat)) (h : Memory.wf s.mem = true) :
    Memory.wf (s.atomicAt who p op n ps xs).1.mem = true := by unfold State.atomicAt; repeat' split <;> simp [h]

@[simp] theorem State.flushLines_wf (lines : List Nat) (h : Memory.wf s.mem = true) :
    Memory.wf (s.flushLines lines).mem = true :=
  State.foldl_wf (fun st e hst => by simp [hst]) h

@[simp] theorem State.setReg_mem (die : Nat) (r : CtlReg) (v : Nat) : (s.setReg die r v).mem = s.mem := rfl

@[simp] theorem State.startUnit_mem (die : Nat) (r : CtlReg) (unit : Nat) : (s.startUnit die r unit).mem = s.mem := rfl

@[simp] theorem State.stopUnit_mem (die : Nat) (r : CtlReg) (unit : Nat) : (s.stopUnit die r unit).mem = s.mem := rfl

@[simp] theorem State.stepBegins_mem (n : Nat) : (s.stepBegins n).mem = s.mem := rfl

@[simp] theorem State.dieDown_mem (die : Nat) : (s.dieDown die).mem = s.mem := rfl

@[simp] theorem State.writeRail_mem (die v : Nat) : (s.writeRail die v).mem = s.mem := by simp [State.writeRail]

@[simp] theorem State.retireOthers_mem : (s.retireOthers).mem = s.mem := rfl

@[simp] theorem State.writeStart_mem (die : Nat) (r : CtlReg) (v done : Nat) (started : Bool) (step : Nat) :
    (s.writeStart die r v done started step).mem = s.mem := by simp [State.writeStart]

@[simp] theorem State.retireFenced_mem : s.retireFenced.mem = s.mem := by
  unfold State.retireFenced
  exact State.foldl_mem (fun _ _ => State.setUal_mem ..) s

@[simp] theorem State.ctlWrite_wf (who die : Nat) (r : CtlReg) (v : Nat) (h : Memory.wf s.mem = true) :
    Memory.wf (s.ctlWrite who die r v).mem = true := by unfold State.ctlWrite; split <;> simp [h]

@[simp] theorem State.afterCtlRead_mem (die : Nat) (r : CtlReg) : (s.afterCtlRead die r).mem = s.mem := by
  unfold State.afterCtlRead; split <;> simp

theorem State.allocateAt_mem {tenant n w : Nat} {r : State × Nat} (hr : s.allocateAt tenant n w = .ok r) :
    r.1.mem = s.mem := by
  unfold State.allocateAt at hr
  dsimp only at hr
  repeat' split at hr
  all_goals cases hr
  rfl

@[simp] theorem State.deallocate_mem (tenant w off : Nat) : (s.deallocate tenant w off).1.mem = s.mem := by
  unfold State.deallocate
  dsimp only
  repeat' split
  all_goals simp

@[simp] theorem State.pavStep_mem (tenant : Nat) (op : PavOp) : (s.pavStep tenant op).1.mem = s.mem := by
  unfold State.pavStep
  split
  · split
    · rfl
    · split
      · next hr => exact State.allocateAt_mem hr
      · rfl
  · split
    · rfl
    · exact State.deallocate_mem ..
  · rfl

@[simp] theorem performAccess_wf (gid : Nat) (who : Asker) (p : Pending) (a : Access) (h : Memory.wf s.mem = true) :
    Memory.wf (performAccess gid who s p a).1.mem = true := by
  unfold performAccess
  split
  · exact h
  split
  case h_9 =>
    split
    all_goals
      next ht =>
        rw [State.mem_of_fst (s.pavStep_mem ..) ht]
        exact h
  all_goals repeat' split
  all_goals simp [h]

@[simp] theorem State.response_mem (f : Flight) (o : Nat) : (s.response f o).mem = s.mem := by
  unfold State.response; split <;> simp

@[simp] theorem performPending_wf (gid : Nat) (who : Asker) (p : Pending) (h : Memory.wf s.mem = true) :
    Memory.wf (performPending gid who s p).1.mem = true :=
  State.foldl_fst_wf (fun x a hx => by rw [State.landAccess_mem]; exact performAccess_wf gid who x.2 a hx) h

@[simp] theorem State.performAll_wf (gid : Nat) (h : Memory.wf s.mem = true) : Memory.wf (s.performAll gid).mem = true := by
  unfold State.performAll
  rw [State.setGroup_mem]
  exact State.foldl_fst_wf (fun x p hx => performPending_wf gid _ p hx) h

@[simp] theorem State.drainGroup_wf (gid : Nat) (h : Memory.wf s.mem = true) : Memory.wf (s.drainGroup gid).mem = true := by
  simp [State.drainGroup, h]

/-! Traps and their frames. -/

@[simp] theorem State.writeFrame_wf (a n x3 : Nat) (h : Memory.wf s.mem = true) :
    Memory.wf (s.writeFrame a n x3).mem = true := by simp [State.writeFrame, h]

@[simp] theorem State.writeDwords_wf (a : Nat) (l : List Nat) (h : Memory.wf s.mem = true) :
    Memory.wf (s.writeDwords a l).mem = true := by
  induction l generalizing s a with
  | nil => exact h
  | cons x t ih => exact ih _ (State.writeFrame_wf a 8 x h)

@[simp] theorem State.cpTrap_wf (gid : Nat) (early : Option TrapInfo) (h : Memory.wf s.mem = true) :
    Memory.wf (s.cpTrap gid early).mem = true := by
  have hd := State.drainGroup_wf gid h
  unfold State.cpTrap
  generalize s.drainGroup gid = u at hd
  dsimp only
  split
  · rwa [State.setGroup_mem]
  · rw [State.setGroup_mem]
    exact State.writeDwords_wf _ _ hd

@[simp] theorem State.loadMap_mem (c d : Nat) : (s.loadMap c d).mem = s.mem := rfl

@[simp] theorem State.redirect_mem (unit a : Nat) : (s.redirect unit a).mem = s.mem := by simp [State.redirect]

@[simp] theorem State.redirectRange_mem (unit a n : Nat) : (s.redirectRange unit a n).mem = s.mem := by
  simp [State.redirectRange]

@[simp] theorem State.enterTrap_wf (gid : Nat) (early : Option TrapInfo) (h : Memory.wf s.mem = true) :
    Memory.wf (s.enterTrap gid early).mem = true := by simp [State.enterTrap, h]

@[simp] theorem State.takeTrap_wf (gid : Nat) (early : Option TrapInfo) (h : Memory.wf s.mem = true) :
    Memory.wf (s.takeTrap gid early).mem = true := by simp [State.takeTrap, h]

@[simp] theorem State.unblock_mem (gid : Nat) : (s.unblock gid).mem = s.mem := rfl

@[simp] theorem State.commitFails_wf (gid plan d kind : Nat) (h : Memory.wf s.mem = true) :
    Memory.wf (s.commitFails gid plan d kind).mem = true := by simp [State.commitFails, h]

@[simp] theorem State.refuse_wf (gid : Nat) (t : TrapInfo) (h : Memory.wf s.mem = true) :
    Memory.wf (s.refuse gid t).mem = true := by simp [State.refuse, h]

@[simp] theorem State.loseAskOf_wf (gid o : Nat) (h : Memory.wf s.mem = true) :
    Memory.wf (s.loseAskOf gid o).mem = true := by unfold State.loseAskOf; repeat' split <;> simp [h]

/-! Pipes, ports, patterns and the events of a plan. -/

@[simp] theorem State.progress_mem (plan : Nat) (n : Nat) : (s.progress plan n).mem = s.mem := rfl

@[simp] theorem State.risePort_mem (port : Nat) : (s.risePort port).mem = s.mem := by simp [State.risePort]

@[simp] theorem State.setPipe_mem (plan pipe : Nat) (p : Pipe) : (s.setPipe plan pipe p).mem = s.mem := by
  simp [State.setPipe]

@[simp] theorem State.modPort_mem (key : Nat) (f : Port → Port) : (s.modPort key f).mem = s.mem := rfl

@[simp] theorem State.takeItem_mem (task port pattern : Nat) : (s.takeItem task port pattern).1.mem = s.mem := by
  unfold State.takeItem
  dsimp only
  repeat' split
  all_goals simp

@[simp] theorem State.takeItems_mem (task pattern : Nat) (l : List Nat) :
    (State.takeItems task pattern l s).1.mem = s.mem := by
  induction l generalizing s with
  | nil => rfl
  | cons k t ih => exact ih.trans (State.takeItem_mem task k pattern)

@[simp] theorem State.newTask_mem (t : Task) : (s.newTask t).mem = s.mem := rfl

@[simp] theorem State.unhold_mem (u : State) : (s.unhold u).mem = u.mem := rfl

@[simp] theorem State.modPattern_mem (key : Nat) (f : Pattern → Pattern) : (s.modPattern key f).mem = s.mem := rfl

@[simp] theorem State.fire_mem (key : Nat) (p : Pattern) : (s.fire key p).mem = s.mem := by simp [State.fire]

@[simp] theorem State.evaluate_mem (port n : Nat) : (State.evaluate port n s).mem = s.mem := by
  induction n generalizing s with
  | zero => rfl
  | succ n ih =>
    unfold State.evaluate
    split
    · rfl
    · rw [ih]; simp

@[simp] theorem State.hold_mem (key : Nat) : (s.hold key).mem = s.mem := by unfold State.hold; split <;> simp

@[simp] theorem State.evalPort_mem (port : Nat) : (s.evalPort port).mem = s.mem := by simp [State.evalPort]

@[simp] theorem State.takeMessage_mem (key : Nat) (m : Message) : (s.takeMessage key m).mem = s.mem := by
  simp [State.takeMessage]

@[simp] theorem State.tryEventAdmit_mem (plan : Nat) (h : P s.mem) : MemOfSome P (s.tryEventAdmit plan) := by
  unfold State.tryEventAdmit; repeat' split <;> simp [h]

@[simp] theorem State.planEvent_mem (plan code detail detail2 stage : Nat) :
    (s.planEvent plan code detail detail2 stage).mem = s.mem := by
  unfold State.planEvent
  repeat' split
  · rfl
  · rfl
  · simp
  · exact State.getD_mem (State.tryEventAdmit_mem plan rfl)
  · rfl

@[simp] theorem State.refillFault_mem (plan n k kind : Nat) : (State.refillFault plan n k kind s).mem = s.mem := by
  simp [State.refillFault]

/-! Devices, switches and links that are lost; the end of a cycle. -/

@[simp] theorem State.loseRefill_mem (plan n : Nat) : (s.loseRefill plan n).mem = s.mem := by
  unfold State.loseRefill; repeat' split <;> simp

@[simp] theorem State.loseFlight_wf (o : Nat) (a : Flight) (h : Memory.wf s.mem = true) :
    Memory.wf (s.loseFlight o a).mem = true := by unfold State.loseFlight; repeat' split <;> simp [h]

@[simp] theorem State.loseAsks_mem (dev gid n : Nat) : (State.loseAsks dev gid n s).mem = s.mem := by
  induction n generalizing s with
  | zero => rfl
  | succ n ih =>
    unfold State.loseAsks
    split
    · rw [ih, State.loseAsk_mem]
    · rfl

@[simp] theorem State.loseRequests_mem (dev : Nat) : (s.loseRequests dev).mem = s.mem := by simp [State.loseRequests]

@[simp] theorem State.losePipes_wf (h : Memory.wf s.mem = true) : Memory.wf s.losePipes.mem = true :=
  State.foldl_wf (fun _ _ => State.refuse_wf _ _) h

@[simp] theorem State.performAt_wf (gid : Nat) (x : Nat × Nat × Access) (h : Memory.wf s.mem = true) :
    Memory.wf (s.performAt gid x).mem = true := by
  unfold State.performAt
  split
  · exact h
  · next p _ =>
    rw [State.setGroup_mem, State.mem_ite, State.landAccess_mem, ite_self]
    exact performAccess_wf gid _ _ _ h

@[simp] theorem State.losePavilion_wf (f : Flight) (h : Memory.wf s.mem = true) : Memory.wf (s.losePavilion f).mem = true := by
  unfold State.losePavilion
  repeat' split
  all_goals simp [h]

@[simp] theorem State.loseAccesses_mem : (s.loseAccesses).mem = s.mem := rfl

@[simp] theorem State.loseOwner_wf (o : Nat) (h : Memory.wf s.mem = true) : Memory.wf (s.loseOwner o).mem = true := by
  refine State.losePipes_wf (State.foldl_wf (fun _ _ => State.losePavilion_wf _) ?_)
  rw [State.loseAccesses_mem]
  exact State.foldl_wf (fun _ _ => State.loseFlight_wf _ _) h

@[simp] theorem State.declareDevice_wf (dev : Nat) (h : Memory.wf s.mem = true) :
    Memory.wf (s.declareDevice dev).mem = true := by simp [State.declareDevice, h]

@[simp] theorem State.judgeDevices_wf (h : Memory.wf s.mem = true) : Memory.wf s.judgeDevices.mem = true :=
  State.foldl_wf (fun _ _ => State.declareDevice_wf _) h

@[simp] theorem State.declareSwitch_wf (w : Nat) (h : Memory.wf s.mem = true) :
    Memory.wf (s.declareSwitch w).mem = true := by simp [State.declareSwitch, h]

@[simp] theorem State.owe_mem (p : Nat) : (s.owe p).mem = s.mem := rfl

@[simp] theorem State.endForward_mem (n : Nat) : (s.endForward n).mem = s.mem := by
  unfold State.endForward; split <;> simp

@[simp] theorem State.endForwards_mem (p n : Nat) : (State.endForwards p n s).mem = s.mem := by
  induction n generalizing s with
  | zero => simp [State.endForwards]
  | succ n ih =>
    unfold State.endForwards
    split
    · rw [ih, State.endForward_mem]
    · simp [State.endForwards]

@[simp] theorem State.killPort_wf (p : Nat) (h : Memory.wf s.mem = true) : Memory.wf (s.killPort p).mem = true := by
  refine State.judgeDevices_wf (State.declareSwitch_wf p ?_)
  rw [State.endForwards_mem]
  exact State.foldl_wf (fun _ _ => State.loseFlight_wf _ _) h

@[simp] theorem State.portTick_wf (p : Nat) (h : Memory.wf s.mem = true) : Memory.wf (s.portTick p).mem = true := by
  simp [State.portTick, h]

@[simp] theorem State.tick_wf (h : Memory.wf s.mem = true) : Memory.wf s.tick.mem = true := by
  unfold State.tick
  rw [State.trackWaiting_mem]
  exact State.foldl_wf (fun _ _ => State.portTick_wf _) h

@[simp] theorem State.chosen_mem (gid : Nat) (held : List Nat) : (s.chosen gid held).mem = s.mem := rfl

/-! The issue of an instruction and the effect of its body. -/

@[simp] theorem applyEff_wf (m : Bool) (e : Eff) (h : Memory.wf e.state.mem = true) : Memory.wf (applyEff m e).mem = true := by
  cases e with
  | fault s x => exact State.takeTrap_wf _ _ h
  | _ => simpa [applyEff] using h

theorem issue_wf {b : Body} (hb : ∀ u, Memory.wf u.mem = true → Memory.wf (b u).state.mem = true) (m : Bool)
    (h : Memory.wf s.mem = true) : MemOfNext (Memory.wf · = true) (issue m b s) := by
  unfold issue
  split
  · exact memOfNext_next.mpr (applyEff_wf m _ (hb s h))
  · exact memOfNext_fault

theorem issue_wf_of_mem {b : Body} (hb : ∀ u, (b u).state.mem = u.mem) (m : Bool) (h : Memory.wf s.mem = true) :
    MemOfNext (Memory.wf · = true) (issue m b s) :=
  issue_wf (fun u hu => (hb u).symm ▸ hu) m h

@[simp] theorem illegal_mem : (illegal s).state.mem = s.mem := rfl

@[simp] theorem State.afterFetch_mem (gid pc : Nat) : (s.afterFetch gid pc).mem = s.mem := by
  unfold State.afterFetch; split <;> simp

@[simp] theorem State.fetchTarget_wf (ok : Word → Bool) (h : Memory.wf s.mem = true) :
    MemOfNext (Memory.wf · = true) (s.fetchTarget ok) := by
  unfold State.fetchTarget
  dsimp only
  repeat' split
  all_goals simp [h]

/-! Shapes of the bodies of lane and group instructions. -/

@[simp] theorem laneBody_mem (regs : List Nat) (f : Group → Group) : (laneBody regs f s).state.mem = s.mem := by
  unfold laneBody
  dsimp only
  split <;> rfl

@[simp] theorem groupBody_mem (f : Group → Group) : (groupBody f s).state.mem = s.mem := rfl

@[simp] theorem lane3_mem (f : Word → Word → Word → Word) (d a b : Reg) : (lane3 f d a b s).state.mem = s.mem :=
  laneBody_mem _ _

@[simp] theorem lane1_mem (f : Word → Word) (d a : Nat) : (lane1 f d a s).state.mem = s.mem := laneBody_mem _ _

@[simp] theorem laneMask_mem (regs : List Nat) (d : Nat) (p : Group → Nat → Bool) :
    (laneMask regs d p s).state.mem = s.mem :=
  laneBody_mem _ _

@[simp] theorem lane3s_mem (f : Word → Word → Word → Word) (d a b : Reg) : (lane3s f d a b s).state.mem = s.mem :=
  laneBody_mem _ _

@[simp] theorem laneFloat_mem (regs : List Nat) (d : Nat) (f : Group → Nat → Word × Flags) :
    (laneFloat regs d f s).state.mem = s.mem := laneBody_mem _ _

@[simp] theorem laneFop_mem (ty : FType) (op : FOp) (d a b : Reg) : (laneFop ty op d a b s).state.mem = s.mem := by
  simp [laneFop]

@[simp] theorem laneFopS_mem (op : FOp) (d a b : Reg) : (laneFopS op d a b s).state.mem = s.mem := by simp [laneFopS]

@[simp] theorem laneFcmp_mem (ty : FType) (c : FCond) (d a b : Reg) : (laneFcmp ty c d a b s).state.mem = s.mem :=
  laneBody_mem _ _

@[simp] theorem State.push_mem (p : Pending) : (s.push p).state.mem = s.mem := by simp [State.push]

@[simp] theorem State.pushResult_mem (ws : List RegWrite) (ff : optParam FF { }) :
    (s.pushResult ws ff).state.mem = s.mem := by simp [State.pushResult]

@[simp] theorem laneResult_mem (regs : List Nat) (f : Group → List RegWrite × FF) :
    (laneResult regs f s).state.mem = s.mem := by simp [laneResult]

@[simp] theorem laneSpecial_mem (regs : List Nat) (d : Nat) (f : Group → Nat → Word × Flags) :
    (laneSpecial regs d f s).state.mem = s.mem := by simp [laneSpecial]

@[simp] theorem laneCvt_mem (sat sr : Bool) (d a c : Reg) : (laneCvt sat sr d a c s).state.mem = s.mem := laneBody_mem _ _

theorem coreOnly_wf {b : Body} (hb : Memory.wf (b s).state.mem = true) (h : Memory.wf s.mem = true) :
    Memory.wf (coreOnly b s).state.mem = true := by
  unfold coreOnly; split <;> assumption

@[simp] theorem coreOnly_mem {b : Body} (hb : (b s).state.mem = s.mem) : (coreOnly b s).state.mem = s.mem := by
  unfold coreOnly
  split
  · rfl
  · exact hb

@[simp] theorem tilesOnly_mem {b : Body} (hb : (b s).state.mem = s.mem) : (tilesOnly b s).state.mem = s.mem :=
  coreOnly_mem (by simp [hb])

theorem withResult_wf {b : Body} (hb : Memory.wf (b s).state.mem = true) (h : Memory.wf s.mem = true) :
    Memory.wf (withResult b s).state.mem = true := by
  unfold withResult; split <;> assumption

@[simp] theorem withResult_mem {b : Body} (hb : (b s).state.mem = s.mem) : (withResult b s).state.mem = s.mem := by
  simp [withResult, hb]

@[simp] theorem matrixGate_mem {b : Body} (hb : (b s).state.mem = s.mem) : (matrixGate b s).state.mem = s.mem := by
  unfold matrixGate; split <;> simp [hb]

@[simp] theorem laneFrom_mem (regs : List Nat) (d a : Nat) (j : Group → Nat → Nat) :
    (laneFrom regs d a j s).state.mem = s.mem := by simp [laneFrom]

@[simp] theorem lanePerm8_mem (hi : Bool) (d a b : Reg) : (lanePerm8 hi d a b s).state.mem = s.mem := by
  simp [lanePerm8]

@[simp] theorem laneCombine_mem (op : RedOp) (step : Rounding → Nat → List (Option Word) → List (Option Word) × Flags)
    (pick : Nat → Nat) (d a : Reg) :
    (laneCombine op step pick d a s).state.mem = s.mem := by simp [laneCombine]

@[simp] theorem laneReduce_mem (op : RedOp) (d a : Reg) : (laneReduce op d a s).state.mem = s.mem := by
  simp [laneReduce]

@[simp] theorem laneScan_mem (op : RedOp) (d a : Reg) : (laneScan op d a s).state.mem = s.mem := by simp [laneScan]

@[simp] theorem laneVote_mem (f : Group → (Nat → Bool) → Dword) (d a p : Reg) : (laneVote f d a p s).state.mem = s.mem :=
  laneBody_mem _ _

@[simp] theorem scalar2_mem (f : Dword → Dword → Dword) (d a b : Reg) : (scalar2 f d a b s).state.mem = s.mem := rfl

@[simp] theorem scalar1_mem (f : Dword → Dword) (d a : Reg) : (scalar1 f d a s).state.mem = s.mem := rfl

/-! Jumps, and the bodies that only a supervisor may run. -/

@[simp] theorem jumpTo_mem (link : Option Nat) (a : Nat) : (jumpTo link a s).state.mem = s.mem := by
  unfold jumpTo; split <;> simp

@[simp] theorem hostSync_mem (acc : List Nat → Access) (seg a b : Nat) : (hostSync acc seg a b s).state.mem = s.mem := by
  unfold hostSync
  dsimp only
  repeat' split
  all_goals simp

@[simp] theorem privilege_mem : (privilege s).state.mem = s.mem := rfl

theorem supervisorOnly_wf {b : Body} (hb : Memory.wf (b s).state.mem = true) (h : Memory.wf s.mem = true) :
    Memory.wf (supervisorOnly b s).state.mem = true := by
  unfold supervisorOnly; split <;> assumption

@[simp] theorem supervisorOnly_mem {b : Body} (hb : (b s).state.mem = s.mem) : (supervisorOnly b s).state.mem = s.mem := by
  simp [supervisorOnly, hb]

theorem ordered_wf {b : Body} (hb : ∀ u, Memory.wf u.mem = true → Memory.wf (b u).state.mem = true)
    (h : Memory.wf s.mem = true) :
    Memory.wf (ordered b s).state.mem = true := by
  unfold ordered
  split
  · exact hb _ (State.performAll_wf _ h)
  · exact h

theorem ordered_wf_of_mem {b : Body} (hb : ∀ u, (b u).state.mem = u.mem) (h : Memory.wf s.mem = true) :
    Memory.wf (ordered b s).state.mem = true :=
  ordered_wf (fun u hu => (hb u).symm ▸ hu) h

@[simp] theorem State.resumeWait_mem (f : Frame) (word : Nat) : (s.resumeWait f word).1.mem = s.mem := by
  unfold State.resumeWait; split <;> simp

@[simp] theorem returnToFrame_mem : (returnToFrame s).state.mem = s.mem := by
  unfold returnToFrame
  dsimp only
  split
  · rw [Eff.state_fault, State.redirectRange_mem]
  split
  · rw [illegal_state, State.redirectRange_mem]
  rw [Eff.state_resume]
  split
  · rw [State.resumeWait_mem, State.setMe_mem, State.redirectRange_mem]
  · rw [State.setMe_mem, State.redirectRange_mem]

/-! The end of a task, and the admission of what waits. -/

@[simp] theorem State.endClaims_mem (tid plan : Nat) (returns : Bool) : (s.endClaims tid plan returns).mem = s.mem := by
  unfold State.endClaims
  exact State.foldl_mem (fun _ _ => by split <;> simp) s

@[simp] theorem State.coreReturn_mem (c : Nat) : (s.coreReturn c).mem = s.mem := by
  unfold State.coreReturn
  dsimp only
  repeat' split
  all_goals simp

@[simp] theorem State.lentOver_mem (c : Nat) : (s.lentOver c).mem = s.mem := by simp [State.lentOver]

@[simp] theorem State.freeTeam_mem (tid : Nat) (t : Task) : (s.freeTeam tid t).mem = s.mem := by simp [State.freeTeam]

@[simp] theorem State.endTask_mem (tid : Nat) (returns : Bool) : (s.endTask tid returns).mem = s.mem := by
  unfold State.endTask; split <;> simp

@[simp] theorem State.openTicket_mem (gid : Nat) (d : Option Nat) : (s.openTicket gid d).1.mem = s.mem := by
  unfold State.openTicket; split <;> simp

@[simp] theorem State.sent_mem (gid : Nat) (d : Option Nat) (ticket : Nat) : (s.sent gid d ticket).mem = s.mem := by
  unfold State.sent; repeat' split <;> simp

@[simp] theorem State.admitFrom_mem (key gid : Nat) (m : Message) (d : Option Nat) :
    (s.admitFrom key gid m d).mem = s.mem := by simp [State.admitFrom]

@[simp] theorem State.tryWaiterAdmission_mem (d : Nat) (h : P s.mem) : MemOfSome P (s.tryWaiterAdmission d) := by
  unfold State.tryWaiterAdmission
  dsimp only
  repeat' split
  all_goals simp [h]

@[simp] theorem State.tryHeadRise_mem (d : Nat) (h : P s.mem) : MemOfSome P (s.tryHeadRise d) := by
  unfold State.tryHeadRise; split <;> simp [h]

@[simp] theorem State.tryEntryFree_mem (d : Nat) (h : P s.mem) : MemOfSome P (s.tryEntryFree d) := by
  unfold State.tryEntryFree; repeat' split <;> simp [h]

@[simp] theorem State.nextDue_mem (d : Nat) (h : P s.mem) : MemOfSome P (s.nextDue d) :=
  memOfSome_orElse (State.tryWaiterAdmission_mem d h)
    (memOfSome_orElse (State.tryHeadRise_mem d h) (State.tryEntryFree_mem d h))

@[simp] theorem State.settleDue_mem (d n : Nat) : (State.settleDue d n s).mem = s.mem := by
  induction n generalizing s with
  | zero => rfl
  | succ n ih =>
    unfold State.settleDue
    split
    · rfl
    · next hu => exact ih.trans (State.nextDue_mem (P := (· = s.mem)) d rfl _ hu)

@[simp] theorem State.settled_mem (d : Nat) : (s.settled d).mem = s.mem := by simp [State.settled]

@[simp] theorem State.withdraw_mem (key gid : Nat) : (s.withdraw key gid).mem = s.mem := by simp [State.withdraw]

@[simp] theorem State.interrupt_mem (gid : Nat) (h : P s.mem) : MemOfSome P (s.interrupt gid) := by
  unfold State.interrupt; split <;> simp [h]

@[simp] theorem State.stopGroup_mem (gid : Nat) : (s.stopGroup gid).mem = s.mem := by simp [State.stopGroup]

@[simp] theorem State.endSettled_wf (tid : Nat) (h : Memory.wf s.mem = true) :
    MemOfSome (Memory.wf · = true) (s.endSettled tid) := by
  unfold State.endSettled
  split
  · exact memOfSome_none
  · refine memOfSome_bind fun returns => ?_
    split
    · rw [memOfSome_some, State.endTask_mem]
      exact State.foldl_wf (fun _ _ => State.performAll_wf _) h
    · exact memOfSome_none

@[simp] theorem State.finishTask_wf (tid : Nat) (returns : Bool) (h : Memory.wf s.mem = true) :
    Memory.wf (s.finishTask tid returns).mem = true := by
  unfold State.finishTask
  split
  · exact h
  split
  · rwa [State.endTask_mem]
  next t _ _ =>
    have hs : Memory.wf (t.groups.foldl State.stopGroup
        (s.setTask tid { t with ending := some (t.ending.getD true && returns) })).mem = true := by simp [h]
    exact State.getD_wf (State.endSettled_wf tid hs) hs

@[simp] theorem tret_wf (a : Reg) (h : Memory.wf s.mem = true) : Memory.wf (tret a s).state.mem = true := by
  refine supervisorOnly_wf (coreOnly_wf (ordered_wf (fun u hu => ?_) h) h) h
  repeat' split
  all_goals simp [endMyTask, hu]

/-! Records that are read, and contexts that are saved and restored. -/

@[simp] theorem State.awaitReads_mem : (s.awaitReads).state.mem = s.mem := rfl

/-- P holds of the memory of the state that reading some bytes of a record ends in, whether or not they can be read. -/
def MemOfReading {α : Type} (P : List Host.Cell → Prop) : Reading α → Prop
  | .ok r => P r.2.mem
  | .error e => P e.2.mem

theorem readPlaces_mem (i : Nat) (who : Asker) (l : List Piece) (h : P s.mem) : MemOfReading P (readPlaces i who l s) := by
  induction l generalizing s with
  | nil => exact h
  | cons p t ih =>
    have ht := ih (s := (s.redirect who.unit p.addr).afterRead who p.key p.addr) (by simp [h])
    unfold readPlaces
    split
    · exact h
    · split
      · next hr => rw [hr] at ht; exact ht
      · next hr => rw [hr] at ht; exact ht

@[simp] theorem State.landAll_mem (f : Flight) : (s.landAll f).mem = s.mem := by simp [State.landAll]

@[simp] theorem State.shootDown_mem (gid scope ctx page : Nat) : (s.shootDown gid scope ctx page).mem = s.mem := rfl

@[simp] theorem State.status_mem (d : Reg) (n : Nat) : (s.status d n).state.mem = s.mem := by simp [State.status]

@[simp] theorem State.holdTeam_wf (tid : Nat) (h : Memory.wf s.mem = true) : Memory.wf (s.holdTeam tid).mem = true := by
  unfold State.holdTeam
  split
  · exact h
  · refine State.foldl_wf (fun st g hst => State.drainGroup_wf g ?_) h
    rwa [State.getD_mem (State.interrupt_mem g rfl)]

@[simp] theorem State.spillSector_wf (who : Asker) (key src dst : Nat) (h : Memory.wf s.mem = true) :
    Memory.wf (s.spillSector who key src dst).mem = true := by simp [State.spillSector, h]

@[simp] theorem State.spillSlot_wf (plan n k : Nat) (h : Memory.wf s.mem = true) :
    Memory.wf (s.spillSlot plan n k).mem = true := by
  unfold State.spillSlot
  dsimp only
  repeat' split
  all_goals try exact h
  · rwa [State.setPipe_mem]
  · rw [State.setPipe_mem]
    refine State.foldl_wf (fun st x hst => ?_) h
    split
    · exact State.spillSector_wf _ _ _ _ hst
    · exact hst

@[simp] theorem State.spillPlan_wf (plan : Nat) (h : Memory.wf s.mem = true) : Memory.wf (s.spillPlan plan).mem = true := by
  unfold State.spillPlan
  refine State.foldl_wf (fun st n hst => ?_) h
  split
  · split
    · exact hst
    · exact State.foldl_wf (fun _ _ => State.spillSlot_wf _ _ _) hst
  · exact hst

@[simp] theorem State.releaseCore_mem (plan c : Nat) : (State.releaseCore plan s c).mem = s.mem := by
  simp [State.releaseCore]

@[simp] theorem State.deadline_mem (gid d a n : Nat) : (s.deadline gid d a n).mem = s.mem := rfl

theorem State.foldl_holdTeam_wf (l : List Nat) (h : Memory.wf s.mem = true) : Memory.wf (l.foldl State.holdTeam s).mem = true :=
  State.foldl_wf (fun _ _ => State.holdTeam_wf _) h

theorem State.foldl_residents_wf (l : List SavedCore) (h : Memory.wf s.mem = true) :
    Memory.wf (l.foldl (fun st c => c.resident.foldl State.holdTeam st) s).mem = true :=
  State.foldl_wf (fun _ x hst => State.foldl_holdTeam_wf x.resident hst) h

@[simp] theorem State.savePlan_wf (plan area key : Nat) (cores : List Nat) (h : Memory.wf s.mem = true) :
    Memory.wf (s.savePlan plan area key cores).mem = true := by
  unfold State.savePlan
  extract_lets mine saved s1 s2 queues clusters rec' s3 s4 s5
  have h2 : Memory.wf s2.mem = true := by
    have h1 := State.foldl_residents_wf saved h
    exact State.spillPlan_wf plan h1
  clear_value s2
  have h4 : s4.mem = s2.mem := by
    refine (State.foldl_mem (fun _ _ => State.releaseCore_mem ..) _).trans ?_
    rw [State.forget_mem]
  have h5 : s5.mem = s4.mem := State.foldl_mem (fun _ _ => State.deadline_mem ..) _
  clear_value s5 s4 rec'
  rw [State.modPlan_mem, State.shootDown_mem, h5, h4]
  exact h2

@[simp] theorem State.enterContext_wf (c ctx : Nat) (h : Memory.wf s.mem = true) :
    Memory.wf (s.enterContext c ctx).mem = true := by
  unfold State.enterContext
  split
  · exact h
  · rw [State.setCore_mem]
    exact Memory.wf_filter h _

@[simp] theorem State.resumeTeam_wf (c tid : Nat) (t : Task) (h : Memory.wf s.mem = true) :
    Memory.wf (s.resumeTeam c tid t).mem = true := by
  unfold State.resumeTeam
  rw [State.examine_mem, State.setCore_mem, State.setTask_mem]
  refine Memory.wf_memWrite ?_ _ _
  rw [State.foldl_mem fun _ _ => State.setGroup_mem ..]
  exact State.enterContext_wf _ _ h

@[simp] theorem State.restoreCore_wf (plan : Nat) (x : SavedCore) (h : Memory.wf s.mem = true) :
    Memory.wf (s.restoreCore plan x).mem = true := by
  unfold State.restoreCore
  refine State.foldl_wf (fun st tid hst => ?_) h
  split
  · exact State.resumeTeam_wf _ _ _ hst
  · exact hst

@[simp] theorem State.toDieQueue_mem (d key : Nat) (ts : List Nat) : (s.toDieQueue d key ts).mem = s.mem := rfl

@[simp] theorem State.evalPattern_mem (key n : Nat) : (State.evalPattern key n s).mem = s.mem := by
  induction n generalizing s with
  | zero => rfl
  | succ n ih =>
    unfold State.evalPattern
    repeat' split
    · rfl
    · rw [ih]; simp
    · simp

@[simp] theorem State.restorePlan_wf (plan : Nat) (x : SavedPlan) (h : Memory.wf s.mem = true) :
    Memory.wf (s.restorePlan plan x).mem = true := by
  unfold State.restorePlan
  rw [State.foldl_mem fun st key => by simp]
  dsimp only
  rw [State.foldl_mem fun _ _ => State.setCluster_mem .., State.foldl_mem fun _ _ => State.toDieQueue_mem ..]
  exact State.foldl_wf (fun _ _ => State.restoreCore_wf _ _) h

@[simp] theorem State.fromHome_mem (p : Pipe) : (s.fromHome p).mem = s.mem := by
  unfold State.fromHome
  cases s.homePlace p <;> simp

theorem atHome_wf (p : Pipe) {b : Body} (hb : ∀ u, Memory.wf u.mem = true → Memory.wf (b u).state.mem = true)
    (h : Memory.wf s.mem = true) : Memory.wf (atHome p b s).state.mem = true := by
  unfold atHome
  split
  · exact hb _ (by rwa [State.fromHome_mem])
  · exact h

/-! Sends and barriers. -/

@[simp] theorem State.writeRec_wf (place : Nat) (r : Rec) (h : Memory.wf s.mem = true) :
    Memory.wf (s.writeRec place r).mem = true := by simp [State.writeRec, h]

@[simp] theorem State.preserveNow_wf (pipe d place : Nat) (p : Pipe) (h : Memory.wf s.mem = true) :
    Memory.wf (s.preserveNow pipe d place p).mem = true := by simp [State.preserveNow, h]

@[simp] theorem sendForm_wf (d : Option Nat) (a b : Reg) (h : Memory.wf s.mem = true) :
    Memory.wf (sendForm d a b s).state.mem = true := by
  refine ordered_wf_of_mem (fun u => ?_) h
  dsimp only
  repeat' split
  all_goals simp

@[simp] theorem State.arrive_wf (addr : Nat) (h : Memory.wf s.mem = true) : Memory.wf (s.arrive addr).mem = true := by
  simp [State.arrive, h]

@[simp] theorem arbor_mem (n : Nat) {f : State → ArborEntry → Eff} (hf : ∀ e, (f s e).state.mem = s.mem) :
    (arbor n f s).state.mem = s.mem :=
  coreOnly_mem (by split <;> simp [hf])

/-! Plans: reading, installing, draining and removing them. -/

theorem State.readBytes_mem (i : Nat) (who : Asker) (sg : Segment) (off n : Nat) (h : P s.mem) :
    MemOfReading P (s.readBytes i who sg off n) := by
  unfold State.readBytes
  split
  · exact h
  · split
    · exact h
    · split
      · exact readPlaces_mem i who _ h
      · exact h

@[simp] theorem State.planLoaded_mem (d : Reg) (v : Nat) : (s.planLoaded d v).state.mem = s.mem := by
  simp [State.planLoaded]

theorem State.readArray_mem (sg : Segment) (size n i off : Nat) (h : P s.mem) :
    MemOfReading P (State.readArray sg size n i off s) := by
  induction n generalizing s i off with
  | zero => exact h
  | succ n ih =>
    have h1 : MemOfReading P (s.readRecord i sg off size) := State.readBytes_mem i _ sg off size h
    unfold State.readArray
    split
    · next hr => rw [hr] at h1; exact h1
    · next hr =>
      rw [hr] at h1
      have h2 := ih (i + 1) (off + size) h1
      split
      · next hq => rw [hq] at h2; exact h2
      · next hq => rw [hq] at h2; exact h2

theorem State.readArrays_mem (sg : Segment) (off : Nat) (l : List (Nat × Nat × Nat)) (h : P s.mem) :
    MemOfReading P (State.readArrays sg off l s) := by
  induction l generalizing s with
  | nil => exact h
  | cons x t ih =>
    have h1 := State.readArray_mem (P := P) sg x.2.1 x.2.2 0 (off + x.1) h
    unfold State.readArrays
    split
    · next hr => rw [hr] at h1; exact h1
    · next hr =>
      rw [hr] at h1
      have h2 := ih h1
      split
      · next hq => rw [hq] at h2; exact h2
      · next hq => rw [hq] at h2; exact h2

theorem State.commitAdd_wf {hd : Header} {n : Nat} {u : State} (hu : s.commitAdd hd n = .ok u) (h : Memory.wf s.mem = true) :
    Memory.wf u.mem = true := by
  unfold State.commitAdd at hu
  dsimp only at hu
  repeat' split at hu
  all_goals cases hu
  all_goals simp [h]

@[simp] theorem State.rejectPlan_wf (d : Reg) (hd : Header) (k i : Nat) (h : Memory.wf s.mem = true) :
    Memory.wf (s.rejectPlan d hd k i).state.mem = true := by
  unfold State.rejectPlan
  split
  · simp [h]
  · simp [h]
  · next hu => rw [State.planLoaded_mem]; exact State.commitAdd_wf hu h

theorem State.readImages_mem (who : Asker) (i : Nat) (l : List (List Nat)) (h : P s.mem) :
    MemOfReading P (State.readImages who i l s) := by
  induction l generalizing s i with
  | nil => exact h
  | cons e t ih =>
    have h1 := State.readBytes_mem (P := P) i who planSpace (bits (e.getD 0 0) 55 0) (bits (e.getD 2 0) 31 0) h
    unfold State.readImages
    split
    · next hr => rw [hr] at h1; exact h1
    · next hr =>
      rw [hr] at h1
      have h2 := ih (i + 1) h1
      split
      · next hq => rw [hq] at h2; exact h2
      · next hq => rw [hq] at h2; exact h2

@[simp] theorem State.installPatterns_mem (next : Map Nat) (l : List (Nat × Pattern)) :
    (State.installPatterns next l s).mem = s.mem := by
  induction l generalizing s next with
  | nil => rfl
  | cons x t ih => exact ih _

@[simp] theorem State.writeImage_wf (x : List Nat × List Byte) (h : Memory.wf s.mem = true) :
    Memory.wf (s.writeImage x).mem = true := by
  unfold State.writeImage
  exact State.foldl_write_wf _ _ _ h

@[simp] theorem State.installPlan_wf (handle : Nat) (r : Record) (imgs : List (List Nat × List Byte))
    (h : Memory.wf s.mem = true) : Memory.wf (s.installPlan handle r imgs).mem = true := by
  unfold State.installPlan
  refine State.foldl_wf (fun _ _ => State.writeImage_wf _) ?_
  rw [State.installPatterns_mem]
  refine State.foldl_wf (fun _ _ hst => hst) (State.foldl_wf (fun _ _ hst => hst) ?_)
  rwa [State.setPlan_mem]

theorem State.loadPlan_wf {u : State} (d : Reg) (sg : Segment) (off : Nat) (hd : Header) (h : Memory.wf s.mem = true)
    (hu : Memory.wf u.mem = true) : Memory.wf (s.loadPlan u d sg off hd).state.mem = true := by
  have h1 := State.readArrays_mem (P := (Memory.wf · = true)) sg off hd.arrays hu
  unfold State.loadPlan
  split
  · simp [h]
  · next hr => rw [hr] at h1; exact State.rejectPlan_wf _ _ _ _ h1
  next l s1 hr =>
    rw [hr] at h1
    replace h1 : Memory.wf s1.mem = true := h1
    dsimp only
    split
    · simp [h1]
    split
    · exact h
    split
    · exact State.rejectPlan_wf _ _ _ _ h1
    have h2 := State.readImages_mem (P := (Memory.wf · = true)) (s1.recordAsker hd) 0 (arraysOf l).images h1
    split
    · simp [h]
    · next hr => rw [hr] at h2; exact State.rejectPlan_wf _ _ _ _ h2
    next imgs s2 hr =>
      rw [hr] at h2
      replace h2 : Memory.wf s2.mem = true := h2
      split
      · simp [h2]
      · next hc => rw [State.planLoaded_mem]; exact State.installPlan_wf _ _ _ (State.commitAdd_wf hc h2)

@[simp] theorem State.feedLaunch_mem (plan n : Nat) : (State.feedLaunch plan n s).mem = s.mem := by
  induction n generalizing s with
  | zero => rfl
  | succ n ih =>
    unfold State.feedLaunch
    dsimp only
    repeat' split
    · rfl
    · rw [ih]; simp
    · rfl

@[simp] theorem State.beginPlan_mem (plan : Nat) : (s.beginPlan plan).mem = s.mem := by simp [State.beginPlan]

@[simp] theorem State.placeCores_mem (plan : Nat) (l : List (Nat × Nat)) : (s.placeCores plan l).mem = s.mem := by
  unfold State.placeCores
  exact State.foldl_mem (fun _ _ => State.setCore_mem ..) s

@[simp] theorem State.closePort_wf (key : Nat) (h : Memory.wf s.mem = true) : Memory.wf (s.closePort key).mem = true := by
  unfold State.closePort
  dsimp only
  split
  · simp [h]
  · exact State.foldl_wf (fun _ _ => State.refuse_wf _ _) (by simp [h])

@[simp] theorem State.discardRecord_mem (plan tid : Nat) : (s.discardRecord plan tid).mem = s.mem := by
  unfold State.discardRecord; split <;> simp

@[simp] theorem State.entryFreed_mem (d key : Nat) (n : Nat) : (s.entryFreed d key n).mem = s.mem := by
  simp [State.entryFreed]

@[simp] theorem State.unqueue_mem (gone : Nat → Bool) : (s.unqueue gone).mem = s.mem := rfl

@[simp] theorem State.discardQueued_mem (gone : List Nat) : (s.discardQueued gone).mem = s.mem := by
  unfold State.discardQueued
  refine (State.foldl_mem (fun st d => State.foldl_mem (fun u q => ?_) st) _).trans (State.unqueue_mem _)
  split <;> simp

@[simp] theorem State.refusePreserve_wf (gid : Nat) (h : Memory.wf s.mem = true) :
    Memory.wf (s.refusePreserve gid).mem = true := by unfold State.refusePreserve; split <;> simp [h]

@[simp] theorem State.beginDrain_wf (plan : Nat) (discard : Bool) (h : Memory.wf s.mem = true) :
    Memory.wf (s.beginDrain plan discard).mem = true := by
  unfold State.beginDrain
  split
  · exact h
  next p _ =>
    extract_lets s1 s2 gone s3 s4
    have h1 : Memory.wf s1.mem = true := State.foldl_wf (fun _ _ => State.closePort_wf _) (by rwa [State.modPlan_mem])
    have h2 : s2.mem = s1.mem := by
      dsimp only [s2]
      split <;> rfl
    have h3 : s3.mem = s2.mem := (State.foldl_mem (fun _ _ => State.discardRecord_mem ..) _).trans (State.discardQueued_mem _)
    have h4 : s4.mem = s3.mem := State.foldl_mem (fun _ _ => State.setCore_mem ..) _
    have h4' : Memory.wf s4.mem = true := by rwa [h4, h3, h2]
    clear_value s4
    split
    · exact h4'
    · exact State.foldl_wf (fun _ _ => State.refusePreserve_wf _) h4'

@[simp] theorem State.discardDrain_wf (plan : Nat) (h : Memory.wf s.mem = true) :
    Memory.wf (s.discardDrain plan).mem = true := by
  unfold State.discardDrain
  exact State.foldl_wf (fun st t hst => by rw [State.modPlan_mem]; exact State.finishTask_wf _ _ hst)
    (State.beginDrain_wf plan true h)

@[simp] theorem State.discardTicket_mem (m : Message) : (s.discardTicket m).mem = s.mem := by
  unfold State.discardTicket; split <;> simp

@[simp] theorem State.uninstallPort_wf (key : Nat) (h : Memory.wf s.mem = true) :
    Memory.wf (s.uninstallPort key).mem = true := by
  unfold State.uninstallPort
  dsimp only
  repeat' split
  all_goals simp [h]

@[simp] theorem State.removePlan_wf (plan : Nat) (h : Memory.wf s.mem = true) : Memory.wf (s.removePlan plan).mem = true := by
  unfold State.removePlan
  split
  · exact h
  · rw [State.shootDown_mem]
    refine State.foldl_wf (fun _ _ => State.uninstallPort_wf _) ?_
    dsimp only
    rw [State.foldl_mem (fun _ _ => State.releaseCore_mem ..)]
    dsimp only
    rwa [State.unqueue_mem]

@[simp] theorem planGo_wf (d a b : Reg) (h : Memory.wf s.mem = true) : Memory.wf (planGo d a b s).state.mem = true := by
  refine supervisorOnly_wf (withResult_wf (ordered_wf (fun u hu => ?_) h) h) h
  dsimp only
  repeat' split
  all_goals simp [hu]

@[simp] theorem State.overflow_mem (c : Nat) (h : P s.mem) : MemOfSome P (s.overflow c) := by
  unfold State.overflow
  dsimp only
  repeat' split
  all_goals simp [h]

@[simp] theorem State.spawnInto_mem (plan x : Nat) (d : StageDesc) (m : Message) (h : P s.mem) :
    MemOfSome P (s.spawnInto plan x d m) := by
  unfold State.spawnInto
  dsimp only
  split
  · refine memOfSome_map ?_ fun u hu => by simp [hu]
    split
    · exact memOfSome_some.mpr h
    · exact State.overflow_mem _ h
  · split <;> simp [h]

@[simp] theorem State.pushPavilion_mem (op : PavOp) : (s.pushPavilion op).state.mem = s.mem := by
  simp [State.pushPavilion]

@[simp] theorem resultIn_mem (d : Reg) (n : Nat) : (resultIn s d n).state.mem = s.mem := by simp [resultIn]

/-! Bodies with a literal. -/

@[simp] theorem vaddiLit_mem (d a : Reg) (i : ℤ) : (vaddiLit d a i s).state.mem = s.mem := by simp [vaddiLit]

@[simp] theorem vmoviLit_mem (d : Reg) (i : Int) : (vmoviLit d i s).state.mem = s.mem := laneBody_mem _ _

@[simp] theorem vandiLit_mem (d a : Reg) (i : ℤ) : (vandiLit d a i s).state.mem = s.mem := by simp [vandiLit]

@[simp] theorem voriLit_mem (d a : Reg) (i : ℤ) : (voriLit d a i s).state.mem = s.mem := by simp [voriLit]

@[simp] theorem vxoriLit_mem (d a : Reg) (i : ℤ) : (vxoriLit d a i s).state.mem = s.mem := by simp [vxoriLit]

@[simp] theorem vmuliLit_mem (d a : Reg) (i : ℤ) : (vmuliLit d a i s).state.mem = s.mem := by simp [vmuliLit]

@[simp] theorem scalarImm_mem (f : Dword → Dword → Dword) (d a : Nat) (i : ℤ) : (scalarImm f d a i s).state.mem = s.mem :=
  rfl

@[simp] theorem saddiLit_mem (d a : Reg) (i : ℤ) : (saddiLit d a i s).state.mem = s.mem := rfl

@[simp] theorem sandiLit_mem (d a : Reg) (i : ℤ) : (sandiLit d a i s).state.mem = s.mem := rfl

@[simp] theorem soriLit_mem (d a : Reg) (i : ℤ) : (soriLit d a i s).state.mem = s.mem := rfl

@[simp] theorem sxoriLit_mem (d a : Reg) (i : ℤ) : (sxoriLit d a i s).state.mem = s.mem := rfl

@[simp] theorem smoviLit_mem (d : Reg) (i : ℤ) : (smoviLit d i s).state.mem = s.mem := rfl

@[simp] theorem State.enter_mem (core q : Nat) (e : Entry) : (s.enter core q e).mem = s.mem := rfl

@[simp] theorem laneLoad_mem (n : Nat) (signed : Bool) (d a seg : Nat) (e : Int) :
    (laneLoad n signed d a seg e s).state.mem = s.mem := by
  refine coreOnly_mem ?_
  dsimp only
  repeat' split
  all_goals simp

@[simp] theorem vldLit_mem (d a : Reg) (g : BitVec 3) (z : Size) (i : Int) : (vldLit d a g z i s).state.mem = s.mem :=
  laneLoad_mem ..

@[simp] theorem vldsLit_mem (d a : Reg) (g : BitVec 3) (z : Size) (i : Int) : (vldsLit d a g z i s).state.mem = s.mem :=
  laneLoad_mem ..

@[simp] theorem laneStore_mem (n d a seg : Nat) (e : Int) : (laneStore n d a seg e s).state.mem = s.mem := by
  refine coreOnly_mem ?_
  dsimp only
  repeat' split
  all_goals simp

@[simp] theorem vstLit_mem (d a : Reg) (g : BitVec 3) (z : Size) (i : Int) : (vstLit d a g z i s).state.mem = s.mem :=
  laneStore_mem ..

@[simp] theorem laneAtomic_mem (op : AtomOp) (ret : Bool) (n d a seg : Nat) :
    (laneAtomic op ret n d a seg s).state.mem = s.mem := by
  refine coreOnly_mem ?_
  dsimp only
  repeat' split
  all_goals simp

@[simp] theorem ctlLoadAt_wf (n d seg : Nat) (sg : Segment) (off : Int) (h : Memory.wf s.mem = true) :
    Memory.wf (ctlLoadAt n d seg sg off s).state.mem = true := by
  refine ordered_wf_of_mem (fun u => ?_) h
  split <;> simp

@[simp] theorem scalarLoad_wf (n : Nat) (signed : Bool) (d a seg : Nat) (e : ℤ) (h : Memory.wf s.mem = true) :
    Memory.wf (scalarLoad n signed d a seg e s).state.mem = true := by unfold scalarLoad; repeat' split <;> simp [h]

@[simp] theorem sldLit_wf (d a : Reg) (g : BitVec 3) (z : Size) (i : Int) (h : Memory.wf s.mem = true) :
    Memory.wf (sldLit d a g z i s).state.mem = true := scalarLoad_wf _ _ _ _ _ _ h

@[simp] theorem sldsLit_wf (d a : Reg) (g : BitVec 3) (z : Size) (i : Int) (h : Memory.wf s.mem = true) :
    Memory.wf (sldsLit d a g z i s).state.mem = true := scalarLoad_wf _ _ _ _ _ _ h

@[simp] theorem ctlStoreAt_wf (n v seg : Nat) (sg : Segment) (off : Int) (h : Memory.wf s.mem = true) :
    Memory.wf (ctlStoreAt n v seg sg off s).state.mem = true := by
  refine ordered_wf_of_mem (fun u => ?_) h
  dsimp only
  repeat' split
  all_goals simp

@[simp] theorem scalarStore_wf (n d a seg : Nat) (e : ℤ) (h : Memory.wf s.mem = true) :
    Memory.wf (scalarStore n d a seg e s).state.mem = true := by unfold scalarStore; repeat' split <;> simp [h]

@[simp] theorem sstLit_wf (d a : Reg) (g : BitVec 3) (z : Size) (i : Int) (h : Memory.wf s.mem = true) :
    Memory.wf (sstLit d a g z i s).state.mem = true := scalarStore_wf _ _ _ _ _ h

@[simp] theorem scalarAtomic_mem (op : AtomOp) (n d a seg : Nat) : (scalarAtomic op n d a seg s).state.mem = s.mem := by
  unfold scalarAtomic; repeat' split <;> simp

@[simp] theorem branchOn_mem (c : Dword → Bool) (a : Reg) (o : BitVec 17) : (branchOn c a o s).state.mem = s.mem := by
  simp [branchOn]

/-! Entries of queues, and system registers. -/

theorem entering_wf (q : Nat) (k : BitVec 3) {b : Body} (hb : ∀ u, (b u).state.mem = u.mem) (h : Memory.wf s.mem = true) :
    Memory.wf (entering q k b s).state.mem = true :=
  coreOnly_wf (ordered_wf_of_mem (fun u => by split <;> simp [hb]) h) h

@[simp] theorem State.enterCounted_mem (q : Nat) (k : BitVec 3) (e : Entry) : (s.enterCounted q k e).state.mem = s.mem :=
  rfl

@[simp] theorem State.enterFetches_mem (task n : Nat) : (s.enterFetches task n).mem = s.mem := by
  induction n generalizing s with
  | zero => rfl
  | succ n ih =>
    unfold State.enterFetches
    dsimp only
    repeat' split
    all_goals try rfl
    rw [ih, State.modTask_mem, State.enter_mem]

@[simp] theorem State.enterCmd_mem (c : MatrixCmd) (latch : Option LatchIssue) : (s.enterCmd c latch).mem = s.mem := by
  simp [State.enterCmd]

@[simp] theorem denied_mem : (denied s).state.mem = s.mem := by simp [denied]

@[simp] theorem readSys_mem (n : Nat) (d : Reg) : (readSys n d s).state.mem = s.mem := by
  unfold readSys; split <;> simp

@[simp] theorem State.sysStore_mem (n v : Nat) : (s.sysStore n v).mem = s.mem := by
  unfold State.sysStore; split <;> simp

@[simp] theorem writeSys_wf (n : Nat) (a : Reg) (h : Memory.wf s.mem = true) : Memory.wf (writeSys n a s).state.mem = true := by
  have hw (r u : State) : ((fun t : State => if t.badSysWrite n (t.me.getS a.toNat).toNat then illegal t
      else Eff.ok (t.sysStore n (t.me.getS a.toNat).toNat)) u).state.mem = u.mem := by simp
  unfold writeSys
  dsimp only
  repeat' split
  all_goals try simp [h]
  exact ordered_wf_of_mem (hw s) h

@[simp] theorem State.markRep_mem (i had : Nat) : (s.markRep i had).mem = s.mem := rfl

/-! A group: its accesses and waits. -/

@[simp] theorem State.tryResume_wf (gid : Nat) (h : Memory.wf s.mem = true) :
    MemOfSome (Memory.wf · = true) (s.tryResume gid) := by
  unfold State.tryResume
  dsimp only
  repeat' split
  all_goals simp [h]

@[simp] theorem State.tryHostAccess_wf (gid n : Nat) (h : Memory.wf s.mem = true) :
    MemOfSome (Memory.wf · = true) (s.tryHostAccess gid n) := by
  unfold State.tryHostAccess
  repeat' split
  all_goals simp [h]

@[simp] theorem State.tryPerform_wf (gid : Nat) (ok : Access → Bool) (h : Memory.wf s.mem = true) :
    MemOfSome (Memory.wf · = true) (s.tryPerform gid ok) := by
  unfold State.tryPerform
  dsimp only
  split
  · exact memOfSome_none
  · exact memOfSome_some.mpr (State.performAt_wf _ _ h)

@[simp] theorem State.completeAt_mem (gid n : Nat) (p : Pending) : (s.completeAt gid n p).mem = s.mem := by
  unfold State.completeAt; split <;> simp

@[simp] theorem State.tryDeliver_mem (gid n k : Nat) (atomic : Bool) (h : P s.mem) :
    MemOfSome P (s.tryDeliver gid n k atomic) := by
  unfold State.tryDeliver
  dsimp only
  repeat' split
  all_goals simp [h]

@[simp] theorem State.tryLoadReturn_wf (gid n k : Nat) (h : Memory.wf s.mem = true) :
    MemOfSome (Memory.wf · = true) (s.tryLoadReturn gid n k) := by
  unfold State.tryLoadReturn
  split
  · next hu => exact memOfSome_some.mpr (State.tryPerform_wf gid _ h _ hu)
  · simp [h]

@[simp] theorem State.tryRetry_mem (gid : Nat) (h : P s.mem) : MemOfSome P (s.tryRetry gid) := by
  unfold State.tryRetry
  dsimp only
  repeat' split
  all_goals simp [h]

@[simp] theorem State.trySliceRedirect_mem (gid : Nat) (h : P s.mem) : MemOfSome P (s.trySliceRedirect gid) := by
  unfold State.trySliceRedirect
  split
  · exact memOfSome_none
  · next x _ => cases (s.placesOf x.2.2).find? (s.meetsStub (unitOf gid)) <;> simp [h]

@[simp] theorem State.trySliceRetire_mem (d slices heirs : Nat) (h : P s.mem) :
    MemOfSome P (s.trySliceRetire d slices heirs) := by simp [State.trySliceRetire, h]

@[simp] theorem State.trySliceStubRemove_mem (d : Nat) (h : P s.mem) : MemOfSome P (s.trySliceStubRemove d) := by
  simp [State.trySliceStubRemove, h]

@[simp] theorem State.refreshAdvance_mem : (s.refreshAdvance).mem = s.mem := rfl

theorem State.tryShootdown_mem (gid : Nat) {done : State → State} (hd : ∀ u, (done u).mem = u.mem) (h : P s.mem) :
    MemOfSome P (s.tryShootdown gid done) := by
  unfold State.tryShootdown
  dsimp only
  repeat' split
  all_goals simp [hd, h]

@[simp] theorem State.tryTlbsync_mem (gid : Nat) (h : P s.mem) : MemOfSome P (s.tryTlbsync gid) := by
  unfold State.tryTlbsync
  split
  · exact State.tryShootdown_mem gid (fun u => u.finishWait_mem gid) h
  · exact memOfSome_none

@[simp] theorem State.tryHostBelvedereWrite_wf (off len value : Nat) (h : Memory.wf s.mem = true) :
    MemOfSome (Memory.wf · = true) (s.tryHostBelvedereWrite off len value) := by simp [State.tryHostBelvedereWrite, h]

@[simp] theorem State.tryHostBelvedereRead_mem (off len : Nat) (h : P s.mem) :
    MemOfSome P (s.tryHostBelvedereRead off len) := by simp [State.tryHostBelvedereRead, h]

@[simp] theorem State.tryWoken_wf (gid : Nat) (h : Memory.wf s.mem = true) :
    MemOfSome (Memory.wf · = true) (s.tryWoken gid) := by unfold State.tryWoken; split <;> simp [h]

@[simp] theorem State.retestArbor_mem (n c : Nat) : (State.retestArbor n s c).mem = s.mem := rfl

@[simp] theorem State.releaseArbor_mem (n c : Nat) : (State.releaseArbor n s c).mem = s.mem := rfl

@[simp] theorem State.tryArborRelease_mem (plan n : Nat) (h : P s.mem) : MemOfSome P (s.tryArborRelease plan n) := by
  unfold State.tryArborRelease
  dsimp only
  repeat' split
  all_goals try exact memOfSome_none
  rw [memOfSome_some, State.foldl_mem fun _ _ => State.retestArbor_mem .., State.foldl_mem fun _ _ => State.releaseArbor_mem ..]
  exact h

/-! The entries of copy queues. -/

@[simp] theorem State.startEntry_mem (core q : Nat) (e : Entry) : (s.startEntry core q e).mem = s.mem := rfl

@[simp] theorem State.startRow_wf (core q : Nat) (e : Entry) (h : Memory.wf s.mem = true) :
    MemOfSome (Memory.wf · = true) (s.startRow core q e) := by unfold State.startRow; repeat' split <;> simp [h]

@[simp] theorem State.tryEntryStart_wf (core q : Nat) (h : Memory.wf s.mem = true) :
    MemOfSome (Memory.wf · = true) (s.tryEntryStart core q) := by
  unfold State.tryEntryStart; repeat' split <;> simp [h]

@[simp] theorem State.sideLand_mem (w : Owner) (stops : List Nat) : (s.sideLand w stops).mem = s.mem := by
  unfold State.sideLand
  exact State.foldl_mem (fun _ _ => by simp) s

theorem State.writeSide_wf {w : Owner} {e : Side} {r o : Nat} {bs : List Byte} {u : State}
    (hu : s.writeSide w e r o bs = .ok u) (h : Memory.wf s.mem = true) : Memory.wf u.mem = true := by
  unfold State.writeSide at hu
  repeat' split at hu
  all_goals cases hu
  rw [State.sideLand_mem]
  exact State.foldl_wf (fun _ _ => State.writePiece_wf _ _ _ _) h

@[simp] theorem State.writeEntry_wf (core q : Nat) (e : Entry) (i : Nat) (h : Memory.wf s.mem = true) :
    MemOfSome (Memory.wf · = true) (s.writeEntry core q e i) := by
  unfold State.writeEntry
  dsimp only
  repeat' split
  all_goals try exact memOfSome_none
  all_goals try exact memOfSome_some.mpr (State.stopEntry_wf _ _ _ _ _ h)
  · simp [h]
  all_goals rw [memOfSome_some, State.setHead_mem]; exact State.writeSide_wf (by assumption) h

theorem State.readSide_mem {w : Owner} {e : Side} {r o n : Nat} {x : State × List Byte}
    (hx : s.readSide w e r o n = .ok x) : x.1.mem = s.mem := by
  unfold State.readSide at hx
  dsimp only at hx
  repeat' split at hx
  all_goals cases hx
  simp

theorem State.stageRuns_mem {w : Owner} {l : List (Nat × Nat)} {g : Stage} {x : State × Stage}
    (hx : State.stageRuns w l s g = .ok x) : x.1.mem = s.mem := by
  induction l generalizing s g with
  | nil => cases hx; rfl
  | cons y t ih =>
    unfold State.stageRuns at hx
    split at hx
    · cases hx
    · next hy => exact (ih hx).trans (State.readSide_mem hy)

theorem State.stagePiece_mem {w : Owner} {g : Stage} {lin : Nat} {x : State × Stage}
    (hx : s.stagePiece w g lin = some (.ok x)) : x.1.mem = s.mem := by
  unfold State.stagePiece at hx
  split at hx
  · cases hx
  · exact State.stageRuns_mem (Option.some.inj hx)

@[simp] theorem State.cmdPiece_mem (t id stage lin : Nat) (h : P s.mem) : MemOfSome P (s.cmdPiece t id stage lin) := by
  unfold State.cmdPiece
  repeat' split
  all_goals try exact memOfSome_none
  · simp [h]
  · next hr => rw [memOfSome_some, State.modTask_mem, State.stagePiece_mem hr]; exact h

@[simp] theorem State.parkPiece_mem (core : Nat) (e : Entry) (lin : Nat) (bs : List Byte) (full : Bool) :
    (s.parkPiece core e lin bs full).mem = s.mem := rfl

@[simp] theorem State.readEntry_wf (core q : Nat) (e : Entry) (lin hi : Nat) (h : Memory.wf s.mem = true) :
    MemOfSome (Memory.wf · = true) (s.readEntry core q e lin hi) := by
  unfold State.readEntry
  dsimp only
  split
  · exact memOfSome_none
  split
  · simp [h]
  next hx =>
    refine memOfSome_some.mpr (State.wf_of_mem (State.readSide_mem hx) h |> State.wf_of_mem ?_)
    split
    · rfl
    · exact State.setCluster_mem ..

@[simp] theorem State.readTile_wf (core q : Nat) (e : Entry) (id lin hi : Nat) (h : Memory.wf s.mem = true) :
    MemOfSome (Memory.wf · = true) (s.readTile core q e id lin hi) := by
  unfold State.readTile
  dsimp only
  repeat' split
  · exact memOfSome_none
  · exact memOfSome_none
  · simp [h]
  · simp [h]
  · next hx => rw [memOfSome_some, State.modTask_mem, State.setHead_mem, State.readSide_mem hx]; exact h

@[simp] theorem State.tryPiece_wf (core q off : Nat) (h : Memory.wf s.mem = true) :
    MemOfSome (Memory.wf · = true) (s.tryPiece core q off) := by
  unfold State.tryPiece
  repeat' split
  all_goals simp [h]

@[simp] theorem State.refetch_mem (core : Nat) : (s.refetch core).mem = s.mem := by
  unfold State.refetch; split <;> simp

@[simp] theorem State.tokenDown_mem (gid task : Nat) (k : Option Nat) : (s.tokenDown gid task k).mem = s.mem := by
  unfold State.tokenDown; split <;> simp

@[simp] theorem State.dropHead_mem (core q : Nat) : (s.dropHead core q).mem = s.mem := rfl

@[simp] theorem State.tryEntryComplete_mem (core q : Nat) (h : P s.mem) : MemOfSome P (s.tryEntryComplete core q) := by
  unfold State.tryEntryComplete; split <;> simp [h]

@[simp] theorem State.tryFenceHead_mem (core q : Nat) (h : P s.mem) : MemOfSome P (s.tryFenceHead core q) := by
  unfold State.tryFenceHead
  dsimp only
  repeat' split
  all_goals try exact memOfSome_none
  · rw [memOfSome_some, State.refetch_mem, State.tokenDown_mem, State.foldl_mem fun _ _ => State.dropHead_mem ..,
      State.setHead_mem]
    exact h
  · rw [memOfSome_some, State.setHead_mem]
    exact h

@[simp] theorem State.sortCast_mem (core q : Nat) (e : Entry) (ch : Nat) (rs : List Nat) (h : P s.mem) :
    MemOfSome P (s.sortCast core q e ch rs) := by simp [State.sortCast, h]

@[simp] theorem State.tryCastSort_mem (core q : Nat) (h : P s.mem) : MemOfSome P (s.tryCastSort core q) := by
  unfold State.tryCastSort
  repeat' split
  all_goals try exact memOfSome_none
  rw [memOfSome_some]
  generalize ho : s.sortCast core q _ _ _ = o
  cases o with
  | none => rw [Option.getD_none, State.setHead_mem]; exact h
  | some u => exact State.sortCast_mem core q _ _ _ h u ho

@[simp] theorem State.tryCastResort_mem (core q : Nat) (h : P s.mem) : MemOfSome P (s.tryCastResort core q) := by
  unfold State.tryCastResort; repeat' split <;> simp [h]

@[simp] theorem State.consumeReady_wf (i ch rows rb fmt : Nat) (h : Memory.wf s.mem = true) :
    Memory.wf (s.consumeReady i ch rows rb fmt).mem = true := by
  unfold State.consumeReady
  dsimp only
  repeat' split
  all_goals simp [h]

@[simp] theorem State.tryCastAck_wf (core q i : Nat) (h : Memory.wf s.mem = true) :
    MemOfSome (Memory.wf · = true) (s.tryCastAck core q i) := by unfold State.tryCastAck; repeat' split <;> simp [h]

@[simp] theorem State.setParked_mem (cl n : Nat) (p : ParkedTile) : (s.setParked cl n p).mem = s.mem := rfl

@[simp] theorem State.tryDrain_wf (cl n off : Nat) (h : Memory.wf s.mem = true) :
    MemOfSome (Memory.wf · = true) (s.tryDrain cl n off) := by
  unfold State.tryDrain
  dsimp only
  repeat' split
  all_goals try exact memOfSome_none
  all_goals try simp [h]
  all_goals exact State.writeSide_wf (by assumption) h

@[simp] theorem State.tryStreamClose_mem (core q : Nat) (h : P s.mem) : MemOfSome P (s.tryStreamClose core q) := by
  unfold State.tryStreamClose; repeat' split <;> simp [h]

@[simp] theorem State.tryStreamTimeout_wf (core q : Nat) (h : Memory.wf s.mem = true) :
    MemOfSome (Memory.wf · = true) (s.tryStreamTimeout core q) := by
  unfold State.tryStreamTimeout
  dsimp only
  repeat' split
  all_goals simp [h]

/-! Refills of pipes, messages and doorbells. -/

@[simp] theorem State.tryRefillStart_mem (plan n : Nat) (h : P s.mem) : MemOfSome P (s.tryRefillStart plan n) := by
  unfold State.tryRefillStart
  repeat' split
  all_goals simp [h]

@[simp] theorem State.tryRefillComplete_mem (plan n : Nat) (h : P s.mem) : MemOfSome P (s.tryRefillComplete plan n) := by
  unfold State.tryRefillComplete
  repeat' split
  all_goals simp [h]

@[simp] theorem State.tryPreserveUnblock_wf (gid : Nat) (h : Memory.wf s.mem = true) :
    MemOfSome (Memory.wf · = true) (s.tryPreserveUnblock gid) := by
  unfold State.tryPreserveUnblock
  dsimp only
  repeat' split
  all_goals try exact memOfSome_none
  rw [memOfSome_some, State.finishWait_mem]
  exact State.asGroup_wf (fun _ => State.preserveNow_wf _ _ _ _) gid h

@[simp] theorem State.arriveSend_wf (key tenant gid : Nat) (m : Message) (d : Option Nat) (id : Nat)
    (h : Memory.wf s.mem = true) :
    Memory.wf (s.arriveSend key tenant gid m d id).mem = true := by unfold State.arriveSend; split <;> simp [h]

@[simp] theorem State.tryAdmission_wf (gid : Nat) (h : Memory.wf s.mem = true) :
    MemOfSome (Memory.wf · = true) (s.tryAdmission gid) := by unfold State.tryAdmission; split <;> simp [h]

@[simp] theorem State.giveBackMessage_mem (plan key : Nat) (m : Message) : (s.giveBackMessage plan key m).mem = s.mem := by
  unfold State.giveBackMessage; repeat' split <;> simp

@[simp] theorem State.tryReturn_mem (t : Nat) (h : P s.mem) : MemOfSome P (s.tryReturn t) := by
  unfold State.tryReturn; repeat' split <;> simp [h]

@[simp] theorem State.tryRecordEntry_mem (d : Nat) (h : P s.mem) : MemOfSome P (s.tryRecordEntry d) := by
  unfold State.tryRecordEntry; repeat' split <;> simp [h]

@[simp] theorem State.trySendwComplete_mem (gid : Nat) (h : P s.mem) : MemOfSome P (s.trySendwComplete gid) := by
  unfold State.trySendwComplete; repeat' split <;> simp [h]

@[simp] theorem State.tryDoorbell_mem (off len value : Nat) (h : P s.mem) : MemOfSome P (s.tryDoorbell off len value) := by
  unfold State.tryDoorbell
  dsimp only
  repeat' split
  all_goals simp [h]

@[simp] theorem State.tryDoorbellRead_mem (off : Nat) (h : P s.mem) : MemOfSome P (s.tryDoorbellRead off) := by
  simp [State.tryDoorbellRead, h]

@[simp] theorem State.enterPrefetches_mem (c base tid : Nat) (t : Task) : (s.enterPrefetches c base tid t).mem = s.mem := by
  unfold State.enterPrefetches
  refine State.foldl_mem (fun st x => ?_) s
  repeat' split
  all_goals simp

@[simp] theorem State.writeClaims_wf (c base : Nat) (t : Task) (h : Memory.wf s.mem = true) :
    Memory.wf (s.writeClaims c base t).mem = true := by
  unfold State.writeClaims
  refine State.foldl_wf (fun st x hst => ?_) h
  repeat' split
  · exact State.writeRec_wf _ _ hst
  · exact hst
  · exact hst

/-! Tasks: dispatch, exit, priority and load. -/

@[simp] theorem State.dispatch_wf (c tid : Nat) (t : Task) (p : Plan) (d : StageDesc) (slots : List Nat) (base : Nat)
    (h : Memory.wf s.mem = true) : Memory.wf (s.dispatch c tid t p d slots base).mem = true := by
  unfold State.dispatch
  rw [State.progress_mem, State.enterPrefetches_mem]
  refine State.writeClaims_wf _ _ _ ?_
  rw [State.setCore_mem, State.setTask_mem, State.foldl_mem fun _ _ => State.setGroup_mem ..]
  exact State.enterContext_wf _ _ h

@[simp] theorem State.tryDispatch_wf (c : Nat) (h : Memory.wf s.mem = true) :
    MemOfSome (Memory.wf · = true) (s.tryDispatch c) := by
  unfold State.tryDispatch
  dsimp only
  repeat' split
  all_goals try exact memOfSome_none
  · exact memOfSome_some.mpr (by rwa [State.setCore_mem])
  · rw [memOfSome_some, State.progress_mem]
    exact State.resumeTeam_wf _ _ _ (by rwa [State.setCore_mem])
  · exact memOfSome_some.mpr (State.dispatch_wf _ _ _ _ _ _ _ (by rwa [State.setCore_mem]))

@[simp] theorem State.ageTeam_mem (t : Task) : (s.ageTeam t).mem = s.mem := by
  unfold State.ageTeam
  exact State.foldl_mem (fun _ _ => State.setGroup_mem ..) s

@[simp] theorem State.tryTaskStart_wf (tid : Nat) (h : Memory.wf s.mem = true) :
    MemOfSome (Memory.wf · = true) (s.tryTaskStart tid) := by unfold State.tryTaskStart; repeat' split <;> simp [h]

@[simp] theorem State.closeStreams_mem (gid : Nat) : (s.closeStreams gid).mem = s.mem := rfl

@[simp] theorem State.taskExit_mem (tid : Nat) (t : Task) : (s.taskExit tid t).mem = s.mem := by simp [State.taskExit]

@[simp] theorem State.tryExitDrained_wf (gid : Nat) (h : Memory.wf s.mem = true) :
    MemOfSome (Memory.wf · = true) (s.tryExitDrained gid) := by unfold State.tryExitDrained; repeat' split <;> simp [h]

@[simp] theorem State.tryOverflow_mem (c : Nat) (h : P s.mem) : MemOfSome P (s.tryOverflow c) := by
  simp [State.tryOverflow, h]

@[simp] theorem State.tryUnderflow_mem (c : Nat) (h : P s.mem) : MemOfSome P (s.tryUnderflow c) := by
  unfold State.tryUnderflow
  dsimp only
  repeat' split
  all_goals simp [h]

@[simp] theorem State.tryRecompute_mem (d : Nat) (h : P s.mem) : MemOfSome P (s.tryRecompute d) := by
  simp [State.tryRecompute, h]

@[simp] theorem State.lend_wf (c plan x : Nat) (h : Memory.wf s.mem = true) : Memory.wf (s.lend c plan x).mem = true := by
  unfold State.lend
  rw [State.setCore_mem, State.forget_mem]
  exact State.foldl_wf (fun _ _ => State.holdTeam_wf _) h

@[simp] theorem State.trySaved_wf (d : Nat) (h : Memory.wf s.mem = true) : MemOfSome (Memory.wf · = true) (s.trySaved d) := by
  unfold State.trySaved
  split
  · exact memOfSome_none
  · intro u hu
    obtain ⟨y, _, rfl⟩ := Option.map_eq_some_iff.mp hu
    exact State.lend_wf _ _ _ h

@[simp] theorem State.returnIdle_mem (d c : Nat) : (s.returnIdle d c).mem = s.mem := by
  unfold State.returnIdle
  dsimp only
  repeat' split
  all_goals simp

@[simp] theorem State.tryPreemptTick_wf (d : Nat) (h : Memory.wf s.mem = true) :
    MemOfSome (Memory.wf · = true) (s.tryPreemptTick d) := by
  have hs : Memory.wf ((coresOf d).foldl (fun st c => st.returnIdle d c)
      (s.setDie d { s.die d with preemptedAt := s.cycle })).mem = true := by simp [h]
  unfold State.tryPreemptTick
  refine memOfSome_orElse (State.trySaved_wf d h) ?_
  dsimp only
  split
  · exact memOfSome_none
  rw [memOfSome_some]
  repeat' split
  · exact hs
  · exact hs
  · refine (fun h2 => State.getD_wf (State.trySaved_wf d h2) h2) ?_
    exact State.wf_of_mem (State.setCore_mem ..) hs

@[simp] theorem State.beginMove_mem (plan d o r n : Nat) : (s.beginMove plan d o r n).mem = s.mem := by
  unfold State.beginMove; split <;> simp

@[simp] theorem State.tryRebalance_mem (plan d : Nat) (h : P s.mem) : MemOfSome P (s.tryRebalance plan d) := by
  unfold State.tryRebalance
  dsimp only
  repeat' split
  all_goals simp [h]

@[simp] theorem State.tryMoveLoad_mem (c n : Nat) (h : P s.mem) : MemOfSome P (s.tryMoveLoad c n) := by
  unfold State.tryMoveLoad
  dsimp only
  repeat' split
  all_goals simp [h]

@[simp] theorem State.selectedDrain_wf (plan : Nat) (h : Memory.wf s.mem = true) :
    Memory.wf (s.selectedDrain plan).mem = true := by unfold State.selectedDrain; repeat' split <;> simp [h]

@[simp] theorem State.tryDeadlock_wf (plan : Nat) (h : Memory.wf s.mem = true) :
    MemOfSome (Memory.wf · = true) (s.tryDeadlock plan) := by unfold State.tryDeadlock; repeat' split <;> simp [h]

@[simp] theorem State.tryQuiescence_mem (plan : Nat) (h : P s.mem) : MemOfSome P (s.tryQuiescence plan) := by
  unfold State.tryQuiescence; split <;> simp [h]

/-! Gangs, and the links between devices. -/

theorem State.withCommit_wf (f : Flight) (plan : Nat) (p : Plan) {bad : State → Nat → Option State}
    {act : State → Nat × Nat × Nat → Option State}
    (hb : ∀ u k, Memory.wf u.mem = true → MemOfSome (Memory.wf · = true) (bad u k))
    (ha : ∀ u x, Memory.wf u.mem = true → MemOfSome (Memory.wf · = true) (act u x)) (h : Memory.wf s.mem = true) :
    MemOfSome (Memory.wf · = true) (s.withCommit f plan p bad act) := by
  unfold State.withCommit
  repeat' split
  · exact memOfSome_none
  · exact hb _ _ (by rwa [State.landAll_mem])
  · exact ha _ _ (by rwa [State.land_mem])

@[simp] theorem State.commitSeen_wf (gid plan d : Nat) (p : Plan) (h : Memory.wf s.mem = true) :
    MemOfSome (Memory.wf · = true) (s.commitSeen gid plan d p) := by
  intro u hu
  obtain ⟨l, _, rfl⟩ := Option.map_eq_some_iff.mp hu
  dsimp only
  split <;> simp [h]

@[simp] theorem State.commitCas_wf (plan : Nat) (x2 : Nat × Nat × Nat) (state : Nat) (h : Memory.wf s.mem = true) :
    Memory.wf (s.commitCas plan x2 state).mem = true := by simp [State.commitCas, h]

@[simp] theorem State.tryGangObserve_wf (gid : Nat) (h : Memory.wf s.mem = true) :
    MemOfSome (Memory.wf · = true) (s.tryGangObserve gid) := by
  unfold State.tryGangObserve
  split
  case h_2 => exact memOfSome_none
  split
  · exact memOfSome_none
  refine State.withCommit_wf _ _ _ (fun u k hu => by simp [hu]) (fun u x hu => ?_) h
  dsimp only
  repeat' split
  all_goals simp [hu]

@[simp] theorem State.tryGangTimeout_wf (gid : Nat) (h : Memory.wf s.mem = true) :
    MemOfSome (Memory.wf · = true) (s.tryGangTimeout gid) := by
  unfold State.tryGangTimeout
  split
  case h_2 => exact memOfSome_none
  split
  · exact memOfSome_none
  split
  · exact memOfSome_none
  exact State.withCommit_wf _ _ _ (fun _ _ _ => memOfSome_none) (fun u x hu => by split <;> simp [hu]) h

@[simp] theorem State.serveRequest_mem (p fwd : Nat) : (s.serveRequest p fwd).mem = s.mem := by
  simp [State.serveRequest]

@[simp] theorem State.forwardAnswered_mem (p : Nat) : (s.forwardAnswered p).mem = s.mem := by
  unfold State.forwardAnswered; split <;> simp

@[simp] theorem State.takeFlit_mem (p c fwd : Nat) : (s.takeFlit p c fwd).mem = s.mem := by
  unfold State.takeFlit; split <;> simp

@[simp] theorem State.takeNak_wf (p ack : Nat) (h : Memory.wf s.mem = true) : Memory.wf (s.takeNak p ack).mem = true := by
  unfold State.takeNak
  dsimp only
  repeat' split
  all_goals simp [h]

@[simp] theorem State.tryFlit_wf (p flit fwd : Nat) (h : Memory.wf s.mem = true) :
    MemOfSome (Memory.wf · = true) (s.tryFlit p flit fwd) := by simp [State.tryFlit, h]

@[simp] theorem State.tryIdleFlit_mem (p : Nat) (h : P s.mem) : MemOfSome P (s.tryIdleFlit p) := by
  simp [State.tryIdleFlit, h]

@[simp] theorem State.tryRetrainDone_mem (p : Nat) (h : P s.mem) : MemOfSome P (s.tryRetrainDone p) := by
  unfold State.tryRetrainDone
  dsimp only
  repeat' split
  all_goals simp [h]

@[simp] theorem State.tryRetrainExpiry_wf (p : Nat) (h : Memory.wf s.mem = true) :
    MemOfSome (Memory.wf · = true) (s.tryRetrainExpiry p) := by unfold State.tryRetrainExpiry; split <;> simp [h]

@[simp] theorem State.tryDecay_mem (p : Nat) (h : P s.mem) : MemOfSome P (s.tryDecay p) := by simp [State.tryDecay, h]

@[simp] theorem State.serveStalled_mem (p : Nat) (l : List Nat) : (State.serveStalled p l s).mem = s.mem := by
  induction l generalizing s with
  | nil => rfl
  | cons f t ih =>
    unfold State.serveStalled
    split
    · rw [ih, State.serveRequest_mem]
    · exact State.setUal_mem ..

@[simp] theorem State.tryStallRelease_mem (p c : Nat) (h : P s.mem) : MemOfSome P (s.tryStallRelease p c) := by
  unfold State.tryStallRelease
  repeat' split
  all_goals simp [h]

@[simp] theorem State.trySilence_wf (p : Nat) (h : Memory.wf s.mem = true) :
    MemOfSome (Memory.wf · = true) (s.trySilence p) := by simp [State.trySilence, h]

@[simp] theorem State.arrives_mem (p c : Nat) (h : P s.mem) : MemOfSome P (s.arrives p c) := by simp [State.arrives, h]

@[simp] theorem State.tryFatal_wf (w : Nat) (h : Memory.wf s.mem = true) : MemOfSome (Memory.wf · = true) (s.tryFatal w) :=
  memOfSome_map (State.arrives_mem _ _ h) fun _ => State.declareSwitch_wf _

@[simp] theorem State.tryPortDown_wf (dev w : Nat) (h : Memory.wf s.mem = true) :
    MemOfSome (Memory.wf · = true) (s.tryPortDown dev w) := by
  unfold State.tryPortDown
  split
  · exact memOfSome_none
  · exact memOfSome_map (State.arrives_mem _ _ h) fun _ hu => State.judgeDevices_wf hu

@[simp] theorem State.finishCmd_mem (task : Nat) (c : MatrixCmd) : (s.finishCmd task c).mem = s.mem := by
  unfold State.finishCmd; split <;> simp

@[simp] theorem State.tryCmdStart_mem (task : Nat) (h : P s.mem) : MemOfSome P (s.tryCmdStart task) := by
  unfold State.tryCmdStart
  dsimp only
  repeat' split
  all_goals try exact memOfSome_none
  all_goals rw [memOfSome_some]
  · rw [State.finishCmd_mem, State.modTask_mem, State.modTask_mem]
    exact h
  · rw [State.enter_mem, State.modTask_mem]
    exact h
  · rw [State.enter_mem, State.modTask_mem]
    exact h
  · rw [State.modTask_mem]
    exact h

@[simp] theorem State.tryFetchComplete_mem (core : Nat) (h : P s.mem) : MemOfSome P (s.tryFetchComplete core) := by
  unfold State.tryFetchComplete
  repeat' split
  all_goals simp [h]

@[simp] theorem State.tryMultiplyStart_mem (task : Nat) (h : P s.mem) : MemOfSome P (s.tryMultiplyStart task) := by
  unfold State.tryMultiplyStart; repeat' split <;> simp [h]

@[simp] theorem State.tryMultiplyComplete_mem (task : Nat) (h : P s.mem) : MemOfSome P (s.tryMultiplyComplete task) := by
  unfold State.tryMultiplyComplete; repeat' split <;> simp [h]

@[simp] theorem State.tryRowEnter_mem (task : Nat) (h : P s.mem) : MemOfSome P (s.tryRowEnter task) := by
  unfold State.tryRowEnter; repeat' split <;> simp [h]

@[simp] theorem State.tryMvmComplete_mem (op : Nat) (h : P s.mem) : MemOfSome P (s.tryMvmComplete op) := by
  unfold State.tryMvmComplete; split <;> simp [h]

/-! Traps, keys, and the units of a die as they are brought up. -/

@[simp] theorem State.tryTrapEntry_wf (gid : Nat) (h : Memory.wf s.mem = true) :
    MemOfSome (Memory.wf · = true) (s.tryTrapEntry gid) := by
  unfold State.tryTrapEntry
  dsimp only
  repeat' split
  · simp [h]
  · exact State.endSettled_wf _ h
  · exact memOfSome_none
  · simp [h]
  · exact memOfSome_none
  all_goals exact memOfSome_map (State.interrupt_mem gid h) fun _ => State.takeTrap_wf _ _

@[simp] theorem State.tryStepTimeout_wf (gid : Nat) (h : Memory.wf s.mem = true) :
    MemOfSome (Memory.wf · = true) (s.tryStepTimeout gid) := by
  unfold State.tryStepTimeout
  dsimp only
  split
  · exact memOfSome_map (State.interrupt_mem gid h) fun _ => State.takeTrap_wf _ _
  · exact memOfSome_none

@[simp] theorem State.tryKeyDone_wf (h : Memory.wf s.mem = true) : MemOfSome (Memory.wf · = true) (s.tryKeyDone) := by
  simp [State.tryKeyDone, h]

@[simp] theorem State.extend_mem (i : Nat) (data : List Byte) : (s.extend i data).mem = s.mem := rfl

@[simp] theorem State.tryMeasDone_mem (h : P s.mem) : MemOfSome P (s.tryMeasDone) := by simp [State.tryMeasDone, h]

@[simp] theorem State.tryAttestDone_wf (ok : Nat) (h : Memory.wf s.mem = true) :
    MemOfSome (Memory.wf · = true) (s.tryAttestDone ok) := by simp [State.tryAttestDone, h]

@[simp] theorem State.tryQuotaDone_mem (h : P s.mem) : MemOfSome P s.tryQuotaDone := by
  unfold State.tryQuotaDone
  dsimp only
  split
  · exact memOfSome_none
  split
  · exact memOfSome_some.mpr h
  split
  · exact memOfSome_none
  refine memOfSome_some.mpr (State.mem_update (fun u => { u with pavQuota := _ }) (fun _ => rfl) ?_)
  rw [State.setSwitch_mem, State.land_mem]
  exact h

@[simp] theorem State.tryCtl_wf (gid : Nat) (act : CtlAct) (h : Memory.wf s.mem = true) :
    MemOfSome (Memory.wf · = true) (s.tryCtl gid act) := by simp [State.tryCtl, h]

@[simp] theorem State.orReg_mem (die : Nat) (r : CtlReg) (m : Nat) : (s.orReg die r m).mem = s.mem := rfl

@[simp] theorem State.tryRailGood_mem (d r : Nat) (h : P s.mem) : MemOfSome P (s.tryRailGood d r) := by
  simp [State.tryRailGood, h]

@[simp] theorem State.dropStack_wf (d : Nat) (h : Memory.wf s.mem = true) : Memory.wf (s.dropStack d).mem = true := by
  simp [State.dropStack, h]

@[simp] theorem State.failDie_wf (d : Nat) (h : Memory.wf s.mem = true) : Memory.wf (s.failDie d).mem = true := by
  simp [State.failDie, h]

@[simp] theorem State.tryRailExpiry_wf (d r : Nat) (h : Memory.wf s.mem = true) :
    MemOfSome (Memory.wf · = true) (s.tryRailExpiry d r) := by simp [State.tryRailExpiry, h]

@[simp] theorem State.tryInitDone_mem (d : Nat) (h : P s.mem) : MemOfSome P (s.tryInitDone d) := by
  simp [State.tryInitDone, h]

@[simp] theorem State.tryTrainDone_wf (d lanes : Nat) (h : Memory.wf s.mem = true) :
    MemOfSome (Memory.wf · = true) (s.tryTrainDone d lanes) := by simp [State.tryTrainDone, h]

@[simp] theorem State.tryTrainExpiry_wf (d : Nat) (h : Memory.wf s.mem = true) :
    MemOfSome (Memory.wf · = true) (s.tryTrainExpiry d) := by
  unfold State.tryTrainExpiry
  dsimp only
  split
  · exact memOfSome_none
  rw [memOfSome_some]
  split
  · rwa [State.stopUnit_mem, State.stopUnit_mem, State.orReg_mem]
  · exact State.dropStack_wf d (by rwa [State.stopUnit_mem, State.stopUnit_mem, State.orReg_mem])

@[simp] theorem State.tryMrDone_mem (d : Nat) (h : P s.mem) : MemOfSome P (s.tryMrDone d) := by
  unfold State.tryMrDone
  dsimp only
  split
  · exact memOfSome_none
  · rw [memOfSome_some, State.stopUnit_mem, State.setReg_mem]
    exact h

@[simp] theorem State.tryUcieDone_mem (d e : Nat) (h : P s.mem) : MemOfSome P (s.tryUcieDone d e) := by
  simp [State.tryUcieDone, h]

@[simp] theorem State.tryFail_wf (d : Nat) (r : CtlReg) (n : Nat) (h : Memory.wf s.mem = true) :
    MemOfSome (Memory.wf · = true) (s.tryFail d r n) := by simp [State.tryFail, h]

@[simp] theorem State.tryPcieDone_mem (h : P s.mem) : MemOfSome P (s.tryPcieDone) := by simp [State.tryPcieDone, h]

@[simp] theorem State.zeroSpan_wf (lo hi : Nat) (h : Memory.wf s.mem = true) : Memory.wf (s.zeroSpan lo hi).mem = true :=
  Machine.zeroSpan_wf h lo hi

@[simp] theorem State.switchReturns_wf (w : Nat) (h : Memory.wf s.mem = true) :
    Memory.wf (s.switchReturns w).mem = true := by simp [State.switchReturns, h]

@[simp] theorem State.tryUalDone_wf (p peer : Nat) (h : Memory.wf s.mem = true) :
    MemOfSome (Memory.wf · = true) (s.tryUalDone p peer) := by simp [State.tryUalDone, h]

@[simp] theorem State.tryUalExpiry_wf (p : Nat) (h : Memory.wf s.mem = true) :
    MemOfSome (Memory.wf · = true) (s.tryUalExpiry p) := by
  unfold State.tryUalExpiry
  split
  · exact memOfSome_none
  · exact memOfSome_map (State.tryFail_wf _ _ _ h) fun _ => State.killPort_wf _

@[simp] theorem State.tryArbDone_mem (bad : Nat) (h : P s.mem) : MemOfSome P (s.tryArbDone bad) := by
  unfold State.tryArbDone
  dsimp only
  split
  · exact memOfSome_none
  · rw [memOfSome_some, State.stopUnit_mem, State.orReg_mem, State.setReg_mem]
    exact h

@[simp] theorem State.tryCoreDone_mem (d c mask : Nat) (h : P s.mem) : MemOfSome P (s.tryCoreDone d c mask) := by
  simp [State.tryCoreDone, h]

@[simp] theorem State.tryOrgDone_mem (d banks : Nat) (h : P s.mem) : MemOfSome P (s.tryOrgDone d banks) := by
  unfold State.tryOrgDone
  dsimp only
  split
  · exact memOfSome_none
  · rw [memOfSome_some]
    split
    · rw [State.stopUnit_mem, State.setReg_mem]
      exact h
    · rw [State.setDie_mem, State.stopUnit_mem, State.setReg_mem]
      exact h

@[simp] theorem State.tryWordStored_wf (h : Memory.wf s.mem = true) : MemOfSome (Memory.wf · = true) (s.tryWordStored) := by
  unfold State.tryWordStored; split <;> simp [h]

@[simp] theorem State.bootImage_wf (prev : Option Nat) (h : Memory.wf s.mem = true) :
    Memory.wf (s.bootImage prev).mem = true := by
  unfold State.bootImage
  extract_lets alt at' entry s1 _ len s2
  have he (st : State) (o : Nat) (hst : Memory.wf st.mem = true) : Memory.wf (entry st o).mem = true :=
    writeNum_wf (writeNum_wf hst _ _ _) _ _ _
  have h1 : Memory.wf s1.mem = true := State.wf_of_mem (State.extend_mem ..) (he s 0 h)
  clear_value s1 entry
  split
  · refine State.mem_update (P := (Memory.wf · = true)) (fun u => { u with poweredOff := _, smbusStep := _ })
      (fun _ => rfl) (he _ _ h1)
  · have h2 : Memory.wf s2.mem = true := State.wf_of_mem (State.extend_mem ..) (write_wf h1 _ _)
    clear_value s2
    rw [State.setGroup_mem, State.setReg_mem]
    exact h2

@[simp] theorem State.bootRom_wf (h : Memory.wf s.mem = true) : Memory.wf s.bootRom.mem = true := by
  unfold State.bootRom
  rw [State.write_mem, State.writeNum_mem]
  exact Memory.wf_memWrite (Memory.wf_memWrite (Memory.wf_filter h _) _ _) _ _

@[simp] theorem State.sequence_wf (rails : Nat) (h : Memory.wf s.mem = true) : Memory.wf (s.sequence rails).mem = true := by
  unfold State.sequence
  refine State.foldl_wf (fun st d hst => ?_) h
  split
  · rwa [State.setReg_mem]
  · exact State.failDie_wf d hst

@[simp] theorem State.tryPowerOn_wf (rails failed : Nat) (h : Memory.wf s.mem = true) :
    MemOfSome (Memory.wf · = true) (s.tryPowerOn rails failed) := by
  unfold State.tryPowerOn
  dsimp only
  split
  · exact memOfSome_none
  rw [memOfSome_some]
  split
  · exact h
  · exact State.bootImage_wf _ (State.bootRom_wf (State.sequence_wf _ h))

@[simp] theorem State.throttle_mem (n : Nat) : (s.throttle n).mem = s.mem := rfl

@[simp] theorem State.tryCapCheck_mem (target : Nat) (h : P s.mem) : MemOfSome P (s.tryCapCheck target) := by
  simp [State.tryCapCheck, h]

@[simp] theorem State.tryTemperature_wf (d temp : Nat) (h : Memory.wf s.mem = true) :
    MemOfSome (Memory.wf · = true) (s.tryTemperature d temp) := by
  unfold State.tryTemperature
  dsimp only
  repeat' split
  all_goals simp [h]

@[simp] theorem State.tryPowerLoss_wf (h : Memory.wf s.mem = true) : MemOfSome (Memory.wf · = true) (s.tryPowerLoss) := by
  simp [State.tryPowerLoss, h]

@[simp] theorem State.tryZeroed_wf (w n : Nat) (h : Memory.wf s.mem = true) :
    MemOfSome (Memory.wf · = true) (s.tryZeroed w n) := by simp [State.tryZeroed, h]

/-! Hosts, slices and translations. -/

@[simp] theorem State.tryCombineDrain_wf (n : Nat) (h : Memory.wf s.mem = true) :
    MemOfSome (Memory.wf · = true) (s.tryCombineDrain n) := by unfold State.tryCombineDrain; split <;> simp [h]

@[simp] theorem State.noticeFrom_mem (dev : Nat) (h : P s.mem) : MemOfSome P (s.noticeFrom dev) := by
  simp [State.noticeFrom, h]

@[simp] theorem State.memberLost_wf (plan dev : Nat) (h : Memory.wf s.mem = true) :
    MemOfSome (Memory.wf · = true) (s.memberLost plan dev) := by
  refine memOfSome_bind_state (State.noticeFrom_mem dev h) fun u hu => ?_
  split
  · exact memOfSome_none
  dsimp only
  split
  · exact memOfSome_none
  split
  · refine State.withCommit_wf _ _ _ (fun _ _ _ => memOfSome_none) (fun v x hv => ?_) hu
    split <;> simp [hv]
  · simp [hu]

@[simp] theorem State.trySliceAdd_mem (d slice entries : Nat) (h : P s.mem) :
    MemOfSome P (s.trySliceAdd d slice entries) := by simp [State.trySliceAdd, h]

@[simp] theorem State.launch_mem (f : Flight) (p o : Nat) : (s.launch f p o).mem = s.mem := rfl

@[simp] theorem State.tryLaunch_mem (f : Flight) (p o : Nat) (h : P s.mem) : MemOfSome P (s.tryLaunch f p o) := by
  simp [State.tryLaunch, h]

@[simp] theorem State.tlbFill_mem (gid va : Nat) (l2 : Bool) (h : P s.mem) : MemOfSome P (s.tlbFill gid va l2) := by
  unfold State.tlbFill; repeat' split <;> simp [h]

@[simp] theorem State.hostFill_mem (unit sector : Nat) : (s.hostFill unit sector).mem = s.mem := by
  simp [State.hostFill]

@[simp] theorem State.hostDrop_mem (unit sector : Nat) : (s.hostDrop unit sector).mem = s.mem := rfl

@[simp] theorem State.strike_mem (a n : Nat) : (s.strike a n).mem = s.mem := rfl

@[simp] theorem State.tryRefuse_mem (gid cycles : Nat) (h : P s.mem) : MemOfSome P (s.tryRefuse gid cycles) := by
  simp [State.tryRefuse, h]

@[simp] theorem State.ackMaps_mem (c : Nat) : (s.ackMaps c).mem = s.mem := by
  unfold State.ackMaps
  split
  · rfl
  · exact State.foldl_mem (fun _ _ => State.loadMap_mem ..) s

/-! Pieces of matrix operations and of refills. -/

@[simp] theorem State.tryMatrixPiece_mem (task cmd stage off : Nat) (h : P s.mem) :
    MemOfSome P (s.tryMatrixPiece task cmd stage off) := by unfold State.tryMatrixPiece; repeat' split <;> simp [h]

@[simp] theorem State.mvmRead_mem (op : Nat) (m : Mvm) (g : Stage) (lin : Nat) (f : Stage → Mvm) (h : P s.mem) :
    MemOfSome P (s.mvmRead op m g lin f) := by
  intro u hu
  obtain ⟨r, hr, rfl⟩ := Option.map_eq_some_iff.mp hu
  split
  · rw [State.stopMvm_mem]; exact h
  · show P _; rw [State.stagePiece_mem hr]; exact h

@[simp] theorem State.mvmWrite_wf (op : Nat) (m : Mvm) (at' : Nat) (h : Memory.wf s.mem = true) :
    MemOfSome (Memory.wf · = true) (s.mvmWrite op m at') := by
  unfold State.mvmWrite
  dsimp only
  split
  · exact memOfSome_none
  split
  · exact memOfSome_none
  rw [memOfSome_some]
  split
  · rwa [State.stopMvm_mem]
  next u hu =>
    change Memory.wf u.mem = true
    split at hu
    · cases hu
    next v hv =>
      split at hu
      · cases hu
        exact State.writeSide_wf hv h
      · exact State.writeSide_wf hu (State.writeSide_wf hv h)

@[simp] theorem State.tryMvmPiece_wf (op which lin : Nat) (h : Memory.wf s.mem = true) :
    MemOfSome (Memory.wf · = true) (s.tryMvmPiece op which lin) := by
  unfold State.tryMvmPiece; repeat' split <;> simp [h]

theorem State.tryRefillPiece_wf (plan n k off : Nat) {onFault : Nat → State → State}
    (hf : ∀ c u, Memory.wf u.mem = true → Memory.wf (onFault c u).mem = true) (h : Memory.wf s.mem = true) :
    MemOfSome (Memory.wf · = true) (s.tryRefillPiece plan n k off onFault) := by
  unfold State.tryRefillPiece
  dsimp only
  repeat' split
  all_goals try exact memOfSome_none
  all_goals rw [memOfSome_some]
  · exact hf _ _ (by simpa using h)
  · exact hf _ _ (by simpa using h)
  · exact hf _ _ (by simpa using h)
  · exact hf _ _ (by simpa using h)
  · rw [State.write_mem, State.afterRead_mem, State.land_mem, State.setPipe_mem]
    exact Memory.wf_memWrite h _ _

@[simp] theorem State.refillTurn_wf (plan n k off : Nat) (h : Memory.wf s.mem = true) :
    MemOfSome (Memory.wf · = true) (s.refillTurn plan n k off) :=
  State.tryRefillPiece_wf plan n k off (fun _ _ hu => State.wf_of_mem (State.planEvent_mem ..) hu) h

/-! Requests that come from other devices. -/

@[simp] theorem State.remotePipe_mem (via plan n : Nat) (op : PipeOp) (h : P s.mem) :
    MemOfSome P (s.remotePipe via plan n op) := by
  unfold State.remotePipe
  extract_lets task
  split
  · exact memOfSome_none
  split
  · exact memOfSome_none
  refine memOfSome_bind fun q => memOfSome_map ?_ fun t ht => by rwa [State.setPipe_mem]
  split
  · exact memOfSome_some.mpr h
  · exact State.arrives_mem _ _ h

@[simp] theorem State.remoteWrite_wf (via tenant key a : Nat) (bs : List Byte) (h : Memory.wf s.mem = true) :
    MemOfSome (Memory.wf · = true) (s.remoteWrite via tenant key a bs) := by
  unfold State.remoteWrite
  repeat' split
  all_goals try exact memOfSome_none
  · exact memOfSome_map (State.arrives_mem _ _ h) fun _ => State.writePiece_wf _ _ _ _
  · simp [h]
  · simp [h]
  · exact memOfSome_map (State.arrives_mem _ _ h) fun _ hu => by simp [hu]

@[simp] theorem State.remoteSend_wf (via key tenant sender : Nat) (m : Message) (blocking : Bool) (h : Memory.wf s.mem = true) :
    MemOfSome (Memory.wf · = true) (s.remoteSend via key tenant sender m blocking) := by
  unfold State.remoteSend
  split
  · exact memOfSome_map (State.arrives_mem _ _ h) fun _ hu => by simp [hu]
  · exact memOfSome_none

@[simp] theorem State.remoteWithdraw_mem (via key sender : Nat) (h : P s.mem) :
    MemOfSome P (s.remoteWithdraw via key sender) := by simp [State.remoteWithdraw, h]

@[simp] theorem State.heard_mem (gid dev : Nat) (h : P s.mem) : MemOfSome P (s.heard gid dev) := by
  simp [State.heard, h]

@[simp] theorem State.tryAnswer_wf (gid : Nat) (kind : Option Nat) (value : Dword) (h : Memory.wf s.mem = true) :
    MemOfSome (Memory.wf · = true) (s.tryAnswer gid kind value) := by
  unfold State.tryAnswer
  dsimp only
  repeat' split
  all_goals try exact memOfSome_none
  all_goals refine memOfSome_map (State.heard_mem _ _ h) fun _ hu => ?_
  all_goals simp [hu]

@[simp] theorem State.tryAdmitted_mem (gid ticket : Nat) (h : P s.mem) : MemOfSome P (s.tryAdmitted gid ticket) := by
  unfold State.tryAdmitted; split <;> simp [h]

@[simp] theorem State.tryWithdrawn_mem (gid : Nat) (h : P s.mem) : MemOfSome P (s.tryWithdrawn gid) := by
  unfold State.tryWithdrawn
  split
  · exact memOfSome_map (State.heard_mem _ _ h) fun _ hu => by simp [hu]
  · exact memOfSome_none

@[simp] theorem State.remoteKey_mem (table id : Nat) (key : Option Key) (h : P s.mem) :
    MemOfSome P (s.remoteKey table id key) := by simp [State.remoteKey, h]

@[simp] theorem State.tryLostSent_mem (dev : Nat) (h : P s.mem) : MemOfSome P (s.tryLostSent dev) := by
  simp [State.tryLostSent, h]

@[simp] theorem State.cpEntry_mem (die pc : Nat) (h : P s.mem) : MemOfSome P (s.cpEntry die pc) := by
  simp [State.cpEntry, h]

@[simp] theorem State.drawEntropy_wf (off : Nat) (h : Memory.wf s.mem = true) :
    MemOfSome (Memory.wf · = true) (s.drawEntropy off) := by simp [State.drawEntropy, h]

@[simp] theorem State.corrected_mem (bank : Nat) : (s.corrected bank).mem = s.mem := rfl

@[simp] theorem State.scribble_wf (a n : Nat) (h : Memory.wf s.mem = true) : Memory.wf (s.scribble a n).mem = true :=
  Machine.scribble_wf h a n

@[simp] theorem State.tryDeadlineServed_wf (d : Nat) (h : Memory.wf s.mem = true) :
    MemOfSome (Memory.wf · = true) (s.tryDeadlineServed d) := by unfold State.tryDeadlineServed; split <;> simp [h]

@[simp] theorem State.tryRemoval_mem (gid : Nat) (h : P s.mem) : MemOfSome P (s.tryRemoval gid) := by
  unfold State.tryRemoval
  repeat' split
  · exact memOfSome_none
  · exact State.tryShootdown_mem gid (fun u => by simp) h
  · exact memOfSome_none

end Sys2Proof.Machine

/-! Bodies of single instructions. -/

namespace Sys2Proof.Machine

variable {P : List Host.Cell → Prop} {s : State}

@[simp] theorem quantiseBody_mem (fn : Nat) (d a : Reg) : (quantiseBody fn d a s).state.mem = s.mem :=
  tilesOnly_mem (laneResult_mem _ _)

@[simp] theorem vpopaBody_mem (d : Reg) : (vpopaBody d s).state.mem = s.mem := by
  refine coreOnly_mem ?_
  split
  · rfl
  · refine withResult_mem (matrixGate_mem ?_)
    split
    · rfl
    · rw [State.pushResult_mem, State.modTask_mem]

@[simp] theorem exitBody_mem : (exitBody s).state.mem = s.mem := coreOnly_mem (by split <;> simp)

@[simp] theorem trapBody_mem (a : Reg) : (trapBody a s).state.mem = s.mem := coreOnly_mem rfl

@[simp] theorem brkBody_mem : (brkBody s).state.mem = s.mem := coreOnly_mem rfl

@[simp] theorem pvallocBody_mem (d a b : Reg) : (pvallocBody d a b s).state.mem = s.mem := by
  refine coreOnly_mem (withResult_mem ?_)
  extract_lets
  split
  · rfl
  split
  · exact State.pushResult_mem ..
  · exact State.pushPavilion_mem ..

@[simp] theorem pvfreeBody_mem (d a : Reg) : (pvfreeBody d a s).state.mem = s.mem := by
  refine coreOnly_mem (withResult_mem ?_)
  dsimp only
  split <;> simp

@[simp] theorem pvqBody_mem (d a : Reg) : (pvqBody d a s).state.mem = s.mem := by
  refine coreOnly_mem (withResult_mem ?_)
  dsimp only
  repeat' split
  all_goals simp

@[simp] theorem tlbinvBody_mem (a b : Reg) : (tlbinvBody a b s).state.mem = s.mem := by
  refine supervisorOnly_mem ?_
  dsimp only
  repeat' split
  all_goals simp

@[simp] theorem tlbsyncBody_mem : (tlbsyncBody s).state.mem = s.mem := supervisorOnly_mem rfl

@[simp] theorem pportqBody_mem (d a : Reg) : (pportqBody d a s).state.mem = s.mem := by
  unfold pportqBody
  dsimp only
  repeat' split
  all_goals simp

/-! Bodies that perform the group's accesses first. -/

theorem kwaitBody_wf (k : BitVec 8) (h : Memory.wf s.mem = true) : Memory.wf (kwaitBody k s).state.mem = true := by
  refine coreOnly_wf (ordered_wf_of_mem (fun u => ?_) h) h
  dsimp only
  repeat' split
  all_goals simp

theorem qfenceBody_wf (k : BitVec 3) (q : BitVec 4) (h : Memory.wf s.mem = true) :
    Memory.wf (qfenceBody k q s).state.mem = true := by
  refine coreOnly_wf (ordered_wf_of_mem (fun u => ?_) h) h
  dsimp only
  repeat' split
  · rfl
  · rfl
  · rw [Eff.state_ok, State.foldl_mem fun _ _ => State.enter_mem ..]
    rfl

theorem mcreadyBody_wf (d a b : Reg) (h : Memory.wf s.mem = true) : Memory.wf (mcreadyBody d a b s).state.mem = true := by
  refine coreOnly_wf (ordered_wf_of_mem (fun u => ?_) h) h
  dsimp only
  repeat' split
  all_goals simp

theorem mvmBody_wf (k : BitVec 3) (a b c : Reg) (h : Memory.wf s.mem = true) :
    Memory.wf (mvmBody k a b c s).state.mem = true := by
  refine coreOnly_wf (ordered_wf_of_mem (fun u => ?_) h) h
  dsimp only
  split
  · rfl
  split
  · rfl
  refine matrixGate_mem ?_
  repeat' split
  all_goals simp

theorem spawnBody_wf (a b : Reg) (h : Memory.wf s.mem = true) : Memory.wf (spawnBody a b s).state.mem = true := by
  refine coreOnly_wf (ordered_wf_of_mem (fun u => ?_) h) h
  dsimp only
  repeat' split
  all_goals try rfl
  next hv => exact State.spawnInto_mem (P := (· = u.mem)) _ _ _ _ rfl _ hv

theorem segldBody_wf (n : BitVec 3) (a : Reg) (g : BitVec 3) (h : Memory.wf s.mem = true) :
    Memory.wf (segldBody n a g s).state.mem = true := by
  refine supervisorOnly_wf (coreOnly_wf (ordered_wf_of_mem (fun u => ?_) h) h) h
  dsimp only
  split
  · rfl
  split
  · rfl
  next ps _ =>
    have hr := readPlaces_mem (P := (· = u.mem)) 0 (u.asker u.me) ps rfl
    split
    · simp
    split
    · next hq =>
      rw [hq] at hr
      rw [Eff.state_fault, State.landAll_mem]
      exact hr
    next t hq =>
      rw [hq] at hr
      replace hr : t.mem = u.mem := hr
      split <;> simp [hr]

theorem ctxsaveBody_wf (d a b : Reg) (h : Memory.wf s.mem = true) : Memory.wf (ctxsaveBody d a b s).state.mem = true := by
  refine supervisorOnly_wf (coreOnly_wf (ordered_wf (fun u hu => ?_) h) h) h
  dsimp only
  repeat' split
  all_goals simp [hu]

theorem ctxrestBody_wf (d a b : Reg) (h : Memory.wf s.mem = true) : Memory.wf (ctxrestBody d a b s).state.mem = true := by
  refine supervisorOnly_wf (coreOnly_wf (ordered_wf (fun u hu => ?_) h) h) h
  dsimp only
  repeat' split
  all_goals simp [hu]

theorem planLdBody_wf (d a : Reg) (g : BitVec 3) (h : Memory.wf s.mem = true) :
    Memory.wf (planLdBody d a g s).state.mem = true := by
  refine supervisorOnly_wf (withResult_wf (ordered_wf (fun u hu => ?_) h) h) h
  extract_lets gp sg off bad place
  split
  · exact hu
  split
  · exact hu
  split
  · exact hu
  split
  · exact hu
  have hr : MemOfReading (Memory.wf · = true) (u.readRecord 0 sg off 64) := State.readBytes_mem 0 _ sg off 64 hu
  split
  · simp [hu]
  · next v hq =>
    rw [hq] at hr
    replace hr : Memory.wf v.mem = true := hr
    simp [hr]
  next v hq =>
    rw [hq] at hr
    replace hr : Memory.wf v.mem = true := hr
    dsimp only
    split
    · simp [hr]
    split
    · simp [hu]
    · exact State.loadPlan_wf _ _ _ _ hu hr

theorem cpyBody_wf (q : BitVec 2) (k : BitVec 3) (a b c : Reg) (h : Memory.wf s.mem = true) :
    Memory.wf (cpyBody q k a b c s).state.mem = true :=
  entering_wf _ _ (fun u => by dsimp only; split <;> simp) h

theorem cpyMcBody_wf (q : BitVec 2) (k : BitVec 3) (a b c : Reg) (h : Memory.wf s.mem = true) :
    Memory.wf (cpyMcBody q k a b c s).state.mem = true := by
  refine entering_wf _ _ (fun u => ?_) h
  dsimp only
  repeat' split
  all_goals simp

theorem cpyRowBody_wf (k : BitVec 3) (a b : Reg) (q : BitVec 2) (h : Memory.wf s.mem = true) :
    Memory.wf (cpyRowBody k a b q s).state.mem = true :=
  entering_wf _ _ (fun u => by dsimp only; split <;> simp) h

theorem cpyCloseBody_wf (k : BitVec 3) (q : BitVec 2) (h : Memory.wf s.mem = true) :
    Memory.wf (cpyCloseBody k q s).state.mem = true :=
  entering_wf _ _ (fun u => by simp) h

theorem kwaitObjBody_wf (d a : Reg) (g : BitVec 3) (h : Memory.wf s.mem = true) :
    Memory.wf (kwaitObjBody d a g s).state.mem = true := by
  refine withResult_wf (coreOnly_wf (ordered_wf_of_mem (fun u => ?_) h) h) h
  dsimp only
  repeat' split
  all_goals simp

theorem pipeBody_wf {b : Body} (hb : ∀ u, Memory.wf u.mem = true → Memory.wf (b u).state.mem = true)
    (h : Memory.wf s.mem = true) : Memory.wf (pipeBody b s).state.mem = true :=
  coreOnly_wf (ordered_wf hb h) h

theorem preserveBody_wf (d a b : Reg) (h : Memory.wf s.mem = true) : Memory.wf (preserveBody d a b s).state.mem = true := by
  refine withResult_wf (pipeBody_wf (fun u hu => ?_) h) h
  dsimp only
  repeat' split
  all_goals try exact hu
  all_goals exact atHome_wf _ (fun t ht => by simp [ht]) hu

theorem pclaimBody_wf (d a b : Reg) (h : Memory.wf s.mem = true) : Memory.wf (pclaimBody d a b s).state.mem = true := by
  refine withResult_wf (pipeBody_wf (fun u hu => ?_) h) h
  dsimp only
  repeat' split
  all_goals try exact hu
  all_goals exact atHome_wf _ (fun t ht => by simp [ht]) hu

theorem pqueryBody_wf (d a : Reg) (h : Memory.wf s.mem = true) : Memory.wf (pqueryBody d a s).state.mem = true := by
  refine withResult_wf (pipeBody_wf (fun u hu => ?_) h) h
  repeat' split
  all_goals try exact hu
  exact atHome_wf _ (fun t ht => by simp [ht]) hu

theorem pcommitBody_wf (b : Reg) (h : Memory.wf s.mem = true) : Memory.wf (pcommitBody b s).state.mem = true := by
  refine pipeBody_wf (fun u hu => ?_) h
  dsimp only
  split
  · exact hu
  · refine atHome_wf _ (fun t ht => ?_) hu
    split <;> simp [ht]

theorem preleaseBody_wf (b : Reg) (h : Memory.wf s.mem = true) : Memory.wf (preleaseBody b s).state.mem = true := by
  refine pipeBody_wf (fun u hu => ?_) h
  dsimp only
  split
  · exact hu
  · refine atHome_wf _ (fun t ht => ?_) hu
    split <;> simp [ht]

theorem sendwBody_wf (d a b : Reg) (h : Memory.wf s.mem = true) : Memory.wf (sendwBody d a b s).state.mem = true :=
  withResult_wf (sendForm_wf _ _ _ h) h

theorem barArrBody_wf (g : BitVec 3) (a b : Reg) (h : Memory.wf s.mem = true) :
    Memory.wf (barArrBody g a b s).state.mem = true := by
  refine withResult_wf (ordered_wf (fun u hu => ?_) h) h
  split <;> simp [hu]

theorem barWaitBody_wf (g : BitVec 3) (a b : Reg) (h : Memory.wf s.mem = true) :
    Memory.wf (barWaitBody g a b s).state.mem = true := by
  refine ordered_wf_of_mem (fun u => ?_) h
  dsimp only
  repeat' split
  all_goals rfl

theorem barArwBody_wf (g : BitVec 3) (a : Reg) (h : Memory.wf s.mem = true) : Memory.wf (barArwBody g a s).state.mem = true := by
  refine ordered_wf (fun u hu => ?_) h
  dsimp only
  repeat' split
  all_goals simp [hu]

theorem abarArrBody_wf (d : Reg) (n : BitVec 5) (h : Memory.wf s.mem = true) :
    Memory.wf (abarArrBody d n s).state.mem = true :=
  withResult_wf (ordered_wf_of_mem (fun u => arbor_mem _ fun e => by dsimp only; split <;> simp) h) h

theorem abarWaitBody_wf (n : BitVec 5) (b : Reg) (h : Memory.wf s.mem = true) :
    Memory.wf (abarWaitBody n b s).state.mem = true :=
  ordered_wf_of_mem (fun u => arbor_mem _ fun e => by split <;> rfl) h

theorem abarTestBody_wf (d : Reg) (n : BitVec 5) (b : Reg) (h : Memory.wf s.mem = true) :
    Memory.wf (abarTestBody d n b s).state.mem = true :=
  withResult_wf (ordered_wf_of_mem (fun u => arbor_mem _ fun e => by simp) h) h

theorem patternBody_wf (a : Reg) {f : State → Nat → State} (hf : ∀ u k, (f u k).mem = u.mem) (h : Memory.wf s.mem = true) :
    Memory.wf (patternBody a f s).state.mem = true := by
  refine supervisorOnly_wf (ordered_wf_of_mem (fun u => ?_) h) h
  dsimp only
  repeat' split
  all_goals simp [hf]

theorem jenBody_wf (a : Reg) (h : Memory.wf s.mem = true) : Memory.wf (jenBody a s).state.mem = true := by
  refine patternBody_wf a (fun u k => ?_) h
  repeat' split
  all_goals simp

theorem jdisBody_wf (a : Reg) (h : Memory.wf s.mem = true) : Memory.wf (jdisBody a s).state.mem = true :=
  patternBody_wf a (fun _ _ => State.modPattern_mem ..) h

theorem commandBody_wf (t : BitVec 3) {b : Body} (hb : ∀ u, (b u).state.mem = u.mem) (h : Memory.wf s.mem = true) :
    Memory.wf (commandBody t b s).state.mem = true :=
  coreOnly_wf (ordered_wf_of_mem (fun u => by
    split
    · rfl
    split
    · rfl
    · exact matrixGate_mem (hb u)) h) h

theorem multiplyBody_wf (sparse : Bool) (t : BitVec 3) (a b c : Reg) (h : Memory.wf s.mem = true) :
    Memory.wf (multiplyBody sparse t a b c s).state.mem = true := by
  refine commandBody_wf t (fun u => ?_) h
  extract_lets
  split
  · rfl
  split
  · rfl
  extract_lets
  split
  · rfl
  split
  · rfl
  generalize (ite (sparse = true) _ _ : Bool) = bad
  split
  · rfl
  split
  · rfl
  extract_lets
  split
  · rfl
  split
  · rfl
  split
  · rfl
  split
  · rfl
  · rw [Eff.state_ok, State.enterCmd_mem]

theorem mzeroBody_wf (t : BitVec 3) (h : Memory.wf s.mem = true) : Memory.wf (mzeroBody t s).state.mem = true :=
  commandBody_wf t (fun u => by simp) h

theorem mrowsBody_wf (t : BitVec 3) (h : Memory.wf s.mem = true) : Memory.wf (mrowsBody t s).state.mem = true :=
  commandBody_wf t (fun u => by simp) h

theorem mldaccBody_wf (t : BitVec 3) (a : Reg) (h : Memory.wf s.mem = true) : Memory.wf (mldaccBody t a s).state.mem = true :=
  commandBody_wf t (fun u => by dsimp only; split <;> simp) h

theorem mstaccBody_wf (t : BitVec 3) (a b : Reg) (h : Memory.wf s.mem = true) :
    Memory.wf (mstaccBody t a b s).state.mem = true :=
  commandBody_wf t (fun u => by dsimp only; split <;> simp) h

end Sys2Proof.Machine

/-! Words: instructions, and the bodies that another word repeats or extends. -/

namespace Sys2Proof.Machine

variable {P : List Host.Cell → Prop} {s : State}

theorem event_wf {o : Option State} (ho : MemOfSome (Memory.wf · = true) o) (h : Memory.wf s.mem = true) :
    MemOfNext (Memory.wf · = true) (event s o) :=
  memOfNext_next.mpr (State.getD_wf ho h)

theorem literalBody_wf {p : BitVec 24} {w : Word} (h : Memory.wf s.mem = true) :
    ∀ b, literalBody p w = some b → Memory.wf (b s).state.mem = true := by
  unfold literalBody
  dsimp only
  split
  all_goals
    split
    all_goals simp [h]

theorem execLimm_wf (p : BitVec 24) (h : Memory.wf s.mem = true) : MemOfNext (Memory.wf · = true) (execLimm p s) := by
  unfold execLimm
  split
  · exact memOfNext_fault
  split
  · exact State.fetchTarget_wf _ h
  split
  · exact memOfNext_next.mpr (applyEff_wf _ _ h)
  next b hb =>
    have hs := literalBody_wf h b hb
    rw [memOfNext_next]
    split
    · next he => rw [he] at hs; exact hs
    · exact applyEff_wf _ _ hs

/-- Every instruction but a repetition keeps the memory canonical, whether its operands are well formed or not: one line per
shape of body, and one for the events. -/
theorem exec_wf_of_isRep (i : Instr) (hi : Laws.isRep i = false) (h : Memory.wf s.mem = true) :
    MemOfNext (Memory.wf · = true) (exec i s) := by
  cases i with
  | rep => cases hi
  | limm => exact execLimm_wf _ h
  | orangeryRefreshAdvance => exact memOfNext_next.mpr ((State.refreshAdvance_mem (s := s)).symm ▸ h)
  | vadd | vsub | vaddsI32 | vaddsN32 | vsubsI32 | vsubsN32 | vmul | vmulhI32 | vmulhN32 | vmad | vdivI32 | vdivN32 |
    vremI32 | vremN32 | vand | vor | vxor | vandn | vshl | vshr | vsra | vrol | vminI32 | vmaxI32 | vminN32 | vmaxN32 =>
    exact issue_wf_of_mem (fun _ => by exact lane3_mem ..) _ h
  | vaddS | vsubS | vaddsI32S | vaddsN32S | vsubsI32S | vsubsN32S | vmulS | vmulhI32S | vmulhN32S | vmadS | vdivI32S |
    vdivN32S | vremI32S | vremN32S | vandS | vorS | vxorS | vandnS | vshlS | vshrS | vsraS | vrolS | vminI32S |
    vmaxI32S | vminN32S | vmaxN32S =>
    exact issue_wf_of_mem (fun _ => by exact lane3s_mem ..) _ h
  | vabsI32 | vclz | vpopc | vbrev | vmov | vshli | vshri | vsrai =>
    exact issue_wf_of_mem (fun _ => by exact lane1_mem ..) _ h
  | vcmpEq | vcmpNe | vcmpLt | vcmpLe | vcmpGt | vcmpGe | vcmpLo | vcmpLs | vcmpHi | vcmpHs | vcmpEqS | vcmpNeS |
    vcmpLtS | vcmpLeS | vcmpGtS | vcmpGeS | vcmpLoS | vcmpLsS | vcmpHiS | vcmpHsS =>
    exact issue_wf_of_mem (fun _ => by exact laneMask_mem ..) _ h
  | vsel | vmovS | vtid | vfclassF32 | vfclassF16x2 | vfclassBf16x2 =>
    exact issue_wf_of_mem (fun _ => by exact laneBody_mem ..) _ h
  | vaddi => exact issue_wf_of_mem (fun _ => by exact vaddiLit_mem ..) _ h
  | vmovi => exact issue_wf_of_mem (fun _ => by exact vmoviLit_mem ..) _ h
  | vandi => exact issue_wf_of_mem (fun _ => by exact vandiLit_mem ..) _ h
  | vori => exact issue_wf_of_mem (fun _ => by exact voriLit_mem ..) _ h
  | vxori => exact issue_wf_of_mem (fun _ => by exact vxoriLit_mem ..) _ h
  | vmuli => exact issue_wf_of_mem (fun _ => by exact vmuliLit_mem ..) _ h
  | vfaddF32 | vfsubF32 | vfmulF32 | vfminF32 | vfmaxF32 | vfmaF32 | vfmsF32 | vfnmaF32 | vfaddF16x2 | vfsubF16x2 |
    vfmulF16x2 | vfminF16x2 | vfmaxF16x2 | vfmaF16x2 | vfmsF16x2 | vfnmaF16x2 | vfaddBf16x2 | vfsubBf16x2 |
    vfmulBf16x2 | vfminBf16x2 | vfmaxBf16x2 | vfmaBf16x2 | vfmsBf16x2 | vfnmaBf16x2 =>
    exact issue_wf_of_mem (fun _ => by exact laneFop_mem ..) _ h
  | vfaddF32S | vfsubF32S | vfmulF32S | vfminF32S | vfmaxF32S | vfmaF32S | vfmsF32S | vfnmaF32S =>
    exact issue_wf_of_mem (fun _ => by exact laneFopS_mem ..) _ h
  | vfcmpEqF32 | vfcmpNeF32 | vfcmpLtF32 | vfcmpLeF32 | vfcmpGtF32 | vfcmpGeF32 | vfcmpUnF32 | vfcmpEqF16x2 |
    vfcmpNeF16x2 | vfcmpLtF16x2 | vfcmpLeF16x2 | vfcmpGtF16x2 | vfcmpGeF16x2 | vfcmpUnF16x2 | vfcmpEqBf16x2 |
    vfcmpNeBf16x2 | vfcmpLtBf16x2 | vfcmpLeBf16x2 | vfcmpGtBf16x2 | vfcmpGeBf16x2 | vfcmpUnBf16x2 =>
    exact issue_wf_of_mem (fun _ => by exact laneFcmp_mem ..) _ h
  | vrcp | vrsq | vsqrt | vexp2 | vlog2 | vsin | vcos | vtanh | vfdivF32 | vfdivF32S =>
    exact issue_wf_of_mem (fun _ => by exact laneSpecial_mem ..) _ h
  | vcvt | vcvtSr | vcvtSat | vcvtSatSr => exact issue_wf_of_mem (fun _ => by exact laneCvt_mem ..) _ h
  | vqblkE2m1x | vqblkE4m3 | vqblkE5m2 => exact issue_wf_of_mem (fun _ => by exact quantiseBody_mem ..) _ h
  | vpopa => exact issue_wf_of_mem (fun _ => by exact vpopaBody_mem ..) _ h
  | exit => exact issue_wf_of_mem (fun _ => by exact exitBody_mem) _ h
  | trap => exact issue_wf_of_mem (fun _ => by exact trapBody_mem ..) _ h
  | brk => exact issue_wf_of_mem (fun _ => by exact brkBody_mem) _ h
  | kwait => exact issue_wf (fun _ hu => by exact kwaitBody_wf _ hu) _ h
  | qfence => exact issue_wf (fun _ hu => by exact qfenceBody_wf _ _ hu) _ h
  | mcready => exact issue_wf (fun _ hu => by exact mcreadyBody_wf _ _ _ hu) _ h
  | mvm => exact issue_wf (fun _ hu => by exact mvmBody_wf _ _ _ _ hu) _ h
  | spawn => exact issue_wf (fun _ hu => by exact spawnBody_wf _ _ hu) _ h
  | pvalloc => exact issue_wf_of_mem (fun _ => by exact pvallocBody_mem ..) _ h
  | pvfree => exact issue_wf_of_mem (fun _ => by exact pvfreeBody_mem ..) _ h
  | pvq => exact issue_wf_of_mem (fun _ => by exact pvqBody_mem ..) _ h
  | vshflIdx | vshflUp | vshflDown | vshflXor | vbcast => exact issue_wf_of_mem (fun _ => by exact laneFrom_mem ..) _ h
  | vperm8Lo | vperm8Hi => exact issue_wf_of_mem (fun _ => by exact lanePerm8_mem ..) _ h
  | vext => exact issue_wf_of_mem (fun _ => by exact laneResult_mem ..) _ h
  | vlredAddI32 | vlredMinI32 | vlredMaxI32 | vlredMinN32 | vlredMaxN32 | vlredFaddF32 | vlredFminF32 | vlredFmaxF32 =>
    exact issue_wf_of_mem (fun _ => by exact laneReduce_mem ..) _ h
  | vscanAddI32 | vscanMinI32 | vscanMaxI32 | vscanMinN32 | vscanMaxN32 | vscanFaddF32 | vscanFminF32 | vscanFmaxF32 =>
    exact issue_wf_of_mem (fun _ => by exact laneScan_mem ..) _ h
  | voteAny | voteAll | voteBallot | vfirst => exact issue_wf_of_mem (fun _ => by exact laneVote_mem ..) _ h
  | vld => exact issue_wf_of_mem (fun _ => by exact vldLit_mem ..) _ h
  | vlds => exact issue_wf_of_mem (fun _ => by exact vldsLit_mem ..) _ h
  | vst => exact issue_wf_of_mem (fun _ => by exact vstLit_mem ..) _ h
  | vatomAdd | vatomSub | vatomMinI | vatomMaxI | vatomMinN | vatomMaxN | vatomAnd | vatomOr | vatomXor | vatomXchg |
    vatomCas | vatomFadd | vatomFmin | vatomFmax | vatomAddBf16x2 | vredAdd | vredSub | vredMinI | vredMaxI | vredMinN
    | vredMaxN | vredAnd | vredOr | vredXor | vredFadd | vredFmin | vredFmax | vredAddBf16x2 =>
    exact issue_wf_of_mem (fun _ => by exact laneAtomic_mem ..) _ h
  | nop | scsel | mffNv | mffDz | mffOf | mffUf | mffNx | mffclr =>
    exact issue_wf_of_mem (fun _ => by exact groupBody_mem ..) _ h
  | sadd | ssub | saddsI64 | saddsN64 | ssubsI64 | ssubsN64 | smul | smulhI64 | smulhN64 | sdivI64 | sdivN64 | sremI64
    | sremN64 | sand | sor | sxor | sandn | sshl | sshr | ssra | srol | sminI64 | smaxI64 | sminN64 | smaxN64 | scmpEq
    | scmpNe | scmpLt | scmpLe | scmpGt | scmpGe | scmpLo | scmpLs | scmpHi | scmpHs | mand | mor | mxor | mandn =>
    exact issue_wf_of_mem (fun _ => by exact scalar2_mem ..) _ h
  | sabsI64 | sclz | spopc | sbrev | smov | mnot | mpopc | mffs | mfls =>
    exact issue_wf_of_mem (fun _ => by exact scalar1_mem ..) _ h
  | saddi => exact issue_wf_of_mem (fun _ => by exact saddiLit_mem ..) _ h
  | sandi => exact issue_wf_of_mem (fun _ => by exact sandiLit_mem ..) _ h
  | sori => exact issue_wf_of_mem (fun _ => by exact soriLit_mem ..) _ h
  | sxori => exact issue_wf_of_mem (fun _ => by exact sxoriLit_mem ..) _ h
  | sshli | sshri | ssrai => exact issue_wf_of_mem (fun _ => by exact scalarImm_mem ..) _ h
  | smovi => exact issue_wf_of_mem (fun _ => by exact smoviLit_mem ..) _ h
  | bz | bnz | bmz | bmnz => exact issue_wf_of_mem (fun _ => by exact branchOn_mem ..) _ h
  | jr | jalr => exact issue_wf_of_mem (fun _ => by exact jumpTo_mem ..) _ h
  | sld => exact issue_wf (fun _ hu => by exact sldLit_wf _ _ _ _ _ hu) _ h
  | slds => exact issue_wf (fun _ hu => by exact sldsLit_wf _ _ _ _ _ hu) _ h
  | sst => exact issue_wf (fun _ hu => by exact sstLit_wf _ _ _ _ _ hu) _ h
  | satomAdd | satomSub | satomMinI | satomMaxI | satomMinN | satomMaxN | satomAnd | satomOr | satomXor | satomXchg |
    satomCas | satomFadd | satomFmin | satomFmax | satomAddBf16x2 =>
    exact issue_wf_of_mem (fun _ => by exact scalarAtomic_mem ..) _ h
  | hflush | hinval => exact issue_wf_of_mem (fun _ => by exact hostSync_mem ..) _ h
  | sysr => exact issue_wf_of_mem (fun _ => by exact readSys_mem ..) _ h
  | sysw | srseedWrite | keyLoad | keyClear | measExtend | attestStart | pavQuotaWrite | fabLostClear | devLostClear =>
    exact issue_wf (fun _ hu => by exact writeSys_wf _ _ hu) _ h
  | tretResume | tretEndReturn | tretEndDiscard => exact issue_wf (fun _ hu => by exact tret_wf _ hu) _ h
  | segld => exact issue_wf (fun _ hu => by exact segldBody_wf _ _ _ hu) _ h
  | tlbinv => exact issue_wf_of_mem (fun _ => by exact tlbinvBody_mem ..) _ h
  | tlbsync => exact issue_wf_of_mem (fun _ => by exact tlbsyncBody_mem) _ h
  | ctxsave => exact issue_wf (fun _ hu => by exact ctxsaveBody_wf _ _ _ hu) _ h
  | ctxrest => exact issue_wf (fun _ hu => by exact ctxrestBody_wf _ _ _ hu) _ h
  | planLd => exact issue_wf (fun _ hu => by exact planLdBody_wf _ _ _ hu) _ h
  | cpy => exact issue_wf (fun _ hu => by exact cpyBody_wf _ _ _ _ _ hu) _ h
  | cpyMc => exact issue_wf (fun _ hu => by exact cpyMcBody_wf _ _ _ _ _ hu) _ h
  | cpyRow => exact issue_wf (fun _ hu => by exact cpyRowBody_wf _ _ _ _ hu) _ h
  | cpyClose => exact issue_wf (fun _ hu => by exact cpyCloseBody_wf _ _ hu) _ h
  | kwaitObj => exact issue_wf (fun _ hu => by exact kwaitObjBody_wf _ _ _ hu) _ h
  | preserve => exact issue_wf (fun _ hu => by exact preserveBody_wf _ _ _ hu) _ h
  | pclaim => exact issue_wf (fun _ hu => by exact pclaimBody_wf _ _ _ hu) _ h
  | pquery => exact issue_wf (fun _ hu => by exact pqueryBody_wf _ _ hu) _ h
  | sendw => exact issue_wf (fun _ hu => by exact sendwBody_wf _ _ _ hu) _ h
  | barArr => exact issue_wf (fun _ hu => by exact barArrBody_wf _ _ _ hu) _ h
  | abarArr => exact issue_wf (fun _ hu => by exact abarArrBody_wf _ _ hu) _ h
  | abarTest => exact issue_wf (fun _ hu => by exact abarTestBody_wf _ _ _ hu) _ h
  | pcommit => exact issue_wf (fun _ hu => by exact pcommitBody_wf _ hu) _ h
  | prelease => exact issue_wf (fun _ hu => by exact preleaseBody_wf _ hu) _ h
  | send => exact issue_wf (fun _ hu => by exact sendForm_wf _ _ _ hu) _ h
  | pportq => exact issue_wf_of_mem (fun _ => by exact pportqBody_mem ..) _ h
  | jen => exact issue_wf (fun _ hu => by exact jenBody_wf _ hu) _ h
  | jdis => exact issue_wf (fun _ hu => by exact jdisBody_wf _ hu) _ h
  | barWait => exact issue_wf (fun _ hu => by exact barWaitBody_wf _ _ _ hu) _ h
  | barArw => exact issue_wf (fun _ hu => by exact barArwBody_wf _ _ hu) _ h
  | abarWait => exact issue_wf (fun _ hu => by exact abarWaitBody_wf _ _ hu) _ h
  | mma | mmaSp => exact issue_wf (fun _ hu => by exact multiplyBody_wf _ _ _ _ _ hu) _ h
  | mzero => exact issue_wf (fun _ hu => by exact mzeroBody_wf _ hu) _ h
  | mrows => exact issue_wf (fun _ hu => by exact mrowsBody_wf _ hu) _ h
  | mldacc => exact issue_wf (fun _ hu => by exact mldaccBody_wf _ _ hu) _ h
  | mstacc => exact issue_wf (fun _ hu => by exact mstaccBody_wf _ _ _ hu) _ h
  | planGoStart | planGoDrainFinish | planGoDrainDiscard | planGoRemove =>
    exact issue_wf (fun _ hu => by exact planGo_wf _ _ _ hu) _ h
  | yield | br | call => exact issue_wf_of_mem (fun _ => rfl) _ h
  | loadResultReturn | storePerformed | retryHintExpiry | sliceRedirect | sliceRetire | sliceStubRemove |
    tlbsyncComplete | hostSyncPerformed | hostBelvedereWrite | hostBelvedereRead | atomicRequestAtHome | atomicReply |
    barrierWake | arborRelease | copyEntryStart | copyPiece | copyEntryComplete | kwaitObjWake | fenceEntryHead |
    multicastSort | multicastResort | multicastAck | holdingBufferDrain | bulkStreamClose | bulkStreamTimeout |
    pipeRefillStart | pipeRefillComplete | preserveUnblock | pipeHeadRise | messageAdmission | waiterAdmission |
    messageReturn | runQueueEntryFree | taskRecordEntry | sendwComplete | hostDoorbellWrite | hostDoorbellRead |
    faultEventAdmit | taskDispatch | taskStart | groupExitDrained | queueOverflow | queueUnderflow | priorityRecompute
    | preemptTick | rebalanceTick | coreMoveLoad | deadlockDetect | drainQuiescence | gangStateObserve | gangTimeout |
    flitReceive | idleFlit | retrainComplete | retrainLimitExpiry | retrainBucketDecay | forwardStallRelease |
    linkSilenceTimeout | fatalErrorNotice | portDownNotice | matrixCommandStart | operandFetchComplete | multiplyStart
    | multiplyComplete | mrowsRowEnter | mvmComplete | trapEntry | stepBlockTimeout | keyOpDone | measExtendDone |
    attestDone | pavQuotaDone | controlRegWrite | railEnable | railGood | railLimitExpiry | cpRun | cpHaltqRead |
    hbmInit | hbmInitDone | hbmTrain | hbmTrainDone | hbmTrainLimitExpiry | hbmServe | hbmMrGo | hbmMrDone | ucieTrain
    | ucieTrainDone | ucieTrainLimitExpiry | pcieTrain | pcieTrainDone | pcieTrainLimitExpiry | cxlEnable | ualTrain |
    ualTrainDone | ualTrainLimitExpiry | ualServe | arbTestGo | arbTestDone | coreTestGo | coreTestDone | orgTestGo |
    orgTestDone | flashProgram | flashWordStored | powerOn | powerCapCheck | dieOvertemp | powerLoss | granuleZeroed |
    hostWriteCombineDrain | memberLostNotice | sliceAdd =>
    exact event_wf (by simp [h]) h

theorem applyRep_wf_of_applyEff {m : Bool} (m' : Bool) (n i had : Nat) (e : Eff) (h : Memory.wf (applyEff m e).mem = true) :
    Memory.wf (applyRep m' n i had e).mem = true := by
  cases e with
  | ok s =>
    have hs : Memory.wf s.mem = true := by simpa [applyEff] using h
    unfold applyRep
    dsimp only
    split <;> simpa using hs
  | goto | fault | wait | gone | resume => simpa [applyRep, applyEff] using h

theorem wordFormat_ne_prefix {w : Word} {b : Body} (hb : bodyWord w = .ok b) {f : Format} (hf : f = .rep ∨ f = .limm) :
    wordFormat w ≠ some f := by
  intro hw
  have hw' : (if w.getLsbD 31 then groupFormat (w.extractLsb' 24 6).toNat else laneFormat (w.extractLsb' 24 6).toNat) =
      some f := hw
  dsimp only [bodyWord] at hb
  rw [hw'] at hb
  rcases hf with rfl | rfl <;> cases hb

/-- What a repeated body does it does as an instruction of its own, which keeps the memory canonical. -/
theorem bodyWord_wf {w : Word} {b : Body} (hb : bodyWord w = .ok b) (h : Memory.wf s.mem = true)
    (hs : s.groups.has s.cur = true) : Memory.wf (applyEff (w.getLsbD 30) (b s)).mem = true := by
  have ha := Laws.agrees_word w (wordFormat_ne_prefix hb (.inl rfl)) (wordFormat_ne_prefix hb (.inr rfl))
  rw [hb] at ha
  cases hd : decode w with
  | error e => rw [hd] at ha; exact ha.elim
  | ok i =>
    rw [hd] at ha
    obtain ⟨hi, hr⟩ := ha
    have hx := exec_wf_of_isRep i hr h
    rw [hi, issue, if_pos hs] at hx
    exact memOfNext_next.mp hx

theorem execRep_wf (n : BitVec 6) (d a b : BitVec 2) (h : Memory.wf s.mem = true) :
    MemOfNext (Memory.wf · = true) (execRep n d a b s) := by
  unfold execRep
  extract_lets
  split
  · exact memOfNext_fault
  split
  · exact State.fetchTarget_wf _ h
  split
  · exact memOfNext_next.mpr (applyEff_wf _ _ h)
  split
  · exact memOfNext_next.mpr (applyEff_wf _ _ h)
  next hb =>
    exact memOfNext_next.mpr (applyRep_wf_of_applyEff _ _ _ _ _ (bodyWord_wf hb (s := s.setMe _) h (by simp)))

theorem exec_wf (i : Instr) (h : Memory.wf s.mem = true) : MemOfNext (Memory.wf · = true) (exec i s) := by
  cases hi : Laws.isRep i with
  | false => exact exec_wf_of_isRep i hi h
  | true =>
    cases i with
    | rep n d a b => exact execRep_wf n d a b h
    | _ => cases hi

@[simp] theorem runWord_wf (w : Word) (h : Memory.wf s.mem = true) : MemOfNext (Memory.wf · = true) (runWord w s) := by
  have hi : MemOfNext (Memory.wf · = true) (issue false illegal s) := issue_wf_of_mem (fun _ => illegal_state ▸ rfl) false h
  unfold runWord
  dsimp only
  split
  · split
    · exact hi
    · exact execRep_wf _ _ _ _ h
  · split
    · exact hi
    · exact execLimm_wf _ h
  next hr hl =>
    split
    · next b hb =>
      split
      · exact hi
      have ha := Laws.agrees_word w hr hl
      rw [hb] at ha
      cases hd : decode w with
      | error e => rw [hd] at ha; exact ha.elim
      | ok i =>
        rw [hd] at ha
        obtain ⟨hx, -⟩ := ha
        rw [← hx s]
        exact exec_wf i h
    · exact hi

/-! The turns of the tape, and what moves when the tape is empty (log 1). -/

theorem State.issueNext_wf (gid : Nat) (held : List Nat) (h : Memory.wf s.mem = true) :
    MemOfNext (Memory.wf · = true) (s.issueNext gid held) := by
  unfold State.issueNext
  dsimp only
  split
  · exact runWord_wf _ (by simp [h])
  split
  · rw [memOfNext_next]
    exact State.takeTrap_wf _ _ (by simp [h])
  · exact runWord_wf _ (by simp [h])

theorem State.issueTurn_wf (gid : Nat) (held : List Nat) (h : Memory.wf s.mem = true) :
    MemOfNext (Memory.wf · = true) (s.issueTurn gid held) := by
  unfold State.issueTurn
  split
  · exact State.issueNext_wf _ _ h
  · exact memOfNext_next.mpr h

theorem State.turn_wf (x : Turn) (h : Memory.wf s.mem = true) : MemOfNext (Memory.wf · = true) (s.turn x) := by
  unfold State.turn
  split
  · exact memOfNext_next.mpr h
  cases x with
  | issue gid held => exact State.issueTurn_wf _ _ h
  | event e =>
    dsimp only
    split
    · exact exec_wf e h
    · exact memOfNext_next.mpr h
  | idle | tlbEvict | hostCacheDrop | eccStrike | mapAck | deviceBack | corrected => exact memOfNext_next.mpr (by simp [h])
  | hostCacheFill | hostWrite | remoteSwitch =>
    dsimp only
    split
    · exact memOfNext_next.mpr (by simp [h])
    · exact memOfNext_next.mpr h
  | _ => exact event_wf (by simp [h]) h

theorem State.autoLink_mem (h : P s.mem) : MemOfSome P s.autoLink := by
  unfold State.autoLink
  refine memOfSome_orElse ?_ (memOfSome_findSome? fun d => State.tryLostSent_mem d h)
  split
  · exact memOfSome_none
  · exact memOfSome_findSome? fun f => memOfSome_findSome? fun o => memOfSome_findSome? fun p => State.tryLaunch_mem f p o h

theorem State.autoModule_wf (h : Memory.wf s.mem = true) : MemOfSome (Memory.wf · = true) s.autoModule := by
  unfold State.autoModule
  with_reducible repeat' apply memOfSome_orElse
  on_goal 8 =>
    refine memOfSome_findSome? fun d => ?_
    with_reducible repeat' apply memOfSome_orElse
    all_goals simp [h]
  on_goal 7 => exact memOfSome_findSome? fun w => memOfSome_findSome? fun n => State.tryZeroed_wf _ _ h
  all_goals simp [h, State.autoLink_mem]

theorem State.autoDie_wf (d : Nat) (h : Memory.wf s.mem = true) : MemOfSome (Memory.wf · = true) (s.autoDie d) := by
  unfold State.autoDie
  with_reducible repeat' apply memOfSome_orElse
  all_goals simp [h]

theorem State.autoGroup_wf (gid : Nat) (h : Memory.wf s.mem = true) : MemOfSome (Memory.wf · = true) (s.autoGroup gid) := by
  unfold State.autoGroup
  with_reducible repeat' apply memOfSome_orElse
  on_goal 9 =>
    refine memOfSome_findSome? fun n => ?_
    split
    · exact State.tryDeliver_mem _ _ _ _ h
    · exact memOfSome_none
  all_goals simp [h]

theorem State.autoCluster_wf (cl : Nat) (h : Memory.wf s.mem = true) : MemOfSome (Memory.wf · = true) (s.autoCluster cl) := by
  unfold State.autoCluster
  refine memOfSome_findSome? fun n => ?_
  split
  · exact memOfSome_findSome? fun off => State.tryDrain_wf _ _ _ h
  · exact State.tryDrain_wf _ _ _ h

theorem State.autoQueue_wf (c q : Nat) (h : Memory.wf s.mem = true) : MemOfSome (Memory.wf · = true) (s.autoQueue c q) := by
  unfold State.autoQueue
  with_reducible repeat' apply memOfSome_orElse
  on_goal 8 =>
    split
    · exact memOfSome_findSome? fun i => State.tryCastAck_wf _ _ _ h
    · exact memOfSome_none
  all_goals simp [h]

theorem State.autoCore_wf (c : Nat) (h : Memory.wf s.mem = true) : MemOfSome (Memory.wf · = true) (s.autoCore c) := by
  unfold State.autoCore
  with_reducible repeat' apply memOfSome_orElse
  · exact memOfSome_findSome? fun q => State.autoQueue_wf _ _ h
  all_goals simp [h]

theorem State.autoTask_wf (t : Nat) (h : Memory.wf s.mem = true) : MemOfSome (Memory.wf · = true) (s.autoTask t) := by
  unfold State.autoTask
  with_reducible repeat' apply memOfSome_orElse
  on_goal 3 => exact memOfSome_findSome? fun c => memOfSome_findSome? fun k => State.tryMatrixPiece_mem _ _ _ _ h
  all_goals simp [h]

theorem State.autoMvm_wf (op : Nat) (h : Memory.wf s.mem = true) : MemOfSome (Memory.wf · = true) (s.autoMvm op) := by
  unfold State.autoMvm
  refine memOfSome_orElse ?_ (State.tryMvmComplete_mem op h)
  split
  · exact memOfSome_none
  · exact memOfSome_findSome? fun x => memOfSome_bind fun r => State.tryMvmPiece_wf _ _ _ h

theorem State.autoPlan_wf (plan : Nat) (p : Plan) (h : Memory.wf s.mem = true) :
    MemOfSome (Memory.wf · = true) (s.autoPlan plan p) := by
  unfold State.autoPlan
  with_reducible repeat' apply memOfSome_orElse
  on_goal 3 =>
    refine memOfSome_findSome? fun n => ?_
    with_reducible repeat' apply memOfSome_orElse
    on_goal 2 =>
      split
      · exact State.refillTurn_wf _ _ _ _ h
      · exact memOfSome_none
    all_goals simp [h]
  all_goals simp [h]

theorem State.autoUnit_wf (h : Memory.wf s.mem = true) : MemOfSome (Memory.wf · = true) s.autoUnit := by
  unfold State.autoUnit
  with_reducible repeat' apply memOfSome_orElse
  · exact State.autoModule_wf h
  · exact memOfSome_findSome? fun x => State.autoDie_wf x h
  · exact memOfSome_findSome? fun x => State.autoGroup_wf x h
  · exact memOfSome_findSome? fun x => State.autoCluster_wf x h
  · exact memOfSome_findSome? fun x => State.autoCore_wf x h
  · exact memOfSome_findSome? fun x => State.autoTask_wf x h
  · exact memOfSome_findSome? fun x => State.autoMvm_wf x h
  · exact memOfSome_findSome? fun p => State.autoPlan_wf p.1 p.2 h

theorem State.auto_wf (h : Memory.wf s.mem = true) : MemOfNext (Memory.wf · = true) s.auto := by
  unfold State.auto
  split
  · next hu => exact memOfNext_next.mpr (State.autoUnit_wf h _ hu)
  split
  · exact State.issueNext_wf _ _ h
  · exact event_wf (State.tryCombineDrain_wf _ h) h

theorem State.move_wf (h : Memory.wf s.mem = true) : MemOfNext (Memory.wf · = true) s.move := by
  unfold State.move
  split
  · exact State.turn_wf _ h
  · exact State.auto_wf h

theorem step_wf (h : Memory.wf s.mem = true) : MemOfNext (Memory.wf · = true) (step s) := by
  intro t ht
  unfold step at ht
  cases hm : s.move with
  | next u =>
    rw [hm] at ht
    cases ht
    exact State.tick_wf (State.move_wf h u hm)
  | fault f => rw [hm] at ht; cases ht
  | refused r => rw [hm] at ht; cases ht

end Sys2Proof.Machine

/-! The memory of the machine stays canonical (R160, log 2). -/

namespace Sys2Proof.Proofs

open Sys2Proof.Machine

/-- Settles O7: what moves keeps the memory canonical (`State.move_wf`: a turn of the tape, or what moves by itself), and
so does the cycle's end (`State.tick_wf`). -/
theorem stepsKeepMemoryCanonical : Obligations.StepsKeepMemoryCanonical := by
  unfold Obligations.StepsKeepMemoryCanonical
  exact fun _ t h ht => step_wf h t ht

end Sys2Proof.Proofs
